-- ==== Sys2Proof/Word.lean ====
section
/-! DEFINITION. Word.lean: bytes, bit fields, big-endian packing and sparse tables.
Numbers that the drive only counts, compares or adds are `Nat`; their widths are checked by `Instr.wf`. -/

namespace Sys2Proof

/-- One byte on the wire, on media or in a payload. -/
abbrev Byte := BitVec 8

/-- A string of bytes (a key, a value, a payload). -/
abbrev Bytes := List Byte

/-- A sparse table: pairs (index, entry), indices strictly rising; an index not listed holds the table's default. -/
abbrev Tbl (α : Type) := List (Nat × α)

/-- The entry at index `k`, if one is listed. -/
def tget? {α : Type} (k : Nat) : Tbl α → Option α
  | [] => none
  | (i, a) :: t => if i = k then some a else tget? k t

/-- The entry at index `k`, or the default `z`. -/
def tgetD {α : Type} (k : Nat) (z : α) (t : Tbl α) : α := (tget? k t).getD z

/-- The table with `a` at index `k`. -/
def tput {α : Type} (k : Nat) (a : α) : Tbl α → Tbl α
  | [] => [(k, a)]
  | (i, b) :: t =>
    if i = k then (k, a) :: t
    else if k < i then (k, a) :: (i, b) :: t
    else (i, b) :: tput k a t

/-- The table with nothing listed at index `k`. -/
def tdel {α : Type} (k : Nat) (t : Tbl α) : Tbl α := t.filter (fun p => p.1 ≠ k)

/-- The table with the entry at `k` (or the default) changed by `f`. -/
def tmod {α : Type} (k : Nat) (z : α) (f : α → α) (t : Tbl α) : Tbl α := tput k (f (tgetD k z t)) t

/-- The low `w` bits of `n`. -/
def low (w n : Nat) : Nat := n % 2 ^ w

/-- Bits [hi:lo] of `n` (R14: bit 0 is the least significant). -/
def bits (hi lo n : Nat) : Nat := n / 2 ^ lo % 2 ^ (hi + 1 - lo)

/-- Bit `i` of `n`. -/
def bit (i n : Nat) : Bool := n / 2 ^ i % 2 == 1

/-- 1 for true, 0 for false. -/
def b2n (b : Bool) : Nat := if b then 1 else 0

/-- `n` with bit `i` set. -/
def setBit (i n : Nat) : Nat := if bit i n then n else n + 2 ^ i

/-- `n` with bit `i` clear. -/
def clrBit (i n : Nat) : Nat := if bit i n then n - 2 ^ i else n

/-- A counter of `w` bits that stops at its maximum. -/
def satAdd (w a b : Nat) : Nat := min (a + b) (2 ^ w - 1)

/-- `n` in `k` bytes, most significant first (R13). -/
def beBytes : Nat → Nat → Bytes
  | 0, _ => []
  | k + 1, n => BitVec.ofNat 8 (n / 2 ^ (8 * k)) :: beBytes k n

/-- The number a big-endian byte string spells (R13). -/
def beNat (b : Bytes) : Nat := b.foldl (fun a x => a * 256 + x.toNat) 0

/-- `len` bytes of `b` from offset `off`. -/
def slice (off len : Nat) (b : Bytes) : Bytes := (b.drop off).take len

/-- The number spelled by `len` bytes of `b` from offset `off`. -/
def field (off len : Nat) (b : Bytes) : Nat := beNat (slice off len b)

/-- `n` rounded up to a multiple of `k`. -/
def roundUp (k n : Nat) : Nat := (n + k - 1) / k * k

/-- `b` followed by zero bytes up to a multiple of 8. -/
def pad8 (b : Bytes) : Bytes := b ++ List.replicate (roundUp 8 b.length - b.length) 0

/-- ⌈a / b⌉. -/
def ceilDiv (a b : Nat) : Nat := (a + b - 1) / b

/-- The first failing check of an ordered list: (the check passes, the status when it fails). -/
def firstFail : List (Bool × Nat) → Option Nat
  | [] => none
  | (ok, st) :: r => if ok then firstFail r else some st

end Sys2Proof
end

