-- ==== Sys2Proof/Config.lean ====
section
/-! DEFINITION. Config.lean: what the spec leaves to the drive or to chance. Every `opaque` here is a FREE VALUE: nothing
can evaluate it, so a claim holds whatever it is. -/

namespace Sys2Proof.Config

/-- A key: a number that came from outside, a draw of the DRBG, or a key derived from another (Table 7.2, R383).
Ideal keys: two key terms are the same key exactly when they are equal (log entry 3). -/
inductive Key where
  | raw (n : Nat)
  | drawn (n : Nat)
  | derived (parent : Key) (label : Nat) (context : Nat)
deriving DecidableEq, Repr

/-- AES-256-CMAC under a key over bytes (R161, R177, R609, R639): 128 bits, a free value. -/
opaque cmac : Key → Bytes → Nat

/-- Byte `i` of the AES-256-CTR key stream of GCM under a key and a 96-bit nonce (R207): a free value. -/
opaque keystream : Key → Nat → Nat → BitVec 8

/-- The 128-bit GCM tag under a key and a nonce over additional data and a plaintext (R207): a free value. -/
opaque gcmTag : Key → Nat → Bytes → Bytes → Nat

/-- The 480 bytes of LDPC parity of a codeword's protected bytes, as a number (R202): a free value. -/
opaque ldpcParity : Bytes → Nat

/-- The root that the security core reconstructs from the PUF (R362): a free value. -/
opaque root : Nat

/-- The `n`-th block of the DRBG's output (R411): a free value. -/
opaque random : Nat → Nat

/-- A hash of bytes (SHA-384), a free value of 384 bits. -/
opaque hash : Bytes → Nat

/-- Any other value the spec leaves open: the `n`-th draw of the model's counter `State.dev.free`. -/
opaque freeValue : Nat → Nat

/-- The PLDM component identifier under which recovery boot takes an option area (R717); Table 17.5 gives it none: a free value. -/
opaque areaComponent : Nat

/-- Hash of the Ezulno factory option-image key held in the boot ROM (R723): a free value. -/
opaque factoryKeyHash : Nat

end Sys2Proof.Config
end

