-- ==== Sys2Proof/Types.lean ====
section
/-! DEFINITION. Types.lean: the structures that travel between commands and state: work tags, operation headers, records,
twin and ring message bodies. -/

namespace Sys2Proof

/-- A work tag (R7, Table 0.3). -/
structure WorkTag where
  tenant : Nat := 0
  ns : Nat := 0
  session : Nat := 0
  keySlot : Nat := 0
  deadline : Nat := 0
  durability : Nat := 0
  qos : Nat := 0
  kind : Nat := 0
  chunk : Nat := 0
  last : Bool := false
  twin : Bool := false
  waitable : Bool := false
  mark : Bool := false
deriving DecidableEq, Repr

/-- The 64-byte operation header of a request or a reply (Tables 1.1 and 1.3). -/
structure OpHdr where
  opcode : Nat := 0
  flags : Nat := 0
  status : Nat := 0
  rid : Nat := 0
  tenant : Nat := 0
  ns : Nat := 0
  qos : Nat := 0
  durability : Nat := 0
  tolerance : Nat := 0
  deadline : Nat := 0
  keyLen : Nat := 0
  valueLen : Nat := 0
  offset : Nat := 0
  condVersion : Nat := 0
  txn : Nat := 0
deriving DecidableEq, Repr

/-- Where a request came from, which is also its name in the drive: a session and its request_id; a sideband exchange;
a relayed ring request; an operation of the twin (its op_id). -/
inductive Origin where
  | session (sid rid : Nat)
  | sideband (channel exchange : Nat)
  | ring (pos seq : Nat)
  | twin (opId : Nat)
deriving DecidableEq, Repr

/-- Whether a request came on a session. -/
def Origin.ofSession (sid : Nat) : Origin → Bool
  | .session s _ => s == sid
  | _ => false

/-- The management channel a request came on: 0 the sideband, 1 session 0 and relayed operations (R805). -/
def Origin.channel : Origin → Nat
  | .sideband _ _ => 0
  | _ => 1

/-- A sealed record (R205, Table 4.5). Its key and value are held in clear beside what they are sealed under:
the tenant's storage key (`tenant`, `serial`), the namespace generation and the nonce counter. -/
structure Rec where
  ns : Nat
  tenant : Nat
  key : Bytes
  value : Bytes
  version : Nat
  gen : Nat
  serial : Nat
  nonce : Nat
  /-- the namespace key that its key and chunks are sealed under (R207, Table 7.9) -/
  sealedBy : Config.Key := .raw 0
  located : Bool := false
  deletion : Bool := false
  repaired : Bool := false
deriving DecidableEq, Repr

/-- A place of a record: a write-shelf index, or a physical locator (Table 3.7). -/
inductive Place where
  | shelf (idx : Nat)
  | media (sb gran : Nat)
deriving DecidableEq, Repr

/-- One member of a batch (Table 2.4) with its key and value. -/
structure Member where
  op : Nat
  flags : Nat
  ns : Nat
  key : Bytes
  keyLen : Nat
  value : Bytes
  valueLen : Nat
  condVersion : Nat
deriving DecidableEq, Repr

/-- One member's result (Table 2.7). -/
structure MemberResult where
  status : Nat := 0
  twinHomed : Bool := false
  applied : Bool := false
  version : Nat := 0
deriving DecidableEq, Repr

/-- A change of the pair-wide tables carried by TABLE_CHANGE (R140, R378, R381). -/
inductive TableChange where
  | tenantCreate (t : Nat)
  | tenantDelete (t : Nat)
  | nsCreate (ns owner : Nat) (located solo soloWrites : Bool) (gen quota : Nat)
  | nsDelete (ns : Nat)
  | nsQuota (ns quota : Nat)
  | nsSoloWrites (ns : Nat) (on : Bool)
  | nsRaise (ns gen floor : Nat) (sanitise : Bool)
  | nsModify (ns : Nat) (quota : Option Nat) (soloWrites : Option Bool) (gen : Option Nat) (floor : Nat)
  | keyErase (selector tenant : Nat)
  | wrapKey (tenant : Nat) (key : Config.Key)
  | storageKey (tenant serial : Nat) (key : Config.Key)
  | recordsZero (tenant serial : Nat)
deriving DecidableEq, Repr

/-- A change of the tenant or namespace table, which a drive's tables carry; the others change keys. -/
def TableChange.ofTables : TableChange → Bool
  | .keyErase _ _ | .wrapKey _ _ | .storageKey _ _ _ | .recordsZero _ _ => false
  | _ => true

/-- A row of the namespace table as a resync carries it (R338). -/
structure NsRow where
  ns : Nat
  state : Nat
  owner : Nat
  located : Bool
  solo : Bool
  soloWrites : Bool
  gen : Nat
  topGen : Nat
  quota : Nat
  floor : Nat
deriving DecidableEq, Repr

/-- The tenant and namespace tables of a drive (R140, R338). -/
structure PairTables where
  tenants : List Nat
  rows : List NsRow
deriving DecidableEq, Repr

/-- A live-record count of a PREVIOUS storage slot, as HELLO reports it (R378). -/
structure SlotCount where
  tenant : Nat
  serial : Nat
  count : Nat
deriving DecidableEq, Repr

/-- The body of HELLO (Table 6.5). -/
structure HelloBody where
  pairId : Nat
  younger : Bool
  epoch : Nat
  state : Nat
  tick : Nat
  resyncPoint : Option Nat
  counts : List SlotCount
deriving DecidableEq, Repr

/-- A storage slot as TWIN_ADOPT sends it: key, serial and state, the reservation in the sender's range, and the greatest value recorded of
the other range (R394, R417). -/
structure SentSlot where
  slot : Nat
  state : Nat
  serial : Nat
  key : Config.Key
  reserved : Nat
  otherHigh : Nat
deriving DecidableEq, Repr

/-- What TWIN_ADOPT sends to the adoptee (R417), with the serial of the adopting drive, the adoptee's role (R289), and whether a full resync
follows (R341). -/
structure Adoption where
  serial : Nat
  younger : Bool
  directoryKey : Config.Key
  pairId : Nat
  keks : List (Nat × Config.Key)
  wraps : List (Nat × Config.Key)
  slots : List SentSlot
  resync : Bool
deriving DecidableEq, Repr

/-- The body of a twin message (Table 6.5). -/
inductive TwinBody where
  | none
  | write (tag : WorkTag) (hdr : OpHdr) (body : Bytes)
  | reply (hdr : OpHdr) (body : Bytes)
  | prepare (tag : WorkTag) (hdr : OpHdr) (body : Bytes) (seals : List (Nat × Nat))
  | data (chunk : Nat) (bytes : Bytes)
  | mirror (recs : List Rec)
  | outcomes (rs : List MemberResult)
  | heartbeat (tick lastSeq lastAt lOwn : Nat)
  | amounts (granules entries : Nat)
  | fetch (ns tag version chunk : Nat)
  | chunk (bytes : Option Bytes)
  | table (c : TableChange)
  | hello (h : HelloBody)
  /-- RESYNC_DATA: records and deletions; in a full resync the list of live keys; the tables; the counter high-waters, by the
  counter ids of Table 5.6 (R338) -/
  | resync (recs : List Rec) (live : Option (List (Nat × Bytes))) (tables : Option PairTables) (counters : List (Nat × Nat))
deriving DecidableEq, Repr

/-- A twin message (Tables 6.4 and 6.5). -/
structure TwinMsg where
  code : Nat
  flags : Nat := 0
  opId : Nat := 0
  version : Nat := 0
  aux : Nat := 0
  body : TwinBody := .none
deriving DecidableEq, Repr

/-- A key blob (R369, Tables 7.2 and 7.3). `wrappedUnder` is the key it was wrapped under: unwrapping under another key fails
the AES-KW integrity check (log entry 3). -/
structure Blob where
  length : Nat := 88
  kind : Nat
  format : Nat := 1
  tenant : Nat
  serial : Nat := 0
  wrapper : Nat := 0
  reserved : Nat := 0
  wrappedUnder : Config.Key
  headerCopyOk : Bool := true
  key : Config.Key
  saltH2d : Nat := 0
  saltD2h : Nat := 0
  tailZero : Bool := true
deriving DecidableEq, Repr

/-- Session parameters (Table 8.7). -/
structure SessionParams where
  tolerance : Nat := 65535
  idle : Nat := 0
  maxFrame : Nat := 0
  paths : Nat := 1
deriving DecidableEq, Repr

/-- A station a path is addressed to (R464, R494): MAC address, VLAN, IP address, UDP port; and the drive's own address it used. -/
structure Peer where
  mac : Nat := 0
  vid : Nat := 0
  v6 : Bool := false
  ip : Nat := 0
  udp : Nat := 0
  own : Nat := 0
deriving DecidableEq, Repr

/-- The IP header of a packet the drive sends, and whether its UDP checksum is computed (none: not UDP). `dscp` is none where the spec
states no marking (R497). -/
structure IpSent where
  v6 : Bool
  dscp : Option Nat
  ecn : Nat
  df : Bool
  ttl : Nat
  optionBytes : Nat
  extensionBytes : Nat
  udpSum : Option Bool
deriving DecidableEq, Repr

/-- A GKP frame (R419, Table 8.2) as it arrives on a host port. `sealedUnder` is the traffic key (or, for OPEN, the open key) its tag
was made with; `assigned` is the session Privet's action assigned to it. -/
structure Frame where
  /-- 0 port A, 1 port B -/
  path : Nat := 0
  version : Nat := 1
  /-- Table 8.1: 1 DATA, 2 ACK, 3 OPEN, 4 OPEN_REPLY -/
  ftype : Nat := 1
  first : Bool := false
  last : Bool := false
  keyPhase : Nat := 0
  ackNow : Bool := false
  headerLen : Nat := 40
  sid : Nat := 0
  assigned : Nat := 0
  seq : Nat := 0
  ack : Nat := 0
  window : Nat := 0
  ceCount : Nat := 0
  /-- arrived with CE set -/
  ce : Bool := false
  size : Nat := 0
  sealedUnder : Config.Key := .raw 0
  op : OpHdr := {}
  /-- continuation header: request_id of the message -/
  rid : Nat := 0
  payload : Bytes := []
  /-- ACK payload: ack_delay and ranges (Table 8.9) -/
  ackDelay : Nat := 0
  ranges : List (Nat × Nat) := []
  /-- the station it came from -/
  source : Peer := {}
  /-- its receive timestamp in ns of operating time, which the drive takes from the completion entry (R37, Table 9.7) -/
  rxAt : Nat := 0
deriving DecidableEq, Repr

/-- A ring frame passing through (Table 6.13). -/
structure RingFrame where
  code : Nat
  dest : Nat := 0
  broadcast : Bool := false
  src : Nat
  hops : Nat := 31
  cls : Nat
  seq : Nat := 0
  /-- the side it arrived on -/
  east : Bool
deriving DecidableEq, Repr

/-- A request waiting for a pair (R406). -/
structure HollyReq where
  tag : WorkTag
  origin : Option Origin := none
  /-- Table 7.12: 0 seal record, 1 open chunk, 2 open frame, 3 seal frame, 4 CMAC, 5 KW unwrap, 6 compatibility open -/
  use : Nat
  arrival : Nat := 0
  /-- the pair that must not take it (a reseal after a fault) -/
  notPair : Option Nat := none
deriving DecidableEq, Repr

/-- The forward error correction of what a port received since its last frame (Table 9.8): codewords, corrected ones, uncorrectable
ones, PCS blocks in error, and symbols corrected on each lane. -/
structure Fec where
  total : Nat := 0
  corrected : Nat := 0
  uncorrectable : Nat := 0
  pcsBlocks : Nat := 0
  lanes : List Nat := []
deriving DecidableEq, Repr

/-- An Ethernet frame as a port receives it: what the steps of Table 9.6 and Privet's parser read of it. -/
structure Ether where
  /-- 0 A, 1 B, 2 twin, 3 east, 4 west -/
  port : Nat
  /-- bytes from the destination address to the FCS, any tag included -/
  length : Nat
  pcsError : Bool := false
  fcsOk : Bool := true
  /-- the EtherType after any tag -/
  etherType : Nat
  /-- destination, first transmitted byte most significant -/
  dest : Nat
  /-- carries one 802.1Q tag, of this VID; carries a second tag or a 0x88A8 tag -/
  tagged : Bool := false
  vid : Nat := 0
  extraTag : Bool := false
  /-- IP: version and lengths are valid; the IPv4 header checksum is; a UDP checksum that is not zero is, none: it is zero (R496) -/
  ipForm : Bool := true
  ipSum : Bool := true
  udpSum : Option Bool := some true
  /-- fragment; options; extension header -/
  fragment : Bool := false
  ipOptions : Bool := false
  ipExt : Bool := false
  ipSrc : Nat := 0
  ipDst : Nat := 0
  dscp : Nat := 0
  ecn : Nat := 0
  /-- IP protocol or next header -/
  proto : Nat := 0
  udpSrc : Nat := 0
  udpDst : Nat := 0
  icmpType : Nat := 0
  /-- GKP header: session_id, version_type's type, flags, header_length; the operation header of a FIRST frame -/
  sid : Nat := 0
  gkpType : Nat := 0
  xportFlags : Nat := 0
  headerLen : Nat := 0
  op : OpHdr := {}
  /-- PTP event message -/
  ptpEvent : Bool := false
  /-- its first 2,048 bytes -/
  bytes : Bytes := []
  fec : Fec := {}
  /-- cells of its port's share that earlier frames still hold at its first byte (log entry 15) -/
  cellsHeld : Nat := 0
deriving DecidableEq, Repr

/-- An IP frame; an IPv6 one. -/
def Ether.isIp (f : Ether) : Bool := f.etherType == 0x0800 || f.etherType == 0x86DD
def Ether.v6 (f : Ether) : Bool := f.etherType == 0x86DD

/-- Step 10 of Table 9.6: version, lengths and checksums. The UDP checksum is checked in every IPv6 packet, and in an IPv4 packet where it
is not zero (R496). -/
def Ether.ipOk (f : Ether) : Bool :=
  f.ipForm && (f.v6 || f.ipSum) && (f.proto != 17 || (match f.udpSum with | some ok => ok | none => !f.v6))

/-- The VLAN id a frame counts under: 0 untagged or priority-tagged. -/
def Ether.keyVid (f : Ether) : Nat := if f.tagged then f.vid else 0

/-- An ARP frame that firmware reads (R499). -/
structure ArpFrame where
  port : Nat
  vid : Nat := 0
  request : Bool
  senderMac : Nat
  senderIp : Nat
  targetIp : Nat
deriving DecidableEq, Repr

/-- A neighbour discovery frame (R499). kind: ICMPv6 type 133 to 137; `prefix_`: the prefix of an advertisement, its 64 upper bits. -/
structure NdFrame where
  port : Nat
  vid : Nat := 0
  kind : Nat
  sourceMac : Nat
  source : Nat
  target : Nat := 0
  prefix_ : Option Nat := none
deriving DecidableEq, Repr

/-- A DHCP message to the client (R499): 0 offer (or advertise), 1 acknowledgement (or reply), 2 refusal. -/
structure DhcpMsg where
  port : Nat
  vid : Nat := 0
  v6 : Bool
  kind : Nat
  address : Nat := 0
  prefix_ : Nat := 0
  leaseS : Nat := 0
deriving DecidableEq, Repr

/-- A vendor-defined request on the sideband, by the maintenance service it belongs to (Table 12.8): of MEDIA_DIAG a raw read of a page, by
superblock, channel and page index, or a read-level sweep of one; DIAG_READ's data; of TRACE the work tags of the requests held, the ring
descriptors of a session (Table 8.10), or the completion entries of a receive ring (Table 9.7). -/
inductive VendorReq where
  | rawPage (sb channel index : Nat)
  | sweep (sb channel index : Nat)
  | diag
  | traceTags
  | traceRing (sid : Nat)
  | traceEntries (port ring : Nat)
  | other
deriving DecidableEq, Repr

/-- A PTP message as firmware reads it (R585). kind: PTP messageType (1 Delay_Req, 2 Pdelay_Req, 8 Follow_Up, 11 Announce).
Of an Announce: what the best master clock algorithm of IEEE 1588-2019 makes of the port (`slave`, `master`) and the ring grandmaster it
elects. Of a Follow_Up: the offset θ the exchange measures, and whether it lies within 1 µs of the servo's prediction. -/
structure PtpMsg where
  port : Nat
  vid : Nat := 0
  kind : Nat
  seq : Nat := 0
  domain : Nat := 0
  slave : Bool := false
  master : Bool := false
  ringMaster : Option Nat := none
  theta : Int := 0
  predicted : Bool := true
  utcOffset : Int := 0
  leap61 : Bool := false
  leap59 : Bool := false
deriving DecidableEq, Repr

/-- What the attempts to decode a codeword come to (R222). -/
structure Cw where
  /-- the hard decode finds nothing to correct; it corrects what it finds -/
  clean : Bool := true
  hard : Bool := true
  /-- the first of the seven read retries that is hard-decoded, 0 for none -/
  retry : Nat := 0
  soft : Bool := false
  /-- of a patrol read: the rebuild from stripe parity succeeds -/
  parity : Bool := false
  /-- of a patrol read: the hard decode corrects more than 60 % of what it can (R260) -/
  weak : Bool := false
deriving DecidableEq, Repr

/-- The step of R222 that corrects a codeword, steps 1 to 3 of it; 4 when none of them does. -/
def Cw.step (c : Cw) : Nat := if c.hard then 1 else if 1 ≤ c.retry ∧ c.retry ≤ 7 then 2 else if c.soft then 3 else 4

/-- What became of the codewords of a read (R222): how many were read, how many each step corrected, and how many none did. -/
structure EccResult where
  read : Nat := 0
  corrected : Nat := 0
  retried : Nat := 0
  soft : Nat := 0
  parity : Nat := 0
  uncorrectable : Nat := 0
deriving DecidableEq, Repr

/-- A cutting of an option image (R719, Table 14.8), its value unpacked. -/
inductive Cutting where
  | identity (name : Bytes)
  | gkp (port : Nat)
  | port (port medium speeds stats : Nat)
  /-- the entry is the 40 bytes of Table 9.3 -/
  | iface (port vid : Nat) (entry : Bytes)
  | privetLayout (widths spacing : Nat)
  /-- (metadata, match, mask) of each entry, match and mask of 160 w bits -/
  | privetEntries (bank : Nat) (entries : List (Nat × Nat × Nat))
  | privetActions (actions : List (Nat × Nat))
  | privetDefaults (a b mask : Nat)
  /-- (policer, frames per second, bytes per second) -/
  | privetPolicers (policers : List (Nat × Nat × Nat))
  | sprig (priority domain priority1 priority2 : Nat)
  | ptpPort (port role delay transport : Nat) (logSync logAnnounce logDelay : Int)
  | twin (sidebandWitness : Bool)
  | security (approvedOnly : Bool) (rootHash : Nat)
  | rollover (hash : Nat)
  /-- the named code key, the key its signature verifies under (none: under none), as R734 asks -/
  | revocation (index : Nat) (signedUnder : Option Nat)
  | attr (writes : List (Nat × Nat))
  /-- a type outside Table 14.8 -/
  | unknown (type : Nat) (critical : Bool)
deriving DecidableEq, Repr

/-- A region descriptor of the option area (Table 14.6). `isSigned`: the region holds a signed image. -/
structure Region where
  id : Nat
  isSigned : Bool
  address : Nat
  length : Nat
deriving DecidableEq, Repr

/-- The option area (Table 14.5); its reserved fields and unused descriptors are zero. -/
structure OptArea where
  magic : Nat
  format : Nat
  regionCount : Nat
  readMode : Nat
  clock : Nat
  dummyCycles : Nat
  readFlags : Nat
  regions : List Region
  crc : Nat
deriving DecidableEq, Repr

/-- The regions of Table 14.2. -/
def regionTable : List Region :=
  [⟨0x1, false, 0x0, 0x10000⟩, ⟨0x2, true, 0x10000, 0x80000⟩, ⟨0x3, true, 0x90000, 0x100000⟩, ⟨0x4, true, 0x190000, 0x200000⟩,
   ⟨0x5, false, 0x390000, 0x10000⟩, ⟨0x6, true, 0x400000, 0x1600000⟩, ⟨0x7, true, 0x2000000, 0x1600000⟩, ⟨0x8, true, 0x3600000, 0x200000⟩,
   ⟨0x9, true, 0x3800000, 0x200000⟩, ⟨0xA, false, 0x3A00000, 0x200000⟩, ⟨0xB, false, 0x3C00000, 0x200000⟩, ⟨0xC, false, 0x3E00000, 0x40000⟩,
   ⟨0xD, false, 0x3E40000, 0x40000⟩, ⟨0xE, false, 0x3E80000, 0x100000⟩, ⟨0xF, false, 0x3F80000, 0x10000⟩, ⟨0x10, false, 0x3F90000, 0x10000⟩]

/-- The option area a drive leaves manufacture with: Table 14.2's regions, continuous 8D-8D-8D reads at 200 MHz with the data strobe
(Table 14.1); the dummy cycles are R716's (DESIGN CHOICE, log entry 79). Its crc is that of its bytes. -/
def factoryArea : OptArea :=
  { magic := 0x52474F41, format := 1, regionCount := 16, readMode := 1, clock := 200, dummyCycles := 20, readFlags := 3, regions := regionTable,
    crc := 0x475C9E09 }

/-- A component image (Tables 12.11, 14.7, 17.5), as its verification finds it (log entry 3). `component`: 1 firmware, 2 boot loader,
3 recovery loader, 4 sideband controller code, 16 option image. -/
structure Image where
  component : Nat := 1
  /-- the signature verifies under the image's own key -/
  sigOk : Bool := true
  /-- a code image: the code-signing key index 0 to 3; an option image: the SHA-384 hash of its signer's key -/
  signer : Nat := 0
  svn : Nat := 0
  /-- firmware: version and the lowest running version it may roll from (R842) -/
  version : Nat := 0
  rollFloor : Nat := 0
  digest : Nat := 0
  generation : Nat := 0
  fuseSvn : Bool := false
  /-- lengths and encodings are within Tables 14.7 and 14.8 (R721) -/
  formOk : Bool := true
  cuttings : List Cutting := []
  /-- of an option area sent to recovery boot (R717): what it holds -/
  area : Option OptArea := none
deriving DecidableEq, Repr

/-- How a PWRDIS shutdown ends (Table 13.10): complete, or stopped by a power failure or by MRST_N. -/
inductive ShutdownEnd where
  | complete
  | powerFail
  | mainReset
deriving DecidableEq, Repr

/-- What a start meets (Table 14.10): what the pins give, what verifies and what the tests find. -/
structure StartUp where
  /-- since the main rails went off, 12 V has been removed and applied again, or PWRDIS raised and released (R769) -/
  cycled : Bool := true
  /-- composite temperature at step 4, in 0.25 °C (R769) -/
  composite : Int := 0
  /-- SLOT_ID straps; TWIN_PRSNT_N low -/
  slotId : Nat := 0
  partner : Bool := false
  /-- the option area is accepted (R716) -/
  areaOk : Bool := true
  /-- images that no longer verify: (component, slot); slot 0 for a loader -/
  bad : List (Nat × Nat) := []
  /-- power-on tests 3 to 9 that fail, pairs that fail test 10 (Table 12.6) -/
  fails : List Nat := []
  pairFails : List Nat := []
  /-- the flush record verifies (R281); the checkpoint can be used (R280); the forwarding table image verifies (R285) -/
  flushOk : Bool := true
  checkpointOk : Bool := true
  fwdOk : Bool := true
  /-- records beyond the scanned end of an open superblock (R279): superblock and granule -/
  torn : List (Nat × Nat) := []
  /-- vault entries that fail their check in copy 1 and in copy 2 (R365) -/
  vaultBad1 : List Nat := []
  vaultBad2 : List Nat := []
  /-- hold-up measurement: energy in mJ, group 6 reading in 0.25 °C -/
  holdupMj : Nat := 4400
  temp : Int := 100
deriving DecidableEq, Repr

/-- What a step of a job finds: whether what it ran passed or verified, records opened from a package (and whether they are the last), what
a patrol read decoded, and records that no ladder step recovers. -/
structure StepIn where
  ok : Bool := true
  recs : List Rec := []
  last : Bool := false
  /-- a patrol read's codewords that are not clean -/
  cws : List Cw := []
  bad : List Nat := []
deriving DecidableEq, Repr

/-- A migration control message (Table 6.14; log entry 21). -/
inductive MigrateCtl where
  /-- the source asks: owner, quota, solo, solo writes, storage serial, position of the destination's younger -/
  | start (owner quota : Nat) (solo soloWrites : Bool) (serial younger : Nat)
  /-- the destination's generation, or why it refuses -/
  | ready (gen : Nat)
  | refused (status : Nat)
  /-- everything has been sent; everything is held -/
  | finish
  | finished
  | abort
deriving DecidableEq, Repr

/-- Activity of a tenant in one tick, as the work tags show it (R602). -/
structure Activity where
  tenant : Nat
  dieUs : Nat := 0
  hollyBytes : Nat := 0
  netBytes : Nat := 0
  probes : Nat := 0
deriving DecidableEq, Repr

end Sys2Proof
end

