-- ==== Sys2Proof/Syntax.lean ====
section
/-! DEFINITION. Syntax.lean: the commands of the drive, one constructor for each row of spec/opcode_table.json, in its order. What the command
is, and the rule of spec/ that names it, stand above each; operands are what arrives with it or what the hardware finds (log entry 4). -/

namespace Sys2Proof

/-- A command. -/
inductive Instr where
  /-- PUT (R42): A PUT request arrives: key and value are streamed, checked in the order of Table 1.6 and sealed chunk by chunk. -/
  | put (o : Origin)
  /-- PUT_COMMIT (R44): The last chunk of a PUT is sealed and held at the home, so the home sequencer evaluates the condition and assigns the version. -/
  | putCommit (o : Origin)
  /-- DELETE (R50): A DELETE request is checked, sequenced with its own version and removes the key. -/
  | delete (o : Origin)
  /-- GET (R53): A GET resolves key and version when the reply header leaves, then streams verified chunks and ends with a trailer. -/
  | get (o : Origin)
  /-- GET_RANGE (R54): A GET_RANGE returns the clamped byte range of a value, verifying every chunk it touches. -/
  | getRange (o : Origin)
  /-- EXISTS (R62): An EXISTS reads and authenticates the record header and key and reports version and length. -/
  | existsKey (o : Origin)
  /-- LIST (R65): A LIST returns keys of a keyed namespace in directory order from a cursor. -/
  | list (o : Origin)
  /-- BATCH (R118): A BATCH executes up to 64 members as independent operations. -/
  | batch (o : Origin)
  /-- BATCH_ATOMIC (R122): A BATCH_ATOMIC is checked and either commits all write members at one commit version or none. -/
  | batchAtomic (o : Origin)
  /-- LOC_GET (R180): A LOC_GET validates a locator token and returns the value or a range of it. -/
  | locGet (o : Origin)
  /-- LOC_DELETE (R184): A LOC_DELETE validates a token and removes the located record and its forwarding chain. -/
  | locDelete (o : Origin)
  /-- RELOC_ACK (R189): A RELOC_ACK removes the forwarding entries of the old tokens it names. -/
  | relocAck (o : Origin)
  /-- PING (R445): A PING echoes its payload with the Sprig operating time and may replace the session tolerance. -/
  | ping (o : Origin)
  /-- DEADLINE_MISSED (R38): The deadline of a waiting request passes before it takes effect, so it is answered DEADLINE_MISSED without effect. -/
  | deadlineMissed (o : Origin)
  /-- COMMIT_WAIT_EXPIRY (R297): The pair tick passes a version's tick by W ticks, so the version may be shown to readers and replied. -/
  | commitWaitExpiry (version : Nat)
  /-- SUPERSEDE_CONFIRM (R169): After an unconditional PUT replies, Laurel confirms older candidates, removing a confirmed one or clearing SUPERSEDE. -/
  | supersedeConfirm (ns : Nat) (key : Bytes)
  /-- OPEN (R430): An OPEN frame is checked and, if accepted, opens or displaces a session. -/
  | openFrame (f : Frame) (b : Blob) (p : SessionParams)
  /-- SESSION_OPEN (R432): SESSION_OPEN on session 0 opens a named tenant session and returns the drive random. -/
  | sessionOpen (o : Origin) (b : Blob) (p : SessionParams)
  /-- SESSION_CLOSE (R435): SESSION_CLOSE sets a session DRAINING or is refused according to its state. -/
  | sessionClose (o : Origin)
  /-- SESSION_REKEY (R443): SESSION_REKEY loads a new blob into the idle key phase and sets the slot REKEYING. -/
  | sessionRekey (o : Origin) (b : Blob)
  /-- DATA_FRAME (R448): A GKP DATA frame is checked, opened, placed in data-space order and delivered to message assembly. -/
  | dataFrame (f : Frame)
  /-- ACK_FRAME (R453): A GKP ACK frame updates acknowledge, window, ce_count and selective acknowledgement state. -/
  | ackFrame (f : Frame)
  /-- ACK_DELAY_EXPIRY (R450): 8 µs pass after a DATA frame without its acknowledgement being sent, so an ACK is sent. -/
  | ackDelayExpiry (sid : Nat)
  /-- RETRANSMISSION_TIMEOUT (R455): The retransmission timer expires, so the oldest unacknowledged frame is resent and the timeout doubled. -/
  | retransmissionTimeout (sid path : Nat)
  /-- KEEP_ALIVE (R439): A path has been silent from the drive for 1 s, so the drive sends an ACK frame on it. -/
  | keepAlive (sid path : Nat)
  /-- IDLE_TIMEOUT (R440): No frame has verified for idle_timeout seconds, so the session is noticed and set DRAINING. -/
  | idleTimeout (sid : Nat)
  /-- OPENING_TIMEOUT (R434): A session stays OPENING for 10 s without a verified host frame and becomes CLOSED. -/
  | openingTimeout (sid : Nat)
  /-- DRAIN_COMPLETE (R437): Every request of a DRAINING session completes and every frame is acknowledged, so it becomes CLOSED. -/
  | drainComplete (sid : Nat)
  /-- DRAINING_TIMEOUT (R437): A session has been DRAINING for 1 s and is closed, stopping any streaming reply. -/
  | drainingTimeout (sid : Nat)
  /-- WINDOW_REOPEN_ACK (R460): After reopening a zero window the drive repeats an ACK every 100 µs for up to 1 ms. -/
  | windowReopenAck (sid : Nat)
  /-- PATH_SILENCE (R467): No verified frame arrives on a path for 3 s while the other path is live, so the path goes down. -/
  | pathSilence (sid path : Nat)
  /-- REKEY_REQUIRED (R399): A direction reaches 2^48 − 2^32 frames under a traffic key, so REKEY_REQUIRED is posted. -/
  | rekeyRequired (sid : Nat) (inbound : Bool)
  /-- SESSION_EXHAUSTED (R400): A direction reaches 2^48 frames, so the slot becomes EXHAUSTED and frames are discarded. -/
  | sessionExhausted (sid : Nat) (inbound : Bool)
  /-- KEY_PHASE_RETIRE (R401): 1 s after a rekey reply, or once the new phase is settled, the old key phase is zeroised. -/
  | keyPhaseRetire (sid : Nat)
  /-- SHEARS_ADMIT (R474): A waiting request becomes eligible as buckets refill and is admitted by class, weight and deadline. -/
  | shearsAdmit (port : Nat)
  /-- FWD_WRITE (R306): The home receives a forwarded write and applies the remaining checks and sequencing. -/
  | fwdWrite (opId aux : Nat) (tag : WorkTag) (h : OpHdr) (body : Bytes)
  /-- FWD_READ (R309): The home receives a forwarded read and streams verified chunks back as FWD_DATA. -/
  | fwdRead (opId aux : Nat) (tag : WorkTag) (h : OpHdr) (body : Bytes)
  /-- FWD_REPLY (R308): The receiving drive gets the home's result of a forwarded operation and replies to the host. -/
  | fwdReply (opId : Nat) (h : OpHdr) (body : Bytes)
  /-- FWD_DATA (R309): The receiving drive gets verified chunks from the home and encrypts them for the session. -/
  | fwdData (opId chunk : Nat) (bytes : Bytes)
  /-- MIRROR (R304): The twin receives mirror chunks and installs the record when the final MIRROR arrives. -/
  | mirror (opId flags version aux : Nat) (final : Bool) (bytes : Bytes) (recs : List Rec)
  /-- MIRROR_ACK (R305): The home receives MIRROR_ACK, clears PENDING and replies once durability is met. -/
  | mirrorAck (opId : Nat) (programmed : Bool)
  /-- PREPARE (R344): The participant receives PREPARE, holds its keys, checks them and answers PREPARED or REFUSED. -/
  | prepare (opId txn : Nat) (tag : WorkTag) (h : OpHdr) (body : Bytes) (seals : List (Nat × Nat))
  /-- PREPARED (R345): The coordinator receives PREPARED and decides commit or abort. -/
  | prepared (txn : Nat) (outcomes : List MemberResult)
  /-- REFUSED (R130): The coordinator receives REFUSED, aborts and replies TXN_CONFLICT. -/
  | refused (txn : Nat)
  /-- COMMIT (R134): The participant receives COMMIT, installs every member, releases its keys and answers COMMITTED. -/
  | commit (opId txn version : Nat)
  /-- ABORT (R134): The participant receives ABORT, discards its prepared members and releases its keys. -/
  | abort (txn : Nat)
  /-- COMMITTED (R134): The coordinator receives COMMITTED, installs every member, releases its keys and replies. -/
  | committed (txn : Nat)
  /-- PREPARE_TIMEOUT (R132): No PREPARED or REFUSED arrives within 1 ms, so the coordinator aborts with TXN_CONFLICT. -/
  | prepareTimeout (txn : Nat)
  /-- HEARTBEAT (R296): A twin HEARTBEAT arrives, updating tick offset, the tolerance of the twin and liveness. -/
  | heartbeat (seq tick lastSeq lOwn : Nat) (offset : Int)
  /-- HEARTBEAT_SEND (R315): At each 100 µs heartbeat instant the drive checks for three unacknowledged heartbeats and sends one. -/
  | heartbeatSend
  /-- RESERVE_REQ (R312): The twin receives a request for further capacity and directory reservation. -/
  | reserveReq (granulesWanted entriesWanted : Nat)
  /-- RESERVE_GRANT (R313): The home receives granted granules and entries and adds them to its reservation. -/
  | reserveGrant (g e : Nat)
  /-- CHUNK_FETCH (R310): The twin receives a fetch for a chunk of an exact version and answers with verified bytes or none. -/
  | chunkFetch (opId ns tag version chunk : Nat) (verifies : Bool)
  /-- CHUNK_DATA (R310): The requester receives the twin's chunk bytes for the tag ladder. -/
  | chunkData (opId : Nat) (body : Option Bytes) (verifies : Bool)
  /-- CHUNK_FETCH_TIMEOUT (R310): No CHUNK_DATA arrives within 2 ms and the ladder step fails. -/
  | chunkFetchTimeout (opId : Nat)
  /-- TABLE_CHANGE (R140): The twin receives a tenant, namespace or key table change, applies it once and acknowledges. -/
  | tableChange (opId seq : Nat) (c : TableChange)
  /-- TABLE_ACK (R871): The drive receives TABLE_ACK, so the change is held by both drives and the operation replies. -/
  | tableAck (opId seq : Nat)
  /-- HELLO (R295): A HELLO arrives in JOINING, the pair ticks are merged and the handshake decides PAIRED or resync. -/
  | hello (h : HelloBody) (lacks : Bool)
  /-- RESYNC_DATA (R335): The returning drive receives resync records and installs them unless it holds a higher version. -/
  | resyncData (recs : List Rec) (live : Option (List (Nat × Bytes))) (tables : Option PairTables) (counters : List (Nat × Nat)) (aux : Nat)
  /-- HOME_RETURN (R339): The returning drive receives HOME_RETURN and resumes as home for its keys. -/
  | homeReturn (version : Nat)
  /-- TWIN_LINK_UP (R290): The twin link comes up, SPDM authenticates the twin and the drive enters JOINING. -/
  | twinLinkUp (serial : Nat) (authOk unpaired empty : Bool) (secret : Config.Key)
  /-- TWIN_LINK_DOWN_TIMEOUT (R315): The twin link has been down for 50 µs and the twin is declared lost. -/
  | twinLinkDownTimeout
  /-- HEARTBEAT_SILENCE (R315): 300 µs pass without a HEARTBEAT and the twin is declared lost. -/
  | heartbeatSilence
  /-- JOINING_TIMEOUT (R315): No HELLO arrives within 4 s of JOINING and the drive returns to its previous state. -/
  | joiningTimeout
  /-- LEASE_REQ (R320): A witness receives a lease request and begins probing the requester's twin. -/
  | leaseReq (src seq epoch : Nat)
  /-- LEASE_REQ_RESEND (R874): 5 ms pass without an answer or after a TWIN_ALIVE denial, so an ALONE drive resends LEASE_REQ. -/
  | leaseReqResend
  /-- PROBE (R320): A drive receives a witness probe and answers it. -/
  | probe (src seq : Nat)
  /-- PROBE_ANSWER (R320): A witness receives a probe answer and denies the lease with TWIN_ALIVE. -/
  | probeAnswer (src seq : Nat)
  /-- WITNESS_PROBE_TICK (R320): Every 250 µs a witness probes the twin of a pending requester. -/
  | witnessProbeTick (pair : Nat)
  /-- WITNESS_GRANT_HOLD (R320): 3 ms of silence from the twin pass, so the witness grants the lease and records the twin fenced. -/
  | witnessGrantHold (pos : Nat)
  /-- LEASE_GRANT (R331): A drive receives the lease, becomes HOLDER and replies held writes with DEGRADED. -/
  | leaseGrant (src seq epoch : Nat)
  /-- LEASE_DENY (R874): A drive receives a denial, staying ALONE or becoming FENCED by the reason. -/
  | leaseDeny (src seq reason : Nat)
  /-- FENCED_NOTICE (R321): A drive learns that a lease is held against it and becomes FENCED. -/
  | fencedNotice (src seq : Nat)
  /-- CLEAR (R326): A witness receives CLEAR from an ALONE drive and answers CLEARED if no lease is granted against it. -/
  | clear (src seq : Nat)
  /-- CLEAR_SEND (R326): Every 500 µs a drive in ALONE with a hedgerow witness sends CLEAR. -/
  | clearSend
  /-- CLEARED (R326): A drive receives CLEARED and may accept permitted writes for 2 ms. -/
  | cleared (src seq : Nat)
  /-- CLEARANCE_LAPSE (R326): 2 ms pass since the last cleared CLEAR, so the drive stops accepting writes. -/
  | clearanceLapse
  /-- LEASE_ASSERT (R322): A witness receives a holder's assertion and restores its record if lost. -/
  | leaseAssert (src seq epoch : Nat)
  /-- LEASE_ASSERT_SEND (R322): Every 10 ms a holder sends LEASE_ASSERT to its witness. -/
  | leaseAssertSend
  /-- LEASE_RELEASE (R339): A witness receives the release of a lease at the end of resync. -/
  | leaseRelease (src seq : Nat)
  /-- WITNESS_FREEZE_END (R319): 20 ms after a witness restarts it may grant leases again. -/
  | witnessFreezeEnd
  /-- WITNESS_GRANT (R866): The enclosure controller writes GRANT to TWIN.WITNESS_CTL, giving the drive the lease. -/
  | witnessGrant (ch : Nat)
  /-- WITNESS_FENCE (R866): The enclosure controller writes FENCE to TWIN.WITNESS_CTL, fencing the drive. -/
  | witnessFence (ch : Nat)
  /-- WITNESS_CLEAR (R324): The enclosure controller writes CLEAR, starting a 2 ms clearance. -/
  | witnessClear (ch : Nat)
  /-- WITNESS_WRITE (R867): A write of TWIN.WITNESS changes the pair's witness while PAIRED. -/
  | witnessWrite (ch v : Nat)
  /-- TWIN_ADOPT (R340): TWIN_ADOPT forms a pair with a named drive, transfers keys and runs a full resync. -/
  | twinAdopt (o : Origin) (items : Option Adoption)
  /-- TWIN_RELEASE (R342): TWIN_RELEASE dissolves the pairing of a HOLDER, ALONE or forced FENCED drive. -/
  | twinRelease (o : Origin)
  /-- RING_HELLO (R349): A RING_HELLO arrives, updating the ring map and the sender's ring key parameters. -/
  | ringHello (src : Nat) (east direct : Bool) (keyHash serial cycles random reach : Nat)
  /-- RING_HELLO_SEND (R349): Every 1 ms a drive sends RING_HELLO on each ring link. -/
  | ringHelloSend
  /-- RING_LINK_LOSS (R349): A ring link is down 50 µs or misses three RING_HELLO intervals and is declared broken. -/
  | ringLinkLoss (east : Bool)
  /-- RING_FRAME_FORWARD (R351): A ring frame not addressed to the drive is forwarded along the shorter path by class priority. -/
  | ringFrameForward (fs : List RingFrame)
  /-- MGMT_REQ (R354): A relayed attribute operation arrives over the ring and is performed as on session 0. -/
  | mgmtReq (src seq : Nat) (h : OpHdr) (body : Bytes)
  /-- MGMT_REPLY (R354): The reply of a relayed operation returns and is sent to the host. -/
  | mgmtReply (src seq : Nat) (h : OpHdr) (body : Bytes)
  /-- MIGRATE_DATA (R357): The destination home receives migrated records, reseals them and enters them through the hedgerow input. -/
  | migrateData (src seq ns job : Nat) (recs : List Rec)
  /-- MIGRATE_CTL (R359): A migration control message arrives between source and destination pairs. -/
  | migrateCtl (src seq ns job : Nat) (c : MigrateCtl)
  /-- PTP_MESSAGE (R585): A PTP message is received or answered on a host or ring port. -/
  | ptpMessage (m : PtpMsg)
  /-- TENANT_CREATE (R141): TENANT_CREATE makes a FREE tenant id ACTIVE pair-wide. -/
  | tenantCreate (o : Origin)
  /-- TENANT_DELETE (R142): TENANT_DELETE zeroises the tenant's keys and returns it to FREE. -/
  | tenantDelete (o : Origin)
  /-- NS_CREATE (R149): NS_CREATE makes a namespace with the next generation of its id. -/
  | nsCreate (o : Origin)
  /-- NS_DELETE (R155): NS_DELETE sets a namespace DELETING and makes its keys unreachable at once. -/
  | nsDelete (o : Origin)
  /-- NS_SET_QUOTA (R150): NS_MODIFY with SET_QUOTA changes the namespace quota. -/
  | nsSetQuota (o : Origin)
  /-- NS_RAISE_GEN (R151): NS_MODIFY with RAISE_GEN raises the generation and sets a keyed namespace SWEEPING. -/
  | nsRaiseGen (o : Origin)
  /-- NS_SET_SOLO_WRITES (R148): NS_MODIFY with SET_SOLO_WRITES changes the SOLO_WRITES permission. -/
  | nsSetSoloWrites (o : Origin)
  /-- NS_INFO (R139): NS_INFO returns the descriptor of a namespace. -/
  | nsInfo (o : Origin)
  /-- SWEEP_COMPLETE (R151): Laurel finishes removing a namespace's entries and it becomes ACTIVE, FREE or RETIRED. -/
  | sweepComplete (n : Nat)
  /-- ARRAY_READ_COMPLETE (R217): An array read or reconstruction completes and its codewords pass through LDPC decode. -/
  | arrayReadComplete (o : Origin) (chunk gran : Nat) (src : Option Nat) (cws : List Cw) (verified : Bool)
  /-- SUSPEND_COMPLETE (R212): A suspended program or erase reaches readiness for reads, which then run before it resumes. -/
  | suspendComplete (die : Nat)
  /-- BUSY_WINDOW_ENTRY (R214): Bramble reports a program entering its final non-suspendable window. -/
  | busyWindowEntry (die : Nat)
  /-- STARVATION_GUARD_TRIP (R213): An operation reaches 32 suspensions or 40 ms of suspension and is no longer suspended. -/
  | starvationGuardTrip (die : Nat)
  /-- RECON_INTERVAL (R220): A new 10 ms interval begins and the reconstruction budget count restarts. -/
  | reconInterval
  /-- PROGRAM_COMPLETE (R267): An array program completes and is verified, releasing shelf records or advancing clipping. -/
  | programComplete (die : Nat)
  /-- ERASE_COMPLETE (R245): An erase completes and the superblock becomes FREE. -/
  | eraseComplete (die : Nat)
  /-- PROGRAM_FAIL (R254): A program fails, so the block is retired, a substitute taken and the pages rebuilt into it. -/
  | programFail (die : Nat)
  /-- ERASE_FAIL (R255): An erase fails and the block is retired for an erased substitute. -/
  | eraseFail (die : Nat)
  /-- SHELF_DRAIN (R237): Pleach drains write-shelf records into HOST or burst-area superblocks. -/
  | shelfDrain
  /-- SHELF_ADMIT (R241): Shelf space frees and a write waiting for it proceeds. -/
  | shelfAdmit (o : Origin)
  /-- FOLDING (R238): Live records of the oldest burst-area superblock are copied into QLC superblocks. -/
  | folding (bad : List Nat)
  /-- CLIP_VICTIM_SELECT (R242): The drive chooses a reclamation victim and sets it VICTIM to begin clipping. -/
  | clipVictimSelect (bad : List Nat)
  /-- PATROL_VISIT (R258): Patrol reads one codeword of every page of a superblock and recalibrates read levels. -/
  | patrolVisit (sb : Nat) (cws : List Cw)
  /-- PATROL_LATE (R261): A superblock goes more than 14 days without a visit and PATROL_LATE is recorded. -/
  | patrolLate (sb : Nat)
  /-- HEALTH_WEAR_UPDATE (R262): Every 60 s wear and the rolling health fields are recomputed, raising wear events where due. -/
  | healthWearUpdate
  /-- DELTA_DRAIN (R268): A block of the delta log drains into the delta area and waiting producers may proceed. -/
  | deltaDrain
  /-- CHECKPOINT (R276): Every 30 minutes, or after 64 GiB of drained deltas, an incremental checkpoint and root are written. -/
  | checkpoint
  /-- POWER_FAIL (R270): 12 V below 10.8 V for 10 µs or PFAIL_N for 1 µs starts the hold-up flush. -/
  | powerFail
  /-- FLUSH_COMPLETE (R271): The last flush program is verified, the flush record written and power released. -/
  | flushComplete
  /-- HOLDUP_MEASURE (R273): The 24-hourly measurement of hold-up energy sets the shelf limit and raises HOLDUP events. -/
  | holdupMeasure (mj : Nat) (temp : Int)
  /-- KEK_IMPORT (R367): KEK_IMPORT verifies the operator signature and stores an operator KEK under the root. -/
  | kekImport (session index pkHash : Nat) (signatureOk : Bool) (b : Blob)
  /-- TENANT_KEY_LOAD (R372): TENANT_KEY_LOAD unwraps a blob into a wrap-table entry or key slot. -/
  | tenantKeyLoad (o : Origin) (b : Blob)
  /-- KEY_ERASE_WRAPPING (R381): TENANT_KEY_ERASE selector 0b001 erases the tenant wrapping key. -/
  | keyEraseWrapping (o : Origin)
  /-- KEY_ERASE_PREVIOUS (R381): TENANT_KEY_ERASE selector 0b010 erases the PREVIOUS or SPENT storage slot. -/
  | keyErasePrevious (o : Origin)
  /-- KEY_ERASE_CURRENT (R381): TENANT_KEY_ERASE selector 0b011 erases the CURRENT or SPENT storage slot. -/
  | keyEraseCurrent (o : Origin)
  /-- KEY_ERASE_TENANT (R381): TENANT_KEY_ERASE selector 0b100 erases the wrapping key, both storage slots and every session slot. -/
  | keyEraseTenant (o : Origin)
  /-- KEY_ERASE_SYSTEM (R381): TENANT_KEY_ERASE selector 0b101 erases a METER, RING, EXPORT or IMPORT_RG60 system slot. -/
  | keyEraseSystem (o : Origin)
  /-- SLOT_BUFFER_RELEASE (R375): No work names the old buffer of a rewritten slot, so it is zeroised. -/
  | slotBufferRelease (slot : Nat)
  /-- STORAGE_LOAD_RESUME (R378): No work names the target storage slot, so a waiting STORAGE load proceeds. -/
  | storageLoadResume (slot : Nat)
  /-- HOLLY_DISPATCH (R406): A Holly pair frees and is given to the waiting request with the earliest deadline. -/
  | hollyDispatch (arrivals : List HollyReq) (freed : Option Nat) (mismatch : Bool)
  /-- COMPAT_SUSPEND (R413): A native request waits 1 µs, so a compatibility request is suspended and its context wrapped. -/
  | compatSuspend (blocks : Nat)
  /-- COMPAT_RESUME (R414): A wrapped compatibility context is presented back and resumed if valid. -/
  | compatResume (resumeId : Nat) (unwraps : Bool) (tag : WorkTag)
  /-- DRBG_ERROR (R411): The entropy source or DRBG fails, so Holly stops and the drive enters ERROR. -/
  | drbgError
  /-- AUTONEG_COMPLETE (R485): Clause 73 auto-negotiation completes and training begins at the highest common speed. -/
  | autonegComplete (port : Nat) (partner : List (Nat × Nat))
  /-- TRAINING_COMPLETE (R485): Lane training completes and PCS alignment and FEC lock begin. -/
  | trainingComplete (port trained : Nat)
  /-- LINK_UP (R485): Alignment and FEC lock complete and the port enters UP. -/
  | linkUp (port : Nat)
  /-- LINK_DOWN (R486): The port loses alignment or FEC lock, declares the link down and enters HOLDOFF. -/
  | linkDown (port cause : Nat) (hiSer : Option Nat)
  /-- HOLDOFF_EXPIRY (R486): The 10 ms HOLDOFF ends and negotiation restarts. -/
  | holdoffExpiry (port : Nat)
  /-- TRAINING_FAIL (R487): Training fails; after three failures the speed is withdrawn for 60 s. -/
  | trainingFail (port trained : Nat)
  /-- SPEED_FALLBACK_EXPIRY (R488): 60 s after a fallback the speed returns and a host port may retrain itself. -/
  | speedFallbackExpiry (port speed : Nat)
  /-- PORT_RETRAIN (R489): A write of 1 to RETRAIN takes the port down and through bring-up. -/
  | portRetrain (ch port : Nat)
  /-- PORT_ENABLE_WRITE (R485): A write of CTL.ENABLE squelches the port or starts its bring-up. -/
  | portEnableWrite (ch port : Nat) (on : Bool)
  /-- FRAME_RECEIVE (R508): An Ethernet frame arrives and passes the receive order to one disposition. -/
  | frameReceive (f : Ether)
  /-- ARP_FRAME (R499): An ARP frame is answered or checked for a conflict by firmware. -/
  | arpFrame (f : ArpFrame)
  /-- ND_FRAME (R499): A neighbour discovery frame is answered or used for SLAAC and duplicate detection. -/
  | ndFrame (f : NdFrame)
  /-- ICMP_ECHO (R499): An ICMP echo request is answered with the identical payload. -/
  | icmpEcho (port vid : Nat) (v6 : Bool) (source : Nat) (payload : Bytes)
  /-- DHCP_MESSAGE (R499): A DHCP message is processed by the drive's client. -/
  | dhcpMessage (m : DhcpMsg)
  /-- DHCP_LEASE_LOST (R504): A lease ends without renewal and the address is removed from its entry. -/
  | dhcpLeaseLost (port vid : Nat) (v6 : Bool)
  /-- LLDP_FRAME (R499): An LLDP frame from a neighbour is stored in LLDP_PEER. -/
  | lldpFrame (port chassisKind portKind : Nat) (chassis portId : Bytes)
  /-- LLDP_TRANSMIT (R500): Every 30 s the drive sends its LLDP frame on every port. -/
  | lldpTransmit
  /-- TXTS_READ (R526): A read of the transmit timestamp queue removes the oldest entry and reports lost stamps. -/
  | txtsRead (port : Nat)
  /-- STATS_MODE_WRITE (R518): A write of STATS_MODE switches between FULL and SUMMARY statistics. -/
  | statsModeWrite (ch port v : Nat)
  /-- W1C_WRITE (R862): A write of 1 to a W1C bit clears it unless a setting occurrence falls in the same cycle. -/
  | w1cWrite (ch addr v occur : Nat)
  /-- ENTRY_READ (R555): The READ entry command copies an entry into staging. -/
  | entryRead (ch : Nat)
  /-- ENTRY_WRITE (R555): The WRITE entry command writes an entry and then sets VALID. -/
  | entryWrite (ch : Nat)
  /-- ENTRY_INVALIDATE (R555): The INVALIDATE entry command clears VALID and zeroes the entry. -/
  | entryInvalidate (ch : Nat)
  /-- ENTRY_MOVE (R556): The MOVE entry command copies an entry to the target and swaps VALID in one cycle. -/
  | entryMove (ch : Nat)
  /-- ACTION_READ (R558): ACTION_CTL READ copies an action entry into ACTION_DATA. -/
  | actionRead (ch : Nat)
  /-- ACTION_WRITE (R558): ACTION_CTL WRITE replaces an action entry in one cycle. -/
  | actionWrite (ch : Nat)
  /-- BANK_WIDTH_WRITE (R535): A write of BANK_WIDTH changes a bank's entry width if it holds no valid entry. -/
  | bankWidthWrite (ch v : Nat)
  /-- DEFAULT_ACTION_WRITE (R554): A write of a port's default action is checked and applied. -/
  | defaultActionWrite (ch port v : Nat)
  /-- PROBE_FIRST (R563): PROBE_CTL FIRST searches every bank for the winner of the probe key. -/
  | probeFirst (ch : Nat)
  /-- PROBE_NEXT (R564): PROBE_CTL NEXT returns the next matching entry after the cursor. -/
  | probeNext (ch : Nat)
  /-- PRIVET_SCRUB (R561): The scrubber compares the table with its shadow and rewrites any mismatched entry. -/
  | privetScrub (upsets : List (Nat × Bool × Nat × Nat × Nat × Nat)) (actionUpsets : List (Nat × Nat)) (lost lostActions : List Nat)
  /-- PPS_IN_EDGE (R588): A rising edge of PPS_IN is timestamped and measured against wall time. -/
  | ppsInEdge (opNs : Nat)
  /-- TOD_MESSAGE (R590): A ToD message arrives on TOD_RX and names the next PPS edge. -/
  | todMessage (msg : Bytes)
  /-- SOURCE_LOST (R576): A source's loss condition times out and Sprig changes source or enters HOLDOVER. -/
  | sourceLost (src : Nat)
  /-- SOURCE_CHANGE (R576): A higher-priority source has been qualified for 10 s and Sprig changes to it. -/
  | sourceChange (src : Nat)
  /-- HOLDOVER_TRUST_LOST (R573): The holdover error bound exceeds the trust limit and trust is lost. -/
  | holdoverTrustLost
  /-- WALL_SET (R577): A write of TIME.WALL_SET steps wall time and sets MANUAL. -/
  | wallSet (ch seconds ns : Nat)
  /-- OPTIME_RESERVATION (R568): Sprig writes a reservation of the next 2^36 ns block of operating time. -/
  | optimeReservation
  /-- PPS_OUT_EDGE (R591): At each whole second PPS_OUT rises and TOD_TX sends a message. -/
  | ppsOutEdge
  /-- LEAP_SECOND (R592): At the end of the named UTC day the UTC offset changes. -/
  | leapSecond
  /-- METER_TICK (R593): Juniper accounts one 1 ms tick of operating time for each tenant. -/
  | meterTick (energyUj : Nat) (acts : List Activity)
  /-- METER_EXTENDED_END (R618): While the store is FULL an interval ends after 4 h of operating time. -/
  | meterExtendedEnd
  /-- METER_INTERVAL_WRITE (R594): A write of METER.INTERVAL_S closes the open interval with SHORT and sets the new length. -/
  | meterIntervalWrite (ch v : Nat)
  /-- WEIGHT_RECALIBRATE (R603): Every 60 s Juniper recalibrates its energy weights. -/
  | weightRecalibrate (die holly net laurel : Nat × Nat)
  /-- METER_READ (R613): METER_READ returns stored meter records from a record_seq onward. -/
  | meterRead (o : Origin)
  /-- METER_ACK (R615): METER_ACK frees every record up to a record_seq. -/
  | meterAck (o : Origin)
  /-- ZEROIZE_PIN (R639): ZEROIZE_N held low for 10 ms starts zeroisation. -/
  | zeroizePin
  /-- TAMPER_LOOP_SAMPLE (R640): The sideband tests the cover loop and zeroises after three open samples. -/
  | tamperLoopSample (isOpen : Bool)
  /-- ZEROIZE_ARM (R639): A write of 0x5A5A_0001 to SEC.ZEROIZE arms zeroisation for 1 s. -/
  | zeroizeArm (ch : Nat)
  /-- ZEROIZE_CONFIRM (R639): A write of 0xA5A5_0002 within 1 s of arming starts zeroisation. -/
  | zeroizeConfirm (ch : Nat)
  /-- ZEROIZE_ARM_EXPIRY (R639): 1 s passes after arming without the second write and the sequence is disarmed. -/
  | zeroizeArmExpiry
  /-- ZEROISE_ERASE_COMPLETE (R641): An erase of helper data or vault completes and zeroisation proceeds to its next step. -/
  | zeroiseEraseComplete
  /-- MAINT_ENABLE_WRITE (R644): A write of SEC.MAINT_ENABLE enables maintenance tokens or ends the maintenance role. -/
  | maintEnableWrite (ch v : Nat)
  /-- MAINT_FUSE_ARM (R645): The first write of the arming sequence to SEC.MAINT_FUSE. -/
  | maintFuseArm (ch : Nat)
  /-- MAINT_FUSE_CONFIRM (R645): The second write blows the maintenance fuse. -/
  | maintFuseConfirm (ch : Nat)
  /-- MAINT_TOKEN (R646): A maintenance token is checked and, if accepted, enters the maintenance role. -/
  | maintToken (session services serial challenge duration : Nat) (keyOk signatureOk : Bool)
  /-- MAINT_EXIT (R649): The vendor ends the maintenance role. -/
  | maintExit (session : Nat)
  /-- MAINT_DURATION_EXPIRY (R649): The token's duration passes and the maintenance role ends. -/
  | maintDurationExpiry
  /-- SVN_RAISE (R659): After 24 h of running without fallback the firmware security version is fused. -/
  | svnRaise
  /-- CONTINUOUS_TEST_FAIL (R636): A conditional self-test fails and the drive enters ERROR. -/
  | continuousTestFail (test : Nat)
  /-- GET_VERSION (R650): SPDM GET_VERSION is answered. -/
  | getVersion
  /-- GET_CAPABILITIES (R650): SPDM GET_CAPABILITIES is answered. -/
  | getCapabilities (ok : Bool)
  /-- NEGOTIATE_ALGORITHMS (R650): SPDM NEGOTIATE_ALGORITHMS selects the supported algorithms. -/
  | negotiateAlgorithms (offered : Bool)
  /-- GET_DIGESTS (R652): SPDM GET_DIGESTS returns the certificate chain digests. -/
  | getDigests (session : Nat)
  /-- GET_CERTIFICATE (R652): SPDM GET_CERTIFICATE returns a certificate chain. -/
  | getCertificate (session slot : Nat)
  /-- CHALLENGE (R650): SPDM CHALLENGE is answered with a signature of the attestation key. -/
  | challenge (slot : Nat)
  /-- GET_MEASUREMENTS (R654): SPDM GET_MEASUREMENTS returns the measurement blocks. -/
  | getMeasurements (session index : Nat)
  /-- KEY_EXCHANGE (R650): SPDM KEY_EXCHANGE begins a secured session with ECDHE. -/
  | keyExchange
  /-- FINISH (R650): SPDM FINISH completes a secured session. -/
  | finish (session eid : Nat) (requester : Option Nat) (ok : Bool)
  /-- SPDM_HEARTBEAT (R650): SPDM HEARTBEAT keeps a secured session alive. -/
  | spdmHeartbeat (session : Nat)
  /-- KEY_UPDATE (R650): SPDM KEY_UPDATE updates a secured session's keys. -/
  | keyUpdate (session : Nat)
  /-- END_SESSION (R650): SPDM END_SESSION ends a secured session. -/
  | endSession (session : Nat)
  /-- GET_CSR (R653): SPDM GET_CSR returns a signing request over the attestation key. -/
  | getCsr (session : Nat)
  /-- SET_CERTIFICATE (R653): SPDM SET_CERTIFICATE fills certificate slot 1. -/
  | setCertificate (session slot : Nat) (sameKey : Bool) (chain : Bytes)
  /-- VENDOR_DEFINED_REQUEST (R650): An SPDM vendor-defined request is processed. -/
  | vendorDefinedRequest (session : Nat) (what : VendorReq)
  /-- SUPPLY_LOW (R676): 12 V lies below 11.2 V for 1 ms and SUPPLY_LOW is recorded. -/
  | supplyLow (mv : Nat)
  /-- SUPPLY_HIGH (R677): 12 V exceeds 13.5 V for 10 µs, the input is disconnected and a power failure follows. -/
  | supplyHigh (mv : Nat)
  /-- AUX_LOST (R672): 3V3_AUX falls below 3.0 V and the sideband is fed from 12 V. -/
  | auxLost
  /-- AUX_RESTORED (R672): 3V3_AUX returns and AUX_RESTORED is recorded. -/
  | auxRestored
  /-- PWRDIS_ASSERT (R683): PWRDIS high for 5 ms makes the drive shut down cleanly and turn its rails off. `how`: how the shutdown ends (R691). -/
  | pwrdisAssert (how : ShutdownEnd)
  /-- MRST_N (R684): MRST_N low for 100 µs flushes, holds islands in reset and restarts uncleanly. -/
  | mrstN
  /-- SLOT_ID_CHANGE (R685): The SLOT_ID straps change while the rails are up and the change is recorded. -/
  | slotIdChange (straps : Nat)
  /-- TWIN_PRSNT_CHANGE (R686): TWIN_PRSNT_N changes level and the change is recorded. -/
  | twinPrsntChange (present : Bool)
  /-- I3C_DYNAMIC_ADDRESS (R687): An I3C controller assigns a dynamic address and the drive enters I3C mode. -/
  | i3cDynamicAddress (address : Nat) (byEntdaa : Bool)
  /-- I3C_RSTDAA (R687): RSTDAA returns the drive to SMBus mode. -/
  | i3cRstdaa
  /-- LOCATE_EXPIRY (R693): DEV.LOCATE is cleared after 3,600 s of operating time. -/
  | locateExpiry
  /-- START (R736): The main rails start and the drive runs the start-up steps of Table 14.10. -/
  | start (u : StartUp)
  /-- DEVICE_READY (R736): The drive reports ready, writes READY and records DEVICE_READY. -/
  | deviceReady
  /-- START_TIMEOUT (R732): The drive is not ready within 15 minutes, so it resets its islands and starts again. -/
  | startTimeout
  /-- CLUSTER_FAULT (R732): A core cluster faults before ready, failing the start. -/
  | clusterFault
  /-- XIP_RELEASE (R708): OPTF.CTL XIP_RELEASE moves the sideband updater into tightly coupled memory. -/
  | xipRelease (ch : Nat)
  /-- TCM_LOAD_COMPLETE (R708): The sideband finishes loading its tightly coupled memory and XIP_STATE becomes TCM. -/
  | tcmLoadComplete
  /-- XIP_RESUME (R710): OPTF.CTL XIP_RESUME verifies the sideband code and returns execution to bank 0. -/
  | xipResume (ch : Nat)
  /-- XIP_AUTO_RESUME (R711): After 600 s in TCM without a bank 0 write the drive resumes execution in place. -/
  | xipAutoResume
  /-- OPTF_OPERATION_COMPLETE (R703): An option flash program or erase completes and the next queued write may start. -/
  | optfOperationComplete
  /-- ACTIVATE_FIRMWARE (R745): PLDM ActivateFirmware starts a roll or, in recovery boot, leaves it. -/
  | activateFirmware (session : Nat)
  /-- IDLE_DWELL (R751): The idle dwell of a state elapses and the drive enters the deepest permitted power state. -/
  | idleDwell (st : Nat)
  /-- WAKE_COMPLETE (R753): The wake latency ends and the drive is back in Leafed. -/
  | wakeComplete
  /-- TOLERANCE_WINDOW_EXPIRY (R749): A session or request leaves the 10 s window and L_own is recomputed. -/
  | toleranceWindowExpiry
  /-- STATE_LIMIT_WRITE (R752): A write of POWER.STATE_LIMIT sets the deepest state allowed. -/
  | stateLimitWrite (ch v : Nat)
  /-- CAP_WRITE (R758): A write of POWER.CAP_W sets a new cap and token pool. -/
  | capWrite (ch v : Nat)
  /-- GOVERNOR_1MS (R759): Every 1 ms power above 1.1 × cap stops array issue for the next millisecond. -/
  | governor1ms (mw : Nat)
  /-- GOVERNOR_100MS (R759): Every 100 ms the governor lowers or raises the core clock. -/
  | governor100ms (mw : Nat)
  /-- TEMP_SAMPLE (R763): Every 10 ms sensors are sampled and the composite may enter a throttle stage. -/
  | tempSample (readings : List (Nat × Int)) (completes : Bool)
  /-- THERMAL_STAGE_EXIT (R765): The composite stays 3 °C below a stage's entry for 1 s and the stage drops. -/
  | thermalStageExit
  /-- THERMAL_SHUTDOWN_TIMEOUT (R768): A thermal clean shutdown has not completed in 2 s, so the hold-up flush runs. -/
  | thermalShutdownTimeout
  /-- SENSOR_FAULT (R764): A sensor reports nothing for 100 ms and becomes invalid. -/
  | sensorFault (sensor : Nat)
  /-- STAGING_FLUSH (R776): 100 ms after the oldest staged record, or on count or severity, staging flushes to the log. -/
  | stagingFlush
  /-- LOG_GROUP_WRITTEN (R784): A group of records is written to the log and ERROR or CRITICAL records are pinned. -/
  | logGroupWritten
  /-- LOG_FREEZE (R791): LOG_FREEZE stops writes to the log for up to 10 s. -/
  | logFreeze (o : Origin)
  /-- LOG_THAW (R794): LOG_THAW ends a freeze and the log drains staging. -/
  | logThaw (o : Origin)
  /-- LOG_FREEZE_TIMEOUT (R794): 10 s after a freeze the log thaws by itself. -/
  | logFreezeTimeout
  /-- CLEAR_PINNED (R797): LOG.CTL CLEAR_PINNED empties the pinned area. -/
  | clearPinned (ch : Nat)
  /-- CLEAR_ALL (R797): LOG.CTL CLEAR_ALL empties the pinned area and the circular log. -/
  | clearAll (ch : Nat)
  /-- LOG_WINDOW_LOAD (R787): A write of the high word of LOG.CURSOR loads the reading window. -/
  | logWindowLoad (ch hi : Nat)
  /-- HEALTH_SAVE (R801): Every 10 minutes the health counters are saved. -/
  | healthSave
  /-- TEMP_BIN_MINUTE (R802): At the end of each minute one temperature bin of each group is incremented. -/
  | tempBinMinute
  /-- EVENT_ENABLE_WRITE (R799): A write of EVEN.ENABLE sets source enables, ignoring disables of protected sources. -/
  | eventEnableWrite (ch word v : Nat)
  /-- ATTR_READ (R821): ATTR_READ returns consecutive attribute words, latching high words. -/
  | attrRead (o : Origin)
  /-- ATTR_WRITE (R822): ATTR_WRITE checks then writes consecutive attribute words that have no row of their own. -/
  | attrWrite (o : Origin)
  /-- ATTR_BULK_READ (R823): ATTR_BULK_READ returns a whole window attribute. -/
  | attrBulkRead (o : Origin)
  /-- CLIP_FORCE (R835): JOB_START of CLIP_FORCE queues forced clipping. -/
  | clipForce (o : Origin)
  /-- PATROL_FULL (R835): JOB_START of PATROL_FULL queues a full patrol pass. -/
  | patrolFull (o : Origin)
  /-- NS_SANITIZE (R835): JOB_START of NS_SANITIZE queues a generation raise and erasure of a namespace. -/
  | nsSanitize (o : Origin)
  /-- NS_REKEY (R835): JOB_START of NS_REKEY queues resealing under the CURRENT storage key. -/
  | nsRekey (o : Origin)
  /-- DIE_RETIRE (R257): JOB_START of DIE_RETIRE queues rebuilding of a die into substitutes. -/
  | dieRetire (o : Origin)
  /-- DIE_UNRESPONSIVE (R827): A die stops answering and the drive starts DIE_RETIRE itself. -/
  | dieUnresponsive (die : Nat)
  /-- TWIN_RESYNC (R334): JOB_START or a handshake starts a delta or full resync of the returning drive. -/
  | twinResync (o : Origin)
  /-- NS_MIGRATE (R359): JOB_START of NS_MIGRATE queues live migration to another pair. -/
  | nsMigrate (o : Origin)
  /-- NS_EXPORT (R837): JOB_START of NS_EXPORT queues writing an export package. -/
  | nsExport (o : Origin)
  /-- NS_IMPORT (R838): JOB_START of NS_IMPORT queues import of an export package. -/
  | nsImport (o : Origin)
  /-- SELFTEST_EXT (R635): JOB_START of SELFTEST_EXT queues a rerun of self-tests 3 to 10. -/
  | selftestExt (o : Origin)
  /-- JOB_SUSPEND (R833): JOB_SUSPEND suspends a job at its next step boundary. -/
  | jobSuspend (o : Origin)
  /-- JOB_RESUME (R832): JOB_RESUME returns a suspended job to RUNNING or QUEUED. -/
  | jobResume (o : Origin)
  /-- JOB_CANCEL (R832): JOB_CANCEL drives a job to its consistent cancelled state. -/
  | jobCancel (o : Origin)
  /-- JOB_STATUS (R834): JOB_STATUS returns the status record of one job or a list of jobs. -/
  | jobStatus (o : Origin)
  /-- JOB_STEP (R835): A running job completes one step and advances, suspends, cancels or finishes. -/
  | jobStep (id : Nat) (x : StepIn)
  /-- JOB_DEQUEUE (R830): A running place frees and the oldest queued job starts. -/
  | jobDequeue
  /-- JOB_ENTRY_EXPIRY (R828): An ended job entry is freed after 24 h of operating time. -/
  | jobEntryExpiry (id : Nat)
  /-- JOB_SUSPENDED_LONG (R833): A job has been suspended another 24 h and JOB_SUSPENDED_LONG is recorded. -/
  | jobSuspendedLong (id : Nat)
  /-- FW_DOWNLOAD (R839): FW_DOWNLOAD receives one chunk of a component and verifies it at LAST. -/
  | fwDownload (o : Origin) (img : Image)
  /-- DOWNLOAD_IDLE_TIMEOUT (R840): A RECEIVING download gets no chunk for 600 s and returns to IDLE. -/
  | downloadIdleTimeout
  /-- FW_ACTIVATE (R842): FW_ACTIVATE starts a live FW_ROLL of the stored firmware. -/
  | fwActivate (o : Origin) (twinDl twinDigest : Nat)
  /-- FW_ACTIVATE_RESTART (R842): FW_ACTIVATE with RESTART activates the firmware by clean shutdown and start. -/
  | fwActivateRestart (o : Origin) (twinDl twinDigest : Nat)
  /-- FW_ROLL_STEP (R843): A cluster's 500 ms watch passes and the roll restarts the next cluster on the new image. -/
  | fwRollStep (ok : Bool)
  /-- FW_ROLL_FAILED (R847): A rolled cluster fails, so every new-image cluster returns to the old image. -/
  | fwRollFailed (cluster : Nat)
  /-- CLUSTER_RESET (R819): DEV.RESET codes 0x01 to 0x08 drain and restart one core cluster. -/
  | clusterReset (ch cluster : Nat)
  /-- PORT_RESET (R819): DEV.RESET codes 0x10 and 0x11 reset a host port island. -/
  | portReset (ch port : Nat)
  /-- TWIN_PORT_RESET (R819): DEV.RESET code 0x12 resets the twin port outside the paired states. -/
  | twinPortReset (ch : Nat)
  /-- HEDGEROW_PORT_RESET (R819): DEV.RESET codes 0x13 and 0x14 reset a hedgerow port. -/
  | hedgerowPortReset (ch : Nat) (east : Bool)
  /-- DRIVE_RESET (R819): DEV.RESET code 0xFF resets the whole drive as MRST_N does. -/
  | driveReset (ch : Nat)
  /-- SIDEBAND_LOCK_WRITE (R817): A sideband write of DEV.SIDEBAND_LOCK sets or clears the lock on POWER and DEV.RESET. -/
  | sidebandLockWrite (ch v : Nat)
  /-- OP_MESSAGE (R807): An Ezulno OP vendor message carries a management operation on the sideband. -/
  | opMessage (session exchange : Nat) (h : OpHdr) (body : Bytes)
  /-- GET_SENSOR_READING (R810): PLDM GetSensorReading returns a numeric sensor. -/
  | getSensorReading (session id : Nat)
  /-- GET_STATE_SENSOR_READINGS (R810): PLDM GetStateSensorReadings returns a state sensor. -/
  | getStateSensorReadings (session id : Nat)
  /-- PLDM_FW_UPDATE (R811): A PLDM type 5 update message transfers and stores a component. -/
  | pldmFwUpdate (session component off len : Nat) (last : Bool) (img : Image)
  /-- MCTP_CONTROL (R805): An MCTP control message is answered on the sideband. -/
  | mctpControl (command arg : Nat)
  /-- ERASE_WINDOW_END (R214): The first 400 µs of an erase pass, so the die stops being busy and waiting reads may suspend the erase. -/
  | eraseWindowEnd (die : Nat)
  /-- AUX_POWER_APPLIED (R640): 3V3_AUX is applied with the main rails off, so the sideband stage reads the option area, checks the ZEROISED fuse, tests the tamper loop and runs the sideband code in place. -/
  | auxPowerApplied (isOpen : Bool)
  /-- AUX_POWER_REMOVED (R687): 3V3_AUX is removed while the main rails are off, so the sideband controller stops and the bus interface returns to SMBus mode. -/
  | auxPowerRemoved
  /-- PTP_INTERVAL_TRANSMIT (R585): At each configured PTP interval the drive sends Sync, Announce, Delay_Req or Pdelay_Req on a port and enters its transmit stamp. -/
  | ptpIntervalTransmit (port kind : Nat)
  /-- DUPLICATE_ADDRESS_DETECTION (R492): Duplicate address detection or the ARP probe of a new address ends without a conflict, and the drive begins to use the address. -/
  | duplicateAddressDetection (port vid : Nat) (v6 : Bool) (address : Nat)
  /-- MAINT_FUSE_ARM_EXPIRY (R645): 1 s passes after the first arming write to SEC.MAINT_FUSE without the second, and the sequence is disarmed. -/
  | maintFuseArmExpiry
deriving DecidableEq, Repr

end Sys2Proof
end

