-- ==== Sys2Proof/WellFormed.lean ====
section
/-! DEFINITION. WellFormed.lean: the widths of a command's operands, as the spec's layouts give them. -/

namespace Sys2Proof

def ok8 (n : Nat) : Bool := decide (n < 2 ^ 8)
def ok16 (n : Nat) : Bool := decide (n < 2 ^ 16)
def ok32 (n : Nat) : Bool := decide (n < 2 ^ 32)
def ok64 (n : Nat) : Bool := decide (n < 2 ^ 64)

/-- A management channel: 0 sideband, 1 session 0 (R805). -/
def okChannel (n : Nat) : Bool := decide (n < 2)
/-- A port (R481): 0 A, 1 B, 2 twin, 3 east, 4 west. -/
def okPort (n : Nat) : Bool := decide (n < 5)
/-- A path of a session: port A or B (R464). -/
def okPath (n : Nat) : Bool := decide (n < 2)
/-- One of the 512 dies (R197). -/
def okDie (n : Nat) : Bool := decide (n < 512)
/-- One of the 32,768 superblocks (R198). -/
def okSuperblock (n : Nat) : Bool := decide (n < 32768)
/-- A granule of a superblock (Table 3.7). -/
def okGranule (n : Nat) : Bool := decide (n < 2 ^ 25)
/-- An outcome of decoding: one of seven retries (R222). -/
def okCw (c : Cw) : Bool := decide (c.retry ≤ 7)
/-- A namespace id (R143). -/
def okNs (n : Nat) : Bool := decide (n < 16384)
/-- A core cluster (Table 17.6). -/
def okCluster (n : Nat) : Bool := decide (n < 8)
/-- A hedgerow position (R348). -/
def okPosition (n : Nat) : Bool := decide (n < 32)
/-- A temperature sensor (Table 15.4). -/
def okSensor (n : Nat) : Bool := decide (n < 24)
/-- A VLAN id; 0 untagged. -/
def okVid (n : Nat) : Bool := decide (n < 4096)
/-- A word of an array of the EVEN page (R869). -/
def okEvenWord (n : Nat) : Bool := decide (n < 64)

/-- Widths of the operation header (Table 1.1). -/
def okHdr (h : OpHdr) : Bool :=
  ok8 h.opcode && ok8 h.flags && ok16 h.status && ok64 h.rid && ok16 h.tenant && ok16 h.ns && ok8 h.qos && ok8 h.durability &&
  ok16 h.tolerance && ok32 h.deadline && ok16 h.keyLen && ok64 h.valueLen && ok64 h.offset && ok64 h.condVersion && ok32 h.txn

/-- Widths of the work tag (Table 0.3). -/
def okTag (t : WorkTag) : Bool :=
  decide (t.tenant < 2 ^ 12) && decide (t.ns < 2 ^ 14) && ok16 t.session && decide (t.keySlot < 2 ^ 17) && decide (t.deadline < 2 ^ 40) &&
  decide (t.durability < 4) && decide (t.qos < 8) && decide (t.kind < 64) && decide (t.chunk < 2 ^ 14)

/-- Widths of a request's name. -/
def okOrigin : Origin → Bool
  | .session sid rid => ok16 sid && ok64 rid
  | .sideband ch ex => ok16 ch && ok16 ex
  | .ring pos seq => okPosition pos && ok64 seq
  | .twin opId => ok64 opId

/-- The operands of a command fit their fields. -/
def Instr.wf : Instr → Bool
  | .put o => okOrigin o
  | .putCommit o => okOrigin o
  | .delete o => okOrigin o
  | .get o => okOrigin o
  | .getRange o => okOrigin o
  | .existsKey o => okOrigin o
  | .list o => okOrigin o
  | .batch o => okOrigin o
  | .batchAtomic o => okOrigin o
  | .locGet o => okOrigin o
  | .locDelete o => okOrigin o
  | .relocAck o => okOrigin o
  | .ping o => okOrigin o
  | .deadlineMissed o => okOrigin o
  | .commitWaitExpiry version => ok64 version
  | .supersedeConfirm ns _ => okNs ns
  | .openFrame _ _ _ => true
  | .sessionOpen o _ _ => okOrigin o
  | .sessionClose o => okOrigin o
  | .sessionRekey o _ => okOrigin o
  | .dataFrame _ => true
  | .ackFrame _ => true
  | .ackDelayExpiry sid => ok16 sid
  | .retransmissionTimeout sid path => ok16 sid && okPath path
  | .keepAlive sid path => ok16 sid && okPath path
  | .idleTimeout sid => ok16 sid
  | .openingTimeout sid => ok16 sid
  | .drainComplete sid => ok16 sid
  | .drainingTimeout sid => ok16 sid
  | .windowReopenAck sid => ok16 sid
  | .pathSilence sid path => ok16 sid && okPath path
  | .rekeyRequired sid _ => ok16 sid
  | .sessionExhausted sid _ => ok16 sid
  | .keyPhaseRetire sid => ok16 sid
  | .shearsAdmit port => okPort port
  | .fwdWrite opId aux tag h _ => ok64 opId && ok64 aux && okTag tag && okHdr h
  | .fwdRead opId aux tag h _ => ok64 opId && ok64 aux && okTag tag && okHdr h
  | .fwdReply opId h _ => ok64 opId && okHdr h
  | .fwdData opId chunk _ => ok64 opId && ok32 chunk
  | .mirror opId _ version aux _ _ _ => ok64 opId && ok64 version && ok64 aux
  | .mirrorAck opId _ => ok64 opId
  | .prepare opId txn tag h _ _ => ok64 opId && ok32 txn && okTag tag && okHdr h
  | .prepared txn _ => ok32 txn
  | .refused txn => ok32 txn
  | .commit opId txn version => ok64 opId && ok32 txn && ok64 version
  | .abort txn => ok32 txn
  | .committed txn => ok32 txn
  | .prepareTimeout txn => ok32 txn
  | .heartbeat seq _ _ _ _ => ok64 seq
  | .heartbeatSend => true
  | .reserveReq _ _ => true
  | .reserveGrant _ _ => true
  | .chunkFetch opId ns tag version chunk _ => ok64 opId && okNs ns && ok32 tag && ok64 version && ok32 chunk
  | .chunkData opId _ _ => ok64 opId
  | .chunkFetchTimeout opId => ok64 opId
  | .tableChange opId seq _ => ok64 opId && ok64 seq
  | .tableAck opId seq => ok64 opId && ok64 seq
  | .hello _ _ => true
  | .resyncData _ _ _ _ aux => ok64 aux
  | .homeReturn version => ok64 version
  | .twinLinkUp _ _ _ _ _ => true
  | .twinLinkDownTimeout => true
  | .heartbeatSilence => true
  | .joiningTimeout => true
  | .leaseReq src seq epoch => okPosition src && ok64 seq && ok32 epoch
  | .leaseReqResend => true
  | .probe src seq => okPosition src && ok64 seq
  | .probeAnswer src seq => okPosition src && ok64 seq
  | .witnessProbeTick _ => true
  | .witnessGrantHold pos => okPosition pos
  | .leaseGrant src seq epoch => okPosition src && ok64 seq && ok32 epoch
  | .leaseDeny src seq _ => okPosition src && ok64 seq
  | .fencedNotice src seq => okPosition src && ok64 seq
  | .clear src seq => okPosition src && ok64 seq
  | .clearSend => true
  | .cleared src seq => okPosition src && ok64 seq
  | .clearanceLapse => true
  | .leaseAssert src seq epoch => okPosition src && ok64 seq && ok32 epoch
  | .leaseAssertSend => true
  | .leaseRelease src seq => okPosition src && ok64 seq
  | .witnessFreezeEnd => true
  | .witnessGrant ch => okChannel ch
  | .witnessFence ch => okChannel ch
  | .witnessClear ch => okChannel ch
  | .witnessWrite ch v => okChannel ch && ok32 v
  | .twinAdopt o _ => okOrigin o
  | .twinRelease o => okOrigin o
  | .ringHello src _ _ _ _ _ _ _ => okPosition src
  | .ringHelloSend => true
  | .ringLinkLoss _ => true
  | .ringFrameForward _ => true
  | .mgmtReq src seq h _ => okPosition src && ok64 seq && okHdr h
  | .mgmtReply src seq h _ => okPosition src && ok64 seq && okHdr h
  | .migrateData src seq ns job _ => okPosition src && ok64 seq && okNs ns && ok16 job
  | .migrateCtl src seq ns job _ => okPosition src && ok64 seq && okNs ns && ok16 job
  | .ptpMessage _ => true
  | .tenantCreate o => okOrigin o
  | .tenantDelete o => okOrigin o
  | .nsCreate o => okOrigin o
  | .nsDelete o => okOrigin o
  | .nsSetQuota o => okOrigin o
  | .nsRaiseGen o => okOrigin o
  | .nsSetSoloWrites o => okOrigin o
  | .nsInfo o => okOrigin o
  | .sweepComplete n => okNs n
  | .arrayReadComplete o chunk gran src cws _ =>
    okOrigin o && ok32 chunk && okGranule gran && src.all (fun c => decide (c < 32)) && decide (cws.length ≤ 4) && cws.all okCw
  | .suspendComplete die => okDie die
  | .busyWindowEntry die => okDie die
  | .starvationGuardTrip die => okDie die
  | .reconInterval => true
  | .programComplete die => okDie die
  | .eraseComplete die => okDie die
  | .programFail die => okDie die
  | .eraseFail die => okDie die
  | .shelfDrain => true
  | .shelfAdmit o => okOrigin o
  | .folding _ => true
  | .clipVictimSelect _ => true
  | .patrolVisit sb cws => okSuperblock sb && cws.all okCw
  | .patrolLate sb => okSuperblock sb
  | .healthWearUpdate => true
  | .deltaDrain => true
  | .checkpoint => true
  | .powerFail => true
  | .flushComplete => true
  | .holdupMeasure _ _ => true
  | .kekImport session index _ _ _ => ok16 session && ok8 index
  | .tenantKeyLoad o _ => okOrigin o
  | .keyEraseWrapping o => okOrigin o
  | .keyErasePrevious o => okOrigin o
  | .keyEraseCurrent o => okOrigin o
  | .keyEraseTenant o => okOrigin o
  | .keyEraseSystem o => okOrigin o
  | .slotBufferRelease _ => true
  | .storageLoadResume _ => true
  | .hollyDispatch _ _ _ => true
  | .compatSuspend _ => true
  | .compatResume _ _ tag => okTag tag
  | .drbgError => true
  | .autonegComplete port _ => okPort port
  | .trainingComplete port _ => okPort port
  | .linkUp port => okPort port
  | .linkDown port _ _ => okPort port
  | .holdoffExpiry port => okPort port
  | .trainingFail port _ => okPort port
  | .speedFallbackExpiry port _ => okPort port
  | .portRetrain ch port => okChannel ch && okPort port
  | .portEnableWrite ch port _ => okChannel ch && okPort port
  | .frameReceive _ => true
  | .arpFrame _ => true
  | .ndFrame _ => true
  | .icmpEcho port vid _ _ _ => okPort port && okVid vid
  | .dhcpMessage _ => true
  | .dhcpLeaseLost port vid _ => okPort port && okVid vid
  | .lldpFrame port _ _ _ _ => okPort port
  | .lldpTransmit => true
  | .txtsRead port => okPort port
  | .statsModeWrite ch port v => okChannel ch && okPort port && ok32 v
  | .w1cWrite ch addr v occur => okChannel ch && ok16 addr && ok32 v && ok32 occur
  | .entryRead ch => okChannel ch
  | .entryWrite ch => okChannel ch
  | .entryInvalidate ch => okChannel ch
  | .entryMove ch => okChannel ch
  | .actionRead ch => okChannel ch
  | .actionWrite ch => okChannel ch
  | .bankWidthWrite ch v => okChannel ch && ok32 v
  | .defaultActionWrite ch port v => okChannel ch && okPort port && ok32 v
  | .probeFirst ch => okChannel ch
  | .probeNext ch => okChannel ch
  | .privetScrub _ _ _ _ => true
  | .ppsInEdge _ => true
  | .todMessage _ => true
  | .sourceLost _ => true
  | .sourceChange _ => true
  | .holdoverTrustLost => true
  | .wallSet ch _ ns => okChannel ch && okNs ns
  | .optimeReservation => true
  | .ppsOutEdge => true
  | .leapSecond => true
  | .meterTick _ _ => true
  | .meterExtendedEnd => true
  | .meterIntervalWrite ch v => okChannel ch && ok32 v
  | .weightRecalibrate _ _ _ _ => true
  | .meterRead o => okOrigin o
  | .meterAck o => okOrigin o
  | .zeroizePin => true
  | .tamperLoopSample _ => true
  | .zeroizeArm ch => okChannel ch
  | .zeroizeConfirm ch => okChannel ch
  | .zeroizeArmExpiry => true
  | .zeroiseEraseComplete => true
  | .maintEnableWrite ch v => okChannel ch && ok32 v
  | .maintFuseArm ch => okChannel ch
  | .maintFuseConfirm ch => okChannel ch
  | .maintToken session services _ _ _ _ _ => ok16 session && ok8 services
  | .maintExit session => ok16 session
  | .maintDurationExpiry => true
  | .svnRaise => true
  | .continuousTestFail _ => true
  | .getVersion => true
  | .getCapabilities _ => true
  | .negotiateAlgorithms _ => true
  | .getDigests session => ok16 session
  | .getCertificate session _ => ok16 session
  | .challenge _ => true
  | .getMeasurements session index => ok16 session && ok8 index
  | .keyExchange => true
  | .finish session _ _ _ => ok16 session
  | .spdmHeartbeat session => ok16 session
  | .keyUpdate session => ok16 session
  | .endSession session => ok16 session
  | .getCsr session => ok16 session
  | .setCertificate session _ _ _ => ok16 session
  | .vendorDefinedRequest session _ => ok16 session
  | .supplyLow mv => ok32 mv
  | .supplyHigh mv => ok32 mv
  | .auxLost => true
  | .auxRestored => true
  | .pwrdisAssert _ => true
  | .mrstN => true
  | .slotIdChange straps => okPosition straps
  | .twinPrsntChange _ => true
  | .i3cDynamicAddress .. => true
  | .i3cRstdaa => true
  | .locateExpiry => true
  | .start _ => true
  | .deviceReady => true
  | .startTimeout => true
  | .clusterFault => true
  | .xipRelease ch => okChannel ch
  | .tcmLoadComplete => true
  | .xipResume ch => okChannel ch
  | .xipAutoResume => true
  | .optfOperationComplete => true
  | .activateFirmware session => ok16 session
  | .idleDwell _ => true
  | .wakeComplete => true
  | .toleranceWindowExpiry => true
  | .stateLimitWrite ch v => okChannel ch && ok32 v
  | .capWrite ch v => okChannel ch && ok32 v
  | .governor1ms mw => ok32 mw
  | .governor100ms mw => ok32 mw
  | .tempSample _ _ => true
  | .thermalStageExit => true
  | .thermalShutdownTimeout => true
  | .sensorFault sensor => okSensor sensor
  | .stagingFlush => true
  | .logGroupWritten => true
  | .logFreeze o => okOrigin o
  | .logThaw o => okOrigin o
  | .logFreezeTimeout => true
  | .clearPinned ch => okChannel ch
  | .clearAll ch => okChannel ch
  | .logWindowLoad ch _ => okChannel ch
  | .healthSave => true
  | .tempBinMinute => true
  | .eventEnableWrite ch word v => okChannel ch && okEvenWord word && ok32 v
  | .attrRead o => okOrigin o
  | .attrWrite o => okOrigin o
  | .attrBulkRead o => okOrigin o
  | .clipForce o => okOrigin o
  | .patrolFull o => okOrigin o
  | .nsSanitize o => okOrigin o
  | .nsRekey o => okOrigin o
  | .dieRetire o => okOrigin o
  | .dieUnresponsive die => okDie die
  | .twinResync o => okOrigin o
  | .nsMigrate o => okOrigin o
  | .nsExport o => okOrigin o
  | .nsImport o => okOrigin o
  | .selftestExt o => okOrigin o
  | .jobSuspend o => okOrigin o
  | .jobResume o => okOrigin o
  | .jobCancel o => okOrigin o
  | .jobStatus o => okOrigin o
  | .jobStep id x => ok16 id && x.cws.all okCw
  | .jobDequeue => true
  | .jobEntryExpiry id => ok16 id
  | .jobSuspendedLong id => ok16 id
  | .fwDownload o _ => okOrigin o
  | .downloadIdleTimeout => true
  | .fwActivate o twinDl _ => okOrigin o && ok8 twinDl
  | .fwActivateRestart o twinDl _ => okOrigin o && ok8 twinDl
  | .fwRollStep _ => true
  | .fwRollFailed cluster => okCluster cluster
  | .clusterReset ch cluster => okChannel ch && okCluster cluster
  | .portReset ch port => okChannel ch && okPort port
  | .twinPortReset ch => okChannel ch
  | .hedgerowPortReset ch _ => okChannel ch
  | .driveReset ch => okChannel ch
  | .sidebandLockWrite ch v => okChannel ch && ok32 v
  | .opMessage session exchange h _ => ok16 session && ok16 exchange && okHdr h
  | .getSensorReading session _ => ok16 session
  | .getStateSensorReadings session _ => ok16 session
  | .pldmFwUpdate session component off len _ _ => ok16 session && ok8 component && ok32 off && ok32 len
  | .mctpControl command arg => ok8 command && ok8 arg
  | .eraseWindowEnd die => okDie die
  | .auxPowerApplied _ => true
  | .auxPowerRemoved => true
  | .ptpIntervalTransmit port _ => okPort port
  | .duplicateAddressDetection port vid _ _ => okPort port && okVid vid
  | .maintFuseArmExpiry => true

end Sys2Proof
end

