-- ==== Sys2Proof/Machine/State.lean ====
section
/-! DEFINITION. Machine/State.lean: every piece of state the spec gives the drive, as plain data; the value of each field after
reset is the field's default, and `State.reset` is the drive as delivered, before any power is applied (log entries 1 and 2). -/

namespace Sys2Proof.Machine
open Sys2Proof

/-- A stop that the spec calls a fault of the machine itself. No meaning of this model raises one: every command of the table has an
effect the spec gives, and a command that finds nothing to act on changes nothing (log entry 5). Safe. -/
inductive Fault where
  /-- raised by nobody -/
  | none
deriving DecidableEq, Repr

/-- A command the model refuses. -/
inductive Refusal where
  /-- raised by an arm of `exec` whose command has no meaning yet; safe -/
  | notModelled (mnemonic : String)
deriving DecidableEq, Repr

/-! ## What leaves the drive -/

/-- A visible action of the drive towards the outside, in the order it happens (newest first in `Drive.out`). -/
inductive Out where
  /-- a reply message: header and payload (Tables 1.3, 2.6) -/
  | reply (o : Origin) (h : OpHdr) (body : Bytes)
  /-- data bytes of a streaming reply, the chunk they came from -/
  | data (o : Origin) (chunk : Nat) (bytes : Bytes)
  /-- a reply trailer (Table 1.7) -/
  | trailer (o : Origin) (status : Nat) (reconstructed repaired : Bool) (chunk total : Nat)
  /-- a GKP frame: path, peer, IP header (R495, R497, R498), PCP (R497), session, frame type, sequence, flags, acknowledge, window,
  ce_count, payload length; of an ACK its ack_delay and ranges (Table 8.9) -/
  | frame (path : Nat) (peer : Peer) (ip : IpSent) (pcp sid ftype seq flags ack window ce len ackDelay : Nat) (ranges : List (Nat × Nat))
  /-- an OPEN_REPLY, to the source of its OPEN -/
  | openReply (path : Nat) (peer : Peer) (ip : IpSent) (pcp sid : Nat) (h : OpHdr) (body : Bytes)
  /-- a twin message (Table 6.5) -/
  | twin (m : TwinMsg)
  /-- the twin is asked to roll the image of this digest (R848) -/
  | twinRoll (digest : Nat)
  /-- what TWIN_ADOPT sends to the adoptee under the TRANSFER key (R417) -/
  | adoption (a : Adoption)
  /-- a ring frame: type, destination (none: broadcast), class, fields -/
  | ring (code : Nat) (dest : Option Nat) (cls : Nat) (args : List Nat) (body : Bytes)
  /-- a frame of a drive-answered protocol on a port: protocol, what, fields, IP header where it is an IP packet, PCP where R497 states
  one and the frame carries a tag -/
  | port (port proto what : Nat) (args : List Nat) (ip : Option IpSent) (pcp : Option Nat)
  /-- a response on the sideband: channel, kind, fields, payload -/
  | sideband (channel kind : Nat) (args : List Nat) (body : Bytes)
  /-- the outcome of a single-word attribute write: channel (0 sideband, 1 session 0), address, status, offset -/
  | attr (channel addr status offset : Nat)
  /-- an edge or message on the time outputs -/
  | pps (ns : Nat) (tod : Bytes)
deriving DecidableEq, Repr

/-! ## Requests in progress (chapters 1, 2, 8) -/

/-- How far a request has come.
`queued`: in its tenant's Shears queue (R472). `active`: admitted. `sealed`: a PUT sealed and held at the home (R44).
`atTwin`: forwarded, waiting for the twin. `waiting`: sequenced, its reply waits for durability or the commit wait.
`streaming`: a read sending chunks. `coordinating`: a cross-home batch that has sent PREPARE; `decided`: it has sent COMMIT.
`table`: a pair-wide table change waits (R871). `job`: answered by what a job does. -/
inductive ReqPhase where
  | queued | active | sealed | atTwin | waiting | streaming | coordinating | decided | table | job
deriving DecidableEq, Repr

/-- A request the drive holds (R42, R85, R472): from the moment its message is whole until its reply is sent. -/
structure Req where
  origin : Origin
  hdr : OpHdr
  body : Bytes := []
  tag : WorkTag := {}
  /-- sequencer input: 0 port A, 1 port B, 2 twin link, 3 hedgerow (R81) -/
  input : Nat := 0
  /-- receive time of its first frame, in ns (R231), and that frame's sequence number in its session (R85) -/
  arrival : Nat := 0
  firstSeq : Nat := 0
  phase : ReqPhase := .queued
  /-- the nonce counter its record was sealed under (R392) -/
  nonce : Nat := 0
  serial : Nat := 0
  /-- its success is told to the host by the receiver of its mirror (ORIGIN_REPLY, R307) -/
  silent : Bool := false
  /-- version assigned, once it is -/
  version : Nat := 0
  /-- the op_id under which it stands at the twin (mirror, forward or prepare) -/
  opId : Nat := 0
  needWait : Bool := false
  needMirror : Bool := false
  needProg : Bool := false
  needTwinProg : Bool := false
  /-- granules and keys to release when it completes (R48, R169) -/
  release : Nat := 0
  /-- data bytes of a forwarded read passed on so far -/
  sent : Nat := 0
  replyHdr : OpHdr := {}
  replyBody : Bytes := []
  results : List MemberResult := []
  /-- members still at the twin or unmirrored: op_id and member index -/
  parts : List (Nat × Nat) := []
  /-- (serial, nonce) each member is sealed under (R302) -/
  seals : List (Nat × Nat) := []
  /-- when PREPARE was sent (R132) -/
  prepareAt : Nat := 0
  /-- namespaces of a decided batch whose generation has been raised since: their members are dead (R154, R385) -/
  dead : List Nat := []
deriving DecidableEq, Repr

/-- A reply that is streaming chunks read from flash (R53 to R61). -/
structure Stream where
  origin : Origin
  rec_ : Rec
  place : Place
  /-- next chunk to send, first chunk not to send -/
  next : Nat
  stop : Nat
  /-- first byte and one past the last byte of the range -/
  lo : Nat
  hi : Nat
  /-- the tag of its media work (R10) -/
  tag : WorkTag := {}
  /-- the reply header has left (R38, R53) -/
  started : Bool := false
  reconstructed : Bool := false
  repaired : Bool := false
  /-- the present read is that of the record's header and key (R62, R166) -/
  headerOnly : Bool := false
  /-- LIST: positions and keys still to read, and the entries built (R71) -/
  todo : List (Nat × Bytes) := []
  items : List (Nat × Bytes) := []
  /-- tag-ladder step now running: 0 none, 1 reread, 2 parity, 3 twin fetch (R224); 9 waits for another reply's ladder (R228) -/
  ladder : Nat := 0
  fetchOp : Nat := 0
  fetchAt : Nat := 0
  /-- the fetch waits for room on the twin link (R301) -/
  fetchDue : Bool := false
  /-- a page of the present read has failed its decode -/
  failed : Bool := false
deriving DecidableEq, Repr

/-! ## Namespaces, the directory, locators (chapter 3) -/

/-- A namespace (Table 3.4); an id not listed is FREE and has never been used. -/
structure Ns where
  /-- Table 3.1: 0x20 FREE, 0x21 ACTIVE, 0x22 SWEEPING, 0x23 DELETING, 0x24 RETIRED -/
  state : Nat := 0x20
  located : Bool := false
  solo : Bool := false
  soloWrites : Bool := false
  owner : Nat := 0
  gen : Nat := 0
  /-- highest generation the id has had (R147) -/
  topGen : Nat := 0
  quota : Nat := 0
  used : Nat := 0
  count : Nat := 0
  physical : Nat := 0
  /-- generation floor, a version (R154) -/
  floor : Nat := 0
  /-- a full rebuild left groups unresolved for want of the storage key (R284) -/
  unresolved : Bool := false
  /-- writes are held by a migration cutover (R359) -/
  cutover : Bool := false
deriving DecidableEq, Repr

/-- A directory entry (R163) of a key. The key and the full version stand for what confirmation reads (R166). -/
structure DirEnt where
  ns : Nat
  key : Bytes
  version : Nat
  place : Place
  granules : Nat
  supersede : Bool := false
  pending : Bool := false
  marked : Bool := false
deriving DecidableEq, Repr

/-- A forwarding entry (Table 3.10). -/
structure FwdEnt where
  oldSb : Nat
  oldGran : Nat
  oldEpoch : Nat
  newSb : Nat
  newGran : Nat
  newEpoch : Nat
  ns : Nat
  granules : Nat
  homeBit : Nat := 0
deriving DecidableEq, Repr

/-- A deletion that readers may not yet be told of: it waits for the twin's acknowledgement or for the commit wait (R88, R297). -/
structure Tomb where
  ns : Nat
  key : Bytes
  version : Nat
  pending : Bool
deriving DecidableEq, Repr

/-- A key held by a cross-home batch (R129), by its transaction id. -/
structure Hold where
  ns : Nat
  key : Bytes
  txn : Nat
  coordinator : Bool
deriving DecidableEq, Repr

/-- A batch prepared at the participant (R134): what COMMIT installs. -/
structure Prepared where
  txn : Nat
  opId : Nat
  members : List Member
  hdr : OpHdr
  tag : WorkTag
  seals : List (Nat × Nat) := []
  committed : Bool := false
  dead : List Nat := []
deriving DecidableEq, Repr

/-- A table change not yet held by both drives (R140, R871). -/
structure PendingChange where
  seq : Nat
  change : TableChange
  origin : Origin
  hdr : OpHdr
  body : Bytes := []
  needAck : Bool
  needDrain : Bool
  needVault : Bool := false
deriving DecidableEq, Repr

/-- A record of the write shelf (R267). -/
structure ShelfRec where
  rec_ : Rec
  /-- where it is being or has been programmed -/
  target : Option (Nat × Nat) := none
  /-- the twin asked for PROGRAMMED, or a request waits for media durability -/
  mirrorOp : Option Nat := none
  at_ : Nat := 0
deriving DecidableEq, Repr

/-- The indexes a drained delta area holds: what survives a lost flush (R281). -/
structure Durable where
  tenants : List Nat := []
  nss : Tbl Ns := []
  dir : List DirEnt := []
  fwd : List FwdEnt := []
  live : List (Nat × Nat) := []
  reservedTick : Nat := 0
deriving DecidableEq, Repr

/-- The key-value service, the directory and the sequencer (chapters 1 to 3). -/
structure Kv where
  /-- tenants created, beside tenant 0 (Table 3.1) -/
  tenants : List Nat := []
  nss : Tbl Ns := []
  dir : List DirEnt := []
  tombs : List Tomb := []
  /-- places of located records that are marked (R61, R181) -/
  locMarked : List (Nat × Nat) := []
  fwd : List FwdEnt := []
  fwdPaused : Bool := false
  fwdExhausted : Bool := false
  /-- set bits of the located live maps: (superblock, granule) (R195) -/
  live : List (Nat × Nat) := []
  /-- map pages in the 2 GiB cache, most recently used first: superblock and page of its map (R196) -/
  mapCache : List (Nat × Nat) := []
  shelf : Tbl ShelfRec := []
  shelfNext : Nat := 0
  reqs : List Req := []
  streams : List Stream := []
  /-- greatest version assigned or installed (R22, R298) -/
  lastVersion : Nat := 0
  txnCounter : Nat := 0
  holds : List Hold := []
  prepared : List Prepared := []
  /-- table changes pending, and the sequence of the next -/
  changes : List PendingChange := []
  tableSeq : Nat := 0
  /-- DIR_HIGH_WATER is armed; DIR_FULL is armed for cause 1 and for cause 2 (R174) -/
  dirArmed : Bool := true
  dirFullArmed1 : Bool := true
  dirFullArmed2 : Bool := true
  dirPlaceFail : Nat := 0
  directoryKey : Config.Key := .raw 0
  locatorKey : Config.Key := .raw 0
  durable : Durable := {}
deriving DecidableEq, Repr

/-! ## The flash array (chapters 4 and 5) -/

/-- A superblock (Table 5.1, R262). An index not listed is FREE, erased, of no wear. -/
structure Superblock where
  /-- 0 FREE, 1 DIRTY, 2 OPEN, 3 CLOSED, 4 VICTIM, 5 RESERVED, 6 DONOR -/
  state : Nat := 0
  slc : Bool := false
  stream : Nat := 0
  seq : Nat := 0
  eraseQlc : Nat := 0
  eraseSlc : Nat := 0
  /-- next granule to write -/
  wptr : Nat := 0
  closedAt : Nat := 0
  visitedAt : Nat := 0
  codeword : Nat := 0
  /-- records placed in it, by granule, in order -/
  recs : List (Nat × Rec) := []
  /-- operating time in ms at which each was programmed (Table 4.3) -/
  progAt : List (Nat × Nat) := []
  /-- chosen for refresh ahead of reclamation (R260) -/
  refresh : Bool := false
  /-- channels whose block is still to be erased, and erases running (Table 5.5, step 7) -/
  eraseTodo : List Nat := []
  eraseBusy : Nat := 0
deriving DecidableEq, Repr

/-- What a program does. -/
inductive ProgramJob where
  | shelf (idx : Nat)
  | clip (fromSb fromGran : Nat) (record : Rec)
  | repair (record : Rec) (fromSb fromGran : Nat)
deriving DecidableEq, Repr

/-- An array operation on one die (Table 4.8). kind: 0 read, 1 program, 2 erase. -/
structure DieOp where
  kind : Nat
  slc : Bool := false
  /-- superblock it belongs to and granule it writes -/
  sb : Nat := 0
  gran : Nat := 0
  /-- an erase: the channel of the block -/
  channel : Nat := 0
  job : Option ProgramJob := none
  /-- in its non-suspendable window (R214) -/
  window : Bool := false
  suspended : Bool := false
  suspendedAt : Nat := 0
  /-- suspended and ready for reads (Table 4.8) -/
  ready : Bool := false
  suspensions : Nat := 0
  suspendedNs : Nat := 0
  guarded : Bool := false
  /-- waits because its die group has a busy interval (R215) -/
  held : Bool := false
  /-- when it began, for an erase's first 400 µs (R214) -/
  startedAt : Nat := 0
  /-- its work tag (R6) -/
  tag : WorkTag := {}
deriving DecidableEq, Repr

/-- A queued or running array read, or a page being rebuilt (R210 to R224). -/
structure ReadJob where
  origin : Origin
  die : Nat
  /-- the plane its block lies in (Table 4.1) -/
  plane : Nat := 0
  sb : Nat
  gran : Nat
  chunk : Nat
  codewords : Nat
  /-- its work tag: WAITABLE decides how it meets a busy die (R216, R217) -/
  tag : WorkTag := {}
  /-- 0 running on its die, 1 being rebuilt from its stripe, 2 waiting for a busy die, 3 queued for its die -/
  mode : Nat := 3
  /-- a source page of a rebuild: its channel (R218) -/
  src : Option Nat := none
  /-- a rebuild: sources still to be read, and codewords that one of them could not give -/
  left : Nat := 0
  bad : List Nat := []
  /-- why it is rebuilt: 0 around a busy die (R217), 1 step 4 of R222, 2 step 2 of the tag ladder (R224), 3 its die is gone (R257) -/
  why : Nat := 0
  /-- the reply it was read for has gone -/
  dead : Bool := false
deriving DecidableEq, Repr

/-- A delta record (Table 5.6). -/
structure Delta where
  kind : Nat
  ns : Nat := 0
  tag : Nat := 0
  version : Nat := 0
  newLoc : Nat := 0
  oldLoc : Nat := 0
  len : Nat := 0
deriving DecidableEq, Repr

/-- A substitution (R250, R253). -/
structure Substitute where
  sb : Nat
  channel : Nat
  die : Nat
  block : Nat
deriving DecidableEq, Repr

/-- A checkpoint root (R277). -/
structure Root where
  generation : Nat := 0
  deltaSeq : Nat := 0
  clean : Bool := false
  valid : Bool := false
  /-- superblock state table with sb_sequence and wear, substitutions, counter reservations by counter id, write pointers of open superblocks -/
  states : List (Nat × Nat × Nat × Nat) := []
  subs : List Substitute := []
  counters : List (Nat × Nat) := []
  wptrs : List (Nat × Nat) := []
deriving DecidableEq, Repr

/-- A clip in progress: the victim and what remains to be copied (R245). -/
structure Clip where
  sb : Nat
  todo : List (Nat × Rec)
  /-- copies programming -/
  busy : Nat := 0
  fold : Bool := false
deriving DecidableEq, Repr

structure Media where
  waitThresholdUs : Nat := 200
  reconDenied : Nat := 0
  sbs : Tbl Superblock := []
  /-- members of the SLC region that have been exchanged: superblock to part (Table 5.2), else the default layout -/
  parts : Tbl Nat := []
  /-- the operation of each of the 512 dies -/
  dies : Tbl DieOp := []
  reads : List ReadJob := []
  /-- repaired copies still to be written: the record and where it is now (R225) -/
  repairs : List (Rec × Nat × Nat) := []
  /-- programs that have verified and whose deltas the delta log does not yet take: job, superblock, granule (R268) -/
  verified : List (ProgramJob × Nat × Nat) := []
  /-- codewords read for reconstruction since the 10 ms interval began, that interval and its capacity (R220) -/
  reconUsed : Nat := 0
  reconInterval : Nat := 0
  reconCapacity : Nat := 711111
  sbSeqNext : Nat := 0
  sbSeqReserved : Nat := 0
  /-- deltas not yet drained, oldest first, with their sequence numbers -/
  delta : List (Nat × Delta) := []
  deltaNext : Nat := 0
  /-- the oldest delta the delta area still holds -/
  deltaOldest : Nat := 0
  /-- the deltas it holds, with their sequence numbers (R268, R334) -/
  deltaArea : List (Nat × Delta) := []
  deltaLimitMiB : Nat := 768
  drainedBytes : Nat := 0
  shelfLimitMiB : Nat := 1024
  /-- a shelf drain is allowed: not stopped by a low FREE count (Table 5.4) -/
  drainStopped : Bool := false
  clips : List Clip := []
  roots : Root × Root := ({}, {})
  checkpoints : Nat := 0
  checkpointAt : Nat := 0
  substitutes : List Substitute := []
  /-- unused substitute blocks: (die, block) -/
  unusedSubs : List (Nat × Nat) := []
  retiredBlocks : Nat := 0
  retiredDies : List Nat := []
  /-- dies that do not answer and whose retirement has not finished (R257) -/
  silentDies : List Nat := []
  /-- wear statistics: decile of WEAR_BEYOND_RATED last recorded, SPARE_LOW and WEAR_READ_ONLY latches -/
  wearDecile : Nat := 9
  spareLow : Bool := false
  wearReadOnly : Bool := false
  wearAvgPct : Nat := 0
  wearMaxPct : Nat := 0
  /-- superblocks whose PATROL_LATE has been recorded -/
  lateRecorded : List Nat := []
  patrolFastBy : Nat := 0
  /-- read levels by block group, 32 × die + block / 64, as last recalibrated (R259) -/
  levels : Tbl Nat := []
  /-- located live-map pages of the last checkpoint and the CHECKPOINT-stream superblocks that hold them (R196) -/
  mapSbs : List Nat := []
  /-- hold-up bank (R273): energy in mJ, and whether the last measurement was low, failed -/
  holdupMj : Nat := 4400
  holdupLow : Bool := false
  holdupFailed : Bool := false
  holdupAt : Nat := 0
  /-- a power-fail flush runs; a flush record is valid; the next start follows an unclean loss -/
  flushing : Bool := false
  flushValid : Bool := false
  unclean : Bool := false
deriving DecidableEq, Repr

/-! ## The twin and the hedgerow (chapter 6) -/

/-- A mirror or other operation sent to the twin and not yet answered (R300, R301). -/
structure TwinOp where
  opId : Nat
  msg : TwinMsg
  origin : Option Origin := none
  /-- the key it makes pending -/
  key : Option (Nat × Bytes) := none
  installed : Bool := false
deriving DecidableEq, Repr

/-- Twin states are numbered as Table 6.1. -/
structure Twin where
  /-- 0 UNPAIRED 1 JOINING 2 PAIRED 3 ALONE 4 HOLDER 5 FENCED 6 RESYNCING -/
  state : Nat := 0
  /-- the state held before JOINING (Table 6.2); 7: a paired drive that entered JOINING at start (R738) -/
  prior : Nat := 0
  /-- role kept from the last pair: none, elder (some 0) or younger (some 1) (R289, R291) -/
  role : Option Nat := none
  serial : Nat := 0
  pairId : Nat := 0
  epoch : Nat := 0
  linkUp : Bool := false
  authenticated : Bool := false
  /-- start of the current JOINING, of the link-down, in ns -/
  joiningSince : Nat := 0
  downSince : Nat := 0
  /-- pair tick = tickBase + opNs / 4, but not below tickFloor, where a younger that counts slow waits (R292, R295) -/
  tickBase : Nat := 0
  tickFloor : Nat := 0
  reservedTick : Nat := 0
  /-- COUNTER reservations not yet drained carry the start of their block -/
  offsetNs : Int := 0
  skewHigh : Bool := false
  opCounter : Nat := 0
  /-- operations of this drive outstanding at the twin, oldest first -/
  out : List TwinOp := []
  /-- op_ids received from the twin, newest first, with the reply they were answered with (R301) -/
  seen : List (Nat × Option TwinMsg) := []
  /-- unpublished mirror chunks: op_id to bytes received (R304) -/
  partials : Tbl Bytes := []
  /-- delta sequence up to which every mirror of the twin is installed: the resync point (R334) -/
  resyncPoint : Option Nat := none
  /-- delta sequence of this drive's last change to a mirrored namespace -/
  mirrorSeq : Nat := 0
  /-- changes this drive has sequenced in mirrored namespaces that the twin is not known to hold: namespace, key, version (R334, R336) -/
  unmirrored : List (Nat × Bytes × Nat) := []
  /-- TABLE_ACKs that wait for the drain of the change's delta (R140): op_id, table sequence -/
  acksDue : List (Nat × Nat) := []
  /-- the drive seen at the last link-up: serial, unpaired, holding no namespace (R340) -/
  seenSerial : Nat := 0
  seenUnpaired : Bool := false
  seenEmpty : Bool := false
  hbSeq : Nat := 0
  hbLastRx : Nat := 0
  hbLastRxAt : Nat := 0
  hbAcked : Nat := 0
  lOwnTwin : Nat := 0xFFFFFFFF
  /-- reservation held from the twin, and granted to it (R312 to R314) -/
  resGranules : Nat := 0
  resEntries : Nat := 0
  grantedGranules : Nat := 0
  grantedEntries : Nat := 0
  resAsked : Bool := false
  /-- TWIN.WITNESS: a position, 0x3E or 0x3F (R317) -/
  witness : Nat := 0x3F
  leaseReq : Nat := 0
  leaseSentAt : Nat := 0
  leaseDenied : Bool := false
  clearSentAt : Nat := 0
  clearance : Bool := false
  clearUntil : Nat := 0
  assertedAt : Nat := 0
  /-- resync: this drive receives; it was fenced before; the other also resyncs; records discarded -/
  wasFenced : Bool := false
  bothAlone : Bool := false
  fullResync : Bool := false
  resyncSending : Bool := false
  partnerPresent : Bool := false
deriving DecidableEq, Repr

/-- What a hedgerow witness keeps of a pair (R319), by pair number: the lease epoch, the holder, the fenced drive, and the requests
pending, each as (requester, time from which the silence of its twin counts). -/
structure WitnessRec where
  epoch : Nat := 0
  holder : Option Nat := none
  fenced : Option Nat := none
  pend : List (Nat × Nat) := []
  probeAt : Nat := 0
deriving DecidableEq, Repr

/-- A migration in progress at its source or destination (R356 to R360). -/
structure Migration where
  ns : Nat
  job : Nat
  source : Bool
  /-- 0 asked for, 1 copy, 2 catch-up, 3 cutover -/
  phase : Nat
  destElder : Nat := 0
  destYounger : Nat := 0
  destGen : Nat := 0
  /-- records sent so far, by key and version -/
  sent : List (Bytes × Nat) := []
deriving DecidableEq, Repr

/-- One direction of the ring as this drive knows it (R349). -/
structure RingSide where
  up : Bool := false
  /-- the link was up and has been declared broken -/
  broken : Bool := false
  helloAt : Nat := 0
  downAt : Option Nat := none
  /-- positions reachable through this side, bit p for position p -/
  reach : Nat := 0
deriving DecidableEq, Repr

structure Ring where
  east : RingSide := {}
  west : RingSide := {}
  /-- HEDGE.GM_POSITION; 0xFF none -/
  gmPosition : Nat := 0xFF
  hopDrops : Nat := 0
  helloSent : Nat := 0
  /-- next ring_seq by destination (32: broadcast), and numbers accepted: (source, broadcast, number) -/
  seqOut : Tbl Nat := []
  seqIn : List (Nat × Bool × Nat) := []
  /-- witness records by pair number, and the end of the grant freeze -/
  served : Tbl WitnessRec := []
  freezeUntil : Nat := 0
  migrations : List Migration := []
deriving DecidableEq, Repr
/-! ## Hawthorn and Holly (chapter 7) -/

/-- A storage slot (Tables 7.5 and 7.6): state 0x38 EMPTY, 0x39 CURRENT, 0x3A PREVIOUS, 0x3B SPENT. -/
structure StorageSlot where
  state : Nat := 0x38
  key : Config.Key := .raw 0
  serial : Nat := 0
  /-- next value of its write counter, and the end of the reserved block (R388 to R392) -/
  nonce : Nat := 0
  reserved : Nat := 0
  /-- greatest value recorded of the other drive's range (R394) -/
  otherHigh : Nat := 0
  /-- the twin's last reported count of live records under its serial (R378) -/
  twinCount : Nat := 0
  /-- the twin has been told that this drive's own count has fallen to zero (R378) -/
  zeroTold : Bool := false
  /-- old buffer still held for work minted before a rewrite (R375) -/
  oldKey : Option Config.Key := none
deriving DecidableEq, Repr

/-- A session slot (Table 7.6): 0x30 EMPTY, 0x31 ACTIVE, 0x32 REKEYING, 0x33 EXHAUSTED. -/
structure SessionSlot where
  state : Nat := 0x30
  key : Config.Key := .raw 0
  oldKey : Config.Key := .raw 0
  saltH2d : Nat := 0
  saltD2h : Nat := 0
  oldSaltH2d : Nat := 0
  oldSaltD2h : Nat := 0
  phase : Nat := 0
  /-- frames under the present traffic key, each direction (R399) -/
  framesIn : Nat := 0
  framesOut : Nat := 0
  rekeyNoticed : Bool := false
  /-- when the old phase is retired at the latest, first new-phase sequence verified (R401) -/
  rekeyAt : Nat := 0
  newVerified : Bool := false
deriving DecidableEq, Repr

/-- A system slot: 0x3C EMPTY, 0x3D LOADED, 0x3E REPLACING. -/
structure SystemSlot where
  state : Nat := 0x3C
  key : Config.Key := .raw 0
  oldKey : Option Config.Key := none
deriving DecidableEq, Repr

/-- A storage load that waits for its target slot to be free of work (R378). -/
structure LoadWait where
  origin : Origin
  blob : Blob
  slot : Nat
deriving DecidableEq, Repr

/-- An erase whose reply waits for the vault copies (R380). -/
structure EraseWait where
  origin : Origin
  hdr : OpHdr
deriving DecidableEq, Repr

structure Keys where
  root : Bool := false
  /-- operator KEK entries (SEC.KEK_PRESENT is their presence) -/
  keks : Tbl Config.Key := []
  /-- tenant wrapping keys -/
  wraps : Tbl Config.Key := []
  storage : Tbl StorageSlot := []
  sessions : Tbl SessionSlot := []
  system : Tbl SystemSlot := []
  /-- greatest storage serial the tenant has ever held (R379) -/
  topSerial : Tbl Nat := []
  /-- the key vault's two copies: entries that verify, by kind × 65536 + tenant -/
  vaultA : Tbl Config.Key := []
  vaultB : Tbl Config.Key := []
  pairId : Nat := 0
  loads : List LoadWait := []
  erases : List EraseWait := []
  /-- derived-key cache, most recently used first: (storage slot, namespace, generation) (R384) -/
  cache : List (Nat × Nat × Nat) := []
  cacheMisses : Nat := 0
  /-- DRBG: number of draws, error state (R411) -/
  draws : Nat := 0
  drbgError : Bool := false
  wireLimitDrops : Nat := 0
  /-- LINK and RING parameters of this power-up (R402, R403) -/
  ringRandom : Nat := 0
  ringSenders : Tbl (Nat × Nat × Nat) := []
deriving DecidableEq, Repr

/-- A checked pair of Holly (R404 to R409). -/
structure HollyPair where
  inService : Bool := true
  busy : Bool := false
  faults : Nat := 0
  quarantines : Nat := 0
  retired : Bool := false
deriving DecidableEq, Repr

/-- What a compatibility context holds (Table 7.13). -/
structure CompatContext where
  resumeId : Nat
  counterBlock : Nat
  ghash : Nat
  aadBytes : Nat
  dataBytes : Nat
deriving DecidableEq, Repr

structure Holly where
  pairs : Tbl HollyPair := []
  lastGiven : Nat := 11
  waiting : List HollyReq := []
  running : Tbl HollyReq := []
  faults : Nat := 0
  nextResume : Nat := 1
  /-- suspended compatibility contexts outstanding (R413, R414) -/
  contexts : List CompatContext := []
  /-- a compatibility step failed; the import job's next step ends it (R414) -/
  importError : Bool := false
deriving DecidableEq, Repr

/-! ## Sessions, transport and Shears (chapter 8) -/

/-- A frame sent and not yet acknowledged, or waiting to be sent. -/
structure TxFrame where
  seq : Nat
  path : Nat
  phase : Nat
  first : Bool
  last : Bool
  rid : Nat
  op : OpHdr := {}
  payload : Bytes
  sentAt : Nat := 0
  /-- sent once only, so that it yields a round-trip sample (R454) -/
  once : Bool := true
  sent : Bool := false
  /-- the transport header it was sealed with: flags, acknowledge, window, ce_count; none before Holly has sealed it (R397) -/
  wire : Option (Nat × Nat × Nat × Nat) := none
deriving DecidableEq, Repr

/-- One path of a session (R464 to R467). -/
structure Path where
  up : Bool := false
  source : Peer := {}
  /-- SRTT and RTTVAR (R454) and the least sample of the round (R462), in ns -/
  srtt : Nat := 0
  rttvar : Nat := 0
  sampled : Bool := false
  /-- the retransmission timeout in ns (R455) -/
  rto : Nat := 1000000
  timeouts : Nat := 0
  cwnd : Nat := 131072
  /-- alpha of R462 in units of 2^-20 -/
  alpha : Nat := 0
  /-- the least samples of the last 10 s: when, and its length in ns, both rising (R462) -/
  rtts : List (Nat × Nat) := []
  roundStart : Nat := 0
  roundCe : Nat := 0
  roundSent : Nat := 0
  roundRtt : Nat := 0
  lastSent : Nat := 0
  lastVerified : Nat := 0
  cutAt : Nat := 0
deriving DecidableEq, Repr

/-- A message being assembled from its frames (R424). -/
structure Assembly where
  rid : Nat
  op : OpHdr
  payload : Bytes
  path : Nat
  arrival : Nat
  tag : WorkTag
  firstSeq : Nat := 0
  /-- what deduplication found at its first frame: 0 new, 1 in the window, 2 older than the window, 3 new while DRAINING -/
  verdict : Nat := 0
deriving DecidableEq, Repr

/-- A ring descriptor (Table 8.10); state 1 ARRIVING, 2 WAITING, 3 ACTIVE, 4 REPLYING, 5 UNACKED. -/
structure Descriptor where
  rid : Nat
  state : Nat
  opcode : Nat
  path : Nat
  firstSeq : Nat
  /-- payload bytes received while arriving, reply bytes sent while replying -/
  bytes : Nat := 0
  replyLast : Nat := 0
  tag : WorkTag := {}
  /-- DRAM address of the first payload buffer, in 64-byte units -/
  buffer : Nat := 0
deriving DecidableEq, Repr

/-- The outcome of a request in its session's window (R96, R97): the reply where it is remembered; `forgot`: it ended with an outcome that
is not (R100). -/
structure DedupEnt where
  rid : Nat
  done : Bool := false
  forgot : Bool := false
  hdr : OpHdr := {}
  body : Bytes := []
deriving DecidableEq, Repr

/-- A queued notice (R477 to R479, Table 8.12). -/
structure Notice where
  kind : Nat
  status : Nat := 0
  ns : Nat := 0
  offset : Nat := 0
  body : Bytes := []
deriving DecidableEq, Repr

structure Session where
  /-- 0x40 CLOSED, 0x41 OPENING, 0x42 OPEN, 0x43 DRAINING -/
  state : Nat := 0x40
  tenant : Nat := 0
  tolerance : Nat := 65535
  idle : Nat := 30
  maxFrame : Nat := 9088
  paths : Nat := 1
  pathA : Path := {}
  pathB : Path := {}
  txNext : Nat := 0
  ackTx : Nat := 2 ^ 63
  /-- the drive's acknowledge: lowest data sequence not received -/
  rxNext : Nat := 0
  held : List Frame := []
  assemblies : List Assembly := []
  /-- acknowledge, window and ce_count received from the host -/
  peerAck : Nat := 0
  peerWindow : Nat := 1048576
  peerCe : Nat := 0
  ceCount : Nat := 0
  sinceAck : Nat := 0
  ackDue : Option Nat := none
  lastRxAt : Nat := 0
  /-- when a DATA frame last verified (R749) -/
  dataAt : Option Nat := none
  /-- a window of 0 was reopened: when its ACK is next repeated, and until when (R460) -/
  reopenNext : Nat := 0
  reopenUntil : Nat := 0
  windowZero : Bool := false
  ring : List Descriptor := []
  greatestRid : Nat := 0
  dedup : List DedupEnt := []
  /-- frames sent and not acknowledged, and frames waiting for window, oldest first -/
  unacked : List TxFrame := []
  openedAt : Nat := 0
  drainingAt : Nat := 0
  verifiedAt : Nat := 0
  closeWaits : List Origin := []
  /-- its own SESSION_CLOSE, whose reply is the last DATA frame (R438), and whether that has been handed over -/
  closeOwn : Option Origin := none
  finished : Bool := false
  endCause : Nat := 0
  notices : List Notice := []
  /-- MIGRATED and RELOCATED notices that found no place (R479) -/
  pendingNotices : List Notice := []
  noticeNext : Nat := 1
  noticeDropped : Nat := 0
  overflowRecorded : Bool := false
deriving DecidableEq, Repr

/-- A Shears shaper (Table 8.11) with its four buckets: level and time of the last refill. -/
structure Shaper where
  resOps : Nat := 0
  limOps : Nat := 0
  resKbps : Nat := 0
  limKbps : Nat := 0
  queueCap : Nat := 256
  throttled : Nat := 0
  /-- balances, in 10^-9 operations and bytes -/
  bResOps : Int := 0
  bLimOps : Int := 0
  bResBytes : Int := 0
  bLimBytes : Int := 0
  at_ : Nat := 0
  lastThrottled : Option Nat := none
deriving DecidableEq, Repr

structure Xport where
  sessions : Tbl Session := []
  shapers : Tbl Shaper := []
  classWeights : List Nat := [64, 32, 16, 8, 4, 2, 1]
  /-- round-robin credits left of classes 1 to 7, port A and port B -/
  creditsA : List Nat := [64, 32, 16, 8, 4, 2, 1]
  creditsB : List Nat := [64, 32, 16, 8, 4, 2, 1]
  idleDefault : Nat := 30
  ccDelayTarget : Nat := 20
  shaperSelect : Tbl Nat := []
  typeDrops : Nat := 0
  sessionMismatchDrops : Nat := 0
  closedDrops : Nat := 0
  authFailDrops : Nat := 0
  dupFrames : Nat := 0
  reorderDrops : Nat := 0
  ringFullDrops : Nat := 0
  orphanFrames : Nat := 0
  dedupDiscards : Nat := 0
  retransmits : Nat := 0
  rtoExpiries : Nat := 0
  throttledReplies : Nat := 0
  noticeDrops : Nat := 0
  pathDowns : Nat := 0
deriving DecidableEq, Repr

/-! ## Thicket, flags and health (chapter 16, Table 18.2) -/

/-- An event record (Table 16.1), its fields unpacked and its 32 bytes of payload. -/
structure Event where
  seq : Nat := 0
  opTime : Nat := 0
  cycles : Nat := 0
  epoch : Nat := 0
  wallSec : Nat := 0
  wallNs : Nat := 0
  sev : Nat := 0
  src : Nat := 0
  payload : Bytes := []
deriving DecidableEq, Repr

/-- An overflow episode (R780, R781). -/
structure Episode where
  total : Nat := 0
  first : Nat := 0
  last : Nat := 0
  maxSev : Nat := 0
  counts : Tbl Nat := []
deriving DecidableEq, Repr

/-- A management channel's own reading of the log (R783, R787, R789). -/
structure LogChan where
  area : Nat := 0
  cursor : Nat := 0
  window : List Event := []
  gap : Bool := false
  source : Nat := 0
deriving DecidableEq, Repr

structure Thicket where
  /-- LOG.STATE (Table 16.4) -/
  state : Nat := 0xE0
  /-- the next number; provisional while `based` is false (R772, R773) -/
  next : Nat := 1
  based : Bool := false
  staging : List Event := []
  /-- records of the group being written to the log -/
  writing : Nat := 0
  /-- the circular log and the pinned area, oldest first -/
  log : List Event := []
  pinned : List Event := []
  pinnedFull : Bool := false
  /-- records below these numbers are not kept in the circular log, not pinned (R797) -/
  logFloor : Nat := 0
  pinFloor : Nat := 0
  episode : Option Episode := none
  freezeEnd : Nat := 0
  frozenStaged : Nat := 0
  counts : Tbl Nat := []
  drops : Tbl Nat := []
  /-- EVEN.ENABLE and EVEN.NOTIFY words, EVEN.THRESHOLD (R798) -/
  enable : Tbl Nat := []
  notify : Tbl Nat := []
  threshold : Nat := 3
  sideband : LogChan := {}
  inband : LogChan := {}
  /-- the power-fail flush restored at the next start: staging and an open episode (Table 5.7, R877) -/
  savedStaging : List Event := []
  savedEpisode : Option Episode := none
deriving DecidableEq, Repr

structure Flag where
  alert : Bool := false
  wearReadOnly : Bool := false
  fwdPause : Bool := false
  countAlert : Nat := 0
  countWear : Nat := 0
  countFwd : Nat := 0
deriving DecidableEq, Repr

/-- A hold-up measurement (R804): hours, energy in mJ, group 6 reading. -/
structure HoldupEntry where
  hours : Nat
  mj : Nat
  temp : Int
deriving DecidableEq, Repr

/-- Health data (Table 16.5, R802 to R804). -/
structure Health where
  cwRead : Nat := 0
  cwCorrected : Nat := 0
  cwRetried : Nat := 0
  cwSoft : Nat := 0
  cwParityRebuilt : Nat := 0
  cwUncorrectable : Nat := 0
  readsReconstructed : Nat := 0
  chunksRepaired : Nat := 0
  mediaAuthFails : Nat := 0
  patrolRefreshes : Nat := 0
  hostBytesWritten : Nat := 0
  flashBytesProgrammed : Nat := 0
  retryPpm : Nat := 0
  refresh14d : Nat := 0
  unsafeShutdowns : Nat := 0
  flushLost : Nat := 0
  thermalShutdowns : Nat := 0
  /-- operating times of the refreshes of the last 14 days, and of the last rise of a media error count -/
  refreshTimes : List Nat := []
  mediaErrorAt : Option Nat := none
  /-- per-minute samples of the last 24 h: time, CW_RETRIED + CW_SOFT, CW_READ -/
  retrySamples : List (Nat × Nat × Nat) := []
  holdupInitial : Nat := 4400
  holdupMin : Nat := 4400
  holdupRecent : List HoldupEntry := []
  holdupPeriodic : List HoldupEntry := []
  /-- minutes by group × 32 + bin, and the greatest valid reading of each group in the present minute -/
  tempMinutes : Tbl Nat := []
  minuteMax : Tbl Int := []
  savedAt : Nat := 0
  /-- per-channel HEALTH.TEMP_SELECT and HEALTH.HOLDUP_SELECT: sideband, session 0 -/
  tempSelect : Nat × Nat := (0, 0)
  holdupSelect : Nat × Nat := (0, 0)
deriving DecidableEq, Repr

/-! ## Ethernet ports and Privet (chapters 9 and 10) -/

/-- How far an address of an interface is (R492, R503): `tentative` under detection, `used`, `refused` after a conflict. -/
inductive AddrUse where
  | none | tentative | used | refused
deriving DecidableEq, Repr

/-- An interface entry (Table 9.3) with the use of its addresses, the link-local one among them, and the ends of its leases. -/
structure Iface where
  flags : Nat := 0
  v4Prefix : Nat := 0
  v6Prefix0 : Nat := 0
  v6Prefix1 : Nat := 0
  v4 : Nat := 0
  v60 : Nat := 0
  v61 : Nat := 0
  v4Use : AddrUse := .none
  v60Use : AddrUse := .none
  v61Use : AddrUse := .none
  localUse : AddrUse := .none
  lease4 : Option Nat := none
  lease6 : Option Nat := none
deriving DecidableEq, Repr

/-- A receive completion entry (Table 9.7). -/
structure Completion where
  rxTime : Nat
  length : Nat
  buffers : Nat
  vid : Nat := 0
  action : Nat := 0x3FFF
  trunc : Bool := false
  tagged : Bool := false
  ce : Bool := false
  multiple : Bool := false
  tie : Bool := false
  ptpEvent : Bool := false
deriving DecidableEq, Repr

/-- A transmit timestamp (Table 9.10). -/
structure TxStamp where
  wallNs : Nat
  sequenceId : Nat
  messageType : Nat
  /-- the VLAN its message went out on, which its follow-up takes -/
  vid : Nat := 0
deriving DecidableEq, Repr

/-- A token bucket: its balance in 10^-9 tokens and when it was last filled; none: it stands full. -/
structure Bucket where
  balance : Option Int := none
  at_ : Nat := 0
deriving DecidableEq, Repr

/-- One port (R481): 0 A, 1 B, 2 twin, 3 hedgerow east, 4 hedgerow west. -/
structure Port where
  /-- PORTA.CTL (Table 18.7) -/
  enable : Bool := true
  autoUpspeed : Bool := true
  truncCapture : Bool := false
  /-- Table 9.2 -/
  link : Nat := 0
  /-- speed in Gb/s, 0 unless UP; the speed being trained and the lanes that carry it -/
  speed : Nat := 0
  chosen : Nat := 0
  lanes : Nat := 0
  degradedTold : Bool := false
  /-- successive training failures at `chosen` -/
  failSpeed : Nat := 0
  fails : Nat := 0
  /-- speeds withdrawn, with the time they return -/
  withdrawn : Tbl Nat := []
  holdoffAt : Nat := 0
  retraining : Bool := false
  /-- medium (0 AUTO, 1 KR, 2 CR) and speeds permitted (bit 0 50, bit 1 100, bit 2 200 Gb/s), from the option image (R482) -/
  medium : Nat := 0
  permitted : Nat := 7
  /-- the technology in use: 1 KR, 2 CR; 0 before the first negotiation -/
  tech : Nat := 0
  /-- how far the link-local address of a twin or hedgerow port is (R492) -/
  localUse : AddrUse := .none
  /-- STATS_MODE: 0 FULL, 1 SUMMARY -/
  statsMode : Nat := 0
  counters : Tbl Nat := []
  sticky : Nat := 0
  overflowAt : Option Nat := none
  tsLostAt : Option Nat := none
  /-- LLDP_PEER: 40 bytes -/
  lldpPeer : Bytes := []
  /-- marking (Table 9.4) -/
  dscpCtrl : Nat := 0x2E
  pcpCtrl : Nat := 5
  dscpMap : Nat := 0x2E221A120A000008
  pcpMap : Nat := 0x54432001
  ifs : Tbl Iface := []
  mcast : Tbl Nat := []
  /-- completion entries of frames whose buffers are not returned, by receive ring, oldest first -/
  rings : Tbl (List Completion) := []
  /-- protocol buckets (R501): 0 ARP 1 ND 2 echo 3 DHCP 4 LLDP 5 PTP -/
  buckets : Tbl Bucket := []
  txts : List TxStamp := []
  txtsLost : Nat := 0
deriving DecidableEq, Repr

structure Ports where
  ports : Tbl Port := []
  lldpSentAt : Nat := 0
  /-- LLDP system name, GKP port: from the option image (Table 14.8) -/
  systemName : Bytes := []
  gkpPort : Nat := 27463
deriving DecidableEq, Repr

/-- A Privet entry (R538, Table 10.6): its match and mask of 160 w bits. -/
structure PEntry where
  mtch : Nat := 0
  mask : Nat := 0
  valid : Bool := false
  action : Nat := 0
  priority : Nat := 0
deriving DecidableEq, Repr

/-- A policer (R551): rates of 0 are unlimited. -/
structure Policer where
  fps : Nat := 0
  bps : Nat := 0
  drops : Nat := 0
  frames : Bucket := {}
  bytes : Bucket := {}
  lastDrop : Option Nat := none
deriving DecidableEq, Repr

/-- What Privet keeps for each management channel (R555, R558, R563). -/
structure PChan where
  select : Nat := 0
  target : Nat := 0
  metaWord : Nat := 0
  /-- ENTRY_MATCH and ENTRY_MASK: 20 words, the first in the most significant place -/
  mtch : Nat := 0
  mask : Nat := 0
  actionSelect : Nat := 0
  actionData : Nat := 0
  policerSelect : Nat := 0
  counterSelect : Nat := 0
  key1 : Nat := 0
  key4 : Nat := 0
  result : Nat := 0
  cursor : Nat := 0
  captureSelect : Nat := 0
deriving DecidableEq, Repr

structure Privet where
  widths : List Nat := [1, 1, 1, 1, 2, 2, 2, 4]
  holeSpacing : Nat := 16
  fwClassMask : Nat := 0x1DE0
  defaultA : Nat := 0
  defaultB : Nat := 0
  /-- their shadow copies (R560) -/
  defaultShadowA : Nat := 0
  defaultShadowB : Nat := 0
  /-- the table and its shadow (R560), by bank × 4096 + index -/
  table : Tbl PEntry := []
  shadow : Tbl PEntry := []
  actions : Tbl Nat := []
  actionShadow : Tbl Nat := []
  policers : Tbl Policer := []
  /-- frames and bytes of the 4,096 counters (R552) -/
  counters : Tbl (Nat × Nat) := []
  /-- copies, newest first (R550) -/
  captures : List (Completion × Bytes) := []
  chans : Tbl PChan := []
  lookupsA : Nat := 0
  lookupsB : Nat := 0
  defaultHitsA : Nat := 0
  defaultHitsB : Nat := 0
  multiMatches : Nat := 0
  ties : Nat := 0
  rangeMisses : Nat := 0
  scrubFixes : Nat := 0
  scrubbedAt : Nat := 0
  lastTie : Option Nat := none
  lastRangeMiss : Option Nat := none
deriving DecidableEq, Repr

/-! ## Time, metering, power and temperature (chapters 11 and 15) -/

/-- A ToD message (Table 11.5). -/
structure Tod where
  seconds : Nat
  utcOffset : Int := 0
  flags : Nat := 0
  clockClass : Nat := 248
deriving DecidableEq, Repr

/-- A PTP port (R585, Table 14.8): 0 A, 1 B, 3 east, 4 west. -/
structure PtpPort where
  /-- 0 disabled, 1 slave-only, 2 grandmaster-capable -/
  role : Nat := 0
  /-- 0 request-response, 1 peer delay -/
  delay : Nat := 0
  /-- 0 UDP/IPv4, 1 UDP/IPv6, 2 Ethernet -/
  transport : Nat := 0
  logSync : Int := 0
  logAnnounce : Int := 1
  logDelay : Int := 0
  /-- the port is in the SLAVE state; else it is a master or passive -/
  slave : Bool := false
  master : Bool := false
  /-- successive measurements near the servo's prediction -/
  near : Nat := 0
  nextSeq : Nat := 0
deriving DecidableEq, Repr

/-- Sprig (R566 to R592). -/
structure Sprig where
  /-- operating time in ns -/
  opNs : Nat := 0
  /-- the record area: end of the reserved blocks, the exact value written after the last reservation, the last wall time (R568) -/
  opReserved : Nat := 0
  exact : Option Nat := some 0
  savedWall : Nat := 0
  powerCycles : Nat := 0
  /-- wall time = operating time + offset + rate × (operating time − anchor) (R570); rate in 10^-9 -/
  wallOffset : Int := 0
  freqPpb : Int := 0
  anchor : Nat := 0
  wallEpoch : Nat := 0
  /-- Table 11.1 -/
  state : Nat := 0
  /-- selected source (Table 11.2), and since when each source has been qualified -/
  source : Nat := 0
  priority : Nat := 0x4000
  qualified : Tbl Nat := []
  utcOffset : Int := 0
  leap61 : Bool := false
  leap59 : Bool := false
  /-- the UTC day at whose end the flagged leap second falls; whether a source has given the UTC offset in this power cycle -/
  leapDay : Int := 0
  utcValid : Bool := false
  estErrorNs : Nat := 0
  trustLimitUs : Nat := 100
  ppsOutCtl : Nat := 1
  steps : Nat := 0
  stepsBack : Nat := 0
  todBad : Nat := 0
  /-- the last 16 accepted measurements, newest first; successive rejections; successive measurements beyond 100 µs and the first's time -/
  thetas : List Int := []
  rejects : Nat := 0
  big : Nat := 0
  bigAt : Nat := 0
  /-- sources that have been followed in this power cycle -/
  followed : List Nat := []
  /-- PPS_IN: the last edge, edges in good order, edges that disagreed, the message naming the next edge, the last second named -/
  ppsAt : Option Nat := none
  ppsRun : Nat := 0
  ppsBad : Nat := 0
  tod : Option Tod := none
  todLast : Option Tod := none
  domain : Nat := 0
  priority1 : Nat := 128
  priority2 : Nat := 128
  ptp : Tbl PtpPort := [(3, { role := 2, delay := 1, transport := 2 }), (4, { role := 2, delay := 1, transport := 2 })]
deriving DecidableEq, Repr

/-- What Juniper has counted for a tenant in the open interval (Table 11.6). -/
structure MeterAcc where
  ops : Tbl Nat := []
  bytesIn : Nat := 0
  bytesOut : Nat := 0
  /-- byte-ticks: 256 × granules summed over ticks -/
  byteTicks : Nat := 0
  throttled : Nat := 0
  saturated : Bool := false
  /-- latencies by bucket -/
  hist : Tbl Nat := []
  /-- the tenant received THROTTLED in the present tick -/
  throttledNow : Bool := false
deriving DecidableEq, Repr

/-- A meter record (Table 11.7). -/
structure MeterRec where
  seq : Nat
  tenant : Nat := 0
  kind : Nat := 1
  flags : Nat := 0
  powerCycles : Nat := 0
  startOp : Nat := 0
  durationMs : Nat := 0
  startWall : Nat := 0
  wallEpoch : Nat := 0
  ops : Tbl Nat := []
  bytesIn : Nat := 0
  bytesOut : Nat := 0
  capacity : Nat := 0
  energyMj : Nat := 0
  throttledMs : Nat := 0
  latBucket : Nat := 255
  mac : Nat := 0
deriving DecidableEq, Repr

/-- Juniper (R593 to R621). -/
structure Meter where
  intervalS : Nat := 60
  /-- a write of INTERVAL_S waits for the next tick -/
  newInterval : Option Nat := none
  /-- the open interval: its first tick, wall time and epoch there, ticks so far, flags for its end, tenants seen -/
  startOp : Nat := 0
  startWall : Nat := 0
  startEpoch : Nat := 0
  ticks : Nat := 0
  flags : Nat := 0
  /-- a cause of R597 ends the interval at the next tick -/
  closeDue : Bool := false
  seen : List Nat := []
  accs : Tbl MeterAcc := []
  /-- energy in µJ not yet recorded, by tenant (R604) -/
  energyUj : Tbl Nat := []
  lastTick : Nat := 0
  lastWall : Nat := 0
  nextSeq : Nat := 0
  /-- records held, oldest first -/
  held : List MeterRec := []
  /-- Table 11.8 -/
  state : Nat := 0
  /-- the key the chain is made under, and the last MAC; none: no chain -/
  chain : Option (Config.Key × Nat) := none
  unsealedTold : Bool := false
  /-- where the interval of the last record written ended: operating time, wall time, epoch (R620) -/
  ended : Nat × Nat × Nat := (0, 0, 0)
  wDie : Nat := 0
  wHolly : Nat := 0
  wNet : Nat := 0
  wLaurel : Nat := 0
  recalibratedAt : Nat := 0
  energyTotalUj : Nat := 0
deriving DecidableEq, Repr

/-- Power states and the governor (R746 to R759). -/
structure Power where
  /-- Table 15.1 -/
  state : Nat := 0
  stateLimit : Nat := 3
  /-- the end of a return to Leafed that has begun -/
  wakeAt : Option Nat := none
  /-- when something that kept the drive busy last ended -/
  idleFrom : Nat := 0
  capW : Nat := 70
  /-- pool in force -/
  tokens : Nat := 160
  coreClock : Nat := 2000
  inputMw : Nat := 0
  /-- no array operation is issued before this time (R759) -/
  issueFrom : Nat := 0
  reducedAt : Option Nat := none
  /-- residency in ns in each state, and since when the present one holds -/
  residency : Tbl Nat := []
  changedAt : Nat := 0
  /-- arrivals with LT_OVERRIDE: time and tolerance (R749) -/
  overrides : List (Nat × Nat) := []
  governed1 : Nat := 0
  governed100 : Nat := 0
deriving DecidableEq, Repr

/-- Temperature (R763 to R769), in quarters of a degree. -/
structure Therm where
  /-- the reading of each sensor, when valid -/
  sensors : Tbl Int := []
  /-- when each sensor last reported -/
  heardAt : Tbl Nat := []
  faulted : List Nat := []
  composite : Int := 0
  compositeMax : Int := 0
  stage : Nat := 0
  /-- successive samples at or above 85, 88, 91 and 95 °C -/
  hot : Tbl Nat := []
  /-- by stage: since when the composite has been 3 °C below its entry -/
  cool : Tbl Nat := []
  throttleNs : Nat := 0
  throttleFrom : Nat := 0
  /-- a thermal clean shutdown began -/
  shutdownAt : Option Nat := none
  sampledAt : Nat := 0
  sensorSelect : Nat × Nat := (0, 0)
deriving DecidableEq, Repr

/-! ## Security, the module, the option flash and jobs (chapters 12, 13, 14 and 17) -/

/-- An SPDM secured session on the sideband (R650): its requester's role and when it was last heard. phase: 0 KEY_EXCHANGE done,
1 FINISHed. -/
structure SpdmSession where
  phase : Nat := 0
  /-- the hash of the root of the requester's certificate chain, when it authenticated itself -/
  requester : Option Nat := none
  operator : Bool := false
  heardAt : Nat := 0
  /-- KEY_UPDATEs so far -/
  epoch : Nat := 0
deriving DecidableEq, Repr

/-- A maintenance role in force (R649). -/
structure Maint where
  services : Nat
  session : Nat
  until_ : Nat
deriving DecidableEq, Repr

structure Sec where
  /-- Table 12.4 -/
  state : Nat := 0xA0
  /-- SEC.SELFTEST_STATUS (Table 12.6) -/
  tests : Nat := 0
  approvedOnly : Bool := false
  nonapprovedUsed : Bool := false
  /-- APPROVED as last recorded (R633) -/
  approved : Bool := false
  /-- sideband operator root hash of the option image; 0 none (R625) -/
  operatorRoot : Nat := 0
  /-- operator image key hashes in OTP, slot 0 first (R656, R657) -/
  otp : List Nat := []
  /-- ZEROISED fuse, PUF helper data copies and vault copies still in place (R641) -/
  zeroFuse : Bool := false
  helperA : Bool := true
  helperB : Bool := true
  vaultCopies : Nat := 2
  /-- the channel and time of a first arming write (R639) -/
  armed : Option (Nat × Nat) := none
  /-- successive open samples of the tamper loop (R640) -/
  loopOpen : Nat := 0
  maintEnable : Bool := false
  maintFuse : Bool := false
  maintArmed : Option (Nat × Nat) := none
  challenge : Nat := 0
  maint : Option Maint := none
  codeKeyRevoked : Nat := 0
  svnHold : Bool := false
  svnMinFw : Nat := 0
  svnMinOpt : Nat := 0
  /-- since when the running image has run without a fallback (R659) -/
  svnFrom : Nat := 0
  /-- SPDM: version, capabilities and algorithms negotiated so far (0 to 3), and the secured sessions -/
  negotiated : Nat := 0
  spdm : Tbl SpdmSession := []
  spdmNext : Nat := 1
  /-- certificate slot 1, and the signing request it answers (R653) -/
  slot1 : Option Bytes := none
deriving DecidableEq, Repr

/-- The module: supplies, sideband pins and what DEV reports (chapter 13, Table 14.12). -/
structure Module where
  /-- main rails up; 3V3_AUX present; the islands are held in reset -/
  mainOn : Bool := false
  auxOn : Bool := false
  inReset : Bool := false
  /-- DEV.STATE -/
  devState : Nat := 0xD0
  /-- latched SLOT_ID, and the straps as last seen (R685) -/
  slotId : Nat := 0
  straps : Nat := 0
  /-- operating time at which the main rails last started -/
  startedAt : Nat := 0
  /-- which case of Table 14.11 the present start is -/
  startCase : Nat := 0
  locate : Bool := false
  locateAt : Nat := 0
  sidebandLock : Bool := false
  sbDiscards : Nat := 0
  /-- I3C mode and its dynamic address (R687); the MCTP endpoint id -/
  i3c : Bool := false
  i3cAddr : Nat := 0
  eid : Nat := 0
  /-- cause of a recovery boot not yet recorded (R742) -/
  recovery : Option Nat := none
  /-- a thermal protection turned the main rails off (R769) -/
  thermalOff : Bool := false
  /-- a start held at step 4 until the composite is below 85 °C (R769) -/
  heldStart : Option StartUp := none
  /-- the flush under way was caused by MRST_N or DEV.RESET (R684) -/
  flushReset : Bool := false
  /-- the sideband code failed its verification (chapter 14) -/
  sbFailed : Bool := false
deriving DecidableEq, Repr

/-- The current boot-state record (Table 14.9). kind: 1 ATTEMPT 2 READY 3 VOID 4 SELECT 5 RECOVERY_REQ; 0 none. -/
structure BootRec where
  kind : Nat := 0
  fwSlot : Nat := 0
  optSlot : Nat := 0xFF
  attemptsA : Nat := 0
  attemptsB : Nat := 0
  seq : Nat := 0
  opTime : Nat := 0
deriving DecidableEq, Repr

/-- A write of the option flash, waiting or running (R703, R705). prio: 0 zeroisation, 1 Sprig, 2 vault, 3 boot-state, 4 images. -/
structure OptfOp where
  prio : Nat
  bank : Nat
  sector : Nat := 0
  erase : Bool := false
  waiter : Option Origin := none
  hdr : OpHdr := {}
  body : Bytes := []
  /-- what leaves when it has completed -/
  tell : List Out := []
  /-- its suspensions for reads of its bank, and the ns they have taken together (R704) -/
  suspends : Nat := 0
  suspendedNs : Nat := 0
  /-- the boot-state record that it writes (R727) -/
  boot : Option BootRec := none
deriving DecidableEq, Repr

structure Optf where
  busy : Option OptfOp := none
  queue : List OptfOp := []
  /-- reads that wait for a bank's operation to complete (R704): the bank, and what leaves when they are served -/
  waitingReads : List (Nat × Out) := []
  /-- each bank is in continuous-read mode (R706) -/
  continuous : Bool × Bool := (false, false)
  /-- the option area as written (Table 14.5); none: bytes that are no area -/
  area : Option OptArea := some factoryArea
  /-- since the boot ROM read the area (R716): the layout in use, and how the flash is read: mode, clock in MHz, dummy cycles, flags -/
  layout : List Region := regionTable
  readMode : Nat := 0
  clock : Nat := 25
  dummyCycles : Nat := 0
  readFlags : Nat := 0
  /-- OPTF.XIP_STATE (Table 14.3); since when TCM, or the last write of bank 0 in it; sideband code rewritten -/
  xip : Nat := 0x90
  tcmAt : Nat := 0
  sbRewritten : Bool := false
  /-- XIP_RESUME waits for bank 0, asked for by this channel -/
  resumeFor : Option Nat := none
  /-- the download: OPTF.DL_STATE, channel, component, next offset, last chunk, verified image -/
  dl : Nat := 0xC0
  dlChannel : Nat := 0
  dlComponent : Nat := 0
  dlNext : Nat := 0
  dlAt : Nat := 0
  /-- images held: firmware and option slots A and B, loaders, sideband code -/
  fwA : Option Image := some {}
  fwB : Option Image := none
  optA : Option Image := none
  optB : Option Image := none
  loader : Option Image := some { component := 2 }
  recovery : Option Image := some { component := 3 }
  sbCode : Option Image := some { component := 4 }
  /-- what the sideband controller, and the start, run -/
  fwRunning : Nat := 0
  optRunning : Nat := 0xFF
  boot : BootRec := {}
  /-- the boot-state record that stands when the writes not yet complete are cut short (Table 14.4) -/
  bootSafe : BootRec := {}
  /-- of vault copies 1 and 2 alike: the half in use, and the entries written into it (R702) -/
  vaultHalf : Nat := 0
  vaultUsed : Nat := 0
  /-- option slot of the previous ATTEMPT (R730); generation of the image last applied at a start that reached ready (R733, R734) -/
  optTried : Nat := 0xFF
  optReady : Nat := 0
  /-- erases of each sector, and sectors whose OPTF_WEAR has been recorded (R714) -/
  erases : Tbl Nat := []
  wornTold : List Nat := []
  /-- option-image settings that have no other home: the sideband witness is enabled (R317) -/
  sidebandWitness : Bool := false
deriving DecidableEq, Repr

/-- Identity fixed at manufacture (Table 18.4). -/
structure Ident where
  serial : Nat := 0
  macBase : Nat := 0
  vendorPen : Nat := 0
  dieRev : Nat := 0
deriving DecidableEq, Repr

/-- A job (Tables 17.7 to 17.10). -/
structure Job where
  id : Nat
  kind : Nat
  state : Nat := 0xB0
  /-- 0 sideband, 1 session 0, 2 the drive, 3 the twin -/
  starter : Nat
  ns : Nat := 0
  p0 : Nat := 0
  p1 : Nat := 0
  p2 : Nat := 0
  done_ : Nat := 0
  total : Nat := 0
  suspends : Nat := 0
  suspendedNs : Nat := 0
  suspendedAt : Nat := 0
  /-- periods of 24 h of the present suspension recorded -/
  longTold : Nat := 0
  result : Nat := 0
  endedAt : Nat := 0
  /-- channel of the last suspend, resume or cancel -/
  channel : Nat := 0
  /-- keyed kinds: the keys still to do, with their versions -/
  keys : List (Bytes × Nat) := []
  /-- other kinds: superblocks, pages, tests or clusters still to do -/
  todo : List Nat := []
  /-- NS_EXPORT: parts written; DIE_RETIRE: blocks rebuilt; FW_ROLL: since when its present cluster is watched -/
  parts : Nat := 0
  /-- NS_EXPORT: bytes of the package not yet in a part (R837) -/
  pack : Bytes := []
  /-- DIE_RETIRE: pages of the present block rebuilt -/
  pages : Nat := 0
  watchAt : Nat := 0
deriving DecidableEq, Repr

structure Jobs where
  table : List Job := []
  nextId : Nat := 1
  select : Nat × Nat := (0, 0)
  /-- clusters on the new image (R843); the twin is still to be asked to roll (R848) -/
  newClusters : List Nat := []
  rollTwin : Bool := false
deriving DecidableEq, Repr

/-- What each management channel holds beside its selections (R855, R856): words written and not yet applied, with the address of the
first, and latched words. -/
structure MgmtChan where
  heldAt : Nat := 0
  held : List Nat := []
  latch : Tbl Nat := []
  ifSelect : Tbl Nat := []
deriving DecidableEq, Repr

/-- Everything the drive holds. -/
structure Drive where
  kv : Kv := {}
  media : Media := {}
  twin : Twin := {}
  ring : Ring := {}
  keys : Keys := {}
  holly : Holly := {}
  xp : Xport := {}
  time : Sprig := {}
  sec : Sec := {}
  mod : Module := {}
  port : Ports := {}
  privet : Privet := {}
  rec_ : Thicket := {}
  meter : Meter := {}
  power : Power := {}
  therm : Therm := {}
  health : Health := {}
  flag : Flag := {}
  optf : Optf := {}
  jobs : Jobs := {}
  /-- by management channel: 0 sideband, 1 session 0 -/
  chans : Tbl MgmtChan := []
  /-- the health counters as last saved (R801) -/
  healthSaved : Health := {}
  ident : Ident := {}
  /-- what has left the drive, newest first (the model's own record of its outputs) -/
  out : List Out := []
  /-- number of free values drawn (the model's own counter) -/
  free : Nat := 0
deriving DecidableEq, Repr

/-- The machine: the commands that wait, first in first out, and the drive. -/
structure State where
  pending : List Instr := []
  dev : Drive := {}
deriving DecidableEq, Repr

/-- The drive as delivered, before power is applied. -/
def State.reset : State := {}

end Sys2Proof.Machine
end

