-- ==== Sys2Proof/Machine/Ops.lean ====
section
/-! DEFINITION. Machine/Ops.lean: the named operations every family shares: gates, time, events, outputs, deltas, the request table,
the transport's sending side, replies, twin messages, the sequencer. -/

namespace Sys2Proof.Machine
open Sys2Proof

/-! ## Statuses (Table 1.10) -/

namespace St
abbrev ok : Nat := 0x0000
abbrev notFound : Nat := 0x0001
abbrev versionMismatch : Nat := 0x0002
abbrev alreadyExists : Nat := 0x0003
abbrev stateConflict : Nat := 0x0010
abbrev jobUnknown : Nat := 0x0011
abbrev noSpace : Nat := 0x0020
abbrev wearReadOnly : Nat := 0x0021
abbrev directoryFull : Nat := 0x0022
abbrev forwardingFull : Nat := 0x0023
abbrev keyRevoked : Nat := 0x0030
abbrev mediaAuthFail : Nat := 0x0031
abbrev rekeyRequired : Nat := 0x0032
abbrev notPermitted : Nat := 0x0033
abbrev throttled : Nat := 0x0040
abbrev deadlineMissed : Nat := 0x0041
abbrev twinUnavailable : Nat := 0x0050
abbrev homeFenced : Nat := 0x0051
abbrev txnConflict : Nat := 0x0060
abbrev txnTooLarge : Nat := 0x0061
abbrev locatorInvalid : Nat := 0x0070
abbrev malformed : Nat := 0x00F0
abbrev unsupported : Nat := 0x00F1
abbrev tooLarge : Nat := 0x00F2
abbrev internalError : Nat := 0x00FF
end St

/-! Severities of events (Table 16.2). -/
namespace Sev
abbrev info : Nat := 0
abbrev notice : Nat := 1
abbrev warning : Nat := 2
abbrev error : Nat := 3
abbrev critical : Nat := 4
end Sev

/-! ## Time (R292, R566) -/

/-- Operating time in ns. -/
def Drive.now (d : Drive) : Nat := d.time.opNs

/-- Operating time in µs modulo 2^40, the unit of deadlines (R12). -/
def Drive.nowUs (d : Drive) : Nat := d.time.opNs / 1000 % 2 ^ 40

/-- Wall time in ns: operating time plus the offset, adjusted at a rate (R570). -/
def Sprig.wall (t : Sprig) : Nat :=
  (Int.ofNat t.opNs + t.wallOffset + t.freqPpb * Int.ofNat (t.opNs - t.anchor) / 1000000000).toNat

def Drive.wallNow (d : Drive) : Nat := d.time.wall

/-- Sprig at a later time: before operating time enters a block of 2^36 ns, the block is reserved and wall time written (R568). An exact
value written before is no longer the current one (R566, log entry 4). -/
def Sprig.at (t : Nat) (x : Sprig) : Sprig :=
  let y := { x with opNs := t, exact := none }
  if t < x.opReserved then y else { y with opReserved := (t / 2 ^ 36 + 1) * 2 ^ 36, savedWall := y.wall }

/-- Time has reached `t`: operating time never goes backwards (R566, log entry 4). -/
def Drive.advanceTo (t : Nat) (d : Drive) : Drive := if t ≤ d.time.opNs then d else { d with time := d.time.at t }

/-- A deadline has passed when (now − deadline) mod 2^40 < 2^39 (R12). -/
def passed (now deadline : Nat) : Bool := (now % 2 ^ 40 + 2 ^ 40 - deadline % 2 ^ 40) % 2 ^ 40 < 2 ^ 39

/-- The deadline of a tag: arrival plus the stated µs, or plus 2^32 where none is stated (R11, R37). -/
def tagDeadline (arrivalUs stated : Nat) : Nat :=
  (arrivalUs + (if stated = 0 then 2 ^ 32 else stated)) % 2 ^ 40

/-! ## The gate -/

/-- The drive executes commands: its main rails are up, no power-fail flush runs, and its security state is one in which it serves
(R636, R641): not ERROR, ZEROISING or ZEROISED; its islands are out of reset, and it is not in recovery boot (R744), shutting down, or
held in its start (R769). -/
def Drive.live (d : Drive) : Bool :=
  d.mod.mainOn && !d.mod.inReset && !d.media.flushing && (d.sec.state == 0xA0 || d.sec.state == 0xA1) && d.mod.devState != 0xD6 && d.mod.devState != 0xD7 &&
    d.mod.heldStart.isNone

/-- The operator image key hash in force (Table 12.11): that of the highest OTP slot that holds one. -/
def Drive.operatorKeyHash (d : Drive) : Nat := d.sec.otp.getLastD 0

/-- The drive admits GKP frames of hosts: step 7 of its start has been reached (R737, Table 14.10). -/
def Drive.admitting (d : Drive) : Bool := d.mod.devState == 0xD5

/-- A command of the running drive: its effect while the drive is live, none otherwise (log entry 5). -/
def State.onMain (s : State) (f : Drive → Drive) : Host.Outcome State Fault Refusal :=
  .next { s with dev := if s.dev.live then f s.dev else s.dev }

/-! ## Outputs, free values, events -/

/-- `o` leaves the drive. -/
def Drive.emit (o : Out) (d : Drive) : Drive := { d with out := o :: d.out }

/-- A fresh free value (a value the spec leaves open). -/
def Drive.fresh (d : Drive) : Nat × Drive := (Config.freeValue d.free, { d with free := d.free + 1 })

/-- A fresh draw of the DRBG (R411). -/
def Drive.draw (d : Drive) : Nat × Drive := (Config.random d.keys.draws, { d with keys.draws := d.keys.draws + 1 })

/-! ## Work tags and headers as bytes -/

/-- The 128 bits of a work tag (R7, Table 0.3). -/
def tagBits (t : WorkTag) : Nat :=
  t.tenant * 2 ^ 116 + t.ns * 2 ^ 102 + t.session * 2 ^ 86 + t.keySlot * 2 ^ 69 + t.deadline * 2 ^ 29 +
  t.durability * 2 ^ 27 + t.qos * 2 ^ 24 + t.kind * 2 ^ 18 + t.chunk * 2 ^ 4 +
  b2n t.last * 8 + b2n t.twin * 4 + b2n t.waitable * 2 + b2n t.mark

/-- The 16 bytes of a work tag (R7). -/
def tagBytes (t : WorkTag) : Bytes := beBytes 16 (tagBits t)

/-- The 64 bytes of an operation header (Table 8.4). -/
def hdrBytes (h : OpHdr) : Bytes :=
  beBytes 1 h.opcode ++ beBytes 1 h.flags ++ beBytes 2 h.status ++ beBytes 8 h.rid ++ beBytes 2 h.tenant ++ beBytes 2 h.ns ++
  beBytes 1 h.qos ++ beBytes 1 h.durability ++ beBytes 2 h.tolerance ++ beBytes 4 h.deadline ++ beBytes 2 h.keyLen ++
  beBytes 8 h.valueLen ++ beBytes 8 h.offset ++ beBytes 8 h.condVersion ++ beBytes 4 h.txn ++ beBytes 10 0

/-- The 16 bytes of a reply trailer (Table 1.7, R426). -/
def trailerBytes (status : Nat) (reconstructed repaired : Bool) (chunk total : Nat) : Bytes :=
  beBytes 2 status ++ beBytes 2 (2 * b2n reconstructed + b2n repaired) ++ beBytes 4 chunk ++ beBytes 8 total

/-- Granules of a record of key length `k` and value length `v` (R157). -/
def granules (k v : Nat) : Nat := ceilDiv (64 + k + 16 + v + 16 * ceilDiv v 65536) 256

/-- Granules of a record (R157). -/
def recGranules (r : Rec) : Nat := granules r.key.length r.value.length

/-- A physical locator as 40 bits (Table 3.7). -/
def locBits (sb gran : Nat) : Nat := sb * 2 ^ 25 + gran

/-- The durability a reply states: 0x02 for the default (R26). -/
def durApplied (dur : Nat) : Nat := if dur = 0 then 2 else dur

/-- The single writes among the data operations. -/
def isWrite (opcode : Nat) : Bool := opcode == 0x02 || opcode == 0x03 || opcode == 0x21

/-- The durability level a request asks for, as its work tag has it (R6, Tables 0.3 and 1.4). -/
def Req.level (r : Req) : Nat := if r.tag.durability = 3 then durApplied r.hdr.durability else r.tag.durability + 1

/-- The tag of work of the drive's own: of no session, no durability, WAITABLE, its deadline that of work which states none (R10, R11,
R216). -/
def Drive.ownTag (d : Drive) (kind tenant ns keySlot : Nat) : WorkTag :=
  { tenant, ns, keySlot, deadline := tagDeadline (d.time.opNs / 1000) 0, durability := 3, kind, last := true, waitable := true }

/-! ## What Juniper counts (R600, Table 11.6) -/

def Drive.modAcc (t : Nat) (f : MeterAcc → MeterAcc) (d : Drive) : Drive := { d with meter.accs := tmod t {} f d.meter.accs }

/-- A count of `w` bits rises by `n`; held at its maximum it marks the record SATURATED (R608, R619). -/
def satMark (w a n : Nat) (x : MeterAcc) : MeterAcc := if 2 ^ w - 1 ≤ a + n then { x with saturated := true } else x

/-- One operation of a class. -/
def Drive.meterOps (t cls : Nat) (d : Drive) : Drive :=
  d.modAcc t (fun a => let n := tgetD cls 0 a.ops; satMark 40 n 1 { a with ops := tput cls (satAdd 40 n 1) a.ops })

/-- GKP bytes of a tenant received or sent on a host port. -/
def Drive.meterIn (t n : Nat) (d : Drive) : Drive := d.modAcc t (fun a => satMark 64 a.bytesIn n { a with bytesIn := satAdd 64 a.bytesIn n })
def Drive.meterOut (t n : Nat) (d : Drive) : Drive := d.modAcc t (fun a => satMark 64 a.bytesOut n { a with bytesOut := satAdd 64 a.bytesOut n })

/-- The latency bucket of a time in ns: 0 below 1 µs, else b with 2^((b − 1) / 8) ≤ µs < 2^(b / 8) (Table 11.7). -/
def latBucket (ns : Nat) : Nat := if ns < 1000 then 0 else min 254 (Nat.log2 (ns ^ 8 / 1000 ^ 8) + 1)

/-- The final status of a request leaves (R600, R607, R311): counted in the class of its tag (R6) where it was executed, its latency where
its reply is sent. A request refused before it passed order 5 of its checks is not counted; of a batch only the coordinator counts
an operation (R137). -/
def Drive.meterReply (r : Req) (d : Drive) : Drive :=
  let member := r.tag.kind == 0x11 && r.hdr.opcode != 0x11
  let d := if r.phase = .queued ∨ r.phase = .atTwin ∨ member = true then d else d.meterOps r.tag.tenant r.tag.qos
  match r.origin with
  | .session _ _ =>
    if r.phase ≠ .queued ∧ r.hdr.opcode < 0x30 then d.modAcc r.tag.tenant (fun a => { a with hist := tmod (latBucket (d.now - r.arrival)) 0 (· + 1) a.hist })
    else d
  | _ => d

/-! ## Sessions by number -/

def Drive.sess (d : Drive) (sid : Nat) : Session := tgetD sid {} d.xp.sessions

def Drive.setSess (sid : Nat) (s : Session) (d : Drive) : Drive := { d with xp.sessions := tput sid s d.xp.sessions }

def Drive.modSess (sid : Nat) (f : Session → Session) (d : Drive) : Drive := d.setSess sid (f (d.sess sid))

def Drive.sslot (d : Drive) (sid : Nat) : SessionSlot := tgetD sid {} d.keys.sessions

def Drive.setSslot (sid : Nat) (s : SessionSlot) (d : Drive) : Drive := { d with keys.sessions := tput sid s d.keys.sessions }

def Session.path (s : Session) (p : Nat) : Path := if p = 0 then s.pathA else s.pathB

def Session.setPath (p : Nat) (x : Path) (s : Session) : Session := if p = 0 then { s with pathA := x } else { s with pathB := x }

/-! ## Ports (R518 to R523, R497) -/

def Drive.prt (d : Drive) (p : Nat) : Port := tgetD p {} d.port.ports

def Drive.modPort (p : Nat) (f : Port → Port) (d : Drive) : Drive := { d with port.ports := tmod p {} f d.port.ports }

/-- The sticky bit that an occurrence of counter `k` sets (Table 9.9). -/
def stickyOf (k : Nat) : Option Nat :=
  if k = 34 then some 7
  else if k = 32 then some 6
  else if 13 ≤ k ∧ k ≤ 21 then some 5
  else if k = 42 then some 4
  else if k = 37 ∨ k = 39 then some 3
  else if k = 11 then some 2
  else if 22 ≤ k ∧ k ≤ 24 then some 1
  else if k = 9 ∨ k = 10 ∨ k = 12 ∨ k = 40 then some 0
  else none

/-- `n` occurrences of the condition of counter `k` of Table 9.8: counted in FULL mode, and sticky in either (R519, R523). -/
def Port.count (k n : Nat) (x : Port) : Port :=
  if n = 0 then x
  else { x with
    counters := if x.statsMode = 0 then tmod k 0 (fun v => (v + n) % 2 ^ 64) x.counters else x.counters
    sticky := match stickyOf k with | some b => setBit b x.sticky | none => x.sticky }

def Drive.portCount (p k n : Nat) (d : Drive) : Drive := d.modPort p (Port.count k n)

/-- A frame of `len` bytes goes to a port: sent and counted when its link is UP, else discarded (Table 9.8). `cast`: 0 unicast,
1 multicast, 2 broadcast; `fw`: of a protocol of Table 9.5. -/
def Drive.portTx (p len cast : Nat) (tagged fw : Bool) (o : Out) (d : Drive) : Drive :=
  if (d.prt p).link ≠ 4 then d.portCount p 32 1
  else (d.modPort p (fun x =>
    ((((x.count 25 1).count 26 len).count (27 + cast) 1).count 30 (b2n tagged)).count 31 (b2n fw))).emit o

/-- When the oldest frame of a receive ring arrived, as its completion entry says (Table 9.7). -/
def Drive.ringTime (p ring : Nat) (d : Drive) : Nat :=
  match tgetD ring [] (d.prt p).rings with
  | c :: _ => c.rxTime
  | [] => d.now

/-- The oldest frame of a receive ring has been opened, discarded or consumed: its buffers return to the free list (R513). Truncated
captures that stand before it are consumed with it (R514, log entry 112). -/
def Drive.takeRing (p ring : Nat) (d : Drive) : Drive :=
  d.modPort p (fun x => { x with rings := tmod ring [] (fun (l : List Completion) => (l.dropWhile (·.trunc)).tail) x.rings })

/-- DSCP and PCP of a reply's class, or of control frames (R497, Table 9.4). -/
def Port.marking (x : Port) (cls : Option Nat) : Nat × Nat :=
  match cls with
  | some c => (bits 5 0 (x.dscpMap / 2 ^ (56 - 8 * c)), bits 2 0 (x.pcpMap / 2 ^ (28 - 4 * c)))
  | none => (x.dscpCtrl, x.pcpCtrl)

/-- The IP header of every packet the drive sends: DF in IPv4, a TTL or hop limit of 64, no options, no extension headers, and a computed
UDP checksum (R495). -/
def ipSent (v6 udp : Bool) (dscp : Option Nat) (ecn : Nat) : IpSent :=
  { v6, dscp, ecn, df := !v6, ttl := 64, optionBytes := 0, extensionBytes := 0, udpSum := if udp then some true else none }

/-- That of a GKP frame: ECT(0) (R498). -/
def gkpIp (v6 : Bool) (dscp : Option Nat) : IpSent := ipSent v6 true dscp 2

/-- The IP header an output travels under: twin and ring messages go as IPv6 link-local UDP to the GKP port (Table 9.6). -/
def Out.ip : Out → Option IpSent
  | .frame _ _ ip .. => some ip
  | .openReply _ _ ip .. => some ip
  | .port _ _ _ _ ip _ => ip
  | .twin _ => some (gkpIp true none)
  | .ring .. => some (gkpIp true none)
  | _ => none

/-- Bytes of an IP header. -/
def ipBytes (h : IpSent) : Nat := if h.v6 then 40 + h.extensionBytes else 20 + h.optionBytes

/-- Bytes of a GKP frame on the wire: Ethernet, tag, IP, UDP, transport header, payload, GCM tag, FCS (Tables 8.2, 8.3). -/
def gkpLength (peer : Peer) (hdr len : Nat) : Nat :=
  14 + (if peer.vid = 0 then 0 else 4) + ipBytes (gkpIp peer.v6 none) + 8 + hdr + len + 16 + 4

/-! ## The sending side of the transport (R423, R446, R451, R459, R462, R466) -/

/-- The window the drive advertises: 0 while fewer than 16 descriptors are free (R458). -/
def Session.window (s : Session) : Nat := if 1024 - s.ring.length < 16 then 0 else 1048576

/-- Unacknowledged payload bytes that have been sent. -/
def Session.flight (s : Session) : Nat := ((s.unacked.filter (·.sent)).map (·.payload.length)).sum

/-- The same on one path. -/
def Session.pathFlight (s : Session) (p : Nat) : Nat :=
  ((s.unacked.filter (fun f => f.sent && f.path == p)).map (·.payload.length)).sum

/-- The path a frame takes: the wanted one while it is up with room in its congestion window, else the other (R466). -/
def Session.choosePath (s : Session) (want len : Nat) : Option Nat :=
  let room := fun p => (s.path p).up && decide (s.pathFlight p + len ≤ (s.path p).cwnd)
  if room want then some want else if room (1 - want) then some (1 - want) else none

/-- A frame's flags, acknowledge, window and ce_count: those it was first sealed with (R397), else the present ones; ACK_NOW is set on
the LAST frame of a message and on one that brings the unacknowledged bytes to three quarters of the peer's window (R451). -/
def Session.wireOf (s : Session) (phase : Nat) (f : TxFrame) : Nat × Nat × Nat × Nat :=
  f.wire.getD (b2n f.first + 2 * b2n f.last + 4 * (phase % 2) + 8 * b2n (f.last || decide (4 * (s.flight + f.payload.length) ≥ 3 * s.peerWindow)),
    s.rxNext, s.window, s.ceCount)

/-- A reply's descriptor when a frame of it is sent: its bytes, and UNACKED once its last frame has left (Table 8.10). -/
def Descriptor.sending (f : TxFrame) (x : Descriptor) : Descriptor :=
  if x.rid = f.rid ∧ x.state = 4 ∧ f.op.opcode ≠ 0xF0 then
    { x with bytes := x.bytes + f.payload.length, state := if f.last then 5 else 4, replyLast := f.seq }
  else x

/-- A frame leaves on a path: what the session and its slot keep of it; what stands on the wire stays with the stored copy (R397, R459). -/
def Drive.markSent (sid p phase : Nat) (w : Nat × Nat × Nat × Nat) (f : TxFrame) (d : Drive) : Drive :=
  let s := d.sess sid
  let slot := d.sslot sid
  let first := f.wire.isNone
  let s' : Session := { s with
    unacked := s.unacked.map (fun g => if g.seq = f.seq then { g with sent := true, path := p, sentAt := d.now, phase, wire := some w } else g)
    ring := if first then s.ring.map (Descriptor.sending f) else s.ring
    sinceAck := if first then 0 else s.sinceAck
    ackDue := if first then none else s.ackDue }
  let d := d.setSess sid (s'.setPath p { s'.path p with lastSent := d.now, roundSent := (s'.path p).roundSent + 1 })
  let d := d.setSslot sid { slot with framesOut := slot.framesOut + b2n first }
  { d with xp.retransmits := d.xp.retransmits + b2n (!first) }

/-- Sends the waiting frames in order while the peer's window and a path admit them (R459, R466). A frame sent again is the stored copy:
Holly seals each sequence once (R397). -/
def pumpFrames (sid : Nat) : Nat → Drive → Drive
  | 0, d => d
  | n + 1, d =>
    let s := d.sess sid
    match s.unacked.find? (fun f => !f.sent) with
    | none => d
    | some f =>
      let slot := d.sslot sid
      let first := f.wire.isNone
      if slot.state = 0x30 ∨ (slot.state = 0x33 ∧ first) then d
      else if s.flight + f.payload.length > s.peerWindow then d
      else match s.choosePath f.path f.payload.length with
        | none => d
        | some p =>
          let phase := if first then slot.phase else f.phase
          let w := s.wireOf phase f
          let d := d.markSent sid p phase w f
          let peer := (s.path p).source
          let mark := (d.prt p).marking (if f.op.opcode = 0xF0 then none else some f.op.qos)
          let d := if (d.prt p).link = 4 then d.meterOut s.tenant ((if f.first then 112 else 56) + f.payload.length) else d
          pumpFrames sid n (d.portTx p (gkpLength peer (if f.first then 96 else 40) f.payload.length) 0 (peer.vid != 0) false
            (.frame p peer (gkpIp peer.v6 (some mark.1)) mark.2 sid 1 f.seq w.1 w.2.1 w.2.2.1 w.2.2.2 f.payload.length 0 []))

/-- Sends what can be sent on a session. -/
def Drive.pump (sid : Nat) (d : Drive) : Drive := pumpFrames sid (d.sess sid).unacked.length d

/-- Splits bytes into pieces, the first of at most `a` bytes, the rest of at most `b`. -/
def pieces (a b : Nat) : Nat → Bytes → List Bytes
  | 0, x => [x]
  | n + 1, x => if x.length ≤ a then [x] else x.take a :: pieces b b n (x.drop a)

/-- Queues a message, or a part of one, as DATA frames of the session (R423): `first` and `last` say whether the part begins and ends it.
After the reply to a session's own SESSION_CLOSE nothing follows but that reply again (R438, R97). -/
def Drive.sendPart (sid rid path : Nat) (first last : Bool) (op : OpHdr) (payload : Bytes) (d : Drive) : Drive :=
  let s := d.sess sid
  if s.state = 0x40 ∨ (s.finished = true ∧ op.opcode ≠ 0x41) then d
  else
    let room := s.maxFrame - 32 - 8 - 16
    let parts := pieces (if first then s.maxFrame - 32 - 64 - 16 else room) room payload.length payload
    let n := parts.length
    let frames := parts.zipIdx.map (fun (p, i) =>
      ({ seq := s.txNext + i, path := path, phase := 0, first := first && i == 0, last := last && i + 1 == n,
         rid := rid, op := op, payload := p } : TxFrame))
    (d.setSess sid { s with txNext := s.txNext + n, unacked := s.unacked ++ frames }).pump sid

/-- Inserts a number into an ascending list. -/
def insertNat (x : Nat) : List Nat → List Nat
  | [] => [x]
  | y :: r => if x ≤ y then x :: y :: r else y :: insertNat x r

/-- The runs of an ascending list of numbers. -/
def runsOf : List Nat → List (Nat × Nat)
  | [] => []
  | x :: r =>
    match runsOf r with
    | (a, b) :: t => if x = a then (a, b) :: t else if x + 1 = a then (x, b) :: t else (x, x) :: (a, b) :: t
    | [] => [(x, x)]

/-- Up to 16 of the lowest runs of frames held above the acknowledge (R453). -/
def Session.ackRanges (s : Session) : List (Nat × Nat) := (runsOf (s.held.foldl (fun l f => insertNat f.seq l) [])).take 16

/-- Sends an ACK frame of the session on a path (R446, R450, R453). -/
def Drive.sendAck (sid path : Nat) (d : Drive) : Drive :=
  let s := d.sess sid
  let slot := d.sslot sid
  if s.state = 0x40 ∨ slot.state = 0x30 ∨ slot.state = 0x33 then d
  else
    let peer := (s.path path).source
    let s' := (s.setPath path { s.path path with lastSent := d.now })
    let mark := (d.prt path).marking none
    let len := 8 + 16 * s.ackRanges.length
    let d := if (d.prt path).link = 4 then d.meterOut s.tenant (48 + len) else d
    ((d.setSess sid { s' with ackTx := s.ackTx + 1, sinceAck := 0, ackDue := none }).setSslot sid
      { slot with framesOut := slot.framesOut + 1 }).portTx path (gkpLength peer 32 len) 0 (peer.vid != 0) false
        (.frame path peer (gkpIp peer.v6 (some mark.1)) mark.2 sid 2 s.ackTx (4 * (slot.phase % 2)) s.rxNext s.window s.ceCount len
          (min 65535 ((d.now - s.lastRxAt) / 1000)) s.ackRanges)

/-! ## Flags (R862 to R864) -/

/-- In I3C mode each setting of FLAG.ALERT raises one in-band interrupt, from the drive's dynamic address (R689). -/
def Drive.inBand (d : Drive) : Drive := if d.mod.i3c then d.emit (.sideband 0 0x0F0 [d.mod.i3cAddr] []) else d

/-- A setting occurrence of FLAG.ALERT (R689, R863). -/
def Drive.raiseAlert (d : Drive) : Drive :=
  if d.flag.alert then d else { d with flag.alert := true, flag.countAlert := satAdd 32 d.flag.countAlert 1 }.inBand

/-- WEAR_READ_ONLY holds: the flag is set, and counted when it was clear (R863, R864). -/
def Drive.raiseWear (d : Drive) : Drive :=
  if d.flag.wearReadOnly then d else { d with flag.wearReadOnly := true, flag.countWear := satAdd 32 d.flag.countWear 1 }

/-- FWD_PAUSE holds: the flag is set, and counted when it was clear (R863, R864). -/
def Drive.raiseFwd (d : Drive) : Drive :=
  if d.flag.fwdPause then d else { d with flag.fwdPause := true, flag.countFwd := satAdd 32 d.flag.countFwd 1 }

/-! ## Entering event records into staging (R770 to R783, R799, R876) -/

/-- Payload of an event: a work tag in bytes 0 to 15 where one is named, then one 8-byte word for each field (R876). -/
def eventPayload (tag : Option WorkTag) (words : List Nat) : Bytes :=
  let b := (match tag with | some t => tagBytes t | none => []) ++ (words.map (beBytes 8)).flatten
  b ++ List.replicate (32 - b.length) 0

/-- A field of 16 bytes takes two words (R876). -/
def wide (n : Nat) : List Nat := [n / 2 ^ 64, n % 2 ^ 64]

/-- The 64 bytes of an event record (Table 16.1). -/
def recordBytes (e : Event) : Bytes :=
  beBytes 32 (e.seq * 2 ^ 192 + e.opTime % 2 ^ 60 * 2 ^ 132 + e.cycles % 2 ^ 24 * 2 ^ 108 + e.epoch % 2 ^ 32 * 2 ^ 76 +
    e.wallSec % 2 ^ 32 * 2 ^ 44 + e.wallNs % 2 ^ 30 * 2 ^ 14 + e.sev % 8 * 2 ^ 11 + e.src % 2 ^ 11) ++ e.payload

/-- A source's bit in an array of the EVEN page (R869). -/
def evenBit (reset : Nat) (src : Nat) (t : Tbl Nat) : Bool := bit (src % 32) (tgetD (src / 32) reset t)

/-- The place of staging is open to a severity: the last 256 of 16,384 only to ERROR and CRITICAL (R775). -/
def Drive.stagingRoom (d : Drive) (sev : Nat) : Bool := decide (d.rec_.staging.length < if sev < 3 then 16128 else 16384)

/-- A record that finds no place is counted, and opens or extends the overflow episode (R780, R782). -/
def Drive.dropEvent (src sev : Nat) (d : Drive) : Drive :=
  let e := d.rec_.episode.getD { first := d.now }
  let d := { d with
    rec_.drops := tmod src 0 (· + 1) d.rec_.drops
    rec_.episode := some { e with
      total := satAdd 32 e.total 1, last := d.now, maxSev := max e.maxSev sev
      counts := tmod src 0 (· + 1) e.counts } }
  if d.rec_.threshold ≤ sev then d.raiseAlert else d

/-- An event reaches Thicket: counted; unless its source is disabled it enters staging whole with the next number and one stamp
(R771, R783, R799). Answers the record when one was made. -/
def Drive.enter (src sev : Nat) (payload : Bytes) (d : Drive) : Option Event × Drive :=
  let d := { d with rec_.counts := tmod src 0 (· + 1) d.rec_.counts }
  if !evenBit (2 ^ 32 - 1) src d.rec_.enable then (none, d)
  else if !d.stagingRoom sev then (none, d.dropEvent src sev)
  else
    let e : Event := {
      seq := d.rec_.next, opTime := d.now, cycles := d.time.powerCycles, epoch := d.time.wallEpoch
      wallSec := d.wallNow / 1000000000, wallNs := d.wallNow % 1000000000, sev, src, payload }
    (some e, { d with
      rec_.staging := d.rec_.staging ++ [e], rec_.next := d.rec_.next + 1
      rec_.frozenStaged := if d.rec_.state = 0xE2 then d.rec_.frozenStaged + 1 else d.rec_.frozenStaged })

/-- A record is told to the operator: its severity reaches the threshold, or its source's notify bit is set (R800). -/
def Drive.tells (d : Drive) (src sev : Nat) : Bool := decide (d.rec_.threshold ≤ sev) || evenBit 0 src d.rec_.notify

/-- A flush begins: the next group of at most 1,024 staged records is written to the log (R776). -/
def Drive.startFlush (d : Drive) : Drive :=
  if (d.rec_.state = 0xE1 ∨ d.rec_.state = 0xE3) ∧ d.rec_.writing = 0 then
    { d with rec_.writing := min 1024 d.rec_.staging.length }
  else d

/-! ## Notices (R477 to R479) -/

/-- Notice kinds that a full queue drops: EVENT and PATH_CHANGE. -/
def Notice.droppable (n : Notice) : Bool := n.kind == 1 || n.kind == 6

/-- Removes the first element that `p` accepts. -/
def removeFirst {α : Type} (p : α → Bool) : List α → List α
  | [] => []
  | a :: r => if p a then r else a :: removeFirst p r

/-- Queues a notice by the rules of R479: 256 places, two more for REKEY_REQUIRED and SESSION_ENDING. `lost` is what a notice that is
dropped or displaced leaves. -/
def Drive.queueWith (lost : Nat → Drive → Drive) (sid : Nat) (n : Notice) (d : Drive) : Drive :=
  let s := d.sess sid
  let put := fun (d : Drive) => d.modSess sid (fun s => { s with notices := s.notices ++ [n] })
  if s.notices.length < 256 then put d
  else if n.droppable then lost sid d
  else if n.kind = 3 then d.modSess sid (fun s => { s with pendingNotices := s.pendingNotices ++ [n] })
  else if s.notices.any (fun m => m.kind == 1) then
    put ((lost sid d).modSess sid (fun s => { s with notices := removeFirst (fun m => m.kind == 1) s.notices }))
  else if s.notices.any (fun m => m.kind == 6) then
    put ((lost sid d).modSess sid (fun s => { s with notices := removeFirst (fun m => m.kind == 6) s.notices }))
  else if n.kind = 4 then d.modSess sid (fun s => { s with pendingNotices := s.pendingNotices ++ [n] })
  else if s.notices.length < 258 then put d
  else lost sid d

/-- Header of a notice (R477). -/
def noticeHdr (tenant number : Nat) (n : Notice) : OpHdr :=
  { opcode := 0xF0, flags := n.kind, status := n.status, rid := number, tenant := tenant, ns := n.ns, offset := n.offset, valueLen := n.body.length }

/-- Sends queued notices while the session has nothing waiting for window (R478), then the pending ones that now find a place and
the NOTICE_OVERFLOW notice (R479). -/
def sendNotices (sid : Nat) : Nat → Drive → Drive
  | 0, d => d
  | k + 1, d =>
    let s := d.sess sid
    if s.state = 0x40 ∨ s.unacked.any (fun f => !f.sent) then d
    else match s.notices with
      | [] =>
        match s.pendingNotices with
        | n :: r => sendNotices sid k (d.setSess sid { s with notices := [n], pendingNotices := r })
        | [] => d
      | n :: r =>
        let h := noticeHdr s.tenant s.noticeNext n
        let d := d.setSess sid { s with notices := r, noticeNext := s.noticeNext + 1 }
        let d := (d.emit (.reply (.session sid 0) h n.body)).sendPart sid s.noticeNext 0 true true h n.body
        let s := d.sess sid
        let d := if s.noticeDropped > 0 ∧ s.notices.length < 256 then
            d.setSess sid { s with notices := s.notices ++ [{ kind := 7, offset := s.noticeDropped * 2 ^ 40 }], noticeDropped := 0, overflowRecorded := false }
          else d
        sendNotices sid k d

/-- Posts a notice: queued as `lost` says, and sent as soon as it can be. -/
def Drive.noticeWith (lost : Nat → Drive → Drive) (sid : Nat) (n : Notice) (d : Drive) : Drive :=
  if (d.sess sid).state = 0x40 then d
  else
    let d := d.queueWith lost sid { n with offset := if n.kind = 7 then n.offset else n.offset + sid }
    sendNotices sid ((d.sess sid).notices.length + (d.sess sid).pendingNotices.length + 1) d

/-- An EVENT notice is lost on session 0. The NOTICE_OVERFLOW event that the first loss records would itself find no place (R479). -/
def Drive.eventNoticeLost (sid : Nat) (d : Drive) : Drive :=
  let n := if (d.sess sid).overflowRecorded then 1 else 2
  let d := if n = 1 then d
    else
      let (e, d) := d.enter 0x609 Sev.warning (eventPayload none [])
      if e.isSome && d.tells 0x609 Sev.warning then d.raiseAlert else d
  let d := { d with xp.noticeDrops := (d.xp.noticeDrops + n) % 2 ^ 64 }
  d.modSess sid (fun s => { s with noticeDropped := s.noticeDropped + n, overflowRecorded := true })

/-- The drive records an event (R771, R776, R800). -/
def Drive.event (src sev : Nat) (words : List Nat) (d : Drive) (tag : Option WorkTag := none) : Drive :=
  match d.enter src sev (eventPayload tag words) with
  | (none, d) => d
  | (some e, d) =>
    let d := if d.tells src sev then
        (if d.rec_.based then d.noticeWith Drive.eventNoticeLost 0 { kind := 1, body := recordBytes e } else d).raiseAlert
      else d
    if 3 ≤ sev ∨ 1024 ≤ d.rec_.staging.length then d.startFlush else d

/-- A notice that finds no room, or is displaced: counted, and NOTICE_OVERFLOW recorded once per overflow (R479). -/
def Drive.noticeLost (sid : Nat) (d : Drive) : Drive :=
  let d := if (d.sess sid).overflowRecorded then d else d.event 0x609 Sev.warning []
  let d := { d with xp.noticeDrops := (d.xp.noticeDrops + 1) % 2 ^ 64 }
  d.modSess sid (fun s => { s with noticeDropped := s.noticeDropped + 1, overflowRecorded := true })

/-- The drive posts a notice on a session (R477); a CLOSED session takes none. -/
def Drive.notice (sid : Nat) (n : Notice) (d : Drive) : Drive := d.noticeWith Drive.noticeLost sid n

/-! ## The request table -/

def Drive.req? (o : Origin) (d : Drive) : Option Req := d.kv.reqs.find? (fun r => r.origin = o)

def Drive.putReq (r : Req) (d : Drive) : Drive :=
  { d with kv.reqs := d.kv.reqs.map (fun x => if x.origin = r.origin then r else x) }

/-- A request takes its place behind those of its session whose first frames have lower sequence numbers (R85). -/
def insertReq (r : Req) : List Req → List Req
  | [] => [r]
  | q :: l =>
    let later := match q.origin, r.origin with
      | .session a _, .session b _ => a == b && decide (r.firstSeq < q.firstSeq)
      | _, _ => false
    if later then r :: q :: l else q :: insertReq r l

def Drive.addReq (r : Req) (d : Drive) : Drive := { d with kv.reqs := insertReq r d.kv.reqs }

def Drive.dropReq (o : Origin) (d : Drive) : Drive := { d with kv.reqs := d.kv.reqs.filter (fun r => r.origin ≠ o) }

/-- Both came over one channel of the management sequencer in an order the spec gives: one session's in-band requests, or the sideband's. -/
def sameChannel : Origin → Origin → Bool
  | .session a _, .session b _ => a == b
  | .sideband _ _, .sideband _ _ => true
  | _, _ => false

/-- The sequencer has come to a management request: none of its channel stands before it, in the order of first frames in-band (R85) and of
arrival on the sideband (R814). A request of the data path is not the sequencer's. -/
def Drive.sequenced (r : Req) (d : Drive) : Bool :=
  decide (r.hdr.opcode < 0x30) ||
    (!(d.kv.reqs.takeWhile (fun q => q.origin ≠ r.origin)).any (fun q => q.phase = .active && decide (0x30 ≤ q.hdr.opcode) && sameChannel q.origin r.origin) &&
      match r.origin with
      | .session sid _ => !(d.sess sid).assemblies.any (fun a => decide (0x30 ≤ a.op.opcode ∧ a.firstSeq < r.firstSeq))
      | _ => true)

/-- Runs `f` on an admitted request of one of the opcodes whose turn it is; anything else has no effect (log entry 5). -/
def Drive.withReq (o : Origin) (ops : List Nat) (d : Drive) (f : Req → Drive → Drive) : Drive :=
  match d.req? o with
  | some r => if r.phase = .active ∧ r.hdr.opcode ∈ ops ∧ d.sequenced r = true then f r d else d
  | none => d

/-- Runs `f` on a request of any phase of the list. -/
def Drive.withPhase (o : Origin) (ps : List ReqPhase) (d : Drive) (f : Req → Drive → Drive) : Drive :=
  match d.req? o with
  | some r => if r.phase ∈ ps then f r d else d
  | none => d

/-! ## Twin messages -/

/-- Sends a twin message when the link is up and authenticated (R290, R299); otherwise it is not sent now. -/
def Drive.twinSend (m : TwinMsg) (d : Drive) : Drive :=
  if d.twin.linkUp && d.twin.authenticated then
    let (len, d) := d.fresh
    d.portTx 2 len 0 false false (.twin m)
  else d

/-- A new op_id: the role bit and this drive's operation counter (Table 6.4). -/
def Drive.newOpId (d : Drive) : Nat × Drive :=
  ((d.twin.role.getD 0) * 2 ^ 63 + (d.twin.opCounter % 2 ^ 63), { d with twin.opCounter := d.twin.opCounter + 1 })

/-- The twin link takes another operation of this drive's own: fewer than 16,384 are outstanding (R301). -/
def Drive.twinRoom (d : Drive) : Bool :=
  decide ((d.twin.out.filter (fun x => x.opId / 2 ^ 63 == d.twin.role.getD 0)).length < 16384)

/-- Sends an operation that the twin must answer, and keeps it until it does (R300, R301). -/
def Drive.twinOp (op : TwinOp) (d : Drive) : Drive := ({ d with twin.out := d.twin.out ++ [op] }).twinSend op.msg

/-- The twin has answered `opId`. -/
def Drive.twinDone (opId : Nat) (d : Drive) : Drive := { d with twin.out := d.twin.out.filter (fun o => o.opId ≠ opId) }

/-- Remembers an op_id received from the twin with the reply it got; at most 65,536 are kept (R301). -/
def Drive.twinSeen (opId : Nat) (reply : Option TwinMsg) (d : Drive) : Drive :=
  { d with twin.seen := ((opId, reply) :: d.twin.seen.filter (fun p => p.1 ≠ opId)).take 65536 }

def Drive.twinSeen? (opId : Nat) (d : Drive) : Option (Option TwinMsg) := (d.twin.seen.find? (fun p => p.1 = opId)).map (·.2)

/-! ## Ring messages (R350, R351, R403) -/

/-- HEDGE.RING_MAP: the positions reachable on either side, this drive's among them (R349). -/
def Drive.ringMap (d : Drive) : Nat := (d.ring.east.reach ||| d.ring.west.reach) ||| 2 ^ d.mod.slotId

/-- A position the drive can reach through the ring, other than its own. -/
def Drive.reaches (d : Drive) (pos : Nat) : Bool := pos != d.mod.slotId && bit pos d.ringMap

/-- The hedgerow key is loaded (R350): without it no ring frame can be sealed or verified. -/
def Drive.ringKeyed (d : Drive) : Bool := (tgetD 73732 {} d.keys.system).state != 0x3C

def Ring.side (r : Ring) (east : Bool) : RingSide := if east then r.east else r.west

def Ring.setSide (east : Bool) (x : RingSide) (r : Ring) : Ring := if east then { r with east := x } else { r with west := x }

/-- HEDGE.STATE (R349): 0 RING when both links are up and the same members are reached either way round, 1 LINE, 2 ISOLATED. -/
def Drive.ringState (d : Drive) : Nat :=
  if d.ring.east.up && d.ring.west.up then (if d.ring.east.reach = d.ring.west.reach then 0 else 1)
  else if d.ring.east.up || d.ring.west.up then 1 else 2

/-- The side towards a position: the shorter path in a ring, east when equal; in a line the only one (R351). -/
def Drive.ringWay (d : Drive) (dest : Nat) : Option Bool :=
  if d.ringState = 0 then
    let n := ((List.range 32).filter (fun p => bit p d.ringMap)).length
    let e := (dest + n - d.mod.slotId % n) % n
    some (decide (e ≤ n - e))
  else if bit dest d.ring.east.reach then some true
  else if bit dest d.ring.west.reach then some false
  else none

/-- A ring frame leaves on one side; its length is a free value. -/
def ringTx (east : Bool) (o : Out) (d : Drive) : Drive :=
  let (len, d) := d.fresh
  d.portTx (if east then 3 else 4) len 0 false false o

/-- A ring message has been consumed: the buffers of the oldest GKP frame of the hedgerow ports return (R513). -/
def Drive.takeRingSide (d : Drive) : Drive :=
  match tgetD 1 [] (d.prt 3).rings, tgetD 1 [] (d.prt 4).rings with
  | [], _ => d.takeRing 4 1
  | _, [] => d.takeRing 3 1
  | a :: _, b :: _ => if a.rxTime ≤ b.rxTime then d.takeRing 3 1 else d.takeRing 4 1

/-- Sends a ring frame to a position it can reach; `args` begins with its ring_seq (Table 6.13). -/
def Drive.ringSend (code dest cls : Nat) (args : List Nat) (body : Bytes) (d : Drive) : Drive :=
  if d.ringKeyed && d.reaches dest then
    match d.ringWay dest with
    | some e =>
      ringTx e (.ring code (some dest) cls (tgetD dest 0 d.ring.seqOut :: args) body)
        { d with ring.seqOut := tmod dest 0 (· + 1) d.ring.seqOut }
    | none => d
  else d

/-- A ring frame from a member whose parameters are known is taken once per ring_seq (R350, R403). -/
def Drive.fromRing (src seq : Nat) (f : Drive → Drive) (d : Drive) : Drive :=
  let d := d.takeRingSide
  if !d.ringKeyed || (tget? src d.keys.ringSenders).isNone || d.ring.seqIn.contains (src, false, seq) then d
  else f { d with ring.seqIn := (src, false, seq) :: d.ring.seqIn }

/-! ## Replies -/

/-- Whether R100 lets a status be remembered. -/
def remembered (status : Nat) : Bool :=
  !(status == St.internalError || status == St.throttled || status == St.deadlineMissed || status == St.twinUnavailable ||
    status == St.homeFenced || status == St.txnConflict)

/-- Operations executed afresh on every resend (R99): GET, GET_RANGE, EXISTS, LIST, LOC_GET, NS_INFO, ATTR_READ, ATTR_BULK_READ,
METER_READ, JOB_STATUS, PING. -/
def freshOps : List Nat := [0x01, 0x05, 0x04, 0x08, 0x20, 0x63, 0x50, 0x52, 0x70, 0x34, 0x43]

/-- Records the outcome of a request in its session's window (R96, R97, R100). The id of a request without a remembered outcome stays in
the window, and a resend of it is executed afresh (R99, R100), but for what R436 says of DRAINING. -/
def dedupDone (rid : Nat) (h : OpHdr) (body : Bytes) (l : List DedupEnt) : List DedupEnt :=
  if remembered h.status ∧ h.opcode ∉ freshOps then
    l.map (fun e => if e.rid = rid then { e with done := true, hdr := h, body := body } else e)
  else l.map (fun e => if e.rid = rid then { e with forgot := !remembered h.status } else e)

/-- The path on which a session's request arrived. -/
def Session.reqPath (s : Session) (rid : Nat) : Nat := ((s.ring.find? (fun x => x.rid = rid)).map (·.path)).getD 0

/-- Reply payload bytes are charged to the tenant's byte buckets as they are sent (R472). -/
def Drive.chargeReply (t n : Nat) (d : Drive) : Drive :=
  match tget? t d.xp.shapers with
  | none => d
  | some sh =>
    let c := fun (rate : Nat) (b : Int) => if rate = 0 then b else b - Int.ofNat n * 1000000000
    { d with xp.shapers := tput t { sh with bResBytes := c sh.resKbps sh.bResBytes, bLimBytes := c sh.limKbps sh.bLimBytes } d.xp.shapers }

/-- A message of a reply leaves on the session: its descriptor waits for the acknowledgement of its last frame (R469). -/
def Drive.replyFrames (sid rid : Nat) (first last : Bool) (h : OpHdr) (body : Bytes) (d : Drive) : Drive :=
  let d := (d.chargeReply (d.sess sid).tenant body.length).modSess sid (fun s => { s with ring := s.ring.map (fun x =>
    if x.rid = rid then { x with state := 4, bytes := if first then 0 else x.bytes } else x) })
  d.sendPart sid rid ((d.sess sid).reqPath rid) first last h body

/-- The drive answers a request (R25, R33): the reply leaves, the outcome is remembered where R97 to R100 say so, and the request ends. -/
def Drive.answer (o : Origin) (h : OpHdr) (body : Bytes) (d : Drive) : Drive :=
  let d := match d.req? o with
    | some r => d.meterReply r
    | none => d
  let d := (d.emit (.reply o h body)).dropReq o
  match o with
  | .session sid rid =>
    let d := d.modSess sid (fun s => { s with dedup := dedupDone rid h body s.dedup })
    d.replyFrames sid rid true true h body
  | .sideband _ _ => d
  | .ring pos _ => d.ringSend 0x21 pos 2 [h.opcode, h.status] (hdrBytes h ++ body)
  | .twin opId =>
    let m : TwinMsg := { code := 0x03, opId := opId, version := h.condVersion, body := .reply h body }
    (d.twinSeen opId (some m)).twinSend m

/-- Fields of a request that every reply echoes (R25). -/
def echo (h : OpHdr) : OpHdr :=
  { opcode := h.opcode, rid := h.rid, tenant := h.tenant, ns := h.ns, qos := h.qos }

/-- No other request of the session is left: the reply to its own SESSION_CLOSE leaves, the last DATA frame of the session (R438). `late`: the
session ends now whatever is left. -/
def Drive.lastReply (sid : Nat) (late : Bool) (d : Drive) : Drive :=
  let s := d.sess sid
  match s.closeOwn with
  | none => d
  | some o =>
    match d.req? o with
    | none => d
    | some r =>
      if late || !(d.kv.reqs.any (fun q => q.origin.ofSession sid && q.origin != o) || !s.assemblies.isEmpty) then
        (d.answer o (echo r.hdr) []).modSess sid (fun s => { s with closeOwn := none, finished := true })
      else d

/-- The drive answers a request, and with it the SESSION_CLOSE that waited for the session's other requests (R438). -/
def Drive.reply (o : Origin) (h : OpHdr) (body : Bytes) (d : Drive) : Drive :=
  let d := d.answer o h body
  match o with
  | .session sid _ => d.lastReply sid false
  | _ => d

/-- The header of a reply without effect: what every reply echoes, and of Table 1.3 what does not rest on an effect: the durability level
of a write (R26), the length a PUT would have stored, the first byte a GET_RANGE asked for. -/
def refusedHdr (h : OpHdr) : OpHdr :=
  { echo h with
    durability := if isWrite h.opcode then durApplied h.durability else 0
    valueLen := if h.opcode = 0x02 then h.valueLen else 0
    offset := if h.opcode = 0x05 then h.offset else 0 }

/-- The drive answers a request with a status and no effect (R25, R32, R41); `offset`: the detail of its status, where it has one. -/
def Drive.refuse (r : Req) (status : Nat) (d : Drive) (version : Nat := 0) (offset : Nat := 0) : Drive :=
  let h := refusedHdr r.hdr
  d.reply r.origin { h with status := status, condVersion := version, offset := if offset = 0 then h.offset else offset } []

/-- STATE_CONFLICT with a state code and a page (R826): code in offset[47:40], page in offset[55:48]. -/
def conflictOffset (code page : Nat) : Nat := code * 2 ^ 40 + page * 2 ^ 48

def Drive.conflict (r : Req) (code page : Nat) (d : Drive) : Drive := d.refuse r St.stateConflict (offset := conflictOffset code page)

/-! ## Tolerance and power states (R746 to R756) -/

/-- A latency tolerance that contributes: not 65,535 (R749). -/
def minTolerance (l : List Nat) : Nat := (l.filter (· ≠ 65535)).foldl min 0xFFFFFFFF

/-- The drive's own tolerance in µs, 0xFFFF_FFFF for none (R749). -/
def Drive.lOwn (d : Drive) : Nat :=
  let recent := fun (t : Nat) => decide (d.now ≤ t + 10000000000)
  min (minTolerance ((d.xp.sessions.filter (fun (p : Nat × Session) => match p.2.dataAt with | some t => recent t | none => false)).map
        (fun (p : Nat × Session) => p.2.tolerance)))
    (minTolerance ((d.power.overrides.filter (fun (p : Nat × Nat) => recent p.1)).map (·.2)))

/-- The effective tolerance L (R750). -/
def Drive.tolerance (d : Drive) : Nat :=
  if d.twin.state = 1 ∨ d.twin.state = 2 ∨ d.twin.state = 6 then min d.lOwn d.twin.lOwnTwin else d.lOwn

/-- Wake latency of a power state in ns (Table 15.1). -/
def wakeNs (state : Nat) : Nat :=
  match state with
  | 0 => 0
  | 1 => 25000
  | 2 => 1500000
  | _ => 80000000

/-- The power state changes: its residency is counted, and POWER_STATE_CHANGE recorded (R747, Table 15.7). -/
def Drive.setPower (st : Nat) (d : Drive) : Drive :=
  if st = d.power.state then d
  else
    let old := d.power.state
    let d := { d with
      power.residency := tmod old 0 (· + (d.now - d.power.changedAt)) d.power.residency
      power.changedAt := d.now, power.state := st, power.wakeAt := none }
    d.event 0x060 Sev.info [old, st, d.tolerance]

/-- A condition of R753 arises: the return to Leafed begins. -/
def Drive.beginWake (d : Drive) : Drive :=
  if d.power.state = 0 ∨ d.power.wakeAt.isSome then d else { d with power.wakeAt := some (d.now + wakeNs d.power.state) }

/-- What waits for the wake goes on once the drive is in Leafed (R753, R754). -/
def Drive.awaken (d : Drive) : Drive :=
  let d := d.beginWake
  match d.power.wakeAt with
  | some t => (d.advanceTo t).setPower 0
  | none => d

/-- Something that kept the drive busy has ended: an idle period can begin only now (R748, R751). -/
def Drive.wasBusy (d : Drive) : Drive := { d with power.idleFrom := d.now }

/-! ## Writes of attributes (R822, R857) -/

/-- What a write of one attribute word comes to: its status, the reply's offset bits (R826), and the drive. -/
structure Wr where
  status : Nat := 0
  offset : Nat := 0
  dev : Drive

def Wr.ok (d : Drive) : Wr := { dev := d }
def Wr.bad (status : Nat) (d : Drive) : Wr := { status := status, dev := d }
def Wr.conflict (code page : Nat) (d : Drive) : Wr := { status := St.stateConflict, offset := conflictOffset code page, dev := d }

/-- Words that a channel has written of a multi-word attribute are discarded when it next writes an address that does not follow them
(R856). -/
def Drive.unheld (ch addr : Nat) (d : Drive) : Drive :=
  let c := tgetD ch ({} : MgmtChan) d.chans
  if c.held = [] ∨ c.heldAt + c.held.length = addr then d else { d with chans := tmod ch {} (fun (c : MgmtChan) => { c with heldAt := 0, held := [] }) d.chans }

/-- A management request that writes one word of an attribute from a channel (0 sideband in the operator role, 1 session 0). -/
def attrCmd (ch addr : Nat) (w : Drive → Wr) (d : Drive) : Drive :=
  let r := w (d.awaken.unheld ch addr)
  r.dev.emit (.attr ch addr r.status r.offset)

/-! ## Deltas (R268, R269) -/

/-- Bytes the undrained deltas take in 4 KiB blocks of 127. -/
def Drive.undrained (d : Drive) : Nat := ceilDiv d.media.delta.length 127 * 4096

/-- The delta log takes another delta: otherwise its producers wait (R268). -/
def Drive.canDelta (d : Drive) : Bool := d.undrained < d.media.deltaLimitMiB * 2 ^ 20

/-- Appends a delta to the log. -/
def Drive.delta (x : Delta) (d : Drive) : Drive :=
  { d with media.delta := d.media.delta ++ [(d.media.deltaNext, x)], media.deltaNext := d.media.deltaNext + 1 }

/-- FWD_REMOVE deltas for entries that leave the forwarding table, one each (Table 5.6). -/
def Drive.fwdRemoved (l : List FwdEnt) (d : Drive) : Drive :=
  l.foldl (fun (d : Drive) (e : FwdEnt) => d.delta { kind := 6, ns := e.ns, newLoc := locBits e.newSb e.newGran, oldLoc := locBits e.oldSb e.oldGran,
                                                     len := e.oldEpoch * 65536 + e.newEpoch * 256 }) d

/-! ## The sequencer (R81 to R83, R292 to R298, R872, R873) -/

/-- The pair tick: one per 4 ns (R292). -/
def Drive.tick (d : Drive) : Nat := max d.twin.tickFloor (d.twin.tickBase + d.time.opNs / 4)

/-- The pair tick steps forward to `t`; it never goes back (R292). -/
def Drive.tickTo (t : Nat) (d : Drive) : Drive := if d.tick < t then { d with twin.tickBase := t - d.time.opNs / 4 } else d

/-- The home bit this drive writes in versions (Table 6.3, R291). -/
def Drive.roleBit (d : Drive) : Nat := d.twin.role.getD 0

/-- A version's tick. -/
def verTick (v : Nat) : Nat := v / 16

/-- The version of the present cycle on an input (Table 6.3). -/
def Drive.cycleVersion (d : Drive) (input : Nat) : Nat :=
  d.tick * 16 + (4 * (d.time.opNs / 2 % 2) + input) * 2 + d.roleBit

/-- Reserves pair ticks in blocks of 2^16 by a COUNTER delta (R294). -/
def Drive.reserveTicks (d : Drive) : Drive :=
  if d.tick < d.twin.reservedTick then d
  else
    let start := d.tick / 65536 * 65536
    ({ d with twin.reservedTick := start + 65536 }).delta { kind := 8, tag := 1, version := 16 * start }

/-- The sequencer may assign: the block does not lie more than 2^32 ticks above the highest drained reservation (R872), the delta
log takes a COUNTER delta, and the version space is not exhausted. -/
def Drive.canAssign (d : Drive) : Bool :=
  d.canDelta && decide (d.tick / 65536 * 65536 ≤ d.kv.durable.reservedTick - 65536 + 2 ^ 32)

/-- Assigns the next version on an input: greater than every version assigned or installed (R83, R298). Where the present cycle's
version is not greater, the sequencer takes the request in a later cycle (log entry 6). -/
def Drive.assign (input : Nat) (d : Drive) : Nat × Drive :=
  let d := if d.kv.lastVersion < d.cycleVersion input then d
    else d.advanceTo (4 * (verTick d.kv.lastVersion + 1 - d.twin.tickBase))
  let d := d.reserveTicks
  let v := d.cycleVersion input
  (v, { d with kv.lastVersion := v })

/-- The pair's current version: above every version assigned or installed so far (R22, R154). -/
def Drive.pairVersion (d : Drive) : Nat := max (d.kv.lastVersion + 1) (d.tick * 16)

/-- Raises the pair tick above an installed version's tick (R873). -/
def Drive.raiseTick (v : Nat) (d : Drive) : Drive :=
  { d.tickTo (verTick v + 1) with kv.lastVersion := max d.kv.lastVersion v }.reserveTicks

/-- Ticks of the commit wait: W = ⌈B / 4⌉ + 1 with B = |offset| + 8 ns (R296, R297). -/
def Drive.commitWait (d : Drive) : Nat := ceilDiv (d.twin.offsetNs.natAbs + 8) 4 + 1

end Sys2Proof.Machine
end

