-- ==== Sys2Proof/Machine/Operands.lean ====
section
/-! DEFINITION. Machine/Operands.lean: how operands are read from a request's header and payload, and how replies' payloads are laid
out: keys and values, batches, locator tokens, LIST cursors and entries, namespace descriptors, blobs. -/

namespace Sys2Proof.Machine
open Sys2Proof

/-- The key of a request: the first key_length bytes of its payload (Table 1.1). -/
def Req.key (r : Req) : Bytes := r.body.take r.hdr.keyLen

/-- The value of a PUT: the bytes after the key. -/
def Req.value (r : Req) : Bytes := r.body.drop r.hdr.keyLen

/-- COND of op_flags (Table 1.2): 0 none, 1 IF_VERSION_EQ, 2 IF_ABSENT, 3 IF_PRESENT. -/
def condOf (flags : Nat) : Nat := flags % 4

/-- LT_OVERRIDE (Table 1.2). -/
def ltOverride (flags : Nat) : Bool := bit 2 flags

/-- Whether Table 1.5 allows a condition on an operation. -/
def condAllowed (opcode cond version : Nat) : Bool :=
  match cond with
  | 0 => true
  | 1 => if opcode = 0x02 then true else if opcode = 0x08 then false else version != 0
  | 2 => opcode == 0x02
  | _ => opcode == 0x02 || opcode == 0x03

/-- Outcome of Table 1.5 for a write or a read whose key has the current version `cur` (none: absent): none when it passes. -/
def condOutcome (opcode cond version : Nat) (cur : Option Nat) : Option Nat :=
  match cond, cur with
  | 1, some v => if v = version then none else some St.versionMismatch
  | 1, none =>
    if opcode = 0x02 ∧ version = 0 then none else some St.versionMismatch
  | 2, some _ => some St.alreadyExists
  | 2, none => none
  | 3, none => some St.notFound
  | 3, some _ => none
  | _, none => if opcode = 0x02 then none else some St.notFound
  | _, some _ => none

/-! ## Batches (Tables 2.3, 2.4, 2.7) -/

/-- The descriptor of member `i`, without its data. -/
def memberDesc (body : Bytes) (i : Nat) : Member :=
  let b := slice (8 + 24 * i) 24 body
  { op := field 0 1 b, flags := field 1 1 b, ns := field 2 2 b, keyLen := field 4 2 b, valueLen := field 8 8 b,
    condVersion := field 16 8 b, key := [], value := [] }

/-- The members' data, in order: each key and each value padded to 8 (R105). -/
def memberData : List Member → Bytes → List Member
  | [], _ => []
  | m :: r, b =>
    let k := b.take m.keyLen
    let b := b.drop (roundUp 8 m.keyLen)
    let v := b.take m.valueLen
    { m with key := k, value := v } :: memberData r (b.drop (roundUp 8 m.valueLen))

/-- member_count of the preamble. -/
def memberCount (body : Bytes) : Nat := field 0 2 body

/-- The members of a batch payload. -/
def parseMembers (body : Bytes) : List Member :=
  let ms := (List.range (min (memberCount body) 65)).map (memberDesc body)
  memberData ms (body.drop (8 + 24 * ms.length))

/-- The payload length that the preamble and the descriptors imply (R109). -/
def impliedLength (ms : List Member) : Nat :=
  8 + 24 * ms.length + (ms.map (fun m => roundUp 8 m.keyLen + roundUp 8 m.valueLen)).sum

/-- 16 bytes of a member result (Table 2.7). -/
def resultBytes (r : MemberResult) : Bytes :=
  beBytes 2 r.status ++ beBytes 1 (2 * b2n r.twinHomed + b2n r.applied) ++ beBytes 5 0 ++ beBytes 8 r.version

/-! ## Locator tokens (Table 3.8) -/

structure Token where
  sb : Nat
  gran : Nat
  len : Nat
  home : Nat
  reserved : Bool
  ns : Nat
  epoch : Nat
  check : Nat
deriving DecidableEq, Repr

/-- Bytes 0 to 10 of a token, over which its check is made (R177). -/
def tokenHead (t : Token) : Bytes :=
  beBytes 5 (locBits t.sb t.gran) ++ beBytes 3 t.len ++ beBytes 2 (t.home * 2 ^ 15 + b2n t.reserved * 2 ^ 14 + t.ns) ++ beBytes 1 t.epoch

def tokenBytes (t : Token) : Bytes := tokenHead t ++ beBytes 5 t.check

/-- The 40 most significant bits of the CMAC under the home's locator key (R177). -/
def tokenCheck (key : Config.Key) (t : Token) : Nat := bits 127 88 (Config.cmac key (tokenHead t))

def parseToken (b : Bytes) : Token :=
  let loc := field 0 5 b
  let w := field 8 2 b
  { sb := loc / 2 ^ 25, gran := loc % 2 ^ 25, len := field 5 3 b, home := w / 2 ^ 15, reserved := bit 14 w, ns := w % 2 ^ 14,
    epoch := field 10 1 b, check := field 11 5 b }

/-- The 16-byte tokens of a RELOC_ACK payload (R188). -/
def tokensOf : Nat → Bytes → List Token
  | 0, _ => []
  | n + 1, b => if b.length < 16 then [] else parseToken (b.take 16) :: tokensOf n (b.drop 16)

/-! ## LIST (Tables 1.8, R176) -/

/-- A LIST entry: with LIST_META its version and length, then the padded key; an unreadable key is not there (R72). -/
def listEntry (withMeta : Bool) (key : Bytes) (unreadable marked : Bool) (version len : Nat) : Bytes :=
  beBytes 2 (if unreadable then 0 else key.length) ++ beBytes 2 (2 * b2n unreadable + b2n marked) ++ beBytes 4 0 ++
  (if withMeta then beBytes 8 version ++ beBytes 8 len else []) ++ (if unreadable then [] else pad8 key)

/-! ## Namespace descriptors (Table 3.4) -/

structure NsDesc where
  kind : Nat
  soloWrites : Bool
  solo : Bool
  quota : Nat
deriving DecidableEq, Repr

def parseNsDesc (b : Bytes) : NsDesc :=
  let w := field 1 1 b
  { kind := field 0 1 b, soloWrites := bit 1 w, solo := bit 0 w, quota := field 8 8 b }

/-- The 48 bytes of a descriptor. -/
def nsDescBytes (n : Ns) (fwdEntries : Nat) : Bytes :=
  beBytes 1 (if n.located then 2 else 1) ++ beBytes 1 (2 * b2n n.soloWrites + b2n n.solo) ++ beBytes 2 n.owner ++ beBytes 4 n.gen ++
  beBytes 8 n.quota ++ beBytes 8 n.used ++ beBytes 8 n.count ++ beBytes 8 n.physical ++ beBytes 4 fwdEntries ++ beBytes 3 0 ++ beBytes 1 n.state

end Sys2Proof.Machine
end

