-- ==== Sys2Proof/Machine/Flags.lean ====
section
/-! DEFINITION. Machine/Flags.lean: the flag bits the drive computes: reply op_flags (Tables 1.3a, 2.6) and the work tag's flags. -/

namespace Sys2Proof.Machine
open Sys2Proof

/-- Twin state a request is served under: in JOINING the state held before (log entry 7). -/
def Drive.effTwin (d : Drive) : Nat :=
  if d.twin.state = 1 then (if d.twin.prior = 7 then 3 else d.twin.prior) else d.twin.state

/-- DEGRADED: a write acknowledged under a takeover lease (R35), or by an unpaired drive (R291). -/
def Drive.degraded (d : Drive) : Bool := d.effTwin == 4 || d.effTwin == 0

/-- LATE: the reply leaves after the deadline (R39). -/
def Drive.late (d : Drive) (t : WorkTag) : Bool := passed d.nowUs t.deadline

/-- Reply op_flags (Table 1.3a). -/
def replyFlags (more forwarded degraded late : Bool) : Nat :=
  8 * b2n more + 4 * b2n forwarded + 2 * b2n degraded + b2n late

/-- WAITABLE (R216): the tolerance that applies is 65,535 or at least MEDIA.WAIT_THRESHOLD_US. -/
def Drive.waitable (d : Drive) (tolerance : Nat) : Bool :=
  tolerance == 65535 || decide (d.media.waitThresholdUs ≤ tolerance)

end Sys2Proof.Machine
end

