-- ==== Sys2Proof/Machine/JobTable.lean ====
section
/-! DEFINITION. Machine/JobTable.lean: the job table (R827, R828, R830, R832). -/

namespace Sys2Proof.Machine
open Sys2Proof

def Drive.job? (d : Drive) (id : Nat) : Option Job := d.jobs.table.find? (fun j => j.id = id)

/-- A job of a kind in one of the states. -/
def Drive.jobIn (d : Drive) (kind : Nat) (states : List Nat) : Option Job := d.jobs.table.find? (fun j => j.kind = kind ∧ j.state ∈ states)

/-- States in which a job is not ended (R831). -/
def jobLive : List Nat := [0xB0, 0xB1, 0xB2, 0xB3, 0xB4]

def Drive.putJob (j : Job) (d : Drive) : Drive := { d with jobs.table := d.jobs.table.map (fun (x : Job) => if x.id = j.id then j else x) }

/-- The first id from `n` on that is not 0 and not in the table. -/
def freeId (used : List Nat) : Nat → Nat → Nat
  | 0, n => n
  | k + 1, n =>
    let n := if 65535 < n then 1 else n
    if n = 0 ∨ used.contains n = true then freeId used k (n + 1) else n

/-- The ended entry that ended first. -/
def oldestEnded : List Job → Option Job
  | [] => none
  | j :: r =>
    match oldestEnded r with
    | none => if jobLive.contains j.state then none else some j
    | some k => if jobLive.contains j.state then some k else if j.endedAt ≤ k.endedAt then some j else some k

/-- A job of those that the sixteen kept entries are for: started by the drive or its twin, or a roll (R827). -/
def Job.own (j : Job) : Bool := 2 ≤ j.starter || j.kind == 0x0B

/-- A place of the table for a start; sixteen of the 256 are kept for jobs of the drive's own, so the others take at most 240. The oldest
ended entry that makes room goes (R827, R828). -/
def Drive.jobRoom (own : Bool) (d : Drive) : Option Drive :=
  let others := d.jobs.table.filter (fun j => !j.own)
  let crowded := !own && decide (240 ≤ others.length)
  if !crowded && decide (d.jobs.table.length < 256) then some d
  else match oldestEnded (if crowded then others else d.jobs.table) with
    | some j => some { d with jobs.table := d.jobs.table.filter (fun (x : Job) => x.id ≠ j.id) }
    | none => none

/-- Jobs that run. -/
def Drive.running (d : Drive) : Nat := (d.jobs.table.filter (fun j => j.state = 0xB1)).length

/-- The oldest queued job starts while fewer than eight run (R830). -/
def Drive.dequeue (d : Drive) : Drive :=
  if 8 ≤ d.running then d
  else match d.jobs.table.find? (fun j => j.state = 0xB0) with
    | some j => d.putJob { j with state := 0xB1 }
    | none => d

/-- A job enters the table, QUEUED, and runs at once when a place is free. Answers its id; none when the table is full. -/
def Drive.startJob (j : Job) (own : Bool) (d : Drive) : Option (Nat × Drive) :=
  (d.jobRoom own).map (fun d =>
    let id := freeId (d.jobs.table.map (·.id)) 300 d.jobs.nextId
    let d := { d with jobs.table := d.jobs.table ++ [{ j with id := id, state := 0xB0 }], jobs.nextId := if 65535 ≤ id then 1 else id + 1 }
    (id, (d.event 0x700 Sev.info [id, j.kind, j.starter]).dequeue))

/-- A job ends: DONE, or FAILED with a status; a running place frees (Table 17.8). -/
def Drive.endJob (j : Job) (status : Nat) (d : Drive) : Drive :=
  let d := d.putJob { j with state := if status = 0 then 0xB5 else 0xB7, result := status, endedAt := d.now }
  (if status = 0 then d.event 0x703 Sev.notice [j.id] else d.event 0x705 Sev.error [j.id, status]).wasBusy

/-- The drive starts a job of its own. -/
def Drive.ownJob (kind p0 : Nat) (d : Drive) : Drive :=
  match d.startJob { id := 0, kind := kind, starter := 2, p0 := p0 } true with
  | some (_, d) => d
  | none => d

/-- A live job of a kind ends. -/
def Drive.endKind (kind status : Nat) (d : Drive) : Drive :=
  match d.jobIn kind jobLive with
  | some j => d.endJob j status
  | none => d

end Sys2Proof.Machine
end

