-- ==== Sys2Proof/Machine/Juniper.lean ====
section
/-! DEFINITION. Machine/Juniper.lean: the meter (R593 to R621): intervals, records, the chain MAC, the store, and what a clock step, a key
change, a tick and a power failure do to them. -/

namespace Sys2Proof.Machine
open Sys2Proof

/-- A signed number as a 64-bit two's complement word. -/
def i64 (x : Int) : Nat := (x % 2 ^ 64).toNat

/-- Wall time is trusted (R573). -/
def Drive.trusted (d : Drive) : Bool :=
  d.time.state == 1 || d.time.state == 4 || (d.time.state == 2 && decide (d.time.estErrorNs ≤ d.time.trustLimitUs * 1000))

/-! ## Records and the chain (R606 to R611) -/

/-- Bytes 0 to 111 of a record (Table 11.7). -/
def recBody (r : MeterRec) : Bytes :=
  beBytes 6 r.seq ++ beBytes 2 r.tenant ++ beBytes 1 r.kind ++ beBytes 1 r.flags ++ beBytes 4 r.powerCycles ++ beBytes 8 r.startOp ++
  beBytes 4 r.durationMs ++ beBytes 6 (r.startWall / 1000000000) ++ beBytes 4 (r.startWall % 1000000000) ++ beBytes 4 r.wallEpoch ++
  ((List.range 8).map (fun c => beBytes 5 (tgetD c 0 r.ops))).flatten ++ beBytes 8 r.bytesIn ++ beBytes 8 r.bytesOut ++
  beBytes 8 r.capacity ++ beBytes 4 r.energyMj ++ beBytes 3 r.throttledMs ++ beBytes 1 r.latBucket

/-- The 128 bytes of a record. -/
def meterRecBytes (r : MeterRec) : Bytes := recBody r ++ beBytes 16 r.mac

/-- Free space of the store in records (R616). -/
def Drive.meterFree (d : Drive) : Nat := 500000000 - d.meter.held.length

/-- The state the free space names (Table 11.8). -/
def storeLevel (free : Nat) : Nat := if free < 4096 then 3 else if free < 1048576 then 2 else if free < 50000000 then 1 else 0

/-- The store moves through its states (R617). -/
def Drive.storeWatch (d : Drive) : Drive :=
  let old := d.meter.state
  let level := storeLevel d.meterFree
  let st := if 2 ≤ old ∧ d.meterFree < 2097152 then max old level else level
  let d := { d with meter.state := st }
  -- what freed space ends an interval that was held open (R619)
  let d := if old = 3 ∧ st ≠ 3 then { d with meter.closeDue := true } else d
  if old < st then d.event (if st = 1 then 0x780 else if st = 2 then 0x781 else 0x782) (if st = 1 then Sev.warning else if st = 2 then Sev.error else Sev.critical) []
  else if 2 ≤ old ∧ st < 2 then d.event 0x786 Sev.notice []
  else d

/-- A record enters the store with the next number, sealed under a key after the MAC `prev`, or unsealed (R609, R610). -/
def Drive.putRec (r : MeterRec) (key : Option Config.Key) (prev : Nat) (d : Drive) : Drive :=
  let r := { r with seq := d.meter.nextSeq, flags := r.flags % 128 + (if key.isNone then 128 else 0) }
  let mac := match key with
    | some k => Config.cmac k (beBytes 16 prev ++ recBody r) % 2 ^ 128
    | none => 0
  ({ d with
    meter.held := d.meter.held ++ [{ r with mac := mac }], meter.nextSeq := d.meter.nextSeq + 1
    meter.ended := (r.startOp + r.durationMs * 1000000, r.startWall + r.durationMs * 1000000, r.wallEpoch)
    meter.chain := key.map (fun k => (k, mac)) }).storeWatch

/-- The METER key, when its slot holds one. -/
def Drive.meterKey (d : Drive) : Option Config.Key :=
  let s := tgetD 73730 {} d.keys.system
  if s.state = 0x3C then none else some s.key

/-- A record of kinds 2 to 4: tenant 0, zero counts, the open interval's times (R608). -/
def Drive.markRec (d : Drive) (kind flags : Nat) : MeterRec :=
  { seq := 0, kind := kind, flags := flags, powerCycles := d.time.powerCycles, startOp := d.meter.startOp, durationMs := d.meter.ticks
    startWall := d.meter.startWall, wallEpoch := d.meter.startEpoch }

/-- Writes a record, after the CHAIN_START or KEY_CHANGE record that the chain needs first (R610, R611). -/
def Drive.sealRec (r : MeterRec) (d : Drive) : Drive :=
  match d.meterKey, d.meter.chain with
  | none, _ =>
    let d := if d.meter.unsealedTold then d else ({ d with meter.unsealedTold := true }).event 0x783 Sev.warning []
    d.putRec r none 0
  | some k, none => let d := d.putRec (d.markRec 2 0) (some k) 0
                    d.putRec r (some k) ((d.meter.chain.map (·.2)).getD 0)
  | some k, some (k', m) =>
    if k = k' then d.putRec r (some k) m
    else
      let d := d.putRec (d.markRec 4 0) (some k) m
      d.putRec r (some k) ((d.meter.chain.map (·.2)).getD 0)

/-- The METER key has been replaced (R611), loaded or erased (R610). -/
def Drive.meterKeyChanged (d : Drive) : Drive :=
  match d.meterKey, d.meter.chain with
  | none, _ => { d with meter.chain := none, meter.unsealedTold := false }
  | some k, some (_, m) => (d.putRec (d.markRec 4 0) (some k) m).event 0x784 Sev.notice []
  | some _, none => d

/-! ## Intervals (R594 to R599) -/

/-- The 99th percentile bucket of a histogram; 255 where no operation completed (R607). -/
def p99 (h : Tbl Nat) : Nat :=
  let n := (h.map (·.2)).sum
  let need := ceilDiv (99 * n) 100
  let rec go (acc : Nat) : Tbl Nat → Nat
    | [] => 255
    | (b, c) :: r => if need ≤ acc + c then b else go (acc + c) r
  if n = 0 then 255 else go 0 h

/-- The record of one tenant for the open interval. -/
def Drive.tenantRec (d : Drive) (t flags : Nat) : MeterRec :=
  let a := tgetD t {} d.meter.accs
  let mj := tgetD t 0 d.meter.energyUj / 1000
  { seq := 0, tenant := t, kind := 1
    flags := flags + (if a.saturated ∨ 2 ^ 64 ≤ a.byteTicks / 1000 ∨ 2 ^ 32 ≤ mj ∨ 2 ^ 24 ≤ a.throttled ∨ 2 ^ 32 ≤ d.meter.ticks then 64 else 0)
    powerCycles := d.time.powerCycles, startOp := d.meter.startOp, durationMs := min d.meter.ticks (2 ^ 32 - 1)
    startWall := d.meter.startWall, wallEpoch := d.meter.startEpoch, ops := a.ops, bytesIn := a.bytesIn, bytesOut := a.bytesOut
    capacity := min (a.byteTicks / 1000) (2 ^ 64 - 1), energyMj := min mj (2 ^ 32 - 1), throttledMs := min a.throttled (2 ^ 24 - 1), latBucket := p99 a.hist }

/-- One record for each tenant, and the remainder of its energy carried over (R604). -/
def writeRecs (flags : Nat) : List Nat → Drive → Drive
  | [], d => d
  | t :: r, d =>
    let d := d.sealRec (d.tenantRec t flags)
    writeRecs flags r { d with meter.energyUj := tmod t 0 (· % 1000) d.meter.energyUj }

/-- Wall time at the last tick. -/
def Drive.wallAtTick (d : Drive) : Nat := if d.time.anchor ≤ d.meter.lastTick then ({ d.time with opNs := d.meter.lastTick }).wall else d.wallNow

/-- A new interval begins (R597). -/
def Drive.openInterval (d : Drive) : Drive :=
  { d with
    meter.startOp := d.meter.lastTick, meter.startWall := d.wallAtTick, meter.startEpoch := d.time.wallEpoch, meter.ticks := 0
    meter.flags := 0, meter.closeDue := false, meter.seen := [], meter.accs := [], meter.lastWall := d.wallAtTick
    meter.intervalS := d.meter.newInterval.getD d.meter.intervalS, meter.newInterval := none }

/-- The open interval ends with the flags its causes give: one record a tenant, tenant 0 first (R598, R599). While the store is
EXHAUSTED it stays open (R619). -/
def Drive.closeInterval (flags : Nat) (d : Drive) : Drive :=
  let d := { d with meter.flags := d.meter.flags ||| flags }
  if d.meter.state = 3 then { d with meter.closeDue := true }
  else (writeRecs d.meter.flags (d.meter.seen.foldl (fun l t => if l.contains t then l else insertNat t l) [0]) d).openInterval

/-- The UTC offset at a wall time: a flagged leap second lies within the interval that contains the end of its day (R592, R595). -/
def Sprig.utcAt (t : Sprig) (wallNs : Nat) : Int :=
  let utc := Int.ofNat (wallNs / 1000000000) - t.utcOffset
  if t.leap61 ∧ (t.leapDay + 1) * 86400 ≤ utc then t.utcOffset + 1
  else if t.leap59 ∧ (t.leapDay + 1) * 86400 - 1 ≤ utc then t.utcOffset - 1
  else t.utcOffset

/-- The aligned boundary that a wall time has passed (R595). -/
def Drive.boundary (d : Drive) (wallNs : Nat) : Int := (Int.ofNat (wallNs / 1000000000) - d.time.utcAt wallNs) / Int.ofNat d.meter.intervalS

/-- A step of wall time ends the open interval at its tick (R582): `back` a backward step. -/
def Drive.meterStep (back : Bool) (before : Nat) (d : Drive) : Drive :=
  let passes := d.boundary before != d.boundary d.wallNow
  let d := { d with meter.lastWall := d.wallNow }
  if back then { d with meter.flags := d.meter.flags ||| 1, meter.closeDue := true }
  else if passes then { d with meter.flags := d.meter.flags ||| 2, meter.closeDue := true }
  else d

/-! ## Eligibility of a tenant's requests (R472, R473) -/

/-- A bucket filled at `rate` units per second for `ns`, up to its depth: 1 ms of the rate, at least `least` units (R472). Balances count
10^-9 units; a rate of 0 drives no bucket. -/
def fill (rate least ns : Nat) (b : Int) : Int :=
  if rate = 0 then b else min (b + Int.ofNat (rate * ns)) (Int.ofNat (max (rate * 1000000) (least * 1000000000)))

/-- The shaper's buckets filled up to now. -/
def Shaper.refill (now : Nat) (s : Shaper) : Shaper :=
  let ns := now - s.at_
  { s with
    bResOps := fill s.resOps 1 ns s.bResOps, bLimOps := fill s.limOps 1 ns s.bLimOps
    bResBytes := fill (s.resKbps * 1000) 1048576 ns s.bResBytes, bLimBytes := fill (s.limKbps * 1000) 1048576 ns s.bLimBytes
    at_ := now }

/-- Reserved-eligible (R473). -/
def Shaper.reserved (s : Shaper) : Bool :=
  (s.resOps != 0 || s.resKbps != 0) && (s.resOps == 0 || decide (0 ≤ s.bResOps)) && (s.resKbps == 0 || decide (0 ≤ s.bResBytes))

/-- Excess-eligible (R473). -/
def Shaper.excess (s : Shaper) : Bool :=
  (s.limOps == 0 || decide (0 ≤ s.bLimOps)) && (s.limKbps == 0 || decide (0 ≤ s.bLimBytes))

def Drive.shaper (d : Drive) (t : Nat) : Shaper := (tgetD t {} d.xp.shapers).refill d.now

/-! ## Ticks (R593, R600 to R604) -/

/-- Granules of a tenant's namespaces on this drive. -/
def Drive.tenantGranules (d : Drive) (t : Nat) : Nat :=
  ((d.kv.nss.filter (fun (p : Nat × Ns) => p.2.owner = t)).map (fun (p : Nat × Ns) => p.2.used)).sum

/-- p_base in mW (Table 15.1, R756). -/
def baselineMw (state : Nat) : Nat :=
  match state with
  | 0 => 18000
  | 1 => 12000
  | 2 => 7500
  | _ => 4500

/-- The activity energy weight of a tenant (R602). -/
def Drive.activity (d : Drive) (x : Activity) : Nat :=
  d.meter.wDie * x.dieUs + d.meter.wHolly * x.hollyBytes + d.meter.wNet * x.netBytes + d.meter.wLaurel * x.probes

/-- Energy in µJ to a tenant. -/
def Drive.addEnergy (t uj : Nat) (d : Drive) : Drive := if uj = 0 then d else { d with meter.energyUj := tmod t 0 (· + uj) d.meter.energyUj }

/-- Divides an energy among tenants in proportion to their parts, each share rounded down; all of it to tenant 0 where the parts sum to
nothing (R602, log entry 18). -/
def apportion (e total : Nat) : List (Nat × Nat) → Drive → Drive
  | [], d => d
  | (t, part) :: r, d => apportion e total r (d.addEnergy t (e * part / total))

/-- The measured energy of `n` ticks is divided (R602). -/
def Drive.shareEnergy (n e : Nat) (acts : List Activity) (d : Drive) : Drive :=
  let b := min e (baselineMw d.power.state * n)
  let x := e - b
  let gs := d.meter.seen.map (fun t => (t, d.tenantGranules t))
  let as := acts.map (fun (a : Activity) => (a.tenant, d.activity a))
  let sg := (gs.map (·.2)).sum
  let sa := (as.map (·.2)).sum
  let d := if sg = 0 then d.addEnergy 0 b else apportion b sg gs d
  let d := if sa = 0 then d.addEnergy 0 x else apportion x sa as d
  { d with meter.energyTotalUj := d.meter.energyTotalUj + e }

/-- A tenant's capacity and throttled time over `n` ticks. -/
def tickTenants (n : Nat) : List Nat → Drive → Drive
  | [], d => d
  | t :: r, d =>
    let waits := d.kv.reqs.any (fun q => q.phase = .queued ∧ q.tag.tenant = t) && !((d.shaper t).reserved || (d.shaper t).excess)
    let g := d.tenantGranules t
    tickTenants n r (d.modAcc t (fun a => { a with
      byteTicks := a.byteTicks + 256 * g * n, throttled := a.throttled + (if waits then n else b2n a.throttledNow), throttledNow := false }))

/-- Accounts `n` ticks of operating time, of which the measured energy is `e` (R593, R600). -/
def Drive.account (n e : Nat) (acts : List Activity) (d : Drive) : Drive :=
  let d := { d with
    meter.lastTick := d.meter.lastTick + n * 1000000, meter.ticks := d.meter.ticks + n
    meter.seen := (0 :: d.kv.tenants).foldl (fun l t => if l.contains t then l else l ++ [t]) d.meter.seen
    meter.flags := d.meter.flags ||| (if d.twin.state = 3 ∨ d.twin.state = 4 ∨ d.twin.state = 5 then 32 else 0) ||| (if d.trusted then 0 else 8) }
  (tickTenants n d.meter.seen d).shareEnergy n e acts

/-- METER_TICK: one tick; the interval ends where a cause or a boundary falls in it, or after 4 h while the store is FULL (R618). -/
def meterTick (e : Nat) (acts : List Activity) (d : Drive) : Drive :=
  let d := (d.advanceTo (d.meter.lastTick + 1000000)).account 1 e acts
  let regular :=
    if d.trusted then d.boundary d.meter.lastWall != d.boundary d.wallAtTick
    else decide (d.meter.intervalS * 1000 ≤ d.meter.ticks)
  let extended := decide (d.meter.state = 2) && decide (14400000 ≤ d.meter.ticks)
  let d := { d with meter.lastWall := d.wallAtTick }
  if d.meter.closeDue || extended || (regular && decide (d.meter.state < 2)) then d.closeInterval 0 else d

/-- METER_EXTENDED_END: 4 h of an interval while the store is FULL (R618). The energy of ticks that no METER_TICK has told is a free value
(log entry 40). -/
def meterExtendedEnd (d : Drive) : Drive :=
  if d.meter.state ≠ 2 then d
  else
    let left := 14400000 - d.meter.ticks
    if left = 0 then d.closeInterval 0
    else
      let (e, d) := d.fresh
      ((d.advanceTo (d.meter.lastTick + left * 1000000)).account left e []).closeInterval 0

/-- A write of METER.INTERVAL_S (R594). -/
def meterIntervalWrite (v : Nat) (d : Drive) : Wr :=
  if v = 0 ∨ 3600 % v ≠ 0 then .bad St.malformed d
  else .ok { d with meter.newInterval := some v, meter.flags := d.meter.flags ||| 4, meter.closeDue := true }

/-- Every 60 s the weights are recalibrated (R603): energy above idle in pJ and activity count of each rail group. A weight whose count is
zero is a free value. -/
def weightRecalibrate (die holly net laurel : Nat × Nat) (d : Drive) : Drive :=
  let d := d.advanceTo (d.meter.recalibratedAt + 60000000000)
  let w := fun (x : Nat × Nat) (d : Drive) => if x.2 = 0 then d.fresh else (x.1 / x.2, d)
  let (a, d) := w die d
  let (b, d) := w holly d
  let (c, d) := w net d
  let (e, d) := w laurel d
  { d with meter.recalibratedAt := d.now, meter.wDie := a, meter.wHolly := b, meter.wNet := c, meter.wLaurel := e }

/-! ## Reading and acknowledging (R612 to R615) -/

/-- The operator role: tenant 0 on session 0, or the sideband (R612). -/
def Req.operator (r : Req) : Bool :=
  match r.origin with
  | .session sid _ => sid == 0
  | .sideband _ _ => true
  | .ring _ _ => true
  | .twin _ => false

/-- The oldest record_seq held, or the next where none is. -/
def Drive.oldestRec (d : Drive) : Nat := (d.meter.held.head?.map (·.seq)).getD d.meter.nextSeq

def meterRead (o : Origin) (d : Drive) : Drive :=
  d.withReq o [0x70] fun r d =>
    let side := match r.origin with | .sideband _ _ => true | _ => false
    if !r.operator then d.refuse r St.notPermitted
    else if 8192 < r.hdr.valueLen then d.refuse r St.tooLarge
    else
      let n := if r.hdr.valueLen = 0 then 512 else r.hdr.valueLen
      let n := if side then min n 63 else n
      let lo := max (r.hdr.offset % 2 ^ 48) d.oldestRec
      let from_ := d.meter.held.filter (fun x => lo ≤ x.seq)
      let got := from_.take n
      let prev := match got.head? with
        | some x => if x.kind = 2 then 0 else ((d.meter.held.find? (fun y => y.seq + 1 = x.seq)).map (·.mac)).getD 0
        | none => 0
      let next := match got.getLast? with | some x => x.seq + 1 | none => r.hdr.offset % 2 ^ 48
      d.reply o { echo r.hdr with
        flags := replyFlags (decide (got.length < from_.length)) false false false
        valueLen := 16 + 128 * got.length, offset := next, condVersion := d.oldestRec }
        (beBytes 16 prev ++ (got.map meterRecBytes).flatten)

def meterAck (o : Origin) (d : Drive) : Drive :=
  d.withReq o [0x71] fun r d =>
    let k := r.hdr.offset % 2 ^ 48
    if !r.operator then d.refuse r St.notPermitted
    else if d.meter.nextSeq ≤ k then d.refuse r St.malformed
    else
      let d := ({ d with meter.held := d.meter.held.filter (fun x => k < x.seq) }).storeWatch
      d.reply o { echo r.hdr with condVersion := d.oldestRec } []

/-- The flush record of a power failure did not verify (R620): one LOSS record for the operating time not covered. -/
def Drive.meterLoss (d : Drive) : Drive :=
  let (ended, wall, epoch) := d.meter.ended
  let r : MeterRec := { seq := 0, kind := 3, flags := 16, powerCycles := d.time.powerCycles, startOp := ended, durationMs := min ((d.now - ended) / 1000000) (2 ^ 32 - 1)
                        startWall := wall, wallEpoch := epoch }
  (d.sealRec r).event 0x785 Sev.error [d.now - ended]

def execMeterTick (energyUj : Nat) (acts : List Activity) (s : State) : Host.Outcome State Fault Refusal := s.onMain (meterTick energyUj acts)
def execMeterExtendedEnd (s : State) : Host.Outcome State Fault Refusal := s.onMain meterExtendedEnd
def execMeterIntervalWrite (ch v : Nat) (s : State) : Host.Outcome State Fault Refusal := s.onMain (attrCmd ch 0x0B00 (meterIntervalWrite v))
def execWeightRecalibrate (die holly net laurel : Nat × Nat) (s : State) : Host.Outcome State Fault Refusal := s.onMain (weightRecalibrate die holly net laurel)
def execMeterRead (o : Origin) (s : State) : Host.Outcome State Fault Refusal := s.onMain (meterRead o)
def execMeterAck (o : Origin) (s : State) : Host.Outcome State Fault Refusal := s.onMain (meterAck o)

end Sys2Proof.Machine
end

