-- ==== Sys2Proof/Machine/Flash.lean ====
section
/-! DEFINITION. Machine/Flash.lean: shared operations on the flash array: geometry (R197 to R200), superblocks and allocation
(R232 to R239), places of records, and the issue of array reads (R209 to R221). -/

namespace Sys2Proof.Machine
open Sys2Proof

/-! ## Geometry -/

/-- Stripe of a granule (R200). -/
def stripeOf (gran : Nat) : Nat := gran / 1984

/-- Data page of a granule within its stripe (R200). -/
def dataPageOf (gran : Nat) : Nat := gran % 1984 / 64

/-- Byte offset of a granule within its page (R200). -/
def byteOf (gran : Nat) : Nat := 256 * (gran % 64)

/-- Channel of the parity page of a stripe (R199). -/
def parityChannel (stripe : Nat) : Nat := stripe % 32

/-- Channel of the page that holds a granule (R199). -/
def channelOf (gran : Nat) : Nat := (parityChannel (stripeOf gran) + 1 + dataPageOf gran) % 32

/-- Die group and block of a superblock (R198). -/
def groupOf (sb : Nat) : Nat := sb / 2048 % 16
def blockOf (sb : Nat) : Nat := sb % 2048

/-- The die and block that serve a superblock's block on a channel: die 32 × group + channel, or the substitute (R250). -/
def Drive.blockAt (d : Drive) (sb channel : Nat) : Nat × Nat :=
  match d.media.substitutes.find? (fun s => s.sb = sb ∧ s.channel = channel) with
  | some s => (s.die, s.block)
  | none => (32 * groupOf sb + channel, blockOf sb)

def Drive.blockDie (d : Drive) (sb channel : Nat) : Nat := (d.blockAt sb channel).1

/-- The plane of a superblock's block on a channel: block b lies in plane b mod 4 (Table 4.1). -/
def Drive.planeAt (d : Drive) (sb channel : Nat) : Nat := (d.blockAt sb channel).2 % 4

/-- The die that holds a granule. -/
def Drive.dieOf (d : Drive) (sb gran : Nat) : Nat := d.blockDie sb (channelOf gran)

/-- The pages that `len` bytes from byte `at_` of a superblock's data touch: of each the granule where they begin in it and the LDPC
codewords they touch, each of 4,096 data bytes (R202). -/
def pagesOf : Nat → Nat → Nat → List (Nat × Nat)
  | 0, _, _ => []
  | n + 1, at_, len =>
    if len = 0 then []
    else
      let k := min len (16384 - at_ % 16384)
      (at_ / 256, (at_ % 16384 + k + 4095) / 4096 - at_ % 16384 / 4096) :: pagesOf n (at_ + k) (len - k)

/-! ## Superblocks -/

/-- Parts of the SLC region (Table 5.2): 1 meter store, 2 log, 3 delta area, 4 roots, 5 flush reserve, 6 burst area; 0 the QLC pool.
The spec gives counts, not numbers: this layout is the model's (log entry 8). -/
def defaultPart (n : Nat) : Nat :=
  if n < 34 then 1 else if n < 35 then 2 else if n < 71 then 3 else if n < 73 then 4 else if n < 940 then 6
  else if n / 2048 < 5 ∧ 2044 ≤ n % 2048 then 5 else 0

def Drive.partOf (d : Drive) (n : Nat) : Nat := tgetD n (defaultPart n) d.media.parts

/-- The superblock at `n`; one not listed is as delivered. -/
def Drive.sb (d : Drive) (n : Nat) : Superblock :=
  tgetD n { state := if defaultPart n = 4 ∨ defaultPart n = 5 then 5 else 0 } d.media.sbs

def Drive.setSb (n : Nat) (s : Superblock) (d : Drive) : Drive := { d with media.sbs := tput n s d.media.sbs }

def Drive.modSb (n : Nat) (f : Superblock → Superblock) (d : Drive) : Drive := d.setSb n (f (d.sb n))

/-- Wear in twentieths of a QLC erase (R262). -/
def Superblock.wear20 (s : Superblock) : Nat := s.eraseQlc * 20 + s.eraseSlc

/-- Erase count of a superblock, the relocation epoch's source (Table 3.8). -/
def Superblock.erases (s : Superblock) : Nat := s.eraseQlc + s.eraseSlc

/-- Granules a superblock offers in its mode (Table 4.1). -/
def sbGranules (slc : Bool) : Nat := if slc then 8126464 else 32505856

/-- Granules the summary of `n` records takes: pages of 682 entries (R208). -/
def summaryGranules (n : Nat) : Nat := 64 * ceilDiv n 682

/-- The superblock has room for a record of `g` granules beside its summary. -/
def Superblock.fits (s : Superblock) (g : Nat) : Bool :=
  decide (roundUp 64 (s.wptr + g) + summaryGranules (s.recs.length + 1) ≤ sbGranules s.slc)

/-- The first superblock at or after `n` that is not listed and belongs to the part: unworn and FREE. -/
def freshSb (d : Drive) (part : Nat) : Nat → Nat → Option Nat
  | 0, _ => none
  | k + 1, n =>
    if n ≥ 32768 then none
    else if (tget? n d.media.sbs).isNone && d.partOf n == part then some n
    else freshSb d part k (n + 1)

/-- The listed FREE superblock of the part with the least wear. -/
def wornFree (d : Drive) (part : Nat) : Option Nat :=
  d.media.sbs.foldl (fun best p =>
    if p.2.state ≠ 0 ∨ d.partOf p.1 ≠ part then best
    else match best with
      | none => some p.1
      | some b => if p.2.wear20 < (d.sb b).wear20 then some p.1 else best) none

/-- The FREE superblock of least wear in a part's pool (R235). -/
def Drive.pickFree (d : Drive) (part : Nat) : Option Nat :=
  match freshSb d part (d.media.sbs.length + 60) (if part = 0 then 940 else if part = 6 then 73 else 0) with
  | some n => some n
  | none => wornFree d part

/-- Superblocks of the burst area in use, and its limit (R239). -/
def Drive.burstUsed (d : Drive) : Nat := (d.media.sbs.filter (fun p => d.partOf p.1 = 6 ∧ p.2.state ≠ 0)).length

/-- Die capacity lowered by retired dies (R158). -/
def Drive.capacityGranules (d : Drive) : Nat := 937500000000 - 1835937500 * d.media.retiredDies.length

/-- CHECKPOINT-stream superblocks that hold located live-map pages (R196, R263). -/
def Drive.mapSuperblocks (d : Drive) : Nat := d.media.mapSbs.length

/-- How many of them the maps need: a map is 248 pages of 16 KiB, and a superblock has 507,904 data pages (R195, R196, Table 4.1). -/
def Drive.mapsNeeded (d : Drive) : Nat := ceilDiv ((d.kv.live.map (·.1)).dedup.length) 2048

/-- The spare block count of R263 and HEALTH.SPARE_PCT. -/
def Drive.spareBlocks (d : Drive) : Nat :=
  1048576 - d.media.retiredBlocks - 31552 - 32 * d.mapSuperblocks - 32 * ceilDiv d.capacityGranules 32505856

def Drive.sparePct (d : Drive) : Nat := 100 * d.spareBlocks / 94080

def Drive.burstLimit (d : Drive) : Nat := if d.sparePct < 50 then 867 * d.sparePct / 50 else 867

/-- sb_sequence values are reserved in blocks of 65,536 by a COUNTER delta before use (R233). -/
def Drive.nextSbSeq (d : Drive) : Nat × Drive :=
  let d := if d.media.sbSeqNext < d.media.sbSeqReserved then d
    else ({ d with media.sbSeqReserved := d.media.sbSeqNext + 65536 }).delta { kind := 8, tag := 2, version := d.media.sbSeqNext }
  (d.media.sbSeqNext, { d with media.sbSeqNext := d.media.sbSeqNext + 1 })

/-- The open superblock of a stream and mode with room for `g` granules. -/
def Drive.openOf (d : Drive) (stream : Nat) (slc : Bool) (g : Nat) : Option Nat :=
  (d.media.sbs.find? (fun p => p.2.state = 2 ∧ p.2.stream = stream ∧ p.2.slc = slc ∧ p.2.fits g)).map (·.1)

/-- Closes every open superblock of a stream and mode that has no room for `g`: its summary is written (R208, R232). -/
def Drive.closeFull (stream : Nat) (slc : Bool) (g : Nat) (d : Drive) : Drive :=
  { d with media.sbs := d.media.sbs.map (fun p =>
      if p.2.state = 2 ∧ p.2.stream = stream ∧ p.2.slc = slc ∧ p.2.fits g = false then
        (p.1, { p.2 with state := 3, closedAt := d.now, visitedAt := d.now }) else p) }

/-- Superblocks open. -/
def Drive.openCount (d : Drive) : Nat := (d.media.sbs.filter (fun p => p.2.state = 2)).length

/-- Opens a FREE superblock for a stream in a mode (R233 to R235); at most 64 are open at once (R203). -/
def Drive.openSb (stream : Nat) (slc : Bool) (d : Drive) : Option (Nat × Drive) :=
  if (slc ∧ d.burstLimit ≤ d.burstUsed) ∨ 64 ≤ d.openCount then none
  else (d.pickFree (if slc then 6 else 0)).map (fun n =>
    let (seq, d) := d.nextSbSeq
    (n, d.setSb n { (d.sb n) with state := 2, slc := slc, stream := stream, seq := seq, wptr := 0, recs := [], progAt := [] }))

/-- A place of `g` granules in a superblock of the stream, wholly within it (R164); the superblock's write pointer moves past it. -/
def Drive.allocate (stream : Nat) (slc : Bool) (g : Nat) (d : Drive) : Option ((Nat × Nat) × Drive) :=
  match d.openOf stream slc g with
  | some n => some ((n, (d.sb n).wptr), d.modSb n (fun s => { s with wptr := s.wptr + g }))
  | none =>
    ((d.closeFull stream slc g).openSb stream slc).map (fun (n, d) => ((n, 0), d.modSb n (fun s => { s with wptr := g })))

/-- A record lies at a place of a superblock. -/
def Drive.placeRec (sb gran : Nat) (r : Rec) (d : Drive) : Drive :=
  d.modSb sb (fun s => { s with recs := s.recs ++ [(gran, r)] })

/-- The record at a place. -/
def Drive.recAt (d : Drive) : Place → Option Rec
  | .shelf i => (tget? i d.kv.shelf).map (·.rec_)
  | .media sb gran => ((d.sb sb).recs.find? (fun p => p.1 = gran)).map (·.2)

/-- A locator word of a place, as an event's payload gives it. -/
def placeWord : Place → Nat
  | .shelf i => i
  | .media sb gran => locBits sb gran

/-- A tag ladder has failed at a place: counted and recorded, with the work tag and the locator (R226). -/
def Drive.authFail (p : Place) (tag : WorkTag) (d : Drive) : Drive :=
  ({ d with health.mediaAuthFails := satAdd 64 d.health.mediaAuthFails 1, health.mediaErrorAt := some d.now }).event 0x111 Sev.error
    [placeWord p] tag

/-! ## Pleach: tokens, busy dies, reads -/

/-- The token pool of R209 at a cap in watts. -/
def tokenPool (cap : Nat) : Nat := min 160 (max 21 ((cap - 18) * 160 / 52))

def Drive.die (d : Drive) (n : Nat) : Option DieOp := tget? n d.media.dies

/-- A die that serves no operation: retired, or it has stopped answering (R257). -/
def Drive.dieGone (d : Drive) (n : Nat) : Bool := d.media.retiredDies.contains n || d.media.silentDies.contains n

/-- An operation is in a busy interval: in its non-suspendable window, or protected by the starvation guard (R214). -/
def DieOp.busy (o : DieOp) : Bool := o.window || o.guarded

def Drive.dieBusy (d : Drive) (n : Nat) : Bool := ((d.die n).map DieOp.busy).getD false

/-- Another die of the group is in a busy interval (R215). -/
def Drive.groupBusy (d : Drive) (n : Nat) : Bool :=
  (List.range 32).any (fun c => 32 * (n / 32) + c != n && d.dieBusy (32 * (n / 32) + c))

/-- A die runs a read operation, under a token of its own or that of an operation suspended for it (R210, R211). -/
def Drive.reading (d : Drive) (n : Nat) : Bool := d.media.reads.any (fun r => r.mode = 0 ∧ r.die = n)

/-- Reads run on a die or are queued for it. -/
def Drive.readsFor (d : Drive) (n : Nat) : Bool := d.media.reads.any (fun r => (r.mode = 0 ∨ r.mode = 3) ∧ r.die = n)

/-- Tokens in use: one for each program or erase in progress, suspended or not, and one for each other die that reads (R210, R211). -/
def Drive.tokensUsed (d : Drive) : Nat :=
  d.media.dies.length +
  (((d.media.reads.filter (fun r => r.mode = 0 && (d.die r.die).isNone)).map (·.die)).dedup).length

/-- Array operations may be issued now (R759). -/
def Drive.mayIssue (d : Drive) : Bool := decide (d.power.issueFrom ≤ d.now)

/-- The operations in progress hold no more tokens than the pool has: after a write of the cap they may, and nothing new is issued (R758). -/
def Drive.withinPool (d : Drive) : Bool := decide (d.tokensUsed ≤ d.power.tokens)

/-- A token is free for another array operation (R210). -/
def Drive.tokenFree (d : Drive) : Bool := decide (d.tokensUsed < d.power.tokens) && d.mayIssue

/-- The 10 ms interval of now has its own count and capacity (R220). -/
def Drive.reconRoll (d : Drive) : Drive :=
  let i := d.now / 10000000
  if i = d.media.reconInterval then d
  else { d with media.reconInterval := i, media.reconUsed := 0, media.reconCapacity := d.power.tokens * 160000 / 36 }

/-- The reconstruction budget has room for `n` source codewords: 4 % of the capacity (R220). -/
def Drive.reconRoom (d : Drive) (n : Nat) : Bool := decide ((d.media.reconUsed + n) * 100 ≤ d.media.reconCapacity * 4)

/-- `n` source codewords are read for a rebuild: they count against the budget, which limits only R217's (R220, R221). -/
def Drive.reconCount (n : Nat) (d : Drive) : Drive :=
  let d := d.reconRoll
  { d with media.reconUsed := d.media.reconUsed + n }

/-- Counts what became of a read's codewords (R223, Table 16.5); each success of step 4 is recorded (R223). -/
def Drive.countEcc (e : EccResult) (d : Drive) : Drive :=
  let d := { d with
    health.cwRead := satAdd 64 d.health.cwRead e.read
    health.cwCorrected := satAdd 64 d.health.cwCorrected e.corrected
    health.cwRetried := satAdd 64 d.health.cwRetried e.retried
    health.cwSoft := satAdd 64 d.health.cwSoft e.soft
    health.cwParityRebuilt := satAdd 64 d.health.cwParityRebuilt e.parity
    health.cwUncorrectable := satAdd 64 d.health.cwUncorrectable e.uncorrectable
    health.mediaErrorAt := if e.uncorrectable = 0 then d.health.mediaErrorAt else some d.now }
  (List.range e.parity).foldl (fun (d : Drive) _ => d.event 0x112 Sev.notice []) d

/-- Steps 1 to 3 of R222 over the codewords of a read: the counts of each. -/
def stepCounts (cws : List Cw) : EccResult :=
  { read := cws.length
    corrected := (cws.filter (fun c => c.step = 1 ∧ c.clean = false)).length
    retried := (cws.filter (fun c => c.step = 2)).length
    soft := (cws.filter (fun c => c.step = 3)).length }

/-! ### Suspension and the starvation guard (R212 to R215) -/

def Drive.setDie (n : Nat) (o : DieOp) (d : Drive) : Drive := { d with media.dies := tput n o d.media.dies }

/-- How long an operation has been suspended, the present suspension with it (R213). -/
def DieOp.stopped (now : Nat) (o : DieOp) : Nat := o.suspendedNs + (if o.suspended then now - o.suspendedAt else 0)

/-- 40 ms of suspension have accumulated (R213). -/
def DieOp.spent (now : Nat) (o : DieOp) : Bool := decide (40000000 ≤ o.stopped now)

/-- The starvation guard trips when the present suspension ends: it is the 32nd, or 40 ms have accumulated (R213). -/
def DieOp.guardDue (now : Nat) (o : DieOp) : Bool := decide (32 ≤ o.suspensions) || o.spent now

/-- The operation resumes. -/
def DieOp.resumed (now : Nat) (o : DieOp) : DieOp :=
  { o with suspended := false, ready := false, suspendedNs := o.stopped now }

/-- Suspends a suspendable program or erase for a read (R212), unless the guard forbids it (R213). -/
def suspendDie (now : Nat) (o : DieOp) : DieOp :=
  if o.busy ∨ o.suspended ∨ o.guardDue now then o
  else { o with suspended := true, suspendedAt := now, ready := false, suspensions := o.suspensions + 1 }

/-- An operation is to begin a busy interval: the guard's protection where it is due, else its window. It waits, where it stands, while
another die of the group is in one (R213 to R215). -/
def Drive.beginBusy (n : Nat) (o : DieOp) (d : Drive) : Drive :=
  if d.groupBusy n then d.setDie n { o with held := true }
  else if o.guardDue d.now then d.setDie n { o.resumed d.now with held := false, guarded := true }
  else d.setDie n { o with held := false, window := true, startedAt := d.now }

/-- The operation that a die's reads suspended resumes when none of them is left (R212); the guard trips where it is due (R213). -/
def Drive.resumeDie (n : Nat) (d : Drive) : Drive :=
  match d.die n with
  | none => d
  | some o =>
    if o.suspended = false ∨ o.ready = false ∨ d.readsFor n = true then d
    else if o.guardDue d.now then d.beginBusy n o
    else if o.held then d.beginBusy n (o.resumed d.now)
    else d.setDie n (o.resumed d.now)

/-- A held operation can go on at once: reads have not suspended it, or the guard ends its suspension. -/
def Drive.canGoOn (d : Drive) (n : Nat) : Bool :=
  ((d.die n).map (fun o => o.held && (!o.suspended || (o.guardDue d.now && o.ready && !d.readsFor n)))).getD false

/-- When the busy interval of a die group ends, an operation held for it begins its own: that of the lowest channel, where several
are held (R215; DESIGN CHOICE, log entry 68). -/
def Drive.releaseHeld (n : Nat) (d : Drive) : Drive :=
  if (List.range 32).any (fun c => d.dieBusy (32 * (n / 32) + c)) then d
  else match ((List.range 32).map (fun c => 32 * (n / 32) + c)).find? d.canGoOn with
    | none => d
    | some m => match d.die m with
      | none => d
      | some o => d.beginBusy m o

/-! ### Queued reads (R210 to R212, R217) -/

/-- Starts up to four of a die's queued reads, one per plane, in the order they were queued: one multi-plane operation (R210). -/
def startGroup (n : Nat) : List Nat → List ReadJob → List ReadJob
  | _, [] => []
  | planes, j :: r =>
    if j.die = n ∧ j.mode = 3 ∧ j.plane ∉ planes then { j with mode := 0 } :: startGroup n (j.plane :: planes) r
    else j :: startGroup n planes r

/-- A die can take a read operation: an idle one with a token, or one whose operation is suspended and ready, under that one's token,
until the guard ends the suspension (R210, R211, R213, R758). -/
def Drive.canRead (d : Drive) (n : Nat) : Bool :=
  !d.reading n && !d.dieGone n &&
  match d.die n with
  | none => d.tokenFree
  | some o => o.suspended && o.ready && d.mayIssue && d.withinPool && (o.held || !o.spent d.now)

/-- The next of a die's queued reads start, if they can. -/
def Drive.startReads (n : Nat) (d : Drive) : Drive :=
  if d.canRead n then { d with media.reads := startGroup n [] d.media.reads } else d

/-- The queued reads of a die go on: what runs on it is suspended for them (R212). -/
def Drive.serveDie (n : Nat) (d : Drive) : Drive :=
  let d := match d.die n with
    | some o => if d.media.reads.any (fun r => r.mode = 3 ∧ r.die = n) then d.setDie n (suspendDie d.now o) else d
    | none => d
  d.startReads n

/-- Queued reads start on every die that can take them, as tokens come free. -/
def startAll : List ReadJob → Drive → Drive
  | [], d => d
  | j :: r, d => startAll r (if j.mode = 3 then d.startReads j.die else d)

/-- A die takes no more reads for now: it is busy, or the guard ends its suspension (R213, R214). -/
def Drive.closed (d : Drive) (n : Nat) : Bool :=
  ((d.die n).map (fun o => o.busy || (o.suspended && !o.held && o.spent d.now))).getD false

/-- A read is queued for its die; it waits while the die is busy (R217). -/
def Drive.queueRead (j : ReadJob) (d : Drive) : Drive :=
  if d.closed j.die then { d with media.reads := d.media.reads ++ [{ j with mode := 2 }] }
  else Drive.serveDie j.die { d with media.reads := d.media.reads ++ [{ j with mode := 3 }] }

/-- The reads that wait for a die are queued once it is no longer busy, and suspend what still runs on it if the guard allows (R217). -/
def Drive.serveWaiting (n : Nat) (d : Drive) : Drive :=
  if d.closed n then d
  else Drive.serveDie n { d with
    media.reads := d.media.reads.map (fun (r : ReadJob) => if r.mode = 2 ∧ r.die = n then { r with mode := 3 } else r) }

/-! ### Rebuilds from the stripe (R217 to R221) -/

/-- The reads a rebuild takes: of each of the other 31 pages of the stripe, parity among them, the same codewords (R218). -/
def Drive.sourcesOf (d : Drive) (j : ReadJob) : List ReadJob :=
  ((List.range 32).filter (· ≠ channelOf j.gran)).map (fun c =>
    { j with die := d.blockDie j.sb c, plane := d.planeAt j.sb c, src := some c, mode := 3 })

/-- A page is rebuilt from its stripe: its sources are read, and suspend what runs on their dies where R212 allows. A source on a die that
is gone gives none of its codewords (R219). -/
def Drive.beginRebuild (why : Nat) (j : ReadJob) (d : Drive) : Drive :=
  let srcs := (d.sourcesOf j).filter (fun s => !d.dieGone s.die)
  let d := { d with media.reads := d.media.reads ++ [{ j with
    mode := 1, left := srcs.length, bad := if srcs.length = 31 then [] else List.range j.codewords, why := why }] }
  srcs.foldl (fun (d : Drive) (s : ReadJob) => d.queueRead s) (d.reconCount (srcs.length * j.codewords))

/-- Issues an array read (R212, R217): from the die, which it waits for or suspends; around a busy die, when its tag is not WAITABLE, the
budget has room and no source page is busy (R219, R253); from the stripe always, when the die is gone (R257). -/
def Drive.issueRead (j : ReadJob) (d : Drive) : Drive :=
  let d := d.reconRoll
  if d.dieGone j.die then d.beginRebuild 3 j
  else if d.dieBusy j.die = false ∨ j.tag.waitable = true then d.queueRead j
  else if !d.reconRoom (31 * j.codewords) then ({ d with media.reconDenied := d.media.reconDenied + 1 }).queueRead j
  else if (d.sourcesOf j).any (fun s => d.dieBusy s.die || d.dieGone s.die) then d.queueRead j
  else d.beginRebuild 0 j

/-- The reads of a reply that has gone: those that run go on to their end, the others are taken back, and what they suspended resumes. -/
def Drive.cancelReads (o : Origin) (d : Drive) : Drive :=
  let gone := d.media.reads.filter (fun j => j.origin = o)
  let d := { d with media.reads := (d.media.reads.filter (fun j => j.origin ≠ o ∨ j.mode = 0)).map (fun (j : ReadJob) =>
    if j.origin = o then { j with dead := true } else j) }
  gone.foldl (fun (d : Drive) (j : ReadJob) => d.resumeDie j.die) d

end Sys2Proof.Machine
end

