-- ==== Sys2Proof/Machine/Directory.lean ====
section
/-! DEFINITION. Machine/Directory.lean: shared operations on namespaces, fingerprints, homes and the directory (chapter 3), the
storage slots that records are sealed under (R388 to R395), and the ordered checks of a data request (Table 1.6). -/

namespace Sys2Proof.Machine
open Sys2Proof

/-! ## Namespaces -/

def Drive.ns (d : Drive) (n : Nat) : Ns := tgetD n {} d.kv.nss

def Drive.setNs (n : Nat) (x : Ns) (d : Drive) : Drive := { d with kv.nss := tput n x d.kv.nss }

def Drive.modNs (n : Nat) (f : Ns → Ns) (d : Drive) : Drive := d.setNs n (f (d.ns n))

/-- The namespace is there for its owner's requests (R28, R155): ACTIVE or SWEEPING. -/
def Drive.nsOwned (d : Drive) (n tenant : Nat) : Bool :=
  ((d.ns n).state == 0x21 || (d.ns n).state == 0x22) && (d.ns n).owner == tenant

/-- Granules used on this drive over all namespaces (R159). -/
def Drive.usedTotal (d : Drive) : Nat := (d.kv.nss.map (·.2.used)).sum

/-! ## Fingerprints and homes (R161, R162) -/

def Drive.fingerprint (d : Drive) (ns : Nat) (key : Bytes) : Nat := Config.cmac d.kv.directoryKey (beBytes 2 ns ++ key) % 2 ^ 128

def primaryBucket (f : Nat) : Nat := f % 2 ^ 64 % 1600000000
def fpTag (f : Nat) : Nat := bits 95 64 f
def homeBit (f : Nat) : Nat := bits 127 127 f

/-- This drive is home for the key: an unpaired drive for every key (R291), else by the role (R162). -/
def Drive.isHome (d : Drive) (ns : Nat) (key : Bytes) : Bool :=
  d.twin.state == 0 || homeBit (d.fingerprint ns key) == d.roleBit

/-- The directory position of an entry: primary bucket and tag (R175). -/
def Drive.position (d : Drive) (e : DirEnt) : Nat :=
  let f := d.fingerprint e.ns e.key
  primaryBucket f * 2 ^ 32 + fpTag f

/-! ## Where an operation is served (R305 to R309, R325 to R337) -/

inductive Route where
  | here | forward | unavailable
deriving DecidableEq, Repr

/-- Where an operation on a key of a namespace is served, by the twin state it is served under. -/
def Drive.route (d : Drive) (ns : Ns) (home write : Bool) : Route :=
  match d.effTwin with
  | 0 => .here
  | 2 => if home then .here else if write || ns.solo then .forward else .here
  | 3 =>
    if write then
      if home && (ns.solo || ns.soloWrites) && (d.twin.witness == 0x3F || (d.twin.clearance && decide (d.now < d.twin.clearUntil))) then .here else .unavailable
    else if ns.solo && !home then .unavailable else .here
  | 4 => if ns.solo && !home then .unavailable else .here
  | 6 => if d.twin.bothAlone then (if home then .here else .forward)
         else if ns.solo && home then .here else .forward
  | _ => .unavailable

/-- Writes of a mirrored namespace go to the twin's shelf too: while PAIRED, and while this drive sends the twin's resync (R335). -/
def Drive.mirrors (d : Drive) (ns : Ns) : Bool :=
  !ns.solo && (d.effTwin == 2 || d.twin.resyncSending || (d.effTwin == 6 && d.twin.bothAlone))

/-- A write to a namespace may be sequenced: its mirror, an operation of this drive's own unless the twin began it, finds room on the twin
link (R301). -/
def Drive.mirrorRoom (d : Drive) (o : Origin) (ns : Ns) : Bool :=
  !d.mirrors ns || (match o with | .twin _ => true | _ => false) || d.twinRoom

/-! ## Directory entries -/

/-- The candidates of a lookup: SUPERSEDE entries first, then the others (R165). The entries of other keys that share a bucket and a tag
with this key never confirm and cost a read alone (R167); they are not listed (log entry 63). -/
def Drive.candidates (d : Drive) (ns : Nat) (key : Bytes) : List DirEnt :=
  d.kv.dir.filter (fun e => e.ns == ns && e.key == key && e.supersede) ++ d.kv.dir.filter (fun e => e.ns == ns && e.key == key && !e.supersede)

/-- The header and key that confirmation reads name the namespace and the key of the entry (R166). -/
def Drive.keyMatches (d : Drive) (e : DirEnt) : Bool :=
  match d.recAt e.place with
  | some r => r.ns == e.ns && r.key == e.key
  | none => false

/-- A candidate confirms when its record's header and key agree with it, the version's low byte among them (R166). Of a marked value the
full version is kept with the mark (R168). -/
def Drive.confirms (d : Drive) (e : DirEnt) : Bool :=
  e.marked || (d.keyMatches e && (match d.recAt e.place with | some r => r.version % 256 == e.version % 256 | none => false))

/-- The entry a lookup ends at: the first candidate that confirms (R165 to R167). -/
def Drive.find? (d : Drive) (ns : Nat) (key : Bytes) : Option DirEnt := (d.candidates ns key).find? d.confirms

/-- Every candidate that names the key with another low version byte is recorded; the spec names no source and no severity for it (R166,
log entry 63). -/
def Drive.noteMismatch (ns : Nat) (key : Bytes) (d : Drive) : Drive :=
  if ((d.candidates ns key).takeWhile (fun e => !d.confirms e)).any d.keyMatches then
    let (src, d) := d.fresh
    let (sev, d) := d.fresh
    d.event (src % 2048) (sev % 5) []
  else d

/-- Confirmed live entries (R171, R173): MEDIA.DIR_ENTRIES. -/
def Drive.dirCount (d : Drive) : Nat := (d.kv.dir.filter (fun e => !e.supersede)).length

/-- MEDIA.DIR_LIMIT (R171). -/
def dirLimit : Nat := 5000000000

/-- Where ordered linear probing puts entries whose primary buckets are given in rising order: the greatest displacement in buckets. -/
def maxDisplacement : Nat → List Nat → Nat
  | _, [] => 0
  | slot, b :: r =>
    let s := max slot (4 * b)
    max (s / 4 - b) (maxDisplacement (s + 1) r)

/-- Inserts in rising order. -/
def insertAsc (x : Nat) : List Nat → List Nat
  | [] => [x]
  | y :: r => if x ≤ y then x :: y :: r else y :: insertAsc x r

/-- Entries of primary buckets in rising order, a second time round the table: what spills past the last bucket displaces those of the
first (R172). -/
def wrapped (l : List Nat) : List Nat := l ++ l.map (· + 1600000000)

/-- Entries for the keys can be placed, each within 31 buckets of its primary bucket (R172). A directory of fewer than 124 entries cannot
fill 31 buckets of four. -/
def Drive.placeableAll (d : Drive) (keys : List (Nat × Bytes)) : Bool :=
  decide (d.kv.dir.length + keys.length < 125) ||
  decide (maxDisplacement 0 (wrapped ((keys.map (fun k => primaryBucket (d.fingerprint k.1 k.2)) ++
    d.kv.dir.map (fun e => primaryBucket (d.fingerprint e.ns e.key))).foldr insertAsc [])) ≤ 31)

def Drive.placeable (d : Drive) (ns : Nat) (key : Bytes) : Bool := d.placeableAll [(ns, key)]

/-- The count changes: DIR_HIGH_WATER at 4,750,000,000, armed again below 4,700,000,000; DIR_FULL is armed again below the limit (R174). -/
def Drive.dirWatch (d : Drive) : Drive :=
  let d := { d with kv.dirFullArmed1 := d.kv.dirFullArmed1 || decide (d.dirCount < dirLimit) }
  if d.dirCount ≥ 4750000000 ∧ d.kv.dirArmed = true then ({ d with kv.dirArmed := false }).event 0x280 Sev.warning []
  else if d.dirCount < 4700000000 then { d with kv.dirArmed := true } else d

/-- The key is held by a cross-home batch (R129). -/
def Drive.held (d : Drive) (ns : Nat) (key : Bytes) : Bool := d.kv.holds.any (fun h => h.ns = ns ∧ h.key = key)

/-- The key is pending: its version waits for the twin (R88) or it is held. -/
def Drive.pendingKey (d : Drive) (ns : Nat) (key : Bytes) : Bool :=
  d.kv.dir.any (fun e => e.ns = ns ∧ e.key = key ∧ e.pending = true)

/-- How far from its primary bucket each entry lies, by ordered linear probing over four slots a bucket: entries in the directory's order,
the first slot that is left. -/
def slotsOf : Nat → List (Nat × DirEnt) → List (Nat × DirEnt)
  | _, [] => []
  | slot, (k, e) :: r => let s := max slot (4 * (k / 2 ^ 46)); (s / 4 - k / 2 ^ 46, e) :: slotsOf (s + 1) r

/-- The order of entries: primary bucket, then tag, then namespace. -/
def Drive.orderKey (d : Drive) (e : DirEnt) : Nat := d.position e * 2 ^ 14 + e.ns

/-- Inserts in the directory's order. -/
def insertBucket (x : Nat × DirEnt) : List (Nat × DirEnt) → List (Nat × DirEnt)
  | [] => [x]
  | y :: r => if x.1 ≤ y.1 then x :: y :: r else y :: insertBucket x r

/-- Buckets between an entry's primary bucket and the one it lies in (Table 3.6), on the second time round the table. -/
def Drive.displacement (d : Drive) (e : DirEnt) : Nat :=
  let all := (d.kv.dir.map (fun x => (d.orderKey x, x))).foldr insertBucket []
  match (slotsOf 0 (all ++ all.map (fun p => (p.1 + 1600000000 * 2 ^ 46, p.2)))).reverse.find? (fun p => p.2 = e) with
  | some p => p.1
  | none => 0

/-- The 16 bytes of a directory entry (R163, Table 3.6). -/
def Drive.entryBytes (d : Drive) (e : DirEnt) : Bytes :=
  let shelf := match e.place with | .shelf _ => true | .media _ _ => false
  beBytes 16 (fpTag (d.fingerprint e.ns e.key) * 2 ^ 96 + placeWord e.place * 2 ^ 56 + e.granules * 2 ^ 32 + e.version % 256 * 2 ^ 24 +
    2 ^ 23 + b2n shelf * 2 ^ 22 + b2n e.supersede * 2 ^ 21 + b2n (e.pending || d.held e.ns e.key) * 2 ^ 20 + b2n e.marked * 2 ^ 19 +
    d.displacement e * 2 ^ 14 + e.ns)

/-! ## Storage slots (Tables 7.5 to 7.7) -/

/-- Storage slots of tenant t: indexes 2t and 2t + 1 of the table (slots 65,536 + …). -/
def Drive.stslot (d : Drive) (i : Nat) : StorageSlot := tgetD i {} d.keys.storage

def Drive.setStslot (i : Nat) (s : StorageSlot) (d : Drive) : Drive := { d with keys.storage := tput i s d.keys.storage }

/-- The slot of a tenant in a state. -/
def Drive.slotIn (d : Drive) (t state : Nat) : Option Nat :=
  if (d.stslot (2 * t)).state = state then some (2 * t)
  else if (d.stslot (2 * t + 1)).state = state then some (2 * t + 1) else none

/-- The slot that opens records of a serial (R376, R377). -/
def Drive.slotOfSerial (d : Drive) (t serial : Nat) : Option Nat :=
  if (d.stslot (2 * t)).state ≠ 0x38 ∧ (d.stslot (2 * t)).serial = serial then some (2 * t)
  else if (d.stslot (2 * t + 1)).state ≠ 0x38 ∧ (d.stslot (2 * t + 1)).serial = serial then some (2 * t + 1) else none

/-- The namespace key of a generation, derived from the tenant storage key of a serial: namespace, generation and pair id are its context
(R383, Table 7.9). -/
def Drive.nsKey (d : Drive) (t serial ns gen : Nat) : Config.Key :=
  .derived (((d.slotOfSerial t serial).map (fun i => (d.stslot i).key)).getD (.raw 0)) 0 (ns * 2 ^ 96 + gen * 2 ^ 64 + d.keys.pairId)

/-- Order 7 of Table 1.6: a write needs the CURRENT slot; a read needs a slot that opens something. -/
def Drive.keyReady (d : Drive) (t : Nat) (write : Bool) : Bool :=
  if write then (d.slotIn t 0x39).isSome
  else (d.stslot (2 * t)).state != 0x38 || (d.stslot (2 * t + 1)).state != 0x38

/-- First value past the drive's nonce range (R389). -/
def Drive.nonceEnd (d : Drive) : Nat := if d.roleBit = 0 then 2 ^ 63 else 2 ^ 64

/-- First value of the drive's nonce range (R389). -/
def Drive.nonceStart (d : Drive) : Nat := if d.roleBit = 0 then 0 else 2 ^ 63

/-- Draws a nonce_counter value from the tenant's CURRENT slot (R388, R390), reserving blocks of 2^24 (R392) and retiring the slot at
the end of its range (R395). Answers the serial and the value. -/
def Drive.drawNonce (t : Nat) (d : Drive) : Option ((Nat × Nat) × Drive) :=
  match d.slotIn t 0x39 with
  | none => none
  | some i =>
    let s := d.stslot i
    if s.nonce ≥ d.nonceEnd then
      none
    else
      let d := if s.nonce < s.reserved then d
        else (d.setStslot i { s with reserved := s.nonce / 2 ^ 24 * 2 ^ 24 + 2 ^ 24 }).delta
          { kind := 8, tag := 3 + i, version := s.nonce / 2 ^ 24 * 2 ^ 24 }
      let s := d.stslot i
      let d := d.setStslot i { s with nonce := s.nonce + 1 }
      let d := if s.nonce + 1 < d.nonceEnd then d
        else (d.setStslot i { d.stslot i with state := 0x3B }).event 0x423 Sev.critical []
      some ((s.serial, s.nonce), d)

/-- The work tag's key slot for media work (R10). -/
def Drive.storageKeySlot (d : Drive) (t : Nat) : Nat := 65536 + (d.slotIn t 0x39).getD (2 * t)

/-- A use of a namespace key: the derived-key cache holds it, or one derivation fills it (R384). -/
def Drive.useKey (slot ns gen : Nat) (d : Drive) : Drive :=
  let k := (slot, ns, gen)
  { d with
    keys.cacheMisses := if k ∈ d.keys.cache then d.keys.cacheMisses else d.keys.cacheMisses + 1
    keys.cache := (k :: d.keys.cache.filter (· ≠ k)).take 16384 }

/-! ## Ordered checks of a data request (R41, Table 1.6) -/

def dataOps : List Nat := [0x01, 0x02, 0x03, 0x04, 0x05, 0x08, 0x20, 0x21]

/-- The tenant a request comes from (R27): its session's; for an operation the twin forwarded, its work tag's; management channels
are the operator's. -/
def Drive.originTenant (d : Drive) (r : Req) : Nat :=
  match r.origin with
  | .session sid _ => (d.sess sid).tenant
  | .twin _ => r.tag.tenant
  | _ => 0

/-- Order 1: the operation is valid for the kind of a namespace the caller may name (R28, R29). -/
def Drive.kindOk (d : Drive) (r : Req) (tenant : Nat) : Bool :=
  !(d.nsOwned r.hdr.ns tenant && (d.ns r.hdr.ns).located && [0x01, 0x03, 0x04, 0x05, 0x08].contains r.hdr.opcode)

/-- Order 2: field values within their encodings (R26, R30, R31, R43, R68, R180, R422). -/
def Drive.fieldsOk (d : Drive) (r : Req) (tenant : Nat) : Bool :=
  let h := r.hdr
  let loc := h.opcode == 0x20 || h.opcode == 0x21
  let needsKey := !(h.opcode == 0x08 || loc)
  decide (h.qos ≤ 7) && decide (h.tenant < 4096) &&
  (!(isWrite h.opcode) || decide (h.durability ≤ 3)) &&
  (if loc then condOf h.flags == 0 && h.keyLen == 0 && r.body.length == 16
   else condAllowed h.opcode (condOf h.flags) h.condVersion) &&
  !(h.opcode == 0x02 && condOf h.flags != 0 && d.nsOwned h.ns tenant && (d.ns h.ns).located) &&
  (!needsKey || h.keyLen != 0) &&
  !(h.opcode == 0x08 && (decide (1 ≤ h.valueLen) && decide (h.valueLen ≤ 4095))) &&
  !(h.opcode == 0x02 && decide (h.keyLen ≤ 1024) && decide (h.valueLen ≤ 1073741824) && r.body.length != h.keyLen + h.valueLen)

/-- Order 3: lengths within their maxima (R74). -/
def lengthsOk (h : OpHdr) : Bool :=
  (h.opcode == 0x08 || h.opcode == 0x20 || h.opcode == 0x21 || decide (h.keyLen ≤ 1024)) &&
  (h.opcode != 0x02 || decide (h.valueLen ≤ 1073741824)) &&
  (h.opcode != 0x08 || decide (h.valueLen ≤ 1048576))

/-- Orders 1 to 4 of Table 1.6, made when the message is whole and before Shears. -/
def Drive.checks14 (d : Drive) (r : Req) : Option Nat :=
  let tenant := d.originTenant r
  firstFail [
    (r.hdr.opcode ∈ dataOps && d.kindOk r tenant, St.unsupported),
    (d.fieldsOk r tenant, St.malformed),
    (lengthsOk r.hdr, St.tooLarge),
    (r.hdr.tenant == tenant && d.nsOwned r.hdr.ns tenant, St.notPermitted)]

/-- Orders 6 to 9 of Table 1.6 for a tenant's operation. -/
def Drive.checks69 (d : Drive) (r : Req) (tenant : Nat) (write : Bool) : Option Nat :=
  firstFail [
    (!passed d.nowUs r.tag.deadline, St.deadlineMissed),
    (d.keyReady tenant write && !(d.ns r.hdr.ns).unresolved, St.keyRevoked),
    (d.effTwin != 5, St.homeFenced),
    (!write || !d.media.wearReadOnly, St.wearReadOnly)]

/-- What earlier members of a batch take: granules in the namespace, on the drive and of the twin's reservation; new keys, and those of
them that the reservation must hold (R111, R159, R160). -/
structure Taken where
  inNs : Nat := 0
  total : Nat := 0
  reserved : Nat := 0
  keys : List (Nat × Bytes) := []
  entries : Nat := 0
deriving DecidableEq, Repr

/-- A write of the namespace draws on the twin's reservation (R160, R312). -/
def Drive.reserves (d : Drive) (ns : Ns) : Bool := d.effTwin == 2 && !ns.solo

/-- Order 12 of Table 1.6 for a new record of `g` granules, on top of what earlier ones take (R159, R160). -/
def Drive.spaceFor (d : Drive) (ns : Ns) (g : Nat) (t : Taken) : Bool :=
  (ns.quota == 0 || decide (ns.used + t.inNs + g ≤ ns.quota)) && decide (d.usedTotal + t.total + g ≤ d.capacityGranules) &&
  (!d.reserves ns || decide (t.reserved + g ≤ d.twin.resGranules))

/-- Order 13 of Table 1.6 for a new key (R160, R171, R172): the failing status, and the drive with what the refusal records (R174). -/
def Drive.entryFor (nsId : Nat) (key : Bytes) (t : Taken) (d : Drive) : Option Nat × Drive :=
  if dirLimit ≤ d.dirCount + t.keys.length then
    (some St.directoryFull,
      if d.kv.dirFullArmed1 then ({ d with kv.dirFullArmed1 := false }).event 0x281 Sev.error [1] else d)
  else if d.reserves (d.ns nsId) = true ∧ d.twin.resEntries ≤ t.entries then
    (some St.directoryFull,
      if d.kv.dirFullArmed2 then ({ d with kv.dirFullArmed2 := false }).event 0x281 Sev.error [2] else d)
  else if !d.placeableAll ((nsId, key) :: t.keys) then (some St.directoryFull, { d with kv.dirPlaceFail := d.kv.dirPlaceFail + 1 })
  else (none, d)

/-- Orders 12 and 13 of Table 1.6 for a single new record of `g` granules. -/
def Drive.roomFor (nsId : Nat) (key : Bytes) (g : Nat) (newKey : Bool) (d : Drive) : Option Nat × Drive :=
  let ns := d.ns nsId
  if !d.spaceFor ns g {} then (some St.noSpace, d)
  else if !newKey || ns.located then (none, d)
  else d.entryFor nsId key {}

/-- A further block of the twin's reservation is asked for when less than one remains (R312). -/
def Drive.askReservation (d : Drive) : Drive :=
  if (d.twin.resGranules < 16777216 ∨ d.twin.resEntries < 1048576) ∧ d.twin.resAsked = false then
    ({ d with twin.resAsked := true }).twinSend { code := 0x21, body := .amounts 16777216 1048576 }
  else d

/-- Draws on the twin's reservation for a mirrored write (R160, R312). -/
def Drive.drawReservation (ns : Ns) (g entries : Nat) (d : Drive) : Drive :=
  if d.reserves ns then
    ({ d with twin.resGranules := d.twin.resGranules - g, twin.resEntries := d.twin.resEntries - entries }).askReservation
  else d

end Sys2Proof.Machine
end

