-- ==== Sys2Proof/Machine/Records.lean ====
section
/-! DEFINITION. Machine/Records.lean: the stored bytes of a record (R205, R207, Table 4.5), and the records that the drive holds. -/

namespace Sys2Proof.Machine
open Sys2Proof

/-! ## Checks -/

/-- One bit of CRC-32C, reflected: polynomial 0x1EDC_6F41 (R203). -/
def crcBit (c : Nat) : Nat := if c % 2 = 1 then (c / 2) ^^^ 0x82F63B78 else c / 2

def crcByte (c : Nat) (b : Byte) : Nat := crcBit (crcBit (crcBit (crcBit (crcBit (crcBit (crcBit (crcBit (c ^^^ b.toNat))))))))

/-- CRC-32C: initial value and final XOR 0xFFFF_FFFF (R203). -/
def crc32c (b : Bytes) : Nat := b.foldl crcByte 0xFFFFFFFF ^^^ 0xFFFFFFFF

/-! ## Records on media (R205, R207, Table 4.5) -/

/-- Kind of a record (Table 4.5). -/
def recKind (r : Rec) : Nat := if r.located then (if r.deletion then 4 else 3) else (if r.deletion then 2 else 1)

/-- The 64 bytes of a record's header (Table 4.5). -/
def Drive.recHeader (d : Drive) (r : Rec) : Bytes :=
  beBytes 1 (recKind r) ++ beBytes 1 (b2n r.repaired) ++ beBytes 2 r.ns ++ beBytes 4 (fpTag (d.fingerprint r.ns r.key)) ++ beBytes 8 r.version ++
  beBytes 2 r.key.length ++ beBytes 4 r.value.length ++ beBytes 8 r.nonce ++ beBytes 4 r.gen ++ beBytes 2 r.serial ++ beBytes 28 0

/-- The 96-bit nonce of a stored key or of a chunk: the record's nonce counter, then 0xFFFF_FFFF or the chunk's index (R207, Table 7.10). -/
def gcmNonce (r : Rec) (chunk : Nat) : Nat := r.nonce * 2 ^ 32 + chunk

/-- AES-256-GCM: a string encrypted, and followed by its tag. -/
def gcmSeal (key : Config.Key) (nonce : Nat) (aad plain : Bytes) : Bytes :=
  plain.zipIdx.map (fun p => p.1 ^^^ Config.keystream key nonce p.2) ++ beBytes 16 (Config.gcmTag key nonce aad plain)

/-- A sealed string of a record, with its header as additional data (R207). -/
def sealBytes (r : Rec) (header : Bytes) (chunk : Nat) (plain : Bytes) : Bytes := gcmSeal r.sealedBy (gcmNonce r chunk) header plain

/-- The stored bytes of a record up to its last tag: header in clear, sealed key, sealed chunks in order (R205). -/
def Drive.recStored (d : Drive) (r : Rec) : Bytes :=
  let h := d.recHeader r
  h ++ sealBytes r h 0xFFFFFFFF r.key ++
    ((List.range (ceilDiv r.value.length 65536)).map (fun i => sealBytes r h i (slice (i * 65536) 65536 r.value))).flatten

/-- `b` followed by zeros up to `n` bytes. -/
def padTo (n : Nat) (b : Bytes) : Bytes := b ++ List.replicate (n - b.length) 0

/-- A record's granules: its stored bytes and zeros up to the next granule boundary (R205). -/
def Drive.recBytes (d : Drive) (r : Rec) : Bytes := padTo (256 * recGranules r) (d.recStored r)

/-! ## The records held -/

/-- Every record that reads back from flash: superblock, granule, its sequence number. -/
def Drive.mediaRecs (d : Drive) : List (Place × Nat × Rec) :=
  ((d.media.sbs.filter (fun (p : Nat × Superblock) => p.2.state = 2 ∨ p.2.state = 3 ∨ p.2.state = 4)).map (fun (p : Nat × Superblock) =>
    p.2.recs.map (fun (q : Nat × Rec) => (Place.media p.1 q.1, p.2.seq, q.2)))).flatten

/-- The records of the restored shelf: they stand above every copy on flash. -/
def Drive.shelfRecs (d : Drive) : List (Place × Nat × Rec) :=
  d.kv.shelf.map (fun (p : Nat × ShelfRec) => (Place.shelf p.1, 2 ^ 64, p.2.rec_))

/-- The better of two records of one key (R282): the higher version, then the higher sb_sequence. -/
def betterRec (a b : Place × Nat × Rec) : Bool := decide (b.2.2.version < a.2.2.version) || (a.2.2.version == b.2.2.version && decide (b.2.1 < a.2.1))

/-- The kept record of each key (R282). -/
def keepBest : List (Place × Nat × Rec) → List (Place × Nat × Rec) → List (Place × Nat × Rec)
  | [], kept => kept
  | x :: r, kept =>
    match kept.find? (fun k => k.2.2.ns = x.2.2.ns ∧ k.2.2.key = x.2.2.key) with
    | none => keepBest r (kept ++ [x])
    | some k => keepBest r (if betterRec x k then kept.map (fun y => if y.2.2.ns = x.2.2.ns ∧ y.2.2.key = x.2.2.key then x else y) else kept)

end Sys2Proof.Machine
end

