-- ==== Sys2Proof/Machine/KeyValue.lean ====
section
/-! DEFINITION. Machine/KeyValue.lean: the key-value service (chapters 1 and 2): PUT, DELETE, GET, GET_RANGE, EXISTS, LIST, the commit
wait, confirmation of unconditional PUTs, deadlines and PING. -/

namespace Sys2Proof.Machine
open Sys2Proof

/-! ## Shared parts of writes -/

/-- Holly has a pair in service (R409). -/
def Drive.hollyUp (d : Drive) : Bool := (List.range 12).any (fun p => (tgetD p {} d.holly.pairs).inService)

/-- Bytes of the write shelf in use. -/
def Drive.shelfUsed (d : Drive) : Nat := ((d.kv.shelf.map (fun p => recGranules p.2.rec_)).sum) * 256

/-- The shelf admits a record: while it is below its limit, or at limit 0, where every write goes through at media durability
(R267, R275). -/
def Drive.canShelve (d : Drive) : Bool := d.media.shelfLimitMiB == 0 || decide (d.shelfUsed < d.media.shelfLimitMiB * 2 ^ 20)

/-- A record enters the write shelf. -/
def Drive.shelve (r : Rec) (mirrorOp : Option Nat) (d : Drive) : Nat × Drive :=
  (d.kv.shelfNext, { d with kv.shelf := tput d.kv.shelfNext { rec_ := r, mirrorOp := mirrorOp, at_ := d.now } d.kv.shelf,
                            kv.shelfNext := d.kv.shelfNext + 1 })

/-- The durability level a write must meet: that of its tag, or media at shelf limit 0 (R6, R275). -/
def Drive.durFor (d : Drive) (r : Req) : Nat := if d.media.shelfLimitMiB = 0 then 3 else r.level

/-- Completes a request whose needs are met (R33, R297): its reply leaves, the replaced record's granules are released (R48). One that
the receiver of its mirror answers is counted here, where it was sequenced (R307, R311). -/
def Drive.settle (o : Origin) (d : Drive) : Drive :=
  match d.req? o with
  | none => d
  | some r =>
    if r.phase ≠ .waiting ∨ r.needWait = true ∨ r.needMirror = true ∨ r.needProg = true ∨ r.needTwinProg = true then d
    else
      let d := d.modNs r.hdr.ns (fun n => { n with used := n.used - r.release })
      if r.silent then ((d.meterReply r).dropReq o).twinSeen r.opId none
      else
        let h := { r.replyHdr with flags := r.replyHdr.flags + b2n (d.late r.tag) }
        d.reply o h r.replyBody

/-- The request has not been sequenced, nor failed. -/
def Req.unsequenced (r : Req) : Bool :=
  r.phase == .queued || r.phase == .active || r.phase == .sealed || r.phase == .atTwin || r.phase == .coordinating

/-- The request writes the key: a PUT or DELETE of it, or a batch with such a member. -/
def Req.writesKey (r : Req) (ns : Nat) (key : Bytes) : Bool :=
  ((r.hdr.opcode == 0x02 || r.hdr.opcode == 0x03) && r.hdr.ns == ns && r.key == key) ||
  ((r.hdr.opcode == 0x10 || r.hdr.opcode == 0x11) && (parseMembers r.body).any (fun m => m.op != 0x04 && m.ns == ns && m.key == key))

/-- A message still arriving may write the key: what has come of a PUT's or DELETE's key agrees with it; of a batch anything may follow. -/
def Assembly.mayWrite (a : Assembly) (ns : Nat) (key : Bytes) : Bool :=
  a.op.opcode == 0x10 || a.op.opcode == 0x11 ||
  ((a.op.opcode == 0x02 || a.op.opcode == 0x03) && a.op.ns == ns && a.op.keyLen == key.length &&
    a.payload.take a.op.keyLen == key.take (a.payload.take a.op.keyLen).length)

/-- An earlier write of the same session to the key, by the order of first frames, has been neither sequenced nor refused (R85, R86). -/
def Drive.earlierOn (d : Drive) (r : Req) (ns : Nat) (key : Bytes) : Bool :=
  match r.origin with
  | .session sid _ =>
    d.kv.reqs.any (fun q => q.origin.ofSession sid && decide (q.firstSeq < r.firstSeq) && q.unsequenced && q.writesKey ns key) ||
    (d.sess sid).assemblies.any (fun a => a.verdict == 0 && decide (a.firstSeq < r.firstSeq) && a.mayWrite ns key)
  | _ => false

def Drive.earlierWrite (d : Drive) (r : Req) : Bool := d.earlierOn r r.hdr.ns r.key

/-- µs left to a deadline, all ones for none (Table 6.5). -/
def Drive.timeLeft (d : Drive) (r : Req) : Nat :=
  if r.hdr.deadline = 0 then 2 ^ 64 - 1 else (r.tag.deadline + 2 ^ 40 - d.nowUs) % 2 ^ 40

/-- Sends a request to its key's home (R306, R309); at most 16,384 operations are outstanding, further ones wait (R301). -/
def Drive.forward (r : Req) (write : Bool) (d : Drive) : Drive :=
  if !d.twinRoom then d
  else
    let (id, d) := d.newOpId
    let d := d.putReq { r with phase := .atTwin, opId := id }
    d.twinOp { opId := id, origin := some r.origin,
               msg := { code := if write then 0x01 else 0x02, opId := id, aux := d.timeLeft r,
                        body := .write r.tag { r.hdr with txn := r.replyHdr.txn } r.body } }

/-- The mirror of a record goes to the twin; the operation keeps the op_id of the forward it serves (R304). The receiver of a forward that
asks for twin durability answers its host itself (R307); for media durability it waits for this home's FWD_REPLY (log entry 65). -/
def Drive.mirror (r : Req) (recs : List Rec) (key : Option (Nat × Bytes)) (dur : Nat) (d : Drive) : Nat × Drive :=
  let (id, d) := match r.origin with
    | .twin id => (id, d)
    | _ => d.newOpId
  let originReply := match r.origin with | .twin _ => dur == 2 | _ => false
  let v := ((recs.head?).map (·.version)).getD 0
  (id, d.twinOp {
    opId := id, origin := some r.origin, key := key,
    msg := { code := 0x10, flags := b2n originReply + 4 * b2n (dur == 1), opId := id, version := v, aux := d.media.deltaNext,
             body := .mirror recs } })

/-- Records sequenced here: until the twin acknowledges them, those of mirrored namespaces are changes that it lacks (R334, R336). A holder's
and an unpaired drive's state is nobody's to discard. -/
def Drive.noteChanges (recs : List Rec) (d : Drive) : Drive :=
  let mine := recs.filter (fun r => !(d.ns r.ns).solo && !r.located)
  if mine.isEmpty || d.effTwin == 0 then d
  else { d with
    twin.mirrorSeq := d.media.deltaNext
    twin.unmirrored := if d.effTwin = 4 then d.twin.unmirrored else d.twin.unmirrored ++ mine.map (fun r => (r.ns, r.key, r.version)) }

/-- A request sequenced at this home waits for its commit wait, mirror and programs (R33 to R36, R297). -/
def Drive.awaitNeeds (r : Req) (v : Nat) (h : OpHdr) (body : Bytes) (recs : List Rec) (key : Option (Nat × Bytes)) (release : Nat)
    (d : Drive) : Drive :=
  let dur := d.durFor r
  let mir := d.mirrors (d.ns r.hdr.ns) && !recs.isEmpty
  let (id, d) := if mir then d.mirror r recs key dur else (r.opId, d)
  let h := { h with durability := dur, flags := replyFlags false false d.degraded false }
  let silent := match r.origin with | .twin _ => mir && dur == 2 | _ => false
  (d.noteChanges recs).putReq { r with
    phase := .waiting, version := v, opId := id, needWait := true, needMirror := mir && dur != 1,
    needProg := dur == 3, needTwinProg := mir && dur == 3, release := release, replyHdr := h, replyBody := body, silent := silent }

/-- The sequencer has run out of versions (R74). -/
def Drive.versionsSpent (d : Drive) (input : Nat) : Bool := decide (2 ^ 64 - 1 ≤ d.cycleVersion input)

/-- A write is refused. A member of a BATCH tells the key's current version with whatever it fails by (Table 2.7). -/
def Drive.refuseAt (r : Req) (st : Nat) (d : Drive) : Drive :=
  let v := if r.tag.kind = 0x11 ∧ d.nsOwned r.hdr.ns r.tag.tenant = true then ((d.find? r.hdr.ns r.key).map (·.version)).getD 0 else 0
  d.refuse r st (version := v)

/-! ## PUT -/

/-- PUT: the checks of Table 1.6 up to order 10; then the chunks are sealed at the home, or the request goes to the home (R41 to R44,
R152, R306). -/
def putRequest (o : Origin) (d : Drive) : Drive :=
  d.withReq o [0x02] fun r d =>
    let tenant := d.originTenant r
    match firstFail [((d.checks14 r).isNone, (d.checks14 r).getD 0)] with
    | some st => d.refuseAt r st
    | none =>
      match d.checks69 r tenant true with
      | some st => d.refuseAt r st
      | none =>
        let ns := d.ns r.hdr.ns
        match d.route ns (d.isHome r.hdr.ns r.key) true with
        | .unavailable => d.refuseAt r St.twinUnavailable
        | .forward => if (ns.state = 0x22 ∧ ns.located = false) ∨ ns.cutover = true ∨ d.earlierWrite r = true then d else d.forward r true
        | .here =>
          if (ns.state = 0x22 ∧ ns.located = false) ∨ ns.cutover = true then d
          else if !d.hollyUp then d.refuseAt r St.internalError
          else if !(d.canShelve && d.canDelta) then d
          else match d.drawNonce tenant with
            | none => d.refuseAt r St.keyRevoked
            | some ((serial, nonce), d) =>
              let d := d.useKey (d.storageKeySlot tenant) r.hdr.ns ns.gen
              d.putReq { r with phase := .sealed, serial := serial, nonce := nonce,
                                tag := { r.tag with keySlot := d.storageKeySlot tenant, chunk := (ceilDiv r.hdr.valueLen 65536 - 1) % 16384 } }

/-- The record a PUT stores. -/
def Drive.putRecord (d : Drive) (r : Req) (ns : Ns) (v : Nat) (tenant : Nat) : Rec :=
  { ns := r.hdr.ns, tenant := tenant, key := r.key, value := r.value, version := v, gen := ns.gen, serial := r.serial, nonce := r.nonce,
    sealedBy := d.nsKey tenant r.serial r.hdr.ns ns.gen, located := ns.located }

/-- Relocation epoch of a superblock: erase count[7:0] (Table 3.8). -/
def Drive.epochOf (d : Drive) (sb : Nat) : Nat := (d.sb sb).erases % 256

/-- The token of a record of a located namespace at its place (R177). -/
def Drive.tokenFor (d : Drive) (sb gran len ns : Nat) (home : Nat) : Token :=
  let t : Token := { sb, gran, len, home, reserved := false, ns, epoch := d.epochOf sb, check := 0 }
  { t with check := tokenCheck d.kv.locatorKey t }

/-- Clipping of located records is paused: the forwarding table counts as full (R192). -/
def Drive.fwdFull (d : Drive) : Bool := d.kv.fwdPaused

/-- Commit of a PUT to a located namespace: its place is fixed now, its live-map bit set, and the token returned (R49, R177, R195). -/
def commitLocated (r : Req) (ns : Ns) (tenant g : Nat) (d : Drive) : Drive :=
  if d.fwdFull ∧ ns.quota - ns.physical < g then d.refuse r St.forwardingFull
  else if !d.canAssign then d
  else match d.allocate 0x01 false g with
    | none => d
    | some ((sb, gran), d) =>
      let (v, d) := d.assign r.input
      let rec_ := d.putRecord r ns v tenant
      let (idx, d) := d.shelve rec_ none
      let d := { d with kv.shelf := tput idx { rec_ := rec_, target := some (sb, gran), at_ := d.now } d.kv.shelf,
                        kv.live := (sb, gran) :: d.kv.live }
      let d := d.placeRec sb gran rec_
      let d := d.delta { kind := 1, ns := r.hdr.ns, tag := fpTag (d.fingerprint r.hdr.ns rec_.key), version := v, newLoc := locBits sb gran, len := g }
      let d := d.modNs r.hdr.ns (fun n => { n with used := n.used + g, count := n.count + 1, physical := n.physical + g })
      let h := { echo r.hdr with valueLen := r.hdr.valueLen, condVersion := v }
      d.awaitNeeds r v h (tokenBytes (d.tokenFor sb gran g r.hdr.ns d.roleBit)) [] none 0

/-- The commit point of a PUT at its home (R44, R81 to R84, R169, R170): condition, capacity, version, shelf, directory, mirror. -/
def putCommit (o : Origin) (d : Drive) : Drive :=
  d.withPhase o [.sealed] fun r d =>
    let tenant := d.originTenant r
    let ns := d.ns r.hdr.ns
    let key := r.key
    let g := granules key.length r.hdr.valueLen
    if d.held r.hdr.ns key then
      (if d.effTwin = 3 then d.refuseAt r St.twinUnavailable else if passed d.nowUs r.tag.deadline then d.refuseAt r St.deadlineMissed else d)
    else if d.earlierWrite r || (ns.state == 0x22 && !ns.located) || ns.cutover then d
    else if passed d.nowUs r.tag.deadline then d.refuseAt r St.deadlineMissed
    else if (d.slotOfSerial tenant r.serial).isNone then d.refuseAt r St.keyRevoked
    else if d.effTwin = 5 then d.refuseAt r St.homeFenced
    else if d.media.wearReadOnly then d.refuseAt r St.wearReadOnly
    else if d.route ns (d.isHome r.hdr.ns key) true = .unavailable then d.refuseAt r St.twinUnavailable
    else if d.route ns (d.isHome r.hdr.ns key) true = .forward then d.forward r true
    else if d.versionsSpent r.input then d.refuseAt r St.internalError
    else if !d.nsOwned r.hdr.ns tenant then d.refuseAt r St.keyRevoked
    else
      let d := if condOf r.hdr.flags = 0 then d else d.noteMismatch r.hdr.ns key
      let cur := if ns.located then none else d.find? r.hdr.ns key
      match condOutcome 0x02 (condOf r.hdr.flags) r.hdr.condVersion (cur.map (·.version)) with
      | some st => d.refuse r st (version := (cur.map (·.version)).getD 0)
      | none =>
        match d.roomFor r.hdr.ns key g cur.isNone with
        | (some st, d) => d.refuseAt r st
        | (none, d) =>
          if ns.located then commitLocated r ns tenant g d
          else if !(d.canAssign && d.mirrorRoom o ns) then d
          else
            -- an unconditional PUT leaves its older record to confirmation, unless no slot is in reach for its entry (R169, R173)
            let uncond := condOf r.hdr.flags == 0 && (cur.isNone || d.placeable r.hdr.ns key)
            let (v, d) := d.assign r.input
            let rec_ := d.putRecord r ns v tenant
            let (idx, d) := d.shelve rec_ none
            let ent : DirEnt := { ns := r.hdr.ns, key := key, version := v, place := .shelf idx, granules := g, supersede := uncond,
                                  pending := d.mirrors ns }
            let same := fun (e : DirEnt) => e.ns == r.hdr.ns && e.key == key
            let others := if uncond then d.kv.dir else d.kv.dir.filter (fun e => !same e)
            let released := if uncond then 0 else ((d.kv.dir.filter same).map (·.granules)).sum
            let d := { d with kv.dir := ent :: others }
            let d := (d.modNs r.hdr.ns (fun n => { n with used := n.used + g, count := n.count + b2n cur.isNone })).dirWatch
            let d := d.drawReservation ns g (b2n cur.isNone)
            let h := { echo r.hdr with valueLen := r.hdr.valueLen, condVersion := v }
            d.awaitNeeds r v h [] [rec_] (some (r.hdr.ns, key)) released

/-! ## DELETE -/

/-- DELETE: checked, sequenced with its own version, and the key removed (R50 to R52, R170). -/
def deleteRequest (o : Origin) (d : Drive) : Drive :=
  d.withReq o [0x03] fun r d =>
    let tenant := d.originTenant r
    let ns := d.ns r.hdr.ns
    match (d.checks14 r).orElse (fun _ => d.checks69 r tenant true) with
    | some st => d.refuseAt r st
    | none =>
      match d.route ns (d.isHome r.hdr.ns r.key) true with
      | .unavailable => d.refuseAt r St.twinUnavailable
      | .forward => if ns.cutover || d.earlierWrite r then d else d.forward r true
      | .here =>
        if ns.state = 0x22 then d.refuseAt r St.notFound
        else if d.held r.hdr.ns r.key then (if d.effTwin = 3 then d.refuseAt r St.twinUnavailable else d)
        else if d.earlierWrite r || ns.cutover then d
        else if !d.hollyUp || d.versionsSpent r.input then d.refuseAt r St.internalError
        else
          let d := d.noteMismatch r.hdr.ns r.key
          let cur := d.find? r.hdr.ns r.key
          match condOutcome 0x03 (condOf r.hdr.flags) r.hdr.condVersion (cur.map (·.version)) with
          | some st => d.refuse r st (version := (cur.map (·.version)).getD 0)
          | none =>
            if !(d.canAssign && d.canShelve && d.mirrorRoom o ns) then d
            else match d.drawNonce tenant with
              | none => d.refuseAt r St.keyRevoked
              | some ((serial, nonce), d) =>
                let (v, d) := d.assign r.input
                let rec_ : Rec := { ns := r.hdr.ns, tenant, key := r.key, value := [], version := v, gen := ns.gen, serial, nonce,
                                    sealedBy := d.nsKey tenant serial r.hdr.ns ns.gen, deletion := true }
                let (_, d) := d.shelve rec_ none
                let old := ((d.kv.dir.filter (fun e => e.ns == r.hdr.ns && e.key == r.key)).map (·.granules)).sum
                let d := { d with
                  kv.dir := d.kv.dir.filter (fun e => !(e.ns == r.hdr.ns && e.key == r.key))
                  kv.tombs := d.kv.tombs ++ [Tomb.mk r.hdr.ns r.key v (d.mirrors ns)] }
                let d := d.delta { kind := 2, ns := r.hdr.ns, tag := fpTag (d.fingerprint r.hdr.ns r.key), version := v,
                                   oldLoc := (cur.map (fun e => placeWord e.place)).getD 0, len := granules r.key.length 0 }
                let d := (d.modNs r.hdr.ns (fun n => { n with count := n.count - 1 })).dirWatch
                d.awaitNeeds r v { echo r.hdr with condVersion := v } [] [rec_] (some (r.hdr.ns, r.key)) old

/-! ## Reads -/

/-- A header leaves for a read whose chunks follow (R53, R56). To the twin it carries the stored length beside it (log entry 65). -/
def Drive.readHeader (o : Origin) (h : OpHdr) (total : Nat) (d : Drive) : Drive :=
  let d := d.emit (.reply o h [])
  match o with
  | .session sid rid => d.replyFrames sid rid true false h []
  | .twin opId => d.twinSend { code := 0x03, opId := opId, version := h.condVersion, body := .reply h (beBytes 8 total) }
  | _ => d

/-- Bytes of chunk `i` that lie in the range [lo, hi) (R21, R55). -/
def chunkBytes (value : Bytes) (lo hi i : Nat) : Bytes :=
  let a := max lo (i * 65536)
  let b := min hi ((i + 1) * 65536)
  slice a (b - a) value

/-- A verified chunk leaves (R55). -/
def Drive.readChunk (o : Origin) (i : Nat) (bytes : Bytes) (d : Drive) : Drive :=
  let d := d.emit (.data o i bytes)
  match o with
  | .session sid rid => d.replyFrames sid rid false false {} bytes
  | .twin opId => d.twinSend { code := 0x04, opId := opId, aux := i, body := .data i bytes }
  | _ => d

/-- The reply ends with its trailer (R57, Table 1.7); the request ends. To the twin the trailer's fields go in a second FWD_REPLY. -/
def Drive.readTrailer (o : Origin) (status : Nat) (recon rep : Bool) (chunk total : Nat) (d : Drive) : Drive :=
  let d := match d.req? o with
    | some r => d.meterReply r
    | none => d
  let d := (d.emit (.trailer o status recon rep chunk total)).dropReq o
  match o with
  | .session sid rid =>
    -- the outcome of a read is its trailer's
    let d := d.modSess sid (fun s => { s with dedup := dedupDone rid { opcode := 0x01, status := status } [] s.dedup })
    (d.replyFrames sid rid false true {} (trailerBytes status recon rep chunk total)).lastReply sid false
  | .twin opId =>
    let m : TwinMsg := { code := 0x03, opId := opId,
                         body := .reply { status := status, flags := 2 * b2n recon + b2n rep, offset := chunk, valueLen := total } [] }
    (d.twinSeen opId (some m)).twinSend m
  | _ => d

/-- Sends the chunks [i, stop) of a record that lies in DRAM. -/
def sendChunks (o : Origin) (value : Bytes) (lo hi : Nat) : Nat → Nat → Drive → Drive
  | 0, _, d => d
  | n + 1, i, d => sendChunks o value lo hi n (i + 1) (d.readChunk o i (chunkBytes value lo hi i))

/-- Bytes of a record before chunk `i` on media: header, key and its tag, earlier chunks with theirs (R205). -/
def recOffset (r : Rec) (i : Nat) : Nat := 64 + r.key.length + 16 + i * 65552

/-- The stored bytes that a stream's present read covers, from the record's first: its header and key, or a chunk with its tag (R205). -/
def Stream.extent (s : Stream) : Nat × Nat :=
  if s.headerOnly then (0, 80 + s.rec_.key.length)
  else (recOffset s.rec_ s.next, (chunkBytes s.rec_.value 0 s.rec_.value.length s.next).length + 16)

/-- The chunk number of a stream's present read, all ones for header and key (R207, Table 6.5). -/
def Stream.chunkNo (s : Stream) : Nat := if s.headerOnly then 0xFFFFFFFF else s.next

/-- The tag of a stream's present read: the storage slot, the chunk, and LAST on the final one (R10). -/
def Stream.jobTag (s : Stream) : WorkTag :=
  { s.tag with chunk := if s.headerOnly then 0 else s.next % 16384, last := s.headerOnly || s.next + 1 == s.stop }

/-- The array reads of a stream's present header or chunk, one for each page it lies in (R202). -/
def Drive.jobsOf (d : Drive) (s : Stream) : List ReadJob :=
  match s.place with
  | .shelf _ => []
  | .media sb gran =>
    (pagesOf (s.extent.2 / 16384 + 2) (256 * gran + s.extent.1) s.extent.2).map (fun p =>
      { origin := s.origin, die := d.dieOf sb p.1, plane := d.planeAt sb (channelOf p.1), sb, gran := p.1, chunk := s.chunkNo,
        codewords := p.2, tag := s.jobTag })

/-- Issues array reads one after another. -/
def issueReads : List ReadJob → Drive → Drive
  | [], d => d
  | j :: js, d => issueReads js (d.issueRead j)

def Drive.stream? (d : Drive) (o : Origin) : Option Stream := d.kv.streams.find? (fun s => s.origin = o)

def Drive.putStream (s : Stream) (d : Drive) : Drive :=
  { d with kv.streams := d.kv.streams.map (fun x => if x.origin = s.origin then s else x) }

/-- Another reply runs a tag ladder for the record (R228). -/
def Drive.laddered (d : Drive) (s : Stream) : Bool :=
  d.kv.streams.any (fun x => x.place = s.place ∧ x.origin ≠ s.origin ∧ 1 ≤ x.ladder ∧ x.ladder ≤ 3)

/-- Issues the array reads of a stream's present header or chunk from flash (R202, R216); it waits while a ladder runs for the record
(R228). -/
def Drive.issueChunk (s : Stream) (d : Drive) : Drive :=
  if d.laddered s then d.putStream { s with ladder := 9 } else issueReads (d.jobsOf s) d

/-- Reads of a record that wait for another reply's ladder are issued afresh, when that reply has gone (R228). -/
def reissue (place : Place) : List Stream → Drive → Drive
  | [], d => d
  | x :: xs, d => reissue place xs (
      if x.place = place ∧ x.ladder = 9 then (d.putStream { x with ladder := 0 }).issueChunk { x with ladder := 0 } else d)

/-- A reply's stream ends, its reads with it; what waited for its ladder goes on. -/
def Drive.dropStream (o : Origin) (d : Drive) : Drive :=
  match d.stream? o with
  | none => d
  | some s =>
    let d := Drive.cancelReads o { d with kv.streams := d.kv.streams.filter (fun x => x.origin ≠ o) }
    if s.ladder = 0 ∨ s.ladder = 9 then d else reissue s.place d.kv.streams d

/-- A read is refused before its header has left. -/
def Drive.refuseRead (r : Req) (status : Nat) (d : Drive) (version : Nat := 0) : Drive :=
  (d.dropStream r.origin).refuse r status (version := version)

/-- A streaming reply ends with its trailer, and its stream with it. -/
def Drive.endRead (s : Stream) (status chunk : Nat) (d : Drive) : Drive :=
  (d.dropStream s.origin).readTrailer s.origin status s.reconstructed s.repaired chunk s.rec_.value.length

/-- The tag of media work on a record: the storage slot its serial is in (R10). -/
def Drive.mediaTag (d : Drive) (t : WorkTag) (r : Rec) : WorkTag :=
  { t with keySlot := 65536 + (d.slotOfSerial r.tenant r.serial).getD (2 * r.tenant) }

/-- Begins the reply of a read of a record (R53 to R56, R62, R166): of one in DRAM at once, its header and then its chunks; of one on
flash with the read of its header and key. -/
def Drive.beginRead (r : Req) (rec_ : Rec) (place : Place) (lo hi : Nat) (h : OpHdr) (d : Drive) : Drive :=
  let total := rec_.value.length
  let first := lo / 65536
  let stop := if hi ≤ lo then first else (hi + 65535) / 65536
  match place with
  | .shelf _ =>
    if r.hdr.opcode = 0x04 then d.reply r.origin h []
    else (sendChunks r.origin rec_.value lo hi (stop - first) first (d.readHeader r.origin h total)).readTrailer r.origin St.ok false false 0 total
  | .media _ _ =>
    let s : Stream := { origin := r.origin, rec_ := rec_, place := place, next := first, stop := stop, lo := lo, hi := hi,
                        tag := d.mediaTag r.tag rec_, headerOnly := true }
    let d := d.putReq { r with phase := .streaming, replyHdr := h }
    ({ d with kv.streams := d.kv.streams ++ [s] }).issueChunk s

/-- The range a read asks for, clamped at the end of the value (R54): the whole value for GET. -/
def readRange (h : OpHdr) (len : Nat) : Nat × Nat :=
  if h.opcode = 0x01 then (0, len)
  else if len ≤ h.offset then (h.offset, h.offset)
  else (h.offset, if h.valueLen = 0 then len else min len (h.offset + h.valueLen))

/-- A version may be shown to readers: it is not pending, and this home's commit wait has passed (R88, R297). -/
def Drive.shown (d : Drive) (version : Nat) (pending : Bool) : Bool :=
  !pending && (version % 2 != d.roleBit || decide (verTick version + d.commitWait < d.tick))

def Drive.visible (d : Drive) (e : DirEnt) : Bool := d.shown e.version e.pending

/-- A read of the key waits: its newest version, or its deletion, may not be shown yet (R88, R297). -/
def Drive.hidden (d : Drive) (ns : Nat) (key : Bytes) : Bool :=
  d.kv.tombs.any (fun t => t.ns == ns && t.key == key && !d.shown t.version t.pending) ||
  d.kv.dir.any (fun e => e.ns == ns && e.key == key && !d.visible e)

/-- Deletions that every reader may be told of are kept no longer. -/
def Drive.purgeTombs (d : Drive) : Drive := { d with kv.tombs := d.kv.tombs.filter (fun t => !d.shown t.version t.pending) }

/-- The header of the reply to a read of a keyed record (Table 1.3). -/
def readHdr (h : OpHdr) (len version : Nat) : OpHdr :=
  let (lo, hi) := readRange h len
  if h.opcode = 0x05 then { echo h with valueLen := hi - lo, offset := h.offset, condVersion := version }
  else { echo h with valueLen := len, condVersion := version }

/-- A read of a keyed value (GET, GET_RANGE, EXISTS): the checks it makes before it is served (R41), and the serving of it. The version that
the reply names is the one in the record's header (R168). -/
def keyedRead (o : Origin) (opcode : Nat) (d : Drive) : Drive :=
  d.withReq o [opcode] fun r d =>
    let tenant := d.originTenant r
    let ns := d.ns r.hdr.ns
    match (d.checks14 r).orElse (fun _ => d.checks69 r tenant false) with
    | some st => d.refuse r st
    | none =>
      match d.route ns (d.isHome r.hdr.ns r.key) false with
      | .unavailable => d.refuse r St.twinUnavailable
      | .forward => d.forward r false
      | .here =>
        if ns.state = 0x22 then d.refuse r St.notFound
        else if d.held r.hdr.ns r.key then (if d.effTwin = 3 then d.refuse r St.twinUnavailable else d)
        else if !d.hollyUp then d.refuse r St.internalError
        else if d.hidden r.hdr.ns r.key then d
        else
          let d := d.noteMismatch r.hdr.ns r.key
          let cur := (d.find? r.hdr.ns r.key).map (·.version)
          -- an EXISTS member of a BATCH is checked against the directory alone (R107)
          if r.tag.kind = 0x11 then
            (match condOutcome 0x04 (condOf r.hdr.flags) r.hdr.condVersion cur with
             | some st => d.refuse r st (version := cur.getD 0)
             | none => d.reply o { echo r.hdr with condVersion := cur.getD 0 } [])
          else match d.find? r.hdr.ns r.key with
          | none => d.refuse r ((condOutcome r.hdr.opcode (condOf r.hdr.flags) r.hdr.condVersion none).getD St.notFound)
          | some e =>
            match condOutcome r.hdr.opcode (condOf r.hdr.flags) r.hdr.condVersion (some e.version), e.marked, d.recAt e.place with
            | some st, true, _ => d.refuse r st (version := e.version)
            | none, true, _ => d.refuse r St.mediaAuthFail (version := e.version)
            | _, false, none => d.refuse r St.notFound
            | st, false, some rec_ =>
              match d.slotOfSerial tenant rec_.serial, st, e.place with
              | none, _, _ => d.refuse r St.keyRevoked
              | some _, some st, .shelf _ => d.refuse r st (version := rec_.version)
              | some i, _, _ =>
                let (lo, hi) := readRange r.hdr rec_.value.length
                (d.useKey (65536 + i) r.hdr.ns rec_.gen).beginRead r rec_ e.place lo hi (readHdr r.hdr rec_.value.length rec_.version)

/-- GET: the whole value (R53). -/
def getRequest (o : Origin) (d : Drive) : Drive := keyedRead o 0x01 d

/-- GET_RANGE: the clamped range (R54). -/
def getRangeRequest (o : Origin) (d : Drive) : Drive := keyedRead o 0x05 d

/-- EXISTS: reads and authenticates header and key (R62, R63). -/
def existsRequest (o : Origin) (d : Drive) : Drive := keyedRead o 0x04 d

/-! ## LIST -/

/-- Inserts an entry by its directory position; entries of one bucket and tag in the order the directory holds them (log entry 64). -/
def insertByPos (x : Nat × DirEnt) : List (Nat × DirEnt) → List (Nat × DirEnt)
  | [] => [x]
  | y :: r => if x.1 ≤ y.1 then x :: y :: r else y :: insertByPos x r

/-- The live entries of a namespace from a position on, in directory order (R175); of two entries of a key, the newest. -/
def Drive.listFrom (d : Drive) (ns cursor : Nat) : List (Nat × DirEnt) :=
  let es := d.kv.dir.filter (fun e => e.ns = ns && (d.find? e.ns e.key == some e))
  ((es.map (fun e => (d.position e, e))).foldr insertByPos []).filter (fun p => decide (cursor ≤ p.1))

/-- The reply limit of a LIST (R68). -/
def listLimit (h : OpHdr) : Nat := if h.valueLen = 0 then 65536 else h.valueLen

/-- The bytes of a LIST entry: the version and the length are those of the record's header; of an unreadable one the directory's version
alone is known (R72, Table 1.8). -/
def listItem (withMeta unreadable : Bool) (e : DirEnt) (r : Rec) : Bytes :=
  listEntry withMeta r.key unreadable e.marked (if unreadable then e.version else r.version) (if unreadable then 0 else r.value.length)

/-- A LIST reply leaves: its entries and the cursor, in the other drive's directory once this one's is done (R65 to R67, R73). -/
def Drive.endList (r : Req) (items : List (Nat × Bytes)) (cut : Option Nat) (d : Drive) : Drive :=
  let solo := (d.ns r.hdr.ns).solo && d.effTwin != 0
  let kept := match cut with
    | some p => items.filter (fun (q : Nat × Bytes) => q.1 ≠ p)
    | none => items
  let body := (kept.map (fun (q : Nat × Bytes) => q.2)).flatten
  let nextCursor := match cut with
    | some p => some (p + (if solo then d.roleBit * 2 ^ 63 else 0))
    | none => if solo && d.roleBit == 0 then some (2 ^ 63) else none
  let d := d.dropStream r.origin
  if passed d.nowUs r.tag.deadline then d.refuse r St.deadlineMissed
  else d.reply r.origin { echo r.hdr with
    flags := replyFlags nextCursor.isSome false false false
    valueLen := body.length
    offset := nextCursor.getD 0 } body

/-- A LIST takes an entry it has read: into the reply while it fits, else the reply ends between two positions (R69, R175). -/
def Stream.takes (s : Stream) (limit : Nat) (b : Bytes) : Bool := decide ((s.items.map (·.2.length)).sum + b.length ≤ limit)

/-- A LIST goes on (R71): an entry in DRAM is built at once, of one on flash the header and key are read; one that may not be shown yet
holds it up. -/
def listNext (r : Req) : Nat → Stream → Drive → Drive
  | 0, _, d => d
  | n + 1, s, d =>
    match s.todo with
    | [] => d.endList r s.items none
    | (p, k) :: rest =>
      if d.hidden r.hdr.ns k then (d.putStream s).putReq { r with phase := .active }
      else match d.find? r.hdr.ns k with
        | none => listNext r n { s with todo := rest } d
        | some e =>
          match d.recAt e.place, e.place with
          | none, _ => listNext r n { s with todo := rest } d
          | some rec_, .shelf _ =>
            let b := listItem (bit 3 r.hdr.flags) false e rec_
            if s.takes (listLimit r.hdr) b then listNext r n { s with todo := rest, items := s.items ++ [(p, b)] } d
            else d.endList r s.items (some p)
          | some rec_, .media sb gran =>
            let s := { s with rec_ := rec_, place := .media sb gran, tag := d.mediaTag r.tag rec_, ladder := 0, failed := false }
            ((d.putStream s).putReq { r with phase := .streaming }).issueChunk s

/-- LIST (R65 to R73): entries in directory order from the cursor, up to the reply limit. -/
def listRequest (o : Origin) (d : Drive) : Drive :=
  d.withReq o [0x08] fun r d =>
    let tenant := d.originTenant r
    let ns := d.ns r.hdr.ns
    match (d.checks14 r).orElse (fun _ => d.checks69 r tenant false) with
    | some st => d.refuseRead r st
    | none =>
      match d.stream? o with
      | some s => listNext r (s.todo.length + 1) s d
      | none =>
        let cursorHome := r.hdr.offset / 2 ^ 63
        let cursor := r.hdr.offset % 2 ^ 63
        let twinPart := ns.solo && d.effTwin != 0 && cursorHome != d.roleBit
        if twinPart then
          (if d.effTwin = 2 ∨ d.effTwin = 6 then d.forward r false else d.refuse r St.twinUnavailable (offset := r.hdr.offset))
        else if d.effTwin = 6 ∧ ns.solo = false then d.forward r false
        else if ns.state = 0x22 then d.reply o { echo r.hdr with valueLen := 0 } []
        else if !d.hollyUp then d.refuse r St.internalError
        else
          let todo := (d.listFrom r.hdr.ns cursor).map (fun p => (p.1, p.2.key))
          let none_ : Rec := { ns := r.hdr.ns, tenant, key := [], value := [], version := 0, gen := ns.gen, serial := 0, nonce := 0 }
          let s : Stream := { origin := o, rec_ := none_, place := .shelf 0, next := 0, stop := 0, lo := 0, hi := 0, tag := r.tag,
                              headerOnly := true, todo := todo }
          listNext r (todo.length + 1) s { d with kv.streams := d.kv.streams ++ [s] }

/-! ## Time and confirmation -/

/-- Settles every request of a list. -/
def settleAll : List Origin → Drive → Drive
  | [], d => d
  | o :: r, d => settleAll r (d.settle o)

/-- The pair tick passes a version's tick by W ticks (R297): that version, and every earlier one, may be shown and replied. -/
def commitWaitExpiry (version : Nat) (d : Drive) : Drive :=
  if version ≤ d.kv.lastVersion then
    let d := d.advanceTo (4 * (verTick version + d.commitWait + 1 - d.twin.tickBase))
    let due := d.kv.reqs.filter (fun r => r.phase = .waiting ∧ r.needWait = true ∧ verTick r.version + d.commitWait < d.tick)
    let d := { d with kv.reqs := d.kv.reqs.map (fun (r : Req) =>
      if r.phase = ReqPhase.waiting ∧ verTick r.version + d.commitWait < d.tick then { r with needWait := false } else r) }
    settleAll (due.map (·.origin)) d.purgeTombs
  else d

/-- Laurel confirms the older candidates of an unconditional PUT once its reply has left (R169): an older record's entry is removed and its
granules released, or SUPERSEDE is cleared because the key was new. -/
def supersedeConfirm (nsId : Nat) (key : Bytes) (d : Drive) : Drive :=
  match d.kv.dir.find? (fun e => e.ns = nsId ∧ e.key = key ∧ e.supersede = true) with
  | none => d
  | some e =>
    if d.kv.reqs.any (fun (r : Req) => r.phase == .waiting && r.version == e.version) then d
    else
    let older : List DirEnt := d.kv.dir.filter (fun (x : DirEnt) => x.ns == nsId && x.key == key && x.version != e.version)
    let kept : List DirEnt := d.kv.dir.filter (fun (x : DirEnt) => !(x.ns == nsId && x.key == key && x.version != e.version))
    let d := { d with kv.dir := kept.map (fun (x : DirEnt) => if x.ns = nsId ∧ x.key = key then { x with supersede := false } else x) }
    (d.modNs nsId (fun n => { n with used := n.used - (older.map DirEnt.granules).sum })).dirWatch

/-- PING (R445): echoes its payload with the operating time, and may replace the session's tolerance. -/
def pingRequest (o : Origin) (d : Drive) : Drive :=
  d.withReq o [0x43] fun r d =>
    if 1024 < r.hdr.valueLen then d.refuse r St.tooLarge
    else
      let d := match r.origin with
        | .session sid _ => if ltOverride r.hdr.flags then d.modSess sid (fun s => { s with tolerance := r.hdr.tolerance }) else d
        | _ => d
      d.reply o { echo r.hdr with valueLen := r.body.length, condVersion := d.now } r.body

/-! ## Meanings -/

def execPut (o : Origin) (s : State) : Host.Outcome State Fault Refusal := s.onMain (putRequest o)
def execPutCommit (o : Origin) (s : State) : Host.Outcome State Fault Refusal := s.onMain (putCommit o)
def execDelete (o : Origin) (s : State) : Host.Outcome State Fault Refusal := s.onMain (deleteRequest o)
def execGet (o : Origin) (s : State) : Host.Outcome State Fault Refusal := s.onMain (getRequest o)
def execGetRange (o : Origin) (s : State) : Host.Outcome State Fault Refusal := s.onMain (getRangeRequest o)
def execExists (o : Origin) (s : State) : Host.Outcome State Fault Refusal := s.onMain (existsRequest o)
def execList (o : Origin) (s : State) : Host.Outcome State Fault Refusal := s.onMain (listRequest o)
def execPing (o : Origin) (s : State) : Host.Outcome State Fault Refusal := s.onMain (pingRequest o)
def execCommitWaitExpiry (version : Nat) (s : State) : Host.Outcome State Fault Refusal := s.onMain (commitWaitExpiry version)
def execSupersedeConfirm (ns : Nat) (key : Bytes) (s : State) : Host.Outcome State Fault Refusal := s.onMain (supersedeConfirm ns key)

end Sys2Proof.Machine
end

