-- ==== Sys2Proof/Machine/Located.lean ====
section
/-! DEFINITION. Machine/Located.lean: located namespaces: locator tokens, LOC_GET, LOC_DELETE, RELOC_ACK and the forwarding table
(R177 to R196). -/

namespace Sys2Proof.Machine
open Sys2Proof

/-- The forwarding table's thresholds (R192, R193): pause at 63,000,000, exhausted at 64,000,000, resume below 62,000,000. -/
def Drive.fwdWatch (d : Drive) : Drive :=
  let n := d.kv.fwd.length
  let d := if n ≥ 64000000 ∧ d.kv.fwdExhausted = false then
      ({ d with kv.fwdExhausted := true }).event 0x28A Sev.critical []
    else if n < 64000000 then { d with kv.fwdExhausted := false } else d
  if n ≥ 63000000 ∧ d.kv.fwdPaused = false then
    (({ d with kv.fwdPaused := true }).raiseFwd).event 0x288 Sev.error []
  else if n < 62000000 ∧ d.kv.fwdPaused = true then
    ({ d with kv.fwdPaused := false }).event 0x289 Sev.notice []
  else d

/-- The forwarding entry of a token. -/
def Drive.fwdOf (d : Drive) (sb gran epoch : Nat) : Option FwdEnt :=
  d.kv.fwd.find? (fun e => e.oldSb = sb ∧ e.oldGran = gran ∧ e.oldEpoch = epoch)

/-- The record's current place, through as many entries as the record has moves not acknowledged (R187); none when the epoch is stale
and no entry exists (R182 condition 4). -/
def resolveFwd (d : Drive) : Nat → Nat → Nat → Nat → Option (Nat × Nat)
  | 0, _, _, _ => none
  | n + 1, sb, gran, epoch =>
    match d.fwdOf sb gran epoch with
    | some e => resolveFwd d n e.newSb e.newGran e.newEpoch
    | none => if epoch = d.epochOf sb then some (sb, gran) else none

def Drive.resolveToken (d : Drive) (t : Token) : Option (Nat × Nat) := resolveFwd d (d.kv.fwd.length + 1) t.sb t.gran t.epoch

/-- CHAINED of an entry: the record has moved again, to where a later entry begins (Table 3.10). -/
def Drive.chained (d : Drive) (e : FwdEnt) : Bool := (d.fwdOf e.newSb e.newGran e.newEpoch).isSome

/-- The 16 bytes of a forwarding entry (Table 3.10). -/
def Drive.fwdBytes (d : Drive) (e : FwdEnt) : Bytes :=
  beBytes 16 (locBits e.oldSb e.oldGran * 2 ^ 88 + e.oldEpoch * 2 ^ 80 + locBits e.newSb e.newGran * 2 ^ 40 + e.newEpoch * 2 ^ 32 +
    2 ^ 31 + b2n (d.chained e) * 2 ^ 30 + e.ns)

/-- A record's chain: every entry from which it is reached (R184). -/
def Drive.onChain (d : Drive) (sb gran : Nat) (e : FwdEnt) : Bool :=
  resolveFwd d (d.kv.fwd.length + 1) e.oldSb e.oldGran e.oldEpoch == some (sb, gran)

/-- An entry leaves the table; the entries that led to it lead on to where it led, so that every token still resolves (R187, R189). -/
def spliceFwd (sb gran epoch : Nat) (l : List FwdEnt) : List FwdEnt :=
  match l.find? (fun e => e.oldSb = sb ∧ e.oldGran = gran ∧ e.oldEpoch = epoch) with
  | none => l
  | some e => (l.filter (fun (x : FwdEnt) => !(x.oldSb == sb && x.oldGran == gran && x.oldEpoch == epoch))).map (fun (x : FwdEnt) =>
      if x.newSb = sb ∧ x.newGran = gran ∧ x.newEpoch = epoch then
        { x with newSb := e.newSb, newGran := e.newGran, newEpoch := e.newEpoch } else x)

/-- A located record is live (R195): its bit is set, its namespace is an active located one, its version is not below the floor. -/
def Drive.locLive (d : Drive) (sb gran : Nat) (r : Rec) : Bool :=
  d.kv.live.contains (sb, gran) && (d.ns r.ns).state == 0x21 && (d.ns r.ns).located && decide ((d.ns r.ns).floor ≤ r.version)

/-- The record a token names at its home, by the six conditions of R182. -/
def Drive.tokenRecord (d : Drive) (r : Req) (tenant : Nat) (t : Token) : Option (Nat × Nat × Rec) :=
  if t.reserved then none
  else if tokenCheck d.kv.locatorKey t ≠ t.check then none
  else if !(d.nsOwned t.ns tenant && (d.ns t.ns).located && t.ns == r.hdr.ns) then none
  else match d.resolveToken t with
    | none => none
    | some (sb, gran) =>
      match d.recAt (.media sb gran) with
      | none => none
      | some rec_ => if rec_.ns = t.ns ∧ recGranules rec_ = t.len ∧ d.locLive sb gran rec_ = true then some (sb, gran, rec_) else none

/-- Where a located record is read from: DRAM while it is in the shelf, else flash. -/
def Drive.locPlace (d : Drive) (sb gran : Nat) : Place :=
  match d.kv.shelf.find? (fun p => p.2.target = some (sb, gran)) with
  | some p => .shelf p.1
  | none => .media sb gran

/-- A located value is marked (R61, R181). -/
def Drive.locMark (d : Drive) (sb gran : Nat) : Bool := d.kv.locMarked.contains (sb, gran)

/-- Where the record that a reply reads is now, while it is still the current one: a located one by its version, a keyed one by its key and
version (R225, R227). -/
def Drive.currentPlace (d : Drive) (s : Stream) : Option Place :=
  if s.rec_.located then
    (d.kv.live.find? (fun q => match d.recAt (.media q.1 q.2) with
      | some x => decide (x.ns = s.rec_.ns ∧ x.version = s.rec_.version) && d.locLive q.1 q.2 x
      | none => false)).map (fun q => Place.media q.1 q.2)
  else ((d.find? s.rec_.ns s.rec_.key).filter (fun e => e.version = s.rec_.version)).map (·.place)

/-- The value of a record at a place is marked, by a MARK delta (R61, R181, R227). -/
def Drive.markValue (p : Place) (r : Rec) (d : Drive) : Drive :=
  let d := match r.located, p with
    | true, .media sb gran => { d with kv.locMarked := (sb, gran) :: d.kv.locMarked.filter (· ≠ (sb, gran)) }
    | _, _ => { d with kv.dir := d.kv.dir.map (fun (e : DirEnt) =>
        if e.ns = r.ns ∧ e.key = r.key ∧ e.version = r.version then { e with marked := true } else e) }
  d.delta { kind := 4, ns := r.ns, tag := fpTag (d.fingerprint r.ns r.key), version := r.version, oldLoc := placeWord p, len := recGranules r }

/-- The place of a record that a program moves: its superblock and granule, when it is located. -/
def ProgramJob.movesLocated : ProgramJob → Bool
  | .shelf _ => false
  | .clip _ _ r => r.located
  | .repair r _ _ => r.located

/-- Entries of the forwarding table in use, with those that moves under way will take (R191). -/
def Drive.fwdLoad (d : Drive) : Nat :=
  d.kv.fwd.length + (d.media.dies.filter (fun p => (p.2.job.map ProgramJob.movesLocated).getD false)).length +
    (d.media.verified.filter (fun p => p.1.movesLocated)).length

/-- A located record may move: the table holds 64,000,000 entries, and the last 1,000,000 serve only refresh and recovery from block
failure (R191, R193). -/
def Drive.fwdRoom (d : Drive) (refresh : Bool) : Bool := decide (d.fwdLoad < (if refresh then 64000000 else 63000000))

/-- Orders 1 to 10 of Table 1.6 for a located operation, and where the token is served (R179). -/
def locChecked (o : Origin) (opcode : Nat) (serve : Req → Token → Drive → Drive) (d : Drive) : Drive :=
  d.withReq o [opcode] fun r d =>
    let tenant := d.originTenant r
    let t := parseToken r.body
    match (d.checks14 r).orElse (fun _ => d.checks69 r tenant (opcode == 0x21)) with
    | some st => d.refuse r st
    | none =>
      if d.effTwin ≠ 0 ∧ t.home ≠ d.roleBit then
        (if (d.effTwin = 2 ∨ d.effTwin = 6) ∧ d.twin.linkUp = true then d.forward r (opcode == 0x21) else d.refuse r St.twinUnavailable)
      else if !d.hollyUp then d.refuse r St.internalError
      else if opcode = 0x21 ∧ d.route (d.ns r.hdr.ns) true true = .unavailable then d.refuse r St.twinUnavailable
      else serve r t d

/-- A lookup in a located live map: a map page of 131,072 granules that is not in the cache of 131,072 pages costs one read of it, four
codewords (R196). -/
def Drive.mapLookup (sb gran : Nat) (d : Drive) : Drive :=
  let p := (sb, gran / 131072)
  let d := if d.kv.mapCache.contains p then d else d.countEcc { read := 4 }
  { d with kv.mapCache := (p :: d.kv.mapCache.filter (· ≠ p)).take 131072 }

/-- LOC_GET (R180 to R183): the value, or the range of it. -/
def locGetRequest (o : Origin) (d : Drive) : Drive :=
  locChecked o 0x20 (fun r t d =>
    let tenant := d.originTenant r
    match d.tokenRecord r tenant t with
    | none => d.refuse r St.locatorInvalid
    | some (sb, gran, rec_) =>
      let d := d.mapLookup sb gran
      if d.locMark sb gran then d.refuse r St.mediaAuthFail (version := rec_.version)
      else match d.slotOfSerial tenant rec_.serial with
      | none => d.refuse r St.keyRevoked
      | some i =>
        let d := d.useKey (65536 + i) rec_.ns rec_.gen
        let (lo, hi) := readRange r.hdr rec_.value.length
        d.beginRead r rec_ (d.locPlace sb gran) lo hi
          { echo r.hdr with valueLen := hi - lo, offset := r.hdr.offset, condVersion := rec_.version }) d

/-- LOC_DELETE (R184): removes the record, its live bit and every forwarding entry on the token's chain, with a deletion record. -/
def locDeleteRequest (o : Origin) (d : Drive) : Drive :=
  locChecked o 0x21 (fun r t d =>
    let tenant := d.originTenant r
    match d.tokenRecord r tenant t with
    | none => d.refuse r St.locatorInvalid
    | some (sb, gran, rec_) =>
      let d := d.mapLookup sb gran
      if d.versionsSpent r.input then d.refuse r St.internalError
      else if !(d.canAssign && d.canShelve) then d
      else match d.drawNonce tenant with
        | none => d.refuse r St.keyRevoked
        | some ((serial, nonce), d) =>
          let (v, d) := d.assign r.input
          -- a located deletion record carries the deleted version as its key (R283)
          let del : Rec := { ns := rec_.ns, tenant, key := beBytes 8 rec_.version, value := [], version := v, gen := (d.ns rec_.ns).gen, serial, nonce,
                             sealedBy := d.nsKey tenant serial rec_.ns (d.ns rec_.ns).gen, located := true, deletion := true }
          let (_, d) := d.shelve del none
          let kept := d.kv.fwd.filter (fun e => !d.onChain sb gran e)
          let gone := d.kv.fwd.filter (fun e => d.onChain sb gran e)
          let d := { d with
            kv.live := d.kv.live.filter (· ≠ (sb, gran))
            kv.locMarked := d.kv.locMarked.filter (· ≠ (sb, gran))
            kv.fwd := kept }
          let d := d.delta { kind := 2, ns := rec_.ns, tag := fpTag (d.fingerprint rec_.ns rec_.key), version := v, oldLoc := locBits sb gran,
                             len := recGranules rec_ }
          let d := (d.fwdRemoved gone).fwdWatch
          let d := d.modNs rec_.ns (fun n => { n with count := n.count - 1 })
          d.awaitNeeds r v { echo r.hdr with condVersion := v } [] [] none (recGranules rec_)) d

/-- RELOC_ACK (R188, R189): on session 0 and on the owner's sessions; answers the number of entries removed. -/
def relocAckRequest (o : Origin) (d : Drive) : Drive :=
  d.withReq o [0x22] fun r d =>
    let tenant := d.originTenant r
    match firstFail [
      (r.hdr.valueLen % 16 == 0 && r.hdr.valueLen != 0 && (decide (4096 < r.hdr.valueLen) || r.body.length == r.hdr.valueLen), St.malformed),
      (decide (r.hdr.valueLen ≤ 4096), St.tooLarge),
      ((tenant == 0 && ((d.ns r.hdr.ns).state == 0x21 || (d.ns r.hdr.ns).state == 0x22)) || d.nsOwned r.hdr.ns tenant, St.notPermitted)] with
    | some st => d.refuse r st
    | none =>
      let toks := tokensOf 256 r.body
      let named := d.kv.fwd.filter (fun e => e.ns == r.hdr.ns && toks.any (fun t =>
        t.sb == e.oldSb && t.gran == e.oldGran && t.epoch == e.oldEpoch && t.home == e.homeBit && t.ns == e.ns))
      let gone := named.length
      let d := { d with kv.fwd := named.foldl (fun (l : List FwdEnt) (e : FwdEnt) => spliceFwd e.oldSb e.oldGran e.oldEpoch l) d.kv.fwd }
      (d.fwdRemoved named).fwdWatch.reply o { echo r.hdr with offset := gone } []

def execLocGet (o : Origin) (s : State) : Host.Outcome State Fault Refusal := s.onMain (locGetRequest o)
def execLocDelete (o : Origin) (s : State) : Host.Outcome State Fault Refusal := s.onMain (locDeleteRequest o)
def execRelocAck (o : Origin) (s : State) : Host.Outcome State Fault Refusal := s.onMain (relocAckRequest o)

end Sys2Proof.Machine
end

