-- ==== Sys2Proof/Machine/Batch.lean ====
section
/-! DEFINITION. Machine/Batch.lean: BATCH and BATCH_ATOMIC (R104 to R137), the home's and the coordinator's part. -/

namespace Sys2Proof.Machine
open Sys2Proof

/-! ## Checks (Table 2.5) -/

/-- Orders 1 to 4: they concern the whole batch. -/
def Drive.batchChecks (d : Drive) (r : Req) (atomic : Bool) : Option Nat :=
  let tenant := d.originTenant r
  let n := memberCount r.body
  let ms := memberData ((List.range n).map (memberDesc r.body)) (r.body.drop (8 + 24 * n))
  let puts := ms.filter (fun m => m.op == 0x02)
  let dup := ms.zipIdx.any (fun (m, i) => ms.zipIdx.any (fun (q, j) => decide (i < j) && m.ns == q.ns && m.key == q.key))
  firstFail [
    (ms.all (fun m => (m.op == 0x02 || m.op == 0x03 || m.op == 0x04) && !(d.nsOwned m.ns tenant && (d.ns m.ns).located)), St.unsupported),
    (decide (r.hdr.qos ≤ 7) && decide (r.hdr.durability ≤ 3) && decide (r.hdr.tenant < 4096) && n != 0 &&
      !(atomic && bit 3 r.hdr.flags) &&
      ms.all (fun m => condAllowed m.op (condOf m.flags) m.condVersion && m.keyLen != 0 && (m.op == 0x02 || m.valueLen == 0)) &&
      r.hdr.valueLen == impliedLength ms && r.body.length == r.hdr.valueLen && !(atomic && dup), St.malformed),
    (decide (n ≤ 64) && decide ((puts.map (·.valueLen)).sum ≤ 67108864), St.txnTooLarge),
    (ms.all (fun m => decide (m.keyLen ≤ 1024)), St.tooLarge)]

/-- The current version of a member's key, 0 where it is absent or not the tenant's to know. -/
def Drive.memberVersion (d : Drive) (tenant : Nat) (m : Member) : Nat :=
  if d.nsOwned m.ns tenant then ((d.find? m.ns m.key).map (·.version)).getD 0 else 0

/-- The key of a member is homed on the other drive (TWIN_HOMED, Table 2.7). -/
def Drive.twinHomed (d : Drive) (m : Member) : Bool := d.twin.state != 0 && !d.isHome m.ns m.key

/-- A member of a BATCH_ATOMIC is the other drive's to order: writes of its key are served there (R126, R335, R337). -/
def Drive.elsewhere (d : Drive) (m : Member) : Bool := d.route (d.ns m.ns) (d.isHome m.ns m.key) true == .forward

/-- The check of order `k` (5 to 12 of Table 2.5; 6, Shears, is made before) on one member: its failing status. -/
def Drive.memberCheck (d : Drive) (r : Req) (tenant : Nat) (m : Member) (k : Nat) : Option Nat :=
  let write := m.op != 0x04
  let ns := d.ns m.ns
  match k with
  | 5 => if r.hdr.tenant = tenant ∧ d.nsOwned m.ns tenant = true then none else some St.notPermitted
  | 7 => if passed d.nowUs r.tag.deadline then some St.deadlineMissed else none
  | 8 => if d.keyReady tenant write && !ns.unresolved then none else some St.keyRevoked
  | 9 => if d.effTwin = 5 then some St.homeFenced else none
  | 10 => if write && d.media.wearReadOnly then some St.wearReadOnly else none
  | 11 => if d.route ns (d.isHome m.ns m.key) write = .unavailable then some St.twinUnavailable else none
  | 12 =>
    let cur := if ns.state = 0x22 then none else (d.find? m.ns m.key).map (·.version)
    condOutcome m.op (condOf m.flags) m.condVersion cur
  | _ => none

/-- The first order from `k` on at which a member fails, with each member's status at it (R111). -/
def batchOrder (d : Drive) (r : Req) (tenant : Nat) (ms : List Member) : Nat → Nat → Option (List (Option Nat))
  | 0, _ => none
  | n + 1, k =>
    let sts := ms.map (fun m => d.memberCheck r tenant m k)
    if sts.any Option.isSome then some sts else batchOrder d r tenant ms n (k + 1)

/-- What a PUT member takes, beside what earlier ones take, in a namespace's count, the drive's and the reservation's. -/
def Taken.plus (d : Drive) (m : Member) (isNew : Bool) (t : Taken) : Taken :=
  let g := granules m.key.length m.valueLen
  let mir := d.reserves (d.ns m.ns)
  { t with
    total := t.total + g, reserved := if mir then t.reserved + g else t.reserved
    keys := if isNew then (m.ns, m.key) :: t.keys else t.keys, entries := t.entries + b2n (isNew && mir) }

/-- Granules that earlier PUT members take in the namespace of member `i`. -/
def inNsBefore (ms : List Member) (i ns : Nat) : Nat :=
  (((ms.take i).filter (fun q => q.op == 0x02 && q.ns == ns)).map (fun q => granules q.key.length q.valueLen)).sum

/-- Orders 13 and 14 of Table 2.5: each on every PUT member in member order, on top of what the earlier ones take, and the second only
when every member has passed the first (R111, R116). -/
def roomForAll (ms : List Member) (d : Drive) : Option (List (Option Nat)) × Drive :=
  let puts := ms.map (fun m => m.op == 0x02)
  let news := ms.map (fun m => (d.find? m.ns m.key).isNone)
  let takenBefore := fun (i : Nat) => ((ms.zip (puts.zip news)).take i).foldl (fun t x => if x.2.1 then Taken.plus d x.1 x.2.2 t else t) ({} : Taken)
  let space := ms.zipIdx.map (fun (m, i) =>
    if m.op = 0x02 ∧ d.spaceFor (d.ns m.ns) (granules m.key.length m.valueLen) { takenBefore i with inNs := inNsBefore ms i m.ns } = false then
      some St.noSpace else none)
  if space.any Option.isSome then (some space, d)
  else
    let (sts, d') := (ms.zip news).zipIdx.foldl (fun (acc : List (Option Nat) × Drive) p =>
      if p.1.1.op = 0x02 ∧ p.1.2 = true then
        let (st, d') := acc.2.entryFor p.1.1.ns p.1.1.key (takenBefore p.2)
        (acc.1 ++ [st], d')
      else (acc.1 ++ [none], acc.2)) ([], d)
    if sts.any Option.isSome then (some sts, d') else (none, d')

/-! ## Applying members -/

/-- Draws a seal for every write member (R302). -/
def drawSeals (tenant : Nat) : List Member → Drive → Option (List (Nat × Nat) × Drive)
  | [], d => some ([], d)
  | m :: ms, d =>
    if m.op = 0x04 then (drawSeals tenant ms d).map (fun (l, d) => ((0, 0) :: l, d))
    else match d.drawNonce tenant with
      | none => none
      | some (s, d) => (drawSeals tenant ms d).map (fun (l, d) => (s :: l, d))

/-- The record a write member makes at a version. -/
def memberRec (d : Drive) (tenant v : Nat) (m : Member) (sl : Nat × Nat) : Rec :=
  { ns := m.ns, tenant, key := m.key, value := m.value, version := v, gen := (d.ns m.ns).gen, serial := sl.1, nonce := sl.2,
    sealedBy := d.nsKey tenant sl.1 m.ns (d.ns m.ns).gen, deletion := m.op == 0x03 }

/-- A record of a confirmed write takes effect: shelf, directory, accounting. Answers the granules of what it replaces, to be
released. `mirrorOp`: the operation whose PROGRAMMED the twin awaits. -/
def Drive.applyRec (r : Rec) (pending : Bool) (mirrorOp : Option Nat) (d : Drive) : Nat × Drive :=
  let same := fun (e : DirEnt) => e.ns == r.ns && e.key == r.key
  let old := ((d.kv.dir.filter same).map DirEnt.granules).sum
  let fresh := !(d.kv.dir.any same)
  let was := ((d.kv.dir.find? same).map (fun e => placeWord e.place)).getD 0
  let g := recGranules r
  let (idx, d) := d.shelve r mirrorOp
  if r.deletion then
    let d := { d with
      kv.dir := d.kv.dir.filter (fun e => !same e)
      kv.tombs := if pending then d.kv.tombs ++ [Tomb.mk r.ns r.key r.version true] else d.kv.tombs }
    let d := d.delta { kind := 2, ns := r.ns, tag := fpTag (d.fingerprint r.ns r.key), version := r.version, oldLoc := was, len := g }
    (old, (d.modNs r.ns (fun n => { n with count := n.count - b2n (!fresh) })).dirWatch)
  else
    let e : DirEnt := { ns := r.ns, key := r.key, version := r.version, place := .shelf idx, granules := g, pending := pending }
    let d := { d with kv.dir := e :: d.kv.dir.filter (fun e => !same e) }
    (old, (d.modNs r.ns (fun n => { n with used := n.used + g, count := n.count + b2n fresh })).dirWatch)

/-- Applies records at once, releasing what each replaces; those of mirrored namespaces are pending where `pending` says so (R88). -/
def applyAll (pending : Bool) (mirrorOp : Option Nat) : List Rec → Drive → Drive
  | [], d => d
  | r :: rs, d =>
    let (old, d) := d.applyRec r (pending && d.mirrors (d.ns r.ns)) mirrorOp
    applyAll pending mirrorOp rs (d.modNs r.ns (fun n => { n with used := n.used - old }))

/-- What a written record draws of the twin's reservation (R160, R312). -/
def drawAll : List Member → Drive → Drive
  | [], d => d
  | m :: ms, d =>
    drawAll ms (if m.op = 0x02 then
      d.drawReservation (d.ns m.ns) (granules m.key.length m.valueLen) (b2n (d.find? m.ns m.key).isNone) else d)

/-! ## Replies of batches -/

/-- The reply header of a batch (R113). -/
def batchHdr (r : Req) (status index version : Nat) (results : List MemberResult) : OpHdr :=
  { opcode := r.hdr.opcode, rid := r.hdr.rid, tenant := r.hdr.tenant, qos := r.hdr.qos, status := status,
    durability := durApplied r.hdr.durability, valueLen := 16 * results.length, offset := index * 2 ^ 32, condVersion := version,
    txn := r.replyHdr.txn }

def resultsBytes (rs : List MemberResult) : Bytes := (rs.map resultBytes).flatten

/-- The next transaction id (R117). -/
def Drive.nextTxn (d : Drive) : Nat × Drive :=
  (d.kv.txnCounter, { d with kv.txnCounter := (d.kv.txnCounter + 1) % 2 ^ 32 })

/-- A member that has not taken effect, with a status (Table 2.7). -/
def Drive.idleResult (d : Drive) (tenant : Nat) (m : Member) (status : Nat) : MemberResult :=
  { status, twinHomed := d.twinHomed m, version := d.memberVersion tenant m }

/-- The member results of a batch that failed: each failing member's status, the others OK and not applied (R116). -/
def failedResults (d : Drive) (tenant : Nat) (ms : List Member) (sts : List (Option Nat)) : List MemberResult :=
  (ms.zip sts).map (fun (m, st) => d.idleResult tenant m (st.getD 0))

/-- Replies that members of a batch failed (R112, R114). -/
def Drive.batchFail (r : Req) (rs : List MemberResult) (d : Drive) : Drive :=
  let idx := (rs.zipIdx.find? (fun p => p.1.status != 0)).map (·.2)
  let st := ((rs.find? (fun x => x.status != 0)).map (·.status)).getD 0
  d.reply r.origin (batchHdr r st (idx.getD 0xFF) 0 rs) (resultsBytes rs)

/-- A batch is refused at orders 1 to 4: no payload (R112, R115). -/
def Drive.batchRefuse (r : Req) (st : Nat) (d : Drive) : Drive := d.reply r.origin (batchHdr r st 0xFF 0 []) []

/-- A failure after orders 1 to 4 that names no member: a BATCH_ATOMIC has the status, its members none of their own; in a BATCH it is the
status of each member not yet executed, and the batch's is OK (R112, R114 to R116, log entry 66). -/
def Drive.batchWhole (r : Req) (st : Nat) (d : Drive) (detail : Nat := 0) : Drive :=
  let tenant := d.originTenant r
  let ms := parseMembers r.body
  let own := fun (m : Member) (s : Nat) => d.idleResult tenant m ((d.memberCheck r tenant m 5).getD s)
  if r.hdr.opcode = 0x10 then
    let rs := ms.map (fun m => d.idleResult tenant m 0)
    d.reply r.origin { batchHdr r st 0xFF 0 rs with offset := 0xFF * 2 ^ 32 + detail } (resultsBytes rs)
  else
    let rs := r.results ++ (ms.drop r.results.length).map (fun m => own m st)
    d.reply r.origin { batchHdr r St.ok 0xFF 0 rs with offset := 0xFF * 2 ^ 32 + detail } (resultsBytes rs)

/-- Any data request or batch that has passed orders 1 to 4 ends with a status and without further effect. -/
def Drive.refuseAny (r : Req) (st : Nat) (d : Drive) (detail : Nat := 0) : Drive :=
  if r.hdr.opcode = 0x10 ∨ r.hdr.opcode = 0x11 then d.batchWhole r st detail else d.refuse r st (offset := detail)

/-! ## BATCH (R118 to R121) -/

/-- Member `i` has a result. -/
def Req.setResult (r : Req) (i : Nat) (x : MemberResult) : Req :=
  { r with results := if i < r.results.length then r.results.set i x else r.results ++ [x], parts := r.parts.filter (fun p => p.2 ≠ i) }

/-- A member of the twin's home is forwarded, its index as request_id and the batch's transaction id with it (R117). -/
def Drive.forwardMember (r : Req) (m : Member) (i : Nat) (d : Drive) : Drive :=
  let (id, d) := d.newOpId
  let h : OpHdr := { opcode := m.op, flags := m.flags, rid := i, tenant := r.hdr.tenant, ns := m.ns, qos := r.hdr.qos,
                     durability := r.hdr.durability, deadline := r.hdr.deadline, keyLen := m.keyLen, valueLen := m.valueLen,
                     condVersion := m.condVersion, txn := r.replyHdr.txn }
  let d := d.twinOp { opId := id, origin := some r.origin,
                      msg := { code := if m.op = 0x04 then 0x02 else 0x01, opId := id, aux := d.timeLeft r,
                               body := .write { r.tag with kind := 0x11, ns := m.ns } h (m.key ++ m.value) } }
  let r := r.setResult i { twinHomed := true }
  d.putReq { r with parts := r.parts ++ [(id, i)] }

/-- A write member takes effect at this home (R118): sealed, ordered with its own version, mirrored. -/
def Drive.writeMember (r : Req) (tenant : Nat) (m : Member) (i : Nat) (sl : Nat × Nat) (d : Drive) : Drive :=
  let ns := d.ns m.ns
  let d := drawAll [m] d
  let (v, d) := d.assign r.input
  let rec_ := memberRec d tenant v m sl
  let mir := d.mirrors ns
  let (old, d) := d.applyRec rec_ mir none
  let d := d.modNs m.ns (fun n => { n with used := n.used - old })
  let dur := d.durFor r
  let (id, d) := if mir then d.mirror { r with origin := .session 0 0 } [rec_] (some (m.ns, m.key)) dur else (0, d)
  let d := { d with twin.out := d.twin.out.map (fun (x : TwinOp) => if mir ∧ x.opId = id then { x with origin := some r.origin } else x) }
  let res : MemberResult := { twinHomed := d.twinHomed m, applied := true, version := v }
  let r := r.setResult i res
  (d.noteChanges [rec_]).putReq { r with version := v, parts := if mir && dur != 1 then r.parts ++ [(id, i)] else r.parts }

/-- What keeps a member of a BATCH waiting: its key is held or an earlier write of the session to it is not sequenced; its namespace
holds writes; it is to be read while its newest version may not be shown, or while an earlier member of the key is at the twin; a
failure of a member at the twin may yet stop the batch (R86, R88, R119, R120, R129). -/
def Drive.memberWaits (d : Drive) (r : Req) (ms : List Member) (m : Member) : Bool :=
  d.held m.ns m.key || d.earlierOn r m.ns m.key || ((d.ns m.ns).state == 0x22 && m.op == 0x02) || (d.ns m.ns).cutover ||
  (m.op == 0x04 && (d.hidden m.ns m.key || r.parts.any (fun p => match ms[p.2]? with | some q => q.ns == m.ns && q.key == m.key | none => false))) ||
  (bit 3 r.hdr.flags && r.parts.any (fun p => match r.results[p.2]? with | some x => !x.applied | none => false)) ||
  (m.op != 0x04 && !(d.canAssign && d.canShelve && d.mirrorRoom (.session 0 0) (d.ns m.ns)))

/-- All members have been executed: the reply waits for what the applied ones need (R121). -/
def Drive.endBatch (r : Req) (d : Drive) : Drive :=
  let dur := d.durFor r
  let wrote := r.version != 0
  let h := { batchHdr r St.ok 0xFF 0 r.results with durability := dur, flags := replyFlags false false d.degraded false }
  let d := d.putReq { r with
    phase := .waiting, needWait := wrote, needMirror := !r.parts.isEmpty, needProg := wrote && dur == 3, replyHdr := h
    replyBody := resultsBytes r.results }
  d.settle r.origin

/-- The member to execute next: one that was at the twin when this drive took the lease, else the next in order (Table 2.9, R331). -/
def Drive.nextMember (d : Drive) (r : Req) : Nat :=
  let givenUp := fun (p : Nat × Nat) => d.twin.out.all (fun x => x.opId != p.1) &&
    (match r.results[p.2]? with | some x => !x.applied | none => false)
  match r.parts.find? givenUp with
  | some p => p.2
  | none => r.results.length

/-- The members of a BATCH are executed in order, as far as they can be now; after a failure with STOP_ON_FAIL none is (R118 to R121). -/
def batchRun (o : Origin) : Nat → Drive → Drive
  | 0, d => d
  | n + 1, d =>
    match d.req? o with
    | none => d
    | some r =>
      let tenant := d.originTenant r
      let ms := parseMembers r.body
      let i := d.nextMember r
      let r := { r with parts := r.parts.filter (fun p => p.2 ≠ i) }
      let put := fun (x : MemberResult) (d : Drive) => batchRun o n (d.putReq (r.setResult i x))
      match ms[i]? with
      | none => d.endBatch r
      | some m =>
        if bit 3 r.hdr.flags && r.results.any (fun x => x.status != 0) then
          put { twinHomed := d.twinHomed m } d
        else match (List.range 7).findSome? (fun k => d.memberCheck r tenant m (k + 5)) with
          | some st => put (d.idleResult tenant m st) d
          | none =>
            if d.held m.ns m.key ∧ d.effTwin = 3 then put (d.idleResult tenant m St.twinUnavailable) d
            else if d.memberWaits r ms m then d
            else if d.route (d.ns m.ns) (d.isHome m.ns m.key) (m.op != 0x04) = .forward then
              (if !d.twinRoom then d else batchRun o n (d.forwardMember r m i))
            else match d.memberCheck r tenant m 12 with
              | some st => put (d.idleResult tenant m st) d
              | none =>
                if m.op = 0x04 then put (d.idleResult tenant m 0) d
                else if d.versionsSpent r.input || !d.hollyUp then put (d.idleResult tenant m St.internalError) d
                else match (if m.op = 0x02 then
                    d.roomFor m.ns m.key (granules m.key.length m.valueLen) (d.find? m.ns m.key).isNone else (none, d)) with
                  | (some st, d) => put (d.idleResult tenant m st) d
                  | (none, d) =>
                    match d.drawNonce tenant with
                    | none => put (d.idleResult tenant m St.keyRevoked) d
                    | some (sl, d) => batchRun o n (d.writeMember r tenant m i sl)

/-- Steps enough for every member, and for those given up at the twin. -/
def batchFuel (r : Req) : Nat := 2 * memberCount r.body + 2

/-- BATCH. -/
def batchRequest (o : Origin) (d : Drive) : Drive :=
  d.withReq o [0x11] fun r d =>
    match d.batchChecks r false with
    | some st => d.batchRefuse r st
    | none => batchRun o (batchFuel r) d

/-! ## BATCH_ATOMIC (R122 to R136) -/

/-- A committed member is installed at this drive: its own key, or a mirrored one (Table 2.8). -/
def Drive.installsHere (d : Drive) (m : Member) : Bool := m.op != 0x04 && (d.isHome m.ns m.key || !(d.ns m.ns).solo)

/-- Commits a batch whose keys are all this drive's: one version for every write member, all at once (R123, R128). -/
def commitAtomic (r : Req) (tenant : Nat) (ms : List Member) (d : Drive) : Drive :=
  match drawSeals tenant ms d with
  | none => d.batchWhole r St.keyRevoked
  | some (seals, d) =>
    let d := drawAll ms d
    let (v, d) := d.assign r.input
    let recs := ((ms.zip seals).filter (fun p => p.1.op != 0x04)).map (fun p => memberRec d tenant v p.1 p.2)
    let mirrored := recs.filter (fun x => d.mirrors (d.ns x.ns))
    let rs : List MemberResult := ms.map (fun m =>
      if m.op = 0x04 then d.idleResult tenant m 0 else { twinHomed := d.twinHomed m, applied := true, version := v })
    let d := (applyAll true none recs d).noteChanges recs
    let dur := d.durFor r
    let wrote := !recs.isEmpty
    let (id, d) := if mirrored.isEmpty then (r.opId, d) else d.mirror { r with origin := .session 0 0 } mirrored none dur
    let d := if mirrored.isEmpty then d
      else { d with twin.out := d.twin.out.map (fun (x : TwinOp) => if x.opId = id then { x with origin := some r.origin } else x) }
    let h := { batchHdr r St.ok 0xFF v rs with durability := dur, flags := replyFlags false false d.degraded false }
    d.putReq { r with
      phase := .waiting, version := v, opId := id, needWait := true, needMirror := !mirrored.isEmpty && dur != 1,
      needProg := wrote && dur == 3, needTwinProg := !mirrored.isEmpty && dur == 3, replyHdr := h, replyBody := resultsBytes rs, results := rs }

/-- The coordinator sends PREPARE: every member sealed, every member's key held here until the batch ends (R125, R129, R302, Table 2.8). -/
def prepareTxn (r : Req) (tenant : Nat) (ms : List Member) (d : Drive) : Drive :=
  match drawSeals tenant ms d with
  | none => d.batchWhole r St.keyRevoked
  | some (seals, d) =>
    let txn := r.replyHdr.txn
    let (id, d) := d.newOpId
    let d := { d with kv.holds := d.kv.holds ++ ms.map (fun (m : Member) => (Hold.mk m.ns m.key txn true)) }
    let d := d.putReq { r with phase := .coordinating, opId := id, seals := seals, prepareAt := d.now }
    d.twinOp { opId := id, origin := some r.origin,
               msg := { code := 0x18, opId := id, aux := txn, body := .prepare { r.tag with kind := 0x1B } r.hdr r.body seals } }

/-- BATCH_ATOMIC: checked whole; then forwarded to its coordinator, committed on one home, or prepared across both (R122 to R131). -/
def batchAtomicRequest (o : Origin) (d : Drive) : Drive :=
  d.withReq o [0x10] fun r d =>
    let tenant := d.originTenant r
    match d.batchChecks r true with
    | some st => d.batchRefuse r st
    | none =>
      let ms := parseMembers r.body
      match batchOrder d r tenant ms 7 5 with
      | some sts => d.batchFail r (failedResults d tenant ms sts)
      | none =>
        let away := match ms.head? with
          | some m => d.elsewhere m
          | none => false
        let cross := ms.any d.elsewhere
        if ms.any (fun m => d.earlierOn r m.ns m.key) then d
        else if away then d.forward r true
        else if ms.any (fun m => ((d.ns m.ns).state == 0x22 && m.op == 0x02) || (d.ns m.ns).cutover) then d
        else if ms.any (fun m => d.held m.ns m.key) then
          (if d.effTwin = 3 then d.batchWhole r St.twinUnavailable
           else if cross && ms.any (fun m => d.kv.holds.any (fun h => h.ns == m.ns && h.key == m.key && !h.coordinator)) then
             d.batchWhole r St.txnConflict
           else d)
        else if !d.hollyUp || d.versionsSpent r.input then d.batchWhole r St.internalError
        else if !(d.canAssign && d.canShelve) then d
        else if cross then (if !d.twinRoom then d else prepareTxn r tenant ms d)
        else if ms.any (fun m => m.op != 0x04 && !d.mirrorRoom (.session 0 0) (d.ns m.ns)) then d
        else if ms.any (fun m => m.op == 0x04 && d.hidden m.ns m.key) then d
        else match batchOrder d r tenant ms 1 12 with
          | some sts => d.batchFail r (failedResults d tenant ms sts)
          | none =>
            match roomForAll ms d with
            | (some sts, d) => d.batchFail r (failedResults d tenant ms sts)
            | (none, d) => commitAtomic r tenant ms d

/-- The deadline of a waiting request passes before it takes effect (R38, R112, R476): time has reached it, and it is answered. A read
takes effect when its header leaves; of a BATCH the members not yet executed miss it. -/
def deadlineMissed (o : Origin) (d : Drive) : Drive :=
  match d.req? o with
  | none => d
  | some r =>
    let reading := r.phase == .streaming && (match d.stream? o with | some s => !s.started | none => false)
    let forwarded := r.phase == .atTwin && !isWrite r.hdr.opcode && r.hdr.opcode != 0x10
    if !(r.phase == .queued || r.phase == .active || r.phase == .sealed || reading || forwarded) then d
    else
      let left := (r.tag.deadline + 2 ^ 40 - d.nowUs) % 2 ^ 40
      let d := if passed d.nowUs r.tag.deadline then d else d.advanceTo ((d.now / 1000 + left) * 1000)
      if r.hdr.opcode = 0x11 ∧ r.phase = .active then batchRun o (batchFuel r) d
      else (((if forwarded then d.twinDone r.opId else d).dropStream o).refuseAny r St.deadlineMissed)

def execBatch (o : Origin) (s : State) : Host.Outcome State Fault Refusal := s.onMain (batchRequest o)
def execBatchAtomic (o : Origin) (s : State) : Host.Outcome State Fault Refusal := s.onMain (batchAtomicRequest o)
def execDeadlineMissed (o : Origin) (s : State) : Host.Outcome State Fault Refusal := s.onMain (deadlineMissed o)

end Sys2Proof.Machine
end

