-- ==== Sys2Proof/Machine/Sessions.lean ====
section
/-! DEFINITION. Machine/Sessions.lean: sessions and the GKP transport (R418 to R470, R477 to R480): opening, closing, rekeying, arriving
frames, acknowledgement, retransmission, congestion, paths. -/

namespace Sys2Proof.Machine
open Sys2Proof

/-! ## Blobs (R369, R370) -/

/-- The tenant exists: tenant 0 always, others once created. -/
def Drive.tenantExists (d : Drive) (t : Nat) : Bool := t == 0 || d.kv.tenants.contains t

/-- The key a blob of a kind was to be wrapped under, when it is loaded (Table 7.4). -/
def Drive.wrapperOf (d : Drive) (b : Blob) : Option Config.Key :=
  if b.kind = 3 ∨ b.kind = 4 then tget? b.tenant d.keys.wraps else tget? b.wrapper d.keys.keks

/-- Check 1 of R370. -/
def blobForm (b : Blob) (kinds : List Nat) : Bool :=
  b.length == 88 && kinds.contains b.kind && b.format == 1 && b.reserved == 0 &&
  (if b.kind = 3 then decide (1 ≤ b.serial) else b.serial == 0) && (b.kind != 3 && b.kind != 4 || b.wrapper == 0)

/-- Checks 2 to 4 of R370: the failing status, if any. -/
def Drive.blobUnwrap (d : Drive) (b : Blob) : Option Nat :=
  if !d.tenantExists b.tenant then some St.notFound
  else match d.wrapperOf b with
    | none => some St.keyRevoked
    | some k => if b.wrappedUnder = k ∧ b.headerCopyOk = true then none else some St.notPermitted

/-- With no pair of Holly in service a blob cannot be unwrapped: INTERNAL_ERROR where check 4 would stand (R409, Table 7.12). -/
def Drive.blobOpen (d : Drive) (b : Blob) : Option Nat :=
  match d.blobUnwrap b with
  | some st => if st = St.notPermitted ∧ d.hollyUp = false then some St.internalError else some st
  | none => if d.hollyUp then none else some St.internalError

/-- Check 5 of R370. -/
def blobPlain (b : Blob) : Bool :=
  b.tailZero && b.key != .raw 0 && (if b.kind = 4 then b.saltH2d != b.saltD2h else b.saltH2d == 0 && b.saltD2h == 0)

/-- UNWRAP_FAILED is recorded when check 4 fails (R370). -/
def Drive.unwrapEvent (st : Nat) (d : Drive) : Drive :=
  if st = St.notPermitted then d.event 0x412 Sev.warning [] else d

/-! ## Session keys and parameters -/

/-- The session traffic key (Table 7.9): session, key phase, drive random. -/
def sessionKey (blobKey : Config.Key) (sid phase random : Nat) : Config.Key :=
  .derived blobKey 1 (sid * 2 ^ 136 + phase % 256 * 2 ^ 128 + random % 2 ^ 128)

/-- The open key of R429. -/
def openKey (blobKey : Config.Key) (sid : Nat) : Config.Key := .derived blobKey 2 sid

/-- The granted parameters of R433; none: MALFORMED. -/
def grantParams (dflt : Nat) (p : SessionParams) : Option SessionParams :=
  if (1 ≤ p.maxFrame ∧ p.maxFrame ≤ 1199) ∨ p.paths % 4 = 0 then none
  else some { p with
    idle := if p.idle = 0 then dflt else if p.idle ≤ 2 then 3 else p.idle
    maxFrame := if p.maxFrame = 0 then 9088 else min p.maxFrame 9088
    paths := p.paths % 4 }

/-- The 24 bytes of session parameters (Table 8.7). -/
def paramBytes (p : SessionParams) : Bytes :=
  beBytes 2 p.tolerance ++ beBytes 2 p.idle ++ beBytes 2 p.maxFrame ++ beBytes 1 (p.paths % 4 * 64) ++ beBytes 17 0

/-! ## Ending sessions -/

/-- XPORT.SESSIONS_OPEN: sessions that are not CLOSED (R480). -/
def Drive.sessionsOpen (d : Drive) : Nat := (d.xp.sessions.filter (fun p => p.2.state ≠ 0x40)).length

/-- Replies OK to each SESSION_CLOSE that waited for the named session to close (R438). -/
def closeReplies : List Origin → Drive → Drive
  | [], d => d
  | o :: r, d => closeReplies r (match d.req? o with
    | some q => d.reply o (echo q.hdr) []
    | none => d)

/-- The session becomes CLOSED (R381, R437, R46): its slot EMPTY, its window and ring gone, replies stopped without trailer, writes
before their commit point without effect; SESSION_CLOSED is recorded with its cause (Table 8.14). -/
def Drive.endSession (sid cause : Nat) (d : Drive) : Drive :=
  let s := d.sess sid
  if s.state = 0x40 then d
  else
    let early := fun (r : Req) => r.origin.ofSession sid &&
      (r.phase == .queued || r.phase == .active || r.phase == .sealed || r.phase == .streaming)
    let d := match s.closeOwn with | some o => d.dropReq o | none => d
    let d := ((d.kv.streams.filter (fun x => x.origin.ofSession sid)).map (·.origin)).foldl (fun (d : Drive) o => d.dropStream o) d
    let d := { d with
      kv.reqs := d.kv.reqs.filter (fun r => !early r)
      keys.sessions := tdel sid d.keys.sessions
      xp.sessions := tdel sid d.xp.sessions }
    closeReplies s.closeWaits (d.event 0x601 Sev.info [sid, cause])

/-- Pairs (old token, new token) of a namespace's unacknowledged relocations (Table 3.9). -/
def Drive.relocPairs (d : Drive) (ns : Nat) : List Bytes :=
  (d.kv.fwd.filter (fun e => e.ns = ns)).map (fun e =>
    let old : Token := { sb := e.oldSb, gran := e.oldGran, len := e.granules, home := e.homeBit, reserved := false, ns := ns, epoch := e.oldEpoch, check := 0 }
    let new_ : Token := { sb := e.newSb, gran := e.newGran, len := e.granules, home := e.homeBit, reserved := false, ns := ns, epoch := e.newEpoch, check := 0 }
    tokenBytes { old with check := tokenCheck d.kv.locatorKey old } ++ tokenBytes { new_ with check := tokenCheck d.kv.locatorKey new_ })

/-- RELOCATED notices of up to 64 pairs each (R185, Table 3.9). -/
def relocNotices (ns : Nat) : Nat → List Bytes → List Notice
  | 0, _ => []
  | n + 1, ps =>
    if ps.isEmpty then []
    else
      let part := ps.take 64
      { kind := 3, ns := ns, body := beBytes 2 part.length ++ beBytes 2 ns ++ beBytes 4 0 ++ part.flatten } :: relocNotices ns n (ps.drop 64)

/-- Frames of a request's reply that are not yet acknowledged. -/
def Session.replyFrames (s : Session) (rid : Nat) : Nat := (s.unacked.filter (fun f => f.rid == rid && f.op.opcode != 0xF0)).length

/-- The 32 bytes of a ring descriptor (Table 8.10). -/
def descriptorBytes (s : Session) (x : Descriptor) : Bytes :=
  tagBytes x.tag ++ beBytes 4 x.buffer ++ beBytes 4 x.firstSeq ++ beBytes 4 x.bytes ++ beBytes 1 x.opcode ++
  beBytes 1 (x.state * 16 + x.path % 2) ++ beBytes 2 (s.replyFrames x.rid)

/-- Posts notices one after another. -/
def noticeAll (sid : Nat) : List Notice → Drive → Drive
  | [], d => d
  | n :: r, d => noticeAll sid r (d.notice sid n)

/-- Every relocation still unacknowledged is posted again on a session of the owner, or on session 0, when it opens (R186). -/
def Drive.repostRelocations (sid tenant : Nat) (d : Drive) : Drive :=
  let nss := (d.kv.nss.filter (fun p => (p.2.owner == tenant || sid == 0) && p.2.located)).map (·.1)
  noticeAll sid (nss.flatMap (fun n => let ps := d.relocPairs n; relocNotices n ps.length ps)) d

/-- The session opens (R434): OPENING, its spaces at their starts, key phase 0, the slot ACTIVE. Answers the reply's payload. -/
def Drive.openSession (sid tenant rid : Nat) (b : Blob) (p : SessionParams) (d : Drive) : Bytes × Drive :=
  let (rand, d) := d.draw
  let d := (d.setSess sid { state := 0x41, tenant := tenant, tolerance := p.tolerance, idle := p.idle, maxFrame := p.maxFrame, paths := p.paths,
                            greatestRid := rid, openedAt := d.now, verifiedAt := d.now }).setSslot sid
            { state := 0x31, key := sessionKey b.key sid 0 rand, saltH2d := b.saltH2d, saltD2h := b.saltD2h }
  let d := (d.event 0x600 Sev.info [sid, tenant, p.paths]).repostRelocations sid tenant
  (beBytes 16 (rand % 2 ^ 128) ++ paramBytes p, d)

/-! ## OPEN, SESSION_OPEN, SESSION_CLOSE, SESSION_REKEY -/

def Drive.countType (d : Drive) : Drive := { d with xp.typeDrops := (d.xp.typeDrops + 1) % 2 ^ 64 }
def Drive.countAuth (d : Drive) : Drive := { d with xp.authFailDrops := (d.xp.authFailDrops + 1) % 2 ^ 64 }

/-- Check 1 of Table 8.8: version, type, header length, size (R421). -/
def frameForm (maxFrame : Nat) (f : Frame) : Bool :=
  f.version == 1 && decide (f.size ≤ 9088) && decide (f.size ≤ maxFrame) &&
  (match f.ftype with
    | 1 => f.headerLen == (if f.first then 96 else 40)
    | 2 => f.headerLen == 32
    | 3 => f.headerLen == 96
    | _ => false)

/-- An OPEN frame (R429 to R431, R448 checks 1 and 2). -/
def openFrame (f : Frame) (b : Blob) (p : SessionParams) (d : Drive) : Drive :=
  if !(frameForm 9088 f && f.ftype == 3) then d.countType
  else if 65535 < f.sid then d.countType
  else if f.assigned ≠ f.sid then { d with xp.sessionMismatchDrops := (d.xp.sessionMismatchDrops + 1) % 2 ^ 64 }
  else if !(blobForm b [4]) || (d.blobOpen b).isSome then (d.unwrapEvent ((d.blobOpen b).getD 0)).countAuth
  else if f.sealedUnder ≠ openKey b.key f.sid then d.countAuth
  else
    let s := d.sess f.sid
    -- R497 gives an OPEN_REPLY no marking of its own: that of control frames (log entry 95)
    let mark := (d.prt f.path).marking none
    let ip := gkpIp f.source.v6 (some mark.1)
    -- an OPEN whose CMAC verified, and its reply, are frames of the tenant (Table 11.6)
    let sent := fun (n : Nat) (d : Drive) => if (d.prt f.path).link = 4 then d.meterOut f.op.tenant n else d
    let answer := fun (st off : Nat) (d : Drive) => (sent 112 d).portTx f.path (gkpLength f.source 96 0) 0 (f.source.vid != 0) false
      (.openReply f.path f.source ip mark.2 f.sid { echo f.op with status := st, offset := off } [])
    if b.tenant ≠ f.op.tenant then answer St.notPermitted 0 d
    else
    let d := d.meterIn f.op.tenant f.size
    match blobPlain b && f.op.offset % 2 ^ 32 == f.sid && f.op.valueLen == 112, grantParams d.xp.idleDefault p with
      | true, some g =>
        if s.state ≠ 0x40 ∧ f.op.rid ≤ s.greatestRid then
          answer St.stateConflict (conflictOffset s.state 0x09) (d.event 0x603 Sev.warning [])
        else
          let d := if s.state = 0x40 then d else
            ((d.notice f.sid { kind := 5, offset := 3 * 2 ^ 32 }).endSession f.sid 3)
          let (body, d) := d.openSession f.sid f.op.tenant f.op.rid b g
          (sent 152 d).portTx f.path (gkpLength f.source 96 40) 0 (f.source.vid != 0) false
            (.openReply f.path f.source ip mark.2 f.sid { echo f.op with valueLen := 40 } body)
      | _, _ => answer St.malformed 0 d

/-- SESSION_OPEN on session 0, or by OP with the same effect (R432, R807). -/
def sessionOpenRequest (o : Origin) (b : Blob) (p : SessionParams) (d : Drive) : Drive :=
  d.withReq o [0x40] fun r d =>
    let sid := r.hdr.offset % 2 ^ 32
    if r.operator = false then d.refuse r St.notPermitted
    else if sid = 0 ∨ 65535 < sid ∨ r.hdr.valueLen ≠ 112 ∨ (grantParams d.xp.idleDefault p).isNone ∨ blobForm b [4] = false then
      d.refuse r St.malformed
    else match d.blobOpen b with
      | some st => (d.unwrapEvent st).refuse r st
      | none =>
        if b.tenant ≠ r.hdr.tenant then d.refuse r St.notPermitted
        else if !blobPlain b then d.refuse r St.malformed
        else if (d.sess sid).state ≠ 0x40 then d.conflict r (d.sess sid).state 0x09
        else match grantParams d.xp.idleDefault p with
          | none => d.refuse r St.malformed
          | some g =>
            let (body, d) := d.openSession sid r.hdr.tenant 0 b g
            d.reply o { echo r.hdr with valueLen := 40, offset := sid } body

/-- SESSION_CLOSE (R435, R438): the named session enters DRAINING. -/
def sessionCloseRequest (o : Origin) (d : Drive) : Drive :=
  d.withReq o [0x41] fun r d =>
    let sid := r.hdr.offset % 2 ^ 32
    let onIt := r.origin.ofSession sid
    if !(r.operator || onIt) then d.refuse r St.notPermitted
    else
      let s := d.sess sid
      if s.state = 0x40 then d.conflict r 0x40 0x09
      else
        let d := if s.state = 0x43 then d else
          let d := if onIt then d else d.notice sid { kind := 5, offset := 2 * 2 ^ 32 }
          d.modSess sid (fun s => { s with state := 0x43, drainingAt := d.now, endCause := 1 })
        if onIt then
          ((d.modSess sid (fun s => { s with closeOwn := some o })).putReq { r with phase := .job }).lastReply sid false
        else (d.modSess sid (fun s => { s with closeWaits := s.closeWaits ++ [o] })).putReq { r with phase := .job }

/-- SESSION_REKEY (R400, R401, R443): the new blob goes to the idle phase, the slot becomes REKEYING, the phase rises by 1. -/
def sessionRekeyRequest (o : Origin) (b : Blob) (d : Drive) : Drive :=
  d.withReq o [0x42] fun r d =>
    let sid := r.hdr.offset % 2 ^ 32
    let s := d.sess sid
    let slot := d.sslot sid
    let onZero := r.operator
    if !(onZero || (r.origin.ofSession sid && slot.state != 0x33)) then d.refuse r St.notPermitted
    else if !blobForm b [4] then d.refuse r St.malformed
    else match d.blobOpen b with
      | some st => (d.unwrapEvent st).refuse r st
      | none =>
        if b.tenant ≠ r.hdr.tenant ∨ b.tenant ≠ s.tenant then d.refuse r St.notPermitted
        else if !blobPlain b then d.refuse r St.malformed
        else if slot.state = 0x30 ∨ slot.state = 0x32 then d.conflict r slot.state 0x12
        else
          let (rand, d) := d.draw
          let phase := slot.phase + 1
          -- the reply is sealed under the old phase (R401 step 1)
          let d := d.reply o { echo r.hdr with valueLen := 16, condVersion := phase % 256, offset := r.hdr.offset } (beBytes 16 (rand % 2 ^ 128))
          d.setSslot sid { d.sslot sid with
            state := 0x32, oldKey := slot.key, oldSaltH2d := slot.saltH2d, oldSaltD2h := slot.saltD2h,
            key := sessionKey b.key sid phase rand, saltH2d := b.saltH2d, saltD2h := b.saltD2h, phase := phase,
            framesIn := 0, framesOut := 0, rekeyNoticed := false, rekeyAt := d.now, newVerified := false }

/-! ## Paths -/

/-- A verified frame arrived on a path that PATHS permits: the path is up and addressed to the frame's source (R464, R467). -/
def Drive.pathVerified (sid p : Nat) (source : Peer) (d : Drive) : Drive :=
  let s := d.sess sid
  if !bit p s.paths then d
  else
    let x := s.path p
    let d := if x.up = false ∧ x.lastVerified ≠ 0 then d.event 0x605 Sev.notice [] else d
    d.setSess sid ((d.sess sid).setPath p { (d.sess sid).path p with
      up := true, source := source, lastVerified := d.now, timeouts := if x.up then x.timeouts else 0,
      lastSent := if x.up then x.lastSent else d.now })

/-- Bits of the paths that are up: [0] A, [1] B. -/
def Session.pathsUp (s : Session) : Nat := b2n s.pathA.up + 2 * b2n s.pathB.up

/-- A path goes down (R467): its unacknowledged frames are sent again on the other path, PATH_CHANGE is posted, PATH_DOWN recorded. -/
def Drive.pathDown (sid p : Nat) (d : Drive) : Drive :=
  let s := d.sess sid
  if s.state = 0x40 ∨ (s.path p).up = false then d
  else
    let s := s.setPath p { s.path p with up := false }
    let s := { s with unacked := s.unacked.map (fun f => if f.sent && f.path == p then { f with sent := false, once := false, path := 1 - p } else f) }
    let d := { d.setSess sid s with xp.pathDowns := (d.xp.pathDowns + 1) % 2 ^ 64 }
    let d := (d.event 0x604 Sev.warning []).notice sid { kind := 6, offset := s.pathsUp * 2 ^ 32 }
    d.pump sid

/-! ## Arriving messages -/

/-- Work kind of a request (Table 0.4). -/
def kindOf (opcode : Nat) : Nat :=
  match opcode with
  | 0x01 => 0x01 | 0x02 => 0x02 | 0x03 => 0x03 | 0x04 => 0x04 | 0x05 => 0x05 | 0x08 => 0x08
  | 0x10 => 0x10 | 0x11 => 0x11 | 0x20 => 0x14 | 0x21 => 0x15 | _ => 0x28

/-- The work tag the transport engine mints (R9, R11, R37, R40, R216). -/
def Drive.mintTag (d : Drive) (sid : Nat) (h : OpHdr) (arrivalNs : Nat) : WorkTag :=
  let s := d.sess sid
  let tol := if ltOverride h.flags then h.tolerance else s.tolerance
  { tenant := s.tenant, ns := h.ns, session := sid, keySlot := sid, deadline := tagDeadline (arrivalNs / 1000) h.deadline,
    durability := if isWrite h.opcode || h.opcode == 0x10 || h.opcode == 0x11 then (if h.durability = 0 then 1 else h.durability - 1) % 4 else 3,
    qos := h.qos, kind := kindOf h.opcode, last := true, waitable := d.waitable tol }

/-- Opcodes the drive knows (order 1 of Table 1.6). -/
def knownOps : List Nat :=
  [0x01, 0x02, 0x03, 0x04, 0x05, 0x08, 0x10, 0x11, 0x20, 0x21, 0x22, 0x30, 0x31, 0x32, 0x33, 0x34, 0x40, 0x41, 0x42, 0x43, 0x50, 0x51, 0x52,
   0x60, 0x61, 0x62, 0x63, 0x68, 0x69, 0x6A, 0x6B, 0x70, 0x71, 0x78, 0x79, 0x80, 0x81, 0x88, 0x89]

/-- Requests of a tenant that wait in Shears. -/
def Drive.waitingOf (d : Drive) (t : Nat) : List Req := d.kv.reqs.filter (fun r => r.phase = .queued ∧ r.tag.tenant = t)

/-- The retry hint of R475 in µs: the time, at the limit rates, until the limit buckets could admit every waiting request and this one: each
request that waits is charged before this one is admitted. `ops`, `bytes`: the requests that wait and their payload. -/
def retryHint (sh : Shaper) (ops bytes : Nat) : Nat :=
  let a := if sh.limOps = 0 then 0 else ceilDiv ((ops * 1000000000 : Int) - sh.bLimOps).toNat (sh.limOps * 1000)
  let b := if sh.limKbps = 0 then 0 else ceilDiv ((bytes * 1000000000 : Int) - sh.bLimBytes).toNat (sh.limKbps * 1000000)
  min (max a b) (2 ^ 32 - 1)

/-- Answers THROTTLED (R75, R475), counting it; SHEARS_THROTTLE_START after 1 s without one to the tenant (Table 8.14). -/
def Drive.throttle (r : Req) (reason hint : Nat) (d : Drive) : Drive :=
  let t := r.tag.tenant
  let sh := tgetD t {} d.xp.shapers
  let start := match sh.lastThrottled with | none => true | some x => decide (x + 1000000000 ≤ d.now)
  let d := if start then d.event 0x608 Sev.notice [] else d
  let d := { d with
    xp.throttledReplies := (d.xp.throttledReplies + 1) % 2 ^ 64
    xp.shapers := tput t { sh with throttled := sh.throttled + b2n (reason == 1), lastThrottled := some d.now } d.xp.shapers }
  (d.modAcc t (fun a => { a with throttledNow := true })).refuseAny r St.throttled (reason * 2 ^ 56 + hint)

/-- Operations of the operator alone (Table 12.3), which is checked before their fields (R149, R371, R825). -/
def operatorOps : List Nat :=
  [0x30, 0x31, 0x32, 0x33, 0x34, 0x40, 0x50, 0x51, 0x52, 0x60, 0x61, 0x62, 0x68, 0x69, 0x6A, 0x6B, 0x70, 0x71, 0x78, 0x79, 0x80, 0x81, 0x88, 0x89]

/-- The fields of a management request's header that no operation accepts: a class or a tenant id that does not exist, a selector of
TENANT_KEY_ERASE (Table 7.8) or of NS_MODIFY (R148) that selects nothing. The role is checked before them (R825). -/
def mgmtFields (r : Req) : Option Nat :=
  let op := r.hdr.opcode
  let sel := r.hdr.flags % 8
  if 7 < r.hdr.qos ∨ 4096 ≤ r.hdr.tenant ∨ (op = 0x6B ∧ (sel = 0 ∨ 6 ≤ sel)) ∨ (op = 0x62 ∧ sel = 0) then
    some (if operatorOps.contains op && r.tag.tenant != 0 then St.notPermitted else St.malformed)
  else none

/-- A new request has passed deduplication: orders 1 to 4 of its checks, Shears' queue cap and the meter store (orders 1 to 5), then it
waits in Shears (R41, R75, R76, R475). A batch takes a transaction id (R117), and its members pass order 5 before Shears (Table 2.5). -/
def Drive.enterRequest (r : Req) (d : Drive) : Drive :=
  let op := r.hdr.opcode
  let batch := op == 0x10 || op == 0x11
  let (txn, d) := if batch then d.nextTxn else (0, d)
  let r := if batch then { r with replyHdr := { txn := txn } } else r
  let d := d.addReq r
  let pre : Option Nat :=
    if !knownOps.contains op then some St.unsupported
    else if dataOps.contains op then d.checks14 r
    else if op = 0x10 ∨ op = 0x11 then d.batchChecks r (op == 0x10)
    else mgmtFields r
  match pre with
  | some st => if batch then d.batchRefuse r st else d.refuse r st
  | none =>
    let t := r.tag.tenant
    let ms := parseMembers r.body
    match (if op = 0x10 then batchOrder d r t ms 1 5 else none) with
    | some sts => d.batchFail r (failedResults d t ms sts)
    | none =>
    let sh := d.shaper t
    let waiting := (d.waitingOf t).filter (fun q => q.origin ≠ r.origin)
    if sh.queueCap ≤ waiting.length then
      d.throttle r 1 (retryHint sh waiting.length ((waiting.map (fun q => q.body.length)).sum))
    else if decide (2 ≤ d.meter.state) && (isWrite op || op == 0x10 || op == 0x11) && t != 0 then d.throttle r 2 1000000
    else d

/-- The session's window keeps the 4,096 greatest request_ids (R96). -/
def dedupInsert (e : DedupEnt) (l : List DedupEnt) : List DedupEnt :=
  let l := l ++ [e]
  if l.length ≤ 4096 then l
  else
    let least := (l.map (·.rid)).foldl min e.rid
    l.filter (fun x => x.rid ≠ least)

/-- A request message is whole: what deduplication found at its first frame decides (R96 to R101, R436), then its checks. -/
def Drive.acceptRequest (sid : Nat) (a : Assembly) (d : Drive) : Drive :=
  let s := d.sess sid
  let d := if ltOverride a.op.flags then { d with power.overrides := (d.now, a.op.tolerance) :: d.power.overrides } else d
  let o := Origin.session sid a.rid
  let r : Req := { origin := o, hdr := a.op, body := a.payload, tag := a.tag, input := a.path, arrival := a.arrival, firstSeq := a.firstSeq }
  let enter := fun (d : Drive) => (d.setSess sid { d.sess sid with
    ring := (d.sess sid).ring.map (fun x => if x.rid = a.rid then { x with state := 2 } else x) }).enterRequest r
  let discard := fun (d : Drive) =>
    { d.modSess sid (fun s => { s with ring := removeFirst (fun x => x.rid == a.rid && x.state == 1) s.ring }) with
      xp.dedupDiscards := (d.xp.dedupDiscards + 1) % 2 ^ 64 }
  let refuse := fun (st off : Nat) (d : Drive) =>
    let d := d.addReq r
    if a.op.opcode = 0x10 ∨ a.op.opcode = 0x11 then d.batchRefuse r st else d.refuse r st (offset := off)
  match a.verdict, s.dedup.find? (fun e => e.rid = a.rid) with
  | 0, _ => enter d
  | 3, _ => refuse St.stateConflict (conflictOffset 0x43 0x09) d
  | 2, _ | _, none => refuse St.malformed 0 d
  | v, some e =>
    if e.done then ((d.emit (.reply o e.hdr e.body)).replyFrames sid a.rid true true e.hdr e.body)
    else if (d.req? o).isSome || s.assemblies.any (fun x => x.rid == a.rid) then discard d
    else if v = 4 ∧ e.forgot then refuse St.stateConflict (conflictOffset 0x43 0x09) d
    else enter d

/-- The first frame of a request takes its id into the session's window (R85, R96): 0 a new id, 1 one that is in the window, 2 one that
is smaller than all in it (R101), 3 a new one while DRAINING, 4 one in the window while DRAINING: new where its outcome is not remembered
(R436). -/
def Session.verdict (s : Session) (rid : Nat) : Nat :=
  if s.dedup.any (fun e => e.rid == rid) then (if s.state = 0x43 then 4 else 1)
  else if s.dedup ≠ [] ∧ rid < (s.dedup.map (·.rid)).foldl min (2 ^ 64) then 2
  else if s.state = 0x43 then 3
  else 0

def Session.takeId (rid : Nat) (s : Session) : Session :=
  if s.verdict rid = 0 then { s with dedup := dedupInsert { rid := rid } s.dedup, greatestRid := max s.greatestRid rid } else s

/-- One in-order DATA frame reaches message assembly (R423 to R425, R449, R470). -/
def Drive.deliver (sid : Nat) (f : Frame) (d : Drive) : Drive :=
  let s := d.sess sid
  if f.first then
    let a : Assembly := { rid := f.op.rid, op := f.op, payload := f.payload, path := f.path, arrival := f.rxAt, tag := d.mintTag sid f.op f.rxAt,
                          firstSeq := f.seq, verdict := s.verdict f.op.rid }
    let (buffer, d) := d.fresh
    let x : Descriptor := {
      rid := f.op.rid, state := 1, opcode := f.op.opcode, path := f.path, firstSeq := f.seq % 2 ^ 32
      bytes := f.payload.length, tag := a.tag, buffer := buffer % 2 ^ 32 }
    let s := { s.takeId f.op.rid with ring := s.ring ++ [x] }
    if f.last then (d.setSess sid s).acceptRequest sid a
    else d.setSess sid { s with assemblies := s.assemblies ++ [a] }
  else match s.assemblies.find? (fun a => a.rid = f.rid) with
    | none => { d with xp.orphanFrames := (d.xp.orphanFrames + 1) % 2 ^ 64 }
    | some a =>
      let a := { a with payload := a.payload ++ f.payload }
      let grow := fun (x : Descriptor) => if x.rid = f.rid ∧ x.state = 1 then { x with bytes := x.bytes + f.payload.length } else x
      let s := { s with ring := s.ring.map grow }
      if f.last then (d.setSess sid { s with assemblies := removeFirst (fun x => x.rid == f.rid) s.assemblies }).acceptRequest sid a
      else d.setSess sid { s with assemblies := s.assemblies.map (fun x => if x.rid = f.rid then a else x) }

/-- Delivers the frame at the drive's acknowledge and every held frame that follows it (R449). -/
def deliverRun (sid : Nat) : Nat → Frame → Drive → Drive
  | 0, _, d => d
  | n + 1, f, d =>
    let d := (d.modSess sid (fun s => { s with rxNext := f.seq + 1, held := s.held.filter (fun g => g.seq ≠ f.seq) })).deliver sid f
    match (d.sess sid).held.find? (fun g => g.seq = f.seq + 1) with
    | some g => deliverRun sid n g d
    | none => d

/-! ## Acknowledgements from the host -/

/-- The computed retransmission timeout in ns: 1 ms before the first sample (R455). -/
def Path.computedRto (x : Path) : Nat := if x.sampled then max 50000 (x.srtt + 4 * x.rttvar + 25000) else 1000000

/-- A round-trip sample in ns (R454, RFC 6298): SRTT and RTTVAR, the timeout, the least sample of the round and those of the last 10 s.
Fractions of a ns are dropped (log entry 84). -/
def Path.sample (x : Path) (ns now : Nat) : Path :=
  let srtt := if x.sampled then (7 * x.srtt + ns) / 8 else ns
  let rttvar := if x.sampled then (3 * x.rttvar + (max x.srtt ns - min x.srtt ns)) / 4 else ns / 2
  let x := { x with srtt, rttvar, sampled := true, timeouts := 0 }
  { x with
    rto := x.computedRto
    rtts := x.rtts.filter (fun p => decide (now ≤ p.1 + 10000000000) && decide (p.2 < ns)) ++ [(now, ns)]
    roundRtt := if x.roundRtt = 0 ∨ ns < x.roundRtt then ns else x.roundRtt
    roundStart := if x.roundStart = 0 then now else x.roundStart }

/-- The least sample of the last 10 s (R462). -/
def Path.baseRtt (x : Path) (now : Nat) : Nat :=
  match x.rtts.filter (fun p => decide (now ≤ p.1 + 10000000000)) with
  | p :: _ => p.2
  | [] => x.roundRtt

/-- Once per round trip on the path the congestion window is adjusted (R462); alpha and f in units of 2^-20, `target` in ns. -/
def Path.round (x : Path) (target now : Nat) : Path :=
  if x.sampled = false ∨ now < x.roundStart + x.srtt then x
  else
    let f := if x.roundSent = 0 then 0 else min (2 ^ 20) (x.roundCe * 2 ^ 20 / x.roundSent)
    let alpha := if x.alpha ≤ f then x.alpha + (f - x.alpha) / 16 else x.alpha - (x.alpha - f) / 16
    let excess := x.roundRtt - x.baseRtt now - target
    let cwnd :=
      if f > 0 then x.cwnd - x.cwnd * alpha / 2 ^ 21
      else if excess > 0 then max (x.cwnd / 2) (x.cwnd - x.cwnd * excess / (2 * x.roundRtt))
      else x.cwnd + 9088
    { x with alpha := alpha, cwnd := min 1048576 (max 9088 cwnd), roundStart := now, roundSent := 0, roundCe := 0, roundRtt := 0 }

/-- The ranges of an ACK payload obey R453: above acknowledge, ascending, disjoint, not adjacent. -/
def rangesOk : Nat → List (Nat × Nat) → Bool
  | _, [] => true
  | lo, (a, b) :: r => decide (lo < a) && decide (a ≤ b) && rangesOk (b + 1) r

/-- Frames reported received by the ranges above a sequence. -/
def reportedAbove (seq : Nat) (rs : List (Nat × Nat)) : Nat :=
  (rs.map (fun r => if seq < r.1 then r.2 + 1 - r.1 else r.2 - seq)).sum

/-- acknowledge, window, ce_count and ranges of a verified frame (R447, R453, R454, R456, R462): acknowledged frames leave, descriptors
whose reply is acknowledged in full are freed, lost frames are sent again. -/
def Drive.takeAck (f : Frame) (d : Drive) : Drive :=
  let sid := f.sid
  let s := d.sess sid
  let ack := max s.peerAck f.ack
  let gone := s.unacked.filter (fun t => t.sent && decide (t.seq < ack))
  -- a stored copy brings old values (R447, R397): its window is not taken, and a count never falls
  let stale := decide (f.ack < s.peerAck)
  let rise := (f.ceCount + 2 ^ 24 - s.peerCe) % 2 ^ 24
  let ceRise := if stale ∨ 2 ^ 23 ≤ rise then 0 else rise
  let upd := fun (p : Nat) (x : Path) =>
    let x := { x with roundCe := x.roundCe + ceRise }
    let x := match (gone.filter (fun t => t.once && t.path == p)).getLast? with
      | some t => x.sample (d.now - t.sentAt - 1000 * f.ackDelay) d.now
      | none => if gone.any (fun t => t.path == p) then { x with timeouts := 0, rto := x.computedRto } else x
    x.round (1000 * d.xp.ccDelayTarget) d.now
  let s := { s with
    peerAck := ack
    peerWindow := if stale then s.peerWindow else min f.window 1048576
    peerCe := (s.peerCe + ceRise) % 2 ^ 24
    unacked := s.unacked.filter (fun t => !(t.sent && decide (t.seq < ack)))
    pathA := upd 0 s.pathA, pathB := upd 1 s.pathB
    ring := s.ring.filter (fun x => !(x.state == 5 && decide (x.replyLast < ack))) }
  let d := d.setSess sid s
  let rs := if f.ftype = 2 ∧ f.ranges.length ≤ 16 ∧ rangesOk f.ack f.ranges = true then f.ranges else []
  let lost := s.unacked.filter (fun t => t.sent && decide (3 ≤ reportedAbove t.seq rs) && !(rs.any (fun r => decide (r.1 ≤ t.seq) && decide (t.seq ≤ r.2))) &&
    decide (t.sentAt + (s.path t.path).srtt ≤ d.now))
  let cut := fun (p : Nat) (x : Path) =>
    if lost.any (fun t => t.path == p) ∧ x.cutAt + x.srtt ≤ d.now then { x with cwnd := max 9088 (x.cwnd / 2), cutAt := d.now } else x
  let s := { s with
    pathA := cut 0 s.pathA, pathB := cut 1 s.pathB
    unacked := s.unacked.map (fun t => if lost.any (fun l => l.seq == t.seq) then { t with sent := false, once := false } else t) }
  let d := d.setSess sid s
  let d := (if s.ring.isEmpty then d.wasBusy else d).pump sid
  sendNotices sid (s.notices.length + s.pendingNotices.length + 1) d

/-! ## DATA and ACK frames -/

/-- The key a frame must have been sealed under: the phase its flag names (R401, R420). -/
def SessionSlot.opens (k : SessionSlot) (f : Frame) : Bool :=
  if f.keyPhase = k.phase % 2 then f.sealedUnder == k.key else k.state == 0x32 && f.sealedUnder == k.oldKey

/-- A DATA or ACK frame passes checks 1 to 6 of Table 8.8, or is discarded and counted. `k` runs on a verified frame. -/
def Drive.arriving (f : Frame) (ftype : Nat) (k : Drive → Drive) (d : Drive) : Drive :=
  let s := d.sess f.sid
  let slot := d.sslot f.sid
  if !(f.ftype == ftype && frameForm (if s.state = 0x40 then 9088 else s.maxFrame) f) || decide (65535 < f.sid) then d.countType
  else if f.assigned ≠ f.sid then { d with xp.sessionMismatchDrops := (d.xp.sessionMismatchDrops + 1) % 2 ^ 64 }
  else if s.state = 0x40 then { d with xp.closedDrops := (d.xp.closedDrops + 1) % 2 ^ 64 }
  else if slot.state = 0x33 then { d with keys.wireLimitDrops := d.keys.wireLimitDrops + 1 }
  else if !slot.opens f then d.countAuth
  else
    let d := d.setSslot f.sid { slot with
      framesIn := slot.framesIn + 1, newVerified := slot.newVerified || (slot.state == 0x32 && f.keyPhase == slot.phase % 2) }
    let d := (d.meterIn s.tenant f.size).modSess f.sid (fun s => { s with
      verifiedAt := d.now, state := if s.state = 0x41 then 0x42 else s.state, dataAt := if ftype = 1 then some d.now else s.dataAt })
    k ((d.pathVerified f.sid f.path f.source).takeAck f)

/-- DATA_FRAME (R448): checks 7 to 9, then in-order delivery and acknowledgement (R449, R450). -/
def dataFrame (f : Frame) (d : Drive) : Drive :=
  d.awaken.arriving f 1 (fun d =>
    let s := d.sess f.sid
    if s.state = 0x40 then d
    else if f.seq < s.rxNext then { d.sendAck f.sid f.path with xp.dupFrames := (d.xp.dupFrames + 1) % 2 ^ 64 }
    else if s.held.any (fun g => g.seq = f.seq) then { d with xp.dupFrames := (d.xp.dupFrames + 1) % 2 ^ 64 }
    else if s.rxNext + 1024 ≤ f.seq then { d with xp.reorderDrops := (d.xp.reorderDrops + 1) % 2 ^ 64 }
    else if f.first ∧ 1024 ≤ s.ring.length + (s.held.filter (·.first)).length then { d with xp.ringFullDrops := (d.xp.ringFullDrops + 1) % 2 ^ 64 }
    else
      let gap := s.rxNext < f.seq
      let d := d.setSess f.sid { s with
        ceCount := (s.ceCount + b2n f.ce) % 2 ^ 24, sinceAck := s.sinceAck + 1, lastRxAt := d.now, reopenUntil := 0
        ackDue := match s.ackDue with | some t => some t | none => some (d.now + 8000)
        held := if gap then f :: s.held else s.held }
      let d := if gap then d else deliverRun f.sid (s.held.length + 1) f d
      let s := d.sess f.sid
      -- a zero window is remembered so that its reopening is announced (R460)
      let d := d.modSess f.sid (fun s => { s with windowZero := s.window == 0 })
      if f.ackNow || gap || decide (4 ≤ s.sinceAck) then d.sendAck f.sid f.path else d)

/-- A window advertised as 0 reopens: an ACK at once, repeated for 1 ms (R460). -/
def Drive.reopenWindow (sid : Nat) (d : Drive) : Drive :=
  let s := d.sess sid
  if s.windowZero = true ∧ s.window ≠ 0 then
    (d.setSess sid { s with windowZero := false, reopenNext := d.now + 100000, reopenUntil := d.now + 1000000 }).sendAck sid (if s.pathA.up then 0 else 1)
  else d

/-- ACK_FRAME (R453). -/
def ackFrame (f : Frame) (d : Drive) : Drive := d.arriving f 2 (fun d => d.reopenWindow f.sid)

/-- A session's timers act only on a session that is not CLOSED. -/
def Drive.onSession (sid : Nat) (states : List Nat) (f : Session → Drive → Drive) (d : Drive) : Drive :=
  let s := d.sess sid
  if states.contains s.state then f s d else d

/-- 8 µs after a DATA frame arrived without its acknowledgement being sent (R450). -/
def ackDelayExpiry (sid : Nat) (d : Drive) : Drive :=
  d.onSession sid [0x41, 0x42, 0x43] fun s d =>
    match s.ackDue with
    | some t => (d.advanceTo t).sendAck sid (if s.pathA.up then 0 else 1)
    | none => d

/-- The retransmission timeout of a path expires (R455, R462, R467): the oldest unacknowledged frame is sent again, the timeout doubles
up to 200 ms, cwnd falls to 9,088; at the eighth in succession the path goes down. -/
def retransmissionTimeout (sid p : Nat) (d : Drive) : Drive :=
  d.onSession sid [0x41, 0x42, 0x43] fun s d =>
    match s.unacked.find? (fun t => t.sent && t.path == p) with
    | none => d
    | some t =>
      let x := s.path p
      let d := d.advanceTo (t.sentAt + x.rto)
      let rto := min 200000000 (2 * x.rto)
      let x' := { x with rto := rto, cwnd := 9088, timeouts := x.timeouts + 1 }
      let s := (s.setPath p x')
      let s := { s with unacked := s.unacked.map (fun u => if u.seq = t.seq then { u with sent := false, once := false } else u) }
      let d := { d.setSess sid s with xp.rtoExpiries := (d.xp.rtoExpiries + 1) % 2 ^ 64 }
      let d := if rto = 200000000 ∧ x.rto < 200000000 then d.event 0x606 Sev.warning [] else d
      let d := d.pump sid
      if x'.timeouts = 8 then d.pathDown sid p else d

/-- 1 s of silence from the drive on a path that is up: an ACK (R439). -/
def keepAlive (sid p : Nat) (d : Drive) : Drive :=
  d.onSession sid [0x41, 0x42, 0x43] fun s d =>
    if (s.path p).up then (d.advanceTo ((s.path p).lastSent + 1000000000)).sendAck sid p else d

/-- idle_timeout seconds without a verified frame (R440). -/
def idleTimeout (sid : Nat) (d : Drive) : Drive :=
  d.onSession sid [0x42] fun s d =>
    let d := d.advanceTo (s.verifiedAt + s.idle * 1000000000)
    let d := d.notice sid { kind := 5, offset := 1 * 2 ^ 32 }
    (d.modSess sid (fun s => { s with state := 0x43, drainingAt := d.now, endCause := 2 })).event 0x602 Sev.notice []

/-- 10 s in OPENING without a verified frame (R434, Table 8.6). -/
def openingTimeout (sid : Nat) (d : Drive) : Drive :=
  d.onSession sid [0x41] fun s d => (d.advanceTo (s.openedAt + 10000000000)).endSession sid 5

/-- Every request of a DRAINING session has completed and every frame is acknowledged (R437). -/
def drainComplete (sid : Nat) (d : Drive) : Drive :=
  d.onSession sid [0x43] fun s d =>
    if d.kv.reqs.any (fun r => r.origin.ofSession sid) ∨ s.unacked ≠ [] ∨ s.ring ≠ [] then d else d.endSession sid s.endCause

/-- 1 s of DRAINING (R437). -/
def drainingTimeout (sid : Nat) (d : Drive) : Drive :=
  d.onSession sid [0x43] fun s d => ((d.advanceTo (s.drainingAt + 1000000000)).lastReply sid true).endSession sid s.endCause

/-- Every 100 µs for up to 1 ms after a zero window reopened, until a DATA frame arrives, an ACK is repeated (R460). -/
def windowReopenAck (sid : Nat) (d : Drive) : Drive :=
  d.onSession sid [0x41, 0x42, 0x43] fun s d =>
    if s.reopenNext ≤ s.reopenUntil ∧ s.reopenUntil ≠ 0 then
      ((d.advanceTo s.reopenNext).modSess sid (fun s => { s with reopenNext := s.reopenNext + 100000 })).sendAck sid (if s.pathA.up then 0 else 1)
    else d

/-- 3 s without a verified frame on a path while one has arrived on the other (R467). -/
def pathSilence (sid p : Nat) (d : Drive) : Drive :=
  d.onSession sid [0x41, 0x42, 0x43] fun s d =>
    if (s.path p).up ∧ (s.path p).lastVerified < (s.path (1 - p)).lastVerified then
      (d.advanceTo ((s.path p).lastVerified + 3000000000)).pathDown sid p
    else d

/-- A direction reaches 2^48 − 2^32 frames: REKEY_REQUIRED on the session and on session 0 (R399). `inbound` names the direction. -/
def rekeyRequired (sid : Nat) (inbound : Bool) (d : Drive) : Drive :=
  let k := d.sslot sid
  let n := if inbound then k.framesIn else k.framesOut
  if (k.state = 0x31 ∨ k.state = 0x32) ∧ 2 ^ 48 - 2 ^ 32 ≤ n ∧ k.rekeyNoticed = false then
    let d := d.setSslot sid { k with rekeyNoticed := true }
    let n : Notice := { kind := 2, status := St.rekeyRequired }
    let d := (d.notice sid n)
    let d := if sid = 0 then d else d.notice 0 { n with offset := sid }
    d.event 0x418 Sev.notice []
  else d

/-- A direction reaches 2^48 frames: the slot is EXHAUSTED (R399, R400). -/
def sessionExhausted (sid : Nat) (inbound : Bool) (d : Drive) : Drive :=
  let k := d.sslot sid
  let n := if inbound then k.framesIn else k.framesOut
  if (k.state = 0x31 ∨ k.state = 0x32) ∧ 2 ^ 48 ≤ n then d.setSslot sid { k with state := 0x33 } else d

/-- The old key phase is zeroised (R401 step 3): a frame of the new phase has verified and the old phase's frames are acknowledged, or
1 s has passed since the rekey reply. -/
def keyPhaseRetire (sid : Nat) (d : Drive) : Drive :=
  let k := d.sslot sid
  if k.state = 0x32 then
    let settled := k.newVerified && !((d.sess sid).unacked.any (fun t => t.sent && t.phase != k.phase))
    let d := if settled then d else d.advanceTo (k.rekeyAt + 1000000000)
    d.setSslot sid { k with state := 0x31, oldKey := .raw 0, oldSaltH2d := 0, oldSaltD2h := 0 }
  else d

def execOpen (f : Frame) (b : Blob) (p : SessionParams) (s : State) : Host.Outcome State Fault Refusal := s.onMain (fun d => if !d.admitting then d else openFrame f b p (d.awaken.takeRing f.path (1 + f.assigned % 32)))
def execSessionOpen (o : Origin) (b : Blob) (p : SessionParams) (s : State) : Host.Outcome State Fault Refusal := s.onMain (sessionOpenRequest o b p)
def execSessionClose (o : Origin) (s : State) : Host.Outcome State Fault Refusal := s.onMain (sessionCloseRequest o)
def execSessionRekey (o : Origin) (b : Blob) (s : State) : Host.Outcome State Fault Refusal := s.onMain (sessionRekeyRequest o b)
def execDataFrame (f : Frame) (s : State) : Host.Outcome State Fault Refusal := s.onMain (fun d =>
  if !d.admitting then d else dataFrame { f with rxAt := d.ringTime f.path (1 + f.assigned % 32) } (d.takeRing f.path (1 + f.assigned % 32)))
def execAckFrame (f : Frame) (s : State) : Host.Outcome State Fault Refusal := s.onMain (fun d => if !d.admitting then d else ackFrame f (d.takeRing f.path (1 + f.assigned % 32)))
def execAckDelayExpiry (sid : Nat) (s : State) : Host.Outcome State Fault Refusal := s.onMain (ackDelayExpiry sid)
def execRetransmissionTimeout (sid path : Nat) (s : State) : Host.Outcome State Fault Refusal := s.onMain (retransmissionTimeout sid path)
def execKeepAlive (sid path : Nat) (s : State) : Host.Outcome State Fault Refusal := s.onMain (keepAlive sid path)
def execIdleTimeout (sid : Nat) (s : State) : Host.Outcome State Fault Refusal := s.onMain (idleTimeout sid)
def execOpeningTimeout (sid : Nat) (s : State) : Host.Outcome State Fault Refusal := s.onMain (openingTimeout sid)
def execDrainComplete (sid : Nat) (s : State) : Host.Outcome State Fault Refusal := s.onMain (drainComplete sid)
def execDrainingTimeout (sid : Nat) (s : State) : Host.Outcome State Fault Refusal := s.onMain (drainingTimeout sid)
def execWindowReopenAck (sid : Nat) (s : State) : Host.Outcome State Fault Refusal := s.onMain (windowReopenAck sid)
def execPathSilence (sid path : Nat) (s : State) : Host.Outcome State Fault Refusal := s.onMain (pathSilence sid path)
def execRekeyRequired (sid : Nat) (inbound : Bool) (s : State) : Host.Outcome State Fault Refusal := s.onMain (rekeyRequired sid inbound)
def execSessionExhausted (sid : Nat) (inbound : Bool) (s : State) : Host.Outcome State Fault Refusal := s.onMain (sessionExhausted sid inbound)
def execKeyPhaseRetire (sid : Nat) (s : State) : Host.Outcome State Fault Refusal := s.onMain (keyPhaseRetire sid)

end Sys2Proof.Machine
end

