-- ==== Sys2Proof/Machine/Keys.lean ====
section
/-! DEFINITION. Machine/Keys.lean: Hawthorn: key loads and erases, slots, the vault (R361 to R387, R875), and pair-wide table changes
(R140, R871). -/

namespace Sys2Proof.Machine
open Sys2Proof

/-! ## Pair-wide changes -/

/-- The drive may change pair-wide tables (R140): unpaired, paired, resyncing, or under a lease. -/
def Drive.canChange (d : Drive) : Bool := d.effTwin == 0 || d.effTwin == 2 || d.effTwin == 4 || d.effTwin == 6

/-- A change can be told: the delta log takes its delta, and the twin link, where there is a twin, the operation (R268, R301). -/
def Drive.canTell (d : Drive) : Bool := d.canDelta && (d.effTwin == 0 || d.twinRoom)

/-- Sends a table change to the twin until it acknowledges it (R300); answers its table sequence. -/
def Drive.sendChange (c : TableChange) (d : Drive) : Nat × Drive :=
  let seq := d.kv.tableSeq
  let d := { d with kv.tableSeq := seq + 1 }
  -- under a lease the tables go to the twin with its resync
  if d.effTwin = 0 ∨ (c.ofTables = true ∧ d.effTwin = 4 ∧ d.twin.resyncSending = false) then (seq, d)
  else
    let (id, d) := d.newOpId
    (seq, d.twinOp { opId := id, msg := { code := 0x30, opId := id, aux := seq, body := .table c } })

/-- A change already applied here waits until both drives hold it (R140): its delta drained, the twin's TABLE_ACK. -/
def Drive.pendChange (r : Req) (c : TableChange) (h : OpHdr) (body : Bytes) (d : Drive) : Drive :=
  let ack := d.effTwin == 2 || d.effTwin == 6 || d.twin.resyncSending
  let (seq, d) := d.sendChange c
  let d := d.delta { kind := 0, ns := r.hdr.ns, version := seq }
  let d := d.putReq { r with phase := .table }
  { d with kv.changes := d.kv.changes ++ [{ seq := seq, change := c, origin := r.origin, hdr := h, body := body, needAck := ack, needDrain := true }] }

/-- Replies to the changes that both drives now hold (R140, R871). -/
def completeChanges : List PendingChange → Drive → Drive
  | [], d => d
  | c :: r, d =>
    if c.needAck ∨ c.needDrain ∨ c.needVault then completeChanges r d
    else
      let d := { d with kv.changes := d.kv.changes.filter (fun x => x.seq ≠ c.seq) }
      completeChanges r (if (d.req? c.origin).isSome then d.reply c.origin c.hdr c.body else d)

def Drive.finishChanges (d : Drive) : Drive := completeChanges d.kv.changes d

/-- A pair-wide key load has entered the vault's two copies (R363). -/
def Drive.vaultDone (o : Origin) (d : Drive) : Drive :=
  ({ d with kv.changes := d.kv.changes.map (fun (c : PendingChange) => if c.origin = o then { c with needVault := false } else c) }).finishChanges

/-! ## The option flash's writes (R703, R705) -/

/-- Puts a write behind those of its rank or above. -/
def queueOptf (x : OptfOp) : List OptfOp → List OptfOp
  | [] => [x]
  | y :: r => if y.prio ≤ x.prio then y :: queueOptf x r else x :: y :: r

/-- A program or erase starts: its bank leaves continuous-read mode (R706). -/
def Drive.optfStart (x : OptfOp) (d : Drive) : Drive :=
  { d with
    optf.busy := some x
    optf.continuous := if x.bank = 0 then (false, d.optf.continuous.2) else (d.optf.continuous.1, false) }

/-- A suspended write goes on before the others of its rank. -/
def suspendOptf (x : OptfOp) : List OptfOp → List OptfOp
  | [] => [x]
  | y :: r => if y.prio < x.prio then y :: suspendOptf x r else x :: y :: r

/-- A write of the option flash: it runs when none does; one of higher priority suspends a running write of the last rank in another
sector; else it waits its turn. -/
def Drive.optfWrite (x : OptfOp) (d : Drive) : Drive :=
  match d.optf.busy with
  | none => d.optfStart x
  | some b =>
    if b.prio = 4 ∧ x.prio < 4 ∧ b.sector ≠ x.sector then { d with optf.queue := suspendOptf b d.optf.queue }.optfStart x
    else { d with optf.queue := queueOptf x d.optf.queue }

/-- A bank is read: it is in continuous-read mode from then on, where the area asks for that mode (R706, Table 14.5). -/
def Drive.bankRead (bank : Nat) (d : Drive) : Drive :=
  let on := bit 0 d.optf.readFlags
  { d with optf.continuous := if bank = 0 then (on, d.optf.continuous.2) else (d.optf.continuous.1, on) }

/-- What leaves when a read has been served. -/
def Drive.emitAll (l : List Out) (d : Drive) : Drive := l.foldl (fun (d : Drive) o => d.emit o) d

/-- A read of `bytes` of a bank, and what leaves when it is served. Under a program or erase of that bank it suspends the operation for
the suspend latency of Table 14.1 and the read at 400 MB/s; after 64 suspensions, or 50 ms of them, it waits for the end (R704). -/
def Drive.optfRead (bank bytes : Nat) (o : List Out) (d : Drive) : Drive :=
  match d.optf.busy with
  | some x =>
    if x.bank ≠ bank then (d.bankRead bank).emitAll o
    else if x.suspends < 64 ∧ x.suspendedNs < 50000000 then
      ({ d with optf.busy := some { x with
          suspends := x.suspends + 1, suspendedNs := x.suspendedNs + (if x.erase then 25000 else 20000) + 5 * bytes / 2 } }.bankRead bank).emitAll o
    else { d with optf.waitingReads := d.optf.waitingReads ++ o.map (fun o => (bank, o)) }
  | none => (d.bankRead bank).emitAll o

/-! ## The vault (R363 to R365) -/

/-- Vault entries are named by kind (Table 7.4) and tenant or slot. -/
def vaultId (kind n : Nat) : Nat := kind * 2 ^ 20 + n

/-- Entries of 88 bytes that a half of 1 MiB holds (R363, Table 14.2). -/
def vaultPlaces : Nat := 2 ^ 20 / 88

/-- A new entry takes the next place of each copy's half. When that half is full the live entries go to the other half, and the full one is
erased, behind every write of higher rank (R702, R705). -/
def Drive.vaultPlace (d : Drive) : Drive :=
  if d.optf.vaultUsed < vaultPlaces then { d with optf.vaultUsed := d.optf.vaultUsed + 1 }
  else
    let full := d.optf.vaultHalf
    let d := { d with optf.vaultHalf := 1 - full, optf.vaultUsed := d.keys.vaultA.length + 1 }
    (([0x3A0, 0x3C0].flatMap (fun s => (List.range 16).map (fun k => s + 16 * full + k))).foldl
      (fun (d : Drive) k => d.optfWrite { prio := 4, bank := 1, sector := k, erase := true }) d)

/-- The sector of copy 1 that the next entry goes to. -/
def Drive.vaultSector (d : Drive) : Nat := 0x3A0 + 16 * d.optf.vaultHalf + 88 * d.optf.vaultUsed / 65536

def Drive.vaultPut (id : Nat) (k : Config.Key) (d : Drive) : Drive :=
  { d.vaultPlace with keys.vaultA := tput id k d.keys.vaultA, keys.vaultB := tput id k d.keys.vaultB }

/-- An entry is erased where it stands: its bytes are programmed to zero (R364). -/
def Drive.vaultDel (id : Nat) (d : Drive) : Drive :=
  { d with keys.vaultA := tdel id d.keys.vaultA, keys.vaultB := tdel id d.keys.vaultB }

/-- A write of both vault copies, ahead of every other option-flash write (R705); the request is answered when it completes (R380). -/
def Drive.vaultThen (r : Req) (h : OpHdr) (d : Drive) : Drive :=
  (d.putReq { r with phase := .job }).optfWrite { prio := 2, bank := 1, sector := d.vaultSector, waiter := some r.origin, hdr := h }

/-- A pair-wide key load waits for the vault beside both drives' tables (R140, R363). -/
def Drive.pendLoad (r : Req) (c : TableChange) (h : OpHdr) (d : Drive) : Drive :=
  let d := d.pendChange r c h []
  let d := { d with kv.changes := d.kv.changes.map (fun (x : PendingChange) => if x.origin = r.origin then { x with needVault := true } else x) }
  d.optfWrite { prio := 2, bank := 1, sector := d.vaultSector, waiter := some r.origin }

/-! ## Records under a key -/

/-- Live records of this drive that carry a tenant's key serial (R378). -/
def Drive.recordsOf (d : Drive) (tenant serial : Nat) : Nat :=
  (d.kv.dir.filter (fun e => match d.recAt e.place with
    | some x => x.tenant == tenant && x.serial == serial
    | none => false)).length +
  (d.kv.live.filter (fun p => match d.recAt (.media p.1 p.2) with
    | some x => x.tenant == tenant && x.serial == serial
    | none => false)).length

/-- Ends every streaming reply that `p` picks with a KEY_REVOKED trailer naming its next chunk (R58, R377, R381, R385). -/
def revokeStreams (p : Stream → Bool) : List Stream → Drive → Drive
  | [], d => d
  | s :: r, d =>
    revokeStreams p r (if p s then
      match d.req? s.origin, s.started with
      | some q, false => d.refuseRead q St.keyRevoked
      | _, _ => d.endRead s St.keyRevoked s.next
    else d)

/-- Fails every sealed write that `p` picks with KEY_REVOKED: its chunks are freed (R46, R381). -/
def revokeWrites (p : Req → Bool) : List Req → Drive → Drive
  | [], d => d
  | r :: rs, d => revokeWrites p rs (if r.phase = .sealed ∧ p r = true then d.refuse r St.keyRevoked else d)

/-- Undecided cross-home batches that `p` picks are aborted: ABORT to the participant, the keys released, KEY_REVOKED (R381, R385,
Table 2.8). -/
def revokeBatches (p : Req → Bool) : List Req → Drive → Drive
  | [], d => d
  | r :: rs, d => revokeBatches p rs (
      if r.phase = .coordinating ∧ p r = true then
        let d := { d with kv.holds := d.kv.holds.filter (fun h => !(h.txn == r.replyHdr.txn && h.coordinator)) }
        ((d.twinDone r.opId).twinSend { code := 0x1C, opId := r.opId, aux := r.replyHdr.txn }).batchWhole r St.keyRevoked
      else d)

/-- Holly stops every operation that uses a slot, and releases no further output from it (R380). -/
def Drive.stopHolly (slot : Nat) (d : Drive) : Drive :=
  { d with
    holly.waiting := d.holly.waiting.filter (fun q => q.tag.keySlot ≠ slot)
    holly.running := d.holly.running.filter (fun p => p.2.tag.keySlot ≠ slot) }

/-- Cache entries of a slot, or of a namespace, are removed (R380, R385). -/
def Drive.dropCache (p : Nat × Nat × Nat → Bool) (d : Drive) : Drive :=
  { d with keys.cache := d.keys.cache.filter (fun x => !p x) }

/-! ## Erase (R380, R381, R875, Tables 7.8) -/

/-- Zeroises a storage slot: both buffers and the cache; work under it fails with KEY_REVOKED. Counts 1. -/
def Drive.eraseStorage (i : Nat) (d : Drive) : Drive :=
  let s := d.stslot i
  let t := i / 2
  let d := (d.setStslot i { nonce := s.nonce, reserved := s.reserved, otherHigh := s.otherHigh }).vaultDel (vaultId 3 i)
  let d := (d.dropCache (fun x => x.1 == 65536 + i)).stopHolly (65536 + i)
  let d := revokeStreams (fun x => x.rec_.tenant == t && x.rec_.serial == s.serial) d.kv.streams d
  let d := revokeWrites (fun r => d.originTenant r == t && r.serial == s.serial) d.kv.reqs d
  let d := revokeBatches (fun r => d.originTenant r == t && r.seals.any (fun x => x.1 == s.serial)) d.kv.reqs d
  d.event 0x411 Sev.notice [3, t, 65536 + i]

/-- Erases the slot of a tenant in the first of the states that one is in. -/
def Drive.eraseIn (t : Nat) (states : List Nat) (d : Drive) : Nat × Drive :=
  match states.findSome? (fun st => d.slotIn t st) with
  | some i => (1, d.eraseStorage i)
  | none => (0, d)

def Drive.eraseWrap (t : Nat) (d : Drive) : Nat × Drive :=
  match tget? t d.keys.wraps with
  | some _ => (1, (({ d with keys.wraps := tdel t d.keys.wraps }).vaultDel (vaultId 2 t)).event 0x411 Sev.notice [2, t, 0])
  | none => (0, d)

/-- Both storage slots of a tenant. -/
def Drive.eraseBoth (t : Nat) (d : Drive) : Nat × Drive :=
  let one := fun (i : Nat) (p : Nat × Drive) => if (p.2.stslot i).state = 0x38 then p else (p.1 + 1, p.2.eraseStorage i)
  one (2 * t + 1) (one (2 * t) (0, d))

/-- Every session slot of a tenant (cause 4, R381). -/
def endSessions (cause : Nat) : List Nat → Drive → Drive
  | [], d => d
  | sid :: r, d => endSessions cause r (d.endSession sid cause)

def Drive.sessionsOf (d : Drive) (t : Nat) : List Nat :=
  (d.xp.sessions.filter (fun p => p.2.state ≠ 0x40 ∧ p.2.tenant = t)).map (·.1)

/-- What a selector of TENANT_KEY_ERASE erases: the number of slots and entries, and the drive after it (Table 7.8). -/
def Drive.eraseBy (sel t : Nat) (d : Drive) : Nat × Drive :=
  match sel with
  | 1 => d.eraseWrap t
  | 2 => d.eraseIn t [0x3A, 0x3B]
  | 3 => d.eraseIn t [0x39, 0x3B]
  | 4 =>
    -- the sessions end first: nothing more leaves on a session whose own slot is erased (R59)
    let sids := d.sessionsOf t
    let (a, d) := (endSessions 4 sids d).eraseWrap t
    let (b, d) := d.eraseBoth t
    (a + b + sids.length, d)
  | _ => (0, d)

/-- A pair-wide erase: at once here, and as a TABLE_CHANGE at the twin (R382); the reply follows the vault's zeroisation (R380). -/
def keyErase (sel : Nat) (o : Origin) (d : Drive) : Drive :=
  d.withReq o [0x6B] fun r d =>
    let t := r.hdr.tenant
    if r.hdr.flags % 8 ≠ sel then d
    else if d.originTenant r ≠ 0 then d.refuse r St.notPermitted
    else if !d.tenantExists t then d.refuse r St.notFound
    else
      let (n, d) := d.eraseBy sel t
      let h := { echo r.hdr with offset := n }
      if n = 0 then d.reply o h []
      else ((d.sendChange (.keyErase sel t)).2).vaultThen r h

/-- A system slot, by its number. -/
def Drive.sysSlot (d : Drive) (n : Nat) : SystemSlot := tgetD n {} d.keys.system

def Drive.setSys (n : Nat) (s : SystemSlot) (d : Drive) : Drive := { d with keys.system := tput n s d.keys.system }

/-- The option key (R362, Table 7.9). -/
def optionKey (serial : Nat) : Config.Key := .derived (.raw Config.root) 6 serial

/-- A sender's ring traffic key, from its serial, power-cycle count and ring random (R403, Table 7.9). -/
def ringTraffic (ring : Config.Key) (x : Nat × Nat × Nat) : Config.Key := .derived ring 3 (x.1 * 2 ^ 160 + x.2.1 * 2 ^ 128 + x.2.2)

/-- The slots of keys that the drive itself holds: DIRECTORY, LOCATOR and OPTION (Table 7.5). -/
def Drive.ownSlots (d : Drive) : Drive :=
  ((d.setSys 73728 { state := 0x3D, key := d.kv.directoryKey }).setSys 73729 { state := 0x3D, key := d.kv.locatorKey }).setSys
    73731 { state := 0x3D, key := optionKey d.ident.serial }

/-- RING_TRAFFIC of this drive and of every sender it knows, while RING is loaded (R403, Table 7.5). -/
def Drive.ringSlots (d : Drive) : Drive :=
  let k := d.sysSlot 73732
  ((d.mod.slotId, d.ident.serial, d.time.powerCycles, d.keys.ringRandom) :: d.keys.ringSenders).foldl (fun (d : Drive) x =>
    d.setSys (73760 + x.1) (if k.state = 0x3C then {} else { state := 0x3D, key := ringTraffic k.key x.2 })) d

/-- Erase of METER, RING, EXPORT or IMPORT_RG60 (selector 0b101). A FREE tenant is told before a selector that does not fit it: R875 orders
the two nowhere (DESIGN CHOICE, log entry 77). -/
def keyEraseSystem (o : Origin) (d : Drive) : Drive :=
  d.withReq o [0x6B] fun r d =>
    let n := r.hdr.condVersion % 2 ^ 32
    if r.hdr.flags % 8 ≠ 5 then d
    else if d.originTenant r ≠ 0 then d.refuse r St.notPermitted
    else if !d.tenantExists r.hdr.tenant then d.refuse r St.notFound
    else if r.hdr.tenant ≠ 0 ∨ ([73730, 73732, 73733, 73734].contains n) = false then d.refuse r St.malformed
    else if (d.sysSlot n).state = 0x3C then d.reply o { echo r.hdr with offset := 0 } []
    else
      let d := (((d.setSys n {}).vaultDel (vaultId 5 n)).stopHolly n).event 0x411 Sev.notice [5, 0, n]
      let d := (if n = 73730 then d.meterKeyChanged else d).ringSlots
      d.vaultThen r { echo r.hdr with offset := 1 }

/-! ## Loads (R370 to R372, R375 to R379, R391) -/

/-- The target of a STORAGE load (R378). -/
def Drive.loadTarget (d : Drive) (t : Nat) : Nat :=
  let busy := fun i => (d.stslot i).state == 0x39 || (d.stslot i).state == 0x3B
  if busy (2 * t) then 2 * t + 1
  else if busy (2 * t + 1) then 2 * t
  else if (d.stslot (2 * t)).state = 0x38 then 2 * t
  else if (d.stslot (2 * t + 1)).state = 0x38 then 2 * t + 1
  else 2 * t

/-- Where a slot that becomes CURRENT starts its counter (R391). -/
def Drive.freshNonce (d : Drive) (t : Nat) : Nat :=
  let inRange := fun n => if d.nonceStart ≤ n ∧ n ≤ d.nonceEnd then n else d.nonceStart
  max (inRange (d.stslot (2 * t)).reserved) (inRange (d.stslot (2 * t + 1)).reserved)

/-- The storage key enters slot `i` and becomes CURRENT; a CURRENT or SPENT other slot becomes PREVIOUS (Table 7.7). -/
def Drive.storeKey (t i serial : Nat) (k : Config.Key) (d : Drive) : Drive :=
  let n := d.freshNonce t
  let j := if i = 2 * t then 2 * t + 1 else 2 * t
  let other := d.stslot j
  let high := max (d.stslot (2 * t)).otherHigh (d.stslot (2 * t + 1)).otherHigh
  let d := d.setStslot i { state := 0x39, key := k, serial := serial, nonce := n, reserved := n, otherHigh := high }
  let d := if other.state = 0x39 ∨ other.state = 0x3B then d.setStslot j { other with state := 0x3A } else d
  let d := { d with keys.topSerial := tput t serial d.keys.topSerial
                    kv.nss := d.kv.nss.map (fun (p : Nat × Ns) => if p.2.owner = t then (p.1, { p.2 with unresolved := false }) else p) }
  (d.vaultPut (vaultId 3 i) k).event 0x410 Sev.notice [3, t, 65536 + i, serial]

/-- Work in progress that names a storage slot: replies reading under its serial, and writes sealed under it (R376, R378). -/
def Drive.slotInUse (d : Drive) (t i : Nat) : Bool :=
  let n := (d.stslot i).serial
  (d.stslot i).state != 0x38 &&
  (d.kv.streams.any (fun s => s.rec_.tenant == t && s.rec_.serial == n) ||
   d.kv.reqs.any (fun r => d.originTenant r == t && ((r.phase == .sealed && r.serial == n) || (r.phase == .coordinating && r.seals.any (fun x => x.1 == n)))))

/-- Reply to a load: the new slot's state in [7:0], its number in [31:8] (R372). -/
def loadHdr (h : OpHdr) (state slot : Nat) : OpHdr := { echo h with condVersion := slot * 256 + state }

/-- System slot of a blob kind (Table 7.4). -/
def sysOf (kind : Nat) : Nat :=
  match kind with
  | 5 => 73730 | 6 => 73732 | 7 => 73733 | _ => 73734

/-- A STORAGE load whose target is free: applied here, and on the twin by a table change (R371, R140). -/
def Drive.doStorageLoad (r : Req) (b : Blob) (i : Nat) (d : Drive) : Drive :=
  let d := d.storeKey b.tenant i b.serial b.key
  d.pendLoad r (.storageKey b.tenant b.serial b.key) (loadHdr r.hdr 0x39 (65536 + i))

/-- TENANT_KEY_LOAD. -/
def keyLoad (o : Origin) (b : Blob) (d : Drive) : Drive :=
  d.withReq o [0x6A] fun r d =>
    if d.originTenant r ≠ 0 then d.refuse r St.notPermitted
    else if r.hdr.valueLen ≠ 88 ∨ blobForm b [2, 3, 5, 6, 7, 8] = false then d.refuse r St.malformed
    else match d.blobOpen b with
      | some st => (d.unwrapEvent st).refuse r st
      | none =>
        if b.tenant ≠ r.hdr.tenant then d.refuse r St.notPermitted
        else if !blobPlain b || (decide (5 ≤ b.kind) && b.tenant != 0) then d.refuse r St.malformed
        else if b.kind = 2 then
          if !d.canChange then d.refuse r St.twinUnavailable
          else if !d.canTell then d
          else
            let d := (({ d with keys.wraps := tput b.tenant b.key d.keys.wraps }).vaultPut (vaultId 2 b.tenant) b.key).event
              0x410 Sev.notice [2, b.tenant, 0, 0]
            d.pendLoad r (.wrapKey b.tenant b.key) { echo r.hdr with condVersion := 0 }
        else if b.kind = 3 then
          let i := d.loadTarget b.tenant
          let s := d.stslot i
          if s.state = 0x3A ∧ (d.recordsOf b.tenant s.serial ≠ 0 ∨ (d.effTwin ≠ 0 ∧ s.twinCount ≠ 0)) then d.conflict r 0x3A 0x12
          else if b.serial ≤ tgetD b.tenant 0 d.keys.topSerial then d.conflict r s.state 0x12
          else if !d.canChange then d.refuse r St.twinUnavailable
          else if d.slotInUse b.tenant i then
            { d.putReq { r with phase := .table } with keys.loads := d.keys.loads ++ [{ origin := o, blob := b, slot := i }] }
          else if !d.canTell then d
          else d.doStorageLoad r b i
        else
          let n := sysOf b.kind
          let old := d.sysSlot n
          let st := if old.state = 0x3C then 0x3D else 0x3E
          let d := ((d.setSys n { state := st, key := b.key, oldKey := if old.state = 0x3C then none else some old.key }).vaultPut
            (vaultId 5 n) b.key).event 0x410 Sev.notice [b.kind, 0, n, 0]
          let d := (if n = 73730 then d.meterKeyChanged else d).ringSlots
          d.vaultThen r (loadHdr r.hdr st n)

/-- No work names the target slot of a waiting STORAGE load any more (R378). -/
def storageLoadResume (slot : Nat) (d : Drive) : Drive :=
  match d.keys.loads.find? (fun l => 65536 + l.slot = slot) with
  | none => d
  | some l =>
    if d.slotInUse l.blob.tenant l.slot || !d.canTell then d
    else
      let d := { d with keys.loads := d.keys.loads.filter (fun x => x.slot ≠ l.slot) }
      match d.req? l.origin with
      | some r => d.doStorageLoad r l.blob l.slot
      | none => d

/-- No work names the old buffer of a rewritten slot: it is zeroised (R375); a REPLACING system slot is LOADED. -/
def slotBufferRelease (slot : Nat) (d : Drive) : Drive :=
  if 73728 ≤ slot then
    let s := d.sysSlot slot
    if s.state = 0x3E then d.setSys slot { s with state := 0x3D, oldKey := none } else d
  else if 65536 ≤ slot then d.setStslot (slot - 65536) { d.stslot (slot - 65536) with oldKey := none }
  else d

/-- The statuses of Table 1.10 that are not OK. -/
def failures : List Nat :=
  [St.notFound, St.versionMismatch, St.alreadyExists, St.stateConflict, St.jobUnknown, St.noSpace, St.wearReadOnly, St.directoryFull,
   St.forwardingFull, St.keyRevoked, St.mediaAuthFail, St.rekeyRequired, St.notPermitted, St.throttled, St.deadlineMissed, St.twinUnavailable,
   St.homeFenced, St.txnConflict, St.txnTooLarge, St.locatorInvalid, St.malformed, St.unsupported, St.tooLarge, St.internalError]

/-- A status of Table 1.10 for a failure to which the spec gives none: a free one (R78). -/
def Drive.someFailure (d : Drive) : Nat × Drive :=
  let (v, d) := d.fresh
  (failures.getD (v % failures.length) St.internalError, d)

/-- KEK_IMPORT inside an SPDM session (R366 to R368): the operator's public key by its hash, the signature, the blob's checks (R370) with
the session's transport key. For a wrong public key or signature the spec states no status (log entry 36). -/
def kekImport (session index pkHash : Nat) (signatureOk : Bool) (b : Blob) (d : Drive) : Drive :=
  let transport : Config.Key := .derived (.raw session) 0x4B454B 0
  let answer := fun (st : Nat) (d : Drive) => d.emit (.sideband session 0x10 [st] [])
  let failed := d.event 0x412 Sev.warning []
  if d.sec.otp.isEmpty || pkHash != d.operatorKeyHash || !signatureOk then
    let (st, d) := failed.someFailure
    answer st d
  else if 7 < index ∨ b.wrapper ≠ index ∨ !blobForm b [1] then answer St.malformed failed
  else if b.wrappedUnder ≠ transport ∨ !b.headerCopyOk then answer St.notPermitted failed
  else if !blobPlain b then answer St.malformed failed
  else if !d.hollyUp then answer St.internalError d
  else
    -- the reply follows both vault copies (R363)
    let d := (({ d with keys.keks := tput index b.key d.keys.keks }).vaultPut (vaultId 1 index) b.key).event 0x410 Sev.notice [1, 0, index, 0]
    d.optfWrite { prio := 2, bank := 1, sector := d.vaultSector, tell := [.sideband session 0x10 [St.ok] []] }

def execTenantKeyLoad (o : Origin) (b : Blob) (s : State) : Host.Outcome State Fault Refusal := s.onMain (keyLoad o b)
def execKeyEraseWrapping (o : Origin) (s : State) : Host.Outcome State Fault Refusal := s.onMain (keyErase 1 o)
def execKeyErasePrevious (o : Origin) (s : State) : Host.Outcome State Fault Refusal := s.onMain (keyErase 2 o)
def execKeyEraseCurrent (o : Origin) (s : State) : Host.Outcome State Fault Refusal := s.onMain (keyErase 3 o)
def execKeyEraseTenant (o : Origin) (s : State) : Host.Outcome State Fault Refusal := s.onMain (keyErase 4 o)
def execKeyEraseSystem (o : Origin) (s : State) : Host.Outcome State Fault Refusal := s.onMain (keyEraseSystem o)
def execSlotBufferRelease (slot : Nat) (s : State) : Host.Outcome State Fault Refusal := s.onMain (slotBufferRelease slot)
def execStorageLoadResume (slot : Nat) (s : State) : Host.Outcome State Fault Refusal := s.onMain (storageLoadResume slot)

end Sys2Proof.Machine
end

