-- ==== Sys2Proof/Machine/Namespaces.lean ====
section
/-! DEFINITION. Machine/Namespaces.lean: tenants and namespaces (R138 to R160, R871) and the table changes both twins hold. -/

namespace Sys2Proof.Machine
open Sys2Proof

/-- Tenant state of Table 3.1: IN_USE while it owns a namespace that is neither FREE nor RETIRED, or has an open session. -/
def Drive.tenantState (d : Drive) (t : Nat) : Nat :=
  if !d.tenantExists t then 0x10
  else if d.kv.nss.any (fun p => p.2.owner == t && p.2.state != 0x20 && p.2.state != 0x24) || !(d.sessionsOf t).isEmpty then 0x12
  else 0x11

/-- A batch has a member in the namespace. -/
def Req.touches (r : Req) (n : Nat) : Bool := (parseMembers r.body).any (fun m => m.ns == n)

/-- Operations of a namespace still running stop with KEY_REVOKED (R58, R156, R385); of a batch that is decided, or prepared here, the
members in it are dead when it ends (R154). -/
def Drive.revokeNs (n : Nat) (d : Drive) : Drive :=
  let d := d.dropCache (fun x => x.2.1 == n)
  let d := revokeStreams (fun s => s.rec_.ns == n) d.kv.streams d
  let d := revokeWrites (fun r => r.hdr.ns == n && (r.hdr.opcode == 0x02)) d.kv.reqs d
  let d := revokeBatches (fun r => r.touches n) d.kv.reqs d
  { d with
    kv.reqs := d.kv.reqs.map (fun (r : Req) => if r.phase = .decided then { r with dead := n :: r.dead } else r)
    kv.prepared := d.kv.prepared.map (fun (p : Prepared) => { p with dead := n :: p.dead }) }

/-- The forwarding entries of a namespace are discarded (R154, R192). -/
def Drive.dropFwd (n : Nat) (d : Drive) : Drive :=
  (({ d with kv.fwd := d.kv.fwd.filter (fun e => e.ns ≠ n) }).fwdRemoved (d.kv.fwd.filter (fun e => e.ns = n))).fwdWatch

/-- Directory entries that `p` picks are removed, and their granules released. -/
def Drive.dropDir (p : DirEnt → Bool) (d : Drive) : Drive :=
  let gone := d.kv.dir.filter p
  (gone.foldl (fun (d : Drive) (e : DirEnt) => d.modNs e.ns (fun n => { n with used := n.used - e.granules, count := n.count - b2n (!e.supersede) }))
    { d with kv.dir := d.kv.dir.filter (fun e => !p e) }).dirWatch

/-- Every directory and forwarding entry of a namespace is removed. -/
def Drive.dropEntries (n : Nat) (d : Drive) : Drive :=
  (({ d with kv.dir := d.kv.dir.filter (fun e => e.ns ≠ n), kv.tombs := d.kv.tombs.filter (fun t => t.ns ≠ n) }).dropFwd n).dirWatch

/-- Raises a namespace's generation to `gen`, with the generation floor that the change carries: at neither drive is it below a version
sequenced there (R147, R151, R153, R154, R156). A RETIRED id has no entries left. -/
def Drive.raiseGen (n gen floor : Nat) (d : Drive) : Drive :=
  let f := max floor d.pairVersion
  let d := d.modNs n (fun x => { x with gen := gen, topGen := max x.topGen gen, used := 0, count := 0, floor := if x.located then f else x.floor })
  let d := d.revokeNs n
  if gen = 2 ^ 32 - 1 then (d.dropEntries n).modNs n (fun x => { x with state := 0x24, owner := 0 })
  else if (d.ns n).located then d.dropFwd n
  else d.modNs n (fun x => { x with state := 0x22 })

/-- What a table change does to the tables (R140): the same at both drives, and nothing a second time. -/
def Drive.applyChange (c : TableChange) (d : Drive) : Drive :=
  match c with
  | .tenantCreate t => if d.kv.tenants.contains t then d else { d with kv.tenants := d.kv.tenants ++ [t] }
  | .tenantDelete t =>
    let d := (d.eraseBoth t).2
    let d := (d.eraseWrap t).2
    { d with kv.tenants := d.kv.tenants.filter (· ≠ t), keys.topSerial := tdel t d.keys.topSerial }
  | .nsCreate n owner located solo sw gen quota =>
    if gen ≤ (d.ns n).gen then d
    else d.setNs n { state := 0x21, located, solo, soloWrites := sw, owner, gen, topGen := gen, quota, floor := (d.ns n).floor }
  | .nsDelete n =>
    if (d.ns n).state ≠ 0x21 ∧ (d.ns n).state ≠ 0x22 then d
    else (d.modNs n (fun x => { x with state := 0x23, used := 0, count := 0 })).revokeNs n
  | .nsQuota n q => d.modNs n (fun x => { x with quota := q })
  | .nsSoloWrites n b => d.modNs n (fun x => { x with soloWrites := b })
  | .nsRaise n gen floor _ => if gen ≤ (d.ns n).gen then d else d.raiseGen n gen floor
  | .nsModify n q sw gen floor =>
    let d := d.modNs n (fun x => { x with quota := q.getD x.quota, soloWrites := sw.getD x.soloWrites })
    match gen with
    | some g => if g ≤ (d.ns n).gen then d else d.raiseGen n g floor
    | none => d
  | .keyErase sel t => (d.eraseBy sel t).2
  | .wrapKey t k => ({ d with keys.wraps := tput t k d.keys.wraps }).vaultPut (vaultId 2 t) k
  | .storageKey t serial k => if serial ≤ tgetD t 0 d.keys.topSerial then d else d.storeKey t (d.loadTarget t) serial k
  | .recordsZero t serial =>
    match d.slotOfSerial t serial with
    | some i => d.setStslot i { d.stslot i with twinCount := 0 }
    | none => d

/-- A table change asked for by the operator: refused without effect where the pair cannot hold it (R140), else applied and answered
when both drives hold it. -/
def Drive.change (r : Req) (c : TableChange) (h : OpHdr) (bodyOf : Drive → Bytes) (d : Drive) : Drive :=
  if !d.canChange then d.refuse r St.twinUnavailable
  else if !d.canTell then d
  else
    let d := d.applyChange c
    let b := bodyOf d
    d.pendChange r c { h with valueLen := b.length } b

/-- An operation the operator alone may send (R138). -/
def operatorOnly (o : Origin) (opcode : Nat) (f : Req → Drive → Drive) (d : Drive) : Drive :=
  d.withReq o [opcode] fun r d => if d.originTenant r ≠ 0 then d.refuse r St.notPermitted else f r d

/-- TENANT_CREATE (R141). -/
def tenantCreate (o : Origin) (d : Drive) : Drive :=
  operatorOnly o 0x68 (fun r d =>
    let t := r.hdr.tenant
    if t = 0 ∨ d.tenantExists t = true then d.refuse r St.alreadyExists
    else d.change r (.tenantCreate t) (echo r.hdr) (fun _ => [])) d

/-- TENANT_DELETE (R141, R142). -/
def tenantDelete (o : Origin) (d : Drive) : Drive :=
  operatorOnly o 0x69 (fun r d =>
    let t := r.hdr.tenant
    if t = 0 then d.refuse r St.notPermitted
    else if !d.tenantExists t then d.refuse r St.notFound
    else if d.tenantState t = 0x12 then d.conflict r 0x12 0xFF
    else d.change r (.tenantDelete t) (echo r.hdr) (fun _ => [])) d

/-- Entries of a namespace in the forwarding table (Table 3.4). -/
def Drive.fwdEntries (d : Drive) (n : Nat) : Nat := (d.kv.fwd.filter (fun e => e.ns = n)).length

def Drive.descriptor (d : Drive) (n : Nat) : Bytes := nsDescBytes (d.ns n) (d.fwdEntries n)

/-- NS_CREATE (R143, R144, R147, R149). -/
def nsCreate (o : Origin) (d : Drive) : Drive :=
  operatorOnly o 0x60 (fun r d =>
    let n := r.hdr.ns
    let x := parseNsDesc r.body
    let st := (d.ns n).state
    match firstFail [
      (r.hdr.valueLen == 48 && r.body.length == 48 && decide (n ≤ 16383) && (x.kind == 1 || x.kind == 2) && !(x.kind == 2 && x.quota == 0) &&
        !(x.soloWrites && x.solo), St.malformed),
      (!(x.kind == 2 && !x.solo), St.unsupported),
      (d.tenantExists r.hdr.tenant, St.notFound),
      (st != 0x21 && st != 0x22, St.alreadyExists)] with
    | some s => d.refuse r s
    | none =>
      if st = 0x23 ∨ st = 0x24 then d.conflict r st 0xFF
      else d.change r (.nsCreate n r.hdr.tenant (x.kind == 2) x.solo x.soloWrites (max (d.ns n).gen (d.ns n).topGen + 1) x.quota) (echo r.hdr)
        (fun d => d.descriptor n)) d

/-- The answer a namespace's state gives a modification or deletion (R148). -/
def stateAnswer (r : Req) (st : Nat) (d : Drive) (k : Drive → Drive) : Drive :=
  if st = 0x20 then d.refuse r St.notFound
  else if st = 0x23 ∨ st = 0x24 then d.conflict r st 0xFF
  else k d

/-- NS_DELETE (R155). -/
def nsDelete (o : Origin) (d : Drive) : Drive :=
  operatorOnly o 0x61 (fun r d =>
    stateAnswer r (d.ns r.hdr.ns).state d (fun d => d.change r (.nsDelete r.hdr.ns) (echo r.hdr) (fun _ => []))) d

/-- NS_MODIFY with every op_flags bit it carries (R144, R148, R150, R151, R154), run by the command that names bit `b`. -/
def nsModify (b : Nat) (o : Origin) (d : Drive) : Drive :=
  operatorOnly o 0x62 (fun r d =>
    let n := r.hdr.ns
    let x := parseNsDesc r.body
    let ns := d.ns n
    let setQ := bit 0 r.hdr.flags
    let raise := bit 1 r.hdr.flags
    let setS := bit 2 r.hdr.flags
    if !bit b r.hdr.flags then d
    else if r.hdr.valueLen ≠ 48 ∨ r.body.length ≠ 48 then d.refuse r St.malformed
    else stateAnswer r ns.state d (fun d =>
      if raise ∧ ns.state = 0x22 then d.conflict r 0x22 0xFF
      else if (setS && x.soloWrites && ns.solo) || (setQ && ns.located && x.quota == 0) then d.refuse r St.malformed
      else d.change r (.nsModify n (if setQ then some x.quota else none) (if setS then some x.soloWrites else none)
        (if raise then some (ns.gen + 1) else none) d.pairVersion) (echo r.hdr) (fun d => d.descriptor n))) d

/-- NS_INFO (R139, R148). -/
def nsInfo (o : Origin) (d : Drive) : Drive :=
  d.withReq o [0x63] fun r d =>
    let t := d.originTenant r
    let ns := d.ns r.hdr.ns
    if t ≠ 0 ∧ (ns.state = 0x20 ∨ ns.state = 0x24 ∨ ns.owner ≠ t) then d.refuse r St.notPermitted
    else if ns.state = 0x20 then d.refuse r St.notFound
    else
      let b := d.descriptor r.hdr.ns
      d.reply o { echo r.hdr with valueLen := b.length } b

/-- Laurel has removed every entry of a SWEEPING or DELETING namespace (R151, R155, R156). -/
def sweepComplete (n : Nat) (d : Drive) : Drive :=
  let ns := d.ns n
  if ns.state = 0x22 then (d.dropEntries n).modNs n (fun x => { x with state := 0x21 })
  else if ns.state = 0x23 then
    (d.dropEntries n).setNs n { state := if ns.topGen = 2 ^ 32 - 2 then 0x24 else 0x20, gen := ns.gen, topGen := ns.topGen, floor := d.pairVersion }
  else d

def execTenantCreate (o : Origin) (s : State) : Host.Outcome State Fault Refusal := s.onMain (tenantCreate o)
def execTenantDelete (o : Origin) (s : State) : Host.Outcome State Fault Refusal := s.onMain (tenantDelete o)
def execNsCreate (o : Origin) (s : State) : Host.Outcome State Fault Refusal := s.onMain (nsCreate o)
def execNsDelete (o : Origin) (s : State) : Host.Outcome State Fault Refusal := s.onMain (nsDelete o)
def execNsSetQuota (o : Origin) (s : State) : Host.Outcome State Fault Refusal := s.onMain (nsModify 0 o)
def execNsRaiseGen (o : Origin) (s : State) : Host.Outcome State Fault Refusal := s.onMain (nsModify 1 o)
def execNsSetSoloWrites (o : Origin) (s : State) : Host.Outcome State Fault Refusal := s.onMain (nsModify 2 o)
def execNsInfo (o : Origin) (s : State) : Host.Outcome State Fault Refusal := s.onMain (nsInfo o)
def execSweepComplete (n : Nat) (s : State) : Host.Outcome State Fault Refusal := s.onMain (sweepComplete n)

end Sys2Proof.Machine
end

