-- ==== Sys2Proof/Machine/Twin.lean ====
section
/-! DEFINITION. Machine/Twin.lean: twin messages, cross-home batches, twin loss, leases as the drive holds them, resync, adoption
(R287 to R316, R325 to R346, R872 to R874). -/

namespace Sys2Proof.Machine
open Sys2Proof

/-- A twin message is taken only on an authenticated link from the recorded twin (R290). -/
def Drive.fromTwin (f : Drive → Drive) (d : Drive) : Drive :=
  if d.twin.linkUp && d.twin.authenticated && d.twin.state != 0 then f (d.takeRing 2 1) else d

/-- A twin message other than HEARTBEAT wakes the drive (R753). -/
def Drive.fromTwinAwake (f : Drive → Drive) (d : Drive) : Drive := d.awaken.fromTwin f

/-- The request an op_id of this drive's stands for. -/
def Drive.twinOp? (opId : Nat) (d : Drive) : Option TwinOp := d.twin.out.find? (fun x => x.opId = opId)

/-- The request of this drive's that an op_id stands for. -/
def Drive.twinReq? (opId : Nat) (d : Drive) : Option Req := ((d.twinOp? opId).bind (·.origin)).bind d.req?

/-! ## Forwarded operations (R306 to R309) -/

/-- A forwarded operation as the home's request: its deadline runs from the time left that aux carries. A batch gets the transaction id of
the drive that coordinates it (R117). -/
def Drive.addForward (opId aux : Nat) (tag : WorkTag) (h : OpHdr) (body : Bytes) (d : Drive) : Drive :=
  let dl := if aux = 2 ^ 64 - 1 then (d.nowUs + 2 ^ 32) % 2 ^ 40 else (d.nowUs + aux) % 2 ^ 40
  let (txn, d) := if h.opcode = 0x10 then d.nextTxn else (h.txn, d)
  d.addReq { origin := .twin opId, hdr := h, body := body, input := 2, phase := .active, opId := opId, replyHdr := { txn := txn }
             tag := { tag with deadline := dl, twin := true, kind := if tag.kind = 0x11 then 0x11 else 0x19 } }

/-- An op_id is applied at most once: a repeated one is answered with the original reply (R300, R301). -/
def Drive.onceTwin (opId : Nat) (f : Drive → Drive) (d : Drive) : Drive :=
  match d.twinSeen? opId with
  | some (some m) => d.twinSend m
  | some none => d
  | none => if (d.req? (.twin opId)).isSome then d else f d

/-- FWD_WRITE at the home: the remaining checks and the sequencing (R306, R308). -/
def fwdWrite (opId aux : Nat) (tag : WorkTag) (h : OpHdr) (body : Bytes) (d : Drive) : Drive :=
  d.fromTwinAwake (fun d => d.onceTwin opId (fun d =>
    let o := Origin.twin opId
    let d := d.addForward opId aux tag h body
    match h.opcode with
    | 0x02 => putCommit o (putRequest o d)
    | 0x03 => deleteRequest o d
    | 0x21 => locDeleteRequest o d
    | 0x10 => batchAtomicRequest o d
    | _ => match d.req? o with
      | some r => d.refuse r St.unsupported
      | none => d))

/-- FWD_READ at the home (R309). -/
def fwdRead (opId aux : Nat) (tag : WorkTag) (h : OpHdr) (body : Bytes) (d : Drive) : Drive :=
  d.fromTwinAwake (fun d => d.onceTwin opId (fun d =>
    let o := Origin.twin opId
    let d := d.addForward opId aux tag h body
    match h.opcode with
    | 0x01 => getRequest o d
    | 0x05 => getRangeRequest o d
    | 0x04 => existsRequest o d
    | 0x08 => listRequest o d
    | 0x20 => locGetRequest o d
    | _ => match d.req? o with
      | some r => d.refuse r St.unsupported
      | none => d))

/-- The reply the receiver sends to the host for an operation the twin served: FORWARDED, and LATE where it took effect and leaves after
the deadline (R39, R307, R308). -/
def Drive.forwardedHdr (d : Drive) (r : Req) (h : OpHdr) : OpHdr :=
  { h with
    opcode := r.hdr.opcode, rid := r.hdr.rid, tenant := r.hdr.tenant, qos := r.hdr.qos
    ns := if r.hdr.opcode = 0x10 then 0 else r.hdr.ns
    flags := (h.flags / 8 % 2) * 8 + 4 + (h.flags / 2 % 2) * 2 +
      b2n (h.status == 0 && d.late r.tag && (isWrite r.hdr.opcode || r.hdr.opcode == 0x10)) }

/-- A result of one member of a BATCH arrives: the batch goes on, or is answered. -/
def Drive.partDone (o : Origin) (opId : Nat) (x : MemberResult) (d : Drive) : Drive :=
  match d.req? o with
  | none => d
  | some r =>
    match r.parts.find? (fun p => p.1 = opId) with
    | none => d
    | some (_, i) =>
      let r := r.setResult i x
      let d := d.putReq { r with replyBody := resultsBytes r.results, needMirror := !r.parts.isEmpty }
      if r.phase = .active then batchRun o (batchFuel r) d else d.settle o

/-- Whether an opcode's OK reply is followed by data. -/
def streamsData (opcode : Nat) : Bool := opcode == 0x01 || opcode == 0x05 || opcode == 0x20

/-- FWD_REPLY at the receiver (R307 to R309): a write's outcome or a member's; of a read the header, whose deadline is judged where it
leaves for the host (R38), and then the trailer's fields (log entry 65). -/
def fwdReply (opId : Nat) (h : OpHdr) (body : Bytes) (d : Drive) : Drive :=
  d.fromTwinAwake (fun d =>
    match d.twinReq? opId with
    | none => d.twinDone opId
    | some r =>
      let o := r.origin
      if r.hdr.opcode = 0x11 then
        (d.twinDone opId).partDone o opId
          { status := h.status, twinHomed := true, applied := h.status == 0 && h.opcode != 0x04, version := h.condVersion }
      else if r.phase = .streaming then
        (d.twinDone opId).readTrailer o h.status (bit 1 h.flags) (bit 0 h.flags) h.offset h.valueLen
      else if h.status = 0 ∧ !(isWrite r.hdr.opcode) ∧ r.hdr.opcode ≠ 0x10 ∧ passed d.nowUs r.tag.deadline = true then
        (d.twinDone opId).refuse r St.deadlineMissed
      else if streamsData r.hdr.opcode ∧ h.status = 0 then
        let h' := d.forwardedHdr r h
        (d.putReq { r with phase := .streaming, replyHdr := h', replyBody := body, sent := 0 }).readHeader o h' (field 0 8 body)
      else (d.twinDone opId).reply o (d.forwardedHdr r h) body)

/-- FWD_DATA at the receiver: the chunk is sealed for the session and sent (R309). -/
def fwdData (opId chunk : Nat) (bytes : Bytes) (d : Drive) : Drive :=
  d.fromTwinAwake (fun d =>
    match d.twinReq? opId with
    | none => d.twinDone opId
    | some r =>
      if r.phase ≠ .streaming then d
      else (d.putReq { r with sent := r.sent + bytes.length }).readChunk r.origin chunk bytes)

/-! ## Mirrors (R302 to R305, R89, R335, R873) -/

/-- A deletion of the key at a higher version has been installed and its record is not yet on flash. -/
def Drive.deletedAbove (d : Drive) (r : Rec) : Bool :=
  d.kv.shelf.any (fun p => p.2.rec_.deletion && p.2.rec_.ns == r.ns && p.2.rec_.key == r.key && decide (r.version < p.2.rec_.version))

/-- Installs one record from the twin: nothing when this drive already holds a higher version of the key (R335). A mark stands until a PUT
or DELETE of the key completes: a record of the marked version leaves it (R61). -/
def Drive.installRec (r : Rec) (mirrorOp : Option Nat) (d : Drive) : Drive :=
  let d := d.raiseTick r.version
  let same := fun (e : DirEnt) => e.ns == r.ns && e.key == r.key
  if d.kv.dir.any (fun e => same e && decide (r.version < e.version)) || d.deletedAbove r then d
  else
    let marked := d.kv.dir.any (fun e => same e && e.version == r.version && e.marked)
    let (old, d) := d.applyRec r false mirrorOp
    let d := d.modNs r.ns (fun n => { n with used := n.used - old })
    if marked then { d with kv.dir := d.kv.dir.map (fun (e : DirEnt) => if same e then { e with marked := true } else e) } else d

def installAll (mirrorOp : Option Nat) : List Rec → Drive → Drive
  | [], d => d
  | r :: rs, d => installAll mirrorOp rs (d.installRec r mirrorOp)

/-- What the twin has drawn of the reservations granted to it, for records that now arrive, is granted no longer (R313). -/
def Drive.grantUsed (recs : List Rec) (d : Drive) : Drive :=
  let puts := recs.filter (fun r => !r.deletion)
  let news := puts.filter (fun r => !(d.kv.dir.any (fun e => e.ns == r.ns && e.key == r.key)))
  { d with
    twin.grantedGranules := d.twin.grantedGranules - (puts.map recGranules).sum
    twin.grantedEntries := d.twin.grantedEntries - news.length }

/-- MIRROR: chunks are held unpublished; the final message installs the record, before it is acknowledged (R89, R304). With
ORIGIN_REPLY the receiver answers its host (R307). -/
def mirrorMsg (opId flags version aux : Nat) (final : Bool) (bytes : Bytes) (recs : List Rec) (d : Drive) : Drive :=
  d.fromTwinAwake (fun d =>
    if !final then { d with twin.partials := tmod opId [] (fun b => b ++ bytes) d.twin.partials }
    else match d.twinSeen? opId with
      | some _ => d.twinSend { code := 0x11, opId := opId, version := version, aux := aux }
      | none =>
        let d := { d with twin.partials := tdel opId d.twin.partials }
        let d := installAll (some opId) recs (d.grantUsed recs)
        let d := ({ d with twin.resyncPoint := some aux }).twinSeen opId none
        let d := d.twinSend { code := 0x11, opId := opId, version := version, aux := aux }
        if !bit 0 flags then d
        else match d.twinReq? opId with
          | none => d.twinDone opId
          | some r =>
            if r.hdr.opcode = 0x11 then
              (d.twinDone opId).partDone r.origin opId { twinHomed := true, applied := true, version := version }
            else
              let h := { echo r.hdr with
                durability := durApplied r.hdr.durability, condVersion := version
                valueLen := if r.hdr.opcode = 0x02 then r.hdr.valueLen else 0 }
              (d.twinDone opId).reply r.origin (d.forwardedHdr r h) [])

/-- The twin has acknowledged mirrored records: their keys are pending no longer, and the twin lacks them no longer (R88, R336). -/
def Drive.clearPending (recs : List Rec) (d : Drive) : Drive :=
  ({ d with
    twin.unmirrored := d.twin.unmirrored.filter (fun c => !recs.any (fun r => (r.ns, r.key, r.version) == c))
    kv.dir := d.kv.dir.map (fun (e : DirEnt) => if recs.any (fun r => r.ns == e.ns && r.key == e.key && r.version == e.version) then { e with pending := false } else e)
    kv.tombs := d.kv.tombs.map (fun (t : Tomb) => if recs.any (fun r => r.ns == t.ns && r.key == t.key && r.version == t.version) then { t with pending := false } else t) }).purgeTombs

/-- The records of mirrors that the twin has not acknowledged. -/
def Drive.mirroring (d : Drive) : List Rec :=
  (d.twin.out.map (fun x => match x.msg.body with | .mirror rs => rs | _ => [])).flatten

/-- No key is pending any more: the twin is lost, and this drive serves alone. -/
def Drive.clearAllPending (d : Drive) : Drive :=
  ({ d with
    kv.dir := d.kv.dir.map (fun (e : DirEnt) => { e with pending := false })
    kv.tombs := d.kv.tombs.map (fun (t : Tomb) => { t with pending := false }) }).purgeTombs

/-- MIRROR_ACK: the twin has installed the mirror, or (PROGRAMMED) has programmed it: media durability waits for the second (R305). -/
def mirrorAck (opId : Nat) (programmed : Bool) (d : Drive) : Drive :=
  d.fromTwinAwake (fun d =>
    let recs := match (d.twinOp? opId).map (·.msg.body) with | some (.mirror rs) => rs | _ => []
    let d := (d.clearPending recs).twinDone opId
    match d.kv.reqs.find? (fun r => r.parts.any (fun p => p.1 = opId)) with
    | some r =>
      if d.durFor r = 3 ∧ programmed = false then d
      else match (r.parts.find? (fun p => p.1 = opId)).bind (fun p => r.results[p.2]?) with
        | some x => d.partDone r.origin opId x
        | none => d
    | none =>
      match d.kv.reqs.find? (fun r => r.opId = opId ∧ r.phase = .waiting ∧ r.hdr.opcode ≠ 0x11 ∧ (r.needMirror = true ∨ r.needTwinProg = true)) with
      | some r =>
        let r' := if programmed then { r with needTwinProg := false, needMirror := false } else { r with needMirror := false }
        (d.putReq r').settle r.origin
      | none => d)

/-! ## Cross-home batches (R129 to R136, R344 to R346) -/

/-- Holds or releases the keys of a transaction. -/
def Drive.release (txn : Nat) (coordinator : Bool) (d : Drive) : Drive :=
  { d with kv.holds := d.kv.holds.filter (fun h => !(h.txn == txn && h.coordinator == coordinator)) }

/-- Orders 12 to 14 of Table 2.5 on the members that `mine` picks: each one's failing status at the first order at which one fails. -/
def Drive.ownOutcomes (r : Req) (tenant : Nat) (ms : List Member) (mine : Member → Bool) (d : Drive) : List (Option Nat) × Drive :=
  let sts := ms.map (fun m => if mine m then d.memberCheck r tenant m 12 else none)
  if sts.any Option.isSome then (sts, d)
  else
    let (room, d) := roomForAll (ms.map (fun m => if mine m then m else { m with op := 0x04 })) d
    (room.getD (ms.map (fun _ => none)), d)

/-- PREPARE at the participant: refuses when a key is held (R130); else holds its keys and answers each member's outcome. -/
def prepareMsg (opId txn : Nat) (tag : WorkTag) (h : OpHdr) (body : Bytes) (seals : List (Nat × Nat)) (d : Drive) : Drive :=
  d.fromTwinAwake (fun d => d.onceTwin opId (fun d =>
    let ms := parseMembers body
    let mine := fun (m : Member) => d.isHome m.ns m.key
    if ms.any (fun m => mine m && d.held m.ns m.key) then
      let m : TwinMsg := { code := 0x1A, opId := opId, aux := txn }
      (d.twinSeen opId (some m)).twinSend m
    else
      let r : Req := { origin := .twin opId, hdr := h, body := body, tag := tag }
      let (sts, d) := d.ownOutcomes r tag.tenant ms mine
      let rs : List MemberResult := (ms.zip sts).map (fun p => d.idleResult tag.tenant p.1 (p.2.getD 0))
      let d := { d with
        kv.holds := d.kv.holds ++ (ms.filter mine).map (fun (m : Member) => Hold.mk m.ns m.key txn false)
        kv.prepared := d.kv.prepared ++ [({ txn := txn, opId := opId, members := ms, hdr := h, tag := tag, seals := seals } : Prepared)] }
      let m : TwinMsg := { code := 0x19, opId := opId, aux := txn, body := .outcomes rs }
      (d.twinSeen opId (some m)).twinSend m))

/-- The coordinator's request of a transaction. -/
def Drive.coordinating (d : Drive) (txn : Nat) (p : ReqPhase) : Option Req :=
  d.kv.reqs.find? (fun r => r.phase = p ∧ r.hdr.opcode = 0x10 ∧ r.replyHdr.txn = txn)

/-- The coordinator aborts: ABORT to the participant, its keys released, the reply given. -/
def Drive.abortTxn (r : Req) (k : Drive → Drive) (d : Drive) : Drive :=
  k (((d.release r.replyHdr.txn true).twinDone r.opId).twinSend { code := 0x1C, opId := r.opId, aux := r.replyHdr.txn })

/-- A batch this drive does not coordinate (any more): one it has committed alone is told COMMIT again; of any other the participant is
told ABORT, and its PREPARE is sent no more (R134, Table 2.9). -/
def Drive.unknownTxn (txn : Nat) (d : Drive) : Drive :=
  match d.twin.out.find? (fun x => x.msg.code == 0x1B && x.msg.aux == txn) with
  | some x => d.twinSend x.msg
  | none =>
    let mine := fun (x : TwinOp) => x.msg.code == 0x18 && x.msg.aux == txn
    let id := match d.twin.out.find? mine with | some x => x.opId | none => 0
    ({ d with twin.out := d.twin.out.filter (fun x => !mine x) }).twinSend { code := 0x1C, opId := id, aux := txn }

/-- The order of Table 2.5 that a failing status belongs to. -/
def failOrder (st : Nat) : Nat := if st = St.noSpace then 13 else if st = St.directoryFull then 14 else 12

/-- Statuses of members from both drives: those of the first order at which one fails (R111). -/
def lowestOrder (sts : List Nat) : List Nat :=
  let k := ((sts.filter (· ≠ 0)).map failOrder).foldl min 15
  sts.map (fun s => if s ≠ 0 ∧ failOrder s = k then s else 0)

/-- The coordinator evaluates its own members beside the participant's outcomes and decides (R123, R127, R134, R345). -/
def decideTxn (r : Req) (outcomes : List MemberResult) (d : Drive) : Drive :=
  let tenant := d.originTenant r
  let ms := parseMembers r.body
  let home := fun (m : Member) => d.isHome m.ns m.key
  let (own, d) := d.ownOutcomes r tenant ms home
  let sts := lowestOrder (((ms.zip outcomes).zip own).map (fun p => if home p.1.1 then p.2.getD 0 else p.1.2.status))
  let version := fun (p : Member × MemberResult) => if home p.1 then d.memberVersion tenant p.1 else p.2.version
  if passed d.nowUs r.tag.deadline then d.abortTxn r (fun d => d.batchWhole r St.deadlineMissed)
  else if sts.any (· ≠ 0) then
    let rs : List MemberResult := ((ms.zip outcomes).zip sts).map (fun p => { status := p.2, twinHomed := !home p.1.1, version := version p.1 })
    d.abortTxn r (fun d => d.batchFail r rs)
  else if d.versionsSpent 2 then d.abortTxn r (fun d => d.batchWhole r St.internalError)
  else if !d.canAssign then d.putReq { r with results := outcomes }
  else
    let (v, d) := d.assign 2
    let rs : List MemberResult := (ms.zip outcomes).map (fun p =>
      if p.1.op = 0x04 then { twinHomed := !home p.1, version := version p }
      else { twinHomed := !home p.1, applied := true, version := v })
    let d := (d.twinDone r.opId).putReq { r with phase := .decided, version := v, results := rs }
    d.twinOp { opId := r.opId, origin := some r.origin, msg := { code := 0x1B, opId := r.opId, version := v, aux := r.replyHdr.txn } }

/-- Decisions that waited for the sequencer are taken. -/
def decideWaiting : List Req → Drive → Drive
  | [], d => d
  | r :: rs, d => decideWaiting rs (if r.phase = .coordinating ∧ r.results ≠ [] then decideTxn { r with results := [] } r.results d else d)

/-- PREPARED at the coordinator. -/
def preparedMsg (txn : Nat) (outcomes : List MemberResult) (d : Drive) : Drive :=
  d.fromTwinAwake (fun d =>
    match d.coordinating txn .coordinating with
    | none => d.unknownTxn txn
    | some r => decideTxn r outcomes d)

/-- REFUSED at the coordinator: TXN_CONFLICT (R130). -/
def refusedMsg (txn : Nat) (d : Drive) : Drive :=
  d.fromTwinAwake (fun d =>
    match d.coordinating txn .coordinating with
    | none => d.unknownTxn txn
    | some r => d.abortTxn r (fun d => d.batchWhole r St.txnConflict))

/-- The records of a batch's write members that this drive installs, at its commit version (R123, R302): its own keys and the mirrored
ones, of no namespace whose generation has been raised since. -/
def batchRecs (d : Drive) (tenant v : Nat) (dead : List Nat) (ms : List Member) (seals : List (Nat × Nat)) : List Rec :=
  ((ms.zip seals).filter (fun p => d.installsHere p.1 && !dead.contains p.1.ns)).map (fun p => memberRec d tenant v p.1 p.2)

/-- The home's own members draw on the twin's reservation (R160). -/
def Drive.drawOwn (ms : List Member) (d : Drive) : Drive := drawAll (ms.filter (fun m => d.isHome m.ns m.key)) d

/-- The participant installs every member of a committed batch and releases its keys. For media durability their programs are reported
under the PREPARE's op_id (R305, log entry 66). -/
def Drive.installPrepared (p : Prepared) (v : Nat) (d : Drive) : Drive :=
  let recs := batchRecs d p.tag.tenant v p.dead p.members p.seals
  let drawn := recs.filter (fun r => !(d.isHome r.ns r.key))
  let d := installAll (if p.hdr.durability = 3 then some p.opId else none) recs ((d.drawOwn p.members).grantUsed drawn)
  { d.release p.txn false with kv.prepared := d.kv.prepared.filter (fun q => q.txn ≠ p.txn) }

/-- COMMIT at the participant (R134). -/
def commitMsg (opId txn version : Nat) (d : Drive) : Drive :=
  d.fromTwinAwake (fun d =>
    match d.kv.prepared.find? (fun p => p.txn = txn) with
    | some p => (d.installPrepared p version).twinSend { code := 0x1D, opId := opId, version := version, aux := txn }
    | none => d.twinSend { code := 0x1D, opId := opId, version := version, aux := txn })

/-- ABORT at the participant. -/
def abortMsg (txn : Nat) (d : Drive) : Drive :=
  d.fromTwinAwake (fun d => { d.release txn false with kv.prepared := d.kv.prepared.filter (fun q => q.txn ≠ txn) })

/-- The coordinator installs every member of its decided batch, releases its keys, and replies once its needs are met. Alone under a lease
it keeps the COMMIT, for what only the other drive holds (Table 2.9, log entry 66). -/
def Drive.finishTxn (r : Req) (d : Drive) : Drive :=
  let ms := parseMembers r.body
  let paired := d.effTwin == 2 || d.effTwin == 6
  let recs := batchRecs d r.tag.tenant r.version r.dead ms r.seals
  let theirs := ms.any (fun m => m.op != 0x04 && (!(d.isHome m.ns m.key) || !(d.ns m.ns).solo) && !r.dead.contains m.ns)
  let d := applyAll false none recs (d.drawOwn ms)
  let d := if paired then d else d.noteChanges recs
  let d := d.release r.replyHdr.txn true
  let d := if d.effTwin = 4 then d else d.twinDone r.opId
  let dur := d.durFor r
  let h := { batchHdr r St.ok 0xFF r.version r.results with durability := dur, flags := replyFlags false false d.degraded false }
  (d.putReq { r with
    phase := .waiting, needWait := true, needProg := dur == 3 && !recs.isEmpty, needTwinProg := paired && theirs && dur == 3
    needMirror := false, replyHdr := h, replyBody := resultsBytes r.results }).settle r.origin

/-- COMMITTED at the coordinator. -/
def committedMsg (txn : Nat) (d : Drive) : Drive :=
  d.fromTwinAwake (fun d =>
    match d.coordinating txn .decided with
    | some r => d.finishTxn r
    | none => { d with twin.out := d.twin.out.filter (fun x => !(x.msg.code == 0x1B && x.msg.aux == txn)) })

/-- 1 ms without PREPARED or REFUSED while the twin is live (R132, R346). -/
def prepareTimeout (txn : Nat) (d : Drive) : Drive :=
  match d.coordinating txn .coordinating with
  | none => d
  | some r =>
    if !(d.effTwin == 2 || d.effTwin == 6) || r.results != [] then d
    else ((d.advanceTo (r.prepareAt + 1000000)).event 0x509 Sev.warning []).abortTxn r (fun d => d.batchWhole r St.txnConflict)

/-! ## Twin loss (R315, R316, R134) -/

/-- Refuses every request of a list that a predicate picks. -/
def refuseAll (p : Req → Bool) (st : Nat) : List Req → Drive → Drive
  | [], d => d
  | r :: rs, d => refuseAll p st rs (if p r then d.refuseAny r st else d)

/-- Members of a BATCH that were to be read at the twin get TWIN_UNAVAILABLE. -/
def endForwardedParts (o : Origin) : List (Nat × Nat) → Drive → Drive
  | [], d => d
  | p :: ps, d => endForwardedParts o ps (
      if (d.twinOp? p.1).any (fun x => x.msg.code == 0x02) then
        (d.twinDone p.1).partDone o p.1 { status := St.twinUnavailable, twinHomed := true }
      else d)

/-- Forwarded reads end with TWIN_UNAVAILABLE: in the trailer once the header has gone, with the chunk that did not come (R58, R309); a
LIST's cursor is given back (R73). -/
def endForwardedReads : List Req → Drive → Drive
  | [], d => d
  | r :: rs, d =>
    endForwardedReads rs (
      if r.hdr.opcode = 0x11 then endForwardedParts r.origin r.parts d
      else if r.phase = .atTwin ∧ !isWrite r.hdr.opcode ∧ r.hdr.opcode ≠ 0x10 then
        (d.twinDone r.opId).refuse r St.twinUnavailable (offset := if r.hdr.opcode = 0x08 then r.hdr.offset else 0)
      else if r.phase = .streaming ∧ (d.stream? r.origin).isNone then
        (d.twinDone r.opId).readTrailer r.origin St.twinUnavailable false false ((r.replyHdr.offset + r.sent) / 65536) (field 0 8 r.replyBody)
      else d)

/-- No lease: cross-home batches end as the last column of Table 2.9 gives; decided and prepared ones keep their keys held. -/
def noLease : List Req → Drive → Drive
  | [], d => d
  | r :: rs, d => noLease rs (
      if r.phase = .coordinating then ((d.release r.replyHdr.txn true).twinDone r.opId).batchWhole r St.twinUnavailable else d)

/-- The drive seeks a lease from its witness (R320, R323, R874). -/
def Drive.seekLease (d : Drive) : Drive :=
  if d.twin.witness = 0x3F then noLease d.kv.reqs d
  else if d.twin.witness = 0x3E then ({ d with twin.leaseReq := 3 }).raiseAlert
  else ({ d with twin.leaseSentAt := d.now, twin.leaseDenied := false }).ringSend 0x10 d.twin.witness 1 [d.twin.epoch] []

/-- The twin is declared lost (R315, R316, Table 6.2). -/
def Drive.twinLost (d : Drive) : Drive :=
  let st := d.twin.state
  if st ≠ 2 ∧ st ≠ 6 ∧ !(d.twin.resyncSending && (st == 3 || st == 4)) then d
  else
    let next := if st = 6 ∧ d.twin.wasFenced = true then 5 else if st = 2 ∨ st = 6 then 3 else st
    let d := { d with
      twin.state := next, twin.resyncSending := false, twin.bothAlone := false, twin.resGranules := 0, twin.resEntries := 0
      twin.grantedGranules := 0, twin.grantedEntries := 0, twin.resAsked := false, twin.partials := [], twin.clearance := false
      twin.authenticated := false }
    let d := if st = 6 then d.endKind 0x06 St.twinUnavailable else d
    let d := d.event 0x500 Sev.warning []
    let d := endForwardedReads d.kv.reqs d
    if next = 3 then d.seekLease else d

/-- JOINING ends without a handshake: the state held before (Table 6.2). -/
def Drive.leaveJoining (d : Drive) : Drive :=
  if d.twin.prior = 7 then (({ d with twin.state := 3, twin.prior := 3 }).event 0x500 Sev.warning []).seekLease
  else
    let d := { d with twin.state := d.twin.prior }
    -- with a hedgerow witness LEASE_REQ is sent again at its interval (R874)
    if d.twin.state = 3 ∧ d.twin.witness = 0x3E then d.seekLease else d

/-- The twin link has been down for 50 µs (R315). -/
def twinLinkDownTimeout (d : Drive) : Drive :=
  if d.twin.linkUp then d
  else
    let d := d.advanceTo (d.twin.downSince + 50000)
    if d.twin.state = 1 then d.leaveJoining else d.twinLost

/-- 300 µs without a HEARTBEAT (R315). -/
def heartbeatSilence (d : Drive) : Drive :=
  if d.twin.state = 2 ∨ d.twin.state = 6 ∨ d.twin.resyncSending = true then (d.advanceTo (d.twin.hbLastRxAt + 300000)).twinLost else d

/-- 4 s of JOINING without a HELLO (R315). -/
def joiningTimeout (d : Drive) : Drive :=
  if d.twin.state = 1 then (d.advanceTo (d.twin.joiningSince + 4000000000)).leaveJoining else d

/-! ## Heartbeats (R295 to R297, R315) -/

/-- The younger counts fast or slow after a heartbeat: by 0.1 % of the 25,000 ticks of its interval at most (R295). Counting slow it waits
where it stands. `offset`: how far the elder's tick is ahead, in ns. -/
def Drive.steer (offset : Int) (d : Drive) : Drive :=
  let n := min 25 (offset.natAbs / 4)
  if 0 ≤ offset then d.tickTo (d.tick + n)
  else { d with twin.tickFloor := d.tick, twin.tickBase := d.twin.tickBase - n }

/-- A HEARTBEAT arrives: liveness, acknowledged heartbeats, the measured offset of the pair ticks, the twin's own tolerance. The younger steps
forward when it is behind by more than 1 µs, else it steers (R295, R296, R315). -/
def heartbeatMsg (seq tick lastSeq lOwn : Nat) (offset : Int) (d : Drive) : Drive :=
  d.fromTwin (fun d =>
    let offsetNs := offset.natAbs
    let high := decide (40 < offsetNs + 8)
    let d := if high && !d.twin.skewHigh then d.event 0x50A Sev.warning [] else d
    let d := { d with
      twin.hbLastRx := seq, twin.hbLastRxAt := d.now, twin.hbAcked := max d.twin.hbAcked lastSeq, twin.lOwnTwin := lOwn
      twin.offsetNs := offset, twin.skewHigh := high }
    -- L falls below the wake latency of the present state (R753)
    let d := if d.tolerance * 1000 < wakeNs d.power.state then d.beginWake else d
    if d.roleBit = 1 then (if d.tick + 250 < tick then d.tickTo tick else d.steer offset).reserveTicks else d)

/-! ## Leases (R318 to R333) -/

/-- A BATCH goes on alone: its mirrors are waited for no longer, its members at the twin are executed here (R331). -/
def Drive.batchAlone (r : Req) (d : Drive) : Drive :=
  let d := r.parts.foldl (fun (d : Drive) (p : Nat × Nat) => d.twinDone p.1) d
  let open_ := r.parts.filter (fun p => match r.results[p.2]? with | some x => !x.applied | none => false)
  batchRun r.origin (batchFuel r) (d.putReq { r with phase := .active, parts := open_ })

/-- Executes again, alone, the batches that had not been decided, and the writes that had been forwarded (Table 2.9, R331). -/
def rerunAlone : List Req → Drive → Drive
  | [], d => d
  | r :: rs, d => rerunAlone rs (
      if r.phase = .coordinating then
        batchAtomicRequest r.origin (((d.release r.replyHdr.txn true).twinDone r.opId).putReq { r with phase := .active, results := [] })
      else if r.phase = .decided then d.finishTxn r
      else if r.phase = .atTwin then (d.twinDone r.opId).putReq { r with phase := .active, opId := 0 }
      else if r.hdr.opcode = 0x11 ∧ r.parts ≠ [] then d.batchAlone r
      else if r.phase = .waiting ∧ (r.needMirror = true ∨ r.needTwinProg = true) then
        ((d.twinDone r.opId).putReq { r with
          needMirror := false, needTwinProg := false, silent := false
          replyHdr := { r.replyHdr with flags := r.replyHdr.flags / 4 * 4 + 2 + r.replyHdr.flags % 2 } }).settle r.origin
      else d)

/-- Batches prepared here are aborted, except those whose COMMIT had arrived (Table 2.9). -/
def Drive.dropPrepared (d : Drive) : Drive :=
  { d with kv.holds := d.kv.holds.filter (·.coordinator), kv.prepared := [] }

/-- What waited for the twin goes on without it (R331, Table 2.9); a table change whose outcome was open is held alone, and goes to the twin
with its resync (R871). -/
def Drive.aloneNow (d : Drive) : Drive :=
  let d := d.dropPrepared.clearAllPending
  let d := rerunAlone d.kv.reqs d
  let d := { d with twin.out := d.twin.out.filter (fun x => match x.msg.body with | .table c => !c.ofTables | _ => true) }
  ({ d with kv.changes := d.kv.changes.map (fun (c : PendingChange) => { c with needAck := false }) }).finishChanges

/-- The lease is granted: HOLDER (R330, R331). -/
def Drive.becomeHolder (epoch : Nat) (d : Drive) : Drive :=
  if d.twin.state ≠ 3 then d
  else
    let d := { d with twin.state := 4, twin.epoch := epoch, twin.leaseReq := 0, twin.clearance := false, twin.assertedAt := d.now }
    (d.event 0x501 Sev.warning []).aloneNow

/-- A write may stand at the twin: its mirror is unacknowledged, it has been forwarded or its members have, or its batch is decided. -/
def Req.mayStand (r : Req) : Bool :=
  (r.phase == .waiting && (r.needMirror || r.needTwinProg)) || r.phase == .decided ||
  (r.phase == .atTwin && (isWrite r.hdr.opcode || r.hdr.opcode == 0x10)) || (r.hdr.opcode == 0x11 && !r.parts.isEmpty)

/-- What a fenced drive answers (R332, R871, Table 2.9): nothing to a write that may stand at the holder, HOME_FENCED to other requests that
waited for the twin. -/
def Drive.fencedOutcomes (d : Drive) : Drive :=
  let d := { d with kv.reqs := d.kv.reqs.filter (fun r => !r.mayStand), kv.holds := d.kv.holds.filter (fun h => !h.coordinator) }
  let d := refuseAll (fun r => r.phase == .coordinating || r.phase == .atTwin || (r.phase == .table && d.kv.changes.any (fun c => c.origin = r.origin)))
    St.homeFenced d.kv.reqs d
  { d with
    kv.changes := []
    twin.out := d.twin.out.filter (fun x => match x.msg.body with | .table c => !c.ofTables | _ => false) }

/-- A lease is held against this drive: FENCED (R332). -/
def Drive.becomeFenced (d : Drive) : Drive :=
  if d.twin.state ≠ 3 then d
  else ({ d with twin.state := 5, twin.leaseReq := 0, twin.clearance := false }).fencedOutcomes

/-! ## Handshake and resync (R294, R295, R334 to R339, R378, R382) -/

/-- Every live record of the mirrored namespaces, for the twin's full resync (R338). -/
def Drive.mirroredRecs (d : Drive) : List Rec :=
  d.kv.dir.filterMap (fun e => if (d.ns e.ns).solo then none else d.recAt e.place)

/-- The record stands for its key: it is current, or the key's latest change was this deletion. -/
def Drive.standing (d : Drive) (r : Rec) : Bool :=
  if r.deletion then !d.kv.dir.any (fun e => e.ns == r.ns && e.key == r.key) && !d.deletedAbove r
  else d.kv.dir.any (fun e => e.ns == r.ns && e.key == r.key && e.version == r.version)

/-- Records and deletions of the mirrored namespaces that have changed since the delta sequence `p`: those still in the shelf, and those that
INSERT and REMOVE deltas from `p` on name (R334). -/
def Drive.changedSince (p : Nat) (d : Drive) : List Rec :=
  let deltas := ((d.media.deltaArea ++ d.media.delta).filter (fun x => decide (p ≤ x.1) && (x.2.kind == 1 || x.2.kind == 2))).map (·.2)
  let named := fun (r : Rec) => deltas.any (fun x => x.ns == r.ns && x.version == r.version)
  ((d.shelfRecs ++ d.mediaRecs.filter (fun x => named x.2.2)).map (·.2.2)).filter (fun r => !(d.ns r.ns).solo && !r.located && d.standing r)

/-- Sends again what the twin has not acknowledged; a chunk fetch is not sent again (R300, R310). -/
def resendAll : List TwinOp → Drive → Drive
  | [], d => d
  | o :: r, d => resendAll r (if o.msg.code = 0x28 then d else d.twinSend o.msg)

/-- Erases that the twin has not acknowledged are sent ahead of HELLO, so that it applies them before it leaves JOINING (R382). -/
def resendErases : List TwinOp → Drive → Drive
  | [], d => d
  | o :: r, d => resendErases r (match o.msg.body with
    | .table (.keyErase _ _) => d.twinSend o.msg
    | _ => d)

/-- The HELLO this drive sends (Table 6.5, R378). -/
def Drive.hello (d : Drive) : TwinMsg :=
  { code := 0x38,
    body := .hello {
      pairId := d.keys.pairId, younger := d.roleBit == 1, epoch := d.twin.epoch, state := d.twin.prior, tick := d.tick
      resyncPoint := d.twin.resyncPoint
      counts := (d.keys.storage.filter (fun p => p.2.state = 0x3A)).map (fun p =>
        { tenant := p.1 / 2, serial := p.2.serial, count := d.recordsOf (p.1 / 2) p.2.serial }) } }

/-- The LINK and TRANSFER keys: derived from the export master secret of the SPDM session (R402, R417). -/
def linkKey (secret : Config.Key) : Config.Key := .derived secret 4 0

def transferKey (secret : Config.Key) : Config.Key := .derived secret 5 0

/-- The twin link comes up and SPDM authenticates the drive at its other end (R290, R402): a recorded twin is joined; another drive is
only remembered, for TWIN_ADOPT. A drive that leaves ALONE seeks no clearance (R324). -/
def twinLinkUp (serial : Nat) (authOk unpaired empty : Bool) (secret : Config.Key) (d : Drive) : Drive :=
  if (d.prt 2).link ≠ 4 ∨ (d.prt 2).localUse ≠ .used then d
  else if !authOk then { d with twin.linkUp := true, twin.authenticated := false, twin.seenUnpaired := false, twin.seenEmpty := false }
  else
    let d := { d with twin.linkUp := true, twin.seenSerial := serial, twin.seenUnpaired := unpaired, twin.seenEmpty := empty }
    let d := (d.setSys 73736 { state := 0x3D, key := linkKey secret }).setSys 73737 { state := 0x3D, key := transferKey secret }
    if d.twin.state = 0 ∨ serial ≠ d.twin.serial then { d with twin.authenticated := false }
    else
      let d := { d with twin.authenticated := true }
      if d.twin.state = 3 ∨ d.twin.state = 4 ∨ d.twin.state = 5 then
        let d := { d with twin.prior := d.twin.state, twin.state := 1, twin.joiningSince := d.now, twin.leaseReq := 0 }
        (resendErases d.twin.out d).twinSend d.hello
      else if d.twin.state = 1 then (resendErases d.twin.out { d with twin.joiningSince := d.now }).twinSend d.hello
      else d

/-- The twin's reported counts of records under PREVIOUS slots (R378). -/
def takeCounts : List SlotCount → Drive → Drive
  | [], d => d
  | c :: r, d => takeCounts r (match d.slotOfSerial c.tenant c.serial with
    | some i => d.setStslot i { d.stslot i with twinCount := c.count }
    | none => d)

/-- The twin is asked to roll, once this drive's own roll is DONE and the twin can be reached (R848). -/
def Drive.askTwinRoll (d : Drive) : Drive :=
  if d.jobs.rollTwin && d.twin.linkUp && d.twin.authenticated then
    { d with jobs.rollTwin := false }.emit (.twinRoll (((if d.optf.fwRunning = 0 then d.optf.fwA else d.optf.fwB).map Image.digest).getD 0))
  else d

/-- Both drives enter PAIRED: what was outstanding is sent again, and alone still keeps keys pending; a reservation is asked for (R300, R312,
R314). -/
def Drive.enterPaired (d : Drive) : Drive :=
  let still := d.mirroring
  let open_ := fun (ns : Nat) (key : Bytes) (v : Nat) => still.any (fun r => r.ns == ns && r.key == key && r.version == v)
  let d := { d with
    twin.state := 2, twin.prior := 2, twin.resyncSending := false, twin.bothAlone := false, twin.wasFenced := false, twin.fullResync := false
    twin.leaseReq := 0, twin.clearance := false, twin.hbLastRxAt := d.now, twin.hbAcked := d.twin.hbSeq
    twin.unmirrored := d.twin.unmirrored.filter (fun c => open_ c.1 c.2.1 c.2.2)
    kv.dir := d.kv.dir.map (fun (e : DirEnt) => { e with pending := e.pending && open_ e.ns e.key e.version })
    kv.tombs := d.kv.tombs.map (fun (t : Tomb) => { t with pending := t.pending && open_ t.ns t.key t.version }) }
  (resendAll d.twin.out d.purgeTombs).askReservation.askTwinRoll

/-- This drive lacks changes: it runs the resync as a job (R334, R827). -/
def Drive.beginResync (d : Drive) : Drive :=
  let d := d.event 0x503 Sev.notice []
  match d.jobIn 0x06 jobLive with
  | some j => if j.state = 0xB1 then d else d.putJob { j with state := 0xB1 }
  | none => d.ownJob 0x06 (b2n d.twin.fullResync)

/-- A suspended TWIN_RESYNC takes no backlog (Table 17.9). -/
def Drive.resyncHeld (d : Drive) : Bool := (d.jobIn 0x06 [0xB3]).isSome

/-- The participant answers each PREPARE again, so that the coordinator commits it, or aborts what it no longer knows (R134). -/
def tellPrepared : List Prepared → Drive → Drive
  | [], d => d
  | p :: r, d => tellPrepared r (match d.twinSeen? p.opId with
    | some (some m) => d.twinSend m
    | _ => d.twinSend { code := 0x19, opId := p.opId, aux := p.txn })

/-- The tables as a resync carries them (R140, R338). -/
def Drive.pairTables (d : Drive) : PairTables :=
  { tenants := d.kv.tenants
    rows := d.kv.nss.map (fun (p : Nat × Ns) =>
      { ns := p.1, state := p.2.state, owner := p.2.owner, located := p.2.located, solo := p.2.solo, soloWrites := p.2.soloWrites
        gen := p.2.gen, topGen := p.2.topGen, quota := p.2.quota, floor := p.2.floor }) }

/-- RESYNC_DATA of a drive that sends its twin's resync (R334, R335, R338), with its tables: what has changed since the twin's resync point,
where the delta area still holds every delta after it; else every live record, the list of live keys and the counter high-waters. -/
def Drive.resyncMsg (point : Option Nat) (d : Drive) : TwinMsg :=
  let keys := d.kv.dir.filterMap (fun e => if (d.ns e.ns).solo then none else some (e.ns, e.key))
  let full : TwinBody := .resync d.mirroredRecs (some keys) (some d.pairTables)
    ((1, d.twin.reservedTick) :: (d.keys.storage.map (fun p => [(3 + p.1, p.2.reserved), (3 + p.1, p.2.otherHigh)])).flatten)
  { code := 0x39, aux := d.media.deltaNext
    body := match point with
      | none => full
      | some p => if p < d.media.deltaOldest then full else .resync (d.changedSince p) none (some d.pairTables) [] }

/-- The coordinator ends its decided batches: the participant has lost its part with its flush, and the full resync brings it back (R134). -/
def finishDecided : List Req → Drive → Drive
  | [], d => d
  | r :: rs, d => finishDecided rs (if r.phase = .decided then d.finishTxn r else d)

/-- HELLO in JOINING: the pair ticks are merged and the handshake decides (R294, R295, R334, Table 6.2). `lacks`: the twin holds changes
after this drive's resync point, as it reports (log entry 9). -/
def helloMsg (h : HelloBody) (lacks : Bool) (d : Drive) : Drive :=
  d.fromTwinAwake (fun d =>
    if d.twin.state ≠ 1 ∨ h.pairId ≠ d.keys.pairId then d
    else
      let d := (d.tickTo h.tick).reserveTicks
      let d := tellPrepared d.kv.prepared (takeCounts h.counts d)
      let d := if h.resyncPoint.isNone then finishDecided d.kv.reqs d else d
      let fenced := d.twin.prior == 5 || (h.state == 4 && decide (d.twin.epoch < h.epoch))
      let holder := d.twin.prior == 4 || h.state == 5
      let theyLack := holder || (match h.resyncPoint with | some p => decide (p < d.twin.mirrorSeq) | none => true)
      let iLack := fenced || lacks
      let d := { d with twin.epoch := max d.twin.epoch h.epoch, twin.resGranules := 0, twin.resEntries := 0, twin.grantedGranules := 0, twin.grantedEntries := 0 }
      if iLack ∧ fenced = true then
        let d := if d.twin.prior = 5 then d else d.fencedOutcomes
        ({ d with twin.state := 6, twin.wasFenced := true, twin.fullResync := d.twin.resyncPoint.isNone, twin.hbLastRxAt := d.now }).beginResync
      else if iLack ∧ holder = false ∧ theyLack = true then
        -- both were ALONE and each lacks changes of the other (R337)
        let d := ({ d with twin.state := 6, twin.bothAlone := true, twin.resyncSending := true, twin.fullResync := d.twin.resyncPoint.isNone, twin.hbLastRxAt := d.now }).beginResync
        d.twinSend (d.resyncMsg h.resyncPoint)
      else if iLack ∧ holder = false then
        ({ d with twin.state := 6, twin.fullResync := d.twin.resyncPoint.isNone, twin.hbLastRxAt := d.now }).beginResync
      else if theyLack then
        let d := { d with twin.state := if d.twin.prior = 7 ∨ d.twin.prior = 2 then 3 else d.twin.prior, twin.resyncSending := true, twin.hbLastRxAt := d.now }
        d.twinSend (d.resyncMsg h.resyncPoint)
      else d.enterPaired)

/-- A namespace becomes what the sender's table says. One of another generation, or not in service there, keeps no entry here; a sweep of
the same generation that still runs here goes on. -/
def takeRow (d : Drive) (x : NsRow) : Drive :=
  let mine := d.ns x.ns
  let dead := x.gen != mine.gen || !(x.state == 0x21 || x.state == 0x22)
  let d := if dead then (d.revokeNs x.ns).dropEntries x.ns else d
  d.modNs x.ns (fun n => { n with
    state := if mine.state = 0x22 ∧ dead = false then 0x22 else x.state
    owner := x.owner, located := x.located, solo := x.solo, soloWrites := x.soloWrites, gen := x.gen, topGen := max n.topGen x.topGen
    quota := x.quota, floor := max n.floor x.floor, used := if dead then 0 else n.used, count := if dead then 0 else n.count })

/-- A namespace that the sender's table does not have is not there (R871). -/
def dropRow (d : Drive) (n : Nat) : Drive :=
  ((d.revokeNs n).dropEntries n).setNs n { gen := (d.ns n).gen, topGen := (d.ns n).topGen, floor := (d.ns n).floor }

/-- The sender's tables win: what this drive had changed without it is undone, keys of tenants that are gone go with them (R338, R871). -/
def Drive.takeTables (t : PairTables) (d : Drive) : Drive :=
  let d := t.rows.foldl takeRow d
  let d := ((d.kv.nss.map (·.1)).filter (fun n => !t.rows.any (fun x => x.ns == n))).foldl dropRow d
  let d := (d.kv.tenants.filter (fun t' => !t.tenants.contains t')).foldl (fun (d : Drive) t' => d.applyChange (.tenantDelete t')) d
  { d with kv.tenants := t.tenants }

/-- This drive's range of a storage slot continues above every value either drive has recorded in it; of the other range the value is kept
(R394). -/
def raiseNonce (d : Drive) (p : Nat × Nat) : Drive :=
  let s := d.stslot p.1
  if d.nonceStart ≤ p.2 ∧ p.2 ≤ d.nonceEnd then d.setStslot p.1 { s with nonce := max s.nonce p.2, reserved := max s.reserved p.2 }
  else d.setStslot p.1 { s with otherHigh := max s.otherHigh p.2 }

/-- A counter high-water of the sender, by its counter id (Table 5.6, R338): the pair tick goes on above it, as do nonce counters; an
sb_sequence is each drive's own. -/
def raiseCounter (d : Drive) (p : Nat × Nat) : Drive :=
  if p.1 = 1 then (d.tickTo p.2).reserveTicks else if 3 ≤ p.1 then raiseNonce d (p.1 - 3, p.2) else d

/-- A change that this drive had sequenced and the holder does not hold is discarded (R336): the key goes back to the newest record of it
that this drive holds below the change. -/
def Drive.discardChange (d : Drive) (c : Nat × Bytes × Nat) : Drive :=
  let same := fun (r : Rec) => r.ns == c.1 && r.key == c.2.1
  let d := d.dropDir (fun e => e.ns == c.1 && e.key == c.2.1 && e.version == c.2.2)
  let d := { d with
    kv.shelf := d.kv.shelf.filter (fun p => !(same p.2.rec_ && p.2.rec_.version == c.2.2))
    kv.tombs := d.kv.tombs.filter (fun t => !(t.ns == c.1 && t.key == c.2.1 && t.version == c.2.2)) }
  let older := (d.shelfRecs ++ d.mediaRecs).filter (fun x => same x.2.2 && decide (x.2.2.version < c.2.2))
  match keepBest older [] with
  | [x] =>
    if x.2.2.deletion || d.kv.dir.any (fun e => e.ns == c.1 && e.key == c.2.1) then d
    else
      let g := recGranules x.2.2
      let e : DirEnt := { ns := c.1, key := c.2.1, version := x.2.2.version, place := x.1, granules := g }
      (({ d with kv.dir := e :: d.kv.dir }).modNs c.1 (fun n => { n with used := n.used + g, count := n.count + 1 })).dirWatch
  | _ => d

/-- A drive whose role is decided draws from its role's range; what it has recorded of the other stays recorded (R389, R394). -/
def Drive.enterRange (d : Drive) : Drive :=
  { d with keys.storage := d.keys.storage.map (fun (p : Nat × StorageSlot) =>
      if d.nonceStart ≤ p.2.reserved then p
      else (p.1, { p.2 with nonce := d.nonceStart, reserved := d.nonceStart, otherHigh := max p.2.otherHigh p.2.reserved })) }

/-- RESYNC_DATA: records and deletions, the tables, and in a full resync the list of live keys (R335 to R338). After a fencing the holder's
state of every key and its tables win, and what this drive had sequenced alone is counted as discarded (R336, R871). Between two drives
that were both ALONE the home's state wins (R337). -/
def resyncData (recs : List Rec) (live : Option (List (Nat × Bytes))) (tables : Option PairTables) (counters : List (Nat × Nat)) (aux : Nat) (d : Drive) : Drive :=
  d.fromTwinAwake (fun d =>
    if d.twin.state ≠ 6 ∨ d.resyncHeld = true then d
    else
      let wins := fun (r : Rec) => if d.twin.bothAlone then !d.isHome r.ns r.key else true
      let held := fun (c : Nat × Bytes × Nat) => recs.any (fun r => (r.ns, r.key, r.version) == c)
      let lost := if d.twin.wasFenced then d.twin.unmirrored.filter (fun c => !held c) else []
      let d := if lost = [] then d else (lost.reverse.foldl Drive.discardChange d).event 0x505 Sev.error [lost.length]
      let d := installAll none (recs.filter wins) (if d.twin.bothAlone then d else { d with twin.unmirrored := [] })
      let absent := fun (e : DirEnt) => match live with
        | none => false
        | some ks => !(d.ns e.ns).solo && !(ks.contains (e.ns, e.key)) && !(d.twin.bothAlone && d.isHome e.ns e.key)
      let d := d.dropDir absent
      -- the tables of a drive that held the lease, or of a full resync, win (R140, R338, R871)
      let d := match tables with
        | some t => if d.twin.wasFenced || live.isSome then d.takeTables t else d
        | none => d
      { counters.foldl raiseCounter d with twin.resyncPoint := some aux, twin.fullResync := live.isSome })

/-- HOME_RETURN at the returning drive: it is home for its keys again; PAIRED (R339). -/
def homeReturn (version : Nat) (d : Drive) : Drive :=
  d.fromTwinAwake (fun d =>
    if d.twin.state ≠ 6 then d
    else if d.resyncHeld then d
    else
      -- of two drives that were both ALONE each tells the other when its part has gone (R337)
      let d := if d.twin.bothAlone && d.twin.resyncSending then d.twinSend { code := 0x3A, aux := d.kv.lastVersion } else d
      (((d.raiseTick version).event 0x504 Sev.notice []).endKind 0x06 0).enterPaired)

/-- The twin is told of each PREVIOUS slot whose count of this drive's own records has fallen to zero (R378). -/
def tellZero : List (Nat × StorageSlot) → Drive → Drive
  | [], d => d
  | (i, s) :: r, d => tellZero r (
      if s.state = 0x3A ∧ s.zeroTold = false ∧ d.twinRoom = true ∧ d.recordsOf (i / 2) s.serial = 0 then
        ((d.setStslot i { s with zeroTold := true }).sendChange (.recordsZero (i / 2) s.serial)).2
      else d)

/-- The twin is asked for what a ladder's step 3 fetches (R310). -/
def Drive.sendFetch (s : Stream) (d : Drive) : Drive :=
  let m : TwinMsg := { code := 0x28, opId := s.fetchOp, version := s.rec_.version, aux := s.chunkNo,
                       body := .fetch s.rec_.ns (fpTag (d.fingerprint s.rec_.ns s.rec_.key)) s.rec_.version s.chunkNo }
  (d.putStream { s with fetchDue := false }).twinOp { opId := s.fetchOp, origin := some s.origin, msg := m }

/-- Fetches that found no room on the twin link go out as it comes free (R301, log entry 57). -/
def sendFetches : List Stream → Drive → Drive
  | [], d => d
  | s :: r, d => sendFetches r (if s.ladder = 3 ∧ s.fetchDue = true ∧ d.twinRoom = true then d.sendFetch s else d)

/-- A heartbeat instant (R315): three unacknowledged heartbeats are a loss; otherwise one is sent. A drive that is sending its twin's
resync ends it here, once the backlog has gone: HOME_RETURN, PAIRED, LEASE_RELEASE (R339, log entry 10). -/
def heartbeatSend (d : Drive) : Drive :=
  let d := d.advanceTo ((d.now / 100000 + 1) * 100000)
  if !(d.twin.linkUp && d.twin.authenticated) || !(d.twin.state == 2 || d.twin.state == 6 || d.twin.resyncSending) then d
  else if d.twin.hbAcked + 3 ≤ d.twin.hbSeq then d.twinLost
  else
    let seq := d.twin.hbSeq + 1
    let d := (sendFetches d.kv.streams (tellZero d.keys.storage { d with twin.hbSeq := seq })).twinSend
      { code := 0x20, aux := seq, body := .heartbeat d.tick d.twin.hbLastRx d.twin.hbLastRxAt d.lOwn }
    if d.twin.resyncSending ∧ d.twin.state ≠ 6 then
      let held := d.twin.state == 4
      let d := (d.twinSend { code := 0x3A, aux := d.kv.lastVersion }).enterPaired
      if held ∧ d.twin.witness < 0x20 then d.ringSend 0x19 d.twin.witness 1 [d.twin.epoch] [] else d
    else if d.twin.resyncSending then ({ d with twin.resyncSending := false }).twinSend { code := 0x3A, aux := d.kv.lastVersion }
    else d

/-! ## Reservations (R312 to R314) -/

/-- Grants a block: a full one while more than four remain free after what was granted, else half of what remains (R313). The rule speaks of
free granules; entries are granted by the same rule on free directory entries (DESIGN CHOICE, log entry 75). -/
def grantOf (free block : Nat) : Nat := if 4 * block < free then block else free / 2

def reserveReq (granulesWanted entriesWanted : Nat) (d : Drive) : Drive :=
  d.fromTwinAwake (fun d =>
    let g := min granulesWanted (grantOf (d.capacityGranules - d.usedTotal - d.twin.grantedGranules) 16777216)
    let e := min entriesWanted (grantOf (dirLimit - d.dirCount - d.twin.grantedEntries) 1048576)
    ({ d with twin.grantedGranules := d.twin.grantedGranules + g, twin.grantedEntries := d.twin.grantedEntries + e }).twinSend
      { code := 0x22, body := .amounts g e })

def reserveGrant (g e : Nat) (d : Drive) : Drive :=
  d.fromTwinAwake (fun d =>
    let armed := d.kv.dirFullArmed2 || decide (0 < e)
    { d with twin.resGranules := d.twin.resGranules + g, twin.resEntries := d.twin.resEntries + e, twin.resAsked := false, kv.dirFullArmed2 := armed })

/-! ## Chunk fetches and table changes -/

/-- CHUNK_FETCH (R310): the sealed bytes of a record of the exact version whose tag verifies against this drive's own copy, or none. -/
def chunkFetch (opId ns tag version chunk : Nat) (verifies : Bool) (d : Drive) : Drive :=
  d.fromTwinAwake (fun d =>
    let rec? := (d.kv.dir.find? (fun e => e.ns = ns ∧ e.version = version ∧ fpTag (d.fingerprint e.ns e.key) = tag)).bind (fun e => d.recAt e.place)
    let body := match rec? with
      | some r =>
        let h := d.recHeader r
        if !verifies then none
        else if chunk = 0xFFFFFFFF then some (h ++ sealBytes r h chunk r.key)
        else some (sealBytes r h chunk (chunkBytes r.value 0 r.value.length chunk))
      | none => none
    d.twinSend { code := 0x29, opId := opId, version := version, aux := chunk, body := .chunk body })

/-- The namespace that a change sanitises. -/
def sanitised (c : TableChange) (d : Drive) : Option Nat :=
  match c with
  | .nsRaise n gen _ true => if gen ≤ (d.ns n).gen then none else some n
  | _ => none

/-- The copies and erases of an NS_SANITIZE of the twin's, on this drive too: a job of starter 3 whose generation raise is done (Tables 17.9 and
17.10, log entry 88). -/
def Drive.sanitiseHere (n : Nat) (d : Drive) : Drive :=
  ((d.startJob { id := 0, kind := 0x03, starter := 3, ns := n, p2 := 1, done_ := 1 } true).map (·.2)).getD d

/-- TABLE_CHANGE (R140, R300, R382): applied once; acknowledged when its delta is programmed. -/
def tableChangeMsg (opId seq : Nat) (c : TableChange) (d : Drive) : Drive :=
  d.fromTwinAwake (fun d =>
    match d.twinSeen? opId with
    | some _ => if d.twin.acksDue.any (fun p => p.1 = opId) then d else d.twinSend { code := 0x31, opId := opId, aux := seq }
    | none =>
      let clean := sanitised c d
      let d := (d.applyChange c).twinSeen opId none
      let d := clean.elim d (fun n => d.sanitiseHere n)
      let d := d.delta { kind := 0, version := seq }
      { d with twin.acksDue := d.twin.acksDue ++ [(opId, seq)] })

/-- TABLE_ACK: the twin holds the change (R140, R871). -/
def tableAckMsg (opId seq : Nat) (d : Drive) : Drive :=
  d.fromTwinAwake (fun d =>
    let d := d.twinDone opId
    ({ d with kv.changes := d.kv.changes.map (fun (c : PendingChange) => if c.seq = seq then { c with needAck := false } else c) }).finishChanges)

/-! ## Adoption and release (R288, R289, R340 to R343, R417) -/

/-- The drive holds a namespace, or a record of one that is going (R340). -/
def Drive.holdsNamespace (d : Drive) : Bool :=
  d.kv.nss.any (fun p => p.2.state == 0x21 || p.2.state == 0x22 || p.2.state == 0x23)

/-- A pair formed from two empty drives gets a DIRECTORY key and a pair id of its own (R417). -/
def Drive.newPairKeys (d : Drive) : Drive :=
  let n := d.keys.draws
  let (id, d) := ({ d with keys.draws := n + 1 }).draw
  { d with kv.directoryKey := .drawn n, keys.pairId := id, twin.pairId := id }.ownSlots

/-- What TWIN_ADOPT sends (R417). -/
def Drive.adoption (resync : Bool) (d : Drive) : Adoption :=
  { serial := d.ident.serial, younger := d.roleBit == 0, directoryKey := d.kv.directoryKey, pairId := d.keys.pairId, keks := d.keys.keks
    wraps := d.keys.wraps, resync := resync
    slots := (d.keys.storage.filter (fun p => p.2.state ≠ 0x38)).map (fun p =>
      { slot := p.1, state := p.2.state, serial := p.2.serial, key := p.2.key, reserved := p.2.reserved, otherHigh := p.2.otherHigh }) }

/-- TWIN_ADOPT on session 0 (R340, R341). The adoptee's role is the other of the one this drive keeps; a drive that never held one takes
its own by serial, whether or not the adoptee kept one (R288, R289; of an adoptee that did the spec says nothing: DESIGN CHOICE, log
entry 73). The keys go to the adoptee, then what it lacks and HOME_RETURN; this drive is PAIRED from then on (Table 6.2,
R338, R339, R417, log entry 80). -/
def adoptTwin (o : Origin) (d : Drive) : Drive :=
  d.withReq o [0x88] fun r d =>
    if !r.operator then d.refuse r St.notPermitted
    else if r.body.length ≠ 16 ∨ r.hdr.valueLen ≠ 16 then d.refuse r St.malformed
    else
      let serial := beNat r.body
      let st := d.twin.state
      if !(st == 0 || st == 3 || st == 4) || !d.twin.linkUp || d.twin.seenSerial != serial || !d.twin.seenUnpaired || !d.twin.seenEmpty then
        d.conflict r st 0x06
      else
        let role := match d.twin.role with
          | some x => x
          | none => if d.ident.serial < serial then 0 else 1
        let full := d.holdsNamespace
        let d := if full then d else d.newPairKeys
        let d := ({ d with
          twin.role := some role, twin.serial := serial, twin.authenticated := true, twin.out := [], twin.resyncPoint := some 0 }).enterRange
        let d := (d.emit (.adoption (d.adoption full))).event 0x506 Sev.notice []
        let d := if full then (d.twinSend (d.resyncMsg none)).twinSend { code := 0x3A, aux := d.kv.lastVersion } else d
        d.enterPaired.reply o (echo r.hdr) []

/-- The adoptee's part of TWIN_ADOPT: an UNPAIRED drive that holds no namespace takes the pair's keys, its role and its twin. It keeps its own
LOCATOR key. Where a full resync follows it runs that as any returning drive does (R289, R334, R340, R341, R394, R417, log entry 80). -/
def Drive.adopted (a : Adoption) (d : Drive) : Drive :=
  if d.twin.state ≠ 0 ∨ d.twin.linkUp = false ∨ d.twin.seenSerial ≠ a.serial ∨ d.holdsNamespace = true then d
  else
    let d := { d with
      twin.role := some (b2n a.younger), twin.serial := a.serial, twin.pairId := a.pairId, twin.authenticated := true
      twin.wasFenced := false, twin.bothAlone := false, twin.fullResync := a.resync, twin.out := [], twin.hbLastRxAt := d.now
      twin.hbAcked := d.twin.hbSeq, kv.directoryKey := a.directoryKey, keys.pairId := a.pairId }
    let d := a.keks.foldl (fun (d : Drive) k => ({ d with keys.keks := tput k.1 k.2 d.keys.keks }).vaultPut (vaultId 1 k.1) k.2) d
    let d := a.wraps.foldl (fun (d : Drive) k => d.applyChange (.wrapKey k.1 k.2)) d
    let d := a.slots.foldl (fun (d : Drive) s =>
      (d.setStslot s.slot { d.stslot s.slot with state := s.state, serial := s.serial, key := s.key }).vaultPut (vaultId 3 s.slot) s.key) d.enterRange
    let d := a.slots.foldl (fun (d : Drive) s => raiseNonce (raiseNonce d (s.slot, s.reserved)) (s.slot, s.otherHigh)) d.enterRange
    let d := d.ownSlots.event 0x506 Sev.notice []
    if a.resync then ({ d with twin.state := 6 }).beginResync else d.enterPaired

/-- TWIN_ADOPT: the operator's request at the adopting drive, or what it sends, at the adoptee. -/
def twinAdopt (o : Origin) (items : Option Adoption) (d : Drive) : Drive :=
  match items with
  | none => adoptTwin o d
  | some a => d.awaken.adopted a

/-- TWIN_RELEASE (R342): HOLDER or ALONE, or FENCED with FORCE. -/
def twinRelease (o : Origin) (d : Drive) : Drive :=
  d.withReq o [0x89] fun r d =>
    let st := d.twin.state
    if d.originTenant r ≠ 0 then d.refuse r St.notPermitted
    else if st = 3 ∨ st = 4 ∨ (st = 5 ∧ bit 0 r.hdr.flags = true) then
      let d := if st = 5 then d.event 0x507 Sev.critical [] else d
      let d := { d with
        twin.state := 0, twin.prior := 0, twin.serial := 0, twin.authenticated := false, twin.leaseReq := 0, twin.clearance := false
        twin.unmirrored := [] }
      ({ d.aloneNow with twin.out := [] }).reply o (echo r.hdr) []
    else d.conflict r st 0x06

def execFwdWrite (opId aux : Nat) (tag : WorkTag) (h : OpHdr) (body : Bytes) (s : State) : Host.Outcome State Fault Refusal := s.onMain (fwdWrite opId aux tag h body)
def execFwdRead (opId aux : Nat) (tag : WorkTag) (h : OpHdr) (body : Bytes) (s : State) : Host.Outcome State Fault Refusal := s.onMain (fwdRead opId aux tag h body)
def execFwdReply (opId : Nat) (h : OpHdr) (body : Bytes) (s : State) : Host.Outcome State Fault Refusal := s.onMain (fwdReply opId h body)
def execFwdData (opId chunk : Nat) (bytes : Bytes) (s : State) : Host.Outcome State Fault Refusal := s.onMain (fwdData opId chunk bytes)
def execMirror (opId flags version aux : Nat) (final : Bool) (bytes : Bytes) (recs : List Rec) (s : State) : Host.Outcome State Fault Refusal := s.onMain (mirrorMsg opId flags version aux final bytes recs)
def execMirrorAck (opId : Nat) (programmed : Bool) (s : State) : Host.Outcome State Fault Refusal := s.onMain (mirrorAck opId programmed)
def execPrepare (opId txn : Nat) (tag : WorkTag) (h : OpHdr) (body : Bytes) (seals : List (Nat × Nat)) (s : State) : Host.Outcome State Fault Refusal := s.onMain (prepareMsg opId txn tag h body seals)
def execPrepared (txn : Nat) (outcomes : List MemberResult) (s : State) : Host.Outcome State Fault Refusal := s.onMain (preparedMsg txn outcomes)
def execRefused (txn : Nat) (s : State) : Host.Outcome State Fault Refusal := s.onMain (refusedMsg txn)
def execCommit (opId txn version : Nat) (s : State) : Host.Outcome State Fault Refusal := s.onMain (commitMsg opId txn version)
def execAbort (txn : Nat) (s : State) : Host.Outcome State Fault Refusal := s.onMain (abortMsg txn)
def execCommitted (txn : Nat) (s : State) : Host.Outcome State Fault Refusal := s.onMain (committedMsg txn)
def execPrepareTimeout (txn : Nat) (s : State) : Host.Outcome State Fault Refusal := s.onMain (prepareTimeout txn)
def execHeartbeat (seq tick lastSeq lOwn : Nat) (offset : Int) (s : State) : Host.Outcome State Fault Refusal := s.onMain (heartbeatMsg seq tick lastSeq lOwn offset)
def execHeartbeatSend (s : State) : Host.Outcome State Fault Refusal := s.onMain heartbeatSend
def execReserveReq (granulesWanted entriesWanted : Nat) (s : State) : Host.Outcome State Fault Refusal := s.onMain (reserveReq granulesWanted entriesWanted)
def execReserveGrant (g e : Nat) (s : State) : Host.Outcome State Fault Refusal := s.onMain (reserveGrant g e)
def execChunkFetch (opId ns tag version chunk : Nat) (verifies : Bool) (s : State) : Host.Outcome State Fault Refusal := s.onMain (chunkFetch opId ns tag version chunk verifies)
def execTableChange (opId seq : Nat) (c : TableChange) (s : State) : Host.Outcome State Fault Refusal := s.onMain (tableChangeMsg opId seq c)
def execTableAck (opId seq : Nat) (s : State) : Host.Outcome State Fault Refusal := s.onMain (tableAckMsg opId seq)
def execHello (h : HelloBody) (lacks : Bool) (s : State) : Host.Outcome State Fault Refusal := s.onMain (helloMsg h lacks)
def execResyncData (recs : List Rec) (live : Option (List (Nat × Bytes))) (tables : Option PairTables) (counters : List (Nat × Nat)) (aux : Nat) (s : State) : Host.Outcome State Fault Refusal := s.onMain (resyncData recs live tables counters aux)
def execHomeReturn (version : Nat) (s : State) : Host.Outcome State Fault Refusal := s.onMain (homeReturn version)
def execTwinLinkUp (serial : Nat) (authOk unpaired empty : Bool) (secret : Config.Key) (s : State) : Host.Outcome State Fault Refusal := s.onMain (twinLinkUp serial authOk unpaired empty secret)
def execTwinLinkDownTimeout (s : State) : Host.Outcome State Fault Refusal := s.onMain twinLinkDownTimeout
def execHeartbeatSilence (s : State) : Host.Outcome State Fault Refusal := s.onMain heartbeatSilence
def execJoiningTimeout (s : State) : Host.Outcome State Fault Refusal := s.onMain joiningTimeout
def execTwinAdopt (o : Origin) (items : Option Adoption) (s : State) : Host.Outcome State Fault Refusal := s.onMain (twinAdopt o items)
def execTwinRelease (o : Origin) (s : State) : Host.Outcome State Fault Refusal := s.onMain (twinRelease o)

end Sys2Proof.Machine
end

