-- ==== Sys2Proof/Machine/Witness.lean ====
section
/-! DEFINITION. Machine/Witness.lean: takeover leases: the drive as a hedgerow witness of other pairs (R319 to R322), as a drive that
seeks or holds a lease (R320 to R327, R874), and TWIN.WITNESS and TWIN.WITNESS_CTL (R317, R318, R323, R324, R866, R867). -/

namespace Sys2Proof.Machine
open Sys2Proof

/-- The other position of a pair (R287). -/
def twinPos (p : Nat) : Nat := if p % 2 = 0 then p + 1 else p - 1

/-- Reasons of LEASE_DENY: the spec names them TWIN_ALIVE and FENCED and gives no codes (DESIGN CHOICE, log entry 74). -/
abbrev denyTwinAlive : Nat := 0
abbrev denyFenced : Nat := 1

def Drive.served (d : Drive) (pos : Nat) : WitnessRec := tgetD (pos / 2) {} d.ring.served

def Drive.setServed (pos : Nat) (w : WitnessRec) (d : Drive) : Drive := { d with ring.served := tput (pos / 2) w d.ring.served }

/-- The witness has heard from `pos`: a request pending of its twin counts its silence afresh. -/
def WitnessRec.hear (pos now : Nat) (w : WitnessRec) : WitnessRec :=
  { w with pend := w.pend.map (fun p => if p.1 = twinPos pos then (p.1, now) else p) }

/-- The request of the drive at `pos` is denied because its twin is alive (R320). -/
def Drive.denyAlive (pos : Nat) (d : Drive) : Drive :=
  let w := d.served pos
  if w.pend.any (fun p => p.1 = pos) then
    (d.setServed pos { w with pend := w.pend.filter (fun p => p.1 ≠ pos) }).ringSend 0x12 pos 1 [denyTwinAlive, w.epoch] []
  else d

/-- LEASE_REQ at the witness (R320, R321, R874). -/
def leaseReq (src seq epoch : Nat) (d : Drive) : Drive :=
  d.fromRing src seq (fun d =>
    let w := (d.served src).hear src d.now
    if w.fenced = some src then
      ((d.setServed src w).ringSend 0x12 src 1 [denyFenced, w.epoch] []).ringSend 0x17 src 1 [w.epoch] []
    else if w.pend.any (fun p => p.1 = src) then d.setServed src w
    else
      (d.setServed src { w with epoch := max w.epoch epoch, pend := w.pend ++ [(src, d.now)], probeAt := d.now }).ringSend
        0x13 (twinPos src) 1 [] [])

/-- A drive answers a witness's probe (R320). -/
def probeMsg (src seq : Nat) (d : Drive) : Drive := d.fromRing src seq (fun d => d.ringSend 0x14 src 1 [] [])

/-- PROBE_ANSWER at the witness: the twin of the requester is alive (R320). -/
def probeAnswer (src seq : Nat) (d : Drive) : Drive :=
  d.fromRing src seq (fun d => (d.setServed src ((d.served src).hear src d.now)).denyAlive (twinPos src))

/-- A probe instant of a pair: 250 µs after the last, the twin of each pending requester is probed (R320). -/
def witnessProbeTick (pair : Nat) (d : Drive) : Drive :=
  match tget? pair d.ring.served with
  | none => d
  | some w =>
    if w.pend = [] then d
    else
      let d := d.advanceTo (w.probeAt + 250000)
      let d := { d with ring.served := tput pair { w with probeAt := d.now } d.ring.served }
      w.pend.foldl (fun (d : Drive) (p : Nat × Nat) => d.ringSend 0x13 (twinPos p.1) 1 [] []) d

/-- 3 ms of silence from the requester's twin (R320): the lease is granted, the epoch rises by 1 and the twin is recorded fenced. No
grant is made during the freeze (R319), nor to a fenced drive (R321). -/
def witnessGrantHold (pos : Nat) (d : Drive) : Drive :=
  let w := d.served pos
  match w.pend.find? (fun p => p.1 = pos) with
  | none => d
  | some (_, quiet) =>
    let d := d.advanceTo (quiet + 3000000)
    if d.now < d.ring.freezeUntil then d
    else
      let e := w.epoch + 1
      let other := twinPos pos
      let d := d.setServed pos { w with epoch := e, holder := some pos, fenced := some other, pend := [] }
      let d := d.ringSend 0x11 pos 1 [e] []
      if w.pend.any (fun p => p.1 = other) then (d.ringSend 0x12 other 1 [denyFenced, e] []).ringSend 0x17 other 1 [e] [] else d

/-- The end of the grant freeze (R319). -/
def witnessFreezeEnd (d : Drive) : Drive := { d.advanceTo d.ring.freezeUntil with ring.freezeUntil := 0 }

/-- CLEAR at the witness: answered CLEARED unless a lease is held against the sender (R320, R321, R326). -/
def clearMsg (src seq : Nat) (d : Drive) : Drive :=
  d.fromRing src seq (fun d =>
    let d := (d.setServed src ((d.served src).hear src d.now)).denyAlive (twinPos src)
    if (d.served src).fenced = some src then d.ringSend 0x17 src 1 [(d.served src).epoch] []
    else d.ringSend 0x16 src 1 [] [])

/-- LEASE_ASSERT at the witness: a record that has been lost is restored (R322). -/
def leaseAssert (src seq epoch : Nat) (d : Drive) : Drive :=
  d.fromRing src seq (fun d =>
    let w := (d.served src).hear src d.now
    if w.holder.isNone && w.fenced.isNone then
      d.setServed src { w with epoch := max w.epoch epoch, holder := some src, fenced := some (twinPos src) }
    else d.setServed src w)

/-- LEASE_RELEASE at the witness, at the end of resync (R339). -/
def leaseRelease (src seq : Nat) (d : Drive) : Drive :=
  d.fromRing src seq (fun d =>
    let w := d.served src
    if w.holder = some src then d.setServed src { w with holder := none, fenced := none, pend := [] } else d)

/-! ## The drive that seeks or holds a lease -/

/-- LEASE_GRANT from the drive's witness (R330, R331). -/
def leaseGrant (src seq epoch : Nat) (d : Drive) : Drive :=
  d.fromRing src seq (fun d => if src = d.twin.witness then d.becomeHolder epoch else d)

/-- LEASE_DENY from the drive's witness (R321, R874, Table 2.9). -/
def leaseDeny (src seq reason : Nat) (d : Drive) : Drive :=
  d.fromRing src seq (fun d =>
    if src ≠ d.twin.witness ∨ d.twin.state ≠ 3 then d
    else if reason = denyFenced then d.becomeFenced
    else noLease d.kv.reqs { d with twin.leaseDenied := true, twin.leaseSentAt := d.now })

/-- FENCED_NOTICE (R321). -/
def fencedNotice (src seq : Nat) (d : Drive) : Drive :=
  d.fromRing src seq (fun d => if src = d.twin.witness then d.becomeFenced else d)

/-- 5 ms after the last LEASE_REQ or its denial a drive in ALONE asks again (R874). -/
def leaseReqResend (d : Drive) : Drive :=
  if d.twin.state = 3 ∧ d.twin.witness < 0x20 then (d.advanceTo (d.twin.leaseSentAt + 5000000)).seekLease else d

/-- Every 500 µs a drive in ALONE sends CLEAR to its hedgerow witness (R326). -/
def clearSend (d : Drive) : Drive :=
  if d.twin.state = 3 ∧ d.twin.witness < 0x20 then
    let d := d.advanceTo (d.twin.clearSentAt + 500000)
    ({ d with twin.clearSentAt := d.now }).ringSend 0x15 d.twin.witness 1 [] []
  else d

/-- CLEARED: the drive accepts the writes of R326 for 2 ms from the sending of the CLEAR it answers. The message names none: it is taken
for the answer to the latest (DESIGN CHOICE, log entry 76). -/
def cleared (src seq : Nat) (d : Drive) : Drive :=
  d.fromRing src seq (fun d =>
    if src = d.twin.witness ∧ d.twin.state = 3 then { d with twin.clearance := true, twin.clearUntil := d.twin.clearSentAt + 2000000 }
    else d)

/-- A clearance lapses (R324, R326). -/
def clearanceLapse (d : Drive) : Drive :=
  if d.twin.clearance then { d.advanceTo d.twin.clearUntil with twin.clearance := false } else d

/-- Every 10 ms a holder asserts its lease (R322). -/
def leaseAssertSend (d : Drive) : Drive :=
  if d.twin.state = 4 ∧ d.twin.witness < 0x20 then
    let d := d.advanceTo (d.twin.assertedAt + 10000000)
    ({ d with twin.assertedAt := d.now }).ringSend 0x18 d.twin.witness 1 [d.twin.epoch] []
  else d

/-! ## TWIN.WITNESS and TWIN.WITNESS_CTL -/

/-- A write of TWIN.WITNESS_CTL (R323, R324, R866). CLEAR says that no lease is granted: cross-home batches end as for a denied lease
(Table 2.9). -/
def witnessCtl (ch v : Nat) (d : Drive) : Wr :=
  if ch ≠ 0 then .bad St.notPermitted d
  else if v ≠ 1 ∧ v ≠ 2 ∧ v ≠ 3 then .bad St.malformed d
  else if d.twin.witness ≠ 0x3E ∨ (v = 1 ∧ d.twin.state ≠ 3) ∨ (v = 2 ∧ d.twin.state = 4) then .conflict d.twin.state 0x06 d
  else if v = 1 then .ok (d.becomeHolder (d.twin.epoch + 1))
  else if v = 2 then
    .ok (if d.twin.state = 1 ∧ (d.twin.prior = 3 ∨ d.twin.prior = 7) then ({ d with twin.prior := 5 }).fencedOutcomes else d.becomeFenced)
  else .ok (if d.twin.state = 3 then noLease d.kv.reqs { d with twin.clearance := true, twin.clearUntil := d.now + 2000000 } else d)

/-- A write of TWIN.WITNESS (R317, R318, R867). -/
def witnessWrite (v : Nat) (d : Drive) : Wr :=
  if !(decide (v < 0x20) || v == 0x3E || v == 0x3F) then .bad St.malformed d
  else if d.twin.state ≠ 2 then .conflict d.twin.state 0x06 d
  else if v = d.twin.witness then .ok d
  else .ok (({ d with twin.witness := v }).event 0x543 Sev.notice [])

def execLeaseReq (src seq epoch : Nat) (s : State) : Host.Outcome State Fault Refusal := s.onMain (leaseReq src seq epoch)
def execLeaseReqResend (s : State) : Host.Outcome State Fault Refusal := s.onMain leaseReqResend
def execProbe (src seq : Nat) (s : State) : Host.Outcome State Fault Refusal := s.onMain (probeMsg src seq)
def execProbeAnswer (src seq : Nat) (s : State) : Host.Outcome State Fault Refusal := s.onMain (probeAnswer src seq)
def execWitnessProbeTick (pair : Nat) (s : State) : Host.Outcome State Fault Refusal := s.onMain (witnessProbeTick pair)
def execWitnessGrantHold (pos : Nat) (s : State) : Host.Outcome State Fault Refusal := s.onMain (witnessGrantHold pos)
def execLeaseGrant (src seq epoch : Nat) (s : State) : Host.Outcome State Fault Refusal := s.onMain (leaseGrant src seq epoch)
def execLeaseDeny (src seq reason : Nat) (s : State) : Host.Outcome State Fault Refusal := s.onMain (leaseDeny src seq reason)
def execFencedNotice (src seq : Nat) (s : State) : Host.Outcome State Fault Refusal := s.onMain (fencedNotice src seq)
def execClear (src seq : Nat) (s : State) : Host.Outcome State Fault Refusal := s.onMain (clearMsg src seq)
def execClearSend (s : State) : Host.Outcome State Fault Refusal := s.onMain clearSend
def execCleared (src seq : Nat) (s : State) : Host.Outcome State Fault Refusal := s.onMain (cleared src seq)
def execClearanceLapse (s : State) : Host.Outcome State Fault Refusal := s.onMain clearanceLapse
def execLeaseAssert (src seq epoch : Nat) (s : State) : Host.Outcome State Fault Refusal := s.onMain (leaseAssert src seq epoch)
def execLeaseAssertSend (s : State) : Host.Outcome State Fault Refusal := s.onMain leaseAssertSend
def execLeaseRelease (src seq : Nat) (s : State) : Host.Outcome State Fault Refusal := s.onMain (leaseRelease src seq)
def execWitnessFreezeEnd (s : State) : Host.Outcome State Fault Refusal := s.onMain witnessFreezeEnd
def execWitnessGrant (ch : Nat) (s : State) : Host.Outcome State Fault Refusal := s.onMain (attrCmd ch 0x0603 (witnessCtl ch 1))
def execWitnessFence (ch : Nat) (s : State) : Host.Outcome State Fault Refusal := s.onMain (attrCmd ch 0x0603 (witnessCtl ch 2))
def execWitnessClear (ch : Nat) (s : State) : Host.Outcome State Fault Refusal := s.onMain (attrCmd ch 0x0603 (witnessCtl ch 3))
def execWitnessWrite (ch v : Nat) (s : State) : Host.Outcome State Fault Refusal := s.onMain (attrCmd ch 0x0602 (witnessWrite v))

end Sys2Proof.Machine
end

