-- ==== Sys2Proof/Machine/Hedgerow.lean ====
section
/-! DEFINITION. Machine/Hedgerow.lean: the ring's links, its map and the frames it forwards (R348 to R352, R403). -/

namespace Sys2Proof.Machine
open Sys2Proof

/-- RING_HELLO from the member at `src` (R349, R350, R403). `direct`: it comes from the neighbour itself, and tells the positions
`reach` that lie that way (log entry 11). -/
def ringHello (src : Nat) (east direct : Bool) (keyHash serial cycles random reach : Nat) (d : Drive) : Drive :=
  if !d.ringKeyed || keyHash != d.operatorKeyHash || src == d.mod.slotId then d
  else
    let known := tget? src d.keys.ringSenders == some (serial, cycles, random)
    let d := { d with
      keys.ringSenders := tput src (serial, cycles, random) d.keys.ringSenders
      ring.seqIn := if known then d.ring.seqIn else d.ring.seqIn.filter (fun x => x.1 ≠ src) }.ringSlots
    if !direct then d
    else
      let x := d.ring.side east
      let mask := clrBit d.mod.slotId (reach ||| 2 ^ src)
      let d := if x.broken then d.event 0x541 Sev.notice [] else d
      { d with ring := d.ring.setSide east { x with up := true, broken := false, helloAt := d.now, downAt := none, reach := mask } }

/-- Every 1 ms RING_HELLO goes out on each ring link (R349); it carries this drive's key parameters (R403). -/
def ringHelloSend (d : Drive) : Drive :=
  if !d.ringKeyed then d
  else
    let d := d.advanceTo (d.ring.helloSent + 1000000)
    let d := { d with ring.helloSent := d.now }
    let hello : Out := .ring 0x01 none 0 [tgetD 32 0 d.ring.seqOut, d.mod.slotId, d.ident.serial, d.time.powerCycles, d.keys.ringRandom, d.operatorKeyHash, d.ringMap] []
    let d := { d with ring.seqOut := tmod 32 0 (· + 1) d.ring.seqOut }
    -- a side's address is used once no duplicate has been found (R492)
    let d := if (d.prt 3).localUse = .used then ringTx true hello d else d
    if (d.prt 4).localUse = .used then ringTx false hello d else d

/-- A ring link is declared broken: 50 µs down, or three intervals without RING_HELLO (R349). -/
def ringLinkLoss (east : Bool) (d : Drive) : Drive :=
  let x := d.ring.side east
  if !x.up then d
  else
    let d := d.advanceTo (match x.downAt with | some t => t + 50000 | none => x.helloAt + 3000000)
    ({ d with ring := d.ring.setSide east { x with up := false, broken := true, reach := 0 } }).event 0x540 Sev.warning []

/-- Forwards one frame (R350, R351): a broadcast goes on away from where it came. -/
def forwardFrame (f : RingFrame) (d : Drive) : Drive :=
  if f.hops = 0 then { d with ring.hopDrops := (d.ring.hopDrops + 1) % 2 ^ 64 }
  else
    let way := if f.broadcast then (if (d.ring.side (!f.east)).up then some (!f.east) else none) else d.ringWay f.dest
    match way with
    | some e => d |> ringTx e (.ring f.code (if f.broadcast then none else some f.dest) f.cls [f.seq, f.src, f.hops - 1, b2n e] [])
    | none => d

/-- The frames waiting to be forwarded leave by class, 0 first (R351). A frame for this drive is not among them. -/
def ringForward (fs : List RingFrame) (d : Drive) : Drive :=
  let fs := fs.filter (fun f => f.broadcast || f.dest != d.mod.slotId)
  [0, 1, 2, 3].foldl (fun (d : Drive) c => (fs.filter (fun f => f.cls = c)).foldl (fun (d : Drive) (f : RingFrame) => forwardFrame f d) d) d

def execRingHello (src : Nat) (east direct : Bool) (keyHash serial cycles random reach : Nat) (s : State) : Host.Outcome State Fault Refusal := s.onMain (ringHello src east direct keyHash serial cycles random reach)
def execRingHelloSend (s : State) : Host.Outcome State Fault Refusal := s.onMain ringHelloSend
def execRingLinkLoss (east : Bool) (s : State) : Host.Outcome State Fault Refusal := s.onMain (ringLinkLoss east)
def execRingFrameForward (fs : List RingFrame) (s : State) : Host.Outcome State Fault Refusal := s.onMain (ringForward fs)

end Sys2Proof.Machine
end

