-- ==== Sys2Proof/Machine/Shears.lean ====
section
/-! DEFINITION. Machine/Shears.lean: admission of waiting requests (R471 to R476). -/

namespace Sys2Proof.Machine
open Sys2Proof

/-- Admission charges one operation and the request's payload to every bucket the tenant has (R472). -/
def Shaper.charge (bytes : Nat) (s : Shaper) : Shaper :=
  let c := fun (rate n : Nat) (b : Int) => if rate = 0 then b else b - Int.ofNat n * 1000000000
  { s with
    bResOps := c s.resOps 1 s.bResOps, bLimOps := c s.limOps 1 s.bLimOps
    bResBytes := c s.resKbps bytes s.bResBytes, bLimBytes := c s.limKbps bytes s.bLimBytes }

/-- How far off a deadline is, passed ones first (R12). -/
def urgency (now deadline : Nat) : Nat := (deadline + 2 ^ 40 + 2 ^ 39 - now % 2 ^ 40) % 2 ^ 40

/-- The earliest deadline, the earlier arrival among equal ones (R474). -/
def earliest (now : Nat) : List Req → Option Req
  | [] => none
  | r :: rs => match earliest now rs with
    | none => some r
    | some b => if urgency now r.tag.deadline ≤ urgency now b.tag.deadline then some r else some b

/-- The request to admit among eligible ones: class 0 strictly first, then classes 1 to 7 by weighted round robin; with it the credits
left (R474, log entry 12). -/
def pickClass (now : Nat) (rs : List Req) (credits weights : List Nat) : Option (Req × List Nat) :=
  match earliest now (rs.filter (fun r => r.tag.qos = 0)) with
  | some r => some (r, credits)
  | none =>
    let classes := (List.range 7).filter (fun c => rs.any (fun r => r.tag.qos = c + 1))
    let take := fun (cr : List Nat) => (classes.find? (fun c => cr.getD c 0 ≠ 0)).bind (fun c =>
      (earliest now (rs.filter (fun r => r.tag.qos = c + 1))).map (fun r => (r, cr.set c (cr.getD c 0 - 1))))
    (take credits).orElse (fun _ => take weights)

/-- Shears admits the next request of a port, if one is eligible (R472 to R474). -/
def shearsAdmit (port : Nat) (d : Drive) : Drive :=
  let rs := d.kv.reqs.filter (fun r => r.phase = .queued ∧ r.input = port)
  let res := rs.filter (fun r => (d.shaper r.tag.tenant).reserved)
  let exc := rs.filter (fun r => (d.shaper r.tag.tenant).excess)
  let credits := if port = 0 then d.xp.creditsA else d.xp.creditsB
  match (pickClass d.nowUs res credits d.xp.classWeights).orElse (fun _ => pickClass d.nowUs exc credits d.xp.classWeights) with
  | none => d
  | some (r, cr) =>
    let t := r.tag.tenant
    let d := { d with
      xp.creditsA := if port = 0 then cr else d.xp.creditsA
      xp.creditsB := if port = 0 then d.xp.creditsB else cr
      xp.shapers := tput t ((d.shaper t).charge r.body.length) d.xp.shapers }
    let d := d.putReq { r with phase := .active }
    match r.origin with
    | .session sid rid => d.modSess sid (fun s => { s with ring := s.ring.map (fun x => if x.rid = rid then { x with state := 3 } else x) })
    | _ => d

def execShearsAdmit (port : Nat) (s : State) : Host.Outcome State Fault Refusal := s.onMain (shearsAdmit port)

end Sys2Proof.Machine
end

