-- ==== Sys2Proof/Machine/Holly.lean ====
section
/-! DEFINITION. Machine/Holly.lean: the checked pairs: dispatch, mismatches and compatibility contexts (R404 to R414). -/

namespace Sys2Proof.Machine
open Sys2Proof

def Drive.pair (d : Drive) (p : Nat) : HollyPair := tgetD p {} d.holly.pairs

def Drive.setPair (p : Nat) (x : HollyPair) (d : Drive) : Drive := { d with holly.pairs := tput p x d.holly.pairs }

/-- SEC.HOLLY_PAIRS_ACTIVE (Table 7.15). -/
def Drive.pairsActive (d : Drive) : Nat :=
  (List.range 12).foldl (fun m p => if (d.pair p).inService then m + 2 ^ p else m) 0

/-- A request fails with INTERNAL_ERROR: in its trailer once its header has gone, else in its reply (R58, R408). One that has been
sequenced has its effect and is not failed (R47, R80). -/
def Drive.failInternal (o : Origin) (d : Drive) : Drive :=
  match d.req? o, d.stream? o with
  | none, _ => d
  | some r, some s => if s.started then d.endRead s St.internalError s.next else d.refuseRead r St.internalError
  | some r, none =>
    if r.phase = .queued ∨ r.phase = .active ∨ r.phase = .sealed then d.refuseAny r St.internalError else d

/-- What a mismatch or the want of a pair leaves of a request (Table 7.12). -/
def hollyFail (q : HollyReq) (d : Drive) : Drive :=
  match q.use with
  | 2 => d
  | 6 => { d with holly.importError := true }
  | _ => match q.origin with
    | some o => d.failInternal o
    | none => d

/-- A checked-lane mismatch on pair `p`: the fault is counted and charged, the third quarantines the pair, the third quarantine retires
it (R408, R409). -/
def hollyMismatch (p : Nat) (q : HollyReq) (d : Drive) : Drive :=
  let x := d.pair p
  let x := { x with faults := x.faults + 1 }
  let d := ({ d with holly.faults := satAdd 64 d.holly.faults 1 }).event 0x400 Sev.error [p] q.tag
  let d := if x.faults < 3 then d.setPair p x
    else
      let x := { x with inService := false, quarantines := x.quarantines + 1, retired := x.retired || decide (3 ≤ x.quarantines + 1) }
      let d := (d.setPair p x).event 0x401 Sev.critical []
      if x.retired then d.event 0x402 Sev.critical [] else d
  -- a departing frame is sealed again on another pair
  if q.use = 3 then { d with holly.waiting := { q with notPair := some p } :: d.holly.waiting } else hollyFail q d

/-- The pair that a request takes: the first free one in service after the pair last given, never the one that faulted (R406). -/
def Drive.freePair (d : Drive) (no : Option Nat) : Option Nat :=
  ((List.range 12).map (fun i => (d.holly.lastGiven + 1 + i) % 12)).find? (fun p =>
    (d.pair p).inService && (tget? p d.holly.running).isNone && no != some p)

/-- The waiting request with the earliest deadline, then the lower class, then the earlier arrival (R406). -/
def nextHolly (now : Nat) : List HollyReq → Option HollyReq
  | [] => none
  | q :: r => match nextHolly now r with
    | none => some q
    | some b =>
      let a := urgency now q.tag.deadline
      let c := urgency now b.tag.deadline
      if a < c ∨ (a = c ∧ (q.tag.qos < b.tag.qos ∨ (q.tag.qos = b.tag.qos ∧ q.arrival ≤ b.arrival))) then some q else some b

/-- Gives free pairs to waiting requests. With no pair in service every waiting request fails (R409). -/
def giveHolly : Nat → Drive → Drive
  | 0, d => d
  | k + 1, d =>
    match nextHolly d.nowUs d.holly.waiting with
    | none => d
    | some q =>
      let rest := removeFirst (· == q) d.holly.waiting
      if d.pairsActive = 0 then giveHolly k (hollyFail q { d with holly.waiting := rest })
      else match d.freePair q.notPair with
        | none => d
        | some p => giveHolly k { d with holly.waiting := rest, holly.running := tput p q d.holly.running, holly.lastGiven := p }

/-- Requests reach Holly and a pair frees, its request done or stopped by a mismatch; free pairs are given out (R406 to R409). -/
def hollyDispatch (arrivals : List HollyReq) (freed : Option Nat) (mismatch : Bool) (d : Drive) : Drive :=
  let d := { d with holly.waiting := d.holly.waiting ++ arrivals.map (fun q => { q with arrival := d.now }) }
  let d := match freed.bind (fun p => (tget? p d.holly.running).map (fun q => (p, q))) with
    | none => d
    | some (p, q) =>
      let d := { d with holly.running := tdel p d.holly.running }
      if mismatch then hollyMismatch p q d else d
  giveHolly d.holly.waiting.length d

/-- The 64 bytes of a compatibility context before it is wrapped (Table 7.13). -/
def contextBytes (c : CompatContext) : Bytes :=
  beBytes 16 c.counterBlock ++ beBytes 16 c.ghash ++ beBytes 8 c.aadBytes ++ beBytes 8 c.dataBytes ++ beBytes 4 73734 ++ beBytes 8 c.resumeId ++ beBytes 4 0

/-- A compatibility request is suspended at a block boundary when a native request has waited 1 µs; its context is wrapped under an
identifier of its own (R413). Counter block, GHASH and AAD length follow from the export's bytes, which the model does not hold: free
values. -/
def compatSuspend (blocks : Nat) (d : Drive) : Drive :=
  match d.holly.running.find? (fun p => p.2.use = 6), nextHolly d.nowUs (d.holly.waiting.filter (fun q => q.use ≠ 6)) with
  | some (p, _), some q =>
    let d := d.advanceTo (q.arrival + 1000)
    let (cb, d) := d.fresh
    let (gh, d) := d.fresh
    let (aad, d) := d.fresh
    let d := { d with
      holly.running := tdel p d.holly.running
      holly.contexts := d.holly.contexts ++ [{ resumeId := d.holly.nextResume, counterBlock := cb % 2 ^ 128, ghash := gh % 2 ^ 128, aadBytes := aad, dataBytes := 16 * blocks }]
      holly.nextResume := d.holly.nextResume + 1 }
    giveHolly d.holly.waiting.length d
  | _, _ => d

/-- A context is presented back: resumed once, while it is outstanding and unwraps under the present CONTEXT key; otherwise the import
step fails with INTERNAL_ERROR (R414). -/
def compatResume (resumeId : Nat) (unwraps : Bool) (tag : WorkTag) (d : Drive) : Drive :=
  if unwraps && d.holly.contexts.any (fun c => c.resumeId == resumeId) then
    let d := { d with
      holly.contexts := d.holly.contexts.filter (fun c => c.resumeId ≠ resumeId)
      holly.waiting := d.holly.waiting ++ [{ tag := tag, use := 6, arrival := d.now }] }
    giveHolly d.holly.waiting.length d
  else { d with holly.importError := true }

def execHollyDispatch (arrivals : List HollyReq) (freed : Option Nat) (mismatch : Bool) (s : State) : Host.Outcome State Fault Refusal := s.onMain (hollyDispatch arrivals freed mismatch)
def execCompatSuspend (blocks : Nat) (s : State) : Host.Outcome State Fault Refusal := s.onMain (compatSuspend blocks)
def execCompatResume (resumeId : Nat) (unwraps : Bool) (tag : WorkTag) (s : State) : Host.Outcome State Fault Refusal := s.onMain (compatResume resumeId unwraps tag)

end Sys2Proof.Machine
end

