-- ==== Sys2Proof/Machine/Media.lean ====
section
/-! DEFINITION. Machine/Media.lean: array operations on dies, programs and erases, the write shelf, clipping, folding, patrol, wear and
substitution (R209 to R215, R232 to R269). -/

namespace Sys2Proof.Machine
open Sys2Proof

/-! ## Dies (R210 to R217) -/

/-- Suspend latency in ns (Table 4.8). -/
def suspendLatency (o : DieOp) : Nat := if o.kind = 2 then 40000 else if o.slc then 10000 else 25000

/-- SUSPEND_COMPLETE: a suspended operation reaches readiness for reads: those queued for its die start (R212). -/
def suspendComplete (die : Nat) (d : Drive) : Drive :=
  match d.die die with
  | none => d
  | some o =>
    if o.suspended ∧ o.ready = false then
      (((d.advanceTo (o.suspendedAt + suspendLatency o)).setDie die { o with ready := true }).startReads die).resumeDie die
    else d

/-- BUSY_WINDOW_ENTRY: Bramble reports that a program's remaining run lies within its final window (R214, R215). -/
def busyWindowEntry (die : Nat) (d : Drive) : Drive :=
  match d.die die with
  | none => d
  | some o => if o.kind = 1 ∧ !o.suspended ∧ !o.busy ∧ !o.held then d.beginBusy die o else d

/-- ERASE_WINDOW_END: the first 400 µs of an erase have passed: it is no longer busy, and reads that waited suspend it (R214, R217). -/
def eraseWindowEnd (die : Nat) (d : Drive) : Drive :=
  match d.die die with
  | none => d
  | some o =>
    if o.kind = 2 ∧ o.window then
      (((d.advanceTo (o.startedAt + 400000)).setDie die { o with window := false }).releaseHeld die).serveWaiting die
    else d

/-- STARVATION_GUARD_TRIP: the operation's 40 ms of suspension have accumulated, or its 32nd suspension ends (R213). The reads still queued
for its die wait until it is done; it resumes when those that run have ended. -/
def starvationGuardTrip (die : Nat) (d : Drive) : Drive :=
  match d.die die with
  | none => d
  | some o =>
    if o.suspended = false ∨ o.held = true then d
    else
      let d := if 32 ≤ o.suspensions then d else d.advanceTo (o.suspendedAt + (40000000 - o.suspendedNs))
      let d := { d with media.reads := d.media.reads.map (fun (r : ReadJob) => if r.mode = 3 ∧ r.die = die then { r with mode := 2 } else r) }
      d.resumeDie die

/-- A new 10 ms interval of the reconstruction budget begins (R220). -/
def reconInterval (d : Drive) : Drive := (d.advanceTo ((d.now / 10000000 + 1) * 10000000)).reconRoll

/-- The tag of media work of the drive's own on a record: of the tenant's storage slot that its serial is in (R6, R8, R10, R216). -/
def Drive.recTag (d : Drive) (kind : Nat) (r : Rec) : WorkTag :=
  d.mediaTag (d.ownTag kind r.tenant r.ns 0) r

/-- The tag of a program: SHELF_DRAIN, CLIP_COPY, or PARITY_REBUILD for a repaired copy (Table 0.4). -/
def Drive.jobTag (d : Drive) : ProgramJob → WorkTag
  | .shelf i => match tget? i d.kv.shelf with
    | some x => d.recTag 0x20 x.rec_
    | none => d.ownTag 0x20 0 0 65536
  | .clip _ _ r => d.recTag 0x21 r
  | .repair r _ _ => d.recTag 0x23 r

/-- A die can take a program or erase: it is idle, no read runs on it or is queued for it, and a token is free (R210). -/
def Drive.dieFree (d : Drive) (n : Nat) : Bool := (d.die n).isNone && !d.readsFor n && !d.dieGone n && d.tokenFree

/-- Issues a program of a record's place, when its die can take it (R210). A record is one program, on the die where it begins (DESIGN
CHOICE, log entry 94). -/
def Drive.issueProgram (job : ProgramJob) (sb gran : Nat) (d : Drive) : Option Drive :=
  let n := d.dieOf sb gran
  if d.dieFree n then some (d.setDie n { kind := 1, slc := (d.sb sb).slc, sb, gran, job := some job, tag := d.jobTag job, startedAt := d.now })
  else none

/-! ## Erasing DIRTY superblocks (Table 5.5 step 7, R248) -/

/-- A superblock's state changes by an SB_STATE delta (Table 5.6). -/
def Drive.sbState (sb state : Nat) (d : Drive) : Drive :=
  (d.modSb sb (fun s => { s with state := state })).delta { kind := 7, tag := state, version := (d.sb sb).seq, newLoc := sb * 2 ^ 25 }

/-- Starts the erases of a superblock's blocks that can start; each is busy for its first 400 µs (R214, R215). -/
def eraseBlocks (sb : Nat) : List Nat → Drive → Drive
  | [], d => d
  | c :: r, d =>
    let n := d.blockDie sb c
    eraseBlocks sb r (
      if !d.dieFree n then d
      else
        let d := d.beginBusy n { kind := 2, slc := (d.sb sb).slc, sb, channel := c, tag := d.ownTag 0x21 0 0 65536 }
        d.modSb sb (fun s => { s with eraseTodo := s.eraseTodo.filter (· ≠ c), eraseBusy := s.eraseBusy + 1 }))

/-- A reply holds one of the superblock's records (R53, R248). -/
def Drive.sbHeld (d : Drive) (sb : Nat) : Bool :=
  d.kv.streams.any (fun s => match s.place with | .media b _ => b == sb | .shelf _ => false)

/-- Erases go on: every DIRTY superblock that no reply holds is erased (log entry 13). -/
def advanceErases : List (Nat × Superblock) → Drive → Drive
  | [], d => d
  | (n, _) :: r, d =>
    let s := d.sb n
    advanceErases r (
      if s.state ≠ 1 ∨ d.sbHeld n = true then d
      else
        let d := if s.eraseTodo = [] ∧ s.eraseBusy = 0 then d.modSb n (fun s => { s with eraseTodo := List.range 32 }) else d
        eraseBlocks n (d.sb n).eraseTodo d)

/-! ## Clipping and folding (R241 to R249) -/

/-- A record in a superblock is live: a keyed one of the current generation while a directory entry names its locator (R153, R244). -/
def Drive.recLive (d : Drive) (sb gran : Nat) (r : Rec) : Bool :=
  if r.located then !r.deletion && d.locLive sb gran r
  else if r.deletion ∨ r.gen ≠ (d.ns r.ns).gen then false
  else d.kv.dir.any (fun e => e.place = Place.media sb gran)

def Drive.liveRecs (d : Drive) (sb : Nat) : List (Nat × Rec) := (d.sb sb).recs.filter (fun p => d.recLive sb p.1 p.2)

/-- When every live record has been moved the superblock is DIRTY (Table 5.5 step 6); its dead located records stop counting as
physical granules, and their live bits are cleared (R195). -/
def Drive.finishClip (sb : Nat) (d : Drive) : Drive :=
  match d.media.clips.find? (fun c => c.sb = sb) with
  | none => d
  | some c =>
    if c.todo ≠ [] ∨ c.busy ≠ 0 ∨ d.canDelta = false then d
    else
      let gone := (d.sb sb).recs.filter (fun p => p.2.located && !p.2.deletion)
      let d := gone.foldl (fun (d : Drive) (p : Nat × Rec) => d.modNs p.2.ns (fun n => { n with physical := n.physical - recGranules p.2 })) d
      let d := { d with
        kv.live := d.kv.live.filter (fun p => p.1 ≠ sb)
        kv.locMarked := d.kv.locMarked.filter (fun p => p.1 ≠ sb)
        media.clips := d.media.clips.filter (fun x => x.sb ≠ sb) }
      d.sbState sb 1

/-- FREE and DIRTY superblocks of the QLC pool (R241). -/
def Drive.qlcFree (d : Drive) : Nat :=
  32768 - 20 - 940 - (d.media.sbs.filter (fun p => d.partOf p.1 = 0 ∧ p.2.state ≠ 0 ∧ p.2.state ≠ 1)).length

/-- A record of the shelf waits for its program. -/
def Drive.shelfWaits (d : Drive) : Bool :=
  d.kv.shelf.any (fun p => !(d.media.dies.any (fun x => x.2.job == some (ProgramJob.shelf p.1)) ||
    d.media.verified.any (fun x => x.1 == ProgramJob.shelf p.1)))

/-- Clipping may take another token: up to the share of Table 5.4, and of a well filled pool only what host writes leave unused (R241;
host writes leave tokens unused while no record of the shelf waits for its program: DEDUCED, log entry 78). -/
def Drive.clipShare (d : Drive) : Bool :=
  let used := (d.media.dies.filter (fun p => match p.2.job with | some (.clip _ _ _) => true | _ => false)).length
  let n := d.qlcFree
  if 128 ≤ n then !d.shelfWaits
  else decide (4 * (used + 1) ≤ d.power.tokens * (if 96 ≤ n then 1 else if 64 ≤ n then 2 else if 32 ≤ n then 3 else 4))

/-- Codewords that hold a record's bytes, as clipping reads them (R202, Table 5.5 step 2). -/
def recCodewords (gran : Nat) (r : Rec) : Nat :=
  ((pagesOf (recGranules r / 64 + 2) (256 * gran) (256 * recGranules r)).map (·.2)).sum

/-- Copies go on for one clip while dies, tokens and the share allow; a located record's move waits for room in the forwarding table
(R193). -/
def advanceClip (sb : Nat) : Nat → Drive → Drive
  | 0, d => d.finishClip sb
  | k + 1, d =>
    match d.media.clips.find? (fun c => c.sb = sb) with
    | none => d
    | some c =>
      let waits := fun (p : Nat × Rec) => p.2.located && d.recLive sb p.1 p.2 && !d.fwdRoom (d.sb sb).refresh
      match c.todo.find? (fun p => !waits p) with
      | none => d.finishClip sb
      | some (g, r) =>
        let upd := fun (d : Drive) (busy : Nat) => { d with
          media.clips := d.media.clips.map (fun (x : Clip) => if x.sb = sb then { x with todo := c.todo.filter (· ≠ (g, r)), busy := busy } else x) }
        if !d.recLive sb g r then advanceClip sb k (upd d c.busy)
        else if !d.clipShare then d
        else match d.allocate 0x02 false (recGranules r) with
          | none => d
          | some ((n, w), d') => match d'.issueProgram (.clip sb g r) n w with
            | none => d
            | some d'' => advanceClip sb k (upd (d''.countEcc { read := recCodewords g r }) (c.busy + 1))

/-- Repaired copies go on: those of records that are still current where the ladder found them (R225). -/
def advanceRepairs : List (Rec × Nat × Nat) → Drive → Drive
  | [], d => d
  | x :: rest, d =>
    let (r, sb, gran) := x
    let drop := fun (d : Drive) => { d with media.repairs := removeFirst (· == x) d.media.repairs }
    advanceRepairs rest (
      if !d.recLive sb gran r then drop d
      else if r.located ∧ d.fwdRoom false = false then d
      else match d.allocate 0x03 false (recGranules r) with
        | none => d
        | some ((n, w), d') => match d'.issueProgram (.repair r sb gran) n w with
          | none => d
          | some d'' => drop d'')

/-- Clips, repairs and erases go on, and queued reads, as tokens and dies come free. -/
def Drive.advanceMedia (d : Drive) : Drive :=
  let d := startAll d.media.reads d
  let d := advanceRepairs d.media.repairs d
  let d := d.media.clips.foldl (fun (d : Drive) (c : Clip) => advanceClip c.sb (c.todo.length + 1) d) d
  advanceErases d.media.sbs d

/-- A repaired or clipped record becomes current at its new place: delta, then the entry (R185, R225, R245, R247). -/
def Drive.moveRec (sb gran sb' gran' : Nat) (r : Rec) (d : Drive) : Drive :=
  let d := d.placeRec sb' gran' r
  let g := recGranules r
  if !d.recLive sb gran r then d
  else
    let d := d.delta { kind := 3, ns := r.ns, tag := fpTag (d.fingerprint r.ns r.key), version := r.version, newLoc := locBits sb' gran',
                       oldLoc := locBits sb gran, len := g }
    if r.located then
      let old := d.epochOf sb
      let new := d.epochOf sb'
      let home := r.version % 2
      let d := { d with
        kv.fwd := d.kv.fwd ++ [FwdEnt.mk sb gran old sb' gran' new r.ns g home]
        kv.live := (sb', gran') :: d.kv.live.filter (fun (p : Nat × Nat) => p ≠ (sb, gran))
        kv.locMarked := d.kv.locMarked.map (fun (p : Nat × Nat) => if p = (sb, gran) then (sb', gran') else p) }
      let d := d.delta { kind := 5, ns := r.ns, tag := fpTag (d.fingerprint r.ns r.key), version := r.version, newLoc := locBits sb' gran', oldLoc := locBits sb gran,
                         len := old * 65536 + new * 256 }
      let d := (d.modNs r.ns (fun n => { n with physical := n.physical + g })).fwdWatch
      let pair := (d.relocPairs r.ns).getLast?.toList
      let owner := (d.ns r.ns).owner
      let sids := (d.xp.sessions.filter (fun p => p.2.state ≠ 0x40 ∧ (p.1 = 0 ∨ p.2.tenant = owner))).map (·.1)
      sids.foldl (fun (d : Drive) sid => noticeAll sid (relocNotices r.ns 1 pair) d) d
    else
      { d with kv.dir := d.kv.dir.map (fun (e : DirEnt) => if e.place = Place.media sb gran then { e with place := .media sb' gran' } else e) }

/-! ## The write shelf (R267, R305) -/

/-- Requests that wait for the program of a version at this drive, now that no record of it is left in the shelf (R34, R267). -/
def programmedReqs (v : Nat) : List Req → Drive → Drive
  | [], d => d
  | r :: rs, d => programmedReqs v rs (
      if r.phase = .waiting ∧ r.needProg = true ∧ (r.version = v ∨ r.results.any (fun x => x.version = v)) ∧
         d.kv.shelf.any (fun p => p.2.rec_.version = r.version ∨ r.results.any (fun x => x.version = p.2.rec_.version)) = false then
        (d.putReq { r with needProg := false }).settle r.origin
      else d)

/-- A record's program has verified: it leaves the shelf, its entry names its place, and what waited for it goes on. -/
def Drive.shelfDone (idx sb gran : Nat) (d : Drive) : Drive :=
  match tget? idx d.kv.shelf with
  | none => d
  | some x =>
    let r := x.rec_
    let d := { d with
      kv.shelf := tdel idx d.kv.shelf
      health.hostBytesWritten := satAdd 64 d.health.hostBytesWritten r.value.length
      health.flashBytesProgrammed := satAdd 64 d.health.flashBytesProgrammed (256 * recGranules r) }
    let d := if r.located && !r.deletion then d
      else
        let d := d.placeRec sb gran r
        if d.kv.dir.any (fun e => e.place = .shelf idx) then
          let d := d.delta { kind := 1, ns := r.ns, tag := fpTag (d.fingerprint r.ns r.key), version := r.version, newLoc := locBits sb gran,
                             len := recGranules r }
          { d with kv.dir := d.kv.dir.map (fun (e : DirEnt) => if e.place = .shelf idx then { e with place := .media sb gran } else e) }
        else d
    let d := programmedReqs r.version d.kv.reqs d
    match x.mirrorOp with
    | some op =>
      if d.kv.shelf.any (fun p => p.2.mirrorOp = some op) then d
      else d.twinSend { code := 0x11, flags := 2, opId := op, version := r.version, aux := d.twin.resyncPoint.getD 0 }
    | none => d

/-- SHELF_DRAIN: the oldest record not yet being programmed goes to a HOST superblock in QLC mode while the shelf is less than half full,
to the burst area at or above (R237); below 32 FREE and DIRTY superblocks the shelf opens no new QLC superblock (Table 5.4). Half full is
half of the limit that the hold-up bank sets (R274; DESIGN CHOICE, log entry 71). -/
def shelfDrain (d : Drive) : Drive :=
  let busy := fun (idx : Nat) => d.media.dies.any (fun p => p.2.job == some (ProgramJob.shelf idx)) ||
    d.media.verified.any (fun p => p.1 == ProgramJob.shelf idx)
  match d.kv.shelf.find? (fun p => !busy p.1) with
  | none => d
  | some (idx, x) =>
    let g := recGranules x.rec_
    match x.target with
    | some (sb, gran) => (d.issueProgram (.shelf idx) sb gran).getD d
    | none =>
      let full := decide (d.media.shelfLimitMiB * 2 ^ 20 ≤ 2 * d.shelfUsed)
      let burst := if full then d.allocate 0x01 true g else none
      let qlc := if (d.openOf 0x01 false g).isNone ∧ d.qlcFree < 32 then none else d.allocate 0x01 false g
      match burst.orElse (fun _ => qlc) with
      | none => d
      | some ((sb, gran), d') =>
        match d'.issueProgram (.shelf idx) sb gran with
        | none => d
        | some d'' => { d'' with kv.shelf := tput idx { x with target := some (sb, gran) } d''.kv.shelf }

/-- SHELF_ADMIT: shelf space frees and a write waiting for it proceeds (R241). -/
def shelfAdmit (o : Origin) (d : Drive) : Drive :=
  match d.req? o with
  | none => d
  | some r =>
    if !(d.canShelve && d.canDelta) then d
    else if r.hdr.opcode = 0x02 then putRequest o d
    else if r.hdr.opcode = 0x03 then deleteRequest o d
    else if r.hdr.opcode = 0x21 then locDeleteRequest o d
    else if r.hdr.opcode = 0x10 then batchAtomicRequest o d
    else if r.hdr.opcode = 0x11 then batchRequest o d
    else d

/-! ## Program and erase outcomes -/

/-- What a verified program does (R225, R245, R267). -/
def programDone (job : ProgramJob) (sb gran : Nat) (d : Drive) : Drive :=
  let d := d.modSb sb (fun s => { s with progAt := s.progAt ++ [(gran, d.now / 1000000)] })
  match job with
  | .shelf idx => d.shelfDone idx sb gran
  | .clip fs fg r =>
    let d := { d with health.flashBytesProgrammed := satAdd 64 d.health.flashBytesProgrammed (256 * recGranules r) }
    -- one codeword of each page is read back (Table 5.5 step 3)
    let d := d.countEcc { read := (pagesOf (recGranules r / 64 + 2) (256 * gran) (256 * recGranules r)).length }
    let d := d.moveRec fs fg sb gran r
    let d := { d with media.clips := d.media.clips.map (fun (c : Clip) => if c.sb = fs then { c with busy := c.busy - 1 } else c) }
    d.finishClip fs
  | .repair r fs fg =>
    let d := { d with health.flashBytesProgrammed := satAdd 64 d.health.flashBytesProgrammed (256 * recGranules r) }
    d.moveRec fs fg sb gran { r with repaired := true }

/-- What verified programs do, while the delta log takes their deltas (R268). -/
def runVerified : List (ProgramJob × Nat × Nat) → Drive → Drive
  | [], d => { d with media.verified := [] }
  | x :: r, d =>
    if d.canDelta then runVerified r (programDone x.1 x.2.1 x.2.2 { d with media.verified := r })
    else { d with media.verified := x :: r }

/-- PROGRAM_COMPLETE: the program on a die completes and verifies (R267, Table 5.5 step 3). -/
def programComplete (die : Nat) (d : Drive) : Drive :=
  match d.die die with
  | none => d
  | some o =>
    if o.kind ≠ 1 ∨ o.suspended ∨ o.held then d
    else
      let d := { d with media.dies := tdel die d.media.dies }
      let d := match o.job with
        | some j => runVerified (d.media.verified ++ [(j, o.sb, o.gran)]) d
        | none => d
      ((d.releaseHeld die).serveWaiting die).advanceMedia

/-- An erase of one block is done; the superblock is FREE when all 32 are (R245). -/
def Drive.blockErased (sb : Nat) (d : Drive) : Drive :=
  let d := d.modSb sb (fun s => { s with eraseBusy := s.eraseBusy - 1 })
  let s := d.sb sb
  if s.eraseBusy ≠ 0 ∨ s.eraseTodo ≠ [] then d
  else (d.setSb sb { state := 1, seq := s.seq, eraseQlc := if s.slc then s.eraseQlc else s.eraseQlc + 1,
                     eraseSlc := if s.slc then s.eraseSlc + 1 else s.eraseSlc }).sbState sb 0

/-- ERASE_COMPLETE. -/
def eraseComplete (die : Nat) (d : Drive) : Drive :=
  match d.die die with
  | none => d
  | some o =>
    if o.kind ≠ 2 ∨ o.suspended ∨ o.held then d
    else
      let d := { d with media.dies := tdel die d.media.dies }
      (((d.blockErased o.sb).releaseHeld die).serveWaiting die).advanceMedia

/-- The burst area gives up FREE superblocks above its limit: they belong to the QLC pool (R239). -/
def Drive.shrinkBurst (d : Drive) : Drive :=
  if 50 ≤ d.sparePct then d
  else
    let area := ((List.range 867).map (· + 73)).filter (fun n => d.partOf n = 6)
    let give := (area.filter (fun n => (d.sb n).state = 0)).take (area.length - d.burstLimit)
    give.foldl (fun (d : Drive) n => { d.setSb n (d.sb n) with media.parts := tput n 0 d.media.parts }) d

/-- SPARE_LOW and WEAR_READ_ONLY (R263, R266), and what the burst area gives up (R239). -/
def Drive.spareWatch (d : Drive) : Drive :=
  let d := d.shrinkBurst
  let p := d.sparePct
  let d := if p < 10 ∧ d.media.spareLow = false then ({ d with media.spareLow := true }).event 0x132 Sev.warning []
    else if 10 ≤ p then { d with media.spareLow := false } else d
  if p < 2 then
    (if d.media.wearReadOnly then d else ({ d with media.wearReadOnly := true }).event 0x131 Sev.critical []).raiseWear
  else { d with media.wearReadOnly := false }

/-- An unused substitute on a die group other than the superblock's; a FREE superblock of the QLC pool becomes DONOR when none is left (R251): the first
unused one from the next die group on, else the first that has been used (DESIGN CHOICE, log entry 72). -/
def Drive.takeSubstitute (sb : Nat) (d : Drive) : Option ((Nat × Nat) × Drive) :=
  let ok := fun (p : Nat × Nat) => p.1 / 32 != groupOf sb && !d.dieGone p.1
  match d.media.unusedSubs.find? ok with
  | some p => some (p, { d with media.unusedSubs := removeFirst (· == p) d.media.unusedSubs })
  | none =>
    let away := fun (n : Nat) => groupOf n != groupOf sb
    let unused := fun (n : Nat) => (freshSb d 0 (d.media.sbs.length + 60) n).toList
    let listed := d.media.sbs.filter (fun (p : Nat × Superblock) => p.2.state = 0 ∧ d.partOf p.1 = 0)
    match (unused (max 940 ((groupOf sb + 1) % 16 * 2048)) ++ listed.map (·.1) ++ unused 940).find? away with
    | none => none
    | some n =>
      let d := d.sbState n 6
      let blocks := (List.range 32).map (fun c => (32 * groupOf n + c, blockOf n))
      (blocks.find? ok).map (fun p => (p, { d with media.unusedSubs := d.media.unusedSubs ++ removeFirst (· == p) blocks }))

/-- A block is retired and a substitute takes its place (R250 to R255). Answers the substitute's die. -/
def Drive.retireBlock (sb channel : Nat) (d : Drive) : Option (Nat × Drive) :=
  (d.takeSubstitute sb).map (fun (p, d) =>
    let subs := d.media.substitutes.filter (fun (s : Substitute) => !(s.sb == sb && s.channel == channel))
    let d := { d with media.substitutes := subs ++ [Substitute.mk sb channel p.1 p.2], media.retiredBlocks := d.media.retiredBlocks + 1 }
    let d := d.delta { kind := 9, newLoc := sb * 2 ^ 25, oldLoc := channel * 2 ^ 35 + p.1 * 2 ^ 26 + p.2 * 2 ^ 15 }
    (p.1, ((d.event 0x121 Sev.notice []).spareWatch)))

/-- PROGRAM_FAIL: the block is retired, its pages rebuilt into a substitute, and the failed page programmed there (R254, R256). -/
def programFail (die : Nat) (d : Drive) : Drive :=
  match d.die die with
  | none => d
  | some o =>
    if o.kind ≠ 1 then d
    else match d.retireBlock o.sb (channelOf o.gran) with
      | none => d
      | some (die', d) =>
        let d := { d with media.dies := tdel die d.media.dies }
        let o' : DieOp := { kind := 1, slc := o.slc, sb := o.sb, gran := o.gran, job := o.job, tag := o.tag, startedAt := d.now }
        let d := if d.dieFree die' then d.setDie die' o'
          else match o.job with
            | some (.clip fs fg r) => { d with media.clips := d.media.clips.map (fun (c : Clip) =>
                if c.sb = fs then { c with busy := c.busy - 1, todo := (fg, r) :: c.todo } else c) }
            | some (.repair r fs fg) => { d with media.repairs := (r, fs, fg) :: d.media.repairs }
            | _ => d
        ((d.releaseHeld die).serveWaiting die).advanceMedia

/-- ERASE_FAIL: the block is retired and an erased substitute taken (R255). -/
def eraseFail (die : Nat) (d : Drive) : Drive :=
  match d.die die with
  | none => d
  | some o =>
    if o.kind ≠ 2 then d
    else match d.retireBlock o.sb o.channel with
      | none => d
      | some (_, d) =>
        let d := { d with media.dies := tdel die d.media.dies }
        (((d.blockErased o.sb).releaseHeld die).serveWaiting die).advanceMedia

/-! ## Choosing what to clip -/

/-- Records whose tags fail and whose ladder fails are copied with their failing tags and marked (R246). -/
def markBad (sb : Nat) : List (Nat × Rec) → Drive → Drive
  | [], d => d
  | (g, r) :: rest, d =>
    let d := d.authFail (.media sb g) (d.recTag 0x21 r)
    markBad sb rest (if d.recLive sb g r then d.markValue (.media sb g) r else d)

/-- A superblock becomes VICTIM and its live records are copied out (R245). `bad`: granules of the records that no ladder step recovers. -/
def Drive.beginClip (sb : Nat) (fold : Bool) (bad : List Nat) (d : Drive) : Drive :=
  let live := d.liveRecs sb
  let d := d.awaken.modSb sb (fun s => { s with state := 4 })
  let d := markBad sb (live.filter (fun p => bad.contains p.1)) d
  let d := { d with media.clips := d.media.clips ++ [{ sb, todo := live, fold }] }
  (advanceClip sb (live.length + 1) d).advanceMedia

/-- Live granules of a superblock. -/
def Drive.liveGranules (d : Drive) (sb : Nat) : Nat := ((d.liveRecs sb).map (fun p => recGranules p.2)).sum

/-- The score of R242 of superblock `n` exceeds that of `m`: (1 − u) × a / (1 + u), compared without division. -/
def Drive.scores (d : Drive) (n m : Nat) : Bool :=
  let G := 32505856
  let un := d.liveGranules n
  let um := d.liveGranules m
  let an := d.now - (d.sb n).closedAt
  let am := d.now - (d.sb m).closedAt
  decide ((G - um) * am * (G + un) < (G - un) * an * (G + um))

/-- A CLOSED QLC superblock that may be chosen: not of the CHECKPOINT stream, and without live located records during a pause (R192, R242). -/
def Drive.clippable (d : Drive) (n : Nat) : Bool :=
  let s := d.sb n
  s.state == 3 && !s.slc && s.stream != 0x12 && !(d.kv.fwdPaused && (d.liveRecs n).any (fun p => p.2.located))

/-- The best of a list by a strict preference. -/
def bestBy (better : Nat → Nat → Bool) : List Nat → Option Nat
  | [] => none
  | n :: r => match bestBy better r with
    | none => some n
    | some m => if better m n then some m else some n

/-- The next victim: a superblock to refresh first (R260); the least worn when the most worn FREE or CLOSED one exceeds it by more than
200 (R243); else the highest score (R242). -/
def Drive.victim (d : Drive) : Option Nat :=
  let closed := (d.media.sbs.map (·.1)).filter d.clippable
  let refresh := (d.media.sbs.filter (fun p => p.2.state = 3 ∧ p.2.refresh = true)).map (·.1)
  let most := ((d.media.sbs.filter (fun p => p.2.state = 0 ∨ p.2.state = 3)).map (fun p => p.2.wear20)).foldl max 0
  match refresh with
  | n :: _ => some n
  | [] => match bestBy (fun a b => decide ((d.sb a).wear20 < (d.sb b).wear20)) closed with
    | none => none
    | some least => if (d.sb least).wear20 + 4000 < most then some least else bestBy d.scores closed

/-- CLIP_VICTIM_SELECT (R242, R243, R260). -/
def clipVictimSelect (bad : List Nat) (d : Drive) : Drive :=
  match d.victim with
  | none => d
  | some n => d.beginClip n false bad

/-- FOLDING: the live records of the oldest burst-area superblock go to QLC superblocks, during a burst too (R238). -/
def folding (bad : List Nat) (d : Drive) : Drive :=
  let slc := (d.media.sbs.filter (fun p => p.2.state = 3 ∧ p.2.slc = true ∧ p.2.stream = 0x01)).map (·.1)
  match bestBy (fun a b => decide ((d.sb a).seq < (d.sb b).seq)) slc with
  | none => d
  | some n => d.beginClip n true bad

/-! ## Health of the array (R222, R223, R258 to R266) -/

/-- Pages of a superblock that hold data, parity or summary: those of every stripe up to where it has been written (R201, R208). -/
def Superblock.pages (s : Superblock) : Nat :=
  32 * ceilDiv (if s.state = 2 then s.wptr else roundUp 64 s.wptr + summaryGranules s.recs.length) 1984

/-- The block group of a superblock's block on a channel: one die's blocks 64k to 64k + 63 (R259). -/
def Drive.blockGroup (d : Drive) (sb channel : Nat) : Nat := 32 * d.blockDie sb channel + (d.blockAt sb channel).2 / 64

/-- The read levels of the block groups a visit has read are recalibrated; the levels themselves are free values (R259). -/
def recalibrate (sb : Nat) : List Nat → Drive → Drive
  | [], d => d
  | c :: r, d =>
    let (v, d) := d.fresh
    recalibrate sb r { d with media.levels := tput (d.blockGroup sb c) v d.media.levels }

/-- A patrol read's outcome over its codewords, `pages` in number, of which `cws` are not clean (R222, R260): step 4 is performed within
the visit, 31 source codewords for each (R221). -/
def patrolCounts (pages : Nat) (cws : List Cw) : EccResult :=
  let c := stepCounts cws
  let four := cws.filter (fun c => c.step = 4)
  { c with read := max pages cws.length + 31 * four.length
           parity := (four.filter (·.parity)).length, uncorrectable := (four.filter (fun c => !c.parity)).length }

/-- Patrol reads a superblock that is CLOSED or VICTIM, or of the SLC region (R258). -/
def Drive.patrolled (d : Drive) (sb : Nat) : Bool := (d.sb sb).state == 3 || (d.sb sb).state == 4 || d.partOf sb != 0

/-- PATROL_VISIT: one codeword of every page of a superblock is read (R258 to R260). `cws`: those that the hard decode does not find clean. -/
def patrolVisit (sb : Nat) (cws : List Cw) (d : Drive) : Drive :=
  let s := d.sb sb
  if !d.patrolled sb then d
  else
    let d := d.awaken.wasBusy
    let d := d.modSb sb (fun s => { s with visitedAt := d.now, codeword := (s.codeword + 1) % 4 })
    let d := d.countEcc (patrolCounts s.pages cws)
    let d := recalibrate sb (List.range 32) (d.reconCount (31 * (cws.filter (fun c => c.step = 4)).length))
    let d := { d with media.lateRecorded := d.media.lateRecorded.filter (· ≠ sb) }
    if s.state = 3 ∧ !s.refresh ∧ cws.any (fun c => c.weak || decide (1 < c.step)) then
      let d := d.modSb sb (fun s => { s with refresh := true })
      let d := { d with
        health.patrolRefreshes := satAdd 64 d.health.patrolRefreshes 1
        health.refreshTimes := d.now :: d.health.refreshTimes }
      d.event 0x140 Sev.info [] (d.ownTag 0x22 0 0 65536)
    else d

/-- 14 days of operating time in ns. -/
def days14 : Nat := 14 * 86400 * 1000000000

/-- PATROL_LATE (R261). -/
def patrolLate (sb : Nat) (d : Drive) : Drive :=
  let s := d.sb sb
  if !d.patrolled sb || d.media.lateRecorded.contains sb then d
  else
    let d := d.advanceTo (s.visitedAt + days14 + 1)
    ({ d with media.lateRecorded := sb :: d.media.lateRecorded }).event 0x141 Sev.warning []

/-- HEALTH_WEAR_UPDATE, every 60 s of operating time (R262, R265, Table 16.5). -/
def healthWearUpdate (d : Drive) : Drive :=
  let d := d.advanceTo ((d.now / 60000000000 + 1) * 60000000000)
  let good := 1048576 - d.media.retiredBlocks
  let sum := (d.media.sbs.map (fun p => p.2.wear20)).sum
  let avg := sum * 32 * 100 / (20 * 2000 * good)
  let mx := ((d.media.sbs.map (fun p => p.2.wear20)).foldl max 0) * 100 / 40000
  let h := d.health
  let samples := ((d.now, h.cwRetried + h.cwSoft, h.cwRead) :: h.retrySamples).filter (fun s => decide (d.now ≤ s.1 + 86400000000000))
  let first := samples.getLastD (d.now, h.cwRetried + h.cwSoft, h.cwRead)
  let reads := h.cwRead - first.2.2
  let ppm := if reads = 0 then 0 else (h.cwRetried + h.cwSoft - first.2.1) * 1000000 / reads
  let recent := h.refreshTimes.filter (fun t => decide (d.now ≤ t + days14))
  let d := { d with
    media.wearAvgPct := avg, media.wearMaxPct := mx
    health.retrySamples := samples, health.retryPpm := ppm, health.refreshTimes := recent, health.refresh14d := recent.length }
  let d := if d.media.wearDecile < avg / 10 then ({ d with media.wearDecile := avg / 10 }).event 0x130 Sev.warning [] else d
  d.spareWatch

def execSuspendComplete (die : Nat) (s : State) : Host.Outcome State Fault Refusal := s.onMain (suspendComplete die)
def execBusyWindowEntry (die : Nat) (s : State) : Host.Outcome State Fault Refusal := s.onMain (busyWindowEntry die)
def execEraseWindowEnd (die : Nat) (s : State) : Host.Outcome State Fault Refusal := s.onMain (eraseWindowEnd die)
def execStarvationGuardTrip (die : Nat) (s : State) : Host.Outcome State Fault Refusal := s.onMain (starvationGuardTrip die)
def execReconInterval (s : State) : Host.Outcome State Fault Refusal := s.onMain reconInterval
def execProgramComplete (die : Nat) (s : State) : Host.Outcome State Fault Refusal := s.onMain (fun d => if (d.die die).isNone then d else (programComplete die d).wasBusy)
def execEraseComplete (die : Nat) (s : State) : Host.Outcome State Fault Refusal := s.onMain (fun d => if (d.die die).isNone then d else (eraseComplete die d).wasBusy)
def execProgramFail (die : Nat) (s : State) : Host.Outcome State Fault Refusal := s.onMain (programFail die)
def execEraseFail (die : Nat) (s : State) : Host.Outcome State Fault Refusal := s.onMain (eraseFail die)
def execShelfDrain (s : State) : Host.Outcome State Fault Refusal := s.onMain shelfDrain
def execShelfAdmit (o : Origin) (s : State) : Host.Outcome State Fault Refusal := s.onMain (shelfAdmit o)
def execFolding (bad : List Nat) (s : State) : Host.Outcome State Fault Refusal := s.onMain (folding bad)
def execClipVictimSelect (bad : List Nat) (s : State) : Host.Outcome State Fault Refusal := s.onMain (clipVictimSelect bad)
def execPatrolVisit (sb : Nat) (cws : List Cw) (s : State) : Host.Outcome State Fault Refusal := s.onMain (patrolVisit sb cws)
def execPatrolLate (sb : Nat) (s : State) : Host.Outcome State Fault Refusal := s.onMain (patrolLate sb)
def execHealthWearUpdate (s : State) : Host.Outcome State Fault Refusal := s.onMain healthWearUpdate

end Sys2Proof.Machine
end

