-- ==== Sys2Proof/Machine/Pages.lean ====
section
/-! DEFINITION. Machine/Pages.lean: what stands on the pages of the array, to the byte: records and their seals, page headers, spare areas,
stripe parity, summaries, and the pages of substitutes (R201 to R208, R252, Tables 4.2 to 4.6). A superblock holds its records by granule; every
byte of its pages follows from them. -/

namespace Sys2Proof.Machine
open Sys2Proof

/-! ## Parity -/

/-- Byte-wise XOR. -/
def xorBytes (a b : Bytes) : Bytes := List.zipWith (· ^^^ ·) a b

/-! ## Summaries (R208, Table 4.6) -/

/-- Inserts by granule. -/
def insertGran (x : Nat × Rec) : List (Nat × Rec) → List (Nat × Rec)
  | [] => [x]
  | y :: r => if x.1 ≤ y.1 then x :: y :: r else y :: insertGran x r

/-- A superblock's records in record order. -/
def Superblock.ordered (s : Superblock) : List (Nat × Rec) := s.recs.foldr insertGran []

/-- The 24 bytes of a summary entry (Table 4.6). -/
def Drive.summaryEntry (d : Drive) (sb : Nat) (x : Nat × Rec) : Bytes :=
  beBytes 2 x.2.ns ++ beBytes 1 (recKind x.2) ++ beBytes 1 0 ++ beBytes 4 (fpTag (d.fingerprint x.2.ns x.2.key)) ++ beBytes 8 x.2.version ++
  beBytes 5 (locBits sb x.1) ++ beBytes 3 (recGranules x.2)

/-- Summary page `i`: up to 682 entries, and the trailer with its count, index, total and CRC (R208). -/
def Drive.summaryPage (d : Drive) (sb i : Nat) : Bytes :=
  let recs := (d.sb sb).ordered
  let mine := (recs.drop (682 * i)).take 682
  let b := padTo 16368 ((mine.map (d.summaryEntry sb)).flatten) ++
    beBytes 2 mine.length ++ beBytes 2 i ++ beBytes 2 (ceilDiv recs.length 682) ++ beBytes 6 0
  b ++ beBytes 4 (crc32c b)

/-! ## Pages (R201 to R204, Tables 4.2 and 4.3) -/

/-- The summary of a superblock that is no longer OPEN begins at the data-page boundary after its last record (R208). -/
def Superblock.summaryAt (s : Superblock) : Nat := roundUp 64 s.wptr / 64

/-- Data pages of a superblock that have been programmed, in order: those of its records, then its summary. -/
def Superblock.dataPages (s : Superblock) : Nat :=
  if s.state = 0 ∨ s.state = 5 ∨ s.state = 6 then 0
  else s.summaryAt + (if s.state = 2 then 0 else ceilDiv s.recs.length 682)

/-- The 256 bytes of a granule: of the record that covers it, or zeros. -/
def Drive.granuleBytes (d : Drive) (s : Superblock) (g : Nat) : Bytes :=
  match s.recs.find? (fun p => decide (p.1 ≤ g ∧ g < p.1 + recGranules p.2)) with
  | some p => slice (256 * (g - p.1)) 256 (d.recBytes p.2)
  | none => List.replicate 256 0

/-- The 16,384 data bytes of data page `k` of a superblock (R200, R205, R208); a page not programmed adds nothing to parity. -/
def Drive.pageData (d : Drive) (sb k : Nat) : Bytes :=
  let s := d.sb sb
  if s.dataPages ≤ k then List.replicate 16384 0
  else if s.state ≠ 2 ∧ s.summaryAt ≤ k then d.summaryPage sb (k - s.summaryAt)
  else ((List.range 64).map (fun i => d.granuleBytes s (64 * k + i))).flatten

/-- Byte offset in data page `k` of the first record header that begins in it, 0xFFFF if none begins (Table 4.3). -/
def Superblock.firstRecord (s : Superblock) (k : Nat) : Nat :=
  match (s.ordered.map (·.1)).find? (fun g => g / 64 = k) with
  | some g => byteOf g
  | none => 0xFFFF

/-- When data page `k` was programmed, in ms: with the last record that lies in it (Table 4.3). -/
def Superblock.programTime (s : Superblock) (k : Nat) : Nat :=
  ((s.progAt.filter (fun p => decide (p.1 / 64 ≤ k))).map (·.2)).foldl max 0

/-- A page header (Table 4.3), with its CRC-32C over bytes 0 to 59 (R203). kind: 1 data, 2 parity, 3 summary. It names the superblock and
channel that the page belongs to, in a substitute too (R252). -/
def pageHeader (sb : Nat) (s : Superblock) (stripe channel kind : Nat) (close : Bool) (first time : Nat) : Bytes :=
  let b := beBytes 8 s.seq ++ beBytes 2 sb ++ beBytes 2 stripe ++ beBytes 1 channel ++ beBytes 1 kind ++ beBytes 1 s.stream ++
    beBytes 1 (b2n s.slc + 2 * b2n close) ++ beBytes 2 first ++ beBytes 6 time ++ beBytes 36 0
  b ++ beBytes 4 (crc32c b)

/-- The header of data page `k`: CLOSE on the last one before the summary (Table 4.3). -/
def Drive.dataHeader (d : Drive) (sb k : Nat) : Bytes :=
  let s := d.sb sb
  let summary := decide (s.state ≠ 2 ∧ s.summaryAt ≤ k)
  pageHeader sb s (k / 31) ((k / 31 + 1 + k % 31) % 32) (if summary then 3 else 1) (decide (s.state ≠ 2 ∧ k + 1 = s.summaryAt))
    (if summary then 0xFFFF else s.firstRecord k) (s.programTime k)

/-- The XOR of the data of a stripe's 31 data pages, and of their headers: what its parity page holds (R204). -/
def Drive.parityData (d : Drive) (sb stripe : Nat) : Bytes :=
  (List.range 31).foldl (fun acc i => xorBytes acc (d.pageData sb (31 * stripe + i))) (List.replicate 16384 0)

def Drive.parityHeaders (d : Drive) (sb stripe : Nat) : Bytes :=
  (List.range 31).foldl (fun acc i => xorBytes acc (d.dataHeader sb (31 * stripe + i))) (List.replicate 64 0)

/-- A page as stored: data bytes, and the spare area of Table 4.2: header, XOR of headers or zeros, four parts of LDPC parity. Part k covers
data bytes 4,096k on, 32 spare bytes from 32k on (R202). -/
def storedPage (data header second : Bytes) : Bytes :=
  let spare := header ++ second
  data ++ spare ++ ((List.range 4).map (fun k =>
    beBytes 480 (Config.ldpcParity (slice (4096 * k) 4096 data ++ slice (32 * k) 32 spare)))).flatten

/-- The page of a superblock on a channel at a page index (R199, R201); none where it has not been programmed. -/
def Drive.pageAt (d : Drive) (sb channel stripe : Nat) : Option Bytes :=
  let s := d.sb sb
  let n := s.dataPages
  if channel = parityChannel stripe then
    if n ≤ 31 * stripe then none
    else some (storedPage (d.parityData sb stripe)
      (pageHeader sb s stripe channel 2 false 0xFFFF (s.programTime (31 * stripe + 30))) (d.parityHeaders sb stripe))
  else
    let k := 31 * stripe + (channel + 31 - parityChannel stripe) % 32
    if n ≤ k then none else some (storedPage (d.pageData sb k) (d.dataHeader sb k) (List.replicate 64 0))

/-- The page at an index of a physical block: of the superblock whose block it is, or whose retired block it stands in for (R250, R252).
The block of a retired one holds what it held; the spec gives no use of it. -/
def Drive.rawPage (d : Drive) (sb channel index : Nat) : Option Bytes :=
  let own := (32 * groupOf sb + channel, blockOf sb)
  match d.media.substitutes.find? (fun s => (s.die, s.block) = own) with
  | some s => d.pageAt s.sb s.channel index
  | none => d.pageAt sb channel index

end Sys2Proof.Machine
end

