-- ==== Sys2Proof/Machine/Reads.lean ====
section
/-! DEFINITION. Machine/Reads.lean: completion of array reads, what a verified header, key or chunk leads to, the tag ladder and chunk
fetches (R53 to R64, R71, R72, R217 to R229, R310). -/

namespace Sys2Proof.Machine
open Sys2Proof

/-! ## Header, key and chunks that verify -/

/-- A read is resolved anew: its record was replaced before its header left (R53). -/
def Drive.rerunRead (r : Req) (d : Drive) : Drive :=
  let d := (d.dropStream r.origin).putReq { r with phase := .active }
  match r.hdr.opcode with
  | 0x01 => getRequest r.origin d
  | 0x04 => existsRequest r.origin d
  | 0x05 => getRangeRequest r.origin d
  | 0x20 => locGetRequest r.origin d
  | _ => d

/-- An entry of a LIST has been read, or is unreadable: it goes into the reply, unless the key has changed meanwhile, and the LIST goes on
(R71, R72). -/
def listRead (r : Req) (s : Stream) (unreadable : Bool) (d : Drive) : Drive :=
  match s.todo with
  | [] => d
  | (p, k) :: rest =>
    match d.find? r.hdr.ns k with
    | none => listNext r (rest.length + 1) { s with todo := rest } d
    | some e =>
      if e.version ≠ s.rec_.version then listNext r (rest.length + 2) s d
      else
        let b := listItem (bit 3 r.hdr.flags) unreadable e s.rec_
        if s.takes (listLimit r.hdr) b then listNext r (rest.length + 1) { s with todo := rest, items := s.items ++ [(p, b)] } d
        else d.endList r s.items (some p)

/-- Whether a read may still take effect: its record is current, and its deadline has not passed (R38, R53). The drive answers it, or
resolves it anew, otherwise. -/
def Drive.ifCurrent (s : Stream) (r : Req) (d : Drive) (go : Drive → Drive) : Drive :=
  if (d.currentPlace s).isNone then d.rerunRead r
  else if passed d.nowUs r.tag.deadline then d.refuseRead r St.deadlineMissed
  else go d

/-- The header and key of a record have verified (R62 to R64, R166). -/
def headerGood (s : Stream) (d : Drive) : Drive :=
  match d.req? s.origin with
  | none => d.dropStream s.origin
  | some r =>
    if r.hdr.opcode = 0x08 then listRead r s false d
    else d.ifCurrent s r fun d =>
      match (if s.rec_.located then none else condOutcome r.hdr.opcode (condOf r.hdr.flags) r.hdr.condVersion (some s.rec_.version)) with
      | some st => d.refuseRead r st (version := s.rec_.version)
      | none =>
        if r.hdr.opcode = 0x04 then (d.dropStream s.origin).reply s.origin r.replyHdr []
        else if s.stop ≤ s.next then (d.readHeader s.origin r.replyHdr s.rec_.value.length).endRead s St.ok 0
        else
          let s := { s with headerOnly := false, ladder := 0, failed := false }
          (d.putStream s).issueChunk s

/-- A verified chunk is released, the first with the reply's header; the reply goes on to its next chunk or ends (R53, R55 to R57). -/
def releaseChunk (s : Stream) (d : Drive) : Drive :=
  let d := d.readChunk s.origin s.next (chunkBytes s.rec_.value s.lo s.hi s.next)
  let s := { s with next := s.next + 1, ladder := 0, failed := false, started := true }
  if s.stop ≤ s.next then (d.putStream s).endRead s St.ok 0 else (d.putStream s).issueChunk s

/-- What a reply was reading has verified. -/
def chunkGood (s : Stream) (d : Drive) : Drive :=
  if s.headerOnly then headerGood s d
  else if s.started then releaseChunk s d
  else match d.req? s.origin with
    | none => d.dropStream s.origin
    | some r => d.ifCurrent s r fun d => releaseChunk s (d.readHeader s.origin r.replyHdr s.rec_.value.length)

/-! ## The tag ladder (R224 to R229) -/

/-- The whole record is to be written again in the REPAIR stream, while it is current and on flash (R225). -/
def Drive.writeRepair (s : Stream) (d : Drive) : Drive :=
  match d.currentPlace s with
  | some (.media sb gran) => Drive.advanceMedia { d with media.repairs := d.media.repairs ++ [(s.rec_, sb, gran)] }
  | _ => d

/-- The replies that wait for a record's ladder (R228). -/
def Drive.blockedOn (d : Drive) (s : Stream) : List Stream :=
  d.kv.streams.filter (fun x => x.place = s.place ∧ x.ladder = 9 ∧ x.origin ≠ s.origin)

/-- A ladder has ended: the replies that wait at what it read take its outcome, the others read what they had reached (R55, R228). -/
def ladderEnds (s : Stream) (outcome : Stream → Drive → Drive) (d : Drive) : Drive :=
  (s :: d.blockedOn s).foldl (fun (d : Drive) (x : Stream) =>
    if x.chunkNo = s.chunkNo then outcome x d
    else (d.putStream { x with ladder := 0, failed := false }).issueChunk { x with ladder := 0, failed := false }) d

/-- A step of the ladder verifies: CHUNK_REPAIRED, a repaired copy, what it read released with REPAIRED (R225). -/
def ladderOk (s : Stream) (d : Drive) : Drive :=
  let d := ({ d with health.chunksRepaired := satAdd 64 d.health.chunksRepaired 1 }).event 0x110 Sev.notice []
  ladderEnds s (fun x d =>
    let x := { x with repaired := true, ladder := 0, failed := false }
    chunkGood x (d.putStream x)) (d.writeRepair s)

/-- The reply ends with MEDIA_AUTH_FAIL (R58, R60, R64, R226); one whose header has not left sends it with the trailer. A LIST shows the
entry as unreadable (R72). -/
def endAuthFail (s : Stream) (d : Drive) : Drive :=
  match d.req? s.origin with
  | none => d.dropStream s.origin
  | some r =>
    if r.hdr.opcode = 0x08 then listRead r s true d
    else if s.headerOnly then d.refuseRead r St.mediaAuthFail (version := s.rec_.version)
    else (if s.started then d else d.readHeader s.origin r.replyHdr s.rec_.value.length).endRead s St.mediaAuthFail s.next

/-- The value is marked where the record is current, by a MARK delta (R61, R181, R227). A LIST's reply does not end with
MEDIA_AUTH_FAIL and marks nothing (R61, R72). -/
def Drive.markCurrent (s : Stream) (d : Drive) : Drive :=
  let listing := ((d.req? s.origin).map (fun r => r.hdr.opcode == 0x08)).getD false
  match listing, d.currentPlace s with
  | false, some p => d.markValue p s.rec_
  | _, _ => d

/-- Every step has failed (R226, R227): recorded, the value marked while the record is current, the replies ended. -/
def ladderFail (s : Stream) (d : Drive) : Drive :=
  ladderEnds s endAuthFail ((d.authFail s.place s.jobTag).markCurrent s)

/-- The array reads of the ladder: WAITABLE, whatever the request's tolerance (R216, R224). -/
def Drive.ladderJobs (d : Drive) (s : Stream) : List ReadJob :=
  (d.jobsOf s).map (fun (j : ReadJob) => { j with tag := { j.tag with waitable := true } })

/-- Step 3 of the ladder, or its end: the twin is asked for the chunk when the namespace is mirrored and the twin reachable (R224, R310). -/
def ladderFetch (s : Stream) (d : Drive) : Drive :=
  if !(d.ns s.rec_.ns).solo && d.twin.linkUp && d.twin.authenticated then
    let (id, d) := d.newOpId
    let s := { s with ladder := 3, fetchOp := id, fetchAt := d.now, fetchDue := true }
    if d.twinRoom then d.sendFetch s else d.putStream s
  else ladderFail s d

/-- The next step of a record's ladder after a failure (R224); it waits for a ladder of the record that another reply runs (R228). The
first read of an uncorrectable codeword leads here as a failing tag does (DESIGN CHOICE, log entry 69). -/
def ladderNext (s : Stream) (d : Drive) : Drive :=
  match s.ladder with
  | 0 =>
    if d.laddered s then d.putStream { s with ladder := 9, failed := false }
    else
      let s := { s with ladder := 1, failed := false }
      issueReads (d.ladderJobs s) (d.putStream s)
  | 1 =>
    let s := { s with ladder := 2, failed := false }
    (d.ladderJobs s).foldl (fun (d : Drive) (j : ReadJob) => d.beginRebuild 2 j) (d.putStream s)
  | 2 => ladderFetch s d
  | _ => ladderFail s d

/-! ## Completion of array reads -/

/-- A page of a reply's present read has come in, `good` when all its codewords are correct. With the last of them the tags are checked:
`verified` (R55, R202). -/
def pageDone (o : Origin) (good recon verified : Bool) (d : Drive) : Drive :=
  match d.stream? o with
  | none => d
  | some s =>
    let s := { s with failed := s.failed || !good, reconstructed := s.reconstructed || recon }
    let d := d.putStream s
    if d.media.reads.any (fun j => j.origin = o ∧ j.dead = false) then d
    else if s.failed || !verified then ladderNext s d
    else if s.ladder = 0 then chunkGood s d
    else ladderOk s d

/-- The last source of a rebuild has come in: their XOR is the page, but for codewords that a source could not give (R218, R219). A read
around a busy die then waits for its die (R217); step 4 of R222 is counted (R223). -/
def rebuildDone (j : ReadJob) (verified : Bool) (d : Drive) : Drive :=
  let good := j.bad.isEmpty
  match j.why with
  | 0 =>
    if good then
      pageDone j.origin true true verified { d with health.readsReconstructed := satAdd 64 d.health.readsReconstructed 1 }
    else d.queueRead { j with left := 0, bad := [], tag := { j.tag with waitable := true } }
  | 1 => pageDone j.origin good false verified (d.countEcc { parity := j.codewords - j.bad.length, uncorrectable := j.bad.length })
  | _ => pageDone j.origin good false verified d

/-- A source page has been read, the codewords at `bad` not corrected (R219). -/
def sourceDone (s : ReadJob) (bad : List Nat) (verified : Bool) (d : Drive) : Drive :=
  match d.media.reads.find? (fun j => j.origin = s.origin ∧ j.chunk = s.chunk ∧ j.gran = s.gran ∧ j.mode = 1) with
  | none => d
  | some j =>
    let j' := { j with left := j.left - 1, bad := (j.bad ++ bad).dedup }
    if j'.left = 0 then rebuildDone j' verified { d with media.reads := removeFirst (· == j) d.media.reads }
    else { d with media.reads := d.media.reads.map (fun (x : ReadJob) => if x = j then j' else x) }

/-- ARRAY_READ_COMPLETE (R217 to R224): a page, or a source page of a rebuild (`src`: its channel), has been read and its codewords
decoded; with the last page of what a reply reads, `verified` says whether its tags verify. The die takes its next queued reads, or
resumes what was suspended for them (R212); what waited for the die or its token goes on. -/
def arrayReadComplete (o : Origin) (chunk gran : Nat) (src : Option Nat) (cws : List Cw) (verified : Bool) (d : Drive) : Drive :=
  match d.media.reads.find? (fun j => j.origin = o ∧ j.chunk = chunk ∧ j.gran = gran ∧ j.src = src ∧ j.mode = 0) with
  | none => d
  | some j =>
    let cws := (List.range j.codewords).map (fun i => cws.getD i {})
    let bad := (List.range j.codewords).filter (fun i => (cws.getD i {}).step == 4)
    let d := Drive.countEcc (stepCounts cws) { d with media.reads := removeFirst (· == j) d.media.reads }
    let d := (d.startReads j.die).resumeDie j.die
    let d := startAll d.media.reads d
    Drive.advanceMedia (
      if j.dead then d
      else if src.isSome then sourceDone j bad verified d
      else if bad.isEmpty then pageDone o true false verified d
      -- step 4 of R222; a reread of the ladder takes steps 1 to 3 alone (R224)
      else if ((d.stream? o).map (·.ladder)).getD 0 = 1 then pageDone o false false verified d
      else d.beginRebuild 1 { j with codewords := bad.length })

/-! ## Chunk fetches -/

/-- The stream that waits for a fetch. -/
def Drive.fetching (d : Drive) (opId : Nat) : Option Stream := d.kv.streams.find? (fun s => s.ladder = 3 ∧ s.fetchOp = opId)

/-- CHUNK_DATA: the twin's chunk, or none; `verifies`: its tag verifies here (R310). -/
def chunkData (opId : Nat) (body : Option Bytes) (verifies : Bool) (d : Drive) : Drive :=
  d.fromTwin (fun d =>
    let s := d.fetching opId
    let d := d.twinDone opId
    match s with
    | none => d
    | some s => if body.isSome && verifies then ladderOk s d else ladderFail s d)

/-- 2 ms without CHUNK_DATA: the step has failed (R310). -/
def chunkFetchTimeout (opId : Nat) (d : Drive) : Drive :=
  match d.fetching opId with
  | none => d
  | some s => ladderFail s ((d.advanceTo (s.fetchAt + 2000000)).twinDone opId)

/-- A die that has stopped answering: its reads, and the rebuilds that need it, go on without it (R219, R257). -/
def loseDie : List ReadJob → Drive → Drive
  | [], d => d
  | j :: r, d => loseDie r (
      if j.dead then d
      else if j.src.isSome then sourceDone j (List.range j.codewords) false d
      else d.beginRebuild 3 j)

def execArrayReadComplete (o : Origin) (chunk gran : Nat) (src : Option Nat) (cws : List Cw) (verified : Bool) (s : State) : Host.Outcome State Fault Refusal := s.onMain (arrayReadComplete o chunk gran src cws verified)
def execChunkData (opId : Nat) (body : Option Bytes) (verifies : Bool) (s : State) : Host.Outcome State Fault Refusal := s.onMain (chunkData opId body verifies)
def execChunkFetchTimeout (opId : Nat) (s : State) : Host.Outcome State Fault Refusal := s.onMain (chunkFetchTimeout opId)

end Sys2Proof.Machine
end

