-- ==== Sys2Proof/Machine/Checkpoint.lean ====
section
/-! DEFINITION. Machine/Checkpoint.lean: the drain of the delta log, checkpoints and the hold-up measurement (R140, R268 to R277). -/

namespace Sys2Proof.Machine
open Sys2Proof

/-- The 32 bytes of a delta record (Table 5.6). -/
def deltaRecord (x : Delta) : Bytes :=
  let b := beBytes 1 x.kind ++ beBytes 2 x.ns ++ beBytes 4 x.tag ++ beBytes 8 x.version ++ beBytes 5 x.newLoc ++ beBytes 5 x.oldLoc ++ beBytes 3 x.len
  b ++ beBytes 4 (crc32c b)

/-- A 4 KiB block of the delta log: its header of 32 bytes, and up to 127 records (R269). -/
def deltaBlock (l : List (Nat × Delta)) : Bytes :=
  let head := beBytes 8 (((l.map (·.1)).head?).getD 0) ++ beBytes 2 l.length ++ beBytes 18 0
  let recs := (l.map (fun p => deltaRecord p.2)).flatten
  padTo 4096 (head ++ beBytes 4 (crc32c (head ++ recs)) ++ recs)

/-- The blocks in which deltas drain. -/
def deltaBlocks : Nat → List (Nat × Delta) → List Bytes
  | 0, _ => []
  | n + 1, l => if l = [] then [] else deltaBlock (l.take 127) :: deltaBlocks n (l.drop 127)

/-- Deltas the delta area holds: 36 SLC superblocks of 507,904 blocks of 127 (Table 5.2, R269). -/
def deltaAreaDeltas : Nat := 36 * 507904 * 127

/-- What the delta area now holds of the drive's indexes (R281). -/
def Drive.snapshot (d : Drive) : Drive :=
  { d with kv.durable := { tenants := d.kv.tenants, nss := d.kv.nss, dir := d.kv.dir, fwd := d.kv.fwd, live := d.kv.live, reservedTick := d.twin.reservedTick } }

/-- Sends the TABLE_ACKs whose changes' deltas are now programmed (R140). -/
def sendAcks : List (Nat × Nat) → Drive → Drive
  | [], d => d
  | (op, seq) :: r, d => sendAcks r (d.twinSend { code := 0x31, opId := op, aux := seq })

/-- DELTA_DRAIN: the blocks of the delta log drain into the delta area; waiting producers may go on (R268, log entry 14). -/
def deltaDrain (d : Drive) : Drive :=
  let n := d.media.delta.length
  let oldest := max d.media.deltaOldest (d.media.deltaNext - deltaAreaDeltas)
  let d := { d with
    media.drainedBytes := d.media.drainedBytes + 4096 * ceilDiv n 127
    media.deltaOldest := oldest
    media.deltaArea := (d.media.deltaArea ++ d.media.delta).filter (fun x => decide (oldest ≤ x.1))
    media.delta := [] }
  let d := { d with kv.changes := d.kv.changes.map (fun (c : PendingChange) => { c with needDrain := false }) }
  let d := d.snapshot.finishChanges
  let d := sendAcks d.twin.acksDue { d with twin.acksDue := [] }
  -- producers of deltas that waited go on (R268)
  let d := runVerified d.media.verified d
  (decideWaiting d.kv.reqs d).advanceMedia

/-- A root superblock is opened for its first root (Table 5.1). -/
def Drive.openRoot (n : Nat) (d : Drive) : Drive :=
  if (d.sb n).state ≠ 5 then d
  else
    let (seq, d) := d.nextSbSeq
    d.modSb n (fun s => { s with state := 2, slc := true, stream := 0x12, seq := seq })

/-- A root is written alternately to the two root superblocks (R277). -/
def Drive.writeRoot (clean : Bool) (d : Drive) : Drive :=
  let g := max d.media.roots.1.generation d.media.roots.2.generation + 1
  let d := d.openRoot (if g % 2 = 1 then 71 else 72)
  let r : Root := {
    generation := g, deltaSeq := d.media.deltaNext - d.media.delta.length, clean := clean, valid := true
    states := d.media.sbs.map (fun (p : Nat × Superblock) => (p.1, p.2.state, p.2.seq, p.2.wear20))
    subs := d.media.substitutes
    counters := (1, d.twin.reservedTick) :: (2, d.media.sbSeqReserved) :: d.keys.storage.map (fun (p : Nat × StorageSlot) => (3 + p.1, p.2.reserved))
    wptrs := (d.media.sbs.filter (fun (p : Nat × Superblock) => p.2.state = 2)).map (fun (p : Nat × Superblock) => (p.1, p.2.wptr)) }
  { d with media.roots := if g % 2 = 1 then (r, d.media.roots.2) else (d.media.roots.1, r) }

/-- Map pages are written into CHECKPOINT-stream superblocks: another is opened while the maps need it (R196). -/
def growMaps : Nat → Drive → Drive
  | 0, d => d
  | k + 1, d =>
    if d.mapsNeeded ≤ d.media.mapSbs.length then d
    else match d.openSb 0x12 false with
      | none => d
      | some (n, d) => growMaps k { d with media.mapSbs := d.media.mapSbs ++ [n] }

/-- One that the maps no longer need is DIRTY. -/
def dropMaps : Nat → Drive → Drive
  | 0, d => d
  | k + 1, d =>
    if d.media.mapSbs.length ≤ d.mapsNeeded then d
    else match d.media.mapSbs.getLast? with
      | none => d
      | some n => dropMaps k (({ d with media.mapSbs := d.media.mapSbs.dropLast }).sbState n 1)

def Drive.writeMaps (d : Drive) : Drive := dropMaps d.media.mapSbs.length (growMaps d.mapsNeeded d)

/-- CHECKPOINT: 30 minutes since the last, or 64 GiB of deltas drained (R276). Map pages go with it (R196). -/
def checkpoint (d : Drive) : Drive :=
  let d := if 64 * 2 ^ 30 ≤ d.media.drainedBytes then d else d.advanceTo (d.media.checkpointAt + 1800000000000)
  let d := d.awaken.wasBusy.writeMaps.advanceMedia
  { d.writeRoot false with media.checkpoints := d.media.checkpoints + 1, media.checkpointAt := d.now, media.drainedBytes := 0 }

/-- What a measurement of the hold-up bank's usable energy sets and records (R273 to R275, R804). `first`: it is the first of a power
cycle. -/
def Drive.holdup (mj : Nat) (temp : Int) (first : Bool) (d : Drive) : Drive :=
  let low := decide (mj < 3200)
  let failed := decide (mj < 800)
  let shelf := if failed then 0 else if low then 1024 * mj / 3200 / 16 * 16 else 1024
  let delta := if low then 768 * mj / 3200 / 16 * 16 else 768
  let wasLow := d.media.holdupLow && !first
  let wasFailed := d.media.holdupFailed && !first
  let hours := d.now / 3600000000000
  let e : HoldupEntry := { hours := hours, mj := mj, temp := temp }
  let period := fun (h : Nat) => h / 2160
  let d := { d with
    media.holdupMj := mj, media.holdupLow := low, media.holdupFailed := failed, media.holdupAt := d.now
    media.shelfLimitMiB := shelf, media.deltaLimitMiB := delta
    health.holdupMin := min d.health.holdupMin mj
    health.holdupRecent := (e :: d.health.holdupRecent).take 64
    health.holdupPeriodic := if d.health.holdupPeriodic.any (fun x => period x.hours == period hours) ∨ 112 ≤ d.health.holdupPeriodic.length then d.health.holdupPeriodic
      else d.health.holdupPeriodic ++ [e] }
  let d := if low && !wasLow then d.event 0x021 Sev.warning [] else d
  if failed && !wasFailed then d.event 0x022 Sev.critical [] else d

/-- HOLDUP_MEASURE, every 24 h (R273). -/
def holdupMeasure (mj : Nat) (temp : Int) (d : Drive) : Drive :=
  (d.advanceTo (d.media.holdupAt + 86400000000000)).holdup mj temp false

def execDeltaDrain (s : State) : Host.Outcome State Fault Refusal := s.onMain (fun d => (deltaDrain d).wasBusy)
def execCheckpoint (s : State) : Host.Outcome State Fault Refusal := s.onMain checkpoint
def execHoldupMeasure (mj : Nat) (temp : Int) (s : State) : Host.Outcome State Fault Refusal := s.onMain (holdupMeasure mj temp)

end Sys2Proof.Machine
end

