-- ==== Sys2Proof/Machine/Privet.lean ====
section
/-! DEFINITION. Machine/Privet.lean: the Privet classifier (R530 to R565): keys, matching, actions, policers, the entry and action
commands, probes and the scrubber. -/

namespace Sys2Proof.Machine
open Sys2Proof

/-! ## Token buckets (R501, R551) -/

/-- The balance of a bucket now, in 10^-9 tokens: filled at `rate` a second up to `depth`, in 10^-9 tokens too. -/
def Bucket.level (rate depth now : Nat) (b : Bucket) : Int :=
  match b.balance with
  | none => Int.ofNat depth
  | some x => min (Int.ofNat depth) (x + Int.ofNat (rate * (now - b.at_)))

/-- A bucket charged `n` tokens. -/
def Bucket.charge (rate depth now n : Nat) (b : Bucket) : Bucket :=
  { balance := some (b.level rate depth now - Int.ofNat (n * 1000000000)), at_ := now }

/-- An occurrence that is recorded only as the first after 1 s without one. -/
def firstIn (last : Option Nat) (now : Nat) : Bool :=
  match last with | none => true | some t => decide (t + 1000000000 ≤ now)

/-! ## Keys (R536, R537, Tables 10.2 to 10.5) -/

/-- The class of a frame (Table 10.5). -/
def classOf (gkp : Nat) (f : Ether) : Nat :=
  if f.etherType = 0x0806 then 0x5
  else if f.etherType = 0x88CC then 0xA
  else if f.etherType = 0x88F7 then 0xB
  else if !f.isIp then 0xE
  else if f.proto = 17 then
    if f.udpDst = gkp then (if f.v6 then 0x2 else 0x1)
    else if f.udpDst = 319 ∨ f.udpDst = 320 then 0xB
    else if f.udpDst = 68 ∨ f.udpDst = 546 then 0xC
    else if f.v6 then 0x4 else 0x3
  else if f.proto = 1 ∧ f.v6 = false then (if f.icmpType = 8 then 0x7 else 0x9)
  else if f.proto = 58 ∧ f.v6 = true then
    if 133 ≤ f.icmpType ∧ f.icmpType ≤ 137 then 0x6 else if f.icmpType = 128 then 0x8 else 0x9
  else 0xD

def isGkp (cls : Nat) : Bool := cls == 1 || cls == 2

/-- session, SID_HIGH, gkp_type and FIRST of K1 and K2, as 22 bits. -/
def gkpBits (cls : Nat) (f : Ether) : Nat :=
  if isGkp cls then (f.sid % 65536) * 64 + b2n (f.sid / 65536 != 0) * 32 + f.gkpType % 16 * 2 + f.xportFlags % 2 else 0

/-- DSCP and ECN, as 8 bits. -/
def tosBits (f : Ether) : Nat := if f.isIp then f.dscp * 4 + f.ecn else 0

/-- Key K1 (Table 10.2). -/
def keyK1 (cls : Nat) (f : Ether) : Nat :=
  let addr := fun (a : Nat) => if f.isIp || cls == 5 then a % 2 ^ 32 else 0
  cls * 2 ^ 156 + f.port % 2 * 2 ^ 155 + f.keyVid * 2 ^ 143 + tosBits f * 2 ^ 135 + addr f.ipSrc * 2 ^ 103 + addr f.ipDst * 2 ^ 71 +
  (if f.isIp ∧ f.proto = 17 then f.udpSrc else 0) * 2 ^ 55 + gkpBits cls f * 2 ^ 33

/-- Key K2 (Table 10.3). -/
def keyK2 (cls : Nat) (f : Ether) : Nat :=
  let addr := fun (a : Nat) => if f.v6 then a else if f.isIp || cls == 5 then 0xFFFF * 2 ^ 32 + a else 0
  cls * 2 ^ 316 + f.port % 2 * 2 ^ 315 + f.keyVid * 2 ^ 303 + tosBits f * 2 ^ 295 + addr f.ipSrc * 2 ^ 167 + addr f.ipDst * 2 ^ 39 +
  (if f.isIp ∧ f.proto = 17 then f.udpSrc else 0) * 2 ^ 23 + gkpBits cls f * 2

/-- Key K4: K2 and the operation header fields (Table 10.4, R537). -/
def keyK4 (cls : Nat) (f : Ether) : Nat :=
  let h := f.op
  let opPart := if isGkp cls ∧ f.xportFlags % 2 = 1 ∧ f.headerLen = 96 then
      h.opcode * 2 ^ 312 + h.flags * 2 ^ 304 + h.tenant * 2 ^ 288 + h.ns * 2 ^ 272 + h.qos * 2 ^ 264 + h.durability * 2 ^ 256 +
      h.tolerance * 2 ^ 240 + h.deadline * 2 ^ 208 + h.keyLen * 2 ^ 192 + h.valueLen * 2 ^ 128
    else 0
  let gkpPart := if isGkp cls then f.xportFlags * 2 ^ 120 + f.headerLen * 2 ^ 104 else 0
  keyK2 cls f * 2 ^ 320 + opPart + gkpPart

/-! ## Matching (R534, R538, R542, R543) -/

def Drive.bankWidth (d : Drive) (b : Nat) : Nat := d.privet.widths.getD b 1

/-- Entries of a bank (Table 10.1). -/
def Drive.bankEntries (d : Drive) (b : Nat) : Nat := 4096 / d.bankWidth b

/-- A key matches an entry: (K XOR match) AND mask is zero (R538). -/
def PEntry.hits (key : Nat) (e : PEntry) : Bool := e.valid && ((key ^^^ e.mtch) &&& e.mask) == 0

/-- The valid entries that match keys K1 and K4, by bank and then index. -/
def Drive.privetHits (d : Drive) (k1 k4 : Nat) : List (Nat × PEntry) :=
  d.privet.table.filter (fun (p : Nat × PEntry) =>
    let w := d.bankWidth (p.1 / 4096)
    p.2.hits (if w = 1 then k1 else if w = 2 then k4 / 2 ^ 320 else k4))

/-- The entry of lowest priority number; among equals the first by bank and index (R542). -/
def bestHit : List (Nat × PEntry) → Option (Nat × PEntry)
  | [] => none
  | p :: r =>
    match bestHit r with
    | some q => if q.2.priority < p.2.priority then some q else some p
    | none => some p

/-- What classification made of a frame: the action it takes and its index; MULTIPLE; TIE; the ring it goes to, or none when dropped. -/
structure Verdict where
  action : Nat := 0x3FFF
  multiple : Bool := false
  tie : Bool := false
  ring : Option Nat := none
deriving DecidableEq, Repr

/-! ## Actions (R545 to R552) -/

def actDest (a : Nat) : Nat := bits 127 126 a
def actAssign (a : Nat) : Bool := bit 125 a
def actCopy (a : Nat) : Bool := bit 124 a
def actCount (a : Nat) : Bool := bit 123 a
def actTenant (a : Nat) : Nat := bits 119 108 a
def actBase (a : Nat) : Nat := bits 107 92 a
def actSpan (a : Nat) : Nat := bits 91 76 a
def actPolicer (a : Nat) : Nat := bits 75 66 a
def actCounter (a : Nat) : Nat := bits 63 52 a

/-- An action entry is well formed (R545, Table 10.7). -/
def actionOk (a : Nat) : Bool :=
  actDest a != 3 && !(actDest a == 1 && !actAssign a) &&
  !(actAssign a && (actSpan a == 0 || decide (65535 < actBase a + actSpan a - 1) ||
    (if actTenant a = 0 then !(actBase a == 0 && actSpan a == 1) else actBase a == 0)))

/-- Buffers a frame of a length takes (R511). -/
def buffersOf (len : Nat) : Nat := ceilDiv len 2048

/-- Buffers on the free list of a receive ring (R511). -/
def Drive.ringFree (d : Drive) (p ring : Nat) : Nat :=
  4096 - ((tgetD ring [] (d.prt p).rings).map (·.buffers)).sum

/-- The policer admits the frame and is charged, or drops it and counts the drop (R551). -/
def Drive.police (n len : Nat) (d : Drive) : Bool × Drive :=
  if n = 0 then (true, d)
  else
    let p := tgetD n {} d.privet.policers
    let fd := max (p.fps * 1000000) 16000000000
    let bd := max (p.bps * 1000000) 147456000000000
    let ok := (p.fps == 0 || decide (0 ≤ p.frames.level p.fps fd d.now)) && (p.bps == 0 || decide (0 ≤ p.bytes.level p.bps bd d.now))
    if ok then
      (true, { d with privet.policers := tput n { p with
        frames := p.frames.charge p.fps fd d.now 1, bytes := p.bytes.charge p.bps bd d.now len } d.privet.policers })
    else
      let d := if firstIn p.lastDrop d.now then d.event 0x385 Sev.notice [n] else d
      (false, { d with privet.policers := tput n { p with drops := (p.drops + 1) % 2 ^ 64, lastDrop := some d.now } d.privet.policers })

/-- A copy to the management session (R515, R550). -/
def Drive.privetCopy (f : Ether) (c : Completion) (d : Drive) : Drive :=
  if d.ringFree f.port 0 < buffersOf f.length then d.portCount f.port 24 1
  else { d with privet.captures := ((c, f.bytes.take 2048) :: d.privet.captures).take 1024 }

/-- Applies an action to a frame in the order of R546. Answers the ring, or none when the frame is dropped. -/
def Drive.applyAction (f : Ether) (cls idx a : Nat) (c : Completion) (d : Drive) : Option Nat × Drive :=
  let counted := fun (x : Nat × Nat) => ((x.1 + 1) % 2 ^ 64, (x.2 + f.length) % 2 ^ 64)
  let d := if actCount a then { d with privet.counters := tmod (actCounter a) (0, 0) counted d.privet.counters } else d
  let (ok, d) := d.police (actPolicer a) f.length
  if !ok then (none, d)
  else
    let d := if actCopy a then d.privetCopy f c else d
    let own := if isGkp cls then f.sid else 0
    let session := if actSpan a = 1 then some (actBase a)
      else if own < 65536 ∧ actBase a ≤ own ∧ own < actBase a + actSpan a then some own else none
    if actAssign a ∧ session.isNone then
      let d := if firstIn d.privet.lastRangeMiss d.now then d.event 0x383 Sev.notice [f.port, idx, own] else d
      (none, { d with privet.rangeMisses := (d.privet.rangeMisses + 1) % 2 ^ 64, privet.lastRangeMiss := some d.now })
    else if actDest a = 2 then (some 0, d)
    else if actDest a = 1 ∧ isGkp cls = true then (some (1 + session.getD 0 % 32), d)
    else (none, d)

/-- The completion entry of a delivered frame (Table 9.7). -/
def rxEntry (f : Ether) (now action : Nat) (multiple tie : Bool) : Completion :=
  { rxTime := now, length := f.length, buffers := buffersOf f.length, vid := f.keyVid, action := action, tagged := f.tagged
    ce := f.isIp && f.ecn == 3, multiple := multiple, tie := tie, ptpEvent := f.ptpEvent }

/-- The 16 bytes of a completion entry (Table 9.7). -/
def Completion.bytes (c : Completion) : Bytes :=
  beBytes 8 c.rxTime ++ beBytes 8 (c.length % 2 ^ 16 * 2 ^ 48 + c.buffers % 16 * 2 ^ 44 + c.vid % 2 ^ 12 * 2 ^ 32 + c.action % 2 ^ 14 * 2 ^ 18 +
    b2n c.trunc * 2 ^ 17 + b2n c.tagged * 2 ^ 16 + b2n c.ce * 2 ^ 15 + b2n c.multiple * 2 ^ 14 + b2n c.tie * 2 ^ 13 + b2n c.ptpEvent * 2 ^ 12)

/-- Privet classifies a frame of port A or B and applies the winner's action, or what R553 and R554 give a frame that nothing matches. -/
def Drive.classify (f : Ether) (d : Drive) : Verdict × Drive :=
  let cls := classOf d.port.gkpPort f
  let d := if f.port = 0 then { d with privet.lookupsA := (d.privet.lookupsA + 1) % 2 ^ 64 }
    else { d with privet.lookupsB := (d.privet.lookupsB + 1) % 2 ^ 64 }
  let hits := d.privetHits (keyK1 cls f) (keyK4 cls f)
  let comp := rxEntry f d.now
  match bestHit hits with
  | some (i, e) =>
    let v : Verdict := { action := e.action, multiple := decide (2 ≤ hits.length),
                         tie := decide (2 ≤ (hits.filter (fun (p : Nat × PEntry) => p.2.priority = e.priority)).length) }
    let d := if v.multiple then { d with privet.multiMatches := (d.privet.multiMatches + 1) % 2 ^ 64 } else d
    let d := if v.tie then
        let d := if firstIn d.privet.lastTie d.now then d.event 0x382 Sev.notice [f.port, i / 4096, i % 4096] else d
        { d with privet.ties := (d.privet.ties + 1) % 2 ^ 64, privet.lastTie := some d.now }
      else d
    let (ring, d) := d.applyAction f cls e.action (tgetD e.action 0 d.privet.actions) (comp v.action v.multiple v.tie)
    ({ v with ring := ring }, d)
  | none =>
    if bit cls d.privet.fwClassMask then ({ ring := some 0 }, d)
    else
      let d := if f.port = 0 then { d with privet.defaultHitsA := (d.privet.defaultHitsA + 1) % 2 ^ 64 }
        else { d with privet.defaultHitsB := (d.privet.defaultHitsB + 1) % 2 ^ 64 }
      let (ring, d) := d.applyAction f cls 0x3FFF (if f.port = 0 then d.privet.defaultA else d.privet.defaultB) (comp 0x3FFF false false)
      ({ ring := ring }, d)

/-! ## Entry commands (R538 to R541, R555, R556, Table 10.8) -/

def Drive.pchan (d : Drive) (ch : Nat) : PChan := tgetD ch {} d.privet.chans

def Drive.modPchan (ch : Nat) (f : PChan → PChan) (d : Drive) : Drive := { d with privet.chans := tmod ch {} f d.privet.chans }

/-- An ENTRY_SELECT names an entry its bank has. -/
def Drive.entryOk (d : Drive) (sel : Nat) : Bool := decide (sel < 32768) && decide (sel % 4096 < d.bankEntries (sel / 4096))

/-- An entry; both copies are written together (R560). -/
def Drive.pentry (d : Drive) (sel : Nat) : PEntry := tgetD sel {} d.privet.table

def Drive.setPentry (sel : Nat) (e : PEntry) (d : Drive) : Drive :=
  { d with privet.table := tput sel e d.privet.table, privet.shadow := tput sel e d.privet.shadow }

/-- The priorities of the bank stay in order with priority `p` valid at `sel`, leaving out `skip` (R541). -/
def Drive.orderOk (d : Drive) (sel p skip : Nat) : Bool :=
  d.privet.table.all (fun (q : Nat × PEntry) =>
    q.1 / 4096 != sel / 4096 || !q.2.valid || q.1 == skip || q.1 == sel ||
    (if q.1 < sel then decide (q.2.priority ≤ p) else decide (p ≤ q.2.priority)))

/-- PRIVET_TABLE_CHANGE (command, bank, index, channel). -/
def Drive.tableChanged (cmd sel ch : Nat) (d : Drive) : Drive := d.event 0x384 Sev.info [cmd, sel / 4096, sel % 4096, ch]

/-- READ: units and metadata go to staging. -/
def entryRead (ch : Nat) (d : Drive) : Wr :=
  let sel := (d.pchan ch).select
  if !d.entryOk sel then .bad St.malformed d
  else
    let e := d.pentry sel
    let lift := 2 ^ (640 - 160 * d.bankWidth (sel / 4096))
    .ok (d.modPchan ch (fun c => { c with
      mtch := e.mtch * lift, mask := e.mask * lift, metaWord := b2n e.valid * 2 ^ 31 + e.action * 2 ^ 16 + e.priority }))

/-- WRITE: units and metadata with VALID clear, then VALID from staging. -/
def entryWrite (ch : Nat) (d : Drive) : Wr :=
  let c := d.pchan ch
  let lift := 2 ^ (640 - 160 * d.bankWidth (c.select / 4096))
  let e : PEntry := { mtch := c.mtch / lift, mask := c.mask / lift, valid := bit 31 c.metaWord, action := bits 29 16 c.metaWord, priority := bits 15 0 c.metaWord }
  if !d.entryOk c.select ∨ (e.mtch &&& e.mask) ≠ e.mtch ∨ e.action = 0x3FFF then .bad St.malformed d
  else if (d.pentry c.select).valid then .conflict 0x81 0x08 d
  else if e.valid ∧ !d.orderOk c.select e.priority c.select then .conflict 0x80 0x08 d
  else .ok ((d.setPentry c.select e).tableChanged 2 c.select ch)

/-- INVALIDATE: VALID clears, then units and metadata are zero. -/
def entryInvalidate (ch : Nat) (d : Drive) : Wr :=
  let sel := (d.pchan ch).select
  if !d.entryOk sel then .bad St.malformed d
  else .ok ((d.setPentry sel {}).tableChanged 3 sel ch)

/-- MOVE to ENTRY_TARGET: the target becomes valid in the cycle in which the source ceases to be (R556). -/
def entryMove (ch : Nat) (d : Drive) : Wr :=
  let src := (d.pchan ch).select
  let tgt := (d.pchan ch).target
  if !d.entryOk src ∨ !d.entryOk tgt ∨ d.bankWidth (src / 4096) ≠ d.bankWidth (tgt / 4096) then .bad St.malformed d
  else if (d.pentry tgt).valid then .conflict 0x81 0x08 d
  else if !(d.pentry src).valid then .conflict 0x82 0x08 d
  else if !d.orderOk tgt (d.pentry src).priority src then .conflict 0x80 0x08 d
  else .ok (((d.setPentry tgt (d.pentry src)).setPentry src {}).tableChanged 4 src ch)

/-! ## Action entries, bank widths, default actions (R535, R544, R554, R558) -/

def Drive.setAction (i a : Nat) (d : Drive) : Drive :=
  { d with privet.actions := tput i a d.privet.actions, privet.actionShadow := tput i a d.privet.actionShadow }

/-- The bits of an action word that are not reserved (R15, R17). -/
def actionBits (a : Nat) : Nat := bits 127 123 a * 2 ^ 123 + bits 119 66 a * 2 ^ 66 + bits 63 52 a * 2 ^ 52

def actionRead (ch : Nat) (d : Drive) : Wr :=
  let c := d.pchan ch
  if 16383 ≤ c.actionSelect then .bad St.malformed d
  else .ok (d.modPchan ch (fun c => { c with actionData := tgetD c.actionSelect 0 d.privet.actions }))

def actionWrite (ch : Nat) (d : Drive) : Wr :=
  let c := d.pchan ch
  if 16383 ≤ c.actionSelect ∨ !actionOk c.actionData then .bad St.malformed d
  else .ok (d.setAction c.actionSelect (actionBits c.actionData))

/-- The widths a PRIVET.BANK_WIDTH word gives (Table 10.10); none where a bank has 0b11. -/
def widthsOf (v : Nat) : Option (List Nat) :=
  let fs := (List.range 8).map (fun b => bits (2 * b + 1) (2 * b) v)
  if fs.any (· == 3) then none else some (fs.map (fun x => 2 ^ x))

/-- A bank whose width changes must hold no valid entry (R535); the words of its entries that are not valid are zeroed (log entry 16). -/
def bankWidthWrite (v : Nat) (d : Drive) : Wr :=
  match widthsOf v with
  | none => .bad St.malformed d
  | some ws =>
    let changed := fun b => d.bankWidth b != ws.getD b 1
    if d.privet.table.any (fun (p : Nat × PEntry) => p.2.valid && changed (p.1 / 4096)) then .conflict 0x83 0x08 d
    else
      let keep := fun (t : Tbl PEntry) => t.filter (fun (p : Nat × PEntry) => !changed (p.1 / 4096))
      .ok { d with privet.widths := ws, privet.table := keep d.privet.table, privet.shadow := keep d.privet.shadow }

/-- A default action and its shadow are written together (R560). -/
def Drive.setDefault (port a : Nat) (d : Drive) : Drive :=
  if port = 0 then { d with privet.defaultA := a, privet.defaultShadowA := a } else { d with privet.defaultB := a, privet.defaultShadowB := a }

/-- A default action is checked and applied (R554). -/
def defaultActionWrite (port a : Nat) (d : Drive) : Wr :=
  if actAssign a ∨ actDest a = 1 ∨ actDest a = 3 then .bad St.malformed d
  else .ok (d.setDefault port (actionBits a))

/-! ## Probes (R563 to R565) -/

/-- PROBE_RESULT and PROBE_CURSOR of a match (Table 10.9). -/
def Drive.probeFound (ch : Nat) (hit : Nat × PEntry) (multiple tie : Bool) (d : Drive) : Drive :=
  d.modPchan ch (fun c => { c with
    result := 2 ^ 31 + b2n multiple * 2 ^ 30 + b2n tie * 2 ^ 29 + hit.2.action * 2 ^ 15 + hit.1
    cursor := hit.2.priority * 2 ^ 16 + hit.1 })

def probeFirst (ch : Nat) (d : Drive) : Wr :=
  let c := d.pchan ch
  let hits := d.privetHits c.key1 c.key4
  match bestHit hits with
  | some h => .ok (d.probeFound ch h (decide (2 ≤ hits.length))
      (decide (2 ≤ (hits.filter (fun (p : Nat × PEntry) => p.2.priority = h.2.priority)).length)))
  | none => .ok (d.modPchan ch (fun c => { c with result := 0 }))

def probeNext (ch : Nat) (d : Drive) : Wr :=
  let c := d.pchan ch
  let after := fun (p : Nat × PEntry) => decide (c.cursor < p.2.priority * 2 ^ 16 + p.1)
  match bestHit ((d.privetHits c.key1 c.key4).filter after) with
  | some h => .ok (d.probeFound ch h false false)
  | none => .ok (d.modPchan ch (fun c => { c with result := 0 }))

/-! ## The scrubber (R561, R562) -/

/-- Rewrites from the shadow each entry of the table that differs from it. -/
def scrubEntries : List Nat → Drive → Drive
  | [], d => d
  | i :: r, d =>
    let e := tgetD i {} d.privet.shadow
    scrubEntries r (if tgetD i {} d.privet.table = e then d
      else ({ d with privet.table := tput i e d.privet.table, privet.scrubFixes := (d.privet.scrubFixes + 1) % 2 ^ 64 }).event 0x380 Sev.warning [i / 4096, i % 4096])

/-- Rewrites from the shadow each action entry that differs from it. -/
def scrubActions : List Nat → Drive → Drive
  | [], d => d
  | i :: r, d =>
    let a := tgetD i 0 d.privet.actionShadow
    scrubActions r (if tgetD i 0 d.privet.actions = a then d
      else ({ d with privet.actions := tput i a d.privet.actions, privet.scrubFixes := (d.privet.scrubFixes + 1) % 2 ^ 64 }).event 0x380 Sev.warning [i])

/-- Rewrites from the shadow a default action that differs from it; as an action it is item 16,384 for port A, 16,385 for port B (log
entry 86). -/
def scrubDefault (port : Nat) (d : Drive) : Drive :=
  let a := if port = 0 then d.privet.defaultShadowA else d.privet.defaultShadowB
  if (if port = 0 then d.privet.defaultA else d.privet.defaultB) = a then d
  else ({ d.setDefault port a with privet.scrubFixes := (d.privet.scrubFixes + 1) % 2 ^ 64 }).event 0x380 Sev.warning [16384 + port]

/-- Entries whose shadow words are uncorrectable lose VALID in both copies (R562). -/
def loseEntries : List Nat → Drive → Drive
  | [], d => d
  | i :: r, d => loseEntries r ((d.setPentry i { d.pentry i with valid := false }).event 0x381 Sev.critical [i / 4096, i % 4096])

/-- Action entries whose shadow words are uncorrectable drop, and neither copy nor assign (R562). -/
def loseActions : List Nat → Drive → Drive
  | [], d => d
  | i :: r, d =>
    let d' := if i < 16384 then d.setAction i (bits 123 0 (tgetD i 0 d.privet.actions))
      else d.setDefault (i - 16384) (bits 123 0 (if i = 16384 then d.privet.defaultA else d.privet.defaultB))
    loseActions r (d'.event 0x381 Sev.critical [i])

/-- One pass of the scrubber, within 10 ms of the last (R561). `upsets` and `actionUpsets` are what upsets have made of the table
since; `lost` and `lostActions` name the items whose shadow words are uncorrectable. Default actions are items 16,384 and 16,385. -/
def privetScrub (upsets : List (Nat × PEntry)) (actionUpsets : List (Nat × Nat)) (lost lostActions : List Nat) (d : Drive) : Drive :=
  let d := d.advanceTo (d.privet.scrubbedAt + 10000000)
  let d := { d with
    privet.scrubbedAt := d.now
    privet.table := upsets.foldl (fun t u => tput u.1 u.2 t) d.privet.table
    privet.actions := (actionUpsets.filter (fun u => u.1 < 16384)).foldl (fun t u => tput u.1 u.2 t) d.privet.actions
    privet.defaultA := (tget? 16384 actionUpsets).getD d.privet.defaultA
    privet.defaultB := (tget? 16385 actionUpsets).getD d.privet.defaultB }
  let d := loseActions lostActions (loseEntries lost d)
  scrubDefault 1 <| scrubDefault 0 <| scrubActions ((d.privet.actions.map (·.1)) ++ (d.privet.actionShadow.map (·.1)))
    (scrubEntries ((d.privet.table.map (·.1)) ++ (d.privet.shadow.map (·.1))) d)

def execEntryRead (ch : Nat) (s : State) : Host.Outcome State Fault Refusal := s.onMain (attrCmd ch 0x0806 (entryRead ch))
def execEntryWrite (ch : Nat) (s : State) : Host.Outcome State Fault Refusal := s.onMain (attrCmd ch 0x0806 (entryWrite ch))
def execEntryInvalidate (ch : Nat) (s : State) : Host.Outcome State Fault Refusal := s.onMain (attrCmd ch 0x0806 (entryInvalidate ch))
def execEntryMove (ch : Nat) (s : State) : Host.Outcome State Fault Refusal := s.onMain (attrCmd ch 0x0806 (entryMove ch))
def execActionRead (ch : Nat) (s : State) : Host.Outcome State Fault Refusal := s.onMain (attrCmd ch 0x0808 (actionRead ch))
def execActionWrite (ch : Nat) (s : State) : Host.Outcome State Fault Refusal := s.onMain (attrCmd ch 0x0808 (actionWrite ch))
def execBankWidthWrite (ch v : Nat) (s : State) : Host.Outcome State Fault Refusal := s.onMain (attrCmd ch 0x0800 (bankWidthWrite v))
def execDefaultActionWrite (ch port v : Nat) (s : State) : Host.Outcome State Fault Refusal :=
  s.onMain (attrCmd ch (if port = 0 then 0x0823 else 0x0827) (defaultActionWrite port v))
def execProbeFirst (ch : Nat) (s : State) : Host.Outcome State Fault Refusal := s.onMain (attrCmd ch 0x0814 (probeFirst ch))
def execProbeNext (ch : Nat) (s : State) : Host.Outcome State Fault Refusal := s.onMain (attrCmd ch 0x0814 (probeNext ch))
def execPrivetScrub (upsets : List (Nat × Bool × Nat × Nat × Nat × Nat)) (actionUpsets : List (Nat × Nat)) (lost lostActions : List Nat) (s : State) :
    Host.Outcome State Fault Refusal :=
  s.onMain (privetScrub (upsets.map (fun u => (u.1, { valid := u.2.1, mtch := u.2.2.1, mask := u.2.2.2.1, action := u.2.2.2.2.1, priority := u.2.2.2.2.2 })))
    actionUpsets lost lostActions)

end Sys2Proof.Machine
end

