-- ==== Sys2Proof/Machine/Ports.lean ====
section
/-! DEFINITION. Machine/Ports.lean: the five Ethernet ports (R481 to R529): links, addresses, the receive path, the protocols the drive
answers itself, statistics, transmit timestamps. -/

namespace Sys2Proof.Machine
open Sys2Proof

/-! ## Links (R482 to R489) -/

/-- Ports A and B. -/
def isHost (p : Nat) : Bool := p == 0 || p == 1

/-- The speeds a port may advertise, highest first (R482, Table 9.1). -/
def Drive.speeds (d : Drive) (p : Nat) : List Nat :=
  if isHost p then [200, 100, 50].filter (fun s => bit (if s = 200 then 2 else if s = 100 then 1 else 0) (d.prt p).permitted)
  else if p = 2 then [400, 200] else [200, 100]

/-- The speeds it advertises: those not withdrawn (R487). -/
def Drive.advertised (d : Drive) (p : Nat) : List Nat := (d.speeds p).filter (fun s => (tget? s (d.prt p).withdrawn).isNone)

/-- The technologies a port may use, 1 KR and 2 CR: its medium, or with AUTO either as the partner advertises it (R482, Table 9.1). -/
def Drive.techs (d : Drive) (p : Nat) : List Nat := if isHost p && (d.prt p).medium != 1 then (if (d.prt p).medium = 0 then [1, 2] else [2]) else [1]

/-- Lanes, as a mask, that carry a speed on a port, of those that trained; none when too few did (R481, R484). -/
def lanesFor (p speed trained : Nat) : Option Nat :=
  if p = 2 then
    if speed = 400 then (if trained % 16 = 15 then some 15 else none)
    else if trained % 4 = 3 then some 3 else if trained / 4 % 4 = 3 then some 12 else none
  else if speed = 50 then (if bit 0 trained then some 1 else none)
  else if trained % 4 = 3 then some 3 else none

/-- Negotiation starts (counter 43). -/
def Drive.negotiate (p : Nat) (d : Drive) : Drive :=
  d.modPort p (fun x => ({ x with link := 1, speed := 0, chosen := 0, lanes := 0, degradedTold := false } : Port).count 43 1)

/-- Every session's path on a host port goes down (R467). -/
def pathsDown (p : Nat) : List Nat → Drive → Drive
  | [], d => d
  | sid :: r, d => pathsDown p r (d.pathDown sid p)

/-- What the rest of the drive makes of a port that leaves UP: a host port's paths go down (R467); the twin link is down, and its twin
session's keys are zeroised; a ring link is down (R315, R349). -/
def Drive.linkLost (p : Nat) (d : Drive) : Drive :=
  let d := d.modPort p (Port.count 42 1)
  if isHost p then pathsDown p (d.xp.sessions.map (·.1)) d
  else if p = 2 then
    (({ d with twin.linkUp := false, twin.authenticated := false, twin.downSince := d.now }).setSys 73736 {}).setSys 73737 {}
  else { d with ring := d.ring.setSide (p == 3) { d.ring.side (p == 3) with downAt := some d.now } }

/-- Auto-negotiation ends: training begins at the highest speed both partners advertise in a technology the port may use (R485 steps 1
and 2). `partner`: the speeds it advertises, each with its technology. -/
def autonegComplete (p : Nat) (partner : List (Nat × Nat)) (d : Drive) : Drive :=
  if (d.prt p).link ≠ 1 then d
  else
    let common := fun (s : Nat) => (d.techs p).find? (fun t => partner.contains (s, t))
    match (d.advertised p).find? (fun s => (common s).isSome) with
    | some s => d.modPort p (fun x => { x with
        link := 2, chosen := s, tech := (common s).getD 0, fails := if x.failSpeed = s then x.fails else 0, failSpeed := s })
    | none => d

/-- Every lane of the speed has trained (R485 step 2). -/
def trainingComplete (p trained : Nat) (d : Drive) : Drive :=
  let x := d.prt p
  if x.link ≠ 2 then d
  else match lanesFor p x.chosen trained with
    | some m => d.modPort p (fun x => { x with link := 3, lanes := m })
    | none => d

/-- The link is lost while UP (R486). `hiSer`: the lane of a high symbol-error condition, where that was the cause. -/
def linkDown (p cause : Nat) (hiSer : Option Nat) (d : Drive) : Drive :=
  if (d.prt p).link ≠ 4 then d
  else
    let d := match hiSer with
      | some lane => (d.portCount p 39 1).event 0x303 Sev.warning [p, lane]
      | none => d
    let d := d.modPort p (fun x => { x with link := 5, speed := 0, holdoffAt := d.now, retraining := false })
    (d.linkLost p).event 0x301 Sev.warning [p, cause]

/-- 10 ms of HOLDOFF end (R486). -/
def holdoffExpiry (p : Nat) (d : Drive) : Drive :=
  if (d.prt p).link ≠ 5 then d else (d.advanceTo ((d.prt p).holdoffAt + 10000000)).negotiate p

/-- Training fails (R484, R487). The twin port goes on at 200 Gb/s on the first half that trained; otherwise the failure counts, the
third in succession at one speed withdraws it for 60 s, and the port passes through HOLDOFF. -/
def trainingFail (p trained : Nat) (d : Drive) : Drive :=
  let x := d.prt p
  if x.link ≠ 2 ∧ x.link ≠ 3 then d
  else match (if p = 2 ∧ x.chosen = 400 then lanesFor 2 200 trained else none) with
    | some m => (d.modPort p (fun x => { x with link := 3, chosen := 200, lanes := m, degradedTold := true })).event 0x30B Sev.warning [m]
    | none =>
      let third := x.fails + 1 = 3
      let d := d.modPort p (fun x => { x with
        link := 5, holdoffAt := d.now, lanes := 0, fails := if third then 0 else x.fails + 1, failSpeed := x.chosen
        withdrawn := if third then tput x.chosen (d.now + 60000000000) x.withdrawn else x.withdrawn })
      if third then d.event 0x302 Sev.warning [p, x.chosen] else d

/-- The port goes down and through bring-up (R489); requester: 0 sideband, 1 session 0, 2 the port itself (log entry 17). -/
def Drive.retrain (p requester : Nat) (d : Drive) : Drive :=
  if (d.prt p).link = 0 then d
  else
    let wasUp := (d.prt p).link = 4
    let d := (d.negotiate p).modPort p (fun x => { x with retraining := true })
    (if wasUp then d.linkLost p else d).event 0x30A Sev.notice [p, requester]

/-- 60 s after a fallback (R487, R488): the speed returns, and a host port that is UP below its best speed retrains itself where it may. -/
def speedFallbackExpiry (p speed : Nat) (d : Drive) : Drive :=
  match tget? speed (d.prt p).withdrawn with
  | none => d
  | some t =>
    let d := (d.advanceTo t).modPort p (fun x => { x with withdrawn := tdel speed x.withdrawn })
    let x := d.prt p
    let other := d.prt (1 - p)
    if isHost p ∧ x.link = 4 ∧ x.speed < (d.speeds p).headD 0 ∧ x.autoUpspeed = true ∧ other.link = 4 ∧ other.retraining = false then
      d.retrain p 2
    else d

/-- The first address of a port's attributes (R865). -/
def portBase (p : Nat) : Nat := if p = 0 then 0x0400 else if p = 1 then 0x0500 else if p = 2 then 0x0690 else if p = 3 then 0x0710 else 0x0780

/-- A write of a port's CTL (Table 18.7): the settings, then ENABLE, then RETRAIN. -/
def portCtl (ch p v : Nat) (d : Drive) : Wr :=
  let tw := d.twin.state
  if bit 1 v ∧ p = 2 ∧ !(tw == 0 || tw == 3 || tw == 4 || tw == 5) then .conflict tw 0x06 d
  else
    let d := if isHost p then d.modPort p (fun x => { x with truncCapture := bit 3 v, autoUpspeed := bit 2 v }) else d
    let d :=
      if bit 0 v = false ∧ (d.prt p).enable = true then
        let wasUp := (d.prt p).link = 4
        let d := d.modPort p (fun x => { x with enable := false, link := 0, speed := 0, chosen := 0, lanes := 0, retraining := false })
        if wasUp then d.linkLost p else d
      else if bit 0 v = true ∧ (d.prt p).enable = false then (d.modPort p (fun x => { x with enable := true })).negotiate p
      else d
    .ok (if bit 1 v then d.retrain p ch else d)

/-- CTL as it stands (Table 18.7). -/
def Port.ctl (x : Port) : Nat := 8 * b2n x.truncCapture + 4 * b2n x.autoUpspeed + b2n x.enable

def portRetrain (ch p : Nat) (d : Drive) : Wr := portCtl ch p ((d.prt p).ctl + 2) d
def portEnableWrite (ch p : Nat) (on : Bool) (d : Drive) : Wr := portCtl ch p ((d.prt p).ctl / 2 * 2 + b2n on) d

/-! ## Addresses (R490 to R493) -/

def Drive.macOf (d : Drive) (p : Nat) : Nat := d.ident.macBase + p

/-- Modified EUI-64 of a MAC address (R492). -/
def eui64 (mac : Nat) : Nat := (mac / 2 ^ 24 ^^^ 0x020000) * 2 ^ 40 + 0xFFFE * 2 ^ 24 + mac % 2 ^ 24

def Drive.linkLocal (d : Drive) (p : Nat) : Nat := 0xFE80 * 2 ^ 112 + eui64 (d.macOf p)

def Drive.iface (d : Drive) (p vid : Nat) : Iface := tgetD vid {} (d.prt p).ifs

def Drive.modIface (p vid : Nat) (f : Iface → Iface) (d : Drive) : Drive := d.modPort p (fun x => { x with ifs := tmod vid {} f x.ifs })

def Iface.enabled (i : Iface) : Bool := bit 0 i.flags

/-- The IPv6 addresses in use on an entry, link-local included. -/
def Drive.v6Used (d : Drive) (p vid : Nat) : List Nat :=
  if isHost p then
    let i := d.iface p vid
    if !i.enabled then []
    else (if i.localUse = .used then [d.linkLocal p] else []) ++ (if i.v60Use = .used then [i.v60] else []) ++ (if i.v61Use = .used then [i.v61] else [])
  else if (d.prt p).localUse = .used then [d.linkLocal p] else []

/-- An address the entry answers to (R493). -/
def Drive.ownsAddr (d : Drive) (p vid : Nat) (v6 : Bool) (a : Nat) : Bool :=
  if v6 then (d.v6Used p vid).contains a else (d.iface p vid).v4Use == .used && (d.iface p vid).v4 == a && (d.iface p vid).enabled

/-- Destination addresses every port accepts (R505), the solicited-node addresses apart. -/
def fixedMulticast : List Nat :=
  [0x0180C200000E, 0x011B19000000, 0x01005E000181, 0x01005E00006B, 0x333300000181, 0x33330000006B, 0x333300000001]

/-- The solicited-node address of an IPv6 address (R505). -/
def solicited (a : Nat) : Nat := 0x3333FF * 2 ^ 24 + a % 2 ^ 24

/-- The hash index of a multicast destination (R506). -/
def mcastHash (a : Nat) : Nat := bits 47 36 a ^^^ bits 35 24 a ^^^ bits 23 12 a ^^^ bits 11 0 a

def isMulticast (a : Nat) : Bool := bit 40 a

/-- The IP header of a frame of a protocol of Table 9.5 (R495, R497): none of ARP, LLDP and PTP over Ethernet. Of DHCP, `what` 4 and 3 are
the IPv4 client's messages, 6 and 7 the IPv6 client's. -/
def Drive.fwIp (d : Drive) (p proto what : Nat) : Option IpSent :=
  match proto with
  | 1 => some (ipSent true false (some 48) 0)
  | 2 => some (ipSent (what == 129) false (some 48) 0)
  | 3 => some (ipSent (what == 6 || what == 7) true (some 48) 0)
  | 5 => match (tgetD p {} d.time.ptp).transport with
    | 0 => some (ipSent false true none 0)
    | 1 => some (ipSent true true none 0)
    | _ => none
  | _ => none

/-- Frames the drive sends for a protocol of Table 9.5; their length is a free value where none is given. -/
def Drive.fwSend (p vid proto what cast : Nat) (args : List Nat) (len : Option Nat) (d : Drive) : Drive :=
  let (n, d) := d.fresh
  d.portTx p (len.getD n) cast (vid != 0) true
    (.port p proto what (vid :: args) (d.fwIp p proto what) (if proto < 4 ∧ vid ≠ 0 then some 6 else none))

/-- An address goes under detection: duplicate address detection or an ARP probe begins (R492, R503). -/
def beginDetection (p vid : Nat) (v6 : Bool) (a : Nat) (d : Drive) : Drive :=
  if v6 then d.fwSend p vid 1 135 1 [a] none else d.fwSend p vid 0 2 2 [a] none

/-- Alignment and FEC lock: the port is UP (R485 step 4). -/
def linkUp (p : Nat) (d : Drive) : Drive :=
  let x := d.prt p
  if x.link ≠ 3 then d
  else
    let d := d.modPort p (fun x => ({ x with link := 4, speed := x.chosen, fails := 0, retraining := false } : Port).count 41 1)
    let d := if isHost p ∨ p = 2 then d
      else { d with ring := d.ring.setSide (p == 3) { d.ring.side (p == 3) with downAt := none } }
    let d := d.event 0x300 Sev.notice [p, x.chosen, x.lanes]
    -- a twin or hedgerow port has its address detected before it uses it (R492)
    let d := if !isHost p ∧ x.localUse = .none then (d.modPort p (fun x => { x with localUse := .tentative })) |> beginDetection p 0 true (d.linkLocal p) else d
    if p = 2 ∧ x.chosen = 200 ∧ x.degradedTold = false then d.event 0x30B Sev.warning [x.lanes] else d

/-- The entry is written (R491): each address it gives that is not in use goes under detection. -/
def ifaceWrite (p vid : Nat) (n : Iface) (d : Drive) : Drive :=
  let old := d.iface p vid
  let on := bit 0 n.flags
  let use := fun (a : Nat) => if on ∧ a ≠ 0 then AddrUse.tentative else AddrUse.none
  let i : Iface := { n with
    v4Use := use n.v4, v60Use := use n.v60, v61Use := use n.v61
    localUse := if on then (if old.localUse = .used then .used else .tentative) else .none
    lease4 := none, lease6 := none }
  let d := d.modIface p vid (fun _ => i)
  let d := if i.v4Use = .tentative then beginDetection p vid false i.v4 d else d
  let d := if i.v60Use = .tentative then beginDetection p vid true i.v60 d else d
  let d := if i.v61Use = .tentative then beginDetection p vid true i.v61 d else d
  let d := if i.localUse = .tentative then beginDetection p vid true (d.linkLocal p) d else d
  -- a DHCP client asks for its lease, SLAAC solicits routers (Table 9.5)
  let d := if on ∧ bit 1 n.flags then d.fwSend p vid 3 4 2 [] none else d
  let d := if on ∧ bit 3 n.flags then d.fwSend p vid 3 6 1 [] none else d
  if on ∧ bit 2 n.flags then d.fwSend p vid 1 133 1 [] none else d

/-- Detection of an address ends without a conflict: it is used (R492, R503), and an IPv4 address is announced. -/
def addressClear (p vid : Nat) (v6 : Bool) (a : Nat) (d : Drive) : Drive :=
  if !isHost p then
    d.modPort p (fun x => { x with localUse := if v6 && d.linkLocal p == a && x.localUse == .tentative then .used else x.localUse })
  else if !(d.iface p vid).enabled then d
  else
    let step := fun (u : AddrUse) (mine : Bool) => if mine && u == .tentative then AddrUse.used else u
    let i := d.iface p vid
    let d' := d.modIface p vid (fun i => { i with
      v4Use := step i.v4Use (!v6 && i.v4 == a), v60Use := step i.v60Use (v6 && i.v60 == a)
      v61Use := step i.v61Use (v6 && i.v61 == a), localUse := step i.localUse (v6 && d.linkLocal p == a) })
    if !v6 ∧ i.v4 = a ∧ i.v4Use = .tentative then d'.fwSend p vid 0 3 2 [a] none else d'

/-- Another station uses an address of the entry: the drive does not (R503). -/
def Drive.addressConflict (p vid : Nat) (v6 : Bool) (a : Nat) (d : Drive) : Drive :=
  let step := fun (u : AddrUse) (mine : Bool) => if mine && u != .none then AddrUse.refused else u
  let d := if isHost p then d else d.modPort p (fun x => { x with localUse := step x.localUse (v6 && d.linkLocal p == a) })
  (d.modIface p vid (fun i => { i with
    v4Use := step i.v4Use (!v6 && i.v4 == a), v60Use := step i.v60Use (v6 && i.v60 == a)
    v61Use := step i.v61Use (v6 && i.v61 == a), localUse := step i.localUse (v6 && d.linkLocal p == a) })).event
    (if v6 then 0x307 else 0x308) Sev.error (if v6 then p :: vid :: wide a else [p, vid, a])

/-! ## The receive path (R508 to R516, Table 9.6) -/

/-- Cells of a port's share of the packet buffer (R509). -/
def shareCells (p : Nat) : Nat := if isHost p then 65536 else if p = 2 then 32768 else 16384

/-- Step 7: the port's own address, broadcast, or a multicast address of R505. -/
def Drive.daOk (d : Drive) (f : Ether) : Bool :=
  f.dest == d.macOf f.port || f.dest == 0xFFFFFFFFFFFF || fixedMulticast.contains f.dest ||
  ((d.prt f.port).ifs.any (fun (i : Nat × Iface) => ((d.v6Used f.port i.1).map solicited).contains f.dest) ||
    (!isHost f.port && f.dest == solicited (d.linkLocal f.port)))

/-- Step 8: the hash filter (R506, R507). -/
def Drive.hashOk (d : Drive) (f : Ether) : Bool :=
  let h := mcastHash f.dest
  bit (h % 32) (tgetD (h / 32) 0 (d.prt f.port).mcast)

/-- Step 9. -/
def Drive.vlanOk (d : Drive) (f : Ether) : Bool :=
  if isHost f.port then !f.extraTag && decide (f.keyVid ≤ 4094) && (d.iface f.port f.keyVid).enabled
  else !f.extraTag && !f.tagged

/-- Step 12 asks only of a unicast IP destination (R493). -/
def ipUnicast (f : Ether) : Bool :=
  if f.v6 then f.ipDst / 2 ^ 120 != 0xFF else f.ipDst / 2 ^ 28 != 0xE && f.ipDst != 0xFFFFFFFF

/-- The protocol bucket of a class (R501). -/
def protoOf (cls : Nat) : Option Nat :=
  match cls with
  | 0x5 => some 0
  | 0x6 => some 1
  | 0x7 => some 2
  | 0x8 => some 2
  | 0xC => some 3
  | 0xA => some 4
  | 0xB => some 5
  | _ => none

/-- An IPv6 link-local address. -/
def isLinkLocal (a : Nat) : Bool := a / 2 ^ 118 == 0x3FA

/-- Step 13 on the twin and hedgerow ports (R531): the four kinds of frame they carry, and their ring. -/
def fixedFilter (cls : Nat) (f : Ether) : Option Nat :=
  if cls = 0x2 ∧ isLinkLocal f.ipSrc = true ∧ isLinkLocal f.ipDst = true then some 1
  else if cls = 0x6 ∨ cls = 0xA ∨ cls = 0xB then some 0
  else none

/-- A frame dropped for want of buffer space; the first after 1 s without one is recorded (R529). -/
def Drive.overflow (p : Nat) (ring : Option Nat) (mid : Bool) (d : Drive) : Drive :=
  let (x, d) := d.fresh
  let d := if firstIn (d.prt p).overflowAt d.now then d.event 0x304 Sev.notice [p, ring.getD x, b2n mid] else d
  d.modPort p (fun x => ({ x with overflowAt := some d.now } : Port).count 22 1 |>.count 23 (b2n mid))

/-- A frame is written to its ring, or dropped there (R511, R512). -/
def Drive.toRing (p ring : Nat) (c : Completion) (d : Drive) : Bool × Drive :=
  let free := d.ringFree p ring
  if c.buffers ≤ free then (true, d.modPort p (fun x => { x with rings := tmod ring [] (· ++ [c]) x.rings }))
  else (false, d.overflow p (some ring) (decide (0 < free)))

/-- The first of steps 2 to 12 that a frame fails: its counter; oversize is dealt with apart. -/
def Drive.rxFail (d : Drive) (f : Ether) : Option Nat :=
  if f.length < 64 then some 10
  else if f.pcsError then some 12
  else if 9216 < f.length then some 11
  else if !f.fcsOk then some 9
  else if f.etherType = 0x8808 then some 13
  else if !isMulticast f.dest ∧ !d.daOk f then some 14
  else if !d.daOk f ∧ !d.hashOk f then some 15
  else if !d.vlanOk f then some 16
  else if f.isIp ∧ !f.ipOk then some 17
  else if f.isIp ∧ (f.fragment ∨ f.ipOptions ∨ f.ipExt) then some 18
  else if f.isIp ∧ ipUnicast f ∧ !d.ownsAddr f.port f.keyVid f.v6 f.ipDst then some 19
  else none

/-- The protocol bucket gives a token (R501). -/
def Drive.protoToken (p k : Nat) (d : Drive) : Bool × Drive :=
  let b := tgetD k {} (d.prt p).buckets
  if 1000000000 ≤ b.level 10000 256000000000 d.now then
    (true, d.modPort p (fun x => { x with buckets := tput k (b.charge 10000 256000000000 d.now 1) x.buckets }))
  else (false, d)

/-- A truncated frame goes to ring 0 when TRUNC_CAPTURE is 1 (R514). -/
def Drive.truncCaptured (f : Ether) (d : Drive) : Drive :=
  if (d.prt f.port).truncCapture then
    if d.ringFree f.port 0 < buffersOf 9216 then d.portCount f.port 24 1
    else d.modPort f.port (fun x => { x with
      rings := tmod 0 [] (· ++ [{ rxTime := d.now, length := 9216, buffers := buffersOf 9216, trunc := true, tagged := f.tagged, vid := f.keyVid }]) x.rings })
  else d

/-- A frame is delivered: its counters (Table 9.8). -/
def Drive.delivered (f : Ether) (ring : Nat) (d : Drive) : Drive :=
  d.modPort f.port (fun x => ((((((((x.count 0 1).count 1 f.length).count
    (if f.dest = 0xFFFFFFFFFFFF then 4 else if isMulticast f.dest then 3 else 2) 1).count 5 (b2n f.tagged)).count 6 (b2n (f.isIp && f.ecn == 3))).count
    7 (b2n (ring == 0))).count 8 (b2n f.ptpEvent))))

/-- A frame of ring 0 that is of no protocol of Table 9.5 asks nothing of firmware, which consumes it at once (R513, log entry 112). -/
def Drive.unserved (p ring cls : Nat) (d : Drive) : Drive :=
  if ring = 0 ∧ protoOf cls = none then d.modPort p (fun x => { x with rings := tmod 0 [] List.dropLast x.rings }) else d

/-- Error correction since the last frame (counters 35 to 40 and 44 to 47); lanes the speed does not use stay at zero (R522). -/
def Drive.fecCount (p : Nat) (e : Fec) (d : Drive) : Drive :=
  d.modPort p (fun x =>
    let lane := fun (i : Nat) => if bit i x.lanes then e.lanes.getD i 0 else 0
    (((((((x.count 35 e.total).count 36 e.corrected).count 37 e.uncorrectable).count 38 (lane 0 + lane 1 + lane 2 + lane 3)).count 40 e.pcsBlocks).count
      44 (lane 0)).count 45 (lane 1)).count 46 (lane 2) |>.count 47 (lane 3))

/-- FRAME_RECEIVE (R508): one frame, one disposition. -/
def frameReceive (f : Ether) (d : Drive) : Drive :=
  if (d.prt f.port).link ≠ 4 ∨ 5 ≤ f.port then d
  else
    let d := d.fecCount f.port f.fec
    if shareCells f.port < f.cellsHeld + 36 then d.overflow f.port none false
    else match d.rxFail f with
      | some k =>
        let d := d.portCount f.port k 1
        if k = 11 then d.truncCaptured f else d
      | none =>
        let cls := classOf d.port.gkpPort f
        -- before step 7 of a start a host port takes only the protocols of Table 9.5 (R737)
        let early := isHost f.port && !d.admitting && (protoOf cls).isNone
        let (v, d) := if early then (({ ring := none } : Verdict), d)
          else if isHost f.port then d.classify f else (({ ring := fixedFilter cls f } : Verdict), d)
        match v.ring with
        | none => d.portCount f.port 20 1
        | some ring =>
          let (ok, d) := match (if ring = 0 then protoOf cls else none) with
            | some k => d.protoToken f.port k
            | none => (true, d)
          if !ok then d.portCount f.port 21 1
          else
            let (ok, d) := d.toRing f.port ring (rxEntry f d.now v.action v.multiple v.tie)
            if ok then (d.delivered f ring).unserved f.port ring cls else d

/-! ## Protocols the drive answers (R499 to R504) -/

/-- ARP (R499, R503): a conflict where another station uses the entry's address, else an answer to a request for it. -/
def arpFrame (f : ArpFrame) (d : Drive) : Drive :=
  if !isHost f.port then d
  else
    let d := d.takeRing f.port 0
    let i := d.iface f.port f.vid
    if !i.enabled ∨ i.v4 = 0 then d
    else if f.senderMac ≠ d.macOf f.port ∧ (f.senderIp = i.v4 ∨ (i.v4Use = .tentative ∧ f.targetIp = i.v4 ∧ f.senderIp = 0)) then
      if i.v4Use = .refused then d else d.addressConflict f.port f.vid false i.v4
    else if f.request ∧ f.targetIp = i.v4 ∧ i.v4Use = .used then d.fwSend f.port f.vid 0 1 0 [f.senderMac, f.senderIp, i.v4] none
    else d

/-- Neighbour discovery (R499, R492, R503). -/
def ndFrame (f : NdFrame) (d : Drive) : Drive :=
  let d := d.takeRing f.port 0
  let i := d.iface f.port f.vid
  let mine := fun (u : AddrUse) =>
    if isHost f.port then
      (u == i.v60Use && f.target == i.v60 && i.v60 != 0) || (u == i.v61Use && f.target == i.v61 && i.v61 != 0) || (u == i.localUse && f.target == d.linkLocal f.port)
    else u == (d.prt f.port).localUse && f.target == d.linkLocal f.port
  if f.kind = 135 then
    if mine .tentative ∧ f.source = 0 ∧ f.sourceMac ≠ d.macOf f.port then d.addressConflict f.port f.vid true f.target
    else if (d.v6Used f.port f.vid).contains f.target then d.fwSend f.port f.vid 1 136 (if f.source = 0 then 1 else 0) (f.sourceMac :: f.source :: wide f.target) none
    else d
  else if f.kind = 136 then
    if (mine .tentative ∨ mine .used) ∧ f.sourceMac ≠ d.macOf f.port then d.addressConflict f.port f.vid true f.target else d
  else if f.kind = 134 then
    match f.prefix_ with
    | some pre =>
      let a := pre % 2 ^ 64 * 2 ^ 64 + eui64 (d.macOf f.port)
      if isHost f.port ∧ i.enabled ∧ bit 2 i.flags ∧ i.v60 ≠ a then
        beginDetection f.port f.vid true a (d.modIface f.port f.vid (fun i => { i with v60 := a, v6Prefix0 := 64, v60Use := .tentative }))
      else d
    | none => d
  else d

/-- ICMP or ICMPv6 echo: the identical payload comes back (R499). -/
def icmpEcho (p vid : Nat) (v6 : Bool) (source : Nat) (payload : Bytes) (d : Drive) : Drive :=
  if !isHost p then d
  else
    let d := d.takeRing p 0
    let len := max 64 (14 + (if vid = 0 then 0 else 4) + (if v6 then 40 else 20) + 8 + payload.length + 4)
    if !(d.iface p vid).enabled ∨ 9216 < len then d
    else d.fwSend p vid 2 (if v6 then 129 else 0) 0 (source :: payload.map (·.toNat)) (some len)

/-- A message to the DHCP client of an entry (R499): an offer is requested; an acknowledgement sets the address and its lease; a refusal
removes it. -/
def dhcpMessage (m : DhcpMsg) (d : Drive) : Drive :=
  if !isHost m.port then d
  else
    let d := d.takeRing m.port 0
    let i := d.iface m.port m.vid
    if !i.enabled ∨ !bit (if m.v6 then 3 else 1) i.flags then d
    else if m.kind = 0 then d.fwSend m.port m.vid 3 (if m.v6 then 7 else 3) (if m.v6 then 1 else 2) [m.address] none
    else if m.kind = 1 then
      let endAt := some (d.now + m.leaseS * 1000000000)
      let fresh := if m.v6 then i.v61 ≠ m.address ∨ i.v61Use ≠ .used else i.v4 ≠ m.address ∨ i.v4Use ≠ .used
      let d := d.modIface m.port m.vid (fun i =>
        if m.v6 then { i with v61 := m.address, v6Prefix1 := m.prefix_, lease6 := endAt, v61Use := if fresh then .tentative else i.v61Use }
        else { i with v4 := m.address, v4Prefix := m.prefix_, lease4 := endAt, v4Use := if fresh then .tentative else i.v4Use })
      if fresh then beginDetection m.port m.vid m.v6 m.address d else d
    else d.modIface m.port m.vid (fun i =>
      if m.v6 then { i with v61 := 0, v6Prefix1 := 0, v61Use := .none, lease6 := none }
      else { i with v4 := 0, v4Prefix := 0, v4Use := .none, lease4 := none })

/-- A lease ends without renewal (R504). -/
def dhcpLeaseLost (p vid : Nat) (v6 : Bool) (d : Drive) : Drive :=
  match (if v6 then (d.iface p vid).lease6 else (d.iface p vid).lease4) with
  | none => d
  | some t =>
    ((d.advanceTo t).modIface p vid (fun i =>
      if v6 then { i with v61 := 0, v6Prefix1 := 0, v61Use := .none, lease6 := none }
      else { i with v4 := 0, v4Prefix := 0, v4Use := .none, lease4 := none })).event 0x306 Sev.warning [p, vid]

/-- PORTA.LLDP_PEER: 40 bytes (Table 18.6). -/
def lldpBytes (chassisKind portKind : Nat) (chassis portId : Bytes) : Bytes :=
  let cut := fun (b : Bytes) => b.take 18 ++ List.replicate (18 - b.length) 0
  beBytes 1 chassisKind ++ beBytes 1 (min 18 chassis.length) ++ cut chassis ++ beBytes 1 portKind ++ beBytes 1 (min 18 portId.length) ++ cut portId

def lldpFrame (p chassisKind portKind : Nat) (chassis portId : Bytes) (d : Drive) : Drive :=
  if 5 ≤ p then d
  else
    let d := d.takeRing p 0
    let b := lldpBytes chassisKind portKind chassis portId
    if (d.prt p).lldpPeer = b then d
    else (d.modPort p (fun x => { x with lldpPeer := b })).event 0x309 Sev.info [p]

/-- The first IPv4 address of a port, 0 for none (R500). -/
def Drive.firstV4 (d : Drive) (p : Nat) : Nat :=
  ((((d.prt p).ifs.find? (fun (i : Nat × Iface) => i.2.v4Use == .used && i.2.enabled)).map (fun (i : Nat × Iface) => i.2.v4))).getD 0

/-- The port description of R500. -/
def portName (p : Nat) : String :=
  "RG240 " ++ (if p = 0 then "port A" else if p = 1 then "port B" else if p = 2 then "twin" else if p = 3 then "east" else "west")

/-- The TLVs of the drive's LLDP frames, each a type of IEEE 802.1AB and its value (R500): chassis ID (subtype 7, locally assigned), port ID
(subtype 3, MAC address), TTL, port description, system name, capabilities (station only), the management address where the port has
one, slot and twin role. `org`: the identifier and subtype of the organisation-specific TLV, a free value. -/
def Drive.lldpTlvs (d : Drive) (p org : Nat) : List (Nat × Bytes) :=
  let text := fun (s : String) => s.toList.map (fun c => BitVec.ofNat 8 c.toNat)
  [(1, beBytes 1 7 ++ beBytes 16 d.ident.serial), (2, beBytes 1 3 ++ beBytes 6 (d.macOf p)), (3, beBytes 2 120), (4, text (portName p)),
   (5, d.port.systemName), (7, beBytes 2 0x0080 ++ beBytes 2 0x0080)] ++
  (if d.firstV4 p = 0 then [] else [(8, beBytes 1 1 ++ beBytes 4 (d.firstV4 p))]) ++
  [(127, beBytes 4 org ++ beBytes 1 d.mod.slotId ++ beBytes 1 (d.twin.role.getD 0xFF))]

def Drive.lldpSend (p : Nat) (d : Drive) : Drive :=
  let (org, d) := d.fresh
  d.fwSend p 0 4 0 1 ((d.lldpTlvs p org).flatMap (fun t => t.1 :: t.2.length :: t.2.map (·.toNat))) none

/-- Every 30 s, on every port (R499, R500). -/
def lldpTransmit (d : Drive) : Drive :=
  let d := d.advanceTo (d.port.lldpSentAt + 30000000000)
  let d := { d with port.lldpSentAt := d.now }
  ((((d.lldpSend 0).lldpSend 1).lldpSend 2).lldpSend 3).lldpSend 4

/-! ## Transmit timestamps (R524 to R528) -/

/-- A PTP event message leaves a port: its stamp is entered, or lost (R524, R525). -/
def Drive.txStamp (p vid kind seq : Nat) (d : Drive) : Drive :=
  let x := d.prt p
  let d := d.portCount p 33 1
  if x.txts.length < 64 then d.modPort p (fun x => { x with txts := x.txts ++ [{ wallNs := d.wallNow, sequenceId := seq, messageType := kind, vid := vid }] })
  else
    let d := if firstIn x.tsLostAt d.now then d.event 0x305 Sev.notice [p] else d
    d.modPort p (fun x => ({ x with txtsLost := min 65535 (x.txtsLost + 1), tsLostAt := some d.now } : Port).count 34 1)

/-- The 128 bits of an entry read from the queue (Table 9.10). -/
def stampBits (s : Option TxStamp) (lost : Nat) : Nat :=
  (match s with
    | some t => t.wallNs / 1000000000 * 2 ^ 80 + t.wallNs % 1000000000 * 2 ^ 48 + t.sequenceId * 2 ^ 32 + t.messageType * 2 ^ 28 + 2 ^ 23
    | none => 0) + (if lost = 0 then 0 else 2 ^ 22) + lost

/-- A read of the queue by Sprig's firmware (R526): the oldest entry, and the lost count, which returns to zero. For a Sync or a
Pdelay_Resp its follow-up goes out (R528). -/
def txtsRead (p : Nat) (d : Drive) : Drive :=
  if 5 ≤ p then d
  else
    let x := d.prt p
    let d := (d.modPort p (fun x => { x with txts := x.txts.tail, txtsLost := 0 })).emit (.port p 6 0 [stampBits x.txts.head? x.txtsLost] none none)
    match x.txts.head? with
    | some t =>
      if t.messageType = 0 then d.fwSend p t.vid 5 8 1 [t.sequenceId, t.wallNs] none
      else if t.messageType = 3 then d.fwSend p t.vid 5 10 1 [t.sequenceId, t.wallNs] none
      else d
    | none => d

/-! ## STATS_MODE (R518) -/

/-- A write of STATS_MODE: entering FULL starts every counter at zero, entering SUMMARY discards the counts. Host ports only. -/
def statsModeWrite (p v : Nat) (d : Drive) : Wr :=
  if 1 < v ∨ !isHost p then .bad St.malformed d
  else .ok (if v = (d.prt p).statsMode then d else d.modPort p (fun x => { x with statsMode := v, counters := [] }))

def execAutonegComplete (port : Nat) (partner : List (Nat × Nat)) (s : State) : Host.Outcome State Fault Refusal := s.onMain (autonegComplete port partner)
def execTrainingComplete (port trained : Nat) (s : State) : Host.Outcome State Fault Refusal := s.onMain (trainingComplete port trained)
def execLinkUp (port : Nat) (s : State) : Host.Outcome State Fault Refusal := s.onMain (linkUp port)
def execLinkDown (port cause : Nat) (hiSer : Option Nat) (s : State) : Host.Outcome State Fault Refusal := s.onMain (linkDown port cause hiSer)
def execHoldoffExpiry (port : Nat) (s : State) : Host.Outcome State Fault Refusal := s.onMain (holdoffExpiry port)
def execTrainingFail (port trained : Nat) (s : State) : Host.Outcome State Fault Refusal := s.onMain (trainingFail port trained)
def execSpeedFallbackExpiry (port speed : Nat) (s : State) : Host.Outcome State Fault Refusal := s.onMain (speedFallbackExpiry port speed)
def execPortRetrain (ch port : Nat) (s : State) : Host.Outcome State Fault Refusal := s.onMain (attrCmd ch (portBase port) (portRetrain ch port))
def execPortEnableWrite (ch port : Nat) (on : Bool) (s : State) : Host.Outcome State Fault Refusal := s.onMain (attrCmd ch (portBase port) (portEnableWrite ch port on))
def execFrameReceive (f : Ether) (s : State) : Host.Outcome State Fault Refusal := s.onMain (frameReceive f)
def execArpFrame (f : ArpFrame) (s : State) : Host.Outcome State Fault Refusal := s.onMain (arpFrame f)
def execNdFrame (f : NdFrame) (s : State) : Host.Outcome State Fault Refusal := s.onMain (ndFrame f)
def execIcmpEcho (port vid : Nat) (v6 : Bool) (source : Nat) (payload : Bytes) (s : State) : Host.Outcome State Fault Refusal := s.onMain (icmpEcho port vid v6 source payload)
def execDhcpMessage (m : DhcpMsg) (s : State) : Host.Outcome State Fault Refusal := s.onMain (dhcpMessage m)
def execDhcpLeaseLost (port vid : Nat) (v6 : Bool) (s : State) : Host.Outcome State Fault Refusal := s.onMain (dhcpLeaseLost port vid v6)
def execLldpFrame (port chassisKind portKind : Nat) (chassis portId : Bytes) (s : State) : Host.Outcome State Fault Refusal := s.onMain (lldpFrame port chassisKind portKind chassis portId)
def execLldpTransmit (s : State) : Host.Outcome State Fault Refusal := s.onMain lldpTransmit
def execTxtsRead (port : Nat) (s : State) : Host.Outcome State Fault Refusal := s.onMain (txtsRead port)
def execStatsModeWrite (ch port v : Nat) (s : State) : Host.Outcome State Fault Refusal := s.onMain (attrCmd ch (portBase port + 3) (statsModeWrite port v))
def execDuplicateAddressDetection (port vid : Nat) (v6 : Bool) (address : Nat) (s : State) : Host.Outcome State Fault Refusal := s.onMain (addressClear port vid v6 address)

end Sys2Proof.Machine
end

