-- ==== Sys2Proof/Machine/Time.lean ====
section
/-! DEFINITION. Machine/Time.lean: Sprig (R566 to R592): sources of wall time, the servo, steps, holdover, PPS, ToD and PTP. -/

namespace Sys2Proof.Machine
open Sys2Proof

/-! ## Trust, steps and the servo (R571, R573, R578 to R580) -/

/-- `f` changes what trust rests on: trust gained is recorded with the source, trust lost raises the epoch (R571, R573). -/
def Drive.withTrust (f : Drive → Drive) (d : Drive) : Drive :=
  let before := d.trusted
  let d := f d
  if !before && d.trusted then d.event 0x3C6 Sev.notice [d.time.source]
  else if before && !d.trusted then
    let d := { d with time.wallEpoch := satAdd 32 d.time.wallEpoch 1 }
    d.event 0x3C5 Sev.error [d.time.wallEpoch]
  else d

/-- Wall time is stepped by −θ at once (R580); a backward step raises the epoch; the meter's open interval learns of it (R582). -/
def Drive.stepWall (theta : Int) (d : Drive) : Drive :=
  let before := d.wallNow
  let back := decide (0 < theta)
  let d := { d with time.wallOffset := d.time.wallOffset - theta, time.thetas := [], time.rejects := 0, time.big := 0 }
  let d := if back then
      let d := { d with time.wallEpoch := satAdd 32 d.time.wallEpoch 1, time.stepsBack := (d.time.stepsBack + 1) % 2 ^ 64 }
      d.event 0x3C1 Sev.warning [i64 theta, d.time.wallEpoch]
    else ({ d with time.steps := (d.time.steps + 1) % 2 ^ 64 }).event 0x3C0 Sev.notice [i64 theta]
  d.meterStep back before

/-- The rate of wall time changes from now on. -/
def Sprig.setRate (ppb : Int) (t : Sprig) : Sprig :=
  { t with wallOffset := t.wallOffset + t.freqPpb * Int.ofNat (t.opNs - t.anchor) / 1000000000, anchor := t.opNs, freqPpb := ppb }

/-- A rate within ±500 ppm; the loop's gains, and so its result, are a free value (R579, log entry 19). -/
def Drive.slew (d : Drive) : Drive :=
  let (x, d) := d.fresh
  { d with time := d.time.setRate (Int.ofNat (x % 1000001) - 500000) }

/-- Inserts into an ascending list of integers. -/
def insertInt (x : Int) : List Int → List Int
  | [] => [x]
  | y :: r => if x ≤ y then x :: y :: r else y :: insertInt x r

/-- Twice the median of a list: the sum of its two middle elements. -/
def median2 (l : List Int) : Int :=
  let s := l.foldl (fun s x => insertInt x s) []
  s.getD ((l.length - 1) / 2) 0 + s.getD (l.length / 2) 0

/-- A measurement is an outlier: more than 4 median absolute deviations from the median of the last 16, of which 16 are held (R578). -/
def outlier (thetas : List Int) (theta : Int) : Bool :=
  let m := median2 thetas
  decide (16 ≤ thetas.length) &&
    decide (2 * median2 (thetas.map (fun x => Int.ofNat (2 * x - m).natAbs)) < Int.ofNat (2 * theta - m).natAbs)

/-- A measurement of the offset θ of wall time from the selected source (R578 to R580). -/
def Drive.measure (theta : Int) (d : Drive) : Drive :=
  let first := !d.time.followed.contains d.time.source
  if outlier d.time.thetas theta && decide (d.time.rejects < 3) && !first then { d with time.rejects := d.time.rejects + 1 }
  else
    let d := { d with
      time.rejects := 0, time.thetas := (theta :: d.time.thetas).take 16
      time.followed := if first then d.time.source :: d.time.followed else d.time.followed }
    if theta.natAbs ≤ 100000 then ({ d with time.big := 0 }).slew
    else
      let d := { d with time.big := d.time.big + 1, time.bigAt := if d.time.big = 0 then d.now else d.time.bigAt }
      if first ∨ (4 ≤ d.time.big ∧ d.time.bigAt + 1000000000 ≤ d.now) then d.stepWall theta else d

/-! ## Sources (R575 to R577) -/

/-- The rank of a source in TIME.SOURCE_PRIORITY, 4 where it is not named. -/
def Drive.rank (d : Drive) (src : Nat) : Nat := ((List.range 4).find? (fun i => bits (15 - 4 * i) (12 - 4 * i) d.time.priority = src)).getD 4

/-- The highest-priority qualified source, 0 for none. -/
def Drive.bestSource (d : Drive) : Nat :=
  ((List.range 4).map (fun i => bits (15 - 4 * i) (12 - 4 * i) d.time.priority)).find? (fun s => s != 0 && (tget? s d.time.qualified).isSome) |>.getD 0

/-- Sprig follows a source from now on; its first measurement may step (R576, R580). -/
def Drive.follow (src : Nat) (d : Drive) : Drive :=
  d.withTrust (fun d => { d with time.source := src, time.state := 1, time.thetas := [], time.rejects := 0, time.big := 0 })

/-- A source qualifies (Table 11.2): followed at once while none is followed. -/
def Drive.qualify (src : Nat) (d : Drive) : Drive :=
  if (tget? src d.time.qualified).isSome then d
  else
    let d := { d with time.qualified := tput src d.now d.time.qualified }
    if d.time.source = 0 ∧ d.bestSource = src then (d.follow src).event 0x3C2 Sev.notice [0, src] else d

/-- No source is left to follow (R576): HOLDOVER. Its error bound begins within the trust limit (log entry 20), and wall time runs at the
frequency last learned, which the servo's loop makes a free value too (R583). -/
def Drive.enterHoldover (d : Drive) : Drive :=
  let (x, d) := d.fresh
  (({ d with time.source := 0, time.state := 2, time.estErrorNs := x % (d.time.trustLimitUs * 1000 + 1) }).slew).event 0x3C4 Sev.warning []

/-- A source is lost (R576): where it is the selected one, Sprig changes to the best qualified one, or enters HOLDOVER. -/
def Drive.loseSource (src : Nat) (d : Drive) : Drive :=
  let d := { d with time.qualified := tdel src d.time.qualified }
  if d.time.source ≠ src then d
  else
    let d := d.event 0x3C3 Sev.warning [src]
    match d.bestSource with
    | 0 => d.enterHoldover
    | s => d.follow s

/-- Holdover is within the trust limit or beyond it (Table 11.1, R573). -/
def Drive.settleHoldover (d : Drive) : Drive :=
  let beyond := decide (d.time.trustLimitUs * 1000 < d.time.estErrorNs)
  if d.time.state = 2 ∧ beyond = true then { d with time.state := 3 }
  else if d.time.state = 3 ∧ beyond = false then { d with time.state := 2 }
  else d

/-- TIME.SOURCE_PRIORITY has been written (R575): a selected source that it no longer names is left for the best one it names; one that
it names now is followed where none was. -/
def Drive.reselect (d : Drive) : Drive :=
  if d.time.source = 0 then
    match d.bestSource with
    | 0 => d
    | s => (d.follow s).event 0x3C2 Sev.notice [0, s]
  else if d.rank d.time.source < 4 then d
  else
    match d.bestSource with
    | 0 => (d.event 0x3C2 Sev.notice [d.time.source, 0]).enterHoldover
    | s => (d.follow s).event 0x3C2 Sev.notice [d.time.source, s]

/-- SOURCE_LOST: a source's loss condition (Table 11.2). -/
def sourceLost (src : Nat) (d : Drive) : Drive :=
  if (tget? src d.time.qualified).isNone then d
  else
    let d := if src = 1 then { d with time.ppsRun := 0 }
      else { d with time.ptp := d.time.ptp.map (fun (p : Nat × PtpPort) =>
        if (src = 2 ∧ p.1 = 0) ∨ (src = 3 ∧ p.1 = 1) ∨ (src = 4 ∧ 2 ≤ p.1) then (p.1, { p.2 with near := 0 }) else p) }
    d.loseSource src

/-- SOURCE_CHANGE: a source of higher priority than the selected one has been qualified for 10 s. -/
def sourceChange (src : Nat) (d : Drive) : Drive :=
  match tget? src d.time.qualified with
  | some t =>
    if d.time.source ≠ 0 ∧ d.rank src < d.rank d.time.source then
      let old := d.time.source
      ((d.advanceTo (t + 10000000000)).follow src).event 0x3C2 Sev.notice [old, src]
    else d
  | none => d

/-- HOLDOVER_TRUST_LOST: the error bound exceeds the trust limit (R573). -/
def holdoverTrustLost (d : Drive) : Drive :=
  if d.time.state ≠ 2 then d
  else
    let (x, d) := d.fresh
    d.withTrust (fun d => { d with time.state := 3, time.estErrorNs := min (2 ^ 32 - 1) (d.time.trustLimitUs * 1000 + 1 + x) })

/-- WALL_SET: a write of TIME.WALL_SET while no source is qualified (R577). -/
def wallSet (seconds ns : Nat) (d : Drive) : Wr :=
  if d.time.qualified ≠ [] then .conflict d.time.state 0x0A d
  else if 1000000000 ≤ ns then .bad St.malformed d
  else .ok (d.withTrust (fun d =>
    let d := d.stepWall (Int.ofNat d.wallNow - Int.ofNat (seconds % 2 ^ 48 * 1000000000 + ns))
    { d with time.state := 4 }))

/-- OPTIME_RESERVATION: the next block of 2^36 ns is reserved ahead of its beginning (R568). -/
def optimeReservation (d : Drive) : Drive :=
  { d with time.opReserved := max d.time.opReserved ((d.now / 2 ^ 36 + 2) * 2 ^ 36), time.exact := none, time.savedWall := d.wallNow }.optfWrite
    { prio := 1, bank := 1, sector := 0x3E4 }

/-! ## PPS and ToD (R588 to R592) -/

/-- What the selected source says of UTC is held (R592); a new flag names the present UTC day. -/
def Drive.takeUtc (utc : Int) (leap61 leap59 : Bool) (d : Drive) : Drive :=
  let news := (leap61 && !d.time.leap61) || (leap59 && !d.time.leap59)
  let day := (Int.ofNat (d.wallNow / 1000000000) - utc) / 86400
  let d := { d with
    time.utcOffset := utc, time.leap61 := leap61, time.leap59 := leap59, time.utcValid := true
    time.leapDay := if news then day else d.time.leapDay }
  if news then d.event 0x3C9 Sev.info [if leap61 then 61 else 59] else d

/-- A number of `w` bits as two's complement. -/
def signed (w n : Nat) : Int := if n < 2 ^ (w - 1) then Int.ofNat n else Int.ofNat n - Int.ofNat (2 ^ w)

/-- The fields of a ToD message, where its sync, type, length and crc are right (R590, Table 11.5). -/
def todOf (b : Bytes) : Option Tod :=
  if b.length = 24 ∧ beNat (slice 0 4 b) = 0x5AE70118 ∧ beNat (slice 20 4 b) = crc32c (b.take 20) then
    some { seconds := beNat (slice 4 6 b), utcOffset := signed 16 (beNat (slice 10 2 b)), flags := beNat (slice 12 1 b), clockClass := beNat (slice 13 1 b) }
  else none

/-- The 24 bytes of a ToD message; `accuracy`: its clock_accuracy (Table 11.5). -/
def todBytes (m : Tod) (accuracy : Nat) : Bytes :=
  let b := beBytes 4 0x5AE70118 ++ beBytes 6 m.seconds ++ beBytes 2 (m.utcOffset % 65536).toNat ++ beBytes 1 m.flags ++ beBytes 1 m.clockClass ++
    beBytes 1 accuracy ++ beBytes 5 0
  b ++ beBytes 4 (crc32c b)

/-- UTC as a message of PPS_TOD gives it, where UTC_VALID says that it does. -/
def Drive.todUtc (m : Tod) (d : Drive) : Drive := if bit 4 m.flags then d.takeUtc m.utcOffset (bit 0 m.flags) (bit 1 m.flags) else d

/-- TOD_MESSAGE (R590): a valid message names the next PPS edge; any other is ignored and counted. -/
def todMessage (msg : Bytes) (d : Drive) : Drive :=
  match todOf msg with
  | none => { d with time.todBad := (d.time.todBad + 1) % 2 ^ 64 }
  | some m =>
    let d := { d with time.tod := some m }
    if d.time.source = 1 then d.todUtc m else d

/-- PPS_IN_EDGE at an instant of operating time (R588): three edges in good order qualify the source, two that disagree with their messages
lose it (Table 11.2); while it is followed each edge is a measurement. -/
def ppsInEdge (opNs : Nat) (d : Drive) : Drive :=
  let d := d.advanceTo opNs
  let spaced := match d.time.ppsAt with
    | some t => decide (t + 999900000 ≤ d.now) && decide (d.now ≤ t + 1000100000)
    | none => false
  let agrees := match d.time.tod, d.time.todLast with
    | some m, some l => m.seconds == l.seconds + 1
    | some _, none => true
    | none, _ => false
  let named := d.time.tod
  let d := { d with
    time.ppsAt := some d.now
    time.ppsRun := if named.isNone then 0 else if spaced && agrees then d.time.ppsRun + 1 else 1
    time.ppsBad := if agrees || named.isNone then 0 else d.time.ppsBad + 1
    time.todLast := named, time.tod := none }
  let d := if named.isSome && !agrees then d.event 0x3C7 Sev.warning [] else d
  if 2 ≤ d.time.ppsBad ∧ (tget? 1 d.time.qualified).isSome then d.loseSource 1
  else
    let d := if 3 ≤ d.time.ppsRun then d.qualify 1 else d
    match named with
    | some m =>
      if d.time.source = 1 then
        (d.todUtc m).measure (Int.ofNat d.wallNow - Int.ofNat (m.seconds * 1000000000))
      else d
    | none => d

/-- clockClass by the drive's own state (R586); `traceable`: PPS_TOD's messages carry TRACEABLE. -/
def Drive.clockClass (d : Drive) : Nat :=
  let traceable := match d.time.todLast with | some m => bit 2 m.flags | none => false
  if d.time.state = 1 ∧ d.time.source = 1 ∧ traceable = true then 6
  else if d.time.state = 2 ∧ d.trusted = true then 7
  else if d.time.state = 3 then 52
  else 248

/-- timeSource (R586). -/
def Drive.timeSource (d : Drive) : Nat := if d.time.source = 1 then 0x20 else if d.time.state = 1 then 0x40 else 0xA0

/-- The operating time at which wall time reaches `w`. -/
def Sprig.opAt (t : Sprig) (w : Nat) : Nat := t.opNs + (ceilDiv ((w - t.wall) * 1000000000) (1000000000 + t.freqPpb).toNat)

/-- PPS_OUT_EDGE: at a whole second of wall time PPS_OUT rises and TOD_TX names the next edge (R591). -/
def ppsOutEdge (d : Drive) : Drive :=
  if d.time.ppsOutCtl = 0 ∨ (d.time.ppsOutCtl = 1 ∧ d.trusted = false) then d
  else
    let sec := d.wallNow / 1000000000 + 1
    let d := d.advanceTo (d.time.opAt (sec * 1000000000))
    let (accuracy, d) := d.fresh
    let flags := b2n d.time.leap61 + 2 * b2n d.time.leap59 + 4 * b2n (d.clockClass == 6) + 8 * b2n (d.time.state == 2 || d.time.state == 3) +
      16 * b2n d.time.utcValid
    d.emit (.pps (sec * 1000000000) (todBytes { seconds := sec + 1, utcOffset := d.time.utcOffset, flags := flags, clockClass := d.clockClass } accuracy))

/-- LEAP_SECOND: at the end of the UTC day that the flags name, the offset changes (R592). -/
def leapSecond (d : Drive) : Drive :=
  if !d.time.leap61 && !d.time.leap59 then d
  else
    let dayEnd := (d.time.leapDay + 1) * 86400 + (if d.time.leap61 then 1 else -1)
    let d := d.advanceTo (d.time.opAt ((dayEnd + d.time.utcOffset).toNat * 1000000000))
    { d with time.utcOffset := d.time.utcOffset + (if d.time.leap61 then 1 else -1), time.leap61 := false, time.leap59 := false }

/-! ## PTP (R353, R585 to R587) -/

def Drive.ptpPort (d : Drive) (p : Nat) : PtpPort := tgetD p {} d.time.ptp

def Drive.modPtp (p : Nat) (f : PtpPort → PtpPort) (d : Drive) : Drive := { d with time.ptp := tmod p {} f d.time.ptp }

/-- The source code of a port (Table 11.2). -/
def sourceOf (p : Nat) : Nat := if p = 0 then 2 else if p = 1 then 3 else 4

/-- PTP runs on a port: enabled there, and on a host port some enabled interface has the PTP flag (Table 11.4). -/
def Drive.ptpOn (d : Drive) (p : Nat) : Bool :=
  p != 2 && decide (p < 5) && (d.ptpPort p).role != 0 &&
  (!isHost p || (d.prt p).ifs.any (fun (i : Nat × Iface) => i.2.enabled && bit 4 i.2.flags))

/-- The VLANs on which PTP runs on a port: on a host port those of the enabled entries with the PTP flag (Table 11.4). -/
def Drive.ptpVids (d : Drive) (p : Nat) : List Nat :=
  if isHost p then ((d.prt p).ifs.filter (fun (i : Nat × Iface) => i.2.enabled && bit 4 i.2.flags)).map (·.1) else [0]

/-- The port is Sprig's selected source: of the ring ports, the one in the SLAVE state (R587, Table 11.2). -/
def Drive.ptpSource (d : Drive) (p : Nat) : Bool := d.time.source == sourceOf p && (isHost p || (d.ptpPort p).slave)

/-- A PTP message leaves a port on a VLAN; an event message is stamped (R524). -/
def Drive.ptpSend (p vid kind seq : Nat) (args : List Nat) (d : Drive) : Drive :=
  if (d.prt p).link ≠ 4 then d.fwSend p vid 5 kind 1 (seq :: args) none
  else
    let d := d.fwSend p vid 5 kind 1 (seq :: args) none
    if kind < 4 then d.txStamp p vid kind seq else d

/-- The same on each VLAN in turn. -/
def ptpSendAll (p kind seq : Nat) (args : List Nat) : List Nat → Drive → Drive
  | [], d => d
  | v :: r, d => ptpSendAll p kind seq args r (d.ptpSend p v kind seq args)

/-- PTP_MESSAGE (R585): an Announce, after which the best master clock algorithm of IEEE 1588-2019 leaves the port slave, master or
neither and names the ring grandmaster; a follow-up that completes a measurement; or a request that the drive answers. -/
def ptpMessage (m : PtpMsg) (d : Drive) : Drive :=
  if !d.ptpOn m.port || !(d.ptpVids m.port).contains m.vid then d
  else
    let d := d.takeRing m.port 0
    if m.domain ≠ d.time.domain then d
    else match m.kind with
    | 1 => if (d.ptpPort m.port).master ∧ (d.ptpPort m.port).delay = 0 then d.ptpSend m.port m.vid 9 m.seq [d.wallNow] else d
    | 2 => if (d.ptpPort m.port).delay = 1 then d.ptpSend m.port m.vid 3 m.seq [d.wallNow] else d
    | 8 =>
      let x := d.ptpPort m.port
      if !x.slave then d
      else
        let src := sourceOf m.port
        let d := d.modPtp m.port (fun x => { x with near := if m.predicted then x.near + 1 else 0 })
        let d := if 16 ≤ (d.ptpPort m.port).near then d.qualify src else d
        if d.time.source = src then (d.takeUtc m.utcOffset m.leap61 m.leap59).measure m.theta else d
    | 11 =>
      let slave := m.slave && (d.ptpPort m.port).role != 0
      let master := m.master && (d.ptpPort m.port).role == 2 && !d.ptpSource m.port
      let d := d.modPtp m.port (fun x => { x with slave := slave, master := master && !slave, near := if slave then x.near else 0 })
      match m.ringMaster with
      | some g => if 3 ≤ m.port ∧ g ≠ d.ring.gmPosition then ({ d with ring.gmPosition := g }).event 0x542 Sev.notice [g] else d
      | none => d
    | _ => d

/-- PTP_INTERVAL_TRANSMIT (R585): Sync and Announce of a master port, Delay_Req of a slave, Pdelay_Req of a peer-delay port. The drive does
not offer its time on a port that is its selected source (R587). -/
def ptpIntervalTransmit (p kind : Nat) (d : Drive) : Drive :=
  let x := d.ptpPort p
  let offers := x.master && !d.ptpSource p
  if !d.ptpOn p then d
  else if (kind = 0 ∧ offers) ∨ (kind = 11 ∧ offers) ∨ (kind = 1 ∧ x.slave ∧ x.delay = 0) ∨ (kind = 2 ∧ x.delay = 1) then
    let seq := x.nextSeq % 65536
    ptpSendAll p kind seq (if kind = 11 then [d.clockClass, d.timeSource, d.time.priority1, d.time.priority2, i64 d.time.utcOffset] else [])
      (d.ptpVids p) (d.modPtp p (fun x => { x with nextSeq := x.nextSeq + 1 }))
  else d

def execPpsInEdge (opNs : Nat) (s : State) : Host.Outcome State Fault Refusal := s.onMain (ppsInEdge opNs)
def execTodMessage (msg : Bytes) (s : State) : Host.Outcome State Fault Refusal := s.onMain (todMessage msg)
def execSourceLost (src : Nat) (s : State) : Host.Outcome State Fault Refusal := s.onMain (sourceLost src)
def execSourceChange (src : Nat) (s : State) : Host.Outcome State Fault Refusal := s.onMain (sourceChange src)
def execHoldoverTrustLost (s : State) : Host.Outcome State Fault Refusal := s.onMain holdoverTrustLost
def execWallSet (ch seconds ns : Nat) (s : State) : Host.Outcome State Fault Refusal := s.onMain (attrCmd ch 0x0A10 (wallSet seconds ns))
def execOptimeReservation (s : State) : Host.Outcome State Fault Refusal := s.onMain optimeReservation
def execPpsOutEdge (s : State) : Host.Outcome State Fault Refusal := s.onMain ppsOutEdge
def execLeapSecond (s : State) : Host.Outcome State Fault Refusal := s.onMain leapSecond
def execPtpMessage (m : PtpMsg) (s : State) : Host.Outcome State Fault Refusal := s.onMain (ptpMessage m)
def execPtpIntervalTransmit (port kind : Nat) (s : State) : Host.Outcome State Fault Refusal := s.onMain (ptpIntervalTransmit port kind)

end Sys2Proof.Machine
end

