-- ==== Sys2Proof/Machine/Recorder.lean ====
section
/-! DEFINITION. Machine/Recorder.lean: Thicket's log (R776 to R797), event enables (R799) and the periodic parts of health data
(R801, R802). -/

namespace Sys2Proof.Machine
open Sys2Proof

/-! ## Groups written to the log (R776, R777, R780 to R785) -/

/-- The two sources with the most drops, the lower id first among equals (Table 16.3). -/
def topDrops (l : List (Nat × Nat)) : (Nat × Nat) × (Nat × Nat) :=
  l.foldl (fun (acc : (Nat × Nat) × (Nat × Nat)) (p : Nat × Nat) =>
    if acc.1.2 < p.2 then (p, acc.1) else if acc.2.2 < p.2 then (acc.1, p) else acc) ((0xFFFF, 0), (0xFFFF, 0))

/-- STAGING_OVERFLOW's payload (Table 16.3). -/
def Episode.payload (e : Episode) : Bytes :=
  let t := topDrops e.counts
  beBytes 2 e.counts.length ++ beBytes 4 e.total ++ beBytes 1 e.maxSev ++ beBytes 1 0 ++ beBytes 8 e.first ++ beBytes 8 e.last ++
    beBytes 2 t.1.1 ++ beBytes 2 (min t.1.2 65535) ++ beBytes 2 t.2.1 ++ beBytes 2 (min t.2.2 65535)

/-- The open episode is closed by one STAGING_OVERFLOW record as soon as staging has a place (R781). -/
def Drive.closeEpisode (d : Drive) : Drive :=
  match d.rec_.episode with
  | none => d
  | some e =>
    let sev := max 2 e.maxSev
    if !d.stagingRoom sev then d
    else
      let (r, d) := ({ d with rec_.episode := none }).enter 0x7F1 sev e.payload
      match r with
      | some x =>
        if d.tells 0x7F1 sev then (d.noticeWith Drive.eventNoticeLost 0 { kind := 1, body := recordBytes x }).raiseAlert else d
      | none => d

/-- The pinned area takes the first 65,536 ERROR and CRITICAL records written since it was cleared (R784). -/
def Thicket.pin (g : List Event) (x : Thicket) : Thicket :=
  { x with pinned := x.pinned ++ (g.filter (fun e => decide (3 ≤ e.sev) && decide (x.pinFloor ≤ e.seq))).take (65536 - x.pinned.length) }

/-- The group being written is in the log: the oldest records make room, serious ones are pinned, staging places free (R776 to R785). -/
def Drive.groupWritten (d : Drive) : Drive :=
  let g := d.rec_.staging.take d.rec_.writing
  let kept := g.filter (fun e => decide (d.rec_.logFloor ≤ e.seq))
  let log := d.rec_.log ++ kept
  let d := { d with
    rec_.log := log.drop (log.length - 16777216)
    rec_.staging := d.rec_.staging.drop d.rec_.writing
    rec_.writing := 0 }
  let d : Drive := ({ d with rec_ := d.rec_.pin g } : Drive).closeEpisode
  let d : Drive := if 65536 ≤ d.rec_.pinned.length ∧ d.rec_.pinnedFull = false then ({ d with rec_.pinnedFull := true }).event 0x7F4 Sev.warning [] else d
  if d.rec_.state = 0xE3 ∧ d.rec_.staging.length < 1024 then { d with rec_.state := 0xE1 } else d

/-- A record due at once waits in staging (R776), or a drain goes on (R794). -/
def Drive.flushDue (d : Drive) : Bool :=
  decide (1024 ≤ d.rec_.staging.length) || d.rec_.staging.any (fun e => decide (3 ≤ e.sev)) || d.rec_.state == 0xE3

/-- LOG_GROUP_WRITTEN. -/
def logGroupWritten (d : Drive) : Drive :=
  if d.rec_.writing = 0 then d
  else
    let d := d.groupWritten
    if d.flushDue then d.startFlush else d

/-- STAGING_FLUSH: at once for what is due at once, else 100 ms after the oldest staged record entered (R776). -/
def stagingFlush (d : Drive) : Drive :=
  match d.rec_.staging with
  | [] => d
  | e :: _ =>
    if d.rec_.state ≠ 0xE1 ∧ d.rec_.state ≠ 0xE3 then d
    else (if d.flushDue then d else d.advanceTo (e.opTime + 100000000)).startFlush

/-- Everything staged goes to the log (R776, a clean shutdown). -/
def flushAll : Nat → Drive → Drive
  | 0, d => d
  | n + 1, d => if d.rec_.staging = [] then d else flushAll n ({ d with rec_.writing := min 1024 d.rec_.staging.length }).groupWritten

/-! ## Freezing (R786, R791 to R794) -/

def Drive.headSeq (d : Drive) : Nat := (d.rec_.log.getLast?.map (·.seq)).getD 0
def Drive.tailSeq (d : Drive) : Nat := (d.rec_.log.head?.map (·.seq)).getD 0

/-- LOG_FREEZE. A group that was being written is then wholly absent from the log (R776, R793). -/
def logFreeze (o : Origin) (d : Drive) : Drive :=
  d.withReq o [0x78] fun r d =>
    if !r.operator then d.refuse r St.notPermitted
    else if d.mod.devState ≠ 0xD5 then d.conflict r d.mod.devState 0x01
    else if d.rec_.state ≠ 0xE1 then d.conflict r d.rec_.state 0x0E
    else match d.jobIn 0x0A [0xB1, 0xB2] with
      | some j => d.conflict r j.state 0x0F
      | none =>
        let head := d.headSeq
        let d := { d with rec_.state := 0xE2, rec_.writing := 0, rec_.freezeEnd := d.now + 10000000000, rec_.frozenStaged := 0 }
        (d.event 0x7F2 Sev.info [o.channel, head]).reply o { echo r.hdr with condVersion := head } []

/-- A freeze ends (R794). -/
def Drive.thaw (cause : Nat) (d : Drive) : Drive :=
  let n := d.rec_.frozenStaged
  (({ d with rec_.state := 0xE3, rec_.freezeEnd := 0 }).event 0x7F3 Sev.info [cause, n]).startFlush

def logThaw (o : Origin) (d : Drive) : Drive :=
  d.withReq o [0x79] fun r d =>
    if !r.operator then d.refuse r St.notPermitted
    else if d.rec_.state ≠ 0xE2 then d.conflict r d.rec_.state 0x0E
    else
      let n := d.rec_.frozenStaged
      (d.thaw 1).reply o { echo r.hdr with offset := n } []

def logFreezeTimeout (d : Drive) : Drive :=
  if d.rec_.state = 0xE2 then (d.advanceTo d.rec_.freezeEnd).thaw 2 else d

/-! ## Clearing and reading (R787 to R790, R796, R797) -/

/-- LOG.CTL: 1 CLEAR_PINNED, 2 CLEAR_ALL. Records of lower number than the LOG_CLEARED record go, staged ones among them. -/
def logCtl (v : Nat) (d : Drive) : Wr :=
  if v ≠ 1 ∧ v ≠ 2 then .bad St.malformed d
  else if d.rec_.state ≠ 0xE1 then .conflict d.rec_.state 0x0E d
  else
    let n := d.rec_.next
    let d := { d with rec_.pinned := [], rec_.pinnedFull := false, rec_.pinFloor := n }
    let d := if v = 2 then { d with rec_.log := [], rec_.logFloor := n } else d
    .ok (d.event 0x7F0 Sev.notice [v, n])

def Drive.logChan (d : Drive) (ch : Nat) : LogChan := if ch = 0 then d.rec_.sideband else d.rec_.inband

def Drive.setLogChan (ch : Nat) (x : LogChan) (d : Drive) : Drive := if ch = 0 then { d with rec_.sideband := x } else { d with rec_.inband := x }

/-- A write of the high word of LOG.CURSOR with the low word the channel holds: the window is loaded (R787, R789, R790). -/
def windowLoad (ch hi lo : Nat) (d : Drive) : Wr :=
  let c := d.logChan ch
  let cur := hi % 2 ^ 32 * 2 ^ 32 + lo % 2 ^ 32
  let area := if c.area = 0 then d.rec_.log else d.rec_.pinned
  let win := if d.rec_.state = 0xE0 then [] else (area.filter (fun e => decide (cur ≤ e.seq))).take 64
  .ok (d.setLogChan ch { c with cursor := cur, window := win, gap := decide (cur < d.tailSeq) && c.area == 0 && d.rec_.state != 0xE0 })

/-- The low word of LOG.CURSOR that the channel has written and not yet applied, else the one in force (R856). -/
def Drive.cursorLow (d : Drive) (ch : Nat) : Nat :=
  let c := tgetD ch ({} : MgmtChan) d.chans
  if c.heldAt = 0x0E0B ∧ c.held.length = 1 then c.held.headD 0 else (d.logChan ch).cursor % 2 ^ 32

/-- Nothing is held for a multi-word attribute of the channel any more (R856). -/
def Drive.dropHeld (ch : Nat) (d : Drive) : Drive := { d with chans := tmod ch {} (fun (c : MgmtChan) => { c with heldAt := 0, held := [] }) d.chans }

def logWindowLoad (ch hi : Nat) (d : Drive) : Wr :=
  let r := windowLoad ch hi (d.cursorLow ch) d
  { r with dev := r.dev.dropHeld ch }

/-! ## Event enables (R799, R869) -/

/-- Sources that cannot be disabled: those whose events are ERROR or CRITICAL, and 0x780 to 0x7FF. -/
def protectedSources : List Nat :=
  [0x020, 0x022, 0x023, 0x025, 0x030, 0x041, 0x042, 0x043, 0x044, 0x073, 0x074, 0x111, 0x131, 0x151, 0x281, 0x288, 0x28A, 0x28B,
   0x307, 0x308, 0x381, 0x3C5, 0x400, 0x401, 0x402, 0x421, 0x423, 0x431, 0x440, 0x441, 0x442, 0x462, 0x505, 0x507, 0x705, 0x713]

/-- The protected bits of an EVEN.ENABLE word. -/
def protectedMask (word : Nat) : Nat :=
  if 60 ≤ word then 2 ^ 32 - 1
  else ((protectedSources.filter (fun s => s / 32 = word)).map (fun s => 2 ^ (s % 32))).sum

/-- A write of word `i` of EVEN.ENABLE. -/
def eventEnableWrite (i v : Nat) (d : Drive) : Wr :=
  .ok { d with rec_.enable := tput i (v % 2 ^ 32 ||| protectedMask i) d.rec_.enable }

/-! ## Health (R801, R802) -/

/-- HEALTH_SAVE, every 10 minutes. -/
def healthSave (d : Drive) : Drive :=
  let d := d.advanceTo (d.health.savedAt + 600000000000)
  let d := { d with health.savedAt := d.now }
  { d with healthSaved := d.health }

/-- The bin of a reading in quarters of a degree (R802). -/
def tempBin (x : Int) : Nat := if x < 0 then 0 else min 21 (x.toNat / 20 + 1)

/-- TEMP_BIN_MINUTE: the end of a minute of operating time. -/
def tempBinMinute (d : Drive) : Drive :=
  let d := d.advanceTo ((d.now / 60000000000 + 1) * 60000000000)
  let t := d.health.minuteMax.foldl (fun (t : Tbl Nat) (p : Nat × Int) => tmod (p.1 * 32 + tempBin p.2) 0 (fun n => satAdd 32 n 1) t) d.health.tempMinutes
  { d with health.tempMinutes := t, health.minuteMax := [] }

def execStagingFlush (s : State) : Host.Outcome State Fault Refusal := s.onMain stagingFlush
def execLogGroupWritten (s : State) : Host.Outcome State Fault Refusal := s.onMain logGroupWritten
def execLogFreeze (o : Origin) (s : State) : Host.Outcome State Fault Refusal := s.onMain (logFreeze o)
def execLogThaw (o : Origin) (s : State) : Host.Outcome State Fault Refusal := s.onMain (logThaw o)
def execLogFreezeTimeout (s : State) : Host.Outcome State Fault Refusal := s.onMain logFreezeTimeout
def execClearPinned (ch : Nat) (s : State) : Host.Outcome State Fault Refusal := s.onMain (attrCmd ch 0x0E10 (logCtl 1))
def execClearAll (ch : Nat) (s : State) : Host.Outcome State Fault Refusal := s.onMain (attrCmd ch 0x0E10 (logCtl 2))
def execLogWindowLoad (ch hi : Nat) (s : State) : Host.Outcome State Fault Refusal := s.onMain (attrCmd ch 0x0E0C (logWindowLoad ch hi))
def execHealthSave (s : State) : Host.Outcome State Fault Refusal := s.onMain healthSave
def execTempBinMinute (s : State) : Host.Outcome State Fault Refusal := s.onMain tempBinMinute
def execEventEnableWrite (ch word v : Nat) (s : State) : Host.Outcome State Fault Refusal := s.onMain (attrCmd ch (0x2000 + word) (eventEnableWrite word v))

end Sys2Proof.Machine
end

