-- ==== Sys2Proof/Machine/Rails.lean ====
section
/-! DEFINITION. Machine/Rails.lean: how the drive stops: clean shutdown (R278), the power-fail flush (R270 to R275, R679), the error state
(R636, R637), and what goes with the main rails. -/

namespace Sys2Proof.Machine
open Sys2Proof

/-- A command that needs the main rails and no more: no flush runs, and zeroisation has not begun (R642). -/
def Drive.railsUp (d : Drive) : Bool := d.mod.mainOn && !d.media.flushing && d.sec.state != 0xA3 && d.sec.state != 0xA4

def State.onRails (s : State) (f : Drive → Drive) : Host.Outcome State Fault Refusal :=
  .next { s with dev := if s.dev.railsUp then f s.dev else s.dev }

/-- A command of the sideband controller: its effect while either supply is present. -/
def State.onSideband (s : State) (f : Drive → Drive) : Host.Outcome State Fault Refusal :=
  .next { s with dev := if s.dev.mod.mainOn || s.dev.mod.auxOn then f s.dev else s.dev }

/-! ## Approved mode (R632, R633) -/

/-- NONAPPROVED_ACTIVE: an import of a Rolgil 60 export runs (R631). -/
def Drive.nonapproved (d : Drive) : Bool := d.jobs.table.any (fun j => j.kind == 0x09 && j.p1 == 2 && (j.state == 0xB1 || j.state == 0xB2))

/-- SEC.APPROVED_MODE (Table 12.5). -/
def Drive.approvedMode (d : Drive) : Nat :=
  16 * b2n d.sec.approvedOnly + 8 * b2n d.sec.maint.isSome + 4 * b2n d.sec.nonapprovedUsed + 2 * b2n d.nonapproved +
    b2n (d.sec.state == 0xA1 && !d.nonapproved)

/-- APPROVED_MODE_CHANGE at every change of APPROVED. -/
def Drive.approvedWatch (d : Drive) : Drive :=
  let now := d.sec.state == 0xA1 && !d.nonapproved
  let d := if d.nonapproved then { d with sec.nonapprovedUsed := true } else d
  if now = d.sec.approved then d else ({ d with sec.approved := now }).event 0x432 Sev.notice [b2n now]

/-! ## Draining everything (R278, R637) -/

/-- Every record of the shelf is programmed where it was to go, or in a new place (R237). -/
def drainShelf : Nat → Drive → Drive
  | 0, d => d
  | n + 1, d =>
    match d.kv.shelf with
    | [] => d
    | (idx, x) :: _ =>
      let spot := match x.target with
        | some t => some (t, d)
        | none => (d.allocate 0x01 false (recGranules x.rec_)).orElse (fun _ => d.allocate 0x01 true (recGranules x.rec_))
      match spot with
      | some ((sb, gran), d) => drainShelf n (d.shelfDone idx sb gran)
      | none => d

/-- Clipping stops: its victims may be chosen again. -/
def Drive.stopClips (d : Drive) : Drive :=
  { d with
    media.clips := []
    media.sbs := d.media.sbs.map (fun (p : Nat × Superblock) =>
      (p.1, { p.2 with state := if p.2.state = 4 then 3 else p.2.state, eraseTodo := [], eraseBusy := 0 })) }

/-! ## Writes of the option flash that are cut short (R713, Table 14.4) -/

/-- A sector whose write is cut short: the image of its region no longer verifies, and an option area fails its crc. -/
def Drive.tearSector (sector : Nat) (d : Drive) : Drive :=
  let inside := fun (first n : Nat) => decide (first ≤ sector) && decide (sector < first + n)
  if sector = 0 then { d with optf.area := none }
  else if inside 0x001 8 then { d with optf.loader := none }
  else if inside 0x009 16 then { d with optf.recovery := none }
  else if inside 0x019 32 then { d with optf.sbCode := none }
  else if inside 0x040 352 then { d with optf.fwA := none }
  else if inside 0x200 352 then { d with optf.fwB := none }
  else if inside 0x360 32 then { d with optf.optA := none }
  else if inside 0x380 32 then { d with optf.optB := none }
  else d

/-- The writes queued and running stop: images that were being written fail, the boot-state record before a torn one stands; a vault
change stands in one copy, and R365 repairs the other. -/
def Drive.tearWrites (d : Drive) : Drive :=
  let left := d.optf.busy.toList ++ d.optf.queue
  let d := (left.filter (fun x => x.prio = 4)).foldl (fun (d : Drive) x => d.tearSector x.sector) d
  { d with optf.boot := d.optf.bootSafe, optf.busy := none, optf.queue := [], optf.waitingReads := [] }

/-- The writes of the small records complete before the drive stops by itself. -/
def Drive.settleRecords (d : Drive) : Drive :=
  let left := (d.optf.busy.toList ++ d.optf.queue).filter (fun x => x.prio == 4)
  { d with optf.bootSafe := d.optf.boot, optf.busy := left.head?, optf.queue := left.tail }

/-- Clean shutdown: the shelf and the delta log drain, Thicket's staging goes to the log, health is saved, a root with the clean flag is
written, and Sprig's exact value (R278, R568, R776, R801). -/
def Drive.cleanShutdown (d : Drive) : Drive :=
  let d := { d with media.dies := [], media.reads := [], media.verified := [], media.repairs := [] }
  let d := drainShelf d.kv.shelf.length d.stopClips
  let d := deltaDrain d
  let d := if d.rec_.state = 0xE0 then d else flushAll (d.rec_.staging.length + 1) d
  let d := ({ d with health.savedAt := d.now }).writeRoot true
  { d.settleRecords with healthSaved := d.health, time.exact := some d.now, time.savedWall := d.wallNow, media.unclean := false, media.flushValid := false }

/-- A decided cross-home batch whose session has gone: it is finished without a reply (R134, R136). -/
def Req.orphan (r : Req) : Req :=
  match r.origin with
  | .twin _ => r
  | _ => { r with origin := .twin r.opId, silent := true }

/-- Cross-home batches over a restart (R134): the coordinator's decisions, the participant's prepared members with what was answered to
their PREPARE, and the keys that both hold stay, as do table changes that the twin has not acknowledged (R140); a batch that was not decided goes, and its PREPARE is sent again so that the twin's
answer finds no batch. -/
def Drive.keepBatches (d : Drive) : Drive :=
  let decided := (d.kv.reqs.filter (fun r => r.phase == .decided)).map Req.orphan
  { d with
    kv.reqs := decided
    kv.holds := d.kv.holds.filter (fun h => !h.coordinator || decided.any (fun r => r.replyHdr.txn == h.txn))
    twin.out := (d.twin.out.filter (fun x => x.msg.code == 0x18 || x.msg.code == 0x1B || x.msg.code == 0x30)).map (fun x => { x with origin := none })
    twin.seen := d.twin.seen.filter (fun p => d.kv.prepared.any (fun q => q.opId == p.1)) }

/-- The cross-home state is lost with the flush (R134, R281). -/
def Drive.loseBatches (d : Drive) : Drive :=
  { d with kv.reqs := [], kv.holds := [], kv.prepared := [], twin.out := [], twin.seen := [] }

/-- What does not outlive the islands: sessions, their requests, twin and ring links, keys of links, Privet, power and clock state (R441). -/
def Drive.quiesce (d : Drive) : Drive :=
  let d := { d.keepBatches with
    kv.streams := [], kv.changes := [], kv.mapCache := []
    xp := {}, privet := {}, therm := {}, power := {}
    media.dies := [], media.reads := [], media.verified := [], media.repairs := []
    keys.sessions := [], keys.system := [], keys.cache := [], keys.loads := [], keys.erases := [], keys.ringSenders := []
    holly.waiting := [], holly.running := [], holly.contexts := [], holly.importError := false }
  let d := { d with
    twin.linkUp := false, twin.authenticated := false, twin.partials := [], twin.acksDue := []
    twin.leaseReq := 0, twin.clearance := false, twin.resGranules := 0, twin.resEntries := 0, twin.grantedGranules := 0
    twin.grantedEntries := 0, twin.resAsked := false, twin.resyncSending := false, twin.bothAlone := false, twin.lOwnTwin := 0xFFFFFFFF
    ring := { served := d.ring.served, gmPosition := 0xFF, migrations := d.ring.migrations }
    port := {}, chans := []
    jobs.newClusters := []
    sec.armed := none, sec.maintArmed := none, sec.maint := none, sec.spdm := [], sec.negotiated := 0
    mod.sidebandLock := false, mod.locate := false, mod.heldStart := none }
  d.stopClips

/-- Neither supply is present: the sideband controller stops, and the bus interface is in SMBus mode when it runs again (R687). -/
def Drive.sidebandOff (d : Drive) : Drive :=
  { d with
    mod.auxOn := false, mod.i3c := false, mod.i3cAddr := 0, mod.eid := 0, sec.loopOpen := 0, optf.busy := none, optf.queue := [], optf.waitingReads := []
    optf.continuous := (false, false), optf.readMode := 0, optf.clock := 25, optf.dummyCycles := 0, optf.readFlags := 0
    optf.xip := 0x90, optf.resumeFor := none }

/-- The islands go into reset, or the main rails off: what R441 ends goes, and option-flash writes are cut short. -/
def Drive.islandsOff (d : Drive) : Drive := { d.quiesce.tearWrites with optf.dl := 0xC0 }

/-- The main rails go off. -/
def Drive.railsOff (d : Drive) : Drive :=
  let d := { d.islandsOff with mod.mainOn := false, mod.inReset := false, mod.devState := 0xD0, media.flushing := false }
  if d.mod.auxOn then d else d.sidebandOff

/-- Nothing is left to drain: the islands are held in reset or in their start, ERROR has drained (R637), recovery boot never reads or writes
the array (R744). -/
def Drive.drained (d : Drive) : Bool := d.mod.inReset || d.mod.heldStart.isSome || d.sec.state == 0xA2 || d.mod.devState == 0xD6

/-- A clean shutdown, and the main rails go off (R278). -/
def Drive.shutDown (d : Drive) : Drive := (if d.drained then d else d.cleanShutdown).railsOff

/-- Zeroisation is under way or done. -/
def Drive.zeroing (d : Drive) : Bool := d.sec.state == 0xA3 || d.sec.state == 0xA4

/-- Power goes without a flush: during zeroisation none runs (R642). The sideband controller goes on where 3V3_AUX is there. -/
def Drive.dropPower (d : Drive) : Drive :=
  let d := { d.quiesce with
    mod.mainOn := false, mod.inReset := false, mod.flushReset := false, media.flushing := false, media.unclean := true, media.flushValid := false }
  if d.mod.auxOn then d else d.sidebandOff

/-- A command that ends the main rails: `f` where the drive can still act on it, else power just goes. -/
def State.onRailsEnd (s : State) (f : Drive → Drive) : Host.Outcome State Fault Refusal :=
  .next { s with dev := if s.dev.railsUp then f s.dev else if s.dev.mod.mainOn && s.dev.zeroing then s.dev.dropPower else s.dev }

/-! ## The power-fail flush (Table 5.7) -/

/-- The maintenance role ends (R649). cause: 1 its duration, 2 MAINT_EXIT, 3 the end of its session, 4 a power cycle, 5 the operator. -/
def Drive.endMaint (cause : Nat) (d : Drive) : Drive :=
  if d.sec.maint.isNone then d else ({ d with sec.maint := none }).event 0x451 Sev.notice [cause]

/-- The boot-state record of a drive that power or MRST_N stops: VOID before it is ready, with the counts of the ATTEMPT before (R728); in
recovery boot SELECT supersedes RECOVERY_REQ (R745, log entry 87). -/
def Drive.leaveRecord (d : Drive) : Drive :=
  let b := d.optf.boot
  let put := fun (b' : BootRec) => ({ d with optf.boot := b', optf.bootSafe := b' } : Drive)
  let next := { b with seq := b.seq + 1, opTime := d.now }
  if b.kind = 1 ∧ d.mod.devState ≠ 0xD6 then
    put (if b.fwSlot = 0 then { next with kind := 3, attemptsA := b.attemptsA - 1 } else { next with kind := 3, attemptsB := b.attemptsB - 1 })
  else if b.kind = 5 ∧ d.mod.devState = 0xD6 then
    put (if b.fwSlot = 0 then { next with kind := 4, attemptsA := 0 } else { next with kind := 4, attemptsB := 0 })
  else d

/-- Step 1 and 2: POWER_FAIL is staged, Juniper's interval ends with POWER_LOSS, array operations are abandoned, cores halt. What stands
in the shelf, the delta log, Thicket's and Juniper's staging is what the flush writes. -/
def Drive.beginFlush (d : Drive) : Drive :=
  if d.media.flushing then d
  else
    let d := if d.mod.inReset then d else ((d.event 0x020 Sev.critical []).endMaint 4).closeInterval 16
    let d := d.leaveRecord
    let d := { d with
      media.flushing := true, media.dies := [], media.reads := [], media.verified := [], media.repairs := []
      kv.shelf := d.kv.shelf.map (fun (p : Nat × ShelfRec) => (p.1, if p.2.rec_.located && !p.2.rec_.deletion then p.2 else { p.2 with target := none }))
      mod.devState := 0xD8, time.exact := some d.now, time.savedWall := d.wallNow }
    d.stopClips

/-- The superblocks of the flush reserve (Table 5.2). -/
def reserveSbs : List Nat := (List.range 5).flatMap (fun g => (List.range 4).map (fun b => 2048 * g + 2044 + b))

/-- The flush opens its reserve (Table 5.1). -/
def Drive.openReserve (d : Drive) : Drive :=
  reserveSbs.foldl (fun (d : Drive) n => if (d.sb n).state = 5 then d.modSb n (fun s => { s with state := 2, slc := true }) else d) d

/-- After the restart the reserve is erased and held again (Table 5.2: always RESERVED and erased). -/
def Drive.resetReserve (d : Drive) : Drive :=
  reserveSbs.foldl (fun (d : Drive) n =>
    if (d.sb n).state = 2 then d.setSb n { state := 5, eraseSlc := (d.sb n).eraseSlc + 1, eraseQlc := (d.sb n).eraseQlc } else d) d

/-- The flush record is written; power is released, or the islands are held in reset (R271, R684). -/
def Drive.endFlush (d : Drive) : Drive :=
  if !d.media.flushing then d
  else
    -- a drive that has not reached restart stage 4 has left the flush record of the stop before as it was
    let d := if d.rec_.based then
        { d.openReserve with media.flushValid := true, media.unclean := true, rec_.savedStaging := d.rec_.staging, rec_.savedEpisode := d.rec_.episode }
      else d
    let d := { d with rec_.staging := [], rec_.writing := 0, rec_.episode := none, time.exact := some d.now, time.savedWall := d.wallNow }
    if d.mod.flushReset then
      { d.islandsOff with mod.inReset := true, mod.devState := 0xD1, mod.flushReset := false, media.flushing := false }
    else d.railsOff

/-- The whole drive is reset as MRST_N resets it: the flush runs, and the islands are held until the drive starts again (R684). -/
def Drive.mainReset (d : Drive) : Drive := ({ d with mod.flushReset := true }).beginFlush.endFlush

/-! ## The error state (R636, R637) -/

/-- A self-test has failed: sealed records and the delta log are completed and a root written; then no cryptographic service is offered. -/
def Drive.enterError (test pair : Nat) (d : Drive) : Drive :=
  let d := (d.event 0x431 Sev.critical [test, pair]).raiseAlert
  let d := { d with sec.tests := clrBit test d.sec.tests }.cleanShutdown
  ({ d with sec.state := 0xA2, mod.devState := 0xD9 }).approvedWatch

/-- POWER_FAIL. A second cause during a flush starts nothing new (R680). -/
def execPowerFail (s : State) : Host.Outcome State Fault Refusal := s.onRailsEnd Drive.beginFlush

/-- FLUSH_COMPLETE: within 60 ms of detection. -/
def execFlushComplete (s : State) : Host.Outcome State Fault Refusal := .next { s with dev := s.dev.endFlush }

/-- DRBG_ERROR: Holly stops; what waits for it fails with INTERNAL_ERROR; the drive enters ERROR (R411). -/
def execDrbgError (s : State) : Host.Outcome State Fault Refusal :=
  s.onMain (fun d =>
    let d := { d with keys.drbgError := true }
    let d := (d.holly.waiting).foldl (fun d q => hollyFail q d) d
    ({ d with holly.waiting := [] }).enterError 11 0)

/-- CONTINUOUS_TEST_FAIL: a conditional test whose outcome is ERROR fails: 11 entropy, 12 pairwise consistency (Table 12.6). -/
def execContinuousTestFail (test : Nat) (s : State) : Host.Outcome State Fault Refusal :=
  s.onMain (fun d => if test = 11 ∨ test = 12 then d.enterError test 0 else d)

end Sys2Proof.Machine
end

