-- ==== Sys2Proof/Machine/Security.lean ====
section
/-! DEFINITION. Machine/Security.lean: zeroisation (R639 to R643), maintenance access (R644 to R649), SPDM (R650 to R654), fused security
versions (R659) and KEK_IMPORT's channel (R366, R808). -/

namespace Sys2Proof.Machine
open Sys2Proof

/-! ## Zeroisation -/

/-- The next erase of R641 is given to the option flash, ahead of all else (R705). Sectors: helper data A and B, the vault copies. -/
def Drive.zeroiseNext (d : Drive) : Drive :=
  if d.sec.helperA then d.optfWrite { prio := 0, bank := 0, sector := 0x39, erase := true }
  else if d.sec.helperB then d.optfWrite { prio := 0, bank := 1, sector := 0x3F8, erase := true }
  else if d.sec.vaultCopies = 2 then d.optfWrite { prio := 0, bank := 1, sector := 0x3A0, erase := true }
  else if d.sec.vaultCopies = 1 then d.optfWrite { prio := 0, bank := 1, sector := 0x3C0, erase := true }
  else ({ d with sec.state := 0xA4, mod.devState := 0xD9 }).event 0x442 Sev.critical []

/-- Zeroisation begins (R641 steps 1 and 2, R642): every key is gone, the ports are squelched, the fuse is blown. cause: 1 pin, 2 loop,
3 command. A flush under way stops. -/
def Drive.zeroise (cause : Nat) (d : Drive) : Drive :=
  if d.sec.state = 0xA3 ∨ d.sec.state = 0xA4 then d
  else
    let d := (d.event 0x440 Sev.critical [cause]).event 0x441 Sev.critical []
    let flushed := d.media.flushing
    let d := { d.quiesce with
      keys := { vaultA := d.keys.vaultA, vaultB := d.keys.vaultB, draws := d.keys.draws, pairId := d.keys.pairId }
      kv.directoryKey := .raw 0, kv.locatorKey := .raw 0
      sec.state := 0xA3, sec.zeroFuse := true
      media.flushing := false, optf.busy := none, optf.queue := [], optf.waitingReads := []
      mod.devState := 0xD9 }
    -- the power that a stopped flush drew on is gone
    let d := if flushed then d.dropPower else d
    d.zeroiseNext.approvedWatch

/-- ZEROISE_ERASE_COMPLETE. -/
def zeroiseEraseComplete (d : Drive) : Drive :=
  if d.sec.state ≠ 0xA3 then d
  else
    let d := { d with optf.busy := none }
    if d.sec.helperA then ({ d with sec.helperA := false }).zeroiseNext
    else if d.sec.helperB then ({ d with sec.helperB := false }).zeroiseNext
    else if d.sec.vaultCopies = 2 then ({ d with sec.vaultCopies := 1, keys.vaultA := [] }).zeroiseNext
    else ({ d with sec.vaultCopies := 0, keys.vaultA := [], keys.vaultB := [] }).zeroiseNext

/-- A sample of the cover loop: the third open one in succession zeroises (R640). -/
def tamperLoopSample (isOpen : Bool) (d : Drive) : Drive :=
  if !isOpen then { d with sec.loopOpen := 0 }
  else
    let d := { d with sec.loopOpen := min 3 (d.sec.loopOpen + 1) }
    if 3 ≤ d.sec.loopOpen then d.zeroise 2 else d

/-- Whether the arming sequence of R639 stands on this channel within its second. -/
def armedOn (now ch : Nat) (a : Option (Nat × Nat)) : Bool :=
  match a with
  | some (c, t) => c == ch && decide (now ≤ t + 1000000000)
  | none => false

/-- A write of SEC.ZEROIZE. -/
def zeroizeWrite (ch v : Nat) (d : Drive) : Wr :=
  if v = 0x5A5A0001 then .ok { d with sec.armed := some (ch, d.now) }
  else if v = 0xA5A50002 ∧ armedOn d.now ch d.sec.armed = true then .ok (({ d with sec.armed := none }).zeroise 3)
  else .bad St.malformed { d with sec.armed := none }

def zeroizeArmExpiry (d : Drive) : Drive :=
  match d.sec.armed with
  | some (_, t) => { d.advanceTo (t + 1000000000) with sec.armed := none }
  | none => d

/-! ## Maintenance -/

/-- A write of SEC.MAINT_ENABLE (R644, R645, R649). -/
def maintEnableWrite (v : Nat) (d : Drive) : Wr :=
  if d.sec.maintFuse then .conflict d.sec.state 0x12 d
  else if 1 < v then .bad St.malformed d
  else if v = 0 then .ok (({ d with sec.maintEnable := false }).endMaint 5)
  else .ok { d with sec.maintEnable := true }

/-- A write of SEC.MAINT_FUSE: the arming sequence of R639 (R645). -/
def maintFuseWrite (ch v : Nat) (d : Drive) : Wr :=
  if v = 0x5A5A0001 then .ok { d with sec.maintArmed := some (ch, d.now) }
  else if v = 0xA5A50002 ∧ armedOn d.now ch d.sec.maintArmed = true then
    .ok ((({ d with sec.maintArmed := none, sec.maintFuse := true, sec.maintEnable := false }).endMaint 5).event 0x453 Sev.notice [])
  else .bad St.malformed { d with sec.maintArmed := none }

def maintFuseArmExpiry (d : Drive) : Drive :=
  match d.sec.maintArmed with
  | some (_, t) => { d.advanceTo (t + 1000000000) with sec.maintArmed := none }
  | none => d

/-- The first check of R646 that a token fails, by its place in the list; 0xFF: tokens are not enabled (R644). -/
def Drive.tokenFault (keyOk signatureOk : Bool) (serial challenge : Nat) (d : Drive) : Option Nat :=
  if !d.sec.maintEnable then some 0xFF
  else if !keyOk then some 1
  else if !signatureOk then some 2
  else if serial ≠ d.ident.serial then some 3
  else if challenge ≠ d.sec.challenge then some 4
  else none

/-- A secured session that has finished its handshake. -/
def Drive.spdmOpen (d : Drive) (session : Nat) : Bool := (tgetD session {} d.sec.spdm).phase == 1

/-- SEC.MAINT_CHALLENGE is drawn afresh (R647). -/
def Drive.newChallenge (d : Drive) : Drive :=
  let (x, d) := d.draw
  { d with sec.challenge := x }

/-- A boot-state record follows the current one (R727). -/
def Drive.bootRecord (f : BootRec → BootRec) (d : Drive) : Drive :=
  let b := f d.optf.boot
  let b := { b with seq := d.optf.boot.seq + 1, opTime := d.now }
  let sector := 0x3E0 + b.seq / 2048 % 4
  let d := { d with optf.boot := b }
  -- a sector of 2,048 records is full: the next one is erased first
  let d := if b.seq % 2048 = 0 then d.optfWrite { prio := 3, bank := 1, sector := sector, erase := true } else d
  d.optfWrite { prio := 3, bank := 1, sector := sector, boot := some b }

/-- MAINT_TOKEN in an SPDM secured session (R646, R647, Table 12.8). -/
def maintToken (session services serial challenge duration : Nat) (keyOk signatureOk : Bool) (d : Drive) : Drive :=
  let answer := fun (st : Nat) (d : Drive) => d.emit (.sideband session 0x11 [st] [])
  if !d.spdmOpen session then answer St.notPermitted d
  else if 15 < services ∨ duration = 0 ∨ 28800 < duration then answer St.malformed d
  else match d.tokenFault keyOk signatureOk serial challenge with
    | some c => answer St.notPermitted (d.newChallenge.event 0x452 Sev.warning [c])
    | none =>
      let d := { d.newChallenge with sec.maint := some { services := services, session := session, until_ := d.now + duration * 1000000000 } }
      let d := d.event 0x450 Sev.warning [services, duration]
      let d := if bit 3 services then d.bootRecord (fun b => { b with kind := 5 }) else d
      answer St.ok d

/-- MAINT_EXIT by the vendor, in the maintenance role (R649, Table 17.2). -/
def maintExit (session : Nat) (d : Drive) : Drive :=
  match d.sec.maint with
  | some m => if m.session = session then (d.endMaint 2).emit (.sideband session 0x12 [St.ok] []) else d.emit (.sideband session 0x12 [St.notPermitted] [])
  | none => d.emit (.sideband session 0x12 [St.notPermitted] [])

def maintDurationExpiry (d : Drive) : Drive :=
  match d.sec.maint with
  | some m => (d.advanceTo m.until_).endMaint 1
  | none => d

/-! ## Security versions (R659) -/

def Drive.fwImage (d : Drive) (slot : Nat) : Option Image := if slot = 0 then d.optf.fwA else d.optf.fwB
def Drive.optImage (d : Drive) (slot : Nat) : Option Image := if slot = 0 then d.optf.optA else if slot = 1 then d.optf.optB else none

/-- SVN_RAISE: 24 h of running without a fallback; a fused minimum holds 64 thermometer-coded bits. -/
def svnRaise (d : Drive) : Drive :=
  match d.fwImage d.optf.fwRunning with
  | none => d
  | some i =>
    let d := d.advanceTo (d.sec.svnFrom + 86400000000000)
    let m := min 64 i.svn
    if d.sec.svnHold || decide (m ≤ d.sec.svnMinFw) then d
    else ({ d with sec.svnMinFw := m }).event 0x463 Sev.notice [1, m]

/-! ## SPDM (R650 to R654) -/

/-- SPDM is served: the root is there, so not in ERROR, ZEROISING or ZEROISED, nor on auxiliary power alone. -/
def Drive.spdmUp (d : Drive) : Bool := d.mod.mainOn && !d.mod.inReset && !d.media.flushing && d.sec.state == 0xA1

/-- A secured session ends, and a maintenance role in it (R649). -/
def Drive.endSpdm (session : Nat) (d : Drive) : Drive :=
  let d := { d with sec.spdm := tdel session d.sec.spdm }
  match d.sec.maint with
  | some m => if m.session = session then d.endMaint 3 else d
  | none => d

/-- Sideband SPDM sessions end (R710, R650). -/
def endAllSpdm : List Nat → Drive → Drive
  | [], d => d
  | n :: r, d => endAllSpdm r (d.endSpdm n)

/-- Secured sessions from which nothing has come for twice the heartbeat period have ended (R650, log entry 35). -/
def Drive.dropStale (d : Drive) : Drive :=
  endAllSpdm ((d.sec.spdm.filter (fun (p : Nat × SpdmSession) => decide (p.2.heardAt + 120000000000 < d.now))).map (·.1)) d

def State.onSpdm (s : State) (f : Drive → Drive) : Host.Outcome State Fault Refusal :=
  .next { s with dev := if s.dev.spdmUp then f s.dev.dropStale else s.dev }

/-- An SPDM response in a session (0: outside one): code, parameters, body. -/
def spdmSay (session code : Nat) (args : List Nat) (d : Drive) : Drive := d.emit (.sideband session code args [])

/-- An SPDM ERROR response: 0x01 InvalidRequest, 0x03 Busy, 0x04 UnexpectedRequest, 0x06 DecryptError, 0x0A SessionLimitExceeded. -/
def spdmError (session code : Nat) (d : Drive) : Drive := spdmSay session 0x7F [code] d

/-- A request that needs version, capabilities and algorithms agreed. -/
def Drive.negotiated (session n : Nat) (k : Drive → Drive) (d : Drive) : Drive := if d.sec.negotiated < n then spdmError session 0x04 d else k d

def getVersion (d : Drive) : Drive := spdmSay 0 0x04 [0x13] { d with sec.negotiated := max 1 d.sec.negotiated }

/-- The capabilities of Table 12.9 as DSP0274 places them (log entry 32): CERT, CHAL, MEAS with signature, MEAS_FRESH, ENCRYPT, MAC, MUT_AUTH,
KEY_EX, HBEAT, KEY_UPD, SET_CERT, CSR. -/
def capabilityFlags : Nat :=
  2 ^ 1 + 2 ^ 2 + 2 ^ 4 + 2 ^ 5 + 2 ^ 6 + 2 ^ 7 + 2 ^ 8 + 2 ^ 9 + 2 ^ 13 + 2 ^ 14 + 2 ^ 19 + 2 ^ 20

/-- The algorithms of Table 12.9 as DSP0274 names them (log entry 32): ECDSA P-384, SHA-384, SHA-384 for measurements, secp384r1, AES-256-GCM. -/
def chosenAlgorithms : List Nat := [0x80, 0x02, 0x04, 0x10, 0x02]

/-- The requester's capabilities are consistent with Table 12.9 or not. -/
def getCapabilities (ok : Bool) (d : Drive) : Drive :=
  d.negotiated 0 1 (fun d => if !ok then spdmError 0 0x01 d else spdmSay 0 0x61 [capabilityFlags] { d with sec.negotiated := max 2 d.sec.negotiated })

/-- The requester offers the algorithms of Table 12.9 or not: P-384 and SHA-384, secp384r1, AES-256-GCM. -/
def negotiateAlgorithms (offered : Bool) (d : Drive) : Drive :=
  d.negotiated 0 2 (fun d => if !offered then spdmError 0 0x01 d else spdmSay 0 0x63 chosenAlgorithms { d with sec.negotiated := 3 })

/-- Slot 0 holds the factory chain, slot 1 the operator's once filled (R652, R653). -/
def getDigests (session : Nat) (d : Drive) : Drive :=
  d.negotiated session 3 (fun d => spdmSay session 0x01 (if d.sec.slot1.isSome then [0, 1] else [0]) d)

def getCertificate (session slot : Nat) (d : Drive) : Drive :=
  d.negotiated session 3 (fun d =>
    match slot, d.sec.slot1 with
    -- slot 0's chain lies with the factory calibration, slot 1's in region 0x10: both in bank 1 (Table 14.2)
    | 0, _ => d.optfRead 1 65536 [.sideband session 0x02 [0, d.ident.serial] []]
    | 1, some c => d.optfRead 1 c.length [.sideband session 0x02 [1] c]
    | _, _ => spdmError session 0x01 d)

/-- CHALLENGE: signed by the attestation key (R416). -/
def challengeMsg (slot : Nat) (d : Drive) : Drive :=
  d.negotiated 0 3 (fun d =>
    if slot = 0 ∨ (slot = 1 ∧ d.sec.slot1.isSome = true) then
      let (sig, d) := d.fresh
      spdmSay 0 0x03 [slot, sig] d
    else spdmError 0 0x01 d)

/-- A measurement block (Table 12.10). -/
def Drive.measurement (d : Drive) (index : Nat) : Option (List Nat) :=
  let dig := fun (i : Option Image) => (i.map (·.digest)).getD 0
  match index with
  | 1 => some [dig d.optf.loader]
  | 2 => some [dig d.optf.sbCode]
  | 3 => some [dig (if d.jobs.newClusters = [] then d.fwImage d.optf.fwRunning else d.fwImage (1 - d.optf.fwRunning))]
  | 4 => some [dig (d.optImage d.optf.optRunning)]
  | 5 => some (match d.optImage d.optf.optRunning with | some i => [i.generation, i.signer] | none => [0, 0])
  | 6 => some [d.sec.state, d.approvedMode, d.sec.tests, b2n d.sec.maintFuse, d.sec.codeKeyRevoked, d.sec.svnMinFw, d.sec.svnMinOpt]
  | 7 => some [d.ident.dieRev, d.ident.serial]
  | _ => none

/-- GET_MEASUREMENTS of one block, or of all (index 0xFF). -/
def getMeasurements (session index : Nat) (d : Drive) : Drive :=
  d.negotiated session 3 (fun d =>
    if index = 0xFF then spdmSay session 0x60 ((List.range 8).flatMap (fun i => (d.measurement i).getD [])) d
    else if index = 0 then spdmSay session 0x60 [7] d
    else match d.measurement index with
      | some m => spdmSay session 0x60 m d
      | none => spdmError session 0x01 d)

/-- KEY_EXCHANGE: at most four sessions at once; none is opened from TCM (R709), but for recovery boot, which offers SPDM from there
(R744). -/
def keyExchange (d : Drive) : Drive :=
  d.negotiated 0 3 (fun d =>
    if d.optf.xip = 0x92 ∧ d.mod.devState ≠ 0xD6 then spdmError 0 0x03 d
    else if 4 ≤ d.sec.spdm.length then spdmError 0 0x0A d
    else
      let n := d.sec.spdmNext
      spdmSay 0 0x64 [n] { d with sec.spdm := tput n { heardAt := d.now } d.sec.spdm, sec.spdmNext := n + 1 })

/-- FINISH: `requester` is the hash of the root of the chain by which the requester authenticated itself (R625); `ok`: its MAC and
signature verify; `eid` names it. -/
def finishMsg (session eid : Nat) (requester : Option Nat) (ok : Bool) (d : Drive) : Drive :=
  match tget? session d.sec.spdm with
  | none => spdmError session 0x04 d
  | some x =>
    if x.phase ≠ 0 then spdmError session 0x04 d
    else if !ok then spdmError session 0x06 (({ d with sec.spdm := tdel session d.sec.spdm }).event 0x461 Sev.warning [])
    else
      let op := d.sec.operatorRoot != 0 && requester == some d.sec.operatorRoot
      let d := { d with sec.spdm := tput session { x with phase := 1, requester := requester, operator := op, heardAt := d.now } d.sec.spdm }
      spdmSay session 0x65 [] (d.event 0x460 Sev.info [eid, if op then 0 else 0xFF])

/-- A request inside a finished session. -/
def Drive.inSpdm (session : Nat) (f : SpdmSession → Drive → Drive) (d : Drive) : Drive :=
  match tget? session d.sec.spdm with
  | some x =>
    if x.phase = 1 then
      let x := { x with heardAt := d.now }
      f x { d with sec.spdm := tput session x d.sec.spdm }
    else spdmError session 0x04 d
  | none => spdmError session 0x04 d

def spdmHeartbeat (session : Nat) (d : Drive) : Drive :=
  d.inSpdm session (fun _ d => spdmSay session 0x68 [] d)

def keyUpdate (session : Nat) (d : Drive) : Drive :=
  d.inSpdm session (fun x d => spdmSay session 0x69 [] { d with sec.spdm := tput session { x with epoch := x.epoch + 1 } d.sec.spdm })

def endSessionMsg (session : Nat) (d : Drive) : Drive := d.inSpdm session (fun _ d => spdmSay session 0x6C [] (d.endSpdm session))

def getCsr (session : Nat) (d : Drive) : Drive :=
  d.inSpdm session (fun _ d =>
    let (csr, d) := d.fresh
    spdmSay session 0x6D [csr] d)

/-- SET_CERTIFICATE of slot 1, in an operator's session, with a chain over the attestation key (R653). -/
def setCertificate (session slot : Nat) (sameKey : Bool) (chain : Bytes) (d : Drive) : Drive :=
  d.inSpdm session (fun x d =>
    if !x.operator ∨ slot ≠ 1 ∨ !sameKey then spdmError session 0x01 d
    else spdmSay session 0x6E [1] (({ d with sec.slot1 := some chain }).optfWrite { prio := 4, bank := 1, sector := 0x3F9 }))

/-- The maintenance role of a session has a service of its token (Table 12.8). -/
def Drive.maintHas (d : Drive) (session service : Nat) : Bool :=
  match d.sec.maint with
  | some m => m.session == session && bit service m.services
  | none => false

/-- MEDIA_DIAG on a page, by superblock, channel and page index: of a FREE, DIRTY or DONOR superblock alone (Table 12.8). -/
def Drive.onPage (session sb channel index : Nat) (k : Drive → Drive) (d : Drive) : Drive :=
  let st := (d.sb sb).state
  if 32768 ≤ sb ∨ 32 ≤ channel ∨ (if (d.sb sb).slc then 4096 else 16384) ≤ index then d.emit (.sideband session 0x7E [St.malformed] [])
  else if st ≠ 0 ∧ st ≠ 1 ∧ st ≠ 6 then d.emit (.sideband session 0x7E [St.stateConflict] [])
  else k d

/-- A response whose body the spec does not lay out. -/
def vendorFree (session : Nat) (d : Drive) : Drive :=
  let (x, d) := d.fresh
  d.emit (.sideband session 0x7E [St.ok, x] [])

/-- A MEDIA_DIAG raw read (R648): the stored bytes of a page. What a page holds that has not been programmed is a free value. -/
def Drive.rawRead (session sb channel index : Nat) (d : Drive) : Drive :=
  d.onPage session sb channel index (fun d =>
    let d := d.countEcc { read := 4 }
    match d.rawPage sb channel index with
    | some b => d.emit (.sideband session 0x7E [St.ok] b)
    | none =>
      let (x, d) := d.fresh
      d.emit (.sideband session 0x7E [St.ok] (beBytes 18432 x)))

/-- VENDOR_DEFINED_REQUEST (Table 12.8, R648): a maintenance diagnostic, in the role whose token has the service (R628). The spec lays out no
response: that of a raw read is the page, that of a trace the tags and entries it captures, that of any other a free value. -/
def vendorDefined (session : Nat) (what : VendorReq) (d : Drive) : Drive :=
  d.negotiated session 3 (fun d =>
    let may := fun (service : Nat) (k : Drive → Drive) (d : Drive) =>
      if d.maintHas session service then k d else d.emit (.sideband session 0x7E [St.notPermitted] [])
    let say := fun (b : Bytes) (d : Drive) => d.emit (.sideband session 0x7E [St.ok] b)
    match what with
    | .rawPage sb channel index => may 2 (fun d => d.rawRead session sb channel index) d
    | .sweep sb channel index => may 2 (fun d => d.onPage session sb channel index (vendorFree session)) d
    | .diag => may 0 (vendorFree session) d
    | .traceTags => may 1 (fun d => say (d.kv.reqs.flatMap (fun r => tagBytes r.tag)) d) d
    | .traceRing sid => may 1 (fun d => say ((d.sess sid).ring.flatMap (descriptorBytes (d.sess sid))) d) d
    | .traceEntries port ring => may 1 (fun d => say ((tgetD ring [] (d.prt port).rings).flatMap Completion.bytes) d) d
    | .other => vendorFree session d)

def execZeroizePin (s : State) : Host.Outcome State Fault Refusal := s.onSideband (Drive.zeroise 1)
def execTamperLoopSample (isOpen : Bool) (s : State) : Host.Outcome State Fault Refusal := s.onSideband (tamperLoopSample isOpen)
def execZeroizeArm (ch : Nat) (s : State) : Host.Outcome State Fault Refusal := s.onMain (attrCmd ch 0x120B (zeroizeWrite ch 0x5A5A0001))
def execZeroizeConfirm (ch : Nat) (s : State) : Host.Outcome State Fault Refusal := s.onMain (attrCmd ch 0x120B (zeroizeWrite ch 0xA5A50002))
def execZeroizeArmExpiry (s : State) : Host.Outcome State Fault Refusal := s.onMain zeroizeArmExpiry
def execZeroiseEraseComplete (s : State) : Host.Outcome State Fault Refusal := s.onSideband zeroiseEraseComplete
def execMaintEnableWrite (ch v : Nat) (s : State) : Host.Outcome State Fault Refusal := s.onMain (attrCmd ch 0x120C (maintEnableWrite v))
def execMaintFuseArm (ch : Nat) (s : State) : Host.Outcome State Fault Refusal := s.onMain (attrCmd ch 0x120D (maintFuseWrite ch 0x5A5A0001))
def execMaintFuseConfirm (ch : Nat) (s : State) : Host.Outcome State Fault Refusal := s.onMain (attrCmd ch 0x120D (maintFuseWrite ch 0xA5A50002))
def execMaintFuseArmExpiry (s : State) : Host.Outcome State Fault Refusal := s.onMain maintFuseArmExpiry
def execMaintToken (session services serial challenge duration : Nat) (keyOk signatureOk : Bool) (s : State) : Host.Outcome State Fault Refusal :=
  s.onSpdm (maintToken session services serial challenge duration keyOk signatureOk)
def execMaintExit (session : Nat) (s : State) : Host.Outcome State Fault Refusal := s.onSpdm (maintExit session)
def execMaintDurationExpiry (s : State) : Host.Outcome State Fault Refusal := s.onSpdm maintDurationExpiry
def execSvnRaise (s : State) : Host.Outcome State Fault Refusal := s.onMain svnRaise
def execKekImport (session index pkHash : Nat) (signatureOk : Bool) (b : Blob) (s : State) : Host.Outcome State Fault Refusal :=
  s.onSpdm (fun d => if d.spdmOpen session then kekImport session index pkHash signatureOk b d else d.emit (.sideband session 0x10 [St.notPermitted] []))
def execGetVersion (s : State) : Host.Outcome State Fault Refusal := s.onSpdm getVersion
def execGetCapabilities (ok : Bool) (s : State) : Host.Outcome State Fault Refusal := s.onSpdm (getCapabilities ok)
def execNegotiateAlgorithms (offered : Bool) (s : State) : Host.Outcome State Fault Refusal := s.onSpdm (negotiateAlgorithms offered)
def execGetDigests (session : Nat) (s : State) : Host.Outcome State Fault Refusal := s.onSpdm (getDigests session)
def execGetCertificate (session slot : Nat) (s : State) : Host.Outcome State Fault Refusal := s.onSpdm (getCertificate session slot)
def execChallenge (slot : Nat) (s : State) : Host.Outcome State Fault Refusal := s.onSpdm (challengeMsg slot)
def execGetMeasurements (session index : Nat) (s : State) : Host.Outcome State Fault Refusal := s.onSpdm (getMeasurements session index)
def execKeyExchange (s : State) : Host.Outcome State Fault Refusal := s.onSpdm keyExchange
def execFinish (session eid : Nat) (requester : Option Nat) (ok : Bool) (s : State) : Host.Outcome State Fault Refusal := s.onSpdm (finishMsg session eid requester ok)
def execSpdmHeartbeat (session : Nat) (s : State) : Host.Outcome State Fault Refusal := s.onSpdm (spdmHeartbeat session)
def execKeyUpdate (session : Nat) (s : State) : Host.Outcome State Fault Refusal := s.onSpdm (keyUpdate session)
def execEndSession (session : Nat) (s : State) : Host.Outcome State Fault Refusal := s.onSpdm (endSessionMsg session)
def execGetCsr (session : Nat) (s : State) : Host.Outcome State Fault Refusal := s.onSpdm (getCsr session)
def execSetCertificate (session slot : Nat) (sameKey : Bool) (chain : Bytes) (s : State) : Host.Outcome State Fault Refusal := s.onSpdm (setCertificate session slot sameKey chain)
def execVendorDefinedRequest (session : Nat) (what : VendorReq) (s : State) : Host.Outcome State Fault Refusal := s.onSpdm (vendorDefined session what)

end Sys2Proof.Machine
end

