-- ==== Sys2Proof/Machine/OptionFlash.lean ====
section
/-! DEFINITION. Machine/OptionFlash.lean: the option flash while the drive runs: its writes (R703 to R706, R714) and execution in place
(R707 to R711). -/

namespace Sys2Proof.Machine
open Sys2Proof

/-! ## The option area (R715, R716) -/

/-- The 16 bytes of a region descriptor (Table 14.6). -/
def regionBytes16 (r : Region) : Bytes := beBytes 1 r.id ++ beBytes 1 (b2n r.isSigned) ++ beBytes 2 0 ++ beBytes 4 r.address ++ beBytes 4 r.length ++ beBytes 4 0

/-- Bytes 0 to 4,091 of the option area (Table 14.5). -/
def areaBytes (a : OptArea) : Bytes :=
  padTo 4092 (padTo 272 (beBytes 4 a.magic ++ beBytes 2 a.format ++ beBytes 2 a.regionCount ++ beBytes 1 a.readMode ++ beBytes 1 a.clock ++
    beBytes 1 a.dummyCycles ++ beBytes 1 a.readFlags ++ beBytes 4 0 ++ ((a.regions.take 16).map regionBytes16).flatten))

/-- A descriptor lies within one bank, on sector boundaries. -/
def regionOk (r : Region) : Bool :=
  r.address % 65536 == 0 && r.length % 65536 == 0 && decide (0 < r.length ∧ r.address + r.length ≤ 2 ^ 26) &&
    r.address / 2 ^ 25 == (r.address + r.length - 1) / 2 ^ 25

/-- No region of a list overlaps another. -/
def disjointRegions : List Region → Bool
  | [] => true
  | r :: l => l.all (fun q => decide (r.address + r.length ≤ q.address ∨ q.address + q.length ≤ r.address)) && disjointRegions l

/-- The boot ROM accepts an option area (R716). -/
def areaAccepted (a : OptArea) : Bool :=
  let used := (a.regions.take 16).take a.regionCount
  a.magic == 0x52474F41 && a.format == 1 && a.crc == crc32c (areaBytes a) && used.all regionOk && disjointRegions used

/-- What the boot ROM uses without an area: Table 14.2's layout, 8D-8D-8D at 100 MHz with 20 dummy cycles; R716 names no continuous-read
mode for it. -/
def Drive.defaultRead (d : Drive) : Drive :=
  { d with
    optf.layout := regionTable, optf.readMode := 1, optf.clock := 100, optf.dummyCycles := 20, optf.readFlags := 0
    optf.continuous := (false, false) }

/-- The boot ROM reads the option area (R716): what it gives, or the default layout and timing. `ok`: the area reads back as it stands.
Answers whether it was accepted. -/
def Drive.readArea (ok : Bool) (d : Drive) : Bool × Drive :=
  match d.optf.area with
  | some a =>
    if ok && areaAccepted a then
      (true, { d with
        optf.layout := (a.regions.take 16).take a.regionCount, optf.readMode := a.readMode, optf.clock := a.clock
        optf.dummyCycles := a.dummyCycles, optf.readFlags := a.readFlags }.bankRead 0)
    else (false, d.defaultRead)
  | none => (false, d.defaultRead)

/-- The layout in use leads to region `id` where the drive keeps it (Table 14.2); elsewhere no image stands that verifies. -/
def Drive.findsRegion (d : Drive) (id : Nat) : Bool :=
  d.optf.layout.any (fun r => r.id == id && regionTable.any (fun t => t.id == id && t.address == r.address && t.length == r.length))

/-- No program or erase of bank 0 is queued or running (R710). -/
def Drive.bank0Idle (d : Drive) : Bool := !(d.optf.queue.any (fun x => x.bank == 0)) && !(d.optf.busy.any (fun x => x.bank == 0))

/-- A code image verifies: its signature, under a key that is not revoked, at or above the fused minimum (R655, R658). -/
def Drive.codeOk (d : Drive) (i : Image) : Bool := i.sigOk && decide (i.signer < 4) && !bit i.signer d.sec.codeKeyRevoked && decide (d.sec.svnMinFw ≤ i.svn)

/-- Why an image is rejected (R658, R710): 1 signature, 2 signer, 3 security version. -/
def Drive.codeFault (d : Drive) (i : Image) : Nat := if !i.sigOk then 1 else if i.signer < 4 ∧ bit i.signer d.sec.codeKeyRevoked = false then 3 else 2

/-- XIP_RELEASE (R708). -/
def xipRelease (d : Drive) : Wr :=
  if d.optf.xip ≠ 0x90 then .ok d
  else .ok (({ d with optf.xip := 0x91 }).event 0x049 Sev.notice [])

/-- TCM_LOAD_COMPLETE. -/
def tcmLoadComplete (d : Drive) : Drive :=
  if d.optf.xip = 0x91 then { d with optf.xip := 0x92, optf.tcmAt := d.now } else d

/-- XIP_RESUME takes effect (R710). -/
def Drive.xipBack (d : Drive) : Wr :=
  let d := { d with optf.resumeFor := none }
  let bad := fun (c : Nat) => Wr.conflict 0x92 0x13 (d.event 0x462 Sev.error [4, c])
  match d.optf.sbCode with
  | none => bad 1
  | some i =>
    if !d.codeOk i then bad (d.codeFault i)
    else
      let rew := d.optf.sbRewritten
      let d := if rew then endAllSpdm (d.sec.spdm.map (·.1)) d else d
      .ok (({ d with optf.xip := 0x90, optf.sbRewritten := false, mod.sbFailed := false }).event 0x04A Sev.notice [b2n rew])

/-- A write of XIP_RESUME: it takes effect once bank 0 has no write; until then its outcome is not yet known. -/
def xipResume (ch : Nat) (d : Drive) : Option Nat × Wr :=
  if d.optf.xip ≠ 0x92 then (none, .ok d)
  else if d.bank0Idle then (none, d.xipBack)
  else (some ch, .ok { d with optf.resumeFor := some ch })

/-- XIP_RESUME as a command: its outcome leaves when it takes effect. -/
def xipResumeCmd (ch : Nat) (d : Drive) : Drive :=
  match xipResume ch d.awaken with
  | (none, w) => w.dev.emit (.attr ch 0x1300 w.status w.offset)
  | (some _, w) => w.dev

/-- XIP_AUTO_RESUME: 600 s in TCM without a write of bank 0, sideband code not rewritten (R711). -/
def xipAutoResume (d : Drive) : Drive :=
  if d.optf.xip = 0x92 ∧ d.bank0Idle = true ∧ d.optf.sbRewritten = false then (d.advanceTo (d.optf.tcmAt + 600000000000)).xipBack.dev else d

/-- A sector has been erased once more; at 90,000 its wear is recorded (R714). -/
def Drive.countErase (sector : Nat) (d : Drive) : Drive :=
  let n := tgetD sector 0 d.optf.erases + 1
  let d := { d with optf.erases := tput sector n d.optf.erases }
  if 90000 ≤ n ∧ d.optf.wornTold.contains sector = false then
    ({ d with optf.wornTold := sector :: d.optf.wornTold }).event 0x04B Sev.warning [sector, n]
  else d

/-- OPTF_OPERATION_COMPLETE: the running write ends, who waits for it is answered, and the next by rank starts (R703, R705). -/
def optfOperationComplete (d : Drive) : Drive :=
  match d.optf.busy with
  | none => d
  | some x =>
    if x.prio = 0 then d
    else
      -- reads that waited for it are served before the next one starts (R704)
      let (mine, others) := d.optf.waitingReads.partition (fun (p : Nat × Out) => p.1 == x.bank)
      let d := { d with optf.busy := none, optf.waitingReads := others }
      let d := if mine = [] then d else (d.bankRead x.bank).emitAll (mine.map (·.2))
      let d := match d.optf.queue with
        | [] => d
        | y :: r => { d with optf.queue := r }.optfStart y
      let d := match x.boot with
        | some b => { d with optf.bootSafe := b }
        | none => d
      let d := if x.erase then d.countErase x.sector else d
      let d := if x.bank = 0 then { d with optf.tcmAt := d.now } else d
      let d := d.emitAll x.tell
      let d := match x.waiter with
        | some o =>
          if d.kv.changes.any (fun c => c.origin = o) then d.vaultDone o
          else if (d.req? o).isSome then d.reply o x.hdr x.body else d
        | none => d
      match d.optf.resumeFor with
      | some ch =>
        if d.bank0Idle then
          let w := d.xipBack
          w.dev.emit (.attr ch 0x1300 w.status w.offset)
        else d
      | none => d

def execXipRelease (ch : Nat) (s : State) : Host.Outcome State Fault Refusal := s.onMain (attrCmd ch 0x1300 xipRelease)
def execTcmLoadComplete (s : State) : Host.Outcome State Fault Refusal := s.onRails tcmLoadComplete
def execXipResume (ch : Nat) (s : State) : Host.Outcome State Fault Refusal := s.onMain (xipResumeCmd ch)
def execXipAutoResume (s : State) : Host.Outcome State Fault Refusal := s.onRails xipAutoResume
def execOptfOperationComplete (s : State) : Host.Outcome State Fault Refusal := s.onRails optfOperationComplete

end Sys2Proof.Machine
end

