-- ==== Sys2Proof/Machine/Module.lean ====
section
/-! DEFINITION. Machine/Module.lean: supplies and sideband pins (R671 to R693), and the sideband stage on auxiliary power (chapter 14). -/

namespace Sys2Proof.Machine
open Sys2Proof

/-- 12 V, in mV, between the power-fail threshold and 11.2 V for 1 ms (R676). -/
def supplyLow (mv : Nat) (d : Drive) : Drive := if 10800 ≤ mv ∧ mv < 11200 then d.event 0x024 Sev.warning [mv] else d

/-- 12 V above 13.5 V for 10 µs: recorded, and a power failure (R677). -/
def supplyHigh (mv : Nat) (d : Drive) : Drive :=
  if mv ≤ 13500 then d else (if d.mod.inReset then d else d.event 0x025 Sev.critical [mv]).beginFlush

/-- 3V3_AUX falls below 3.0 V while the main rails are up (R672). -/
def auxLost (d : Drive) : Drive := if d.mod.auxOn then ({ d with mod.auxOn := false }).event 0x026 Sev.warning [] else d
def auxRestored (d : Drive) : Drive := if d.mod.auxOn then d else ({ d with mod.auxOn := true }).event 0x027 Sev.notice []

/-- PWRDIS high for 5 ms: a clean shutdown, then the rails go off (R683). A power failure or MRST_N during the shutdown stops it, and the
flush runs (Table 13.10). -/
def pwrdisAssert (how : ShutdownEnd) (d : Drive) : Drive :=
  let d := if d.mod.inReset then d else d.event 0x028 Sev.notice []
  if d.drained then d.shutDown
  else match how with
    | .complete => d.shutDown
    | .powerFail => { d with mod.devState := 0xD7 }.beginFlush
    | .mainReset => ({ d with mod.devState := 0xD7 }.event 0x029 Sev.warning []).mainReset

/-- MRST_N low for 100 µs (R684). -/
def mrst (d : Drive) : Drive := if d.mod.inReset then d else (d.event 0x029 Sev.warning []).mainReset

/-- The SLOT_ID straps change while the rails are up: recorded, and taken only at the next start (R685). -/
def slotIdChange (straps : Nat) (d : Drive) : Drive :=
  if straps = d.mod.straps then d else ({ d with mod.straps := straps }).event 0x030 Sev.error [d.mod.slotId, straps]

/-- TWIN_PRSNT_N changes level (R686). -/
def twinPrsntChange (present : Bool) (d : Drive) : Drive :=
  if present = d.twin.partnerPresent then d else ({ d with twin.partnerPresent := present }).event 0x031 Sev.notice [b2n (!present)]

/-- SETDASA or ENTDAA gives a dynamic address; in ENTDAA the drive has sent its provisional ID, with IDENT.SERIAL[31:0]. RSTDAA returns
to SMBus mode (R687). -/
def i3cAddress (a : Nat) (byEntdaa : Bool) (d : Drive) : Drive :=
  let d := { d with mod.i3c := true, mod.i3cAddr := a }
  if byEntdaa then d.emit (.sideband 0 0x0F1 [d.ident.serial % 2 ^ 32] []) else d
def i3cReset (d : Drive) : Drive := { d with mod.i3c := false, mod.i3cAddr := 0 }

/-! ## LED_N (R692, Table 13.11) -/

/-- What LED_N shows: off; a cycle of (on, µs); or on, with 50 ms off at most four times a second while requests complete. -/
inductive Led where
  | off
  | cycle (l : List (Bool × Nat))
  | serving
deriving DecidableEq, Repr

/-- The pattern of the highest-priority condition that holds (R692). -/
def Drive.ledN (d : Drive) : Led :=
  let half := fun (us : Nat) => Led.cycle [(true, us), (false, us)]
  if !d.mod.mainOn && !d.mod.auxOn then .off
  else if d.sec.state = 0xA3 then half 62500
  else if d.sec.state = 0xA4 then .cycle [(true, 100000), (false, 3900000)]
  else if d.sec.state = 0xA2 then .cycle [(true, 100000), (false, 100000), (true, 100000), (false, 100000), (true, 100000), (false, 1500000)]
  else if !d.mod.mainOn then .off
  else if d.mod.locate then half 125000
  else if d.mod.devState = 0xD6 then half 1000000
  else if 0xD1 ≤ d.mod.devState ∧ d.mod.devState ≤ 0xD4 then half 500000
  -- a drive that shuts down or flushes is neither starting nor ready: no condition of the table holds
  else if d.mod.devState ≠ 0xD5 then .off
  else if d.twin.state = 3 ∨ d.twin.state = 4 ∨ d.twin.state = 5 ∨ d.flag.wearReadOnly = true ∨ d.media.holdupFailed = true then .cycle [(true, 1500000), (false, 500000)]
  else .serving

/-- The level of ALERT_N: low while FLAG.ALERT is set (R689). -/
def Drive.alertN (d : Drive) : Bool := !d.flag.alert

/-- DEV.LOCATE is cleared after 3,600 s of operating time (R693). -/
def locateExpiry (d : Drive) : Drive :=
  if d.mod.locate then { d.advanceTo (d.mod.locateAt + 3600000000000) with mod.locate := false } else d

/-- The ZEROISED fuse is found blown: what remains of steps 3 and 4 of R641 is completed, and the drive stays ZEROISED (R643). -/
def Drive.fuseCheck (d : Drive) : Drive :=
  if !d.sec.zeroFuse then d
  else ({ d with sec.state := 0xA3, mod.devState := 0xD9, optf.busy := none, optf.queue := [], optf.waitingReads := [] }).zeroiseNext

/-- 3V3_AUX is applied with the main rails off: the option area is read, the fuse checked, the loop tested, the sideband code verified and
run in place. `isOpen`: the loop's sample. -/
def auxPowerApplied (isOpen : Bool) (d : Drive) : Drive :=
  if d.mod.mainOn ∨ d.mod.auxOn then d
  else
    let (_, d) := d.readArea true
    let ok := match d.optf.sbCode with
      | some i => d.codeOk i && d.findsRegion 4
      | none => false
    let d := { d with mod.auxOn := true, mod.devState := 0xD0, mod.sbFailed := !ok, optf.xip := if ok then 0x90 else 0x92, sec.loopOpen := 0 }
    tamperLoopSample isOpen d.fuseCheck

/-- 3V3_AUX is removed while the main rails are off: the sideband controller stops (R687). -/
def auxPowerRemoved (d : Drive) : Drive :=
  if d.mod.mainOn then d else d.sidebandOff

def execSupplyLow (mv : Nat) (s : State) : Host.Outcome State Fault Refusal := s.onRails (supplyLow mv)
def execSupplyHigh (mv : Nat) (s : State) : Host.Outcome State Fault Refusal :=
  if mv ≤ 13500 then .next s else s.onRailsEnd (supplyHigh mv)
def execAuxLost (s : State) : Host.Outcome State Fault Refusal := s.onRails auxLost
def execAuxRestored (s : State) : Host.Outcome State Fault Refusal := s.onRails auxRestored
def execPwrdisAssert (how : ShutdownEnd) (s : State) : Host.Outcome State Fault Refusal := s.onRailsEnd (pwrdisAssert how)
def execMrstN (s : State) : Host.Outcome State Fault Refusal := s.onRails mrst
def execSlotIdChange (straps : Nat) (s : State) : Host.Outcome State Fault Refusal := s.onRails (slotIdChange straps)
def execTwinPrsntChange (present : Bool) (s : State) : Host.Outcome State Fault Refusal := s.onRails (twinPrsntChange present)
def execI3cDynamicAddress (address : Nat) (byEntdaa : Bool) (s : State) : Host.Outcome State Fault Refusal := s.onSideband (i3cAddress address byEntdaa)
def execI3cRstdaa (s : State) : Host.Outcome State Fault Refusal := s.onSideband i3cReset
def execLocateExpiry (s : State) : Host.Outcome State Fault Refusal := s.onRails locateExpiry
def execAuxPowerApplied (isOpen : Bool) (s : State) : Host.Outcome State Fault Refusal := .next { s with dev := auxPowerApplied isOpen s.dev }
def execAuxPowerRemoved (s : State) : Host.Outcome State Fault Refusal := .next { s with dev := auxPowerRemoved s.dev }

end Sys2Proof.Machine
end

