-- ==== Sys2Proof/Machine/Power.lean ====
section
/-! DEFINITION. Machine/Power.lean: power states (R746 to R756), the cap and its governor (R757 to R759), temperature (R763 to R769). -/

namespace Sys2Proof.Machine
open Sys2Proof

/-! ## Idle, tolerance and power states -/

/-- A patrol visit is due: 14 days after the last, or by the end of a pass in 48 h (R258, R261). -/
def Drive.patrolDue (d : Drive) : Bool :=
  d.media.sbs.any (fun p => d.patrolled p.1 && (decide (p.2.visitedAt + days14 ≤ d.now) ||
    (decide (d.media.patrolFastBy ≤ d.now) && decide (p.2.visitedAt + 172800000000000 < d.media.patrolFastBy))))

/-- Internal work is due or under way (R748): clipping under Table 5.4, folding, erases, patrol, refresh, a checkpoint, resync. -/
def Drive.internalWork (d : Drive) : Bool :=
  !d.media.clips.isEmpty || d.media.sbs.any (fun p => p.2.state == 1 || p.2.refresh) || (decide (d.qlcFree < 128) && d.victim.isSome) ||
    d.media.sbs.any (fun p => p.2.state == 3 && p.2.slc && p.2.stream == 0x01) || d.patrolDue ||
    decide (d.media.checkpointAt + 1800000000000 ≤ d.now ∨ 64 * 2 ^ 30 ≤ d.media.drainedBytes) || d.twin.state == 6 || d.twin.resyncSending

/-- The drive is busy (R748). -/
def Drive.busy (d : Drive) : Bool :=
  d.xp.sessions.any (fun p => !p.2.ring.isEmpty) || !d.kv.shelf.isEmpty || !d.media.delta.isEmpty ||
    d.jobs.table.any (fun j => j.state == 0xB1 || j.state == 0xB2 || j.state == 0xB4) || d.internalWork || d.mod.devState != 0xD5

/-- Idle dwell of a state in ns (Table 15.1). -/
def dwellNs (state : Nat) : Nat :=
  match state with
  | 0 => 0
  | 1 => 200000
  | 2 => 50000000
  | _ => 30000000000

/-- The deepest state that R751 allows after an idle time. -/
def Drive.deepest (d : Drive) (idle : Nat) : Nat :=
  let ok := fun (st : Nat) => decide (st ≤ d.power.stateLimit) && decide (wakeNs st ≤ d.tolerance * 1000) && decide (dwellNs st ≤ idle)
  if ok 3 then 3 else if ok 2 then 2 else if ok 1 then 1 else 0

/-- IDLE_DWELL of a state: its dwell, counted from the start of the idle period, elapses. -/
def idleDwell (st : Nat) (d : Drive) : Drive :=
  if d.busy ∨ d.power.wakeAt.isSome = true ∨ 3 < st then d
  else
    let d := d.advanceTo (d.power.idleFrom + dwellNs st)
    let n := d.deepest (d.now - d.power.idleFrom)
    if d.power.state < n then d.setPower n else d

/-- WAKE_COMPLETE: the wake latency ends (R753). -/
def wakeComplete (d : Drive) : Drive :=
  match d.power.wakeAt with
  | some t => (d.advanceTo t).setPower 0
  | none => d

/-- The instants at which something leaves the 10 s window (R749), just after it. -/
def Drive.windowEnds (d : Drive) : List Nat :=
  (((d.xp.sessions.filterMap (fun (p : Nat × Session) => p.2.dataAt)) ++ d.power.overrides.map (·.1)).map (· + 10000000001)).filter (fun t => decide (d.now < t))

/-- TOLERANCE_WINDOW_EXPIRY: time passes the nearest of them; what has left contributes no more. -/
def toleranceWindowExpiry (d : Drive) : Drive :=
  match d.windowEnds with
  | [] => d
  | t :: r =>
    let d := d.advanceTo (r.foldl min t)
    { d with power.overrides := d.power.overrides.filter (fun (p : Nat × Nat) => decide (d.now ≤ p.1 + 10000000000)) }

/-- An in-band write of a POWER attribute or DEV.RESET while the sideband holds its lock (R818). -/
def lockedOut (ch : Nat) (k : Drive → Wr) (d : Drive) : Wr := if ch ≠ 0 ∧ d.mod.sidebandLock = true then .conflict 0xF0 0x01 d else k d

def stateLimitWrite (ch v : Nat) (d : Drive) : Wr :=
  lockedOut ch (fun d => if 3 < v then .bad St.malformed d else .ok { d with power.stateLimit := v }) d

/-! ## The cap and the governor -/

/-- Token pool in force (R209, R766, Table 15.5). -/
def poolOf (cap stage : Nat) : Nat :=
  let t := tokenPool cap
  max 8 (match stage with | 0 => t | 1 => t * 3 / 4 | 2 => t / 2 | _ => t / 4)

/-- Core clock limit of a stage in MHz. -/
def clockLimit (stage : Nat) : Nat := if stage ≤ 1 then 2000 else if stage = 2 then 1500 else 1000

/-- The pool and the clock follow the cap and the stage. -/
def Drive.applyLimits (d : Drive) : Drive :=
  let d := d.reconRoll
  { d with power.tokens := poolOf d.power.capW d.therm.stage, power.coreClock := min d.power.coreClock (clockLimit d.therm.stage) }

def capWrite (ch v : Nat) (d : Drive) : Wr :=
  lockedOut ch (fun d =>
    if v < 25 ∨ 70 < v then .bad St.malformed d
    else .ok (({ d with power.capW := v }).applyLimits.event 0x061 Sev.notice [v, ch])) d

/-- GOVERNOR_1MS: the input power of the last millisecond in mW; above 1.1 × cap nothing is issued for the next (R759), else what waited is. -/
def governor1 (mw : Nat) (d : Drive) : Drive :=
  let d := d.advanceTo ((d.now / 1000000 + 1) * 1000000)
  if 1100 * d.power.capW < mw then { d with power.issueFrom := d.now + 1000000 } else d.advanceMedia

/-- GOVERNOR_100MS: the input power of the last second in mW. CLOCK_REDUCED at the first reduction after 60 s without one. -/
def governor100 (mw : Nat) (d : Drive) : Drive :=
  let d := { d.advanceTo ((d.now / 100000000 + 1) * 100000000) with power.inputMw := mw }
  if (d.power.capW - 1) * 1000 < mw then
    let c := max 1000 (d.power.coreClock - 250)
    if c = d.power.coreClock then d
    else
      let quiet := match d.power.reducedAt with | some t => decide (t + 60000000000 ≤ d.now) | none => true
      let d := { d with power.coreClock := c, power.reducedAt := some d.now }
      if quiet then d.event 0x062 Sev.info [c] else d
  else if mw < (d.power.capW - 4) * 1000 then { d with power.coreClock := min (clockLimit d.therm.stage) (d.power.coreClock + 250) }
  else d

/-! ## Temperature -/

/-- Group of a sensor (Table 15.4). -/
def sensorGroup (s : Nat) : Nat := if s < 6 then 0 else if s < 22 then (s - 6) / 4 + 1 else if s = 22 then 5 else 6

/-- Sensors of a group. -/
def groupSensors (g : Nat) : List Nat := (List.range 24).filter (fun s => sensorGroup s = g)

/-- Offset of a group in quarters of a degree. -/
def groupOffset (g : Nat) : Int := if g = 0 then 0 else if g ≤ 4 then 32 else if g = 5 then 40 else 48

/-- Every sensor of the group is invalid (R764). -/
def Therm.groupLost (t : Therm) (g : Nat) : Bool := (groupSensors g).all (fun s => t.faulted.contains s)

/-- Candidates for the composite: (reading + offset, sensor); a group wholly invalid stands at 85 °C, named by its first sensor. -/
def Therm.candidates (t : Therm) : List (Int × Nat) :=
  t.sensors.map (fun (p : Nat × Int) => (p.2 + groupOffset (sensorGroup p.1), p.1)) ++
    ((List.range 7).filter t.groupLost).map (fun g => ((340 : Int), (groupSensors g).headD 0))

/-- The greatest candidate. -/
def hottest : List (Int × Nat) → Int × Nat
  | [] => (0, 0)
  | [x] => x
  | x :: r => let y := hottest r; if y.1 < x.1 then x else y

/-- The least stage that invalid groups hold (R764). -/
def Therm.floor (t : Therm) : Nat := if t.groupLost 0 then 2 else if (List.range 7).any t.groupLost then 1 else 0

/-- Entry thresholds of stages 1 to 3, and of the thermal shutdown as 4, in quarters of a degree (Table 15.5, R767). -/
def stageEntry (s : Nat) : Int := if s = 1 then 340 else if s = 2 then 352 else if s = 3 then 364 else 380

/-- The stage changes: its limits, the time throttled, and the record R766 names. -/
def Drive.setStage (st sensor : Nat) (d : Drive) : Drive :=
  let old := d.therm.stage
  if st = old then d
  else
    let d := { d with
      therm.stage := st
      therm.throttleNs := if st = 0 then d.therm.throttleNs + (d.now - d.therm.throttleFrom) else d.therm.throttleNs
      therm.throttleFrom := if old = 0 then d.now else d.therm.throttleFrom }
    let d := d.applyLimits
    if old = 0 then d.event 0x070 Sev.warning [i64 d.therm.composite, sensor]
    else if st = 0 then d.event 0x072 Sev.notice []
    else d.event 0x071 Sev.notice [st, i64 d.therm.composite]

/-- A sensor becomes invalid (R764). -/
def Drive.sensorLost (s : Nat) (d : Drive) : Drive :=
  if d.therm.faulted.contains s then d
  else ({ d with therm.sensors := tdel s d.therm.sensors, therm.faulted := s :: d.therm.faulted }).event 0x074 Sev.error [s]

/-- The readings of a sample: valid from −40 °C to 150 °C. -/
def takeReadings : List (Nat × Int) → Drive → Drive
  | [], d => d
  | (s, x) :: r, d => takeReadings r (
      if 24 ≤ s then d
      else if x < -160 ∨ 600 < x then d.sensorLost s
      else
        let g := sensorGroup s
        let m := match tget? g d.health.minuteMax with | some y => max x y | none => x
        { d with
          therm.sensors := tput s x d.therm.sensors, therm.heardAt := tput s d.now d.therm.heardAt, therm.faulted := d.therm.faulted.filter (· ≠ s), health.minuteMax := tput g m d.health.minuteMax })

/-- Counts of successive samples at or above each threshold, and since when the composite lies 3 °C below each. -/
def Therm.sample (c : Int) (now : Nat) (t : Therm) : Therm :=
  { t with
    composite := c, compositeMax := max t.compositeMax c
    hot := [1, 2, 3, 4].map (fun s => (s, if stageEntry s ≤ c then tgetD s 0 t.hot + 1 else 0))
    cool := ([1, 2, 3].filter (fun s => decide (c < stageEntry s - 12))).map (fun s => (s, tgetD s now t.cool)) }

/-- The highest stage whose entry has been met in three successive samples. -/
def Therm.due (t : Therm) : Nat :=
  if 3 ≤ tgetD 3 0 t.hot then 3 else if 3 ≤ tgetD 2 0 t.hot then 2 else if 3 ≤ tgetD 1 0 t.hot then 1 else 0

/-- The thermal protection of R767 and R768. `completes`: the clean shutdown completes within its 2 s. -/
def Drive.thermalProtect (c : Int) (sensor : Nat) (completes : Bool) (d : Drive) : Drive :=
  if 400 ≤ c then ({ d with mod.thermalOff := true }).beginFlush
  else if 3 ≤ tgetD 4 0 d.therm.hot ∧ d.therm.shutdownAt.isNone = true then
    let d := d.event 0x073 Sev.critical [i64 c, sensor]
    let d := { d with mod.thermalOff := true, health.thermalShutdowns := satAdd 16 d.health.thermalShutdowns 1 }
    if completes || d.drained then d.shutDown else { d with mod.devState := 0xD7, therm.shutdownAt := some d.now }
  else d

/-- The readings of a 10 ms instant are taken, and what they come to. -/
def tempSample (readings : List (Nat × Int)) (completes : Bool) (d : Drive) : Drive :=
  let d := d.advanceTo ((d.now / 10000000 + 1) * 10000000)
  -- in HOLDOVER the learned frequency is corrected for the TCXO's temperature and aging (R583)
  let d := if d.time.state = 2 ∨ d.time.state = 3 then d.slew else d
  let d := takeReadings readings { d with therm.sampledAt := d.now }
  let (c, sensor) := hottest d.therm.candidates
  let d := { d with therm := d.therm.sample c d.now }
  let d := d.setStage (max d.therm.stage (max d.therm.due d.therm.floor)) sensor
  d.thermalProtect c sensor completes

/-- THERMAL_STAGE_EXIT: 1 s at 3 °C below the present stage's entry (R765); a stage that invalid groups hold is not left (R764). -/
def thermalStageExit (d : Drive) : Drive :=
  let st := d.therm.stage
  match tget? st d.therm.cool with
  | some t => if st = 0 ∨ st ≤ d.therm.floor then d else (d.advanceTo (t + 1000000000)).setStage (st - 1) 0
  | none => d

/-- THERMAL_SHUTDOWN_TIMEOUT (R768). -/
def thermalShutdownTimeout (d : Drive) : Drive :=
  match d.therm.shutdownAt with
  | some t => (d.advanceTo (t + 2000000000)).beginFlush
  | none => d

/-- SENSOR_FAULT: nothing from the sensor for 100 ms (R764). -/
def sensorFault (s : Nat) (d : Drive) : Drive :=
  if 24 ≤ s then d
  else
    let d := (d.advanceTo (tgetD s d.mod.startedAt d.therm.heardAt + 100000000)).sensorLost s
    let (c, hot) := hottest d.therm.candidates
    let d := { d with therm.composite := c, therm.compositeMax := max d.therm.compositeMax c }
    d.setStage (max d.therm.stage d.therm.floor) hot

def execIdleDwell (st : Nat) (s : State) : Host.Outcome State Fault Refusal := s.onMain (idleDwell st)
def execWakeComplete (s : State) : Host.Outcome State Fault Refusal := s.onMain wakeComplete
def execToleranceWindowExpiry (s : State) : Host.Outcome State Fault Refusal := s.onMain toleranceWindowExpiry
def execStateLimitWrite (ch v : Nat) (s : State) : Host.Outcome State Fault Refusal := s.onMain (attrCmd ch 0x0C01 (stateLimitWrite ch v))
def execCapWrite (ch v : Nat) (s : State) : Host.Outcome State Fault Refusal := s.onMain (attrCmd ch 0x0C03 (capWrite ch v))
def execGovernor1ms (mw : Nat) (s : State) : Host.Outcome State Fault Refusal := s.onMain (governor1 mw)
def execGovernor100ms (mw : Nat) (s : State) : Host.Outcome State Fault Refusal := s.onMain (governor100 mw)
def execThermalStageExit (s : State) : Host.Outcome State Fault Refusal := s.onRails thermalStageExit
def execThermalShutdownTimeout (s : State) : Host.Outcome State Fault Refusal := s.onRails thermalShutdownTimeout
def execSensorFault (sensor : Nat) (s : State) : Host.Outcome State Fault Refusal := s.onRails (sensorFault sensor)

end Sys2Proof.Machine
end

