-- ==== Sys2Proof/Machine/Attributes.lean ====
section
/-! DEFINITION. Machine/Attributes.lean: the attribute map (chapter 18): which addresses are assigned, what each word reads as, what a
write of it does; ATTR_READ, ATTR_WRITE, ATTR_BULK_READ (R821 to R823), W1C writes (R862 to R864), island resets (R819) and relays (R354). -/

namespace Sys2Proof.Machine
open Sys2Proof

/-! ## The map -/

/-- Access of an attribute (Table 0.6). -/
inductive Acc where
  | ro | rw | wo | w1c | rc
deriving DecidableEq, Repr

/-- Form of an attribute: one word; a number of several words, low word first (R18); a structure, first bytes first (R854); words that
each stand alone (R856); a window (R861). -/
inductive Form where
  | one | num | struc | words | window
deriving DecidableEq, Repr

/-- A row of the page tables: first address, number of words, access, form. -/
structure ARow where
  base : Nat
  len : Nat
  acc : Acc
  form : Form
deriving DecidableEq, Repr

def row1 (acc : Acc) (base : Nat) : ARow := { base := base, len := 1, acc := acc, form := .one }
def rowNum (acc : Acc) (base : Nat) : ARow := { base := base, len := 2, acc := acc, form := .num }
def rowStruc (acc : Acc) (base len : Nat) : ARow := { base := base, len := len, acc := acc, form := .struc }
def rowWords (acc : Acc) (base len : Nat) : ARow := { base := base, len := len, acc := acc, form := .words }
def rowWindow (base : Nat) : ARow := { base := base, len := 1, acc := .ro, form := .window }
/-- `n` single words from `base`, `n` 64-bit numbers from `base`. -/
def rows1 (acc : Acc) (base n : Nat) : List ARow := (List.range n).map (fun i => row1 acc (base + i))
def rowsNum (acc : Acc) (base n : Nat) : List ARow := (List.range n).map (fun i => rowNum acc (base + 2 * i))

/-- A port block (Table 18.6); the twin and hedgerow blocks hold offsets 0x00 to 0x6F, without 0x03 (R865). -/
def portRows (base : Nat) (host : Bool) : List ARow :=
  [row1 .rw base, row1 .ro (base + 1), row1 .ro (base + 2), row1 .w1c (base + 4), row1 .ro (base + 5), rowStruc .ro (base + 6) 10] ++
    rowsNum .rc (base + 0x10) 48 ++
    (if host then
      [row1 .rw (base + 3), row1 .rw (base + 0x70), row1 .rw (base + 0x71), rowStruc .rw (base + 0x72) 2, row1 .rw (base + 0x74),
       row1 .rw (base + 0x75), rowStruc .rw (base + 0x76) 10, rowWords .rw (base + 0x80) 128]
    else [])

/-- Tables 18.4, 18.5, 18.3. -/
def identRows : List ARow := [rowStruc .ro 0 4, rowStruc .ro 4 4, row1 .ro 8, row1 .ro 9, rowNum .ro 0xA] ++ rows1 .ro 0xC 4
def devRows : List ARow :=
  [row1 .ro 0x100, row1 .ro 0x101, row1 .rw 0x102, row1 .wo 0x103, row1 .rw 0x104, rowNum .ro 0x105, rowNum .ro 0x107]
def flagRows : List ARow := row1 .w1c 0x200 :: rows1 .ro 0x210 3
/-- Tables 18.8 and 18.9. -/
def twinRows : List ARow :=
  [row1 .ro 0x600, row1 .ro 0x601, row1 .rw 0x602, row1 .wo 0x603] ++ rows1 .ro 0x604 5 ++ [rowStruc .ro 0x609 4] ++ portRows 0x690 false
def hedgeRows : List ARow := rows1 .ro 0x700 3 ++ [rowNum .ro 0x703] ++ portRows 0x710 false ++ portRows 0x780 false
/-- Table 18.10. -/
def privetRows : List ARow :=
  [row1 .rw 0x800, row1 .ro 0x801] ++ rows1 .rw 0x802 4 ++ [row1 .wo 0x806, row1 .rw 0x807, row1 .wo 0x808, row1 .rw 0x809, row1 .rw 0x80A,
   rowNum .rw 0x80B, rowNum .rc 0x80D, row1 .rw 0x80F, rowNum .rc 0x810, rowNum .rc 0x812, row1 .wo 0x814, row1 .ro 0x815, row1 .ro 0x816,
   row1 .rw 0x817, rowWindow 0x818, rowWords .rw 0x819 4, rowStruc .rw 0x820 4, rowStruc .rw 0x824 4, rowWords .rw 0x830 20,
   rowWords .rw 0x850 20, rowWords .rw 0x870 5, rowWords .rw 0x880 20] ++ rowsNum .ro 0x8A0 8
/-- Tables 18.11 to 18.13. -/
def xportRows : List ARow := row1 .ro 0x900 :: rows1 .rw 0x901 8 ++ [rowNum .ro 0x909] ++ rows1 .rw 0x911 7 ++ rowsNum .ro 0x920 14
def timeRows : List ARow :=
  [rowNum .ro 0xA00, row1 .ro 0xA02, rowNum .ro 0xA03] ++ rows1 .ro 0xA05 4 ++ [row1 .rw 0xA09, row1 .ro 0xA0A, row1 .ro 0xA0B, row1 .rw 0xA0C,
   row1 .ro 0xA0D, rowStruc .wo 0xA0E 3, row1 .rw 0xA11] ++ rowsNum .ro 0xA12 3
def meterRows : List ARow := [row1 .rw 0xB00, row1 .ro 0xB01] ++ rowsNum .ro 0xB02 3 ++ rows1 .ro 0xB08 5 ++ [rowNum .ro 0xB0D]
/-- Table 18.14. -/
def powerRows : List ARow := [row1 .ro 0xC00, row1 .rw 0xC01, row1 .ro 0xC02, row1 .rw 0xC03] ++ rows1 .ro 0xC04 4 ++ rowsNum .ro 0xC08 4
def thermRows : List ARow := [row1 .ro 0xD00, row1 .ro 0xD01, row1 .rw 0xD02, row1 .ro 0xD03, row1 .ro 0xD04, rowNum .ro 0xD05]
/-- Table 18.15. -/
def logRows : List ARow :=
  [row1 .ro 0xE00, row1 .ro 0xE01] ++ rowsNum .ro 0xE02 3 ++ [row1 .ro 0xE08, row1 .ro 0xE09, row1 .rw 0xE0A, rowNum .rw 0xE0B, row1 .ro 0xE0D,
   rowWindow 0xE0E, row1 .ro 0xE0F, row1 .wo 0xE10, row1 .rw 0xE11] ++ rowsNum .ro 0xE12 2
def jobRows : List ARow := rows1 .ro 0xF00 4 ++ [row1 .rw 0xF04, rowStruc .ro 0xF08 8]
/-- Tables 18.16 to 18.19, R869. -/
def healthRows : List ARow :=
  rows1 .ro 0x1000 15 ++ [row1 .rw 0x100F, row1 .ro 0x1010, row1 .rw 0x1011, rowStruc .ro 0x1012 2] ++ rowsNum .ro 0x1020 12
def mediaRows : List ARow := rowsNum .ro 0x1100 3 ++ [row1 .ro 0x1106, row1 .rw 0x1107, rowNum .ro 0x1108, row1 .ro 0x110A]
def secRows : List ARow :=
  [row1 .ro 0x1200, row1 .w1c 0x1201, row1 .ro 0x1202, row1 .ro 0x1203] ++ rowsNum .ro 0x1204 3 ++ [row1 .ro 0x120A, row1 .wo 0x120B,
   row1 .rw 0x120C, row1 .wo 0x120D, row1 .ro 0x120E, row1 .rw 0x120F, row1 .ro 0x1210, row1 .ro 0x1211, rowStruc .ro 0x1218 8]
def optfRows : List ARow := row1 .wo 0x1300 :: rows1 .ro 0x1301 8
def evenRows : List ARow := [rowWords .rw 0x2000 64, rowWords .rw 0x2040 64, row1 .rw 0x2080]

/-- The rows of a page (Table 18.1). -/
def pageRows (page : Nat) : List ARow :=
  match page with
  | 0x00 => identRows | 0x01 => devRows | 0x02 => flagRows | 0x04 => portRows 0x400 true | 0x05 => portRows 0x500 true
  | 0x06 => twinRows | 0x07 => hedgeRows | 0x08 => privetRows | 0x09 => xportRows | 0x0A => timeRows | 0x0B => meterRows
  | 0x0C => powerRows | 0x0D => thermRows | 0x0E => logRows | 0x0F => jobRows | 0x10 => healthRows | 0x11 => mediaRows
  | 0x12 => secRows | 0x13 => optfRows | 0x20 => evenRows | _ => []

/-- The attribute an address belongs to; none: unassigned (R852). -/
def attrRow (addr : Nat) : Option ARow := (pageRows (addr / 256)).find? (fun r => decide (r.base ≤ addr) && decide (addr < r.base + r.len))

/-! ## Words -/

/-- A 64-bit number, low word first. -/
def num64 (n : Nat) : List Nat := [n % 2 ^ 32, n / 2 ^ 32 % 2 ^ 32]

/-- A structure of `k` words, first word most significant. -/
def words32 : Nat → Nat → List Nat
  | 0, _ => []
  | k + 1, n => n / 2 ^ (32 * k) % 2 ^ 32 :: words32 k n

/-- The number that words spell, first most significant; first least significant. -/
def ofStruc (ws : List Nat) : Nat := ws.foldl (fun a w => a * 2 ^ 32 + w % 2 ^ 32) 0
def ofNum (ws : List Nat) : Nat := ws.foldr (fun w a => w % 2 ^ 32 + a * 2 ^ 32) 0

/-- A signed value in 32 or 16 bits. -/
def i32 (x : Int) : Nat := (x % 2 ^ 32).toNat
def i16 (x : Int) : Nat := (x % 2 ^ 16).toNat

/-- One word of `v` replaced in a number of `k` words, first most significant. -/
def setWord (k i w v : Nat) : Nat :=
  let p := 2 ^ (32 * (k - 1 - i))
  v - v / p % 2 ^ 32 * p + w % 2 ^ 32 * p

def Drive.mchan (d : Drive) (ch : Nat) : MgmtChan := tgetD ch {} d.chans
def Drive.modChan (ch : Nat) (f : MgmtChan → MgmtChan) (d : Drive) : Drive := { d with chans := tmod ch {} f d.chans }

/-- A channel's copy of a pair (sideband, session 0). -/
def pick2 (ch : Nat) (p : Nat × Nat) : Nat := if ch = 0 then p.1 else p.2
def put2 (ch v : Nat) (p : Nat × Nat) : Nat × Nat := if ch = 0 then (v, p.2) else (p.1, v)

/-- The 40 bytes of an interface entry (Table 9.3) as a number, and back. -/
def Iface.word (i : Iface) : Nat :=
  i.flags * 2 ^ 312 + i.v4Prefix * 2 ^ 304 + i.v6Prefix0 * 2 ^ 296 + i.v6Prefix1 * 2 ^ 288 + i.v4 * 2 ^ 256 + i.v60 * 2 ^ 128 + i.v61
def ifaceOf (n : Nat) : Iface :=
  { flags := bits 319 312 n, v4Prefix := bits 311 304 n, v6Prefix0 := bits 303 296 n, v6Prefix1 := bits 295 288 n
    v4 := bits 287 256 n, v60 := bits 255 128 n, v61 := bits 127 0 n }
/-- The values Table 9.3 admits. -/
def ifaceOk (i : Iface) : Bool := decide (i.flags < 16) && decide (i.v4Prefix ≤ 32) && decide (i.v6Prefix0 ≤ 128) && decide (i.v6Prefix1 ≤ 128)

/-! ## What reads return -/

def portWords (ch p base : Nat) (d : Drive) : List Nat :=
  let x := d.prt p
  let off := base - portBase p
  let vid := tgetD p 0 (d.mchan ch).ifSelect
  if 0x10 ≤ off ∧ off < 0x70 then num64 (tgetD ((off - 0x10) / 2) 0 x.counters)
  else if 0x80 ≤ off then (List.range 128).map (fun i => tgetD i 0 x.mcast)
  else (tget? off [
    (0x00, [x.ctl]), (0x01, [x.link]), (0x02, [if x.link = 4 then x.speed else 0]), (0x03, [x.statsMode]), (0x04, [x.sticky]),
    (0x05, [x.txts.length]), (0x06, words32 10 (beNat (slice 0 40 x.lldpPeer ++ List.replicate (40 - x.lldpPeer.length) 0))),
    (0x70, [x.dscpCtrl]), (0x71, [x.pcpCtrl]), (0x72, words32 2 x.dscpMap), (0x74, [x.pcpMap]), (0x75, [vid]),
    (0x76, words32 10 (d.iface p vid).word)]).getD []

/-- HEALTH.SUMMARY (Table 16.6). -/
def Drive.healthSummary (d : Drive) : Nat :=
  let day := 86400000000000
  let recent := match d.health.mediaErrorAt with | some t => decide (d.now ≤ t + day) | none => false
  let st := d.twin.state
  256 * b2n (d.sec.state == 0xA1 && decide (d.sec.tests % 2 ^ 16 ≠ 2 ^ 16 - 1)) + 128 * b2n (d.therm.stage != 0) +
    64 * b2n (decide (d.media.holdupMj < 800)) + 32 * b2n (decide (d.media.holdupMj < 3200)) + 16 * b2n recent + 8 * b2n d.flag.wearReadOnly +
    4 * b2n (decide (d.sparePct < 10)) + 2 * b2n (decide (100 ≤ d.media.wearAvgPct)) + b2n (st == 3 || st == 4 || st == 5)

/-- Residency of a power state in ms (Table 15.6). -/
def Drive.residencyMs (d : Drive) (st : Nat) : Nat :=
  (tgetD st 0 d.power.residency + (if d.power.state = st then d.now - d.power.changedAt else 0)) / 1000000

/-- The 256 bits of a job's status record (Table 17.10). -/
def Drive.jobRecord (j : Job) (d : Drive) : Nat :=
  let here := if j.state = 0xB3 then d.now - j.suspendedAt else 0
  j.id * 2 ^ 240 + j.kind * 2 ^ 232 + j.state * 2 ^ 224 + j.starter * 2 ^ 216 + j.ns * 2 ^ 192 + j.done_ % 2 ^ 32 * 2 ^ 160 + j.total % 2 ^ 32 * 2 ^ 128 +
    j.suspends % 2 ^ 32 * 2 ^ 96 + (j.suspendedNs + here) / 1000000000 % 2 ^ 32 * 2 ^ 64 + here / 1000000000 % 2 ^ 32 * 2 ^ 32 + j.result * 2 ^ 16

/-- The words of the attribute that begins at `base`, as a channel reads them. -/
def pageWords (ch base : Nat) (d : Drive) : List Nat :=
  let im := fun (i : Option Image) (f : Image → Nat) => (i.map f).getD 0
  let c := d.pchan ch
  let l := d.logChan ch
  let shSel := tgetD ch 0 d.xp.shaperSelect
  let sh := tgetD shSel {} d.xp.shapers
  let x := d.xp
  let h := d.health
  let fw := d.fwImage d.optf.fwRunning
  let fw2 := (d.fwImage (1 - d.optf.fwRunning)).filter d.codeOk
  let tsel := pick2 ch h.tempSelect
  let hsel := pick2 ch h.holdupSelect
  let entry := if hsel < 64 then h.holdupRecent[hsel]? else h.holdupPeriodic[hsel - 64]?
  let pol := tgetD c.policerSelect {} d.privet.policers
  let ctr := tgetD c.counterSelect (0, 0) d.privet.counters
  let rows : Tbl (List Nat) :=
    match base / 256 with
    | 0x00 => [(0x0, words32 4 d.ident.serial), (0x4, words32 4 0x455A2D52473234302D45334C00000000), (0x8, [d.ident.vendorPen]), (0x9, [d.ident.dieRev]),
        (0xA, num64 d.ident.macBase), (0xC, [im fw (·.version)]), (0xD, [im fw2 (·.version)]), (0xE, [im fw2 (·.rollFloor)]), (0xF, [im fw (·.svn)])]
    | 0x01 => [(0x100, [d.mod.devState]), (0x101, [d.mod.slotId]), (0x102, [b2n d.mod.locate]), (0x104, [b2n d.mod.sidebandLock]),
        (0x105, num64 d.capacityGranules), (0x107, num64 d.mod.sbDiscards)]
    | 0x02 => [(0x200, [4 * b2n d.flag.fwdPause + 2 * b2n d.flag.wearReadOnly + b2n d.flag.alert]), (0x210, [d.flag.countAlert]),
        (0x211, [d.flag.countWear]), (0x212, [d.flag.countFwd])]
    | 0x06 => [(0x600, [d.twin.state]), (0x601, [d.twin.role.getD 0xFF]), (0x602, [d.twin.witness]), (0x604, [d.twin.leaseReq]), (0x605, [d.twin.epoch]),
        (0x606, [i32 d.twin.offsetNs]), (0x607, [d.commitWait]), (0x608, [b2n d.twin.partnerPresent]), (0x609, words32 4 d.twin.serial)]
    | 0x07 => [(0x700, [d.ringState]), (0x701, [d.ringMap]), (0x702, [d.ring.gmPosition]), (0x703, num64 d.ring.hopDrops)]
    | 0x08 => [(0x800, [((List.range 8).map (fun b => Nat.log2 (d.bankWidth b) * 4 ^ b)).sum]), (0x801, [d.privet.holeSpacing]), (0x802, [d.privet.fwClassMask]),
        (0x803, [c.select]), (0x804, [c.target]), (0x805, [c.metaWord]), (0x807, [c.actionSelect]), (0x809, [c.policerSelect]), (0x80A, [pol.fps]),
        (0x80B, num64 pol.bps), (0x80D, num64 pol.drops), (0x80F, [c.counterSelect]), (0x810, num64 ctr.1), (0x812, num64 ctr.2), (0x815, [c.result]),
        (0x816, [c.cursor]), (0x817, [c.captureSelect]), (0x819, words32 4 (actionBits c.actionData)), (0x820, words32 4 d.privet.defaultA),
        (0x824, words32 4 d.privet.defaultB), (0x830, words32 20 c.mtch), (0x850, words32 20 c.mask), (0x870, words32 5 c.key1), (0x880, words32 20 c.key4),
        (0x8A0, num64 d.privet.lookupsA), (0x8A2, num64 d.privet.lookupsB), (0x8A4, num64 d.privet.defaultHitsA), (0x8A6, num64 d.privet.defaultHitsB),
        (0x8A8, num64 d.privet.multiMatches), (0x8AA, num64 d.privet.ties), (0x8AC, num64 d.privet.rangeMisses), (0x8AE, num64 d.privet.scrubFixes)]
    | 0x09 => [(0x900, [d.sessionsOpen]), (0x901, [x.idleDefault]), (0x902, [x.ccDelayTarget]), (0x903, [shSel]), (0x904, [sh.resOps]), (0x905, [sh.limOps]),
        (0x906, [sh.resKbps]), (0x907, [sh.limKbps]), (0x908, [sh.queueCap]), (0x909, num64 sh.throttled)] ++
        x.classWeights.zipIdx.map (fun (w, i) => (0x911 + i, [w])) ++
        [(0x920, num64 x.typeDrops), (0x922, num64 x.sessionMismatchDrops), (0x924, num64 x.closedDrops), (0x926, num64 x.authFailDrops),
         (0x928, num64 x.dupFrames), (0x92A, num64 x.reorderDrops), (0x92C, num64 x.ringFullDrops), (0x92E, num64 x.orphanFrames),
         (0x930, num64 x.dedupDiscards), (0x932, num64 x.retransmits), (0x934, num64 x.rtoExpiries), (0x936, num64 x.throttledReplies),
         (0x938, num64 x.noticeDrops), (0x93A, num64 x.pathDowns)]
    | 0x0A => [(0xA00, num64 d.now), (0xA02, [d.time.powerCycles]), (0xA03, num64 (d.wallNow / 1000000000)), (0xA05, [d.wallNow % 1000000000]),
        (0xA06, [d.time.wallEpoch]), (0xA07, [d.time.state]), (0xA08, [d.time.source]), (0xA09, [d.time.priority]), (0xA0A, [i32 d.time.utcOffset]),
        (0xA0B, [min (2 ^ 32 - 1) d.time.estErrorNs]), (0xA0C, [d.time.trustLimitUs]), (0xA0D, [i32 d.time.freqPpb]), (0xA11, [d.time.ppsOutCtl]),
        (0xA12, num64 d.time.steps), (0xA14, num64 d.time.stepsBack), (0xA16, num64 d.time.todBad)]
    | 0x0B => [(0xB00, [d.meter.newInterval.getD d.meter.intervalS]), (0xB01, [d.meter.state]), (0xB02, num64 d.meter.held.length),
        (0xB04, num64 d.oldestRec), (0xB06, num64 d.meter.nextSeq), (0xB08, [baselineMw d.power.state]), (0xB09, [d.meter.wDie]), (0xB0A, [d.meter.wHolly]),
        (0xB0B, [d.meter.wNet]), (0xB0C, [d.meter.wLaurel]), (0xB0D, num64 (d.meter.energyTotalUj / 1000))]
    | 0x0C => [(0xC00, [d.power.state]), (0xC01, [d.power.stateLimit]), (0xC02, [min 0xFFFFFFFF d.tolerance]), (0xC03, [d.power.capW]),
        (0xC04, [d.power.tokens]), (0xC05, [d.power.coreClock]), (0xC06, [d.power.inputMw]), (0xC07, [d.media.holdupMj]),
        (0xC08, num64 (d.residencyMs 0)), (0xC0A, num64 (d.residencyMs 1)), (0xC0C, num64 (d.residencyMs 2)), (0xC0E, num64 (d.residencyMs 3))]
    | 0x0D => [(0xD00, [i16 d.therm.composite]), (0xD01, [i16 d.therm.compositeMax]), (0xD02, [pick2 ch d.therm.sensorSelect]),
        (0xD03, [match tget? (pick2 ch d.therm.sensorSelect) d.therm.sensors with | some r => i16 r | none => 0x8000]), (0xD04, [d.therm.stage]),
        (0xD05, num64 ((d.therm.throttleNs + (if d.therm.stage = 0 then 0 else d.now - d.therm.throttleFrom)) / 1000000))]
    | 0x0E => [(0xE00, [d.rec_.state]), (0xE01, [2 * b2n d.rec_.pinnedFull + b2n l.gap]), (0xE02, num64 d.headSeq), (0xE04, num64 d.tailSeq),
        (0xE06, num64 (if d.rec_.based then d.rec_.next else 0)), (0xE08, [d.rec_.staging.length]), (0xE09, [d.rec_.pinned.length]), (0xE0A, [l.area]),
        (0xE0B, num64 l.cursor), (0xE0D, [l.window.length]), (0xE0F, [if d.rec_.state = 0xE2 then (d.rec_.freezeEnd - d.now) / 1000000 else 0]),
        (0xE11, [l.source]), (0xE12, num64 (tgetD l.source 0 d.rec_.counts)), (0xE14, num64 (tgetD l.source 0 d.rec_.drops))]
    | 0x0F => [(0xF00, [(d.jobs.table.filter (fun j => j.state == 0xB1)).length]), (0xF01, [(d.jobs.table.filter (fun j => j.state == 0xB0)).length]),
        (0xF02, [d.jobs.table.length]), (0xF03, [d.jobs.nextId]), (0xF04, [pick2 ch d.jobs.select]),
        (0xF08, words32 8 (match d.job? (pick2 ch d.jobs.select) with | some j => d.jobRecord j | none => 0))]
    | 0x10 => [(0x1000, [d.healthSummary]), (0x1001, [d.sparePct]), (0x1002, [d.media.wearAvgPct]), (0x1003, [d.media.wearMaxPct]),
        (0x1004, [d.media.retiredBlocks]), (0x1005, [d.media.retiredDies.length]), (0x1006, [h.retryPpm]), (0x1007, [h.refresh14d]),
        (0x1008, [d.now / 3600000000000]), (0x1009, [d.time.powerCycles]), (0x100A, [h.unsafeShutdowns]), (0x100B, [h.flushLost]),
        (0x100C, [h.thermalShutdowns]), (0x100D, [h.holdupInitial]), (0x100E, [h.holdupMin]), (0x100F, [tsel]),
        (0x1010, [tgetD (bits 10 8 tsel * 32 + tsel % 32) 0 h.tempMinutes]), (0x1011, [hsel]),
        (0x1012, match entry with | some e => [e.hours, e.mj * 2 ^ 16 + i16 e.temp] | none => [0, 0]),
        (0x1020, num64 h.cwRead), (0x1022, num64 h.cwCorrected), (0x1024, num64 h.cwRetried), (0x1026, num64 h.cwSoft), (0x1028, num64 h.cwParityRebuilt),
        (0x102A, num64 h.cwUncorrectable), (0x102C, num64 h.readsReconstructed), (0x102E, num64 h.chunksRepaired), (0x1030, num64 h.mediaAuthFails),
        (0x1032, num64 h.patrolRefreshes), (0x1034, num64 h.hostBytesWritten), (0x1036, num64 h.flashBytesProgrammed)]
    | 0x11 => [(0x1100, num64 d.dirCount), (0x1102, num64 dirLimit), (0x1104, num64 d.kv.dirPlaceFail), (0x1106, [d.kv.fwd.length]),
        (0x1107, [d.media.waitThresholdUs]), (0x1108, num64 d.media.reconDenied), (0x110A, [d.media.shelfLimitMiB])]
    | 0x12 => [(0x1200, [d.sec.state]), (0x1201, [d.approvedMode]), (0x1202, [d.sec.tests]), (0x1203, [d.pairsActive]), (0x1204, num64 d.holly.faults),
        (0x1206, num64 d.keys.cacheMisses), (0x1208, num64 d.keys.wireLimitDrops), (0x120A, [(d.keys.keks.map (fun p => 2 ^ p.1)).sum]),
        (0x120C, [b2n d.sec.maintEnable]), (0x120E, [d.sec.codeKeyRevoked]), (0x120F, [b2n d.sec.svnHold]), (0x1210, [d.sec.svnMinFw]),
        (0x1211, [d.sec.svnMinOpt]), (0x1218, words32 8 d.sec.challenge)]
    | 0x13 => [(0x1301, [d.optf.xip]), (0x1302, [d.optf.dl]), (0x1303, [d.optf.fwRunning]), (0x1304, [d.optf.optRunning]),
        (0x1305, [im (d.optImage d.optf.optRunning) (·.generation)]), (0x1306, [im (d.optImage (1 - d.optf.optRunning)) (·.generation)]),
        (0x1307, [d.optf.boot.attemptsB * 256 + d.optf.boot.attemptsA]), (0x1308, [d.optf.erases.foldl (fun m p => max m p.2) 0])]
    | 0x20 => [(0x2000, (List.range 64).map (fun i => tgetD i (2 ^ 32 - 1) d.rec_.enable)), (0x2040, (List.range 64).map (fun i => tgetD i 0 d.rec_.notify)),
        (0x2080, [d.rec_.threshold])]
    | _ => []
  (tget? base rows).getD []

/-- The port whose block holds an address. -/
def portAt (addr : Nat) : Option Nat :=
  if 0x400 ≤ addr ∧ addr < 0x500 then some 0 else if 0x500 ≤ addr ∧ addr < 0x600 then some 1 else if 0x690 ≤ addr ∧ addr < 0x700 then some 2
  else if 0x710 ≤ addr ∧ addr < 0x780 then some 3 else if 0x780 ≤ addr ∧ addr < 0x7F0 then some 4 else none

def attrWords (ch base : Nat) (d : Drive) : List Nat :=
  match portAt base with
  | some p => portWords ch p base d
  | none => pageWords ch base d

/-- A clearing read of a counter (R520, R552). -/
def clearCounter (ch base : Nat) (d : Drive) : Drive :=
  match portAt base with
  | some p => d.modPort p (fun x => { x with counters := tdel ((base - portBase p - 0x10) / 2) x.counters })
  | none =>
    let c := d.pchan ch
    if base = 0x80D then { d with privet.policers := tmod c.policerSelect {} (fun (x : Policer) => { x with drops := 0 }) d.privet.policers }
    else if base = 0x810 then { d with privet.counters := tmod c.counterSelect (0, 0) (fun x => (0, x.2)) d.privet.counters }
    else { d with privet.counters := tmod c.counterSelect (0, 0) (fun x => (x.1, 0)) d.privet.counters }

/-- Latches words at consecutive addresses for the channel. -/
def latchAll (ch : Nat) : List (Nat × Nat) → Drive → Drive
  | [], d => d
  | (a, w) :: r, d => latchAll ch r (d.modChan ch (fun c => { c with latch := tput a w c.latch }))

/-- One word read by a channel (R855, R520, R574, R861). -/
def readWord (ch addr : Nat) (d : Drive) : Nat × Drive :=
  match attrRow addr with
  | none => (0, d)
  | some r =>
    if r.acc = .wo ∨ r.form = .window then (0, d)
    else
      let ws := attrWords ch r.base d
      if r.form = .words ∨ r.form = .one then
        match (if addr = 0xA05 ∨ addr = 0xA06 ∨ addr = 0xA07 then tget? addr (d.mchan ch).latch else none) with
        | some w => (w, d)
        | none => (ws.getD (addr - r.base) 0, d)
      else if addr ≠ r.base then (tgetD addr 0 (d.mchan ch).latch, d)
      else match (if addr = 0xA03 then tget? addr (d.mchan ch).latch else none) with
        | some w => (w, d)
        | none =>
          let d := latchAll ch (ws.tail.zipIdx.map (fun (w, i) => (addr + 1 + i, w))) d
          let d := if addr = 0xA00 then
              latchAll ch ([0xA03, 0xA05, 0xA06, 0xA07].map (fun a => (a, (pageWords ch a d).headD 0)) ++ [(0xA04, (pageWords ch 0xA03 d).getD 1 0)]) d
            else d
          (ws.headD 0, if r.acc = .rc then clearCounter ch r.base d else d)

/-- Consecutive words. -/
def readWords (ch addr : Nat) : Nat → Drive → List Nat × Drive
  | 0, d => ([], d)
  | n + 1, d =>
    let (w, d) := readWord ch addr d
    let (ws, d) := readWords ch (addr + 1) n d
    (w :: ws, d)

/-! ## W1C bits (R862 to R864) -/

/-- A clearing write of FLAG.STATUS: a condition that holds sets its bit again and counts; `occur` are the occurrences of the same
cycle. -/
def flagClear (v occur : Nat) (d : Drive) : Drive :=
  let d := if bit 0 v then { d with flag.alert := false } else d
  let d := if bit 0 occur then
      (if bit 0 v then { d with flag.alert := true, flag.countAlert := satAdd 32 d.flag.countAlert 1 }.inBand else d.raiseAlert)
    else d
  let d := if bit 1 v ∧ d.flag.wearReadOnly = true then
      (let d := { d with flag.wearReadOnly := false }
       if d.media.wearReadOnly || bit 1 occur then d.raiseWear else d)
    else d
  if bit 2 v ∧ d.flag.fwdPause = true then
    (let d := { d with flag.fwdPause := false }
     if d.kv.fwdPaused || bit 2 occur then d.raiseFwd else d)
  else d

/-- A write to a W1C attribute: FLAG.STATUS, a port's STICKY, SEC.APPROVED_MODE. -/
def w1cWrite (addr v occur : Nat) (d : Drive) : Wr :=
  match portAt addr with
  | some p => if addr = portBase p + 4 then .ok (d.modPort p (fun x => { x with sticky := (x.sticky &&& (255 - v % 256)) ||| occur % 256 })) else .bad St.malformed d
  | none =>
    if addr = 0x200 then .ok (flagClear v occur d)
    else if addr = 0x1201 then .ok (if bit 2 v then { d with sec.nonapprovedUsed := d.nonapproved || bit 2 occur } else d)
    else .bad St.malformed d

/-! ## Island resets (R819, R820, Table 17.6) -/

/-- A port's island is reset and brought up again (R485). -/
def Drive.portReset (p : Nat) (d : Drive) : Drive :=
  let x := d.prt p
  let d := if x.link = 4 then d.linkLost p else d
  if x.enable then d.negotiate p else d

def devReset (ch v : Nat) (d : Drive) : Wr :=
  lockedOut ch (fun d =>
    let said := fun (d : Drive) => d.event 0x719 Sev.warning [v, ch]
    if 1 ≤ v ∧ v ≤ 8 then
      match d.jobIn 0x0B [0xB1] with
      | some j => .conflict j.state 0x0F d
      | none => .ok (said d)
    else if v = 0x10 ∨ v = 0x11 then .ok (said (d.portReset (v - 0x10)))
    else if v = 0x12 then
      let tw := d.twin.state
      if tw == 0 || tw == 3 || tw == 4 || tw == 5 then .ok (said (d.portReset 2)) else .conflict tw 0x06 d
    else if v = 0x13 ∨ v = 0x14 then .ok (said (d.portReset (v - 0x10)))
    else if v = 0xFF then .ok (said d).mainReset
    else .bad St.malformed d) d

/-! ## What writes do -/

/-- A word within a range, or MALFORMED. Bits that an attribute's row leaves out and does not call reserved lie outside its range (R17; DESIGN
CHOICE, log entry 67). -/
def within (lo hi v : Nat) (k : Drive → Drive) (d : Drive) : Wr := if lo ≤ v ∧ v ≤ hi then .ok (k d) else .bad St.malformed d

def portSet (ch p off v : Nat) (d : Drive) : Wr :=
  let upd := fun (f : Port → Port) (d : Drive) => d.modPort p f
  match off with
  | 0x00 => portCtl ch p v d
  | 0x03 => statsModeWrite p v d
  | 0x04 => w1cWrite (portBase p + 4) v 0 d
  | 0x70 => within 0 63 v (upd (fun x => { x with dscpCtrl := v })) d
  | 0x71 => within 0 7 v (upd (fun x => { x with pcpCtrl := v })) d
  | 0x72 => .ok (upd (fun x => { x with dscpMap := v }) d)
  | 0x74 => .ok (upd (fun x => { x with pcpMap := v &&& 0x77777777 }) d)
  | 0x75 => within 0 4094 v (fun d => d.modChan ch (fun c => { c with ifSelect := tput p v c.ifSelect })) d
  | 0x76 => if ifaceOk (ifaceOf v) then .ok (ifaceWrite p (tgetD p 0 (d.mchan ch).ifSelect) (ifaceOf v) d) else .bad St.malformed d
  | _ => .ok d

def privetSet (ch base v : Nat) (d : Drive) : Wr :=
  let upd := fun (f : PChan → PChan) (d : Drive) => d.modPchan ch f
  let pol := (d.pchan ch).policerSelect
  match base with
  | 0x800 => bankWidthWrite v d
  | 0x802 => within 0 0xFFFF v (fun d => { d with privet.fwClassMask := v }) d
  | 0x803 => within 0 0x7FFF v (upd (fun c => { c with select := v })) d
  | 0x804 => within 0 0x7FFF v (upd (fun c => { c with target := v })) d
  | 0x805 => .ok (upd (fun c => { c with metaWord := v - b2n (bit 30 v) * 2 ^ 30 }) d)
  | 0x806 =>
    if v = 1 then entryRead ch d else if v = 2 then entryWrite ch d else if v = 3 then entryInvalidate ch d
    else if v = 4 then entryMove ch d else .bad St.malformed d
  | 0x807 => within 0 0x3FFF v (upd (fun c => { c with actionSelect := v })) d
  | 0x808 => if v = 1 then actionRead ch d else if v = 2 then actionWrite ch d else .bad St.malformed d
  | 0x809 => within 1 1023 v (upd (fun c => { c with policerSelect := v })) d
  | 0x80A => .ok { d with privet.policers := tmod pol {} (fun (x : Policer) => { x with fps := v, frames := {} }) d.privet.policers }
  | 0x80B => .ok { d with privet.policers := tmod pol {} (fun (x : Policer) => { x with bps := v, bytes := {} }) d.privet.policers }
  | 0x80F => within 0 4095 v (upd (fun c => { c with counterSelect := v })) d
  | 0x814 => if v = 1 then probeFirst ch d else if v = 2 then probeNext ch d else .bad St.malformed d
  | 0x817 => within 0 1023 v (upd (fun c => { c with captureSelect := v })) d
  | 0x820 => defaultActionWrite 0 v d
  | 0x824 => defaultActionWrite 1 v d
  | _ => .ok d

def Drive.modShaper (t : Nat) (f : Shaper → Shaper) (d : Drive) : Drive :=
  { d with xp.shapers := tput t (f (d.shaper t)) d.xp.shapers }

def xportSet (ch base v : Nat) (d : Drive) : Wr :=
  let t := tgetD ch 0 d.xp.shaperSelect
  let bucket := fun (rate : Nat) (b : Int) => if rate = 0 then 0 else b
  match base with
  | 0x901 => within 3 65535 v (fun d => { d with xp.idleDefault := v }) d
  | 0x902 => within 1 10000 v (fun d => { d with xp.ccDelayTarget := v }) d
  | 0x903 => within 0 4095 v (fun d => { d with xp.shaperSelect := tput ch v d.xp.shaperSelect }) d
  | 0x904 => .ok (d.modShaper t (fun s => { s with resOps := v, bResOps := bucket v s.bResOps }))
  | 0x905 => .ok (d.modShaper t (fun s => { s with limOps := v, bLimOps := bucket v s.bLimOps }))
  | 0x906 => .ok (d.modShaper t (fun s => { s with resKbps := v, bResBytes := bucket v s.bResBytes }))
  | 0x907 => .ok (d.modShaper t (fun s => { s with limKbps := v, bLimBytes := bucket v s.bLimBytes }))
  | 0x908 => within 1 4096 v (fun d => d.modShaper t (fun s => { s with queueCap := v })) d
  | _ =>
    if 0x911 ≤ base ∧ base ≤ 0x917 then within 1 255 v (fun d => { d with xp.classWeights := d.xp.classWeights.set (base - 0x911) v }) d else .ok d

/-- The four source codes of TIME.SOURCE_PRIORITY are codes of Table 11.2 (0 to 4); bits [31:16] are zero (log entry 67). -/
def priorityOk (v : Nat) : Bool := decide (v < 65536) && (List.range 4).all (fun i => decide (bits (4 * i + 3) (4 * i) v ≤ 4))

/-- A write of an attribute held in `base`, all its words together (R854): `v` is the number they spell, `ws` the words. -/
def attrSet (ch base v : Nat) (ws : List Nat) (d : Drive) : Wr :=
  match portAt base with
  | some p => portSet ch p (base - portBase p) v d
  | none =>
    match base with
    | 0x102 => within 0 1 v (fun d => { d with mod.locate := v == 1, mod.locateAt := d.now }) d
    | 0x103 => devReset ch v d
    | 0x104 => if ch ≠ 0 then .bad St.notPermitted d
        else if 1 < v then .bad St.malformed d
        else if (v == 1) = d.mod.sidebandLock then .ok d
        else .ok (({ d with mod.sidebandLock := v == 1 }).event 0x718 Sev.notice [v])
    | 0x200 => w1cWrite 0x200 v 0 d
    | 0x602 => witnessWrite v d
    | 0x603 => witnessCtl ch v d
    | 0xA09 => if priorityOk v then .ok ({ d with time.priority := v }).reselect else .bad St.malformed d
    | 0xA0C => within 1 1000000 v (fun d => d.withTrust (fun d => ({ d with time.trustLimitUs := v }).settleHoldover)) d
    | 0xA0E => wallSet (ws.getD 1 0 + ws.getD 2 0 % 65536 * 2 ^ 32) (ws.getD 0 0) d
    | 0xA11 => within 0 2 v (fun d => { d with time.ppsOutCtl := v }) d
    | 0xB00 => meterIntervalWrite v d
    | 0xC01 => stateLimitWrite ch v d
    | 0xC03 => capWrite ch v d
    | 0xD02 => within 0 23 v (fun d => { d with therm.sensorSelect := put2 ch v d.therm.sensorSelect }) d
    | 0xE0A => within 0 1 v (fun d => d.setLogChan ch { d.logChan ch with area := v }) d
    | 0xE0B => windowLoad ch (ws.getD 1 0) (ws.getD 0 0) d
    | 0xE10 => logCtl v d
    | 0xE11 => within 0 0x7FF v (fun d => d.setLogChan ch { d.logChan ch with source := v }) d
    | 0xF04 => within 0 0xFFFF v (fun d => { d with jobs.select := put2 ch v d.jobs.select }) d
    | 0x100F => if v < 2 ^ 11 ∧ bits 10 8 v < 7 ∧ v % 256 < 22 then .ok { d with health.tempSelect := put2 ch v d.health.tempSelect } else .bad St.malformed d
    | 0x1011 => within 0 175 v (fun d => { d with health.holdupSelect := put2 ch v d.health.holdupSelect }) d
    | 0x1107 => within 0 65534 v (fun d => { d with media.waitThresholdUs := v }) d
    | 0x1201 => w1cWrite 0x1201 v 0 d
    | 0x120B => zeroizeWrite ch v d
    | 0x120C => maintEnableWrite v d
    | 0x120D => maintFuseWrite ch v d
    | 0x120F => within 0 1 v (fun d => { d with sec.svnHold := v == 1 }) d
    | 0x1300 => if v = 1 then xipRelease d else if v = 2 then (xipResume ch d).2 else .bad St.malformed d
    | 0x2080 => if v ≤ 4 ∨ v = 7 then .ok { d with rec_.threshold := v } else .bad St.malformed d
    | _ => if base / 256 = 8 then privetSet ch base v d else if base / 256 = 9 then xportSet ch base v d else .ok d

/-- A word that takes effect alone: word arrays and staging (R856). -/
def wordSet (ch addr v : Nat) (d : Drive) : Wr :=
  let upd := fun (f : PChan → PChan) => Wr.ok (d.modPchan ch f)
  match portAt addr with
  | some p => .ok (d.modPort p (fun x => { x with mcast := tput (addr - portBase p - 0x80) v x.mcast }))
  | none =>
    if 0x819 ≤ addr ∧ addr < 0x81D then upd (fun c => { c with actionData := setWord 4 (addr - 0x819) v c.actionData })
    else if 0x830 ≤ addr ∧ addr < 0x844 then upd (fun c => { c with mtch := setWord 20 (addr - 0x830) v c.mtch })
    else if 0x850 ≤ addr ∧ addr < 0x864 then upd (fun c => { c with mask := setWord 20 (addr - 0x850) v c.mask })
    else if 0x870 ≤ addr ∧ addr < 0x875 then upd (fun c => { c with key1 := setWord 5 (addr - 0x870) v c.key1 })
    else if 0x880 ≤ addr ∧ addr < 0x894 then upd (fun c => { c with key4 := setWord 20 (addr - 0x880) v c.key4 })
    else if 0x2000 ≤ addr ∧ addr < 0x2040 then eventEnableWrite (addr - 0x2000) v d
    else if 0x2040 ≤ addr ∧ addr < 0x2080 then .ok { d with rec_.notify := tput (addr - 0x2040) v d.rec_.notify }
    else .ok d

/-- One word written by a channel (R855, R856): words of a structure wait for its last; a word not held keeps its present value. -/
def writeWord (ch addr v : Nat) (d : Drive) : Wr :=
  match attrRow addr with
  | none => .bad St.malformed d
  | some r =>
    let c := d.mchan ch
    if r.acc = .ro ∨ r.acc = .rc ∨ r.form = .window then .ok (d.dropHeld ch)
    else if r.form = .words then wordSet ch addr v (d.dropHeld ch)
    else if r.form = .one then attrSet ch addr v [v] (d.dropHeld ch)
    else
      let follows := decide (c.held ≠ []) && c.heldAt + c.held.length == addr && decide (r.base ≤ c.heldAt)
      let c' : MgmtChan := if follows then { c with held := c.held ++ [v] } else { c with heldAt := addr, held := [v] }
      if addr + 1 ≠ r.base + r.len then .ok (d.modChan ch (fun _ => c'))
      else
        let cur := attrWords ch r.base d
        let ws := (List.range r.len).map (fun i =>
          let a := r.base + i
          if c'.heldAt ≤ a ∧ a < c'.heldAt + c'.held.length then c'.held.getD (a - c'.heldAt) 0 else cur.getD i 0)
        attrSet ch r.base (if r.form = .num then ofNum ws else ofStruc ws) ws (d.dropHeld ch)

/-- Words at consecutive addresses, up to the first that is not accepted (R857): how many were written, and the outcome. -/
def writeWords (ch : Nat) : Nat → List Nat → Nat → Drive → Nat × Wr
  | _, [], n, d => (n, .ok d)
  | addr, v :: r, n, d =>
    let w := writeWord ch addr v d
    if w.status ≠ 0 then (n, w) else writeWords ch (addr + 1) r (n + 1) w.dev

/-! ## The operations -/

/-- The role a request acts in (Table 12.2, R870): 0 none, 1 operator, 2 maintenance, 3 unauthenticated. -/
def Drive.roleOf (d : Drive) : Origin → Nat
  | .session sid _ => if sid = 0 then 1 else 0
  | .ring _ _ => 1
  | .twin _ => 0
  | .sideband session _ =>
    if (tgetD session {} d.sec.spdm).operator then 1
    else match d.sec.maint with
      | some m => if m.session = session then 2 else 3
      | none => 3

/-- A role may read an address (Table 12.3, R870). -/
def mayRead (role addr : Nat) : Bool :=
  let page := addr / 256
  match role with
  | 1 => true
  | 2 => page == 0x12 || page == 0x10
  | 3 => page == 0x00 || page == 0x0D || page == 0x10 || addr == 0x100 || addr == 0x1200 || addr == 0x1201
  | _ => false

/-- The words of a payload. -/
def payloadWords : Nat → Bytes → List Nat
  | 0, _ => []
  | n + 1, b => field 0 4 b :: payloadWords n (b.drop 4)

/-- Whether an attribute operation of session 0, or of the sideband with the same effect, is for another member of the ring (R354, R807). -/
def relayed (r : Req) : Bool :=
  bit 31 r.hdr.txn && (match r.origin with
    | .session sid _ => sid == 0
    | .sideband _ _ => true
    | _ => false)

/-- An attribute operation is sent to the member it names, or performed here (R354, R355). -/
def relayOr (r : Req) (k : Drive → Drive) (d : Drive) : Drive :=
  if !relayed r then k d
  else if d.roleOf r.origin ≠ 1 then d.refuse r St.notPermitted
  else
    let pos := r.hdr.txn % 32
    if !bit pos d.ringMap then d.conflict r d.ringState 0x07
    else if pos = d.mod.slotId then k d
    else (d.putReq { r with phase := .job }).ringSend 0x20 pos 2 [] (hdrBytes { r.hdr with txn := 0 } ++ r.body)

/-- Replies longer than the sideband carries are TOO_LARGE (R807). -/
def sidebandFits (o : Origin) (n : Nat) : Bool :=
  match o with
  | .sideband _ _ => decide (n ≤ 8116)
  | _ => true

def attrReadOp (r : Req) (d : Drive) : Drive :=
  let n := r.hdr.valueLen
  let a := r.hdr.offset % 65536
  let role := d.roleOf r.origin
  if role = 0 ∨ (List.range (min n 1024)).any (fun i => !mayRead role (a + i)) then d.refuse r St.notPermitted
  else if n = 0 ∨ (n ≤ 1024 ∧ 65536 < a + n) then d.refuse r St.malformed
  else if 1024 < n ∨ sidebandFits r.origin (4 * n) = false then d.refuse r St.tooLarge
  else
    let (ws, d) := readWords r.origin.channel a n d
    d.reply r.origin { echo r.hdr with valueLen := 4 * n } ((ws.map (beBytes 4)).flatten)

/-- An address that only the sideband writes (R322, R817). -/
def sidebandOnly (addr : Nat) : Bool := addr == 0x603 || addr == 0x104

/-- An in-band write of the address is locked out (R818). -/
def Drive.locked (d : Drive) (addr : Nat) : Bool := d.mod.sidebandLock && (addr / 256 == 0x0C || addr == 0x103)

/-- The refusals of ATTR_WRITE's first stage for some of its addresses, in the order of R825 (R822, R866, R817, R818). -/
def Drive.writeRefused (d : Drive) (ch : Nat) (addrs : List Nat) : Option (Nat × Nat) :=
  if ch ≠ 0 ∧ addrs.any sidebandOnly = true then some (St.notPermitted, 0)
  else if addrs.any (fun a => (attrRow a).isNone) then some (St.malformed, 0)
  else if ch ≠ 0 ∧ addrs.any d.locked = true then some (St.stateConflict, conflictOffset 0xF0 0x01)
  else none

def attrWriteOp (r : Req) (d : Drive) : Drive :=
  let len := r.hdr.valueLen
  let n := len / 4
  let a := r.hdr.offset % 65536
  let ch := r.origin.channel
  if d.roleOf r.origin ≠ 1 then d.refuse r St.notPermitted
  else if len = 0 ∨ len % 4 ≠ 0 ∨ r.body.length ≠ len ∨ (n ≤ 1024 ∧ 65536 < a + n) then d.refuse r St.malformed
  else if 1024 < n then d.refuse r St.tooLarge
  else match d.writeRefused ch ((List.range n).map (fun i => a + i)) with
    | some (st, off) => d.refuse r st (offset := off)
    | none =>
      let (k, w) := writeWords ch a (payloadWords n r.body) 0 d
      -- DEV.RESET and SEC.ZEROIZE may have ended the request itself
      if (w.dev.req? r.origin).isNone then w.dev
      else w.dev.reply r.origin { echo r.hdr with status := w.status, offset := w.offset + k } []

/-- The bytes of a window (R788, R861): LOG.WINDOW, PRIVET.CAPTURE. -/
def windowBytes (ch addr : Nat) (d : Drive) : Option Bytes :=
  if addr = 0xE0E then
    let b := ((d.logChan ch).window.map recordBytes).flatten
    some (b ++ List.replicate (4096 - b.length) 0)
  else if addr = 0x818 then
    match d.privet.captures[(d.pchan ch).captureSelect]? with
    | some (c, b) => some (c.bytes ++ b.take 2048 ++ List.replicate (2048 - (b.take 2048).length) 0)
    | none => some (List.replicate 2064 0)
  else none

def attrBulkOp (r : Req) (d : Drive) : Drive :=
  let a := r.hdr.offset % 65536
  if d.roleOf r.origin ≠ 1 then d.refuse r St.notPermitted
  else if r.hdr.valueLen ≠ 0 then d.refuse r St.malformed
  else match windowBytes r.origin.channel a d with
    | some b => d.reply r.origin { echo r.hdr with valueLen := b.length } b
    | none => d.refuse r St.malformed

def attrRead (o : Origin) (d : Drive) : Drive := d.withReq o [0x50] (fun r d => relayOr r (attrReadOp r) d)
def attrWrite (o : Origin) (d : Drive) : Drive := d.withReq o [0x51] (fun r d => relayOr r (attrWriteOp r) d)
def attrBulkRead (o : Origin) (d : Drive) : Drive := d.withReq o [0x52] (fun r d => relayOr r (attrBulkOp r) d)

/-- MGMT_REQ: a relayed operation is performed as one of this drive's own session 0 (R354). -/
def mgmtReq (src seq : Nat) (h : OpHdr) (body : Bytes) (d : Drive) : Drive :=
  d.awaken.fromRing src seq (fun d =>
    let r : Req := { origin := .ring src seq, hdr := h, body := body, phase := .active, arrival := d.now, input := 3, tag := { d.mintTag 0 h d.now with kind := 0x28 } }
    let d := d.addReq r
    if h.opcode = 0x50 then attrReadOp r d
    else if h.opcode = 0x51 then attrWriteOp r d
    else if h.opcode = 0x52 then attrBulkOp r d
    else d.refuse r St.unsupported)

/-- MGMT_REPLY: the reply of a relayed operation goes to the host (R354). -/
def mgmtReply (src seq : Nat) (h : OpHdr) (body : Bytes) (d : Drive) : Drive :=
  d.awaken.fromRing src seq (fun d =>
    match d.kv.reqs.find? (fun r => r.phase = .job ∧ relayed r = true ∧ r.hdr.rid = h.rid ∧ r.hdr.opcode = h.opcode ∧ r.hdr.txn % 32 = src) with
    | some r => if sidebandFits r.origin body.length then d.reply r.origin h body else d.refuse r St.tooLarge
    | none => d)

def execAttrRead (o : Origin) (s : State) : Host.Outcome State Fault Refusal := s.onMain (attrRead o)
def execAttrWrite (o : Origin) (s : State) : Host.Outcome State Fault Refusal := s.onMain (attrWrite o)
def execAttrBulkRead (o : Origin) (s : State) : Host.Outcome State Fault Refusal := s.onMain (attrBulkRead o)
def execMgmtReq (src seq : Nat) (h : OpHdr) (body : Bytes) (s : State) : Host.Outcome State Fault Refusal := s.onMain (mgmtReq src seq h body)
def execMgmtReply (src seq : Nat) (h : OpHdr) (body : Bytes) (s : State) : Host.Outcome State Fault Refusal := s.onMain (mgmtReply src seq h body)
def execW1cWrite (ch addr v occur : Nat) (s : State) : Host.Outcome State Fault Refusal := s.onMain (attrCmd ch addr (w1cWrite addr v occur))
def execClusterReset (ch cluster : Nat) (s : State) : Host.Outcome State Fault Refusal := s.onMain (attrCmd ch 0x103 (devReset ch (1 + cluster % 8)))
def execPortReset (ch port : Nat) (s : State) : Host.Outcome State Fault Refusal := s.onMain (attrCmd ch 0x103 (devReset ch (0x10 + port % 2)))
def execTwinPortReset (ch : Nat) (s : State) : Host.Outcome State Fault Refusal := s.onMain (attrCmd ch 0x103 (devReset ch 0x12))
def execHedgerowPortReset (ch : Nat) (east : Bool) (s : State) : Host.Outcome State Fault Refusal :=
  s.onMain (attrCmd ch 0x103 (devReset ch (if east then 0x13 else 0x14)))
def execDriveReset (ch : Nat) (s : State) : Host.Outcome State Fault Refusal := s.onMain (attrCmd ch 0x103 (devReset ch 0xFF))
def execSidebandLockWrite (ch v : Nat) (s : State) : Host.Outcome State Fault Refusal := s.onMain (attrCmd ch 0x104 (attrSet ch 0x104 v [v]))

end Sys2Proof.Machine
end

