-- ==== Sys2Proof/Machine/OptionImage.lean ====
section
/-! DEFINITION. Machine/OptionImage.lean: option images: what makes one valid (R721) and how a start applies it (R722, Table 14.8, R559). -/

namespace Sys2Proof.Machine
open Sys2Proof

/-- The place of a cutting's type in the order of R722; ATTRIBUTE is 13. -/
def Cutting.rank : Cutting → Nat
  | .identity _ => 0
  | .gkp _ => 1
  | .port .. => 2
  | .iface .. => 3
  | .privetLayout .. => 4
  | .privetActions _ => 5
  | .privetEntries .. => 6
  | .privetDefaults .. => 7
  | .privetPolicers _ => 8
  | .sprig .. => 9
  | .ptpPort .. => 10
  | .twin _ => 11
  | .security .. => 12
  | .attr _ => 13
  | .rollover _ => 14
  | .revocation .. => 15
  | .unknown .. => 16

/-- What may stand once: a type marked once, or a PORT or PTP_PORT of one port (Table 14.8). -/
def Cutting.onceKey : Cutting → Option (Nat × Nat)
  | .port p _ _ _ => some (2, p)
  | .ptpPort p .. => some (10, p)
  | .iface .. => none
  | .privetActions _ => none
  | .privetEntries .. => none
  | .privetPolicers _ => none
  | .attr _ => none
  | .unknown .. => none
  | c => some (Cutting.rank c, 0)

/-- Entries stand in non-decreasing priority (Table 14.8). -/
def rising : List (Nat × Nat × Nat) → Bool
  | a :: b :: r => decide (bits 15 0 a.1 ≤ bits 15 0 b.1) && rising (b :: r)
  | _ => true

/-- The values of a cutting are within Table 14.8 and the rules it names. -/
def Cutting.ok : Cutting → Bool
  | .identity n => n.length == 64 && (n.dropWhile (fun b => b != 0)).all (fun b => b == 0)
  | .gkp p => decide (1024 ≤ p) && decide (p ≤ 65535)
  | .port p m s st => decide (p < 2) && decide (m < 3) && decide (0 < s) && decide (s < 8) && decide (st < 2)
  | .iface p v e => decide (p < 2) && decide (v ≤ 4094) && e.length == 40 && ifaceOk (ifaceOf (beNat e))
  | .privetLayout w n => (widthsOf w).isSome && decide (4 ≤ n) && decide (n ≤ 64)
  | .privetActions l => l.all (fun (p : Nat × Nat) => decide (p.1 < 16383) && actionOk p.2)
  | .privetEntries b l => decide (b < 8) && rising l &&
    l.all (fun (e : Nat × Nat × Nat) => (e.2.1 &&& e.2.2) == e.2.1 && bits 29 16 e.1 != 0x3FFF && !bit 30 e.1 && decide (e.1 < 2 ^ 32))
  | .privetDefaults a b m =>
    let dflt := fun (x : Nat) => !actAssign x && actDest x != 1 && actDest x != 3
    dflt a && dflt b && decide (m < 65536)
  | .privetPolicers l => l.all (fun (p : Nat × Nat × Nat) => decide (1 ≤ p.1) && decide (p.1 < 1024))
  | .sprig s dom p1 p2 => priorityOk s && decide (dom < 128) && decide (p1 < 256) && decide (p2 < 256)
  | .ptpPort p r dl t s a dd =>
    (p == 0 || p == 1 || p == 3 || p == 4) && (decide (r < 3) || decide (3 ≤ p)) && decide (dl < 2) && decide (t < 3) && (decide (p < 2) || dl == 1) &&
      decide (-3 ≤ s) && decide (s ≤ 1) && decide (0 ≤ a) && decide (a ≤ 3) && decide (-3 ≤ dd) && decide (dd ≤ 5)
  | .twin _ => true
  | .security .. => true
  | .rollover _ => true
  | .revocation i _ => decide (i < 4)
  | .attr l => l.all (fun (p : Nat × Nat) => (match attrRow p.1 with | some r => r.acc == .rw | none => false) && decide (p.2 < 2 ^ 32))
  | .unknown _ critical => !critical

/-- Bank widths of an image: its layout's, or the factory's (R533); and its hole spacing. -/
def Image.layout (i : Image) : List Nat × Nat :=
  (i.cuttings.findSome? (fun (c : Cutting) => match c with
    | .privetLayout w n => (widthsOf w).map (fun ws => (ws, n))
    | _ => none)).getD ([1, 1, 1, 1, 2, 2, 2, 4], 16)

/-- Inserts an entry behind those of its priority or a better one. -/
def byPriority (e : Nat × Nat × Nat) : List (Nat × Nat × Nat) → List (Nat × Nat × Nat)
  | [] => [e]
  | x :: r => if bits 15 0 x.1 ≤ bits 15 0 e.1 then x :: byPriority e r else e :: x :: r

/-- The entries an image gives a bank, in priority order. -/
def Image.bankEntries (i : Image) (b : Nat) : List (Nat × Nat × Nat) :=
  ((i.cuttings.map (fun (c : Cutting) => match c with
    | .privetEntries b' l => if b' = b then l else []
    | _ => [])).flatten).foldl (fun l e => byPriority e l) []

/-- The index of the k-th entry of a bank: every index kN + N − 1 is left free (R559). -/
def holeIndex (n k : Nat) : Nat := k / (n - 1) * n + k % (n - 1)

/-- No element stands twice. -/
def noRepeats : List (Nat × Nat) → Bool
  | [] => true
  | x :: r => !r.contains x && noRepeats r

/-- The words of ATTRIBUTE cuttings are written one after another; false when the attribute does not accept one. -/
def tryWrites : List (Nat × Nat) → Drive → Bool × Drive
  | [], d => (true, d)
  | (a, v) :: r, d =>
    let w := writeWord 0 a v d
    if w.status = St.malformed then (false, d) else tryWrites r w.dev

def Image.attributes (i : Image) : List (Nat × Nat) :=
  (i.cuttings.map (fun (c : Cutting) => match c with
    | .attr l => l
    | _ => [])).flatten

/-- Bytes of a cutting in an image whose banks have these widths: its header, and its value padded to a multiple of 8 (R719, Table 14.8). Of
an unknown one the header alone is counted. -/
def Cutting.bytes (widths : List Nat) (c : Cutting) : Nat :=
  let value := match c with
    | .identity _ => 64
    | .gkp _ => 8
    | .port .. => 8
    | .iface .. => 48
    | .privetLayout .. => 8
    | .privetEntries b l => 8 + l.length * (8 + 40 * widths.getD b 1)
    | .privetActions l => 8 + 24 * l.length
    | .privetDefaults .. => 40
    | .privetPolicers l => 8 + 16 * l.length
    | .sprig .. => 8
    | .ptpPort .. => 16
    | .twin _ => 8
    | .security .. => 56
    | .rollover _ => 48
    | .revocation .. => 7227
    | .attr l => 8 + 8 * l.length
    | .unknown .. => 0
  8 + roundUp 8 value

/-- Bytes of a whole option image: header, cuttings, public key and signature (R718). -/
def Image.bytes (i : Image) : Nat := 96 + (i.cuttings.map (Cutting.bytes (Image.layout i).1)).sum + 2592 + 4627

/-- An option image is valid (R721). -/
def Image.valid (i : Image) : Bool :=
  let lay := (Image.layout i)
  i.formOk && decide (1 ≤ i.generation ∧ i.generation < 2 ^ 32 ∧ i.svn < 2 ^ 16 ∧ Image.bytes i ≤ 2097152) && i.cuttings.all Cutting.ok && noRepeats (i.cuttings.filterMap Cutting.onceKey) &&
  (List.range 8).all (fun b =>
    let es := Image.bankEntries i b
    let w := lay.1.getD b 1
    es == [] || (decide (holeIndex lay.2 (es.length - 1) < 4096 / w) && es.all (fun e => decide (e.2.2 < 2 ^ (160 * w))))) &&
  (tryWrites (Image.attributes i) {}).1

/-- Entries go to the indexes that R559 gives them. -/
def placeEntries (b n : Nat) : Nat → List (Nat × Nat × Nat) → Drive → Drive
  | _, [], d => d
  | k, e :: r, d =>
    let x : PEntry := { mtch := e.2.1, mask := e.2.2, valid := bit 31 e.1, action := bits 29 16 e.1, priority := bits 15 0 e.1 }
    placeEntries b n (k + 1) r (d.setPentry (b * 4096 + holeIndex n k) x)

/-- One cutting takes effect (Table 14.8); a type that the drive does not know is skipped (R721). -/
def Drive.applyCutting (d : Drive) : Cutting → Drive
  | .identity n => { d with port.systemName := n }
  | .gkp p => { d with port.gkpPort := p }
  | .port p m s st => d.modPort p (fun x => { x with medium := m, permitted := s, statsMode := st })
  | .iface p v e => ifaceWrite p v (ifaceOf (beNat e)) d
  | .privetLayout w n => { d with privet.widths := (widthsOf w).getD d.privet.widths, privet.holeSpacing := n }
  | .privetActions l => l.foldl (fun (d : Drive) (p : Nat × Nat) => d.setAction p.1 (actionBits p.2)) d
  | .privetEntries .. => d
  | .privetDefaults a b m => { (d.setDefault 0 (actionBits a)).setDefault 1 (actionBits b) with privet.fwClassMask := m }
  | .privetPolicers l => l.foldl (fun (d : Drive) (p : Nat × Nat × Nat) =>
      { d with privet.policers := tmod p.1 {} (fun (x : Policer) => { x with fps := p.2.1, bps := p.2.2 }) d.privet.policers }) d
  | .sprig s dom p1 p2 => { d with time.priority := s, time.domain := dom, time.priority1 := p1, time.priority2 := p2 }
  | .ptpPort p r dl t s a dd =>
    { d with time.ptp := tmod p {} (fun (x : PtpPort) => { x with
        role := if p < 2 then r else 2, delay := dl, transport := t, logSync := s, logAnnounce := a, logDelay := dd }) d.time.ptp }
  | .twin w => { d with optf.sidebandWitness := w }
  | .security a h => { d with sec.approvedOnly := a, sec.operatorRoot := h }
  | .unknown t _ => d.event 0x045 Sev.warning [t]
  | _ => d

/-- A valid image is applied in the order of R722, its Privet entries after its actions, its ATTRIBUTE cuttings last. -/
def Drive.applyImage (i : Image) (d : Drive) : Drive :=
  let of_ := fun (lo hi : Nat) (d : Drive) =>
    (List.range (hi + 1 - lo)).foldl (fun (d : Drive) k => (i.cuttings.filter (fun c => Cutting.rank c = lo + k)).foldl Drive.applyCutting d) d
  let d := of_ 16 16 d
  let d := of_ 0 5 d
  let d := (List.range 8).foldl (fun (d : Drive) b => placeEntries b (Image.layout i).2 0 (Image.bankEntries i b) d) d
  (tryWrites (Image.attributes i) (of_ 7 12 d)).2

end Sys2Proof.Machine
end

