-- ==== Sys2Proof/Machine/Startup.lean ====
section
/-! DEFINITION. Machine/Startup.lean: the start of the drive (R671, R681, R727 to R740, Table 14.10), its restart stages (R279 to R286),
and recovery boot (R742, R743). -/

namespace Sys2Proof.Machine
open Sys2Proof

/-! ## Step 0: power, pins and time -/

/-- Sprig reads its record area (R568, R571): operating time resumes, the power cycle and the wall epoch are counted, wall time goes on
from the last one written; the UTC offset persists (Table 18.12). Answers the ns skipped. -/
def Sprig.powerUp (t : Sprig) : Nat × Sprig :=
  let at_ := t.exact.getD t.opReserved
  let y : Sprig := { opReserved := t.opReserved, savedWall := t.savedWall, powerCycles := min (t.powerCycles + 1) (2 ^ 32 - 1)
                     wallEpoch := satAdd 32 t.wallEpoch 1, utcOffset := t.utcOffset }
  let z := { y with opNs := at_, anchor := at_, wallOffset := Int.ofNat t.savedWall - Int.ofNat at_ }
  (at_ - t.exact.getD t.opNs, if at_ < z.opReserved then { z with exact := none } else z.at at_)

/-- The rails start, or the islands leave reset: pins are latched, what counts or is written from each start on has its reset value
(R567, R685, R783, R859). -/
def Drive.wakeUp (u : StartUp) (d : Drive) : Drive :=
  let cold := !d.mod.inReset
  let (skip, t) := d.time.powerUp
  let d := if cold then { d with time := t, mod.startedAt := t.opNs } else { d with mod.startedAt := d.time.opNs }
  let d := { d with
    mod.mainOn := true, mod.inReset := false, mod.devState := 0xD1, mod.slotId := u.slotId, mod.straps := u.slotId
    mod.sidebandLock := false, mod.locate := false, mod.sbDiscards := 0
    twin.partnerPresent := u.partner
    rec_ := {
      log := d.rec_.log, pinned := d.rec_.pinned, pinnedFull := d.rec_.pinnedFull, logFloor := d.rec_.logFloor
      pinFloor := d.rec_.pinFloor, savedStaging := d.rec_.savedStaging, savedEpisode := d.rec_.savedEpisode }
    media.waitThresholdUs := 200
    media.reconDenied := 0, keys.cacheMisses := 0, keys.wireLimitDrops := 0, flag.alert := false
    time.priority := 0x4000, time.trustLimitUs := 100, time.ppsOutCtl := 1, time.domain := 0, time.priority1 := 128, time.priority2 := 128
    time.ptp := ({} : Sprig).ptp
    meter.intervalS := 60, meter.newInterval := none
    jobs.select := (0, 0)
    health.tempSelect := (0, 0), health.holdupSelect := (0, 0), health.minuteMax := []
    sec.maintEnable := false, sec.svnHold := false, sec.state := 0xA0, sec.tests := 0, sec.approved := false, sec.nonapprovedUsed := false
    sec.approvedOnly := false, sec.operatorRoot := 0
    optf.busy := none, optf.queue := [], optf.waitingReads := [], optf.dl := 0xC0, optf.sidebandWitness := false
    keys.drbgError := false
    power := { changedAt := d.time.opNs, idleFrom := d.time.opNs } }
  -- at a power-up wall time is not trusted: a patrol pass is due within 48 h (R261)
  let d := if cold then { d with media.patrolFastBy := t.opNs + 172800000000000 } else d
  if cold && skip != 0 then d.event 0x3C8 Sev.warning [skip] else d

/-! ## Steps 1 to 3: images (R716, R727 to R731, R742, R743) -/

/-- A power-on test fails with the outcome ERROR before there is anything to drain (R634, R636). -/
def Drive.halt (test pair : Nat) (d : Drive) : Drive :=
  { (d.event 0x431 Sev.critical [test, pair]).raiseAlert with sec.state := 0xA2, sec.tests := clrBit test d.sec.tests, mod.devState := 0xD9 }

def BootRec.attempts (b : BootRec) (slot : Nat) : Nat := if slot = 0 then b.attemptsA else b.attemptsB
def BootRec.setAttempts (slot n : Nat) (b : BootRec) : BootRec := if slot = 0 then { b with attemptsA := n } else { b with attemptsB := n }

/-- A firmware slot qualifies (R729). -/
def Drive.fwQualifies (u : StartUp) (d : Drive) (s : Nat) : Bool :=
  decide (d.optf.boot.attempts s < 3) && !u.bad.contains (1, s) && d.findsRegion (6 + s) &&
  (match d.fwImage s with
   | some i => d.codeOk i
   | none => false)

/-- An option image is the operator's, or, while no operator key hash is held, the factory's or the first that verifies (R656, R723). -/
def Drive.optSigned (d : Drive) (i : Image) : Bool := i.sigOk && (d.operatorKeyHash == 0 || i.signer == d.operatorKeyHash)

/-- An option slot qualifies (R730). -/
def Drive.optQualifies (u : StartUp) (d : Drive) (s : Nat) : Bool :=
  !u.bad.contains (16, s) && d.findsRegion (8 + s) &&
  (match d.optImage s with
   | some i => d.optSigned i && decide (d.sec.svnMinOpt ≤ i.svn) && Image.valid i
   | none => false)

/-- The sideband operator root hash of the newest option image that verifies (R744). -/
def Drive.newestRoot (d : Drive) : Nat :=
  let good := (d.optf.optA.toList ++ d.optf.optB.toList).filter (fun i => d.optSigned i && decide (d.sec.svnMinOpt ≤ i.svn))
  let newest := good.filter (fun i => good.all (fun j => decide (j.generation ≤ i.generation)))
  (newest.findSome? (fun i => i.cuttings.findSome? (fun (c : Cutting) => match c with
    | .security _ h => some h
    | _ => none))).getD 0

/-- Recovery boot, when the recovery loader verifies (R742 to R744). -/
def Drive.recoveryBoot (u : StartUp) (cause : Nat) (d : Drive) : Drive :=
  let ok := match d.optf.recovery with
    | some i => d.codeOk i && !u.bad.contains (3, 0) && d.findsRegion 3
    | none => false
  if ok then
    ({ d with mod.devState := 0xD6, mod.recovery := some cause, sec.state := 0xA1, sec.tests := setBit 16 d.sec.tests, optf.xip := 0x92
              optf.tcmAt := d.now, sec.operatorRoot := d.newestRoot }).approvedWatch
  else d.halt 16 0

/-- The option slot to take, and whether it is taken because the other has failed twice (R730). -/
def Drive.pickOption (u : StartUp) (count : Nat) (d : Drive) : Option (Nat × Bool) :=
  let gen := fun (s : Nat) => ((d.optImage s).map (·.generation)).getD 0
  let a := d.optQualifies u 0
  let b := d.optQualifies u 1
  let best := if a && (!b || decide (gen 1 ≤ gen 0)) then some 0 else if b then some 1 else none
  match best with
  | none => none
  | some s => if count = 2 ∧ d.optf.optTried = s ∧ (if s = 0 then b else a) = true then some (1 - s, true) else some (s, false)

/-- Firmware and option image are chosen, ATTEMPT is written; none: the drive enters recovery boot for a cause. -/
def Drive.pickImages (u : StartUp) (d : Drive) : Nat ⊕ Drive :=
  let b := d.optf.boot
  if b.kind = 5 then .inl 4
  else
    let s := if d.fwQualifies u b.fwSlot then some b.fwSlot else if d.fwQualifies u (1 - b.fwSlot) then some (1 - b.fwSlot) else none
    match s with
    | none => .inl 2
    | some s =>
      let n := b.attempts s
      let opt := d.pickOption u n
      if opt.isNone ∧ d.operatorKeyHash ≠ 0 then .inl 3
      else
        let o := (opt.map (·.1)).getD 0xFF
        let fell := (opt.map (·.2)).getD false
        -- the boot loader hands over only when ATTEMPT is written (R728)
        let d := (d.bootRecord (fun b => ({ b with kind := 1, fwSlot := s, optSlot := o } : BootRec).setAttempts s (n + 1))).settleRecords
        let d := if s ≠ b.fwSlot then d.event 0x042 Sev.error [s, d.optf.boot.attemptsA, d.optf.boot.attemptsB] else d
        let d := if fell then d.event 0x043 Sev.error [o] else d
        let d := { d with
          optf.optTried := o, optf.optRunning := o
          sec.svnFrom := if s = d.optf.fwRunning then d.sec.svnFrom else d.now
          optf.fwRunning := s }
        -- the first option image that verifies names the operator's key (R656)
        let d := match d.optImage o with
          | some i => if d.sec.otp = [] ∧ i.signer ≠ Config.factoryKeyHash then { d with sec.otp := [i.signer] } else d
          | none => d
        .inr d

/-! ## Step 4: power-on self-tests (R634, Table 12.6) -/

/-- A pair that fails test 10 enters quarantine at once. -/
def failPairs : List Nat → Drive → Drive
  | [], d => d
  | p :: r, d =>
    let x := d.pair p
    let x := { x with inService := false, quarantines := x.quarantines + 1, retired := x.retired || decide (3 ≤ x.quarantines + 1) }
    let d := (d.setPair p x).event 0x401 Sev.critical []
    failPairs r (if x.retired then d.event 0x402 Sev.critical [] else d)

def Drive.selfTests (u : StartUp) (d : Drive) : Drive :=
  match (List.range 7).find? (fun i => u.fails.contains (i + 3)) with
  | some i => ({ d with sec.tests := 2 ^ (i + 3) - 1 }).halt (i + 3) 0
  | none =>
    let d := { d with holly.pairs := d.holly.pairs.map (fun (p : Nat × HollyPair) => (p.1, { p.2 with busy := false })) }
    let d := failPairs (u.pairFails.filter (fun p => decide (p < 12) && (d.pair p).inService)) { d with sec.tests := 0x3FF, holly.lastGiven := 11 }
    if d.hollyUp then
      (({ d with sec.tests := 0x1FFFF, sec.state := 0xA1, keys.root := true }).event 0x430 Sev.info [0x7FF]).approvedWatch
    else d.halt 10 0

/-! ## Step 5: keys, hold-up energy, restart stages -/

/-- A lost vault entry takes its key with it. -/
def Drive.loseVault (id : Nat) (d : Drive) : Drive :=
  let n := id % 2 ^ 20
  let d := d.vaultDel id
  match id / 2 ^ 20 with
  | 1 => { d with keys.keks := tdel n d.keys.keks }
  | 2 => { d with keys.wraps := tdel n d.keys.wraps }
  | 3 => d.setStslot n { nonce := (d.stslot n).nonce, reserved := (d.stslot n).reserved, otherHigh := (d.stslot n).otherHigh }
  | _ => d

/-- The vault is loaded (R365). -/
def loadVault (u : StartUp) : List Nat → Drive → Drive
  | [], d => d
  | id :: r, d =>
    let a := if u.vaultBad1.contains id then none else tget? id d.keys.vaultA
    let b := if u.vaultBad2.contains id then none else tget? id d.keys.vaultB
    let n := id % 2 ^ 20
    let who := [id / 2 ^ 20, if id / 2 ^ 20 = 3 then n / 2 else if id / 2 ^ 20 = 2 then n else 0]
    let d := match a, b with
      | some _, some _ => d
      | some k, none => (d.vaultPut id k).event 0x420 Sev.warning who
      | none, some k => (d.vaultPut id k).event 0x420 Sev.warning who
      | none, none => (d.loseVault id).event 0x421 Sev.critical who
    loadVault u r (match a.orElse (fun _ => b) with
      | some k => if id / 2 ^ 20 = 5 then d.setSys n { state := 0x3D, key := k } else d
      | none => d)

/-- Both root superblocks hold no root (R740). -/
def Drive.firstStart (d : Drive) : Bool := !d.media.roots.1.valid && !d.media.roots.2.valid

/-- First start: keys and the pair id are drawn, an empty checkpoint is written (R417, R740). -/
def Drive.beginFirst (d : Drive) : Drive :=
  let n := d.keys.draws
  let (id, d) := ({ d with keys.draws := n + 2 }).draw
  ({ d with kv.locatorKey := .drawn n, kv.directoryKey := .drawn (n + 1), keys.pairId := id, twin.pairId := id }).writeRoot false

/-- Used and live counts of a namespace, from the indexes (R286). -/
def Drive.recount (d : Drive) : Drive :=
  { d with kv.nss := d.kv.nss.map (fun (p : Nat × Ns) =>
      let es := d.kv.dir.filter (fun e => e.ns = p.1 ∧ e.supersede = false)
      let ls := (d.kv.live.filterMap (fun (q : Nat × Nat) => d.recAt (.media q.1 q.2))).filter (fun r => r.ns = p.1)
      let onFlash := d.mediaRecs.filter (fun x => x.2.2.ns = p.1 ∧ x.2.2.located = true ∧ x.2.2.deletion = false)
      (p.1, { p.2 with
        used := if p.2.located then (ls.map recGranules).sum else (es.map (·.granules)).sum
        count := if p.2.located then ls.length else es.length
        physical := if p.2.located then (onFlash.map (fun x => recGranules x.2.2)).sum else (es.map (·.granules)).sum })) }

/-- Storage slots resume their nonce counters 2^32 above what `last` gives, where it gives a value (R393). -/
def skipNonces (last : Nat → Option Nat) : List Nat → Drive → Drive
  | [], d => d
  | i :: r, d =>
    skipNonces last r (match last i with
      | some n =>
        let at_ := n + 2 ^ 32
        (d.setStslot i { d.stslot i with nonce := at_, reserved := at_ }).event 0x422 Sev.warning [65536 + i, at_]
      | none => d)

/-- The highest nonce counter that a record under a slot's serial carries in the drive's range (R393). -/
def topNonce (all : List (Place × Nat × Rec)) (d : Drive) (i : Nat) : Option Nat :=
  let s := d.stslot i
  let mine := (all.filter (fun (x : Place × Nat × Rec) => x.2.2.tenant = i / 2 ∧ x.2.2.serial = s.serial ∧ d.nonceStart ≤ x.2.2.nonce ∧
    x.2.2.nonce < d.nonceEnd)).map (fun (x : Place × Nat × Rec) => x.2.2.nonce)
  if s.state = 0x38 ∨ mine.isEmpty = true then none else some (mine.foldl max 0)

/-- A full rebuild (R280, R282 to R286). -/
def Drive.rebuild (u : StartUp) (d : Drive) : Drive :=
  let d := { d.event 0x151 Sev.error [] with mod.startCase := 2, mod.devState := 0xD3 }
  let all := d.mediaRecs ++ d.shelfRecs
  let active := fun (r : Rec) => (d.ns r.ns).state == 0x21
  let keyed := all.filter (fun x => x.2.2.located = false ∧ active x.2.2 = true ∧ x.2.2.gen = (d.ns x.2.2.ns).gen)
  let kept := (keepBest keyed []).filter (fun x => !x.2.2.deletion)
  let unresolved := fun (n : Nat) => !d.keyReady (d.ns n).owner false &&
    keyed.any (fun x => x.2.2.ns = n ∧ decide (1 < (keyed.filter (fun y => y.2.2.ns = n ∧ y.2.2.key = x.2.2.key)).length))
  let dead := fun (v : Nat) => all.any (fun x => x.2.2.located && x.2.2.deletion && decide (beNat x.2.2.key = v))
  let loc := d.mediaRecs.filter (fun x => x.2.2.located = true ∧ x.2.2.deletion = false ∧ active x.2.2 = true ∧ (d.ns x.2.2.ns).located = true ∧
    (d.ns x.2.2.ns).floor ≤ x.2.2.version ∧ dead x.2.2.version = false)
  let best := loc.filter (fun x => !(loc.any (fun y => y.2.2.version = x.2.2.version ∧ x.2.1 < y.2.1)))
  -- a mark stays until a PUT or DELETE of the key (R61)
  let marked := fun (r : Rec) => d.kv.dir.any (fun e => e.marked && e.ns == r.ns && e.key == r.key && e.version == r.version)
  let d := { d with
    kv.dir := kept.map (fun (x : Place × Nat × Rec) => { ns := x.2.2.ns, key := x.2.2.key, version := x.2.2.version, place := x.1,
                                                         granules := recGranules x.2.2, marked := marked x.2.2 })
    kv.live := best.filterMap (fun (x : Place × Nat × Rec) => match x.1 with
      | .media s g => some (s, g)
      | .shelf _ => none)
    kv.nss := d.kv.nss.map (fun (p : Nat × Ns) => (p.1, if unresolved p.1 then { p.2 with unresolved := true } else p.2))
    kv.fwd := if u.fwdOk then d.kv.fwd else []
    twin.resyncPoint := none }
  let d := if u.fwdOk then d else d.event 0x28B Sev.critical []
  let top := topNonce all d
  (skipNonces top (d.keys.storage.map (·.1)) d.recount).writeRoot false

/-- The flush record did not verify (R281): what the delta area holds stands; what names a record not on flash goes. -/
def Drive.flushWasLost (d : Drive) : Drive :=
  -- durable nonce reservations: the COUNTER deltas that were still undrained are lost (R393)
  let undrained := d.media.delta.map (·.2)
  let last : Nat → Option Nat := fun i =>
    let s := d.stslot i
    let first := match undrained.find? (fun x => x.kind = 8 ∧ x.tag = 3 + i) with
      | some x => x.version
      | none => s.reserved
    if s.reserved = 0 then none else some (max d.nonceStart (first - 2 ^ 24))
  let dur := d.kv.durable
  let only := (d.kv.shelf.filterMap (fun (p : Nat × ShelfRec) => p.2.target))
  let d := { d with
    kv.shelf := [], kv.tenants := dur.tenants, kv.nss := dur.nss
    media.delta := []
    media.sbs := d.media.sbs.map (fun (p : Nat × Superblock) => (p.1, { p.2 with recs := p.2.recs.filter (fun (q : Nat × Rec) => !only.contains (p.1, q.1)) }))
    health := { d.healthSaved with unsafeShutdowns := d.health.unsafeShutdowns, flushLost := satAdd 32 d.healthSaved.flushLost 1 } }
  let onFlash := fun (p : Place) => (match p with
    | .media _ _ => (d.recAt p).isSome
    | .shelf _ => false)
  let dir := dur.dir.filter (fun e => onFlash e.place)
  let live := dur.live.filter (fun q => onFlash (.media q.1 q.2))
  let d := { d with
    kv.dir := dir, kv.live := live
    kv.fwd := dur.fwd.filter (fun e => onFlash (.media e.newSb e.newGran))
    twin.resyncPoint := none }
  let d := d.loseBatches.event 0x023 Sev.critical [dur.dir.length - dir.length, dur.live.length - live.length]
  skipNonces last (d.keys.storage.map (·.1)) d.recount

/-- The pair tick goes on from the next unreserved block, or from where R872 puts it after FLUSH_LOST (R292, R294). -/
def Drive.resumeTick (lost : Bool) (d : Drive) : Drive :=
  let next := max d.twin.reservedTick (roundUp 65536 d.tick)
  let goal := if lost then max next (d.kv.durable.reservedTick - 65536 + 2 ^ 32) else next
  { d.tickTo goal with twin.reservedTick := goal }

/-- Thicket learns its base, takes back what the flush saved, and opens the log (R772 to R774, R779, R877). -/
def Drive.openLog (lost : Bool) (d : Drive) : Drive :=
  let saved := if lost then [] else d.rec_.savedStaging
  let top := ((d.rec_.log ++ d.rec_.pinned ++ saved).map (·.seq)).foldl max (max (d.rec_.logFloor - 1) (d.rec_.pinFloor - 1))
  let base := top + 1 + (if lost then 2 ^ 24 else 0)
  let first : List Event := if lost then
      [{ seq := base, opTime := d.now, cycles := d.time.powerCycles, epoch := d.time.wallEpoch, wallSec := d.wallNow / 1000000000
         wallNs := d.wallNow % 1000000000, sev := Sev.error, src := 0x7F5, payload := eventPayload none [top + 1, top + 2 ^ 24] }]
    else []
  let k := base + first.length
  let mine := d.rec_.staging.map (fun (e : Event) => { e with seq := k + e.seq - 1 })
  let d := { d with
    rec_.staging := saved ++ first ++ mine, rec_.next := k + d.rec_.next - 1, rec_.based := true, rec_.state := 0xE1
    rec_.savedStaging := [], rec_.episode := if lost then none else d.rec_.savedEpisode.orElse (fun _ => d.rec_.episode)
    rec_.savedEpisode := none
    rec_.counts := if lost then tmod 0x7F5 0 (· + 1) d.rec_.counts else d.rec_.counts }
  let d := if lost then d.raiseAlert else d
  d.closeEpisode.startFlush

/-- Jobs after a restart (R836, R849). -/
def endAtRestart : List Job → Drive → Drive
  | [], d => d
  | j :: r, d =>
    let put := fun (j' : Job) (d : Drive) => { d with jobs.table := d.jobs.table.map (fun (x : Job) => if x.id = j.id then j' else x) }
    endAtRestart r (
      if !jobLive.contains j.state then d
      else if j.kind = 0x0A ∨ j.kind = 0x06 then (put { j with state := 0xB6, endedAt := d.now } d).event 0x704 Sev.notice [j.id, 0xFF]
      else if j.kind = 0x0B then
        (if j.p0 = d.optf.fwRunning then (put { j with state := 0xB5, endedAt := d.now } { d with jobs.rollTwin := j.p1 == 1 }).event 0x703 Sev.notice [j.id]
         else (put { j with state := 0xB7, endedAt := d.now, result := St.internalError } d).event 0x705 Sev.error [j.id, St.internalError])
      else if j.state = 0xB2 then put { j with state := 0xB3, suspendedAt := d.now, suspends := j.suspends + 1 } d
      else d)

/-- Restart stages 1 to 6 (Table 5.8). -/
def Drive.restore (u : StartUp) (d : Drive) : Drive :=
  let d := { d with mod.devState := 0xD2 }
  let unclean := d.media.unclean
  let lost := unclean && !(u.flushOk && d.media.flushValid)
  let d := if unclean then { d with
      mod.startCase := 1, health.unsafeShutdowns := satAdd 32 d.health.unsafeShutdowns 1
      -- records beyond the scanned end of an open superblock are in the shelf, or lost (R279)
      media.sbs := d.media.sbs.map (fun (p : Nat × Superblock) => (p.1, if p.2.state = 2 then { p.2 with
        recs := p.2.recs.filter (fun (q : Nat × Rec) => !u.torn.contains (p.1, q.1)) } else p.2)) }
    else { d with mod.startCase := 0 }
  let d := d.resetReserve.stopClips
  let d := if d.firstStart then d.beginFirst else d
  let d := if lost then d.flushWasLost else d
  let d := if u.checkpointOk then d else d.rebuild u
  let d := d.resumeTick lost
  let d := { d with
    keys.storage := d.keys.storage.map (fun (p : Nat × StorageSlot) => (p.1, { p.2 with nonce := max p.2.nonce p.2.reserved, oldKey := none }))
    media.sbSeqNext := max d.media.sbSeqNext d.media.sbSeqReserved
    kv.dir := d.kv.dir.map (fun (e : DirEnt) => { e with pending := false }), kv.tombs := []
    media.unclean := false, media.flushValid := false, media.checkpointAt := d.now, media.reconUsed := 0
    -- the health counters that came with the flush are in force and saved again (R801)
    healthSaved := d.health }
  let d := if lost then d.meterLoss else d
  (endAtRestart d.jobs.table d).openLog lost

/-- Step 6: a paired drive joins its twin; an unpaired one goes on (R738, R317). -/
def Drive.beginJoin (d : Drive) : Drive :=
  let wit := if d.optf.sidebandWitness then 0x3E else 0x3F
  let d := { d with mod.devState := 0xD4, twin.witness := if 31 < d.twin.witness then wit else d.twin.witness }
  if d.twin.state = 0 then d else { d with twin.prior := 7, twin.state := 1, twin.joiningSince := d.now }

/-- Steps 4 to 6 of a start: self-tests, keys, restart stages, the twin. -/
def Drive.startOn (u : StartUp) (d : Drive) : Drive :=
  let d := d.selfTests u
  if d.sec.state = 0xA2 then d
  else
    let d := match d.mod.recovery with
      | some c => ({ d with mod.recovery := none }).event 0x044 Sev.critical [c]
      | none => d
    let (ring, d) := d.draw
    let d := ({ d with keys.ringRandom := ring, ring.freezeUntil := d.now + 20000000 }).newChallenge
    let ids := (d.keys.vaultA.map (·.1)) ++ ((d.keys.vaultB.map (·.1)).filter (fun i => (tget? i d.keys.vaultA).isNone))
    let n := d.keys.draws
    let d := ((loadVault u ids { d with keys.draws := n + 1 }).setSys 73735 { state := 0x3D, key := .drawn n }).ringSlots
    let d := match d.optImage d.optf.optRunning with
      | some i => d.applyImage i
      | none => d
    let d := [0, 1, 2, 3, 4].foldl (fun (d : Drive) p => if (d.prt p).enable then d.negotiate p else d) d
    let d := d.holdup u.holdupMj u.temp true
    let d := ({ d with meter.lastTick := d.now }).openInterval
    (d.restore u).ownSlots.beginJoin

/-- START: the rails start, or MRST_N or DEV.RESET lets the islands go; the steps of Table 14.10 up to the twin's handshake. -/
def startUp (u : StartUp) (d : Drive) : Drive :=
  if (d.mod.mainOn && !d.mod.inReset) || (!d.mod.mainOn && !d.mod.auxOn) || d.media.flushing || (d.mod.thermalOff && !u.cycled) then d
  else
    let d := d.wakeUp u
    if d.sec.zeroFuse then d.fuseCheck
    else
      let (accepted, d) := d.readArea u.areaOk
      let d := if accepted then d.bankRead 1 else d.event 0x041 Sev.error []
      -- the region ids of the loaders and the sideband code are their component codes (Tables 14.2 and 17.5)
      let one := fun (c : Nat) (i : Option Image) => (match i with
        | some i => d.codeOk i && !u.bad.contains (c, 0) && d.findsRegion c
        | none => false)
      if !one 2 d.optf.loader then d.recoveryBoot u 1
      else if !one 4 d.optf.sbCode then ({ d with sec.tests := 1, mod.sbFailed := true }).recoveryBoot u 1
      else match ({ d with sec.tests := 3, mod.sbFailed := false, optf.xip := 0x90, optf.sbRewritten := false }).pickImages u with
        | .inl cause => ({ d with sec.tests := 3 }).recoveryBoot u cause
        | .inr d =>
          if d.mod.thermalOff ∧ 340 ≤ u.composite then { d with mod.thermalOff := false, mod.heldStart := some u }
          else Drive.startOn u { d with mod.thermalOff := false }

/-- A start held at step 4 proceeds once the composite is below 85 °C (R769). -/
def Drive.resumeStart (d : Drive) : Drive :=
  match d.mod.heldStart with
  | some u => if d.therm.composite < 340 then Drive.startOn u { d with mod.heldStart := none } else d
  | none => d

/-- TEMP_SAMPLE: the readings (sensor, quarters of a degree) that arrive at this 10 ms instant. -/
def tempSampled (readings : List (Nat × Int)) (completes : Bool) (d : Drive) : Drive := (tempSample readings completes d).resumeStart

/-! ## Ready, and starts that fail -/

/-- A REVOCATION cutting at the first ready start of its image (R734). -/
def Drive.revokeCodeKey (index : Nat) (signedUnder : Option Nat) (d : Drive) : Drive :=
  let r := d.sec.codeKeyRevoked
  let bySigner := fun (i : Option Image) => (i.map (·.signer)) == some index
  let sigOk := match signedUnder with
    | some k => decide (k < 4) && !bit k r && k != index
    | none => false
  let other := (List.range 4).any (fun k => k != index && !bit k r)
  let used := bySigner d.optf.loader || bySigner d.optf.recovery || bySigner d.optf.sbCode || bySigner (d.fwImage d.optf.fwRunning)
  if sigOk && other && !used then ({ d with sec.codeKeyRevoked := setBit index r }).event 0x048 Sev.warning [index]
  else d.event 0x462 Sev.error [16, if sigOk then 2 else 1]

/-- What an image does at the first start with it that reaches ready (R733 to R735). -/
def Drive.imageReady (i : Image) (d : Drive) : Drive :=
  let d := if i.generation = d.optf.optReady then d
    else
      let d := i.cuttings.foldl (fun (d : Drive) c => match c with
        | .rollover h =>
          if d.sec.otp.length < 8 ∧ d.sec.otp.contains h = false then
            ({ d with sec.otp := d.sec.otp ++ [h] }).event 0x047 Sev.notice [d.sec.otp.length]
          else d
        | .revocation k s => d.revokeCodeKey k s
        | _ => d) d
      { d with optf.optReady := i.generation }
  if i.fuseSvn && decide (d.sec.svnMinOpt < i.svn) then
    ({ d with sec.svnMinOpt := min 64 i.svn }).event 0x463 Sev.notice [16, min 64 i.svn]
  else d

/-- DEVICE_READY (step 8): a paired drive that the twin has not answered within 4 s is ALONE by then (R738). -/
def deviceReady (d : Drive) : Drive :=
  if d.mod.devState ≠ 0xD4 then d
  else
    let d := if d.twin.state = 1 ∧ d.twin.prior = 7 then joiningTimeout d else d
    let d := { d with mod.devState := 0xD5 }
    let d := d.bootRecord (fun b => ({ b with kind := 2 } : BootRec).setAttempts b.fwSlot 0)
    let d := match d.optImage d.optf.optRunning with
      | some i => d.imageReady i
      | none => d
    d.event 0x040 Sev.notice [d.mod.startCase, (d.now - d.mod.startedAt) / 1000000000]

/-- The start fails (R732): the islands but Sprig and the sideband controller are reset, and no VOID is written. What the start had taken
from the flush is taken from it again. -/
def Drive.startFails (d : Drive) : Drive :=
  if d.mod.devState = 0xD4 then
    { d.islandsOff with
      mod.inReset := true, mod.devState := 0xD1, media.unclean := true, media.flushValid := true
      rec_.savedStaging := d.rec_.staging, rec_.savedEpisode := d.rec_.episode }
  -- held at step 4: nothing was taken yet
  else if d.mod.heldStart.isSome then { d.islandsOff with mod.inReset := true }
  else d

/-- START_TIMEOUT: 15 minutes since the rails started. -/
def startTimeout (d : Drive) : Drive :=
  if d.mod.devState = 0xD4 ∨ d.mod.heldStart.isSome = true then (d.advanceTo (d.mod.startedAt + 900000000000)).startFails else d

def execTempSample (readings : List (Nat × Int)) (completes : Bool) (s : State) : Host.Outcome State Fault Refusal := s.onRails (tempSampled readings completes)
def execStart (u : StartUp) (s : State) : Host.Outcome State Fault Refusal := .next { s with dev := startUp u s.dev }
def execDeviceReady (s : State) : Host.Outcome State Fault Refusal := s.onMain deviceReady
def execStartTimeout (s : State) : Host.Outcome State Fault Refusal := s.onRails startTimeout
def execClusterFault (s : State) : Host.Outcome State Fault Refusal := s.onRails Drive.startFails

end Sys2Proof.Machine
end

