-- ==== Sys2Proof/Machine/Jobs.lean ====
section
/-! DEFINITION. Machine/Jobs.lean: long jobs (R827 to R836): starting, suspending, resuming, cancelling and reporting them, and the writes
that jobs make. -/

namespace Sys2Proof.Machine
open Sys2Proof

/-! ## Starting a job (R825, R829, R831) -/

/-- The kinds that carry a namespace. -/
def nsKinds : List Nat := [0x03, 0x04, 0x07, 0x08, 0x09]

/-- The parameters of a kind (Table 17.9), in p0 and p1; none where they are malformed. -/
def jobParams (kind : Nat) (b : Bytes) : Option (Nat × Nat) :=
  let f := fun (off n : Nat) => field off n b
  let two := fun (ok : Bool) (p : Nat × Nat) => if ok && b.length == 8 then some p else none
  match kind with
  | 0x01 => two ((decide (f 0 2 < 32768) && f 2 2 == 0 || f 0 2 == 0xFFFF) && f 4 4 == 0) (f 0 2, f 2 2)
  | 0x05 => two (decide (f 0 1 < 32) && decide (f 1 1 < 16) && f 2 6 == 0) (f 0 1, f 1 1)
  | 0x06 => two (decide (f 0 1 < 2) && f 1 7 == 0) (f 0 1, 0)
  | 0x07 => two (decide (f 0 1 < 32) && decide (f 1 1 < 32) && f 2 6 == 0) (f 0 1, f 1 1)
  | 0x08 => two (decide (f 0 2 < 16384) && f 2 6 == 0) (f 0 2, 0)
  | 0x09 => two (decide (f 0 2 < 16384) && (f 2 1 == 1 || f 2 1 == 2) && f 3 5 == 0) (f 0 2, f 2 1)
  | _ => if b.length = 0 then some (0, 0) else none

/-- Namespaces a job names: its own, and the operator namespace of an export or import. -/
def Job.names (j : Job) : List Nat :=
  if !nsKinds.contains j.kind then [] else if j.kind = 0x08 ∨ j.kind = 0x09 then [j.ns, j.p0] else [j.ns]

/-- The die a job names (R198). -/
def Job.die (j : Job) : Option Nat := if j.kind = 0x05 then some (32 * j.p1 + j.p0) else none

/-- The live job that stands in the way of a start (R831). -/
def Drive.jobInTheWay (d : Drive) (j : Job) : Option Job :=
  d.jobs.table.find? (fun x => jobLive.contains x.state && (
    x.names.any (fun n => j.names.contains n) || (j.die.isSome && x.die == j.die) ||
    (x.kind == j.kind && [0x01, 0x02, 0x06, 0x0A].contains j.kind)))

/-- The state codes that refuse a start for its namespaces or for what it acts on: code and page. -/
def Drive.jobStateFault (d : Drive) (j : Job) : Option (Nat × Nat) :=
  let gone := fun (n : Nat) => (d.ns n).state == 0x23 || (d.ns n).state == 0x24
  match j.names.find? gone with
  | some n => some ((d.ns n).state, 0xFF)
  | none =>
    if j.kind = 0x03 ∧ (d.ns j.ns).state = 0x22 then some (0x22, 0xFF)
    else if j.kind = 0x09 ∧ ((d.ns j.ns).state ≠ 0x21 ∨ (d.ns j.ns).located = true ∨ d.kv.dir.any (fun e => e.ns == j.ns) = true) then
      some ((d.ns j.ns).state, 0xFF)
    else if j.kind = 0x07 ∧ d.reaches j.p0 = false then some (d.ringState, 0x07)
    else if j.kind = 0x06 ∧ !((d.twin.state == 3 || d.twin.state == 5) && d.twin.linkUp && d.twin.authenticated) then some (d.twin.state, 0x06)
    else none

/-- The statuses of the kinds themselves: a key that is not there. -/
def Drive.jobKeyFault (d : Drive) (j : Job) : Bool :=
  let owner := (d.ns j.ns).owner
  match j.kind with
  | 0x04 => (d.slotIn owner 0x39).isNone
  | 0x08 => (d.sysSlot 73733).state == 0x3C
  | 0x09 => (d.slotIn owner 0x39).isNone || (d.sysSlot (if j.p1 = 2 then 73734 else 73733)).state == 0x3C
  | _ => false

/-- JOB_START (0x30) of one kind. -/
def jobStart (kind : Nat) (o : Origin) (d : Drive) : Drive :=
  d.withReq o [0x30] fun r d =>
    let k := r.hdr.flags
    let keyed := nsKinds.contains k
    if k = 0 ∨ 10 < k ∨ (k = 0x07 ∧ (d.ns r.hdr.ns).located = true) then d.refuse r St.unsupported
    else if k ≠ kind then d
    else if d.roleOf o ≠ 1 then d.refuse r St.notPermitted
    else
      let params := if r.hdr.valueLen = r.body.length ∧ r.hdr.keyLen = 0 ∧ (keyed = true ∨ r.hdr.ns = 0) then jobParams k r.body else none
      if k = 0x09 ∧ d.sec.approvedOnly = true ∧ params.map (·.2) = some 2 then d.refuse r St.notPermitted
      else match params with
      | none => d.refuse r St.malformed
      | some (p0, p1) =>
        let j : Job := { id := 0, kind := k, starter := o.channel, ns := r.hdr.ns, p0 := p0, p1 := p1, channel := o.channel }
        if j.names.any (fun n => (d.ns n).state == 0x20) then d.refuse r St.notFound
        else match d.jobStateFault j with
        | some (c, p) => d.conflict r c p
        | none =>
          match d.jobInTheWay j with
          | some x => d.refuse r St.stateConflict (offset := conflictOffset x.state 0x0F + x.id)
          | none =>
            if k = 0x03 ∧ d.canChange = false then d.refuse r St.twinUnavailable
            else if d.jobKeyFault j then d.refuse r St.keyRevoked
            else match d.startJob j false with
            | none => d.conflict r 0xBF 0x0F
            | some (id, d) => (d.reply o { echo r.hdr with offset := id } []).approvedWatch

/-- A die stops answering: what reads it still has are reconstructed, and the drive retires it (R257, R827). A retirement under way goes
on, and can no longer be cancelled. -/
def dieUnresponsive (die : Nat) (d : Drive) : Drive :=
  if 512 ≤ die ∨ d.dieGone die = true then d
  else
    let mine := d.media.reads.filter (fun (x : ReadJob) => x.die = die ∧ x.mode ≠ 1)
    let d := loseDie mine { d with
      media.silentDies := die :: d.media.silentDies
      media.reads := d.media.reads.filter (fun (x : ReadJob) => x.die ≠ die ∨ x.mode = 1) }
    match d.jobs.table.find? (fun x => jobLive.contains x.state && x.die == some die) with
    | some j => d.putJob { j with p2 := 1 }
    | none => match d.startJob { id := 0, kind := 0x05, starter := 2, p0 := die % 32, p1 := die / 32, p2 := 1 } true with
      | some (_, d) => d
      | none => d

/-! ## Suspending, resuming, cancelling (R832, R833) -/

/-- STATE_CONFLICT of a job operation (R826, R829). -/
def Drive.jobConflict (r : Req) (code : Nat) (j : Job) (d : Drive) : Drive :=
  d.refuse r St.stateConflict (offset := conflictOffset code 0x0F + j.id)

/-- An operation that names a job in offset[15:0]. -/
def jobOp (opcode : Nat) (o : Origin) (f : Req → Job → Drive → Drive) (d : Drive) : Drive :=
  d.withReq o [opcode] fun r d =>
    let id := r.hdr.offset % 65536
    if d.roleOf o ≠ 1 then d.refuse r St.notPermitted
    else match d.job? id with
      | none => d.refuse r St.jobUnknown (offset := id)
      | some j => f r j d

/-- The reply of a job operation (R829). -/
def Drive.jobReply (r : Req) (j : Job) (d : Drive) : Drive := d.reply r.origin { echo r.hdr with offset := j.id } []

/-- A migration in its cutover (R359). -/
def Drive.inCutover (d : Drive) (j : Job) : Bool := d.ring.migrations.any (fun m => m.source && m.job == j.id && m.phase == 3)

/-- A job reaches SUSPENDED. -/
def Drive.suspended (j : Job) (d : Drive) : Drive :=
  ((d.putJob { j with state := 0xB3, suspends := j.suspends + 1, suspendedAt := d.now, longTold := 0 }).event 0x701 Sev.info [j.id, j.channel]).wasBusy

/-- The time a suspension lasted is added. -/
def Job.unsuspend (now : Nat) (j : Job) : Job := if j.state = 0xB3 then { j with suspendedNs := j.suspendedNs + (now - j.suspendedAt) } else j

/-- JOB_SUSPEND. -/
def jobSuspend (o : Origin) (d : Drive) : Drive :=
  jobOp 0x31 o (fun r j d =>
    let j' := { j with channel := o.channel }
    if j.kind = 0x0B ∧ jobLive.contains j.state = true then d.jobConflict r 0xB1 j
    else if j.state = 0xB0 then (d.suspended j').jobReply r j
    else if j.state = 0xB1 ∧ d.inCutover j = false then (d.putJob { j' with state := 0xB2 }).jobReply r j
    else d.jobConflict r j.state j) d

/-- JOB_RESUME: RUNNING where a place is free, else QUEUED (R830). -/
def jobResume (o : Origin) (d : Drive) : Drive :=
  jobOp 0x32 o (fun r j d =>
    if j.state = 0xB2 ∨ j.state = 0xB3 then
      let j' := { j.unsuspend d.now with state := if d.running < 8 then 0xB1 else 0xB0, channel := o.channel }
      (((d.putJob j').event 0x702 Sev.info [j.id, o.channel]).jobReply r j).approvedWatch
    else d.jobConflict r j.state j) d

/-- A job that may no longer be cancelled: a roll whose first cluster has restarted, a migration in cutover, the retirement of a die that
does not answer (Table 17.9). -/
def Drive.mustFinish (d : Drive) (j : Job) : Bool :=
  (j.kind == 0x0B && !d.jobs.newClusters.isEmpty) || (j.kind == 0x07 && d.inCutover j) || (j.kind == 0x05 && j.p2 == 1)

/-- JOB_CANCEL. -/
def jobCancel (o : Origin) (d : Drive) : Drive :=
  jobOp 0x33 o (fun r j d =>
    if [0xB0, 0xB1, 0xB2, 0xB3].contains j.state then
      if d.mustFinish j then d.jobConflict r 0xB1 j
      else ((d.putJob { j.unsuspend d.now with state := 0xB4, channel := o.channel }).jobReply r j).approvedWatch
    else d.jobConflict r j.state j) d

/-- JOB_STATUS of one job, or of all from an id on (R834). -/
def jobStatus (o : Origin) (d : Drive) : Drive :=
  d.withReq o [0x34] fun r d =>
    let id := r.hdr.offset % 65536
    let start := bits 31 16 r.hdr.offset
    if d.roleOf o ≠ 1 then d.refuse r St.notPermitted
    else if id = 0 then
      let ids := ((d.jobs.table.map (·.id)).filter (fun i => start ≤ i)).foldr insertAsc []
      let body := ((ids.take 64).map (fun i => match d.job? i with | some j => beBytes 32 (d.jobRecord j) | none => [])).flatten
      let next := ((ids.drop 64).head?).getD 0
      d.reply o { echo r.hdr with valueLen := body.length, flags := 8 * b2n (decide (64 < ids.length)), offset := next * 65536 } body
    else match d.job? id with
      | none => d.refuse r St.jobUnknown (offset := id)
      | some j =>
        d.reply o { echo r.hdr with valueLen := 32, flags := 16 * b2n (j.kind == 0x09 && j.p1 == 2), offset := id } (beBytes 32 (d.jobRecord j))

/-- JOB_ENTRY_EXPIRY: an ended entry goes after 24 h of operating time (R828). -/
def hours24 : Nat := 86400 * 1000000000

def jobEntryExpiry (id : Nat) (d : Drive) : Drive :=
  match d.job? id with
  | none => d
  | some j =>
    if jobLive.contains j.state then d
    else { d.advanceTo (j.endedAt + hours24) with jobs.table := d.jobs.table.filter (fun (x : Job) => x.id ≠ id) }

/-- JOB_SUSPENDED_LONG: another 24 h of suspension (R833). -/
def jobSuspendedLong (id : Nat) (d : Drive) : Drive :=
  match d.job? id with
  | none => d
  | some j =>
    if j.state ≠ 0xB3 then d
    else
      let n := j.longTold + 1
      ((d.advanceTo (j.suspendedAt + n * hours24)).putJob { j with longTold := n }).event 0x706 Sev.info [id, 24 * n]

/-! ## Records that jobs and migrations write -/

/-- A record enters at a version of its own: shelf, directory, accounting, and the mirror of the twin (R357, R358, R838); not when the key
already has a higher version. -/
def Drive.enterRec (r : Rec) (d : Drive) : Drive :=
  if d.kv.dir.any (fun e => e.ns == r.ns && e.key == r.key && decide (r.version < e.version)) then d
  else
    let ns := d.ns r.ns
    let mir := d.mirrors ns
    let (old, d) := d.applyRec r mir none
    let d := d.modNs r.ns (fun n => { n with used := n.used - old })
    let d := d.noteChanges [r]
    if !mir then d
    else
      let (id, d) := d.newOpId
      d.twinOp { opId := id, key := some (r.ns, r.key), msg := { code := 0x10, opId := id, version := r.version, aux := d.media.deltaNext, body := .mirror [r] } }

/-- A record brought from another pair is sealed anew for the namespace here and enters through the hedgerow input at its version, above
which the pair tick is raised first (R357, R358). Answers the status of a failure. -/
def Drive.bringIn (ns : Nat) (x : Rec) (d : Drive) : Option Nat × Drive :=
  let n := d.ns ns
  match (if x.deletion then (none, d) else d.roomFor ns x.key (recGranules x) ((d.find? ns x.key).isNone)) with
  | (some st, d) => (some st, d)
  | (none, d) =>
    match d.drawNonce n.owner with
    | none => (some St.keyRevoked, d)
    | some ((serial, nonce), d) =>
      let d := d.raiseTick x.version
      (none, d.enterRec { ns := ns, tenant := n.owner, key := x.key, value := x.value, version := x.version, gen := n.gen, serial := serial, nonce := nonce,
                          sealedBy := d.nsKey n.owner serial ns n.gen, deletion := x.deletion })

/-- The shelf, the delta log and, where there is a twin, its link take a write. -/
def Drive.takesWrite (d : Drive) : Bool := d.canShelve && d.canTell && d.canAssign

/-- A value the drive itself writes to an operator namespace, under a new version: at its home, or sent there as any write is (R306, R837). -/
def Drive.writeOwn (ns : Nat) (key value : Bytes) (d : Drive) : Option Nat × Drive :=
  let n := d.ns ns
  match d.roomFor ns key (granules key.length value.length) ((d.find? ns key).isNone) with
  | (some st, d) => (some st, d)
  | (none, d) =>
    match d.route n (d.isHome ns key) true with
    | .unavailable => (some St.twinUnavailable, d)
    | .forward =>
      let (id, d) := d.newOpId
      let h : OpHdr := { opcode := 0x02, tenant := n.owner, ns := ns, keyLen := key.length, valueLen := value.length }
      (none, d.twinOp { opId := id, msg := { code := 0x01, opId := id, aux := 2 ^ 64 - 1, body := .write { tenant := n.owner, ns := ns } h (key ++ value) } })
    | .here =>
      match d.drawNonce n.owner with
      | none => (some St.keyRevoked, d)
      | some ((serial, nonce), d) =>
        let (v, d) := d.assign 3
        (none, d.enterRec { ns := ns, tenant := n.owner, key := key, value := value, version := v, gen := n.gen, serial := serial, nonce := nonce,
                              sealedBy := d.nsKey n.owner serial ns n.gen })

def execClipForce (o : Origin) (s : State) : Host.Outcome State Fault Refusal := s.onMain (jobStart 0x01 o)
def execPatrolFull (o : Origin) (s : State) : Host.Outcome State Fault Refusal := s.onMain (jobStart 0x02 o)
def execNsSanitize (o : Origin) (s : State) : Host.Outcome State Fault Refusal := s.onMain (jobStart 0x03 o)
def execNsRekey (o : Origin) (s : State) : Host.Outcome State Fault Refusal := s.onMain (jobStart 0x04 o)
def execDieRetire (o : Origin) (s : State) : Host.Outcome State Fault Refusal := s.onMain (jobStart 0x05 o)
def execDieUnresponsive (die : Nat) (s : State) : Host.Outcome State Fault Refusal := s.onMain (dieUnresponsive die)
def execTwinResync (o : Origin) (s : State) : Host.Outcome State Fault Refusal := s.onMain (jobStart 0x06 o)
def execNsMigrate (o : Origin) (s : State) : Host.Outcome State Fault Refusal := s.onMain (jobStart 0x07 o)
def execNsExport (o : Origin) (s : State) : Host.Outcome State Fault Refusal := s.onMain (jobStart 0x08 o)
def execNsImport (o : Origin) (s : State) : Host.Outcome State Fault Refusal := s.onMain (jobStart 0x09 o)
def execSelftestExt (o : Origin) (s : State) : Host.Outcome State Fault Refusal := s.onMain (jobStart 0x0A o)
def execJobSuspend (o : Origin) (s : State) : Host.Outcome State Fault Refusal := s.onMain (jobSuspend o)
def execJobResume (o : Origin) (s : State) : Host.Outcome State Fault Refusal := s.onMain (jobResume o)
def execJobCancel (o : Origin) (s : State) : Host.Outcome State Fault Refusal := s.onMain (jobCancel o)
def execJobStatus (o : Origin) (s : State) : Host.Outcome State Fault Refusal := s.onMain (jobStatus o)
def execJobDequeue (s : State) : Host.Outcome State Fault Refusal := s.onMain (fun d => d.dequeue.approvedWatch)
def execJobEntryExpiry (id : Nat) (s : State) : Host.Outcome State Fault Refusal := s.onMain (jobEntryExpiry id)
def execJobSuspendedLong (id : Nat) (s : State) : Host.Outcome State Fault Refusal := s.onMain (jobSuspendedLong id)

end Sys2Proof.Machine
end

