-- ==== Sys2Proof/Machine/Migrate.lean ====
section
/-! DEFINITION. Machine/Migrate.lean: live migration of a namespace between pairs (R356 to R360): what the source's job does in a step, and
MIGRATE_DATA and MIGRATE_CTL (log entry 21). -/

namespace Sys2Proof.Machine
open Sys2Proof

/-- A control message about a namespace and the source's job. -/
def Drive.sendMigrateCtl (dest ns job : Nat) (c : MigrateCtl) (d : Drive) : Drive :=
  let args := match c with
    | .start owner quota solo soloWrites serial younger => [1, owner, quota, b2n solo, b2n soloWrites, serial, younger]
    | .ready gen => [2, gen]
    | .refused st => [3, st]
    | .finish => [4]
    | .finished => [5]
    | .abort => [6]
  d.ringSend 0x31 dest 3 ([ns, job] ++ args) []

/-- The migration of a job at its source. -/
def Drive.migration (d : Drive) (job : Nat) : Option Migration := d.ring.migrations.find? (fun m => m.source && m.job == job)

def Drive.putMigration (m : Migration) (d : Drive) : Drive :=
  { d with ring.migrations := d.ring.migrations.map (fun (x : Migration) => if x.source = m.source ∧ x.job = m.job ∧ x.ns = m.ns then m else x) }

def Drive.dropMigration (m : Migration) (d : Drive) : Drive :=
  { d with ring.migrations := d.ring.migrations.filter (fun (x : Migration) => !(x.source == m.source && x.job == m.job && x.ns == m.ns)) }

/-- The record of the latest deletion of a key, where the drive still holds it; else one at the sequencer's latest version. -/
def Drive.deletionOf (d : Drive) (ns : Nat) (key : Bytes) (above : Nat) : Rec :=
  let dels := (d.shelfRecs ++ d.mediaRecs).map (·.2.2) |>.filter (fun r => r.deletion && r.ns == ns && r.key == key && decide (above < r.version))
  match dels with
  | r :: _ => r
  | [] => { ns := ns, tenant := 0, key := key, value := [], version := d.kv.lastVersion, gen := 0, serial := 0, nonce := 0, deletion := true }

/-- The next record to send: a live one not yet sent at its version, else a deletion of one that was sent (Table of R359: copy, catch-up). -/
def Drive.nextToSend (d : Drive) (m : Migration) : Option Rec :=
  let live := d.kv.dir.filter (fun e => e.ns == m.ns)
  match live.find? (fun e => !m.sent.contains (e.key, e.version)) with
  | some e => d.recAt e.place
  | none => (m.sent.find? (fun p => !live.any (fun e => e.key == p.1))).map (fun p => d.deletionOf m.ns p.1 p.2)

/-- A record goes to the destination in clear under the hedgerow's protection (R357); what was sent of its key before is superseded. -/
def Drive.sendRecord (m : Migration) (r : Rec) (d : Drive) : Drive :=
  let rest := m.sent.filter (fun p => p.1 ≠ r.key)
  let d := d.putMigration { m with sent := if r.deletion then rest else rest ++ [(r.key, r.version)] }
  d.ringSend 0x30 m.destElder 3 [m.ns, m.job, r.version, r.key.length, b2n r.deletion] (r.key ++ r.value)

/-- A namespace is deleted at both drives of this pair (R140, R155). -/
def Drive.deletePair (ns : Nat) (d : Drive) : Drive :=
  let d := d.applyChange (.nsDelete ns)
  let (seq, d) := d.sendChange (.nsDelete ns)
  d.delta { kind := 0, ns := ns, version := seq }

/-- One step of NS_MIGRATE at the source. -/
def migrateStep (j : Job) (d : Drive) : Option Nat × Job × Drive :=
  match d.migration j.id with
  | none =>
    let ns := d.ns j.ns
    match d.slotIn ns.owner 0x39 with
    | none => (some St.keyRevoked, j, d)
    | some i =>
      let m : Migration := { ns := j.ns, job := j.id, source := true, phase := 0, destElder := j.p0, destYounger := j.p1 }
      let d := { d with ring.migrations := d.ring.migrations ++ [m] }
      (none, j, d.sendMigrateCtl j.p0 j.ns j.id (.start ns.owner ns.quota ns.solo ns.soloWrites (d.stslot i).serial j.p1))
  | some m =>
    if m.phase = 0 ∨ m.phase = 3 then (none, j, d)
    else match d.nextToSend m with
      | some r => (none, { j with done_ := j.done_ + 1 }, d.sendRecord m r)
      | none =>
        if m.phase = 1 then (none, j, d.putMigration { m with phase := 2 })
        else
          -- cutover: writes are held, and the destination is asked to finish
          let d := (d.putMigration { m with phase := 3 }).modNs m.ns (fun n => { n with cutover := true })
          (none, j, d.sendMigrateCtl m.destElder m.ns m.job .finish)

/-- A cancelled migration: the destination deletes its copy (Table 17.9). -/
def migrateCancel (j : Job) (d : Drive) : Drive :=
  match d.migration j.id with
  | none => d
  | some m => (d.dropMigration m).sendMigrateCtl m.destElder m.ns m.job .abort

/-- The body of a MIGRATED notice (Table 6.15). -/
def migratedBody (m : Migration) : Bytes := beBytes 8 (m.ns * 2 ^ 48 + m.destElder * 2 ^ 43 + m.destYounger * 2 ^ 38 + m.destGen)

/-- The destination holds everything: the source deletes the namespace, and tells its owner (R359, R360). -/
def Drive.endMigration (m : Migration) (d : Drive) : Drive :=
  let owner := (d.ns m.ns).owner
  let sids := (d.xp.sessions.filter (fun (p : Nat × Session) => p.2.state ≠ 0x40 ∧ (p.1 = 0 ∨ p.2.tenant = owner))).map (·.1)
  let d := ((d.dropMigration m).modNs m.ns (fun n => { n with cutover := false })).deletePair m.ns
  let d := sids.foldl (fun (d : Drive) sid => d.notice sid { kind := 4, ns := m.ns, body := migratedBody m }) d
  let d := d.event 0x544 Sev.notice []
  match d.job? m.job with
  | some j => d.endJob j 0
  | none => d

/-- The destination's answer to a start (R356): the namespace under the same id, with a generation of its own. -/
def migrateStart (src ns job owner quota : Nat) (solo soloWrites : Bool) (serial younger : Nat) (d : Drive) : Drive :=
  let n := d.ns ns
  if d.ring.migrations.any (fun m => !m.source && m.ns == ns && m.job == job && m.destElder == src) then d.sendMigrateCtl src ns job (.ready n.gen)
  else
    let fault := firstFail [
      (d.tenantExists owner, St.notFound),
      (n.state != 0x21 && n.state != 0x22, St.alreadyExists),
      (n.state == 0x20, St.stateConflict),
      (d.canChange, St.twinUnavailable),
      ((d.slotOfSerial owner serial).isSome && (d.slotIn owner 0x39).isSome, St.keyRevoked)]
    match fault with
    | some st => d.sendMigrateCtl src ns job (.refused st)
    | none =>
      let gen := max n.gen n.topGen + 1
      let c : TableChange := .nsCreate ns owner false solo soloWrites gen quota
      let d := d.applyChange c
      let (seq, d) := d.sendChange c
      let d := d.delta { kind := 0, ns := ns, version := seq }
      let m : Migration := { ns := ns, job := job, source := false, phase := 1, destElder := src, destYounger := younger, destGen := gen }
      let d := { d with ring.migrations := d.ring.migrations ++ [m] }
      d.sendMigrateCtl src ns job (.ready gen)

/-- A migration control message arrives (R359, R360). -/
def migrateCtl (src seq ns job : Nat) (c : MigrateCtl) (d : Drive) : Drive :=
  d.fromRing src seq (fun d =>
    let mine := (d.migration job).filter (fun m => m.ns == ns && m.destElder == src)
    let theirs := d.ring.migrations.find? (fun m => !m.source && m.ns == ns && m.job == job && m.destElder == src)
    match c with
    | .start owner quota solo soloWrites serial younger => migrateStart src ns job owner quota solo soloWrites serial younger d
    | .ready gen => match mine with
      | some m => if m.phase = 0 then d.putMigration { m with phase := 1, destGen := gen } else d
      | none => d
    | .refused st => match mine with
      | some m =>
        let d := (d.dropMigration m).modNs ns (fun n => { n with cutover := false })
        match d.job? job with
        | some j => if jobLive.contains j.state then d.endJob j st else d
        | none => d
      | none => d
    | .finish => match theirs with
      | some m => (d.dropMigration m).sendMigrateCtl src ns job .finished
      | none => d
    | .finished => match mine with
      | some m => if m.phase = 3 then d.endMigration m else d
      | none => d
    | .abort => match theirs with
      | some m => (d.dropMigration m).deletePair ns
      | none => d)

/-- Migrated records are sealed again and enter (R357, R358). A record that cannot be taken ends the migration. -/
def migrateRecs (src ns job : Nat) : List Rec → Drive → Drive
  | [], d => d
  | r :: rs, d =>
    match d.bringIn ns r with
    | (none, d) => migrateRecs src ns job rs d
    | (some st, d) => d.sendMigrateCtl src ns job (.refused st)

/-- MIGRATE_DATA. -/
def migrateData (src seq ns job : Nat) (recs : List Rec) (d : Drive) : Drive :=
  d.fromRing src seq (fun d =>
    if d.ring.migrations.any (fun m => !m.source && m.ns == ns && m.job == job && m.destElder == src) then migrateRecs src ns job recs d.awaken else d)

def execMigrateData (src seq ns job : Nat) (recs : List Rec) (s : State) : Host.Outcome State Fault Refusal := s.onMain (migrateData src seq ns job recs)
def execMigrateCtl (src seq ns job : Nat) (c : MigrateCtl) (s : State) : Host.Outcome State Fault Refusal := s.onMain (migrateCtl src seq ns job c)

end Sys2Proof.Machine
end

