-- ==== Sys2Proof/Machine/JobSteps.lean ====
section
/-! DEFINITION. Machine/JobSteps.lean: JOB_STEP: what one step of each job kind does, and what a cancelled job leaves (Table 17.9). Each step
answers how the job ends, if it ends here (OK or a status), the job, and the drive. -/

namespace Sys2Proof.Machine
open Sys2Proof

abbrev StepOut := Option Nat × Job × Drive

/-- CLIP_FORCE: the victim's copies go on; then the next victim, until the job's superblock is done or its count is reached. -/
def clipStep (j : Job) (x : StepIn) (d : Drive) : StepOut :=
  let clip := fun (n : Nat) (d : Drive) => (none, { j with todo := [n], p2 := 1, done_ := j.done_ + 1 }, d.beginClip n false x.bad)
  let next := fun (d : Drive) =>
    if j.p0 ≠ 0xFFFF then
      (if j.p2 = 0 ∧ d.clippable j.p0 = true then clip j.p0 d else (some St.ok, j, d))
    else if j.p1 ≤ d.qlcFree then (some St.ok, j, d)
    else match d.victim with
      | some n => clip n d
      | none => (some St.ok, j, d)
  match j.todo with
  | n :: _ => if d.media.clips.any (fun c => c.sb == n) then (none, { j with done_ := j.done_ + 1 }, d.advanceMedia) else next d
  | [] => next d

/-- A cancelled CLIP_FORCE: its victim is CLOSED again; what moved stays moved. -/
def clipCancel (j : Job) (d : Drive) : Drive :=
  match j.todo with
  | n :: _ =>
    if d.media.clips.any (fun c => c.sb == n) then
      { d with media.clips := d.media.clips.filter (fun (c : Clip) => c.sb ≠ n) }.sbState n 3
    else d
  | [] => d

/-- PATROL_FULL: one superblock (R258). -/
def patrolStep (j : Job) (x : StepIn) (d : Drive) : StepOut :=
  let all := (d.media.sbs.filter (fun (p : Nat × Superblock) => p.2.state == 3 || p.2.state == 4 || (p.2.slc && p.2.state == 2))).map (·.1)
  let todo := if j.p2 = 0 then all else j.todo
  match todo with
  | [] => (some St.ok, j, d)
  | n :: r => (none, { j with p2 := 1, todo := r, done_ := j.done_ + 1, total := j.done_ + todo.length }, patrolVisit n x.cws d)

/-- A superblock or shelf record of the namespace is of an earlier generation. -/
def Drive.oldBlocks (d : Drive) (ns : Nat) : List Nat :=
  (d.media.sbs.filter (fun (p : Nat × Superblock) => p.2.recs.any (fun q => q.2.ns == ns && decide (q.2.gen < (d.ns ns).gen)))).map (·.1)

/-- NS_SANITIZE: the generation raise, then the copies and erases of the superblocks that hold records of earlier generations. -/
def sanitizeStep (j : Job) (x : StepIn) (d : Drive) : StepOut :=
  if j.p2 = 0 then
    if !(d.canChange && d.canTell) then (none, j, d)
    else
      let c : TableChange := .nsRaise j.ns ((d.ns j.ns).gen + 1) d.pairVersion true
      let (seq, d) := (d.applyChange c).sendChange c
      (none, { j with p2 := 1, done_ := 1 }, d.delta { kind := 0, ns := j.ns, version := seq })
  else if (d.ns j.ns).state = 0x22 ∨ d.kv.shelf.any (fun p => p.2.rec_.ns == j.ns && decide (p.2.rec_.gen < (d.ns j.ns).gen)) = true then (none, j, d)
  else match d.oldBlocks j.ns with
    | [] => (some St.ok, j, d)
    | n :: r =>
      let j := { j with done_ := j.done_ + 1, total := j.done_ + 1 + r.length }
      match (n :: r).find? (fun b => (d.sb b).state == 2 || (d.sb b).state == 3) with
      | none => (none, j, d.advanceMedia)
      | some b =>
        let d := d.modSb b (fun s => if s.state = 2 then { s with state := 3, closedAt := d.now, visitedAt := d.now } else s)
        (none, j, d.beginClip b false x.bad)

/-- A live record of the namespace that does not bear the CURRENT serial. -/
def Drive.toReseal (d : Drive) (ns serial : Nat) : Option (Place × Rec) :=
  let old := fun (p : Place) => (d.recAt p).bind (fun r => if r.ns = ns ∧ r.serial ≠ serial then some (p, r) else none)
  match d.kv.dir.findSome? (fun e => if e.ns = ns ∧ e.marked = false then old e.place else none) with
  | some p => some p
  | none => d.kv.live.findSome? (fun q => old (.media q.1 q.2))

/-- The mirror of a record that the drive rewrites at its version (Table 17.9). -/
def Drive.mirrorOwn (r : Rec) (d : Drive) : Drive :=
  if !d.mirrors (d.ns r.ns) then d
  else
    let (id, d) := d.newOpId
    d.twinOp { opId := id, msg := { code := 0x10, opId := id, version := r.version, aux := d.media.deltaNext, body := .mirror [r] } }

/-- NS_REKEY: one record read, sealed again under the CURRENT slot at its version, and put in the CLIP stream. -/
def rekeyStep (j : Job) (x : StepIn) (d : Drive) : StepOut :=
  let owner := (d.ns j.ns).owner
  match d.slotIn owner 0x39 with
  | none => (some St.keyRevoked, j, d)
  | some i =>
    match d.toReseal j.ns (d.stslot i).serial with
    | none => (some St.ok, j, d)
    | some (p, r) =>
      let j' := { j with done_ := j.done_ + 1 }
      if (d.slotOfSerial owner r.serial).isNone then (some St.keyRevoked, j, d)
      else if !d.mirrorRoom (.session 0 0) (d.ns j.ns) then (none, j, d)
      else match p with
      | .shelf idx =>
        match d.drawNonce owner with
        | none => (some St.keyRevoked, j, d)
        | some ((serial, nonce), d) =>
          let r' := { r with serial := serial, nonce := nonce, sealedBy := d.nsKey owner serial r.ns r.gen }
          let put := fun (s : ShelfRec) => { s with rec_ := r' }
          (none, j', ({ d with kv.shelf := d.kv.shelf.map (fun (q : Nat × ShelfRec) => if q.1 = idx then (q.1, put q.2) else q) }).mirrorOwn r')
      | .media sb gran =>
        if !x.ok then (none, j', markBad sb [(gran, r)] d)
        else match d.allocate 0x02 false (recGranules r) with
        | none => (none, j, d)
        | some ((sb', gran'), d') =>
          match d'.drawNonce owner with
          | none => (some St.keyRevoked, j, d)
          | some ((serial, nonce), d) =>
            let r' := { r with serial := serial, nonce := nonce, sealedBy := d.nsKey owner serial r.ns r.gen }
            let d := { d with health.flashBytesProgrammed := satAdd 64 d.health.flashBytesProgrammed (256 * recGranules r') }
            (none, j', (d.moveRec sb gran sb' gran' r').mirrorOwn r')

/-- DIE_RETIRE: one page of the die rebuilt from the other 31 of its stripe (R221), the last of a block with the block's SUBSTITUTE delta; a block with
no programmed page takes its substitute in one step. At the end the die is retired (R253, R257, R158). -/
def retireStep (j : Job) (d : Drive) : StepOut :=
  let die := 32 * j.p1 + j.p0
  if 2048 ≤ j.parts then
    let d := { d with
      media.retiredDies := if d.media.retiredDies.contains die then d.media.retiredDies else die :: d.media.retiredDies
      media.silentDies := d.media.silentDies.filter (· ≠ die) }
    (some St.ok, j, ((d.event 0x122 Sev.warning []).spareWatch))
  else
    let sb := 2048 * j.p1 + j.parts
    let here := (d.sb sb).pages / 32
    let j' := { j with parts := j.parts + 1, pages := 0, done_ := j.done_ + 1, total := j.done_ + (here - j.pages) + (2048 - j.parts) }
    if d.media.substitutes.any (fun s => s.sb == sb && s.channel == j.p0) then (none, j', d)
    else
      let rebuilt := fun (d : Drive) => if here = 0 then d else
        let d := (d.reconCount 124).countEcc { read := 124 }
        { d with health.flashBytesProgrammed := satAdd 64 d.health.flashBytesProgrammed 16384 }
      if j.pages + 1 < here then (none, { j' with parts := j.parts, pages := j.pages + 1 }, rebuilt d)
      else match d.takeSubstitute sb with
      | none => (some St.noSpace, j, d)
      | some (p, d) =>
        let d := rebuilt d
        let d := { d with media.substitutes := d.media.substitutes ++ [Substitute.mk sb j.p0 p.1 p.2], media.retiredBlocks := d.media.retiredBlocks + 1 }
        (none, j', (d.delta { kind := 9, newLoc := sb * 2 ^ 25, oldLoc := j.p0 * 2 ^ 35 + p.1 * 2 ^ 26 + p.2 * 2 ^ 15 }).spareWatch)

/-- TWIN_RESYNC: a start begins the handshake again; the backlog arrives by RESYNC_DATA, and HOME_RETURN ends the job (R334, Table 6.2). -/
def resyncStep (j : Job) (d : Drive) : StepOut :=
  if d.twin.state = 3 ∨ d.twin.state = 5 then
    if !(d.twin.linkUp && d.twin.authenticated) then (some St.twinUnavailable, j, d)
    else
      let d := { d with twin.resyncPoint := if j.p0 = 1 then none else d.twin.resyncPoint }
      (none, j, ({ d with twin.prior := d.twin.state, twin.state := 1, twin.joiningSince := d.now }).twinSend ({ d with twin.prior := d.twin.state }).hello)
  else if d.twin.state = 1 ∨ d.twin.state = 6 then (none, j, d)
  else (some (if d.twin.state = 2 then St.ok else St.twinUnavailable), j, d)

/-- A cancelled TWIN_RESYNC (Table 6.2). -/
def resyncCancel (d : Drive) : Drive :=
  if d.twin.state = 6 then
    { d with twin.state := if d.twin.wasFenced then 5 else 3, twin.resyncSending := false, twin.bothAlone := false }
  else if d.twin.state = 1 then d.leaveJoining
  else d

/-- Plaintext bytes of a full part: sealed in chunks of 64 KiB, each with its tag, they take 64 MiB (R837). -/
def partBytes : Nat := 67092480

def hexDigit (n : Nat) : Byte := BitVec.ofNat 8 (if n % 16 < 10 then 48 + n % 16 else 55 + n % 16)
def decDigit (n : Nat) : Byte := BitVec.ofNat 8 (48 + n % 10)

/-- "rg240-export/" -/
def exportPrefix : Bytes := [0x72, 0x67, 0x32, 0x34, 0x30, 0x2D, 0x65, 0x78, 0x70, 0x6F, 0x72, 0x74, 0x2F]

/-- The key of a part (R837; hexadecimal digits as the spec writes them, in capitals). -/
def partKey (job part : Nat) : Bytes :=
  exportPrefix ++ [12, 8, 4, 0].map (fun s => hexDigit (job / 2 ^ s)) ++ [0x2F] ++
    [100000, 10000, 1000, 100, 10, 1].map (fun s => decDigit (part / s))

/-- A record of a package: its header with nonce_counter, generation and key_serial zero, its key and its value, each padded to a multiple of
8 bytes (R837). -/
def Drive.packageRec (d : Drive) (r : Rec) : Bytes :=
  d.recHeader { r with nonce := 0, gen := 0, serial := 0 } ++ padTo (roundUp 8 r.key.length) r.key ++ padTo (roundUp 8 r.value.length) r.value

/-- Bytes of a record in a package. -/
def packageLen (r : Rec) : Nat := 64 + roundUp 8 r.key.length + roundUp 8 r.value.length

/-- The 64-byte package header (R837), its counts of 8 bytes each (log entry 89). -/
def packageHeader (ns count total : Nat) : Bytes :=
  padTo 64 (beBytes 4 0x52475850 ++ beBytes 2 1 ++ beBytes 2 ns ++ beBytes 8 count ++ beBytes 8 total)

/-- The key of an export's parts: from system slot EXPORT by R383, for the drive's serial and the job (R837). -/
def Drive.partSeal (d : Drive) (job : Nat) : Config.Key := .derived (d.sysSlot 73733).key 7 (d.ident.serial * 2 ^ 16 + job)

/-- A part as stored: chunks of 64 KiB sealed under the part key; nonce: part index, chunk index, four zero bytes (R837). -/
def sealPart (key : Config.Key) (part : Nat) (plain : Bytes) : Bytes :=
  ((List.range (ceilDiv plain.length 65536)).map (fun i => gcmSeal key (part * 2 ^ 64 + i * 2 ^ 32) [] (slice (i * 65536) 65536 plain))).flatten

/-- The live records of a namespace: of a keyed one by its directory, of a located one by its live map. -/
def Drive.exportList (d : Drive) (ns : Nat) : List Rec :=
  d.kv.dir.filterMap (fun e => if e.ns = ns then d.recAt e.place else none) ++
    d.kv.live.filterMap (fun q => (d.recAt (.media q.1 q.2)).filter (fun r => r.ns == ns))

/-- NS_EXPORT: one record; a part is written when it is full, and the last one at the end (R837). -/
def exportStep (j : Job) (x : StepIn) (d : Drive) : StepOut :=
  if (d.sysSlot 73733).state = 0x3C then (some St.keyRevoked, j, d)
  else if !d.takesWrite then (none, j, d)
  else
    -- the first step takes the list of live records and forms the package header
    let j := if j.p2 ≠ 0 then j else
      let live := d.exportList j.ns
      let total := live.foldl (fun n r => n + packageLen r) 64
      { j with p2 := 1, keys := live.map (fun r => (r.key, r.version)), pack := packageHeader j.ns live.length total, total := live.length }
    let part := fun (n : Nat) =>
      match d.writeOwn j.p0 (partKey j.id j.parts) (sealPart (d.partSeal j.id) j.parts (j.pack.take n)) with
      | (some st, d) => (some st, j, d)
      | (none, d) => (none, { j with parts := j.parts + 1, pack := j.pack.drop n }, d)
    if partBytes ≤ j.pack.length then part partBytes
    else match j.keys with
      | [] => if j.pack = [] then (some St.ok, j, d) else part j.pack.length
      | (k, v) :: r =>
        let rec_ := ((d.shelfRecs ++ d.mediaRecs).map (·.2.2)).find? (fun y => y.ns == j.ns && y.key == k && y.version == v && !y.deletion)
        let j := { j with keys := r, done_ := j.done_ + 1 }
        match rec_ with
        | none => (none, j, d)
        | some y => if x.ok then (none, { j with pack := j.pack ++ d.packageRec y }, d) else (some St.mediaAuthFail, j, d)

/-- NS_IMPORT: one record, committed once its source tag verifies (R838, R414). -/
def importStep (j : Job) (x : StepIn) (d : Drive) : StepOut :=
  if d.holly.importError then (some St.internalError, j, { d with holly.importError := false })
  else if !x.ok then (some St.mediaAuthFail, j, d)
  else if !d.takesWrite then (none, j, d)
  else match x.recs with
    | [] => (if x.last then some St.ok else none, j, d)
    | r :: _ =>
      match d.bringIn j.ns { r with deletion := false } with
      | (some st, d) => (some st, j, d)
      | (none, d) => (if x.last then some St.ok else none, { j with done_ := j.done_ + 1 }, d)

/-- SELFTEST_EXT: tests 3 to 9, then one pair at a time (R635, R409, Table 12.6). -/
def selftestStep (j : Job) (x : StepIn) (d : Drive) : StepOut :=
  let i := j.done_
  let j' := { j with done_ := i + 1, total := 19 }
  if i < 7 then
    if x.ok then (none, j', { d with sec.tests := setBit (3 + i) d.sec.tests }) else (some St.internalError, j, d.enterError (3 + i) 0)
  else if i < 19 then
    let p := i - 7
    let y := d.pair p
    if x.ok then
      (none, j', if y.retired ∨ y.inService = true then d else d.setPair p { y with inService := true, faults := 0 })
    else
      let d := failPairs (if y.inService then [p] else []) d
      if d.hollyUp then (none, j', d) else (some St.internalError, j, d.enterError 10 p)
  else (some St.ok, j, ({ d with sec.tests := setBit 10 d.sec.tests }).event 0x430 Sev.info [0x7F8])

/-- One step of a job. -/
def kindStep (j : Job) (x : StepIn) (d : Drive) : StepOut :=
  match j.kind with
  | 0x01 => clipStep j x d
  | 0x02 => patrolStep j x d
  | 0x03 => sanitizeStep j x d
  | 0x04 => rekeyStep j x d
  | 0x05 => retireStep j d
  | 0x06 => resyncStep j d
  | 0x07 => migrateStep j d
  | 0x08 => exportStep j x d
  | 0x09 => importStep j x d
  | 0x0A => selftestStep j x d
  | _ => (none, j, d)

/-- What a cancelled job leaves (Table 17.9). -/
def kindCancel (j : Job) (d : Drive) : Drive :=
  match j.kind with
  | 0x01 => clipCancel j d
  | 0x06 => resyncCancel d
  | 0x07 => migrateCancel j d
  | _ => d

/-- JOB_STEP: a running job takes a step; a suspending one takes it and is SUSPENDED; a cancelling one reaches its consistent state
(Table 17.8). A suspending job whose step would be its last is SUSPENDED before that step. -/
def jobStep (id : Nat) (x : StepIn) (d : Drive) : Drive :=
  match d.job? id with
  | none => d
  | some j =>
    if j.state = 0xB4 then
      let d := kindCancel j d
      (((d.putJob { j with state := 0xB6, endedAt := d.now }).event 0x704 Sev.notice [j.id, j.channel]).wasBusy).approvedWatch
    else if j.state = 0xB1 then
      match kindStep j x d with
      | (some st, j', d) => (d.endJob j' st).approvedWatch
      | (none, j', d) => if (d.job? id).isSome then d.putJob j' else d
    else if j.state = 0xB2 then
      match kindStep j x d with
      | (some _, _, _) => (d.suspended j).approvedWatch
      | (none, j', d) => (d.suspended j').approvedWatch
    else d

def execJobStep (id : Nat) (x : StepIn) (s : State) : Host.Outcome State Fault Refusal := s.onMain (jobStep id x)

end Sys2Proof.Machine
end

