-- ==== Sys2Proof/Machine/Firmware.lean ====
section
/-! DEFINITION. Machine/Firmware.lean: component downloads (R725, R811, R839 to R841), activation and the live roll (R842 to R849), PLDM type 5
(R744, R745, R811). -/

namespace Sys2Proof.Machine
open Sys2Proof

/-! ## Where a component goes (Tables 14.2 and 17.5) -/

/-- Slot (0xFF: a region without slots), bank and first sector that a download of a component is written to. -/
def Drive.targetOf (d : Drive) (c : Nat) : Nat × Nat × Nat :=
  match c with
  | 1 => if d.optf.fwRunning = 0 then (1, 1, 0x200) else (0, 0, 0x040)
  | 2 => (0xFF, 0, 0x001)
  | 3 => (0xFF, 0, 0x009)
  | 4 => (0xFF, 0, 0x019)
  | _ => if d.optf.optRunning = 0 then (1, 1, 0x380) else (0, 1, 0x360)

/-- Bytes of a component's region. -/
def regionBytes (c : Nat) : Nat :=
  match c with
  | 1 => 22 * 2 ^ 20
  | 2 => 512 * 2 ^ 10
  | 3 => 2 ^ 20
  | _ => 2 * 2 ^ 20

/-- The region of a component holds an image, or nothing that verifies. -/
def Drive.putImage (c slot : Nat) (i : Option Image) (d : Drive) : Drive :=
  match c with
  | 1 => if slot = 0 then { d with optf.fwA := i } else { d with optf.fwB := i }
  | 2 => { d with optf.loader := i }
  | 3 => { d with optf.recovery := i }
  | 4 => { d with optf.sbCode := i, optf.sbRewritten := true }
  | _ => if slot = 0 then { d with optf.optA := i } else { d with optf.optB := i }

def Drive.verifies (d : Drive) (i : Option Image) : Bool := match i with | some i => d.codeOk i | none => false

/-- Queues the writes of an image: each sector begun by bytes [off, stop) is erased, or the present one is written on. -/
def Drive.writeImage (c off stop : Nat) (waiter : Option Origin) (h : OpHdr) (d : Drive) : Drive :=
  let (_, bank, first) := d.targetOf c
  let begun := (List.range (ceilDiv stop 65536)).filter (fun k => off ≤ 65536 * k)
  let ops := match begun with
    | [] => [{ prio := 4, bank := bank, sector := first + off / 65536, waiter := waiter, hdr := h : OptfOp }]
    | _ => begun.zipIdx.map (fun (k, i) => { prio := 4, bank := bank, sector := first + k, erase := true, waiter := if i + 1 = begun.length then waiter else none, hdr := h : OptfOp })
  ops.foldl (fun (d : Drive) x => d.optfWrite x) d

/-- A write of the region is queued or running. -/
def Drive.slotWriting (d : Drive) (c : Nat) : Bool :=
  let (_, bank, first) := d.targetOf c
  (d.optf.busy.toList ++ d.optf.queue).any (fun x => x.prio == 4 && x.bank == bank && decide (first ≤ x.sector) && decide (x.sector < first + regionBytes c / 65536))

/-- Hashes that may sign the next option image: the one in force, and a successor that a held image names (R657, R725). -/
def Drive.optSigners (d : Drive) : List Nat :=
  d.operatorKeyHash :: ((d.optf.optA.toList ++ d.optf.optB.toList).flatMap (fun i => i.cuttings.filterMap (fun (c : Cutting) => match c with
    | .rollover h => some h
    | _ => none)))

/-! ## Verification at LAST (R725, R841) -/

/-- What a whole component comes to: stored, or the status and the reason. -/
def Drive.verifyDownload (c : Nat) (img : Image) (d : Drive) : Wr :=
  let (slot, _, _) := d.targetOf c
  let idle := { d with optf.dl := 0xC0 }
  let rejected := fun (cause : Nat) => idle.event 0x462 Sev.error [c, cause]
  let stored := fun (d : Drive) => { d.putImage c slot (some img) with optf.dl := 0xC3 }.event 0x710 Sev.notice [c, slot, img.svn]
  if c = 16 then
    let gens := (d.optf.optA.toList ++ d.optf.optB.toList).map (·.generation)
    if !img.sigOk then .bad St.notPermitted (rejected 1)
    else if d.operatorKeyHash ≠ 0 ∧ d.optSigners.contains img.signer = false then .bad St.notPermitted (rejected 2)
    else if img.svn < d.sec.svnMinOpt then .bad St.notPermitted (rejected 3)
    else if img.component ≠ 16 ∨ Image.valid img = false then .bad St.malformed idle
    else if gens.any (fun g => decide (img.generation ≤ g)) then .conflict 0x93 0x13 idle
    else if d.slotWriting 16 then .conflict 0x94 0x13 idle
    else .ok ((stored d).event 0x046 Sev.notice [slot, img.generation])
  else if !d.codeOk img then
    .bad St.notPermitted { rejected (d.codeFault img) with sec.tests := if img.sigOk then d.sec.tests else clrBit 13 d.sec.tests }
  else if img.component ≠ c ∨ img.formOk = false then .bad St.malformed idle
  else .ok (stored d)

/-! ## A chunk (R839, R840) -/

/-- One chunk of a component from a channel: its checks, then its effect on the download. -/
def Drive.chunk (ch c off len : Nat) (last : Bool) (img : Image) (d : Drive) : Wr :=
  let (slot, bank, _) := d.targetOf c
  let busy := d.optf.dl == 0xC1 || d.optf.dl == 0xC2
  match d.jobIn 0x0B [0xB1] with
  | some j => .conflict j.state 0x0F d
  | none =>
    if bank = 0 ∧ d.optf.xip ≠ 0x92 then .conflict 0x90 0x13 d
    else if (if off = 0 then busy && (d.optf.dlChannel != ch || d.optf.dlComponent != c)
             else !(d.optf.dl == 0xC1 && d.optf.dlChannel == ch && d.optf.dlComponent == c && d.optf.dlNext == off)) then .conflict d.optf.dl 0x13 d
    else if (c = 2 ∧ d.verifies d.optf.recovery = false) ∨ (c = 3 ∧ d.verifies d.optf.loader = false) then .bad St.notPermitted d
    else
      let d := if off = 0 ∧ c ≠ 16 then d.putImage c slot none else d
      let d := { d with optf.dl := 0xC1, optf.dlChannel := ch, optf.dlComponent := c, optf.dlNext := off + len, optf.dlAt := d.now }
      if last then { d with optf.dl := 0xC2 }.verifyDownload c img else .ok d

/-- A chunk's encodings and lengths (R839). -/
def chunkFault (c off len payload : Nat) (last : Bool) : Option Nat :=
  firstFail [
    ([1, 2, 3, 4, 16].contains c && off % 4096 == 0 && decide (1 ≤ len) && len == payload && (last || len % 4096 == 0), St.malformed),
    (decide (len ≤ 1048576) && decide (off + len ≤ regionBytes c), St.tooLarge)]

/-- FW_DOWNLOAD (0x80). `img`: the component, as its verification at LAST finds it. The reply follows the chunk's writes; an option image is
written only once it has verified (R725). -/
def fwDownload (o : Origin) (img : Image) (d : Drive) : Drive :=
  d.withReq o [0x80] fun r d =>
    let f := r.hdr.flags
    let c := f % 32
    let last := bit 7 f
    let off := r.hdr.offset
    if d.roleOf o ≠ 1 then d.refuse r St.notPermitted
    else match (if bits 6 5 f ≠ 0 then some St.malformed else chunkFault c off r.hdr.valueLen r.body.length last) with
      | some st => d.refuse r st
      | none =>
        let w := d.chunk o.channel c off r.hdr.valueLen last img
        if w.status ≠ 0 then w.dev.refuse r w.status (offset := w.offset)
        else if c = 16 ∧ !last then w.dev.reply o (echo r.hdr) []
        else
          let d := w.dev.putReq { r with phase := .job }
          d.writeImage c (if c = 16 then 0 else off) (off + r.hdr.valueLen) (some o) (echo r.hdr)

/-- DOWNLOAD_IDLE_TIMEOUT (R840). -/
def downloadIdleTimeout (d : Drive) : Drive :=
  if d.optf.dl = 0xC1 then { d.advanceTo (d.optf.dlAt + 600000000000) with optf.dl := 0xC0 } else d

/-! ## Activation (R842) -/

/-- Why firmware cannot be activated: status and offset. `twinDl`, `twinDigest`: the twin's OPTF.DL_STATE and the digest of its standby
image. -/
def Drive.activateFault (both restart : Bool) (twinDl twinDigest : Nat) (d : Drive) : Option (Nat × Nat) :=
  let slot := 1 - d.optf.fwRunning
  let floor := ((d.fwImage d.optf.fwRunning).map (·.version)).getD 0
  match d.fwImage slot, d.jobIn 0x0B jobLive with
  | _, some j => some (St.stateConflict, conflictOffset j.state 0x0F + j.id)
  | none, _ => some (St.stateConflict, conflictOffset d.optf.dl 0x13)
  | some i, _ =>
    if d.optf.dl ≠ 0xC3 ∨ d.optf.dlComponent ≠ 1 then some (St.stateConflict, conflictOffset d.optf.dl 0x13)
    else if !restart && decide (floor < i.rollFloor) then some (St.stateConflict, conflictOffset 0xC4 0x13)
    else if both && (twinDl != 0xC3 || twinDigest != i.digest) then some (St.stateConflict, conflictOffset twinDl 0x13)
    else none

/-- FW_ROLL is queued: the clusters in their order (R843). -/
def Drive.startRoll (starter : Nat) (both : Bool) (d : Drive) : Option (Nat × Drive) :=
  (d.startJob { id := 0, kind := 0x0B, starter := starter, p0 := 1 - d.optf.fwRunning, p1 := b2n both, todo := [1, 2, 3, 4, 5, 6, 7, 0], total := 8, channel := starter } true).map
    (fun (id, d) => (id, { d with jobs.newClusters := [], jobs.rollTwin := false }))

/-- A request to activate, of one of the two forms. -/
def activate (restart : Bool) (o : Origin) (twinDl twinDigest : Nat) (k : Req → Bool → Drive → Drive) (d : Drive) : Drive :=
  d.withReq o [0x81] fun r d =>
    let f := r.hdr.flags
    if bit 1 f ≠ restart then d
    else if d.roleOf o ≠ 1 then d.refuse r St.notPermitted
    else if 4 ≤ f ∨ r.hdr.valueLen ≠ 0 ∨ r.body ≠ [] then d.refuse r St.malformed
    else match d.activateFault (bit 0 f) restart twinDl twinDigest with
      | some (st, off) => d.refuse r st (offset := off)
      | none => k r (bit 0 f) d

/-- The twin's roll is DONE, and it asks this drive to roll: a job of starter 3 (R848). -/
def twinAsksRoll (d : Drive) : Drive :=
  if !(d.twin.linkUp && d.twin.authenticated) then d
  else match d.activateFault false false 0 0 with
    | some _ => d
    | none => ((d.startRoll 3 false).map (·.2)).getD d

/-- FW_ACTIVATE by a roll, asked for on a management channel; from the twin, its request of R848 (log entry 90). -/
def fwActivate (o : Origin) (twinDl twinDigest : Nat) (d : Drive) : Drive :=
  match o with
  | .twin _ => twinAsksRoll d
  | _ =>
    activate false o twinDl twinDigest (fun r both d =>
      match d.startRoll o.channel both with
      | some (id, d) => d.reply o { echo r.hdr with offset := id } []
      | none => d.conflict r 0xBF 0x0F) d

/-- The drive selects a firmware slot, with its count at zero (R728). -/
def Drive.selectSlot (slot : Nat) (d : Drive) : Drive := d.bootRecord (fun b => ({ b with kind := 4, fwSlot := slot } : BootRec).setAttempts slot 0)

/-- A clean shutdown, after which the islands wait for a start (R278, R842). -/
def Drive.stopForStart (d : Drive) : Drive :=
  let d := { d with mod.devState := 0xD7 }.cleanShutdown
  { d.islandsOff with mod.inReset := true, mod.devState := 0xD1 }

/-- FW_ACTIVATE with RESTART. -/
def fwActivateRestart (o : Origin) (twinDl twinDigest : Nat) (d : Drive) : Drive :=
  activate true o twinDl twinDigest (fun r _ d =>
    ((d.reply o (echo r.hdr) []).selectSlot (1 - d.optf.fwRunning)).stopForStart) d

/-! ## The roll (R843 to R849) -/

/-- FW_ROLL_STEP: the watched cluster's 500 ms have passed; the next one restarts on the new image, the first with a SELECT record; after the
last watch the roll is DONE. `ok`: the image verifies again as it is loaded. -/
def fwRollStep (ok : Bool) (d : Drive) : Drive :=
  match d.jobIn 0x0B [0xB1] with
  | none => d
  | some j =>
    let d := if d.jobs.newClusters = [] then d else d.advanceTo (j.watchAt + 500000000)
    match j.todo with
    | c :: r =>
      -- slot A lies in bank 0, slot B in bank 1 (Table 14.2)
      let d := if d.jobs.newClusters = [] then d.optfRead j.p0 (22 * 2 ^ 20) [] else d
      if d.jobs.newClusters = [] ∧ (ok && d.verifies (d.fwImage j.p0)) = false then d.endJob j St.internalError
      else
        let d := if d.jobs.newClusters = [] then d.selectSlot j.p0 else d
        let d := { d with jobs.newClusters := d.jobs.newClusters ++ [c] }
        (d.putJob { j with todo := r, done_ := j.done_ + 1, watchAt := d.now }).event 0x711 Sev.info [c]
    | [] =>
      let d := { d with optf.fwRunning := j.p0, optf.dl := 0xC0, sec.svnFrom := d.now, jobs.newClusters := [], jobs.rollTwin := j.p1 == 1 }
      ((d.endJob j 0).event 0x712 Sev.notice [j.p0]).askTwinRoll

/-- FW_ROLL_FAILED: a cluster does not start, or faults in its watch: every cluster goes back to the old image (R847). -/
def fwRollFailed (cluster : Nat) (d : Drive) : Drive :=
  match d.jobIn 0x0B [0xB1] with
  | none => d
  | some j =>
    if d.jobs.newClusters.contains cluster then
      let d := ({ d with jobs.newClusters := [] }).selectSlot d.optf.fwRunning
      (d.endJob j St.internalError).event 0x713 Sev.error [cluster]
    else d

/-! ## PLDM type 5 (R717, R724, R744, R745, R811) -/

/-- A PLDM type 5 answer: the command's place in Table 17.2's stead, and its outcome; of one that fails the spec states no code. -/
def pldmSay (session kind : Nat) (ok : Bool) (args : List Nat) (d : Drive) : Drive :=
  if ok then d.emit (.sideband session kind (0 :: args) [])
  else
    let (c, d) := d.fresh
    d.emit (.sideband session kind (c :: args) [])

/-- PLDM type 5 is served: the drive runs, or it is in recovery boot (R744). -/
def Drive.pldmUp (d : Drive) : Bool := d.mod.mainOn && !d.mod.inReset && !d.media.flushing && d.sec.state == 0xA1 && d.mod.devState != 0xD7

/-- Who may store a component (R724, R744, Table 12.3). -/
def Drive.pldmMay (session c : Nat) (d : Drive) : Bool :=
  let recov := d.mod.devState == 0xD6
  (tgetD session {} d.sec.spdm).operator ||
  (d.operatorKeyHash == 0 && (recov || c == 16)) ||
  (recov && (match d.sec.maint with | some m => m.session == session && bit 3 m.services | none => false))

/-- The option area is rewritten: its 4 KiB in one transfer, in recovery boot only (R717). The area is not signed. -/
def areaUpdate (session off len : Nat) (last : Bool) (img : Image) (d : Drive) : Drive :=
  if d.mod.devState ≠ 0xD6 ∨ off ≠ 0 ∨ len ≠ 4096 ∨ last = false then pldmSay session 0x205 false [] d
  else
    let d := { d with optf.area := img.area, optf.dl := 0xC3, optf.dlComponent := 0 }
    pldmSay session 0x205 true [0, 0] ((d.optfWrite { prio := 4, bank := 0, erase := true }).optfWrite { prio := 4, bank := 0 })

/-- A transfer of a component by PLDM type 5, up to 4,096 bytes at a time: stored and verified as FW_DOWNLOAD does; of the option area in
recovery boot (R717, log entry 79). -/
def pldmUpdate (session c off len : Nat) (last : Bool) (img : Image) (d : Drive) : Drive :=
  if !d.pldmMay session c then pldmSay session 0x205 false [] d
  else if [1, 2, 3, 4, 16].contains c = false ∧ c = Config.areaComponent then areaUpdate session off len last img d
  else match chunkFault c off len len last with
    | some _ => pldmSay session 0x205 false [] d
    | none =>
      if 4096 < len then pldmSay session 0x205 false [] d
      else
        let w := d.chunk 0 c off len last img
        if w.status ≠ 0 then pldmSay session 0x205 false [] w.dev
        else
          let d := if c = 16 ∧ !last then w.dev else w.dev.writeImage c (if c = 16 then 0 else off) (off + len) none {}
          pldmSay session 0x205 true [c, off] d

/-- PLDM ActivateFirmware. In recovery boot the loader writes SELECT and the drive starts from step 1 (R745); in service a stored firmware
component starts a roll, and another reports how it takes effect: 1 next start, 2 when next needed, 3 XIP_RESUME (R811, Table 17.5). -/
def activateFirmware (session : Nat) (d : Drive) : Drive :=
  if !d.pldmMay session d.optf.dlComponent then pldmSay session 0x21A false [] d
  else if d.mod.devState = 0xD6 then
    let slot := if d.optf.dl = 0xC3 ∧ d.optf.dlComponent = 1 then 1 - d.optf.fwRunning else d.optf.boot.fwSlot
    let d := (pldmSay session 0x21A true [] d).selectSlot slot
    -- the loader's writes are complete before it leaves
    let d := { d with optf.busy := none, optf.queue := [], optf.bootSafe := d.optf.boot }
    { d.islandsOff with mod.inReset := true, mod.devState := 0xD1 }
  else if d.optf.dl ≠ 0xC3 then pldmSay session 0x21A false [] d
  else if d.optf.dlComponent = 1 then
    match d.activateFault false false 0 0 with
    | some _ => pldmSay session 0x21A false [] d
    | none => match d.startRoll 0 false with
      | some (_, d) => pldmSay session 0x21A true [0] d
      | none => pldmSay session 0x21A false [] d
  else pldmSay session 0x21A true [if d.optf.dlComponent = 3 then 2 else if d.optf.dlComponent = 4 then 3 else 1] d

def State.onPldm (s : State) (f : Drive → Drive) : Host.Outcome State Fault Refusal :=
  .next { s with dev := if s.dev.pldmUp then f s.dev.dropStale else s.dev }

def execFwDownload (o : Origin) (img : Image) (s : State) : Host.Outcome State Fault Refusal := s.onMain (fwDownload o img)
def execDownloadIdleTimeout (s : State) : Host.Outcome State Fault Refusal := s.onMain downloadIdleTimeout
def execFwActivate (o : Origin) (twinDl twinDigest : Nat) (s : State) : Host.Outcome State Fault Refusal := s.onMain (fwActivate o twinDl twinDigest)
def execFwActivateRestart (o : Origin) (twinDl twinDigest : Nat) (s : State) : Host.Outcome State Fault Refusal := s.onMain (fwActivateRestart o twinDl twinDigest)
def execFwRollStep (ok : Bool) (s : State) : Host.Outcome State Fault Refusal := s.onMain (fwRollStep ok)
def execFwRollFailed (cluster : Nat) (s : State) : Host.Outcome State Fault Refusal := s.onMain (fwRollFailed cluster)
def execPldmFwUpdate (session component off len : Nat) (last : Bool) (img : Image) (s : State) : Host.Outcome State Fault Refusal :=
  s.onPldm (pldmUpdate session component off len last img)
def execActivateFirmware (session : Nat) (s : State) : Host.Outcome State Fault Refusal := s.onPldm (activateFirmware session)

end Sys2Proof.Machine
end

