-- ==== Sys2Proof/Machine/Mgmt.lean ====
section
/-! DEFINITION. Machine/Mgmt.lean: the sideband's own messages: OP (R806 to R809), PLDM type 2 (R810) and MCTP control (R805). -/

namespace Sys2Proof.Machine
open Sys2Proof

/-! ## OP messages -/

/-- Request opcodes from 0x30 up (R807). -/
def mgmtOps : List Nat := knownOps.filter (fun n => 0x30 ≤ n)

/-- An answer to an OP that is not kept as a request. -/
def opAnswer (session exchange : Nat) (h : OpHdr) (st : Nat) (d : Drive) : Drive := d.emit (.reply (.sideband session exchange) { echo h with status := st } [])

/-- Requests of the sideband that await the sequencer. -/
def Drive.sidebandHeld (d : Drive) : Nat := (d.kv.reqs.filter (fun (r : Req) => r.phase = .active ∧ (match r.origin with | .sideband _ _ => true | _ => false) = true)).length

/-- OP: a request of the operator role, or a read of attributes that its role may read (R807, R809). -/
def opMessage (session exchange : Nat) (h : OpHdr) (body : Bytes) (d : Drive) : Drive :=
  let o : Origin := .sideband session exchange
  if 16 ≤ d.sidebandHeld then { d with mod.sbDiscards := (d.mod.sbDiscards + 1) % 2 ^ 32 }
  else if (d.req? o).isSome then d
  else if !mgmtOps.contains h.opcode then opAnswer session exchange h St.unsupported d
  else if d.roleOf o ≠ 1 ∧ h.opcode ≠ 0x50 then opAnswer session exchange h St.notPermitted d
  else
    let r : Req := { origin := o, hdr := h, body := body, phase := .active, arrival := d.now, tag := { d.mintTag 0 h d.now with kind := 0x28 } }
    match mgmtFields r with
    | some st => opAnswer session exchange h st d
    | none => if 8192 < 76 + body.length then opAnswer session exchange h St.tooLarge d else d.addReq r

/-- A drive that does not serve still answers the unauthenticated status reads on the sideband (R636, R643, R709, R744), and on auxiliary
power alone reads of the TIME page (chapter 11). -/
def statusRead (session exchange : Nat) (h : OpHdr) (d : Drive) : Drive :=
  let n := h.valueLen
  let a := h.offset % 65536
  let may := fun (x : Nat) => mayRead 3 x || (!d.mod.mainOn && x / 256 == 0x0A)
  if h.opcode ≠ 0x50 ∨ (List.range (min n 1024)).any (fun i => !may (a + i)) then opAnswer session exchange h St.notPermitted d
  else if n = 0 ∨ (n ≤ 1024 ∧ 65536 < a + n) then opAnswer session exchange h St.malformed d
  else if 1024 < n then opAnswer session exchange h St.tooLarge d
  else
    let (ws, d) := readWords 0 a n d
    d.emit (.reply (.sideband session exchange) { echo h with valueLen := 4 * n } ((ws.map (beBytes 4)).flatten))

/-! ## PLDM type 2 (R709, R810, Table 17.4) -/

/-- Present state of a reading against upper thresholds (warning, critical, fatal) or lower ones, as DSP0248 numbers them. -/
def upperState (v : Int) (w c f : Option Int) : Nat :=
  let reached := fun (t : Option Int) => match t with | some t => decide (t ≤ v) | none => false
  if reached f then 10 else if reached c then 9 else if reached w then 8 else 1
def lowerState (v : Int) (w c : Int) : Nat := if v < c then 6 else if v < w then 5 else 1

/-- A numeric sensor: its present state and reading; temperatures in quarters of a degree. None: no valid reading. -/
def Drive.sensor (d : Drive) (id : Nat) : Option (Option (Nat × Int)) :=
  if id = 1 then some (some (upperState d.therm.composite (some 340) (some 364) (some 380), d.therm.composite))
  else if 2 ≤ id ∧ id ≤ 8 then
    some (((d.therm.sensors.filter (fun (p : Nat × Int) => sensorGroup p.1 = id - 2)).map (·.2)).max?.map (fun v => (1, v)))
  else if id = 9 then some (some (upperState (d.power.inputMw / 1000) (some d.power.capW) none none, d.power.inputMw / 1000))
  else if id = 10 then some (some (lowerState d.media.holdupMj 3200 800, d.media.holdupMj))
  else if id = 11 then some (some (lowerState d.sparePct 10 2, d.sparePct))
  else if id = 12 then some (some (upperState d.media.wearAvgPct (some 100) none none, d.media.wearAvgPct))
  else none

/-- GetSensorReading: completion 0, state and reading; ERROR_NOT_READY (4) in TCM; INVALID_SENSOR_ID (0x80); state 0 without a valid reading. -/
def getSensorReading (session id : Nat) (d : Drive) : Drive :=
  if d.optf.xip = 0x92 then d.emit (.sideband session 0x211 [4] [])
  else match d.sensor id with
    | none => d.emit (.sideband session 0x211 [0x80] [])
    | some none => d.emit (.sideband session 0x211 [0, 0] [])
    | some (some (st, v)) => d.emit (.sideband session 0x211 [0, st, i64 v] [])

/-- GetStateSensorReadings: DEV.STATE and TWIN.STATE. -/
def getStateSensorReadings (session id : Nat) (d : Drive) : Drive :=
  if d.optf.xip = 0x92 then d.emit (.sideband session 0x221 [4] [])
  else if id = 20 then d.emit (.sideband session 0x221 [0, d.mod.devState] [])
  else if id = 21 then d.emit (.sideband session 0x221 [0, d.twin.state] [])
  else d.emit (.sideband session 0x221 [0x80] [])

/-! ## MCTP control (R805; the commands as DSP0236 has them) -/

/-- Set Endpoint ID (1), Get Endpoint ID (2), Get MCTP Version Support (4), Get Message Type Support (5); another is unsupported (5). -/
def mctpControl (command arg : Nat) (d : Drive) : Drive :=
  let say := fun (args : List Nat) (d : Drive) => d.emit (.sideband 0 (0x100 + command) args [])
  match command with
  | 1 => if 8 ≤ arg ∧ arg ≤ 254 then say [0, arg] { d with mod.eid := arg } else say [2] d
  | 2 => say [0, d.mod.eid] d
  | 4 =>
    let (v, d) := d.fresh
    say [0, v] d
  | 5 => say [0, 0x00, 0x01, 0x05, 0x06, 0x7F] d
  | _ => say [5] d

def execOpMessage (session exchange : Nat) (h : OpHdr) (body : Bytes) (s : State) : Host.Outcome State Fault Refusal :=
  if s.dev.live then s.onMain (fun d => opMessage session exchange h body d.dropStale) else s.onSideband (statusRead session exchange h)
def execGetSensorReading (session id : Nat) (s : State) : Host.Outcome State Fault Refusal := s.onMain (getSensorReading session id)
def execGetStateSensorReadings (session id : Nat) (s : State) : Host.Outcome State Fault Refusal := s.onMain (getStateSensorReadings session id)
def execMctpControl (command arg : Nat) (s : State) : Host.Outcome State Fault Refusal := s.onSideband (mctpControl command arg)

end Sys2Proof.Machine
end

