-- ==== Sys2Proof/Machine/Dispatch.lean ====
section
/-! DEFINITION. Machine/Dispatch.lean: each command calls its meaning. -/

namespace Sys2Proof.Machine
open Sys2Proof

def exec (i : Instr) (s : State) : Host.Outcome State Fault Refusal :=
  match i with
  | .put o => Sys2Proof.Machine.execPut o s
  | .putCommit o => Sys2Proof.Machine.execPutCommit o s
  | .delete o => Sys2Proof.Machine.execDelete o s
  | .get o => Sys2Proof.Machine.execGet o s
  | .getRange o => Sys2Proof.Machine.execGetRange o s
  | .existsKey o => Sys2Proof.Machine.execExists o s
  | .list o => Sys2Proof.Machine.execList o s
  | .batch o => Sys2Proof.Machine.execBatch o s
  | .batchAtomic o => Sys2Proof.Machine.execBatchAtomic o s
  | .locGet o => Sys2Proof.Machine.execLocGet o s
  | .locDelete o => Sys2Proof.Machine.execLocDelete o s
  | .relocAck o => Sys2Proof.Machine.execRelocAck o s
  | .ping o => Sys2Proof.Machine.execPing o s
  | .deadlineMissed o => Sys2Proof.Machine.execDeadlineMissed o s
  | .commitWaitExpiry version => Sys2Proof.Machine.execCommitWaitExpiry version s
  | .supersedeConfirm ns key => Sys2Proof.Machine.execSupersedeConfirm ns key s
  | .openFrame f b p => Sys2Proof.Machine.execOpen f b p s
  | .sessionOpen o b p => Sys2Proof.Machine.execSessionOpen o b p s
  | .sessionClose o => Sys2Proof.Machine.execSessionClose o s
  | .sessionRekey o b => Sys2Proof.Machine.execSessionRekey o b s
  | .dataFrame f => Sys2Proof.Machine.execDataFrame f s
  | .ackFrame f => Sys2Proof.Machine.execAckFrame f s
  | .ackDelayExpiry sid => Sys2Proof.Machine.execAckDelayExpiry sid s
  | .retransmissionTimeout sid path => Sys2Proof.Machine.execRetransmissionTimeout sid path s
  | .keepAlive sid path => Sys2Proof.Machine.execKeepAlive sid path s
  | .idleTimeout sid => Sys2Proof.Machine.execIdleTimeout sid s
  | .openingTimeout sid => Sys2Proof.Machine.execOpeningTimeout sid s
  | .drainComplete sid => Sys2Proof.Machine.execDrainComplete sid s
  | .drainingTimeout sid => Sys2Proof.Machine.execDrainingTimeout sid s
  | .windowReopenAck sid => Sys2Proof.Machine.execWindowReopenAck sid s
  | .pathSilence sid path => Sys2Proof.Machine.execPathSilence sid path s
  | .rekeyRequired sid inbound => Sys2Proof.Machine.execRekeyRequired sid inbound s
  | .sessionExhausted sid inbound => Sys2Proof.Machine.execSessionExhausted sid inbound s
  | .keyPhaseRetire sid => Sys2Proof.Machine.execKeyPhaseRetire sid s
  | .shearsAdmit port => Sys2Proof.Machine.execShearsAdmit port s
  | .fwdWrite opId aux tag h body => Sys2Proof.Machine.execFwdWrite opId aux tag h body s
  | .fwdRead opId aux tag h body => Sys2Proof.Machine.execFwdRead opId aux tag h body s
  | .fwdReply opId h body => Sys2Proof.Machine.execFwdReply opId h body s
  | .fwdData opId chunk bytes => Sys2Proof.Machine.execFwdData opId chunk bytes s
  | .mirror opId flags version aux final bytes recs => Sys2Proof.Machine.execMirror opId flags version aux final bytes recs s
  | .mirrorAck opId programmed => Sys2Proof.Machine.execMirrorAck opId programmed s
  | .prepare opId txn tag h body seals => Sys2Proof.Machine.execPrepare opId txn tag h body seals s
  | .prepared txn outcomes => Sys2Proof.Machine.execPrepared txn outcomes s
  | .refused txn => Sys2Proof.Machine.execRefused txn s
  | .commit opId txn version => Sys2Proof.Machine.execCommit opId txn version s
  | .abort txn => Sys2Proof.Machine.execAbort txn s
  | .committed txn => Sys2Proof.Machine.execCommitted txn s
  | .prepareTimeout txn => Sys2Proof.Machine.execPrepareTimeout txn s
  | .heartbeat seq tick lastSeq lOwn offset => Sys2Proof.Machine.execHeartbeat seq tick lastSeq lOwn offset s
  | .heartbeatSend => Sys2Proof.Machine.execHeartbeatSend s
  | .reserveReq granulesWanted entriesWanted => Sys2Proof.Machine.execReserveReq granulesWanted entriesWanted s
  | .reserveGrant g e => Sys2Proof.Machine.execReserveGrant g e s
  | .chunkFetch opId ns tag version chunk verifies => Sys2Proof.Machine.execChunkFetch opId ns tag version chunk verifies s
  | .chunkData opId body verifies => Sys2Proof.Machine.execChunkData opId body verifies s
  | .chunkFetchTimeout opId => Sys2Proof.Machine.execChunkFetchTimeout opId s
  | .tableChange opId seq c => Sys2Proof.Machine.execTableChange opId seq c s
  | .tableAck opId seq => Sys2Proof.Machine.execTableAck opId seq s
  | .hello h lacks => Sys2Proof.Machine.execHello h lacks s
  | .resyncData recs live tables counters aux => Sys2Proof.Machine.execResyncData recs live tables counters aux s
  | .homeReturn version => Sys2Proof.Machine.execHomeReturn version s
  | .twinLinkUp serial authOk unpaired empty secret => Sys2Proof.Machine.execTwinLinkUp serial authOk unpaired empty secret s
  | .twinLinkDownTimeout => Sys2Proof.Machine.execTwinLinkDownTimeout s
  | .heartbeatSilence => Sys2Proof.Machine.execHeartbeatSilence s
  | .joiningTimeout => Sys2Proof.Machine.execJoiningTimeout s
  | .leaseReq src seq epoch => Sys2Proof.Machine.execLeaseReq src seq epoch s
  | .leaseReqResend => Sys2Proof.Machine.execLeaseReqResend s
  | .probe src seq => Sys2Proof.Machine.execProbe src seq s
  | .probeAnswer src seq => Sys2Proof.Machine.execProbeAnswer src seq s
  | .witnessProbeTick pair => Sys2Proof.Machine.execWitnessProbeTick pair s
  | .witnessGrantHold pos => Sys2Proof.Machine.execWitnessGrantHold pos s
  | .leaseGrant src seq epoch => Sys2Proof.Machine.execLeaseGrant src seq epoch s
  | .leaseDeny src seq reason => Sys2Proof.Machine.execLeaseDeny src seq reason s
  | .fencedNotice src seq => Sys2Proof.Machine.execFencedNotice src seq s
  | .clear src seq => Sys2Proof.Machine.execClear src seq s
  | .clearSend => Sys2Proof.Machine.execClearSend s
  | .cleared src seq => Sys2Proof.Machine.execCleared src seq s
  | .clearanceLapse => Sys2Proof.Machine.execClearanceLapse s
  | .leaseAssert src seq epoch => Sys2Proof.Machine.execLeaseAssert src seq epoch s
  | .leaseAssertSend => Sys2Proof.Machine.execLeaseAssertSend s
  | .leaseRelease src seq => Sys2Proof.Machine.execLeaseRelease src seq s
  | .witnessFreezeEnd => Sys2Proof.Machine.execWitnessFreezeEnd s
  | .witnessGrant ch => Sys2Proof.Machine.execWitnessGrant ch s
  | .witnessFence ch => Sys2Proof.Machine.execWitnessFence ch s
  | .witnessClear ch => Sys2Proof.Machine.execWitnessClear ch s
  | .witnessWrite ch v => Sys2Proof.Machine.execWitnessWrite ch v s
  | .twinAdopt o items => Sys2Proof.Machine.execTwinAdopt o items s
  | .twinRelease o => Sys2Proof.Machine.execTwinRelease o s
  | .ringHello src east direct keyHash serial cycles random reach => Sys2Proof.Machine.execRingHello src east direct keyHash serial cycles random reach s
  | .ringHelloSend => Sys2Proof.Machine.execRingHelloSend s
  | .ringLinkLoss east => Sys2Proof.Machine.execRingLinkLoss east s
  | .ringFrameForward fs => Sys2Proof.Machine.execRingFrameForward fs s
  | .mgmtReq src seq h body => Sys2Proof.Machine.execMgmtReq src seq h body s
  | .mgmtReply src seq h body => Sys2Proof.Machine.execMgmtReply src seq h body s
  | .migrateData src seq ns job recs => Sys2Proof.Machine.execMigrateData src seq ns job recs s
  | .migrateCtl src seq ns job c => Sys2Proof.Machine.execMigrateCtl src seq ns job c s
  | .ptpMessage m => Sys2Proof.Machine.execPtpMessage m s
  | .tenantCreate o => Sys2Proof.Machine.execTenantCreate o s
  | .tenantDelete o => Sys2Proof.Machine.execTenantDelete o s
  | .nsCreate o => Sys2Proof.Machine.execNsCreate o s
  | .nsDelete o => Sys2Proof.Machine.execNsDelete o s
  | .nsSetQuota o => Sys2Proof.Machine.execNsSetQuota o s
  | .nsRaiseGen o => Sys2Proof.Machine.execNsRaiseGen o s
  | .nsSetSoloWrites o => Sys2Proof.Machine.execNsSetSoloWrites o s
  | .nsInfo o => Sys2Proof.Machine.execNsInfo o s
  | .sweepComplete n => Sys2Proof.Machine.execSweepComplete n s
  | .arrayReadComplete o chunk gran src cws verified => Sys2Proof.Machine.execArrayReadComplete o chunk gran src cws verified s
  | .suspendComplete die => Sys2Proof.Machine.execSuspendComplete die s
  | .busyWindowEntry die => Sys2Proof.Machine.execBusyWindowEntry die s
  | .starvationGuardTrip die => Sys2Proof.Machine.execStarvationGuardTrip die s
  | .reconInterval => Sys2Proof.Machine.execReconInterval s
  | .programComplete die => Sys2Proof.Machine.execProgramComplete die s
  | .eraseComplete die => Sys2Proof.Machine.execEraseComplete die s
  | .programFail die => Sys2Proof.Machine.execProgramFail die s
  | .eraseFail die => Sys2Proof.Machine.execEraseFail die s
  | .shelfDrain => Sys2Proof.Machine.execShelfDrain s
  | .shelfAdmit o => Sys2Proof.Machine.execShelfAdmit o s
  | .folding bad => Sys2Proof.Machine.execFolding bad s
  | .clipVictimSelect bad => Sys2Proof.Machine.execClipVictimSelect bad s
  | .patrolVisit sb cws => Sys2Proof.Machine.execPatrolVisit sb cws s
  | .patrolLate sb => Sys2Proof.Machine.execPatrolLate sb s
  | .healthWearUpdate => Sys2Proof.Machine.execHealthWearUpdate s
  | .deltaDrain => Sys2Proof.Machine.execDeltaDrain s
  | .checkpoint => Sys2Proof.Machine.execCheckpoint s
  | .powerFail => Sys2Proof.Machine.execPowerFail s
  | .flushComplete => Sys2Proof.Machine.execFlushComplete s
  | .holdupMeasure mj temp => Sys2Proof.Machine.execHoldupMeasure mj temp s
  | .kekImport session index pkHash signatureOk b => Sys2Proof.Machine.execKekImport session index pkHash signatureOk b s
  | .tenantKeyLoad o b => Sys2Proof.Machine.execTenantKeyLoad o b s
  | .keyEraseWrapping o => Sys2Proof.Machine.execKeyEraseWrapping o s
  | .keyErasePrevious o => Sys2Proof.Machine.execKeyErasePrevious o s
  | .keyEraseCurrent o => Sys2Proof.Machine.execKeyEraseCurrent o s
  | .keyEraseTenant o => Sys2Proof.Machine.execKeyEraseTenant o s
  | .keyEraseSystem o => Sys2Proof.Machine.execKeyEraseSystem o s
  | .slotBufferRelease slot => Sys2Proof.Machine.execSlotBufferRelease slot s
  | .storageLoadResume slot => Sys2Proof.Machine.execStorageLoadResume slot s
  | .hollyDispatch arrivals freed mismatch => Sys2Proof.Machine.execHollyDispatch arrivals freed mismatch s
  | .compatSuspend blocks => Sys2Proof.Machine.execCompatSuspend blocks s
  | .compatResume resumeId unwraps tag => Sys2Proof.Machine.execCompatResume resumeId unwraps tag s
  | .drbgError => Sys2Proof.Machine.execDrbgError s
  | .autonegComplete port partner => Sys2Proof.Machine.execAutonegComplete port partner s
  | .trainingComplete port trained => Sys2Proof.Machine.execTrainingComplete port trained s
  | .linkUp port => Sys2Proof.Machine.execLinkUp port s
  | .linkDown port cause hiSer => Sys2Proof.Machine.execLinkDown port cause hiSer s
  | .holdoffExpiry port => Sys2Proof.Machine.execHoldoffExpiry port s
  | .trainingFail port trained => Sys2Proof.Machine.execTrainingFail port trained s
  | .speedFallbackExpiry port speed => Sys2Proof.Machine.execSpeedFallbackExpiry port speed s
  | .portRetrain ch port => Sys2Proof.Machine.execPortRetrain ch port s
  | .portEnableWrite ch port on => Sys2Proof.Machine.execPortEnableWrite ch port on s
  | .frameReceive f => Sys2Proof.Machine.execFrameReceive f s
  | .arpFrame f => Sys2Proof.Machine.execArpFrame f s
  | .ndFrame f => Sys2Proof.Machine.execNdFrame f s
  | .icmpEcho port vid v6 source payload => Sys2Proof.Machine.execIcmpEcho port vid v6 source payload s
  | .dhcpMessage m => Sys2Proof.Machine.execDhcpMessage m s
  | .dhcpLeaseLost port vid v6 => Sys2Proof.Machine.execDhcpLeaseLost port vid v6 s
  | .lldpFrame port chassisKind portKind chassis portId => Sys2Proof.Machine.execLldpFrame port chassisKind portKind chassis portId s
  | .lldpTransmit => Sys2Proof.Machine.execLldpTransmit s
  | .txtsRead port => Sys2Proof.Machine.execTxtsRead port s
  | .statsModeWrite ch port v => Sys2Proof.Machine.execStatsModeWrite ch port v s
  | .w1cWrite ch addr v occur => Sys2Proof.Machine.execW1cWrite ch addr v occur s
  | .entryRead ch => Sys2Proof.Machine.execEntryRead ch s
  | .entryWrite ch => Sys2Proof.Machine.execEntryWrite ch s
  | .entryInvalidate ch => Sys2Proof.Machine.execEntryInvalidate ch s
  | .entryMove ch => Sys2Proof.Machine.execEntryMove ch s
  | .actionRead ch => Sys2Proof.Machine.execActionRead ch s
  | .actionWrite ch => Sys2Proof.Machine.execActionWrite ch s
  | .bankWidthWrite ch v => Sys2Proof.Machine.execBankWidthWrite ch v s
  | .defaultActionWrite ch port v => Sys2Proof.Machine.execDefaultActionWrite ch port v s
  | .probeFirst ch => Sys2Proof.Machine.execProbeFirst ch s
  | .probeNext ch => Sys2Proof.Machine.execProbeNext ch s
  | .privetScrub upsets actionUpsets lost lostActions => Sys2Proof.Machine.execPrivetScrub upsets actionUpsets lost lostActions s
  | .ppsInEdge opNs => Sys2Proof.Machine.execPpsInEdge opNs s
  | .todMessage msg => Sys2Proof.Machine.execTodMessage msg s
  | .sourceLost src => Sys2Proof.Machine.execSourceLost src s
  | .sourceChange src => Sys2Proof.Machine.execSourceChange src s
  | .holdoverTrustLost => Sys2Proof.Machine.execHoldoverTrustLost s
  | .wallSet ch seconds ns => Sys2Proof.Machine.execWallSet ch seconds ns s
  | .optimeReservation => Sys2Proof.Machine.execOptimeReservation s
  | .ppsOutEdge => Sys2Proof.Machine.execPpsOutEdge s
  | .leapSecond => Sys2Proof.Machine.execLeapSecond s
  | .meterTick energyUj acts => Sys2Proof.Machine.execMeterTick energyUj acts s
  | .meterExtendedEnd => Sys2Proof.Machine.execMeterExtendedEnd s
  | .meterIntervalWrite ch v => Sys2Proof.Machine.execMeterIntervalWrite ch v s
  | .weightRecalibrate die holly net laurel => Sys2Proof.Machine.execWeightRecalibrate die holly net laurel s
  | .meterRead o => Sys2Proof.Machine.execMeterRead o s
  | .meterAck o => Sys2Proof.Machine.execMeterAck o s
  | .zeroizePin => Sys2Proof.Machine.execZeroizePin s
  | .tamperLoopSample isOpen => Sys2Proof.Machine.execTamperLoopSample isOpen s
  | .zeroizeArm ch => Sys2Proof.Machine.execZeroizeArm ch s
  | .zeroizeConfirm ch => Sys2Proof.Machine.execZeroizeConfirm ch s
  | .zeroizeArmExpiry => Sys2Proof.Machine.execZeroizeArmExpiry s
  | .zeroiseEraseComplete => Sys2Proof.Machine.execZeroiseEraseComplete s
  | .maintEnableWrite ch v => Sys2Proof.Machine.execMaintEnableWrite ch v s
  | .maintFuseArm ch => Sys2Proof.Machine.execMaintFuseArm ch s
  | .maintFuseConfirm ch => Sys2Proof.Machine.execMaintFuseConfirm ch s
  | .maintToken session services serial challenge duration keyOk signatureOk => Sys2Proof.Machine.execMaintToken session services serial challenge duration keyOk signatureOk s
  | .maintExit session => Sys2Proof.Machine.execMaintExit session s
  | .maintDurationExpiry => Sys2Proof.Machine.execMaintDurationExpiry s
  | .svnRaise => Sys2Proof.Machine.execSvnRaise s
  | .continuousTestFail test => Sys2Proof.Machine.execContinuousTestFail test s
  | .getVersion => Sys2Proof.Machine.execGetVersion s
  | .getCapabilities ok => Sys2Proof.Machine.execGetCapabilities ok s
  | .negotiateAlgorithms offered => Sys2Proof.Machine.execNegotiateAlgorithms offered s
  | .getDigests session => Sys2Proof.Machine.execGetDigests session s
  | .getCertificate session slot => Sys2Proof.Machine.execGetCertificate session slot s
  | .challenge slot => Sys2Proof.Machine.execChallenge slot s
  | .getMeasurements session index => Sys2Proof.Machine.execGetMeasurements session index s
  | .keyExchange => Sys2Proof.Machine.execKeyExchange s
  | .finish session eid requester ok => Sys2Proof.Machine.execFinish session eid requester ok s
  | .spdmHeartbeat session => Sys2Proof.Machine.execSpdmHeartbeat session s
  | .keyUpdate session => Sys2Proof.Machine.execKeyUpdate session s
  | .endSession session => Sys2Proof.Machine.execEndSession session s
  | .getCsr session => Sys2Proof.Machine.execGetCsr session s
  | .setCertificate session slot sameKey chain => Sys2Proof.Machine.execSetCertificate session slot sameKey chain s
  | .vendorDefinedRequest session what => Sys2Proof.Machine.execVendorDefinedRequest session what s
  | .supplyLow mv => Sys2Proof.Machine.execSupplyLow mv s
  | .supplyHigh mv => Sys2Proof.Machine.execSupplyHigh mv s
  | .auxLost => Sys2Proof.Machine.execAuxLost s
  | .auxRestored => Sys2Proof.Machine.execAuxRestored s
  | .pwrdisAssert how => Sys2Proof.Machine.execPwrdisAssert how s
  | .mrstN => Sys2Proof.Machine.execMrstN s
  | .slotIdChange straps => Sys2Proof.Machine.execSlotIdChange straps s
  | .twinPrsntChange present => Sys2Proof.Machine.execTwinPrsntChange present s
  | .i3cDynamicAddress address byEntdaa => Sys2Proof.Machine.execI3cDynamicAddress address byEntdaa s
  | .i3cRstdaa => Sys2Proof.Machine.execI3cRstdaa s
  | .locateExpiry => Sys2Proof.Machine.execLocateExpiry s
  | .start u => Sys2Proof.Machine.execStart u s
  | .deviceReady => Sys2Proof.Machine.execDeviceReady s
  | .startTimeout => Sys2Proof.Machine.execStartTimeout s
  | .clusterFault => Sys2Proof.Machine.execClusterFault s
  | .xipRelease ch => Sys2Proof.Machine.execXipRelease ch s
  | .tcmLoadComplete => Sys2Proof.Machine.execTcmLoadComplete s
  | .xipResume ch => Sys2Proof.Machine.execXipResume ch s
  | .xipAutoResume => Sys2Proof.Machine.execXipAutoResume s
  | .optfOperationComplete => Sys2Proof.Machine.execOptfOperationComplete s
  | .activateFirmware session => Sys2Proof.Machine.execActivateFirmware session s
  | .idleDwell st => Sys2Proof.Machine.execIdleDwell st s
  | .wakeComplete => Sys2Proof.Machine.execWakeComplete s
  | .toleranceWindowExpiry => Sys2Proof.Machine.execToleranceWindowExpiry s
  | .stateLimitWrite ch v => Sys2Proof.Machine.execStateLimitWrite ch v s
  | .capWrite ch v => Sys2Proof.Machine.execCapWrite ch v s
  | .governor1ms mw => Sys2Proof.Machine.execGovernor1ms mw s
  | .governor100ms mw => Sys2Proof.Machine.execGovernor100ms mw s
  | .tempSample readings completes => Sys2Proof.Machine.execTempSample readings completes s
  | .thermalStageExit => Sys2Proof.Machine.execThermalStageExit s
  | .thermalShutdownTimeout => Sys2Proof.Machine.execThermalShutdownTimeout s
  | .sensorFault sensor => Sys2Proof.Machine.execSensorFault sensor s
  | .stagingFlush => Sys2Proof.Machine.execStagingFlush s
  | .logGroupWritten => Sys2Proof.Machine.execLogGroupWritten s
  | .logFreeze o => Sys2Proof.Machine.execLogFreeze o s
  | .logThaw o => Sys2Proof.Machine.execLogThaw o s
  | .logFreezeTimeout => Sys2Proof.Machine.execLogFreezeTimeout s
  | .clearPinned ch => Sys2Proof.Machine.execClearPinned ch s
  | .clearAll ch => Sys2Proof.Machine.execClearAll ch s
  | .logWindowLoad ch hi => Sys2Proof.Machine.execLogWindowLoad ch hi s
  | .healthSave => Sys2Proof.Machine.execHealthSave s
  | .tempBinMinute => Sys2Proof.Machine.execTempBinMinute s
  | .eventEnableWrite ch word v => Sys2Proof.Machine.execEventEnableWrite ch word v s
  | .attrRead o => Sys2Proof.Machine.execAttrRead o s
  | .attrWrite o => Sys2Proof.Machine.execAttrWrite o s
  | .attrBulkRead o => Sys2Proof.Machine.execAttrBulkRead o s
  | .clipForce o => Sys2Proof.Machine.execClipForce o s
  | .patrolFull o => Sys2Proof.Machine.execPatrolFull o s
  | .nsSanitize o => Sys2Proof.Machine.execNsSanitize o s
  | .nsRekey o => Sys2Proof.Machine.execNsRekey o s
  | .dieRetire o => Sys2Proof.Machine.execDieRetire o s
  | .dieUnresponsive die => Sys2Proof.Machine.execDieUnresponsive die s
  | .twinResync o => Sys2Proof.Machine.execTwinResync o s
  | .nsMigrate o => Sys2Proof.Machine.execNsMigrate o s
  | .nsExport o => Sys2Proof.Machine.execNsExport o s
  | .nsImport o => Sys2Proof.Machine.execNsImport o s
  | .selftestExt o => Sys2Proof.Machine.execSelftestExt o s
  | .jobSuspend o => Sys2Proof.Machine.execJobSuspend o s
  | .jobResume o => Sys2Proof.Machine.execJobResume o s
  | .jobCancel o => Sys2Proof.Machine.execJobCancel o s
  | .jobStatus o => Sys2Proof.Machine.execJobStatus o s
  | .jobStep id x => Sys2Proof.Machine.execJobStep id x s
  | .jobDequeue => Sys2Proof.Machine.execJobDequeue s
  | .jobEntryExpiry id => Sys2Proof.Machine.execJobEntryExpiry id s
  | .jobSuspendedLong id => Sys2Proof.Machine.execJobSuspendedLong id s
  | .fwDownload o img => Sys2Proof.Machine.execFwDownload o img s
  | .downloadIdleTimeout => Sys2Proof.Machine.execDownloadIdleTimeout s
  | .fwActivate o twinDl twinDigest => Sys2Proof.Machine.execFwActivate o twinDl twinDigest s
  | .fwActivateRestart o twinDl twinDigest => Sys2Proof.Machine.execFwActivateRestart o twinDl twinDigest s
  | .fwRollStep ok => Sys2Proof.Machine.execFwRollStep ok s
  | .fwRollFailed cluster => Sys2Proof.Machine.execFwRollFailed cluster s
  | .clusterReset ch cluster => Sys2Proof.Machine.execClusterReset ch cluster s
  | .portReset ch port => Sys2Proof.Machine.execPortReset ch port s
  | .twinPortReset ch => Sys2Proof.Machine.execTwinPortReset ch s
  | .hedgerowPortReset ch east => Sys2Proof.Machine.execHedgerowPortReset ch east s
  | .driveReset ch => Sys2Proof.Machine.execDriveReset ch s
  | .sidebandLockWrite ch v => Sys2Proof.Machine.execSidebandLockWrite ch v s
  | .opMessage session exchange h body => Sys2Proof.Machine.execOpMessage session exchange h body s
  | .getSensorReading session id => Sys2Proof.Machine.execGetSensorReading session id s
  | .getStateSensorReadings session id => Sys2Proof.Machine.execGetStateSensorReadings session id s
  | .pldmFwUpdate session component off len last img => Sys2Proof.Machine.execPldmFwUpdate session component off len last img s
  | .mctpControl command arg => Sys2Proof.Machine.execMctpControl command arg s
  | .eraseWindowEnd die => Sys2Proof.Machine.execEraseWindowEnd die s
  | .auxPowerApplied isOpen => Sys2Proof.Machine.execAuxPowerApplied isOpen s
  | .auxPowerRemoved => Sys2Proof.Machine.execAuxPowerRemoved s
  | .ptpIntervalTransmit port kind => Sys2Proof.Machine.execPtpIntervalTransmit port kind s
  | .duplicateAddressDetection port vid v6 address => Sys2Proof.Machine.execDuplicateAddressDetection port vid v6 address s
  | .maintFuseArmExpiry => Sys2Proof.Machine.execMaintFuseArmExpiry s

end Sys2Proof.Machine
end

