-- ==== Sys2Proof/Machine/Step.lean ====
section
/-! DEFINITION. Machine/Step.lean: one step takes the command at the front of the queue; on an empty queue time passes (log entry 4). -/

namespace Sys2Proof.Machine
open Sys2Proof

/-- With nothing waiting, one nanosecond of operating time passes while the drive is powered (R566). -/
def State.idle (s : State) : State := { s with dev := if s.dev.mod.mainOn then s.dev.advanceTo (s.dev.now + 1) else s.dev }

def step (s : State) : Host.Outcome State Fault Refusal :=
  match s.pending with
  | [] => .next s.idle
  | c :: r => exec c { s with pending := r }

/-- The command that a word spells goes to the front of the queue; no word spells one. -/
def State.withFetchWord (s : State) (nbits w : Nat) : State :=
  match decodeTableWord nbits w with
  | some c => { s with pending := c :: s.pending }
  | none => s

end Sys2Proof.Machine
end

