-- ==== Sys2Proof/Safety.lean ====
section
/-! DEFINITION. Safety.lean: the terms in which statements about the drive are made: completion of a command, the parts of the drive a
command can change, steps one after another, and the invariants. -/

namespace Sys2Proof.Machine
open Sys2Proof

/-- A command completes: it answers a next state whose queue is as it was, and of whose drive `P` holds. -/
def Completes (i : Instr) (s : State) (P : Drive → Prop) : Prop := ∃ t, exec i s = .next t ∧ t.pending = s.pending ∧ P t.dev

/-- An admitted request of an operation waits for its command at a live drive, and it is its turn: no management request of its channel stands
before it (R814). -/
structure Drive.Asks (d : Drive) (o : Origin) (op : Nat) (r : Req) : Prop where
  live : d.live = true
  req : d.req? o = some r
  active : r.phase = .active
  opcode : r.hdr.opcode = op
  turn : d.sequenced r = true

/-- The drive is live and takes messages of its twin: the link is up, its other end is the recorded twin, and the drive is paired. -/
structure Drive.TwinSpeaks (d : Drive) : Prop where
  live : d.live = true
  up : d.twin.linkUp = true
  authentic : d.twin.authenticated = true
  paired : d.twin.state ≠ 0

/-- The drive is live and takes a ring frame of the member at `src`: it has the hedgerow key and the member's parameters, and the number is new. -/
structure Drive.RingHears (d : Drive) (src seq : Nat) : Prop where
  live : d.live = true
  keyed : d.ringKeyed = true
  known : (tget? src d.keys.ringSenders).isSome = true
  unseen : d.ring.seqIn.contains (src, false, seq) = false

/-- The drive can send to a position: it has the hedgerow key, a way there, and that side's link is UP. -/
structure Drive.RingReaches (d : Drive) (dest : Nat) (east : Bool) : Prop where
  keyed : d.ringKeyed = true
  reached : d.reaches dest = true
  way : d.ringWay dest = some east
  link : (d.prt (if east then 3 else 4)).link = 4

/-- A data request that is admitted, passes the ordered checks of Table 1.6 up to order 9, is served here, on a key that no cross-home
batch holds, in a namespace that is not swept nor cut over, with Holly able to seal and open. -/
structure Drive.Serves (d : Drive) (o : Origin) (op : Nat) (write : Bool) (r : Req) : Prop where
  live : d.live = true
  req : d.req? o = some r
  active : r.phase = .active
  opcode : r.hdr.opcode = op
  early : d.checks14 r = none
  late : d.checks69 r (d.originTenant r) write = none
  here : d.route (d.ns r.hdr.ns) (d.isHome r.hdr.ns r.key) write = .here
  still : (d.ns r.hdr.ns).state ≠ 0x22
  stays : (d.ns r.hdr.ns).cutover = false
  unheld : d.held r.hdr.ns r.key = false
  holly : d.hollyUp = true

/-- The write shelf's records have numbers below the next one: a record that is shelved takes no other's place. -/
def Drive.ShelfNumbered (d : Drive) : Prop := ∀ p ∈ d.kv.shelf, p.1 < d.kv.shelfNext

/-- The parts of the drive, one for each field of `Drive`. -/
inductive Part where
  | kv | media | twin | ring | keys | holly | xp | time | sec | mod | port | privet | rec_ | meter | power | therm | health | flag
  | optf | jobs | chans | healthSaved | ident | out | free
deriving DecidableEq, Repr

/-- The drive with the parts of a list blanked out. -/
def Drive.mask (ps : List Part) (d : Drive) : Drive where
  kv := if Part.kv ∈ ps then {} else d.kv
  media := if Part.media ∈ ps then {} else d.media
  twin := if Part.twin ∈ ps then {} else d.twin
  ring := if Part.ring ∈ ps then {} else d.ring
  keys := if Part.keys ∈ ps then {} else d.keys
  holly := if Part.holly ∈ ps then {} else d.holly
  xp := if Part.xp ∈ ps then {} else d.xp
  time := if Part.time ∈ ps then {} else d.time
  sec := if Part.sec ∈ ps then {} else d.sec
  mod := if Part.mod ∈ ps then {} else d.mod
  port := if Part.port ∈ ps then {} else d.port
  privet := if Part.privet ∈ ps then {} else d.privet
  rec_ := if Part.rec_ ∈ ps then {} else d.rec_
  meter := if Part.meter ∈ ps then {} else d.meter
  power := if Part.power ∈ ps then {} else d.power
  therm := if Part.therm ∈ ps then {} else d.therm
  health := if Part.health ∈ ps then {} else d.health
  flag := if Part.flag ∈ ps then {} else d.flag
  optf := if Part.optf ∈ ps then {} else d.optf
  jobs := if Part.jobs ∈ ps then {} else d.jobs
  chans := if Part.chans ∈ ps then [] else d.chans
  healthSaved := if Part.healthSaved ∈ ps then {} else d.healthSaved
  ident := if Part.ident ∈ ps then {} else d.ident
  out := if Part.out ∈ ps then [] else d.out
  free := if Part.free ∈ ps then 0 else d.free

/-- `b` differs from `a` in no part outside the list. -/
structure Drive.changesOnly (ps : List Part) (a b : Drive) : Prop where
  same : b.mask ps = a.mask ps

/-- Parts that recording an event can change: the record, the notices of session 0 and their frames. -/
def Part.tells : List Part := [.keys, .xp, .port, .rec_, .meter, .flag, .out]

/-- Parts that answering a request can change. -/
def Part.answers : List Part := [.kv, .twin, .ring, .keys, .xp, .port, .meter, .out, .free]

/-- Parts that a stop of the islands can change. -/
def Part.stops : List Part := [.kv, .media, .twin, .ring, .keys, .holly, .xp, .sec, .mod, .port, .privet, .rec_, .meter, .power, .therm, .flag, .optf, .jobs, .chans, .out]

/-- The parts of the drive that a command can change. -/
def partsOf : Instr → List Part
  | .put .. => Part.tells ++ Part.answers ++ [.media]
  | .putCommit .. => Part.tells ++ Part.answers ++ [.media, .time]
  | .delete .. => Part.tells ++ Part.answers ++ [.media, .time]
  | .get .. => Part.tells ++ Part.answers ++ [.media]
  | .getRange .. => Part.tells ++ Part.answers ++ [.media]
  | .existsKey .. => Part.tells ++ Part.answers ++ [.media]
  | .list .. => Part.answers ++ [.media]
  | .batch .. => Part.tells ++ Part.answers ++ [.media, .time]
  | .batchAtomic .. => Part.tells ++ Part.answers ++ [.media, .time]
  | .locGet .. => Part.tells ++ Part.answers ++ [.media, .health]
  | .locDelete .. => Part.tells ++ Part.answers ++ [.media, .time, .health]
  | .relocAck .. => Part.tells ++ Part.answers ++ [.media]
  | .ping .. => Part.answers
  | .deadlineMissed .. => Part.tells ++ Part.answers ++ [.media, .time]
  | .commitWaitExpiry .. => Part.answers ++ [.time]
  | .supersedeConfirm .. => Part.tells ++ [.kv]
  | .openFrame .. => Part.tells ++ Part.answers ++ [.media, .time, .power]
  | .sessionOpen .. => Part.tells ++ Part.answers
  | .sessionClose .. => Part.tells ++ Part.answers
  | .sessionRekey .. => Part.tells ++ Part.answers
  | .dataFrame .. => Part.tells ++ Part.answers ++ [.time, .power]
  | .ackFrame .. => Part.tells ++ [.power]
  | .ackDelayExpiry .. => [.keys, .xp, .time, .port, .meter, .out]
  | .retransmissionTimeout .. => Part.tells ++ [.time]
  | .keepAlive .. => [.keys, .xp, .time, .port, .meter, .out]
  | .idleTimeout .. => Part.tells ++ [.time]
  | .openingTimeout .. => Part.tells ++ Part.answers ++ [.media, .time]
  | .drainComplete .. => Part.tells ++ Part.answers ++ [.media]
  | .drainingTimeout .. => Part.tells ++ Part.answers ++ [.media, .time]
  | .windowReopenAck .. => [.keys, .xp, .time, .port, .meter, .out]
  | .pathSilence .. => Part.tells ++ [.time]
  | .rekeyRequired .. => Part.tells
  | .sessionExhausted .. => [.keys]
  | .keyPhaseRetire .. => [.keys, .time]
  | .shearsAdmit .. => [.kv, .xp]
  | .fwdWrite .. => Part.tells ++ Part.answers ++ [.media, .time, .power, .health]
  | .fwdRead .. => Part.tells ++ Part.answers ++ [.media, .time, .power, .health]
  | .fwdReply .. => Part.tells ++ Part.answers ++ [.media, .time, .power]
  | .fwdData .. => Part.tells ++ [.kv, .twin, .time, .power, .free]
  | .mirror .. => Part.tells ++ Part.answers ++ [.media, .time, .power]
  | .mirrorAck .. => Part.tells ++ Part.answers ++ [.media, .time, .power]
  | .prepare .. => Part.tells ++ [.kv, .twin, .time, .power, .free]
  | .prepared .. => Part.tells ++ Part.answers ++ [.media, .time, .power]
  | .refused .. => Part.tells ++ Part.answers ++ [.time, .power]
  | .commit .. => Part.tells ++ [.kv, .media, .twin, .time, .power, .free]
  | .abort .. => Part.tells ++ [.kv, .time, .power]
  | .committed .. => Part.tells ++ Part.answers ++ [.media, .time, .power]
  | .prepareTimeout .. => Part.tells ++ Part.answers ++ [.time]
  | .heartbeat .. => Part.tells ++ [.media, .twin, .power]
  | .heartbeatSend => Part.tells ++ Part.answers ++ [.media, .time, .power, .jobs]
  | .reserveReq .. => Part.tells ++ [.twin, .time, .power, .free]
  | .reserveGrant .. => Part.tells ++ [.kv, .twin, .time, .power]
  | .chunkFetch .. => Part.tells ++ [.time, .power, .free]
  | .chunkData .. => Part.tells ++ Part.answers ++ [.media, .health]
  | .chunkFetchTimeout .. => Part.tells ++ Part.answers ++ [.media, .time, .health]
  | .tableChange .. => Part.tells ++ Part.answers ++ [.media, .holly, .time, .power, .optf, .jobs]
  | .tableAck .. => Part.tells ++ Part.answers ++ [.time, .power]
  | .hello .. => Part.tells ++ Part.answers ++ [.media, .time, .power, .jobs]
  | .resyncData .. => Part.tells ++ Part.answers ++ [.media, .holly, .time, .power, .optf]
  | .homeReturn .. => Part.tells ++ [.kv, .media, .twin, .time, .power, .jobs, .free]
  | .twinLinkUp .. => [.twin, .keys, .port, .out, .free]
  | .twinLinkDownTimeout => Part.tells ++ Part.answers ++ [.media, .time, .power, .jobs]
  | .heartbeatSilence => Part.tells ++ Part.answers ++ [.media, .time, .power, .jobs]
  | .joiningTimeout => Part.tells ++ Part.answers ++ [.time]
  | .leaseReq .. => [.ring, .port, .out, .free]
  | .leaseReqResend => Part.answers ++ [.time, .flag]
  | .probe .. => [.ring, .port, .out, .free]
  | .probeAnswer .. => [.ring, .port, .out, .free]
  | .witnessProbeTick .. => [.ring, .time, .port, .out, .free]
  | .witnessGrantHold .. => [.ring, .time, .port, .out, .free]
  | .leaseGrant .. => Part.tells ++ Part.answers ++ [.media, .time]
  | .leaseDeny .. => Part.answers
  | .fencedNotice .. => Part.answers
  | .clear .. => [.ring, .port, .out, .free]
  | .clearSend => [.twin, .ring, .time, .port, .out, .free]
  | .cleared .. => [.twin, .ring, .port]
  | .clearanceLapse => [.twin, .time]
  | .leaseAssert .. => [.ring, .port]
  | .leaseAssertSend => [.twin, .ring, .time, .port, .out, .free]
  | .leaseRelease .. => [.ring, .port]
  | .witnessFreezeEnd => [.ring, .time]
  | .witnessGrant .. => Part.tells ++ Part.answers ++ [.media, .time, .power, .chans]
  | .witnessFence .. => Part.tells ++ Part.answers ++ [.media, .time, .power, .chans]
  | .witnessClear .. => Part.tells ++ Part.answers ++ [.media, .time, .power, .chans]
  | .witnessWrite .. => Part.tells ++ [.twin, .time, .power, .chans]
  | .twinAdopt .. => Part.tells ++ Part.answers ++ [.media, .holly, .time, .power, .optf, .jobs]
  | .twinRelease .. => Part.tells ++ Part.answers ++ [.media, .time]
  | .ringHello .. => Part.tells ++ [.ring]
  | .ringHelloSend => [.ring, .time, .port, .out, .free]
  | .ringLinkLoss .. => Part.tells ++ [.ring, .time]
  | .ringFrameForward .. => [.ring, .port, .out, .free]
  | .mgmtReq .. => Part.stops ++ [.time, .health, .free]
  | .mgmtReply .. => Part.tells ++ Part.answers ++ [.time, .power]
  | .migrateData .. => Part.tells ++ Part.answers ++ [.media, .time, .power]
  | .migrateCtl .. => Part.tells ++ Part.answers ++ [.media, .holly, .power, .optf, .jobs]
  | .ptpMessage .. => Part.tells ++ [.ring, .time, .free]
  | .tenantCreate .. => Part.tells ++ Part.answers ++ [.media, .holly, .optf]
  | .tenantDelete .. => Part.tells ++ Part.answers ++ [.media, .holly, .optf]
  | .nsCreate .. => Part.tells ++ Part.answers ++ [.media, .holly, .optf]
  | .nsDelete .. => Part.tells ++ Part.answers ++ [.media, .holly, .optf]
  | .nsSetQuota .. => Part.tells ++ Part.answers ++ [.media, .holly, .optf]
  | .nsRaiseGen .. => Part.tells ++ Part.answers ++ [.media, .holly, .optf]
  | .nsSetSoloWrites .. => Part.tells ++ Part.answers ++ [.media, .holly, .optf]
  | .nsInfo .. => Part.answers
  | .sweepComplete .. => Part.tells ++ [.kv, .media]
  | .arrayReadComplete .. => Part.tells ++ Part.answers ++ [.media, .health]
  | .suspendComplete .. => [.media, .time]
  | .busyWindowEntry .. => [.media]
  | .starvationGuardTrip .. => [.media, .time]
  | .reconInterval => [.media, .time]
  | .programComplete .. => Part.tells ++ Part.answers ++ [.media, .power, .health]
  | .eraseComplete .. => Part.tells ++ [.kv, .media, .power, .health]
  | .programFail .. => Part.tells ++ [.kv, .media, .health]
  | .eraseFail .. => Part.tells ++ [.kv, .media, .health]
  | .shelfDrain => [.kv, .media]
  | .shelfAdmit .. => Part.tells ++ Part.answers ++ [.media, .time, .health]
  | .folding .. => Part.tells ++ [.kv, .media, .time, .power, .health]
  | .clipVictimSelect .. => Part.tells ++ [.kv, .media, .time, .power, .health]
  | .patrolVisit .. => Part.tells ++ [.media, .time, .power, .health, .free]
  | .patrolLate .. => Part.tells ++ [.media, .time]
  | .healthWearUpdate => Part.tells ++ [.media, .time, .health]
  | .deltaDrain => Part.tells ++ Part.answers ++ [.media, .time, .power, .health]
  | .checkpoint => Part.tells ++ [.kv, .media, .time, .power, .health]
  | .powerFail => Part.stops ++ [.time]
  | .flushComplete => [.kv, .media, .twin, .ring, .keys, .holly, .xp, .time, .sec, .mod, .port, .privet, .rec_, .power, .therm, .optf, .jobs, .chans]
  | .holdupMeasure .. => Part.tells ++ [.media, .time, .health]
  | .kekImport .. => Part.tells ++ [.sec, .optf, .free]
  | .tenantKeyLoad .. => Part.tells ++ Part.answers ++ [.media, .optf]
  | .keyEraseWrapping .. => Part.tells ++ Part.answers ++ [.media, .holly, .optf]
  | .keyErasePrevious .. => Part.tells ++ Part.answers ++ [.media, .holly, .optf]
  | .keyEraseCurrent .. => Part.tells ++ Part.answers ++ [.media, .holly, .optf]
  | .keyEraseTenant .. => Part.tells ++ Part.answers ++ [.media, .holly, .optf]
  | .keyEraseSystem .. => Part.tells ++ Part.answers ++ [.holly, .optf]
  | .slotBufferRelease .. => [.keys]
  | .storageLoadResume .. => Part.tells ++ [.kv, .media, .twin, .optf, .free]
  | .hollyDispatch .. => Part.tells ++ Part.answers ++ [.media, .holly]
  | .compatSuspend .. => Part.answers ++ [.media, .holly, .time]
  | .compatResume .. => Part.answers ++ [.media, .holly]
  | .drbgError => Part.tells ++ Part.answers ++ [.media, .holly, .time, .sec, .mod, .health, .optf, .healthSaved]
  | .autonegComplete .. => [.port]
  | .trainingComplete .. => [.port]
  | .linkUp .. => Part.tells ++ [.ring, .free]
  | .linkDown .. => Part.tells ++ [.twin, .ring]
  | .holdoffExpiry .. => [.time, .port]
  | .trainingFail .. => Part.tells
  | .speedFallbackExpiry .. => Part.tells ++ [.twin, .ring, .time]
  | .portRetrain .. => Part.tells ++ [.twin, .ring, .time, .power, .chans]
  | .portEnableWrite .. => Part.tells ++ [.twin, .ring, .time, .power, .chans]
  | .frameReceive .. => Part.tells ++ [.privet, .free]
  | .arpFrame .. => Part.tells ++ [.free]
  | .ndFrame .. => Part.tells ++ [.free]
  | .icmpEcho .. => [.port, .out, .free]
  | .dhcpMessage .. => [.port, .out, .free]
  | .dhcpLeaseLost .. => Part.tells ++ [.time]
  | .lldpFrame .. => Part.tells
  | .lldpTransmit => [.time, .port, .out, .free]
  | .txtsRead .. => [.port, .out, .free]
  | .statsModeWrite .. => Part.tells ++ [.time, .power, .chans]
  | .w1cWrite .. => Part.tells ++ [.time, .sec, .power, .chans]
  | .entryRead .. => Part.tells ++ [.time, .privet, .power, .chans]
  | .entryWrite .. => Part.tells ++ [.time, .privet, .power, .chans]
  | .entryInvalidate .. => Part.tells ++ [.time, .privet, .power, .chans]
  | .entryMove .. => Part.tells ++ [.time, .privet, .power, .chans]
  | .actionRead .. => Part.tells ++ [.time, .privet, .power, .chans]
  | .actionWrite .. => Part.tells ++ [.time, .privet, .power, .chans]
  | .bankWidthWrite .. => Part.tells ++ [.time, .privet, .power, .chans]
  | .defaultActionWrite .. => Part.tells ++ [.time, .privet, .power, .chans]
  | .probeFirst .. => Part.tells ++ [.time, .privet, .power, .chans]
  | .probeNext .. => Part.tells ++ [.time, .privet, .power, .chans]
  | .privetScrub .. => Part.tells ++ [.time, .privet]
  | .ppsInEdge .. => Part.tells ++ [.time, .free]
  | .todMessage .. => Part.tells ++ [.time]
  | .sourceLost .. => Part.tells ++ [.time, .free]
  | .sourceChange .. => Part.tells ++ [.time]
  | .holdoverTrustLost => Part.tells ++ [.time, .free]
  | .wallSet .. => Part.tells ++ [.time, .power, .chans]
  | .optimeReservation => [.time, .optf]
  | .ppsOutEdge => [.time, .out, .free]
  | .leapSecond => [.time]
  | .meterTick .. => Part.tells ++ [.time]
  | .meterExtendedEnd => Part.tells ++ [.time, .free]
  | .meterIntervalWrite .. => Part.tells ++ [.time, .power, .chans]
  | .weightRecalibrate .. => [.time, .meter, .free]
  | .meterRead .. => Part.answers
  | .meterAck .. => Part.tells ++ Part.answers
  | .zeroizePin => Part.stops
  | .tamperLoopSample .. => Part.stops
  | .zeroizeArm .. => Part.stops ++ [.time]
  | .zeroizeConfirm .. => Part.stops ++ [.time]
  | .zeroizeArmExpiry => [.time, .sec]
  | .zeroiseEraseComplete => Part.tells ++ [.sec, .mod, .optf]
  | .maintEnableWrite .. => Part.tells ++ [.time, .sec, .power, .chans]
  | .maintFuseArm .. => Part.tells ++ [.time, .sec, .power, .chans]
  | .maintFuseConfirm .. => Part.tells ++ [.time, .sec, .power, .chans]
  | .maintToken .. => Part.tells ++ [.sec, .optf]
  | .maintExit .. => Part.tells ++ [.sec]
  | .maintDurationExpiry => Part.tells ++ [.time, .sec]
  | .svnRaise => Part.tells ++ [.time, .sec]
  | .continuousTestFail .. => Part.tells ++ Part.answers ++ [.media, .time, .sec, .mod, .health, .optf, .healthSaved]
  | .getVersion => Part.tells ++ [.sec]
  | .getCapabilities .. => Part.tells ++ [.sec]
  | .negotiateAlgorithms .. => Part.tells ++ [.sec]
  | .getDigests .. => Part.tells ++ [.sec]
  | .getCertificate .. => Part.tells ++ [.sec, .optf]
  | .challenge .. => Part.tells ++ [.sec, .free]
  | .getMeasurements .. => Part.tells ++ [.sec]
  | .keyExchange => Part.tells ++ [.sec]
  | .finish .. => Part.tells ++ [.sec]
  | .spdmHeartbeat .. => Part.tells ++ [.sec]
  | .keyUpdate .. => Part.tells ++ [.sec]
  | .endSession .. => Part.tells ++ [.sec]
  | .getCsr .. => Part.tells ++ [.sec, .free]
  | .setCertificate .. => Part.tells ++ [.sec, .optf]
  | .vendorDefinedRequest .. => Part.tells ++ [.sec, .health, .free]
  | .supplyLow .. => Part.tells
  | .supplyHigh .. => Part.stops ++ [.time]
  | .auxLost => Part.tells ++ [.mod]
  | .auxRestored => Part.tells ++ [.mod]
  | .pwrdisAssert .. => Part.stops ++ [.time, .health, .healthSaved, .free]
  | .mrstN => Part.stops ++ [.time]
  | .slotIdChange .. => Part.tells ++ [.mod]
  | .twinPrsntChange .. => Part.tells ++ [.twin]
  | .i3cDynamicAddress .. => [.mod, .out]
  | .i3cRstdaa => [.mod]
  | .locateExpiry => [.time, .mod]
  | .start .. => Part.stops ++ [.time, .health, .healthSaved, .free]
  | .deviceReady => Part.tells ++ Part.answers ++ [.time, .sec, .mod, .optf]
  | .startTimeout => [.kv, .media, .twin, .ring, .keys, .holly, .xp, .time, .sec, .mod, .port, .privet, .rec_, .power, .therm, .optf, .jobs, .chans]
  | .clusterFault => [.kv, .media, .twin, .ring, .keys, .holly, .xp, .sec, .mod, .port, .privet, .rec_, .power, .therm, .optf, .jobs, .chans]
  | .xipRelease .. => Part.tells ++ [.time, .power, .optf, .chans]
  | .tcmLoadComplete => [.optf]
  | .xipResume .. => Part.tells ++ [.time, .sec, .mod, .power, .optf]
  | .xipAutoResume => Part.tells ++ [.time, .sec, .mod, .optf]
  | .optfOperationComplete => Part.tells ++ Part.answers ++ [.sec, .mod, .optf]
  | .activateFirmware .. => Part.stops ++ [.free]
  | .idleDwell .. => Part.tells ++ [.time, .power]
  | .wakeComplete => Part.tells ++ [.time, .power]
  | .toleranceWindowExpiry => [.time, .power]
  | .stateLimitWrite .. => Part.tells ++ [.time, .power, .chans]
  | .capWrite .. => Part.tells ++ [.media, .time, .power, .chans]
  | .governor1ms .. => Part.tells ++ [.kv, .media, .time, .power, .health]
  | .governor100ms .. => Part.tells ++ [.time, .power]
  | .tempSample .. => Part.stops ++ [.time, .health, .healthSaved, .free]
  | .thermalStageExit => Part.tells ++ [.media, .time, .power, .therm]
  | .thermalShutdownTimeout => Part.tells ++ [.kv, .media, .time, .sec, .mod, .optf]
  | .sensorFault .. => Part.tells ++ [.media, .time, .power, .therm]
  | .stagingFlush => [.time, .rec_]
  | .logGroupWritten => Part.tells
  | .logFreeze .. => Part.tells ++ Part.answers
  | .logThaw .. => Part.tells ++ Part.answers
  | .logFreezeTimeout => Part.tells ++ [.time]
  | .clearPinned .. => Part.tells ++ [.time, .power, .chans]
  | .clearAll .. => Part.tells ++ [.time, .power, .chans]
  | .logWindowLoad .. => Part.tells ++ [.time, .power, .chans]
  | .healthSave => [.time, .health, .healthSaved]
  | .tempBinMinute => [.time, .health]
  | .eventEnableWrite .. => Part.tells ++ [.time, .power, .chans]
  | .attrRead .. => Part.answers ++ [.privet, .chans]
  | .attrWrite .. => Part.stops ++ [.time, .health, .free]
  | .attrBulkRead .. => Part.answers
  | .clipForce .. => Part.tells ++ Part.answers ++ [.sec, .jobs]
  | .patrolFull .. => Part.tells ++ Part.answers ++ [.sec, .jobs]
  | .nsSanitize .. => Part.tells ++ Part.answers ++ [.sec, .jobs]
  | .nsRekey .. => Part.tells ++ Part.answers ++ [.sec, .jobs]
  | .dieRetire .. => Part.tells ++ Part.answers ++ [.sec, .jobs]
  | .dieUnresponsive .. => Part.tells ++ Part.answers ++ [.media, .health, .jobs]
  | .twinResync .. => Part.tells ++ Part.answers ++ [.sec, .jobs]
  | .nsMigrate .. => Part.tells ++ Part.answers ++ [.sec, .jobs]
  | .nsExport .. => Part.tells ++ Part.answers ++ [.sec, .jobs]
  | .nsImport .. => Part.tells ++ Part.answers ++ [.sec, .jobs]
  | .selftestExt .. => Part.tells ++ Part.answers ++ [.sec, .jobs]
  | .jobSuspend .. => Part.tells ++ Part.answers ++ [.power, .jobs]
  | .jobResume .. => Part.tells ++ Part.answers ++ [.sec, .jobs]
  | .jobCancel .. => Part.tells ++ Part.answers ++ [.sec, .jobs]
  | .jobStatus .. => Part.answers
  | .jobStep .. => Part.tells ++ Part.answers ++ [.media, .holly, .time, .sec, .mod, .power, .health, .optf, .jobs, .healthSaved]
  | .jobDequeue => Part.tells ++ [.sec, .jobs]
  | .jobEntryExpiry .. => [.time, .jobs]
  | .jobSuspendedLong .. => Part.tells ++ [.time, .jobs]
  | .fwDownload .. => Part.tells ++ Part.answers ++ [.sec, .optf]
  | .downloadIdleTimeout => [.time, .optf]
  | .fwActivate .. => Part.tells ++ Part.answers ++ [.jobs]
  | .fwActivateRestart .. => Part.stops ++ [.time, .health, .healthSaved, .free]
  | .fwRollStep .. => Part.tells ++ [.time, .sec, .power, .optf, .jobs]
  | .fwRollFailed .. => Part.tells ++ [.power, .optf, .jobs]
  | .clusterReset .. => Part.stops ++ [.time]
  | .portReset .. => Part.stops ++ [.time]
  | .twinPortReset .. => Part.stops ++ [.time]
  | .hedgerowPortReset .. => Part.stops ++ [.time]
  | .driveReset .. => Part.stops ++ [.time]
  | .sidebandLockWrite .. => Part.stops ++ [.time, .health, .free]
  | .opMessage .. => Part.tells ++ [.kv, .sec, .mod, .privet, .chans]
  | .getSensorReading .. => [.out]
  | .getStateSensorReadings .. => [.out]
  | .pldmFwUpdate .. => Part.tells ++ [.sec, .optf, .free]
  | .mctpControl .. => [.mod, .out, .free]
  | .eraseWindowEnd .. => [.media, .time]
  | .auxPowerApplied .. => Part.stops
  | .auxPowerRemoved => [.sec, .mod, .optf]
  | .ptpIntervalTransmit .. => Part.tells ++ [.time, .free]
  | .duplicateAddressDetection .. => [.port, .out, .free]
  | .maintFuseArmExpiry => [.time, .sec]

/-- Registers that keep their value over commands, starts and resets, but for the few commands that write them. -/
inductive Register where
  | identity | powerCycles | zeroFuse | maintFuse | svnMinFw | svnMinOpt | operatorKeys | codeKeysRevoked | certificate | twinRole | twinSerial
  | eid | straps | shelfLimit | retiredDies | fwRunning | energyTotal
deriving DecidableEq, Repr

/-- The register has one value in both drives. -/
def Register.same (a b : Drive) : Register → Prop
  | .identity => b.ident = a.ident
  | .powerCycles => b.time.powerCycles = a.time.powerCycles
  | .zeroFuse => b.sec.zeroFuse = a.sec.zeroFuse
  | .maintFuse => b.sec.maintFuse = a.sec.maintFuse
  | .svnMinFw => b.sec.svnMinFw = a.sec.svnMinFw
  | .svnMinOpt => b.sec.svnMinOpt = a.sec.svnMinOpt
  | .operatorKeys => b.sec.otp = a.sec.otp
  | .codeKeysRevoked => b.sec.codeKeyRevoked = a.sec.codeKeyRevoked
  | .certificate => b.sec.slot1 = a.sec.slot1
  | .twinRole => b.twin.role = a.twin.role
  | .twinSerial => b.twin.serial = a.twin.serial
  | .eid => b.mod.eid = a.mod.eid
  | .straps => b.mod.straps = a.mod.straps
  | .shelfLimit => b.media.shelfLimitMiB = a.media.shelfLimitMiB
  | .retiredDies => b.media.retiredDies = a.media.retiredDies
  | .fwRunning => b.optf.fwRunning = a.optf.fwRunning
  | .energyTotal => b.meter.energyTotalUj = a.meter.energyTotalUj

/-- The registers of `Register` that a command can write. -/
def registersOf : Instr → List Register
  | .start .. => [.powerCycles, .operatorKeys, .straps, .fwRunning, .shelfLimit]
  | .deviceReady => [.svnMinOpt, .operatorKeys, .codeKeysRevoked]
  | .svnRaise => [.svnMinFw]
  | .setCertificate .. => [.certificate]
  | .zeroizePin => [.zeroFuse]
  | .tamperLoopSample .. => [.zeroFuse]
  | .zeroizeConfirm .. => [.zeroFuse]
  | .maintFuseConfirm .. => [.maintFuse]
  | .attrWrite .. => [.zeroFuse, .maintFuse]
  | .mgmtReq .. => [.zeroFuse, .maintFuse]
  | .twinAdopt .. => [.twinRole, .twinSerial]
  | .twinRelease .. => [.twinSerial]
  | .mctpControl .. => [.eid]
  | .auxPowerRemoved => [.eid]
  | .slotIdChange .. => [.straps]
  | .holdupMeasure .. => [.shelfLimit]
  | .jobStep .. => [.retiredDies]
  | .fwRollStep .. => [.fwRunning]
  | .meterTick .. => [.energyTotal]
  | .meterExtendedEnd => [.energyTotal]
  | _ => []

/-! ## Invariants -/

/-- The indices of a table rise strictly. -/
abbrev Tbl.ordered {α : Type} (t : Tbl α) : Prop := (t.map Prod.fst).Pairwise (· < ·)

/-- Operating time lies within the reserved blocks, and an exact value stands only for the present moment (R566, R568). -/
structure Drive.TimeKept (d : Drive) : Prop where
  reserved : d.time.opNs ≤ d.time.opReserved
  exact : ∀ e, d.time.exact = some e → e = d.time.opNs

/-- A drive whose ZEROISED fuse is blown is in ZEROISING or ZEROISED, and holds neither the root nor a storage key (R641, R643). -/
structure Drive.Zeroed (d : Drive) : Prop where
  state : d.sec.zeroFuse = true → d.sec.state = 0xA3 ∨ d.sec.state = 0xA4
  keys : d.sec.zeroFuse = true → d.keys.root = false ∧ d.keys.storage = []

/-- Erasures of a superblock, in either mode. -/
def Superblock.erasures (s : Superblock) : Nat := s.eraseQlc + s.eraseSlc

end Sys2Proof.Machine
end

