-- ==== Sys2Proof/Certificates/Slice0/Obligations.lean ====
section
/-! DEFINITION. Certificates/Slice0/Obligations.lean: the statements about the model. `Completes i s P`: command `i` answers a next state whose
queue is as it was and of whose drive `P` holds. -/

open Sys2Proof Sys2Proof.Machine

/-! ## The machine as a whole -/

/-- A step takes the command at the front of the queue: it is that command's effect with the queue's rest. On an empty queue one nanosecond of
operating time passes while the main rails are up, and nothing else happens: the model's choice (log entry 4). -/
def Obligations.StepRunsTheFront : Prop := (∀ (s : State) (c : Instr) (r : List Instr), s.pending = c :: r → step s = exec c { s with pending := r }) ∧
  (∀ (s : State), s.pending = [] → step s = .next { s with dev := if s.dev.mod.mainOn then s.dev.advanceTo (s.dev.now + 1) else s.dev })

/-- The machine at reset is a drive as delivered, without power: nothing waits; operating time and the power cycle count are 0; no session is open, no job stands, the
fuses are whole, and what every step keeps holds. The values the spec does not give are log entries 1 and 2. -/
def Obligations.ResetIsUnpowered : Prop := State.reset.pending = [] ∧ State.reset.dev.mod.mainOn = false ∧ State.reset.dev.now = 0 ∧
  State.reset.dev.time.powerCycles = 0 ∧ (∀ sid, (State.reset.dev.sess sid).state = 0x40 ∧ (State.reset.dev.sslot sid).state = 0x30) ∧
  State.reset.dev.jobs.table = [] ∧ State.reset.dev.sec.zeroFuse = false ∧ State.reset.dev.sec.maintFuse = false ∧ State.reset.dev.keys.root = false ∧
  State.reset.dev.kv.dir = [] ∧ Tbl.ordered State.reset.dev.media.sbs ∧ State.reset.dev.ShelfNumbered ∧ State.reset.dev.TimeKept ∧ State.reset.dev.Zeroed ∧
  (∀ n, (State.reset.dev.sb n).state = 0 ∨ (State.reset.dev.sb n).state = 5)

/-- Every command answers a next state, with the queue as it was, that differs from the state before in no part of the drive but those of `partsOf`. -/
def Obligations.CommandsKeepOtherParts : Prop := ∀ (i : Instr) (s : State), Completes i s (fun d => s.dev.changesOnly (partsOf i) d)

/-- The registers of `Register` (identity, fuses, SVN minimums, keys of images, the twin's serial and role, retired dies, the energy total, ...) keep
their values over every command, starts and resets included, that `registersOf` does not name for them. -/
def Obligations.RegistersHaveTheirWriters : Prop := ∀ (i : Instr) (s : State), Completes i s (fun d => ∀ r, r ∉ registersOf i → r.same s.dev d)

/-- The tables keep their form over every step: the job table holds no more than its 256 entries (R828); the indices of the superblocks rise strictly; the
numbers of the records in the write shelf lie below the next one. -/
def Obligations.TablesKeepTheirForm : Prop := ∀ (s t : State), step s = .next t → (s.dev.jobs.table.length ≤ 256 → t.dev.jobs.table.length ≤ 256) ∧
  (Tbl.ordered s.dev.media.sbs → Tbl.ordered t.dev.media.sbs) ∧ (s.dev.ShelfNumbered → t.dev.ShelfNumbered)

/-- Operating time never goes backwards, over starts as well (R566, R568). -/
def Obligations.OperatingTimeNeverReturns : Prop := ∀ (s t : State), s.dev.TimeKept → step s = .next t → t.dev.TimeKept ∧ s.dev.now ≤ t.dev.now

/-- The version last assigned never falls (R83), and the ZEROISED fuse, once blown, keeps the drive zeroised and without keys (R641, R643). -/
def Obligations.ZeroisationIsFinal : Prop := ∀ (s t : State), s.dev.Zeroed → step s = .next t → t.dev.Zeroed ∧
  (s.dev.sec.zeroFuse = true → t.dev.sec.zeroFuse = true) ∧ s.dev.kv.lastVersion ≤ t.dev.kv.lastVersion

/-- R645: the arming sequence blows the maintenance fuse, which is recorded; the fuse blown, SEC.MAINT_ENABLE reads 0 for ever, and a write of it is answered with STATE_CONFLICT and
the code of SEC.STATE. -/
def Obligations.MaintenanceFuseHolds : Prop := (∀ (s : State) (ch : Nat), s.dev.live = true →
    Completes (.maintFuseArm ch) s (fun d => d.sec.maintArmed = some (ch, d.now)) ∧
    (armedOn s.dev.awaken.now ch s.dev.sec.maintArmed = true → Completes (.maintFuseConfirm ch) s (fun d => d.sec.maintFuse = true ∧
      tgetD 0x453 0 d.rec_.counts = tgetD 0x453 0 s.dev.rec_.counts + 1)) ∧
    (s.dev.sec.maintFuse = true → ∀ v, Completes (.maintEnableWrite ch v) s (fun d => d.sec = s.dev.sec ∧
      Out.attr ch 0x120C St.stateConflict (conflictOffset s.dev.sec.state 0x12) ∈ d.out))) ∧
  (∀ (d : Drive) (ch : Nat), d.sec.maintFuse = true → d.sec.maintEnable = false → (readWord ch 0x120C d).1 = 0) ∧
  (∀ (s t : State), (s.dev.sec.maintFuse = true → s.dev.sec.maintEnable = false) → step s = .next t →
    (t.dev.sec.maintFuse = true → t.dev.sec.maintEnable = false) ∧ (s.dev.sec.maintFuse = true → t.dev.sec.maintFuse = true))

/-- R234: a superblock keeps the mode in which it was opened until it is erased. -/
def Obligations.SuperblockKeepsItsMode : Prop := ∀ (s t : State) (n : Nat), Tbl.ordered s.dev.media.sbs → step s = .next t → (s.dev.sb n).state ∈ [1, 2, 3, 4] →
  (t.dev.sb n).slc = (s.dev.sb n).slc ∨ (s.dev.sb n).erasures < (t.dev.sb n).erasures

/-- What is programmed stays: unless the superblock is erased, or the command is a start (which drops what a torn end left), every record of a superblock in use is there after the
step, at its granule. -/
def Obligations.ProgrammedRecordsStay : Prop := ∀ (s t : State) (n : Nat), Tbl.ordered s.dev.media.sbs → step s = .next t → (∀ u, s.pending.head? ≠ some (.start u)) →
  (s.dev.sb n).state ∈ [1, 2, 3, 4] → (s.dev.sb n).erasures < (t.dev.sb n).erasures ∨ ∀ p ∈ (s.dev.sb n).recs, p ∈ (t.dev.sb n).recs

/-- R12: a deadline is passed when (now − deadline) modulo 2^40 is less than 2^39, in microseconds of operating time. -/
def Obligations.DeadlinesPass : Prop := (∀ (now deadline : Nat), passed now deadline = true ↔ ((now : Int) - deadline) % 2 ^ 40 < 2 ^ 39) ∧
  (∀ (d : Drive) (t : WorkTag), d.late t = true ↔ (((d.time.opNs / 1000 : Nat) : Int) - t.deadline) % 2 ^ 40 < 2 ^ 39)

/-- R199, R200: where a granule lies; and so the 31 data pages of a stripe and its parity page lie on 32 different channels. -/
def Obligations.StripesSpreadOverChannels : Prop := (∀ g, stripeOf g = g / 1984 ∧ dataPageOf g = g % 1984 / 64 ∧ byteOf g = 256 * (g % 64) ∧
    parityChannel (stripeOf g) = stripeOf g % 32 ∧ channelOf g = (parityChannel (stripeOf g) + 1 + dataPageOf g) % 32) ∧
  (∀ g h, stripeOf g = stripeOf h → dataPageOf g ≠ dataPageOf h → channelOf g ≠ channelOf h) ∧ (∀ g, channelOf g ≠ parityChannel (stripeOf g))

/-! ## The key-value service (chapters 1 to 3) -/

/-- PUT at its home (R42, R44, R388): a request that is served here draws the next nonce of the tenant's CURRENT slot, and is held sealed with its header
and value as they came. PUT_COMMIT (R44, R81, R83): a sealed PUT to a keyed namespace whose condition holds and for which there is room gets a version
greater than every one before it, and its key then names a record of that version with the request's key and value; every other key names what it
named. DELETE (R50): a key that is deleted names no record afterwards; the keys of the namespace beside it, and every other namespace's, name what
they named; the deletion has a version of its own. -/
def Obligations.WritesTakeEffect : Prop := (∀ (s : State) (o : Origin) (r : Req) (i : Nat), s.dev.Serves o 0x02 true r →
  s.dev.canShelve = true → s.dev.canDelta = true → s.dev.slotIn (s.dev.originTenant r) 0x39 = some i →
  (s.dev.stslot i).nonce + 1 < s.dev.nonceEnd →
  Completes (.put o) s (fun d => (d.stslot i).nonce = (s.dev.stslot i).nonce + 1 ∧
    ∃ r', d.req? o = some r' ∧ r'.phase = .sealed ∧ r'.hdr = r.hdr ∧ r'.body = r.body ∧
      r'.serial = (s.dev.stslot i).serial ∧ r'.nonce = (s.dev.stslot i).nonce)) ∧
  (∀ (s : State) (o : Origin) (r : Req), s.dev.live = true → s.dev.req? o = some r → r.phase = .sealed →
  s.dev.held r.hdr.ns r.key = false → s.dev.earlierWrite r = false → (s.dev.ns r.hdr.ns).state ≠ 0x22 → (s.dev.ns r.hdr.ns).cutover = false →
  (s.dev.ns r.hdr.ns).located = false → passed s.dev.nowUs r.tag.deadline = false →
  (s.dev.slotOfSerial (s.dev.originTenant r) r.serial).isSome = true → s.dev.effTwin ≠ 5 → s.dev.media.wearReadOnly = false →
  s.dev.route (s.dev.ns r.hdr.ns) (s.dev.isHome r.hdr.ns r.key) true = .here → s.dev.versionsSpent r.input = false →
  s.dev.nsOwned r.hdr.ns (s.dev.originTenant r) = true →
  condOutcome 0x02 (condOf r.hdr.flags) r.hdr.condVersion ((s.dev.find? r.hdr.ns r.key).map (·.version)) = none →
  (s.dev.roomFor r.hdr.ns r.key (granules r.key.length r.hdr.valueLen) (s.dev.find? r.hdr.ns r.key).isNone).1 = none → s.dev.canAssign = true →
  s.dev.mirrorRoom o (s.dev.ns r.hdr.ns) = true → s.dev.ShelfNumbered →
  Completes (.putCommit o) s (fun d => ∃ e rec_, d.find? r.hdr.ns r.key = some e ∧ d.recAt e.place = some rec_ ∧
    s.dev.kv.lastVersion < e.version ∧ d.kv.lastVersion = e.version ∧ rec_.version = e.version ∧ rec_.key = r.key ∧ rec_.value = r.value ∧
    ∀ n k, ¬(n = r.hdr.ns ∧ k = r.key) → d.find? n k = s.dev.find? n k)) ∧
  (∀ (s : State) (o : Origin) (r : Req) (i : Nat), s.dev.Serves o 0x03 true r →
  s.dev.earlierWrite r = false → s.dev.versionsSpent r.input = false → s.dev.canAssign = true → s.dev.canShelve = true →
  s.dev.mirrorRoom o (s.dev.ns r.hdr.ns) = true →
  condOutcome 0x03 (condOf r.hdr.flags) r.hdr.condVersion ((s.dev.find? r.hdr.ns r.key).map (·.version)) = none →
  s.dev.slotIn (s.dev.originTenant r) 0x39 = some i → (s.dev.stslot i).nonce + 1 < s.dev.nonceEnd → s.dev.ShelfNumbered →
  Completes (.delete o) s (fun d => d.find? r.hdr.ns r.key = none ∧ s.dev.kv.lastVersion < d.kv.lastVersion ∧
    ∀ n k, ¬(n = r.hdr.ns ∧ k = r.key) → d.find? n k = s.dev.find? n k))

/-- GET, GET_RANGE and EXISTS (R53, R54, R62) of a value that lies in DRAM, of which nothing newer is kept from readers: the reply's header leaves with
the record's version, and the value's length (GET, EXISTS) or the length of the clamped range; the directory is as it was. An EXISTS member of a BATCH
that the twin forwarded tells the version alone (R107). LIST of a namespace's part that this drive serves (R65, R175), whose keys lie in DRAM and may
all be shown: its reply leaves with status OK and the length of its entries, and no entry of the directory changes. PING (R445): its payload comes
back, with the operating time in the version field. -/
def Obligations.ReadsAreAnswered : Prop := (∀ (s : State) (o : Origin) (op : Nat) (r : Req) (e : DirEnt) (rec_ : Rec) (x : Nat), s.dev.Serves o op false r →
  s.dev.find? r.hdr.ns r.key = some e → s.dev.hidden r.hdr.ns r.key = false → e.marked = false → e.place = .shelf x → s.dev.recAt e.place = some rec_ →
  condOutcome op (condOf r.hdr.flags) r.hdr.condVersion (some e.version) = none →
  (s.dev.slotOfSerial (s.dev.originTenant r) rec_.serial).isSome = true →
  (op = 0x01 → r.tag.kind ≠ 0x11 → Completes (.get o) s (fun d => d.kv.dir = s.dev.kv.dir ∧
    Out.reply o { echo r.hdr with valueLen := rec_.value.length, condVersion := rec_.version } [] ∈ d.out)) ∧
  (op = 0x05 → r.tag.kind ≠ 0x11 → Completes (.getRange o) s (fun d => d.kv.dir = s.dev.kv.dir ∧
    Out.reply o { echo r.hdr with
      valueLen := (readRange r.hdr rec_.value.length).2 - (readRange r.hdr rec_.value.length).1
      offset := r.hdr.offset, condVersion := rec_.version } [] ∈ d.out)) ∧
  (op = 0x04 → Completes (.existsKey o) s (fun d => d.kv.dir = s.dev.kv.dir ∧
    (r.tag.kind ≠ 0x11 → Out.reply o { echo r.hdr with valueLen := rec_.value.length, condVersion := rec_.version } [] ∈ d.out) ∧
    (r.tag.kind = 0x11 → Out.reply o { echo r.hdr with condVersion := e.version } [] ∈ d.out)))) ∧
  ((∀ (s : State) (o : Origin) (r : Req), s.dev.Asks o 0x08 r →
    s.dev.checks14 r = none → s.dev.checks69 r (s.dev.originTenant r) false = none →
    ((s.dev.ns r.hdr.ns).solo = true → s.dev.effTwin = 0 ∨ r.hdr.offset / 2 ^ 63 = s.dev.roleBit) → (s.dev.effTwin = 6 → (s.dev.ns r.hdr.ns).solo = true) →
    s.dev.hollyUp = true → s.dev.stream? o = none →
    (∀ e ∈ s.dev.kv.dir, e.ns = r.hdr.ns → s.dev.hidden e.ns e.key = false ∧ ∃ x, e.place = .shelf x) →
    Completes (.list o) s (fun d => d.kv.dir = s.dev.kv.dir ∧ d.req? o = none ∧
      ∃ h body, Out.reply o h body ∈ d.out ∧ h.status = 0 ∧ h.valueLen = body.length)) ∧
  (∀ (s : State) (o : Origin) (r : Req), s.dev.Asks o 0x43 r → r.hdr.valueLen ≤ 1024 →
    Completes (.ping o) s (fun d => d.req? o = none ∧
      Out.reply o { echo r.hdr with valueLen := r.body.length, condVersion := s.dev.now } r.body ∈ d.out)))

/-- DEADLINE_MISSED (R38, R112, R476): a request that waits before it has taken effect is answered when its deadline has come: time has reached the
deadline, the request is gone, and its reply has left with that status; of a batch not yet begun no member is applied. Of a BATCH in execution the
members without a result miss it, and it is answered, or waits for what the applied ones need. -/
def Obligations.DeadlinesAreTold : Prop := (∀ (s : State) (o : Origin) (r : Req), s.dev.live = true → s.dev.req? o = some r →
  (r.phase = .queued ∨ (r.phase = .active ∧ r.hdr.opcode ≠ 0x11) ∨ r.phase = .sealed ∨
    (r.phase = .streaming ∧ ∃ x, s.dev.stream? o = some x ∧ x.started = false) ∨
    (r.phase = .atTwin ∧ isWrite r.hdr.opcode = false ∧ r.hdr.opcode ≠ 0x10)) →
  Completes (.deadlineMissed o) s (fun d => d.req? o = none ∧ s.dev.now ≤ d.now ∧ passed d.nowUs r.tag.deadline = true ∧
    (r.hdr.opcode ≠ 0x10 → r.hdr.opcode ≠ 0x11 → Out.reply o { refusedHdr r.hdr with status := St.deadlineMissed } [] ∈ d.out) ∧
    (r.hdr.opcode = 0x10 → ∃ h rs, Out.reply o h (resultsBytes rs) ∈ d.out ∧ h.status = St.deadlineMissed ∧
      rs.length = (parseMembers r.body).length ∧ ∀ x ∈ rs, x.applied = false) ∧
    (r.hdr.opcode = 0x11 → r.results = [] → ∃ h rs, Out.reply o h (resultsBytes rs) ∈ d.out ∧ h.status = St.ok ∧
      rs.length = (parseMembers r.body).length ∧ ∀ x ∈ rs, x.applied = false ∧ (x.status = St.deadlineMissed ∨ x.status = St.notPermitted)))) ∧
  (∀ (s : State) (o : Origin) (r : Req), s.dev.live = true → s.dev.req? o = some r → r.phase = .active → r.hdr.opcode = 0x11 → r.parts = [] →
    r.silent = false → r.results.length ≤ (parseMembers r.body).length →
    Completes (.deadlineMissed o) s (fun d => s.dev.now ≤ d.now ∧ passed d.nowUs r.tag.deadline = true ∧ ∃ tail : List MemberResult,
      r.results.length + tail.length = (parseMembers r.body).length ∧ (∀ x ∈ tail, x.applied = false) ∧
      ((∃ q, d.req? o = some q ∧ q.phase = .waiting ∧ q.results = r.results ++ tail) ∨
        ∃ h, h.status = St.ok ∧ Out.reply o h (resultsBytes (r.results ++ tail)) ∈ d.out)))

/-- COMMIT_WAIT_EXPIRY (R296, R297): for every version assigned, time passes the version's tick by W ticks; then no write of that or an earlier tick waits
for its commit wait, and one that waited for nothing else has been answered. SUPERSEDE_CONFIRM (R169): for every key with a SUPERSEDE entry whose PUT
has been answered, that entry's version is the one left of the key's entries, none is a SUPERSEDE entry, and the granules of the older ones are
released; while the PUT waits, nothing changes. -/
def Obligations.WaitsAndConfirmationsEnd : Prop := (∀ (s : State) (v : Nat), s.dev.live = true → v ≤ s.dev.kv.lastVersion →
    Completes (.commitWaitExpiry v) s (fun d => verTick v + d.commitWait < d.tick ∧
      (∀ r ∈ d.kv.reqs, r.phase = .waiting → verTick r.version ≤ verTick v → r.needWait = false) ∧
      ∀ o r, s.dev.req? o = some r → r.phase = .waiting → r.needWait = true → verTick r.version ≤ verTick v → r.needMirror = false →
        r.needProg = false → r.needTwinProg = false → r.silent = false → d.req? o = none ∧ ∃ h b, Out.reply o h b ∈ d.out)) ∧
  (∀ (s : State) (n : Nat) (key : Bytes) (e : DirEnt), s.dev.live = true →
    s.dev.kv.dir.find? (fun x => x.ns = n ∧ x.key = key ∧ x.supersede = true) = some e →
    ((∀ r ∈ s.dev.kv.reqs, r.phase = .waiting → r.version ≠ e.version) → Completes (.supersedeConfirm n key) s (fun d =>
      { e with supersede := false } ∈ d.kv.dir ∧ (∀ x ∈ d.kv.dir, x.ns = n → x.key = key → x.version = e.version ∧ x.supersede = false) ∧
      (∀ x, ¬(x.ns = n ∧ x.key = key) → (x ∈ d.kv.dir ↔ x ∈ s.dev.kv.dir)) ∧ (d.ns n).used = (s.dev.ns n).used -
        ((s.dev.kv.dir.filter (fun x => x.ns = n ∧ x.key = key ∧ x.version ≠ e.version)).map (·.granules)).sum)) ∧
    ((∃ r ∈ s.dev.kv.reqs, r.phase = .waiting ∧ r.version = e.version) → Completes (.supersedeConfirm n key) s (fun d => d = s.dev)))

/-- BATCH (R117 to R121): a batch that passes the checks of the whole batch has at most one result for each member afterwards: it is answered or waits for
its writes' needs with all of them, or stays in execution with those of the members executed. Of a batch with one PUT member that is served here and
passes its checks, the key names a record of the member's value at a version greater than every one before. BATCH_ATOMIC (R122, R123, R128) at an
unpaired drive: when no member fails a check and there is room, one version greater than every earlier one is assigned, and the key of every PUT
member names a record of that version. -/
def Obligations.BatchesAnswer : Prop := (∀ (s : State) (o : Origin) (r : Req), s.dev.Asks o 0x11 r →
    r.silent = false → s.dev.batchChecks r false = none → r.results = [] → r.parts = [] →
    Completes (.batch o) s (fun d => ∃ rs : List MemberResult, rs.length ≤ (parseMembers r.body).length ∧
        ((∃ q, d.req? o = some q ∧ q.results = rs ∧ (q.phase = .active ∨ (q.phase = .waiting ∧ rs.length = (parseMembers r.body).length))) ∨
          (rs.length = (parseMembers r.body).length ∧ ∃ h, h.status = St.ok ∧ Out.reply o h (resultsBytes rs) ∈ d.out)))) ∧
  (∀ (s : State) (o : Origin) (r : Req) (m : Member) (i : Nat), s.dev.Asks o 0x11 r → r.silent = false → s.dev.batchChecks r false = none →
    r.results = [] → r.parts = [] → parseMembers r.body = [m] → m.op = 0x02 → (∀ k, s.dev.memberCheck r (s.dev.originTenant r) m k = none) →
    s.dev.memberWaits r [m] m = false → s.dev.route (s.dev.ns m.ns) (s.dev.isHome m.ns m.key) true = .here → s.dev.versionsSpent r.input = false →
    s.dev.hollyUp = true → (s.dev.roomFor m.ns m.key (granules m.key.length m.valueLen) (s.dev.find? m.ns m.key).isNone).1 = none →
    s.dev.slotIn (s.dev.originTenant r) 0x39 = some i → (s.dev.stslot i).nonce + 1 < s.dev.nonceEnd →
    Completes (.batch o) s (fun d => ∃ e rec_, d.find? m.ns m.key = some e ∧ d.recAt e.place = some rec_ ∧ s.dev.kv.lastVersion < e.version ∧
      d.kv.lastVersion = e.version ∧ rec_.version = e.version ∧ rec_.value = m.value)) ∧
  (∀ (s : State) (o : Origin) (r : Req), s.dev.Asks o 0x10 r →
    s.dev.effTwin = 0 → s.dev.batchChecks r true = none → batchOrder s.dev r (s.dev.originTenant r) (parseMembers r.body) 8 5 = none →
    (∀ m ∈ parseMembers r.body, s.dev.earlierOn r m.ns m.key = false ∧ s.dev.held m.ns m.key = false ∧ (m.op = 0x02 → (s.dev.ns m.ns).state ≠ 0x22) ∧
      (s.dev.ns m.ns).cutover = false ∧ (m.op = 0x04 → s.dev.hidden m.ns m.key = false) ∧
      (m.op ≠ 0x04 → s.dev.mirrorRoom (.session 0 0) (s.dev.ns m.ns) = true)) →
    s.dev.hollyUp = true → s.dev.versionsSpent r.input = false → s.dev.canAssign = true → s.dev.canShelve = true →
    (roomForAll (parseMembers r.body) s.dev).1 = none → (drawSeals (s.dev.originTenant r) (parseMembers r.body) s.dev).isSome = true →
    Completes (.batchAtomic o) s (fun d => s.dev.kv.lastVersion < d.kv.lastVersion ∧
      ∀ m ∈ parseMembers r.body, m.op = 0x02 → ∃ e, d.find? m.ns m.key = some e ∧ e.version = d.kv.lastVersion))

/-- LOC_GET (R180, R182): a token whose record is live, found at this home and opened, is answered with the clamped range's length and the record's
version: at once from DRAM, from flash once its header and key are read. LOC_DELETE (R184): the record's bit in the live map is cleared, and the
deletion has a version of its own. RELOC_ACK (R188, R189): every forwarding entry that a token of the request names is gone, every entry at whose old
place no token points is there, none is new, and the reply's offset counts the named ones. -/
def Obligations.LocatedOperations : Prop := (∀ (s : State) (o : Origin) (r : Req) (sb g : Nat) (rec_ : Rec) (h : OpHdr), s.dev.Asks o 0x20 r →
    s.dev.checks14 r = none → s.dev.checks69 r (s.dev.originTenant r) false = none →
    (s.dev.effTwin = 0 ∨ (parseToken r.body).home = s.dev.roleBit) → s.dev.hollyUp = true →
    s.dev.tokenRecord r (s.dev.originTenant r) (parseToken r.body) = some (sb, g, rec_) → s.dev.locMark sb g = false →
    (s.dev.slotOfSerial (s.dev.originTenant r) rec_.serial).isSome = true →
    h = { echo r.hdr with
      valueLen := (readRange r.hdr rec_.value.length).2 - (readRange r.hdr rec_.value.length).1
      offset := r.hdr.offset, condVersion := rec_.version } →
    Completes (.locGet o) s (fun d => d.kv.live = s.dev.kv.live ∧
      ((∃ x, s.dev.locPlace sb g = .shelf x) → Out.reply o h [] ∈ d.out) ∧
      (s.dev.locPlace sb g = .media sb g → ∃ q, d.req? o = some q ∧ q.phase = .streaming ∧ q.replyHdr = h))) ∧
  (∀ (s : State) (o : Origin) (r : Req) (sb g i : Nat) (rec_ : Rec), s.dev.Asks o 0x21 r → s.dev.checks14 r = none →
    s.dev.checks69 r (s.dev.originTenant r) true = none →
    s.dev.effTwin = 0 → s.dev.hollyUp = true → s.dev.tokenRecord r (s.dev.originTenant r) (parseToken r.body) = some (sb, g, rec_) →
    s.dev.versionsSpent r.input = false → s.dev.canAssign = true → s.dev.canShelve = true →
    s.dev.slotIn (s.dev.originTenant r) 0x39 = some i → (s.dev.stslot i).nonce + 1 < s.dev.nonceEnd →
    Completes (.locDelete o) s (fun d => d.kv.live = s.dev.kv.live.filter (· ≠ (sb, g)) ∧ s.dev.kv.lastVersion < d.kv.lastVersion)) ∧
  (∀ (s : State) (o : Origin) (r : Req) (n : Nat) (named : FwdEnt → Bool), s.dev.Asks o 0x22 r →
    r.hdr.valueLen = 16 * n → 1 ≤ n → n ≤ 256 → r.body.length = r.hdr.valueLen →
    ((s.dev.originTenant r = 0 ∧ ((s.dev.ns r.hdr.ns).state = 0x21 ∨ (s.dev.ns r.hdr.ns).state = 0x22)) ∨
      s.dev.nsOwned r.hdr.ns (s.dev.originTenant r) = true) →
    (∀ e, named e = true ↔ e.ns = r.hdr.ns ∧
      ∃ t ∈ tokensOf 256 r.body, t.sb = e.oldSb ∧ t.gran = e.oldGran ∧ t.epoch = e.oldEpoch ∧ t.home = e.homeBit ∧ t.ns = e.ns) →
    Completes (.relocAck o) s (fun d => (∀ e ∈ d.kv.fwd, named e = false) ∧
      (∀ e ∈ d.kv.fwd, ∃ x ∈ s.dev.kv.fwd, x.oldSb = e.oldSb ∧ x.oldGran = e.oldGran ∧ x.oldEpoch = e.oldEpoch ∧ x.homeBit = e.homeBit ∧ x.ns = e.ns) ∧
      (∀ x ∈ s.dev.kv.fwd, (∀ t ∈ tokensOf 256 r.body, ¬(t.sb = x.oldSb ∧ t.gran = x.oldGran ∧ t.epoch = x.oldEpoch)) →
        ∃ e ∈ d.kv.fwd, x.oldSb = e.oldSb ∧ x.oldGran = e.oldGran ∧ x.oldEpoch = e.oldEpoch ∧ x.homeBit = e.homeBit ∧ x.ns = e.ns) ∧
      Out.reply o { echo r.hdr with offset := (s.dev.kv.fwd.filter named).length } [] ∈ d.out))

/-! ## Sessions and admission (chapter 8) -/

/-- OPEN (R429 to R434) and SESSION_OPEN in the operator role (R432, R807): a session that was CLOSED is OPENING afterwards, it is the tenant's, and its
slot is ACTIVE in key phase 0. SESSION_CLOSE (R435, R438) of a session by itself or in the operator role, and idle_timeout seconds of an OPEN session
(R440): it is DRAINING. OPENING_TIMEOUT (R434), DRAIN_COMPLETE and DRAINING_TIMEOUT (R437): the session is CLOSED and its slot EMPTY. -/
def Obligations.SessionsOpenAndEnd : Prop := ((∀ (s : State) (f : Frame) (b : Blob) (p g : SessionParams), s.dev.live = true → s.dev.admitting = true →
    frameForm 9088 f = true → f.ftype = 3 → f.sid ≤ 65535 → f.assigned = f.sid → blobForm b [4] = true → s.dev.blobOpen b = none →
    f.sealedUnder = openKey b.key f.sid → b.tenant = f.op.tenant → f.op.offset % 2 ^ 32 = f.sid → f.op.valueLen = 112 → blobPlain b = true →
    grantParams s.dev.xp.idleDefault p = some g → (s.dev.sess f.sid).state = 0x40 →
    Completes (.openFrame f b p) s (fun d => (d.sess f.sid).state = 0x41 ∧ (d.sess f.sid).tenant = f.op.tenant ∧
      (d.sslot f.sid).state = 0x31 ∧ (d.sslot f.sid).phase = 0)) ∧
  (∀ (s : State) (o : Origin) (b : Blob) (p g : SessionParams) (r : Req) (sid : Nat), s.dev.Asks o 0x40 r → r.operator = true → sid = r.hdr.offset % 2 ^ 32 → 1 ≤ sid → sid ≤ 65535 → r.hdr.valueLen = 112 →
    grantParams s.dev.xp.idleDefault p = some g → blobForm b [4] = true → s.dev.blobOpen b = none → b.tenant = r.hdr.tenant →
    blobPlain b = true → (s.dev.sess sid).state = 0x40 →
    Completes (.sessionOpen o b p) s (fun d => (d.sess sid).state = 0x41 ∧ (d.sess sid).tenant = r.hdr.tenant ∧
      (d.sslot sid).state = 0x31 ∧ (d.sslot sid).phase = 0))) ∧
  ((∀ (s : State) (o : Origin) (sid : Nat) (r : Req), s.dev.Asks o 0x41 r → sid = r.hdr.offset % 2 ^ 32 →
    r.operator = true ∨ o.ofSession sid = true → (s.dev.sess sid).state ≠ 0x40 →
    Completes (.sessionClose o) s (fun d => (d.sess sid).state = 0x43)) ∧
  (∀ (s : State) (sid : Nat), s.dev.live = true → (s.dev.sess sid).state = 0x42 → Completes (.idleTimeout sid) s (fun d =>
    (d.sess sid).state = 0x43 ∧ (d.sess sid).endCause = 2 ∧ (s.dev.sess sid).verifiedAt + (s.dev.sess sid).idle * 1000000000 ≤ d.now)) ∧
  (∀ (s : State) (sid : Nat), s.dev.live = true → (s.dev.sess sid).state = 0x41 → Completes (.openingTimeout sid) s (fun d =>
    (d.sess sid).state = 0x40 ∧ (d.sslot sid).state = 0x30 ∧ (s.dev.sess sid).openedAt + 10000000000 ≤ d.now)) ∧
  (∀ (s : State) (sid : Nat), s.dev.live = true → (s.dev.sess sid).state = 0x43 → s.dev.kv.reqs.any (fun r => r.origin.ofSession sid) = false →
    (s.dev.sess sid).unacked = [] → (s.dev.sess sid).ring = [] →
    Completes (.drainComplete sid) s (fun d => (d.sess sid).state = 0x40 ∧ (d.sslot sid).state = 0x30)) ∧
  (∀ (s : State) (sid : Nat), s.dev.live = true → (s.dev.sess sid).state = 0x43 → Completes (.drainingTimeout sid) s (fun d =>
    (d.sess sid).state = 0x40 ∧ (d.sslot sid).state = 0x30 ∧ (s.dev.sess sid).drainingAt + 1000000000 ≤ d.now)))

/-- A DATA frame that passes the checks of Table 8.8 and is the next in order moves the drive's acknowledge past it (R448, R449); a verified frame of
either kind counts against its slot's key (R399) and opens an OPENING session (R434); a verified ACK frame's acknowledge is taken (R453). SHEARS_ADMIT
(R472 to R474): where a request that waits at a port is reservation-eligible, one of the port's waiting requests is admitted; its tenant is
reservation-eligible too, and it is of class 0 if a request of class 0 was among them. -/
def Obligations.FramesAndAdmission : Prop := ((∀ (s : State) (f : Frame), s.dev.live = true → s.dev.admitting = true → f.ftype = 1 →
    frameForm (s.dev.sess f.sid).maxFrame f = true → f.sid ≤ 65535 → f.assigned = f.sid → (s.dev.sess f.sid).state ≠ 0x40 →
    (s.dev.sslot f.sid).state ≠ 0x33 → (s.dev.sslot f.sid).opens f = true → f.seq = (s.dev.sess f.sid).rxNext →
    (s.dev.sess f.sid).held = [] → (s.dev.sess f.sid).ring.length < 1024 →
    Completes (.dataFrame f) s (fun d => (d.sess f.sid).rxNext = f.seq + 1 ∧ (d.sslot f.sid).framesIn = (s.dev.sslot f.sid).framesIn + 1 ∧
      (d.sess f.sid).state = if (s.dev.sess f.sid).state = 0x41 then 0x42 else (s.dev.sess f.sid).state)) ∧
  (∀ (s : State) (f : Frame), s.dev.live = true → s.dev.admitting = true → f.ftype = 2 →
    frameForm (s.dev.sess f.sid).maxFrame f = true → f.sid ≤ 65535 → f.assigned = f.sid → (s.dev.sess f.sid).state ≠ 0x40 →
    (s.dev.sslot f.sid).state ≠ 0x33 → (s.dev.sslot f.sid).opens f = true →
    Completes (.ackFrame f) s (fun d => (d.sess f.sid).peerAck = max (s.dev.sess f.sid).peerAck f.ack ∧
      (d.sslot f.sid).framesIn = (s.dev.sslot f.sid).framesIn + 1 ∧
      (d.sess f.sid).state = if (s.dev.sess f.sid).state = 0x41 then 0x42 else (s.dev.sess f.sid).state))) ∧
  (∀ (s : State) (port : Nat) (r : Req), s.dev.live = true → r ∈ s.dev.kv.reqs → r.phase = .queued →
  r.input = port → (s.dev.shaper r.tag.tenant).reserved = true → r.tag.qos ≤ 7 → (∀ c, c < 7 → s.dev.xp.classWeights.getD c 0 ≠ 0) →
  Completes (.shearsAdmit port) s (fun d => ∃ q ∈ s.dev.kv.reqs, q.phase = .queued ∧ q.input = port ∧
    (s.dev.shaper q.tag.tenant).reserved = true ∧ { q with phase := .active } ∈ d.kv.reqs ∧ (r.tag.qos = 0 → q.tag.qos = 0)))

/-- The timers that send again what a session needs. ACK_DELAY_EXPIRY (R450), KEEP_ALIVE (R439) and WINDOW_REOPEN_ACK (R460): one more ACK frame has left.
RETRANSMISSION_TIMEOUT (R455, R462): the path's timeout has doubled, up to 200 ms, and its congestion window is 9,088 bytes. PATH_SILENCE (R467): the
path is down. -/
def Obligations.SessionTimers : Prop := (∀ (s : State) (sid t : Nat), s.dev.live = true → (s.dev.sess sid).state ∈ [0x41, 0x42, 0x43] →
    (s.dev.sslot sid).state ≠ 0x30 → (s.dev.sslot sid).state ≠ 0x33 → (s.dev.sess sid).ackDue = some t →
    Completes (.ackDelayExpiry sid) s (fun d => t ≤ d.now ∧ (d.sess sid).ackDue = none ∧ (d.sess sid).ackTx = (s.dev.sess sid).ackTx + 1)) ∧
  (∀ (s : State) (sid p : Nat), s.dev.live = true → (s.dev.sess sid).state ∈ [0x41, 0x42, 0x43] →
    (s.dev.sslot sid).state ≠ 0x30 → (s.dev.sslot sid).state ≠ 0x33 → ((s.dev.sess sid).path p).up = true →
    Completes (.keepAlive sid p) s (fun d => (d.sess sid).ackTx = (s.dev.sess sid).ackTx + 1 ∧ ((d.sess sid).path p).lastSent = d.now ∧
      ((s.dev.sess sid).path p).lastSent + 1000000000 ≤ d.now)) ∧
  (∀ (s : State) (sid : Nat), s.dev.live = true → (s.dev.sess sid).state ∈ [0x41, 0x42, 0x43] →
    (s.dev.sslot sid).state ≠ 0x30 → (s.dev.sslot sid).state ≠ 0x33 → (s.dev.sess sid).reopenUntil ≠ 0 →
    (s.dev.sess sid).reopenNext ≤ (s.dev.sess sid).reopenUntil →
    Completes (.windowReopenAck sid) s (fun d => (d.sess sid).ackTx = (s.dev.sess sid).ackTx + 1 ∧ (s.dev.sess sid).reopenNext ≤ d.now ∧
      (d.sess sid).reopenNext = (s.dev.sess sid).reopenNext + 100000)) ∧
  (∀ (s : State) (sid p : Nat) (t : TxFrame), s.dev.live = true → (s.dev.sess sid).state ∈ [0x41, 0x42, 0x43] →
    (s.dev.sess sid).unacked.find? (fun t => t.sent && t.path == p) = some t →
    Completes (.retransmissionTimeout sid p) s (fun d => d.xp.rtoExpiries = s.dev.xp.rtoExpiries + 1 ∧ ((d.sess sid).path p).cwnd = 9088 ∧
      ((d.sess sid).path p).rto = min 200000000 (2 * ((s.dev.sess sid).path p).rto) ∧
      t.sentAt + ((s.dev.sess sid).path p).rto ≤ d.now)) ∧
  (∀ (s : State) (sid p : Nat), s.dev.live = true → p ≤ 1 → (s.dev.sess sid).state ∈ [0x41, 0x42, 0x43] → ((s.dev.sess sid).path p).up = true →
    ((s.dev.sess sid).path p).lastVerified < ((s.dev.sess sid).path (1 - p)).lastVerified →
    Completes (.pathSilence sid p) s (fun d => ((d.sess sid).path p).up = false ∧ ((s.dev.sess sid).path p).lastVerified + 3000000000 ≤ d.now))

/-- SESSION_REKEY (R400, R401): the slot is REKEYING in the next key phase and keeps the key it had as its old one. KEY_PHASE_RETIRE (R401): the slot is
ACTIVE and the old key gone. REKEY_REQUIRED (R399): the session's notice has been given. SESSION_EXHAUSTED (R399): the slot is EXHAUSTED. -/
def Obligations.SessionKeysChange : Prop := (∀ (s : State) (o : Origin) (sid : Nat) (b : Blob) (r : Req), s.dev.Asks o 0x42 r → sid = r.hdr.offset % 2 ^ 32 →
    r.operator = true ∨ o.ofSession sid = true → blobForm b [4] = true → s.dev.blobOpen b = none → b.tenant = r.hdr.tenant → b.tenant = (s.dev.sess sid).tenant → blobPlain b = true →
    (s.dev.sslot sid).state = 0x31 →
    Completes (.sessionRekey o b) s (fun d => (d.sslot sid).state = 0x32 ∧ (d.sslot sid).phase = (s.dev.sslot sid).phase + 1 ∧
      (d.sslot sid).oldKey = (s.dev.sslot sid).key ∧ (d.sslot sid).framesIn = 0)) ∧
  (∀ (s : State) (sid : Nat), s.dev.live = true → (s.dev.sslot sid).state = 0x32 → Completes (.keyPhaseRetire sid) s (fun d =>
    (d.sslot sid).state = 0x31 ∧ (d.sslot sid).oldKey = .raw 0 ∧ (d.sslot sid).key = (s.dev.sslot sid).key)) ∧
  (∀ (s : State) (sid : Nat) (inbound : Bool), s.dev.live = true → (s.dev.sslot sid).state = 0x31 ∨ (s.dev.sslot sid).state = 0x32 →
    2 ^ 48 - 2 ^ 32 ≤ (if inbound then (s.dev.sslot sid).framesIn else (s.dev.sslot sid).framesOut) → (s.dev.sslot sid).rekeyNoticed = false →
    Completes (.rekeyRequired sid inbound) s (fun d => (d.sslot sid).rekeyNoticed = true ∧ (d.sslot sid).state = (s.dev.sslot sid).state)) ∧
  (∀ (s : State) (sid : Nat) (inbound : Bool), s.dev.live = true → (s.dev.sslot sid).state = 0x31 ∨ (s.dev.sslot sid).state = 0x32 →
    2 ^ 48 ≤ (if inbound then (s.dev.sslot sid).framesIn else (s.dev.sslot sid).framesOut) →
    Completes (.sessionExhausted sid inbound) s (fun d => (d.sslot sid).state = 0x33))

/-! ## The twin (chapters 2 and 6) -/

/-- FWD_WRITE (R306, R308) and FWD_READ (R309) run the operation at its home as the home's own request: a DELETE removes its key, an EXISTS is answered.
FWD_REPLY ends the receiver's request with the home's status, but for a read whose deadline has passed (R38, R307); FWD_DATA passes a chunk on (R309).
MIRROR (R304, R335): its chunks are held until its final message; then the resync point is the message's, and the directory has an entry of the
record's key of its version or a later one, where no later deletion of the key is held. MIRROR_ACK (R88, R305): the entries of the mirrored versions
are pending no more, and the operation of a single write is outstanding no more. -/
def Obligations.TwinCarriesWrites : Prop := ((∀ (s : State) (opId aux : Nat) (tag : WorkTag) (h : OpHdr) (body : Bytes) (r : Req) (i : Nat) (d1 : Drive),
    s.dev.TwinSpeaks → d1 = (s.dev.awaken.takeRing 2 1).addForward opId aux tag h body → s.dev.twinSeen? opId = none →
    s.dev.req? (.twin opId) = none → d1.Serves (.twin opId) 0x03 true r → d1.versionsSpent r.input = false → d1.canAssign = true →
    d1.canShelve = true → condOutcome 0x03 (condOf h.flags) h.condVersion ((d1.find? h.ns r.key).map (·.version)) = none →
    d1.slotIn tag.tenant 0x39 = some i → (d1.stslot i).nonce + 1 < d1.nonceEnd →
    Completes (.fwdWrite opId aux tag h body) s (fun d => d.find? h.ns r.key = none)) ∧
  (∀ (s : State) (opId aux : Nat) (tag : WorkTag) (h : OpHdr) (body : Bytes) (r : Req) (d1 : Drive), s.dev.TwinSpeaks →
    d1 = (s.dev.awaken.takeRing 2 1).addForward opId aux tag h body → s.dev.twinSeen? opId = none → s.dev.req? (.twin opId) = none →
    d1.Serves (.twin opId) 0x04 false r → d1.find? h.ns r.key = none → d1.hidden h.ns r.key = false → condOf h.flags = 0 →
    Completes (.fwdRead opId aux tag h body) s (fun d => Out.reply (.twin opId) { echo h with status := St.notFound } [] ∈ d.out)) ∧
  (∀ (s : State) (opId : Nat) (h : OpHdr) (body : Bytes) (op : TwinOp) (o : Origin) (r : Req), s.dev.TwinSpeaks → s.dev.twinOp? opId = some op →
    op.origin = some o → s.dev.req? o = some r → r.hdr.opcode ≠ 0x11 → r.phase ≠ .streaming → streamsData r.hdr.opcode = false →
    (h.status = 0 → isWrite r.hdr.opcode = false → r.hdr.opcode ≠ 0x10 → passed s.dev.awaken.nowUs r.tag.deadline = false) →
    Completes (.fwdReply opId h body) s (fun d => d.req? o = none ∧ d.twinOp? opId = none ∧
      ∃ h', Out.reply o h' body ∈ d.out ∧ h'.status = h.status ∧ h'.rid = r.hdr.rid)) ∧
  (∀ (s : State) (opId chunk : Nat) (bytes : Bytes) (op : TwinOp) (o : Origin) (r : Req), s.dev.TwinSpeaks → s.dev.twinOp? opId = some op →
    op.origin = some o → s.dev.req? o = some r → r.phase = .streaming →
    Completes (.fwdData opId chunk bytes) s (fun d => Out.data o chunk bytes ∈ d.out))) ∧
  ((∀ (s : State) (opId flags version aux : Nat) (bytes : Bytes) (r : Rec), s.dev.TwinSpeaks →
    s.dev.twinSeen? opId = none → r.deletion = false → r.located = false → s.dev.deletedAbove r = false →
    (bit 0 flags = true → ∀ q, s.dev.twinReq? opId = some q → q.hdr.opcode ≠ 0x11) →
    Completes (.mirror opId flags version aux false bytes []) s (fun d =>
      tgetD opId [] d.twin.partials = tgetD opId [] s.dev.twin.partials ++ bytes) ∧
    Completes (.mirror opId flags version aux true bytes [r]) s (fun d => d.twin.resyncPoint = some aux ∧
      ∃ e ∈ d.kv.dir, e.ns = r.ns ∧ e.key = r.key ∧ r.version ≤ e.version)) ∧
  (∀ (s : State) (opId : Nat) (programmed : Bool) (op : TwinOp) (rs : List Rec), s.dev.TwinSpeaks → s.dev.twinOp? opId = some op →
    op.msg.body = .mirror rs →
    Completes (.mirrorAck opId programmed) s (fun d =>
      ((∀ q ∈ s.dev.kv.reqs, ∀ p ∈ q.parts, p.1 ≠ opId) → d.twinOp? opId = none) ∧
      ∀ e ∈ d.kv.dir, e.version ≤ s.dev.kv.lastVersion → ∀ r ∈ rs, r.ns = e.ns → r.key = e.key → r.version = e.version → e.pending = false)))

/-- The participant of a cross-home batch. PREPARE (R129, R134): its keys are held, and the transaction is prepared. COMMIT (R134, R298): where a member
is installed here, no version before the batch's will be assigned again; the transaction is prepared no more and holds no key here. ABORT: so too. The
coordinator of a cross-home batch. PREPARED (R123, R134, R345): when every member's outcome is good, a version is assigned and the batch decided.
COMMITTED: the keys it held are free. REFUSED (R130) and, while the twin is live, PREPARE_TIMEOUT (R132): the batch is answered TXN_CONFLICT, none of
its members applied, and holds no key. -/
def Obligations.TwinBatches : Prop := ((∀ (s : State) (opId txn : Nat) (tag : WorkTag) (h : OpHdr) (body : Bytes) (seals : List (Nat × Nat)),
    s.dev.TwinSpeaks → s.dev.twinSeen? opId = none → s.dev.req? (.twin opId) = none →
    (parseMembers body).any (fun m => s.dev.isHome m.ns m.key && s.dev.held m.ns m.key) = false →
    Completes (.prepare opId txn tag h body seals) s (fun d => (∃ p ∈ d.kv.prepared, p.txn = txn ∧ p.members = parseMembers body) ∧
      ∀ m ∈ parseMembers body, s.dev.isHome m.ns m.key = true → d.held m.ns m.key = true)) ∧
  (∀ (s : State) (opId txn version : Nat) (p : Prepared), s.dev.TwinSpeaks → s.dev.kv.prepared.find? (fun p => p.txn = txn) = some p →
    Completes (.commit opId txn version) s (fun d => (∀ q ∈ d.kv.prepared, q.txn ≠ txn) ∧
      ((∃ m ∈ p.members.zip p.seals, s.dev.installsHere m.1 = true ∧ m.1.ns ∉ p.dead) → version ≤ d.kv.lastVersion) ∧
      ∀ h ∈ d.kv.holds, h.txn = txn → h.coordinator = true)) ∧
  (∀ (s : State) (txn : Nat), s.dev.TwinSpeaks → Completes (.abort txn) s (fun d => (∀ q ∈ d.kv.prepared, q.txn ≠ txn) ∧
    ∀ h ∈ d.kv.holds, h.txn = txn → h.coordinator = true))) ∧
  ((∀ (s : State) (txn : Nat) (outcomes : List MemberResult) (r : Req) (d1 d2 : Drive), s.dev.TwinSpeaks →
    s.dev.coordinating txn .coordinating = some r → d1 = s.dev.awaken.takeRing 2 1 →
    (∀ m ∈ parseMembers r.body, d1.isHome m.ns m.key = true → d1.memberCheck r (d1.originTenant r) m 12 = none) →
    (∀ p ∈ (parseMembers r.body).zip outcomes, d1.isHome p.1.ns p.1.key = false → p.2.status = 0) →
    roomForAll ((parseMembers r.body).map (fun m => if d1.isHome m.ns m.key then m else { m with op := 0x04 })) d1 = (none, d2) →
    passed d1.nowUs r.tag.deadline = false → d2.versionsSpent 2 = false → d2.canAssign = true →
    Completes (.prepared txn outcomes) s (fun d => ∃ q, d.req? r.origin = some q ∧ q.phase = .decided ∧ s.dev.kv.lastVersion < q.version ∧
      d.kv.lastVersion = q.version)) ∧
  (∀ (s : State) (txn : Nat) (r : Req), s.dev.TwinSpeaks → s.dev.coordinating txn .decided = some r →
    Completes (.committed txn) s (fun d => ∀ h ∈ d.kv.holds, h.txn = txn → h.coordinator = false)) ∧
  (∀ (s : State) (txn : Nat) (r : Req), s.dev.TwinSpeaks → s.dev.coordinating txn .coordinating = some r →
    Completes (.refused txn) s (fun d => d.req? r.origin = none ∧ (∀ h ∈ d.kv.holds, h.txn = txn → h.coordinator = false) ∧
      ∃ h rs, Out.reply r.origin h (resultsBytes rs) ∈ d.out ∧ h.status = St.txnConflict ∧ h.offset = 0xFF * 2 ^ 32 ∧
        rs.length = (parseMembers r.body).length ∧ ∀ x ∈ rs, x.applied = false)) ∧
  (∀ (s : State) (txn : Nat) (r : Req), s.dev.live = true → s.dev.coordinating txn .coordinating = some r →
    s.dev.effTwin = 2 ∨ s.dev.effTwin = 6 → r.results = [] →
    Completes (.prepareTimeout txn) s (fun d => r.prepareAt + 1000000 ≤ d.now ∧ d.req? r.origin = none ∧ (∀ h ∈ d.kv.holds, h.txn = txn → h.coordinator = false) ∧
      ∃ h rs, Out.reply r.origin h (resultsBytes rs) ∈ d.out ∧ h.status = St.txnConflict ∧ h.offset = 0xFF * 2 ^ 32 ∧
        rs.length = (parseMembers r.body).length ∧ ∀ x ∈ rs, x.applied = false)))

/-- Liveness of the pair (R315, R316, Table 6.2). HEARTBEAT: the twin's last heartbeat is now, and its offset that measured (R296). HEARTBEAT_SEND in
PAIRED: one more has been sent. The silences of PAIRED make the drive ALONE, and JOINING without a handshake goes back to the state before; a link-up
with the recorded twin makes an ALONE, HOLDER or FENCED drive JOINING. -/
def Obligations.TwinLiveness : Prop := (∀ (s : State) (seq tick lastSeq lOwn : Nat) (offset : Int), s.dev.TwinSpeaks →
    Completes (.heartbeat seq tick lastSeq lOwn offset) s (fun d => d.twin.hbLastRx = seq ∧ d.twin.hbLastRxAt = s.dev.now ∧ d.twin.offsetNs = offset)) ∧
  (∀ (s : State), s.dev.TwinSpeaks → s.dev.twin.state = 2 → s.dev.twin.resyncSending = false → s.dev.twin.hbSeq < s.dev.twin.hbAcked + 3 →
    Completes .heartbeatSend s (fun d => d.twin.hbSeq = s.dev.twin.hbSeq + 1 ∧ s.dev.now < d.now)) ∧
  (∀ (s : State), s.dev.live = true → s.dev.twin.state = 2 →
    Completes .heartbeatSilence s (fun d => d.twin.state = 3 ∧ s.dev.twin.hbLastRxAt + 300000 ≤ d.now)) ∧
  (∀ (s : State), s.dev.live = true → s.dev.twin.linkUp = false → s.dev.twin.state = 2 →
    Completes .twinLinkDownTimeout s (fun d => d.twin.state = 3 ∧ s.dev.twin.downSince + 50000 ≤ d.now)) ∧
  (∀ (s : State), s.dev.live = true → s.dev.twin.state = 1 → s.dev.twin.prior ≠ 7 →
    Completes .joiningTimeout s (fun d => d.twin.state = s.dev.twin.prior ∧ s.dev.twin.joiningSince + 4000000000 ≤ d.now)) ∧
  (∀ (s : State) (u e : Bool) (k : Config.Key), s.dev.live = true → (s.dev.prt 2).link = 4 → (s.dev.prt 2).localUse = .used →
    s.dev.twin.state ∈ [3, 4, 5] →
    Completes (.twinLinkUp s.dev.twin.serial true u e k) s (fun d => d.twin.state = 1 ∧ d.twin.prior = s.dev.twin.state ∧
      d.twin.linkUp = true ∧ d.twin.authenticated = true))

/-- The handshake and the resync. HELLO between two drives neither of which lacks anything (R334): PAIRED, with the higher lease epoch; a drive that lacks
changes is RESYNCING. RESYNC_DATA (R335): the resync point is the message's. HOME_RETURN (R339): PAIRED, and the versions go on above the message's.
TWIN_ADOPT (R340, R417): the adopter is PAIRED with the drive named; the adoptee takes the pair's role and keys, and resyncs where the pair holds a
namespace (log entry 80). TWIN_RELEASE (R342): the drive is UNPAIRED. -/
def Obligations.TwinPairs : Prop := (∀ (s : State) (h : HelloBody) (p : Nat), s.dev.TwinSpeaks → s.dev.twin.state = 1 → h.pairId = s.dev.keys.pairId →
    s.dev.twin.prior ∉ [4, 5] → h.state ∉ [4, 5] → h.resyncPoint = some p → s.dev.twin.mirrorSeq ≤ p →
    Completes (.hello h false) s (fun d => d.twin.state = 2 ∧ d.twin.epoch = max s.dev.twin.epoch h.epoch)) ∧
  (∀ (s : State) (h : HelloBody), s.dev.TwinSpeaks → s.dev.twin.state = 1 → h.pairId = s.dev.keys.pairId →
    s.dev.twin.prior ∉ [4, 5] → h.state ∉ [4, 5] → Completes (.hello h true) s (fun d => d.twin.state = 6)) ∧
  (∀ (s : State) (recs : List Rec) (live : Option (List (Nat × Bytes))) (tables : Option PairTables) (counters : List (Nat × Nat))
    (aux : Nat), s.dev.TwinSpeaks → s.dev.twin.state = 6 → s.dev.resyncHeld = false →
    Completes (.resyncData recs live tables counters aux) s (fun d => d.twin.resyncPoint = some aux ∧ ∀ r ∈ recs,
      s.dev.twin.bothAlone = false → r.version ≤ d.kv.lastVersion)) ∧
  (∀ (s : State) (version : Nat), s.dev.TwinSpeaks → s.dev.twin.state = 6 → s.dev.resyncHeld = false →
    Completes (.homeReturn version) s (fun d => d.twin.state = 2 ∧ version ≤ d.kv.lastVersion)) ∧
  (∀ (s : State) (o : Origin) (r : Req), s.dev.Asks o 0x88 r → r.operator = true → r.body.length = 16 → r.hdr.valueLen = 16 → s.dev.twin.state ∈ [0, 3, 4] →
    s.dev.twin.linkUp = true → s.dev.twin.seenSerial = beNat r.body → s.dev.twin.seenUnpaired = true → s.dev.twin.seenEmpty = true →
    Completes (.twinAdopt o none) s (fun d => d.twin.state = 2 ∧ d.twin.serial = beNat r.body ∧ d.twin.role.isSome = true)) ∧
  (∀ (s : State) (o : Origin) (a : Adoption), s.dev.live = true → s.dev.twin.state = 0 → s.dev.twin.linkUp = true → s.dev.twin.seenSerial = a.serial →
    s.dev.holdsNamespace = false →
    Completes (.twinAdopt o (some a)) s (fun d => d.twin.state = (if a.resync then 6 else 2) ∧ d.twin.serial = a.serial ∧
      d.twin.role = some (b2n a.younger) ∧ d.keys.pairId = a.pairId ∧ d.kv.directoryKey = a.directoryKey)) ∧
  (∀ (s : State) (o : Origin) (r : Req), s.dev.Asks o 0x89 r → s.dev.originTenant r = 0 →
    s.dev.twin.state ∈ [3, 4] ∨ (s.dev.twin.state = 5 ∧ bit 0 r.hdr.flags = true) →
    Completes (.twinRelease o) s (fun d => d.twin.state = 0 ∧ d.twin.serial = 0))

/-- RESERVE_REQ (R313): what is granted is added to what was, never more than was asked. RESERVE_GRANT (R312): it is added to the reservation held.
CHUNK_FETCH (R310): the twin is answered, with no bytes where the tag does not verify. TABLE_CHANGE (R140, R141): the change is made once and its
acknowledgement due. TABLE_ACK: no change of that number waits for it. -/
def Obligations.TwinServices : Prop := (∀ (s : State) (gw ew : Nat), s.dev.TwinSpeaks → Completes (.reserveReq gw ew) s (fun d =>
    d.twin.grantedGranules = s.dev.twin.grantedGranules +
      min gw (grantOf (s.dev.capacityGranules - s.dev.usedTotal - s.dev.twin.grantedGranules) 16777216) ∧
    d.twin.grantedEntries = s.dev.twin.grantedEntries + min ew (grantOf (dirLimit - s.dev.dirCount - s.dev.twin.grantedEntries) 1048576))) ∧
  (∀ (s : State) (g e : Nat), s.dev.TwinSpeaks → Completes (.reserveGrant g e) s (fun d => d.twin.resGranules = s.dev.twin.resGranules + g ∧
    d.twin.resEntries = s.dev.twin.resEntries + e ∧ d.twin.resAsked = false)) ∧
  (∀ (s : State) (opId ns tag version chunk : Nat) (verifies : Bool), s.dev.TwinSpeaks → (s.dev.prt 2).link = 4 →
    Completes (.chunkFetch opId ns tag version chunk verifies) s (fun d => ∃ b, (verifies = false → b = none) ∧
      Out.twin { code := 0x29, opId := opId, version := version, aux := chunk, body := .chunk b } ∈ d.out)) ∧
  (∀ (s : State) (opId seq t : Nat), s.dev.TwinSpeaks → s.dev.twinSeen? opId = none →
    Completes (.tableChange opId seq (.tenantCreate t)) s (fun d => t ∈ d.kv.tenants ∧ (opId, seq) ∈ d.twin.acksDue ∧ d.twinSeen? opId = some none)) ∧
  (∀ (s : State) (opId seq : Nat), s.dev.TwinSpeaks → Completes (.tableAck opId seq) s (fun d => d.twinOp? opId = none ∧
    ∀ c ∈ d.kv.changes, c.seq = seq → c.needAck = false))

/-! ## Leases and the hedgerow (chapter 6) -/

/-- The drive as a hedgerow witness. LEASE_REQ (R320): it is pending from now. PROBE: it is answered. PROBE_ANSWER: no request of the sender's twin is
pending. The probe instant: 250 µs after the last. 3 ms of silence: the lease is the requester's, its twin is fenced, the epoch has risen by 1. The
freeze (R319) ends. CLEAR (R326): CLEARED leaves where no lease is held against the sender. LEASE_ASSERT (R322) restores a lost record; LEASE_RELEASE
(R339) ends the lease. The drive that seeks a lease. LEASE_GRANT (R330) makes an ALONE drive HOLDER under the grant's epoch; LEASE_DENY because it is
fenced, and FENCED_NOTICE, make it FENCED (R332); LEASE_DENY because its twin is alive leaves it ALONE and denied (R874). CLEARED gives it 2 ms from
its CLEAR (R326), and they lapse. -/
def Obligations.LeasesAreServed : Prop := ((∀ (s : State) (src seq epoch : Nat), s.dev.RingHears src seq → (s.dev.served src).fenced ≠ some src →
    (s.dev.served src).pend.any (fun p => p.1 = src) = false →
    Completes (.leaseReq src seq epoch) s (fun d => (src, s.dev.now) ∈ (d.served src).pend ∧ (d.served src).epoch = max (s.dev.served src).epoch epoch)) ∧
  (∀ (s : State) (src seq : Nat) (e : Bool), s.dev.RingHears src seq → s.dev.RingReaches src e →
    Completes (.probe src seq) s (fun d => Out.ring 0x14 (some src) 1 [tgetD src 0 s.dev.ring.seqOut] [] ∈ d.out)) ∧
  (∀ (s : State) (src seq : Nat), s.dev.RingHears src seq →
    Completes (.probeAnswer src seq) s (fun d => ∀ p ∈ (d.served src).pend, p.1 ≠ twinPos src)) ∧
  (∀ (s : State) (pair : Nat) (w : WitnessRec), s.dev.live = true → tget? pair s.dev.ring.served = some w → w.pend ≠ [] →
    Completes (.witnessProbeTick pair) s (fun d => tget? pair d.ring.served = some { w with probeAt := d.now } ∧ w.probeAt + 250000 ≤ d.now)) ∧
  (∀ (s : State) (pos quiet : Nat), s.dev.live = true → (s.dev.served pos).pend.find? (fun p => p.1 = pos) = some (pos, quiet) →
    s.dev.ring.freezeUntil ≤ quiet + 3000000 →
    Completes (.witnessGrantHold pos) s (fun d => (d.served pos).holder = some pos ∧ (d.served pos).fenced = some (twinPos pos) ∧
      (d.served pos).epoch = (s.dev.served pos).epoch + 1 ∧ quiet + 3000000 ≤ d.now)) ∧
  (∀ (s : State), s.dev.live = true → Completes .witnessFreezeEnd s (fun d => d.ring.freezeUntil = 0 ∧ s.dev.ring.freezeUntil ≤ d.now)) ∧
  (∀ (s : State) (src seq : Nat) (e : Bool), s.dev.RingHears src seq → s.dev.RingReaches src e → (s.dev.served src).fenced ≠ some src →
    Completes (.clear src seq) s (fun d => ∃ n, Out.ring 0x16 (some src) 1 [n] [] ∈ d.out)) ∧
  (∀ (s : State) (src seq epoch : Nat), s.dev.RingHears src seq → (s.dev.served src).holder = none → (s.dev.served src).fenced = none →
    Completes (.leaseAssert src seq epoch) s (fun d => (d.served src).holder = some src ∧ (d.served src).fenced = some (twinPos src))) ∧
  (∀ (s : State) (src seq : Nat), s.dev.RingHears src seq → (s.dev.served src).holder = some src →
    Completes (.leaseRelease src seq) s (fun d => (d.served src).holder = none ∧ (d.served src).fenced = none))) ∧
  ((∀ (s : State) (src seq epoch : Nat), s.dev.RingHears src seq → src = s.dev.twin.witness → s.dev.twin.state = 3 →
    Completes (.leaseGrant src seq epoch) s (fun d => d.twin.state = 4 ∧ d.twin.epoch = epoch)) ∧
  (∀ (s : State) (src seq : Nat), s.dev.RingHears src seq → src = s.dev.twin.witness → s.dev.twin.state = 3 →
    Completes (.leaseDeny src seq 0) s (fun d => d.twin.state = 3 ∧ d.twin.leaseDenied = true ∧ d.twin.leaseSentAt = s.dev.now) ∧
    Completes (.leaseDeny src seq 1) s (fun d => d.twin.state = 5) ∧
    Completes (.fencedNotice src seq) s (fun d => d.twin.state = 5) ∧
    Completes (.cleared src seq) s (fun d => d.twin.clearance = true ∧ d.twin.clearUntil = s.dev.twin.clearSentAt + 2000000)) ∧
  (∀ (s : State), s.dev.live = true → s.dev.twin.state = 3 → s.dev.twin.witness < 0x20 →
    Completes .leaseReqResend s (fun d => d.twin.leaseSentAt = d.now ∧ s.dev.twin.leaseSentAt + 5000000 ≤ d.now) ∧
    Completes .clearSend s (fun d => d.twin.clearSentAt = d.now ∧ s.dev.twin.clearSentAt + 500000 ≤ d.now)) ∧
  (∀ (s : State), s.dev.live = true → s.dev.twin.clearance = true →
    Completes .clearanceLapse s (fun d => d.twin.clearance = false ∧ s.dev.twin.clearUntil ≤ d.now)) ∧
  (∀ (s : State), s.dev.live = true → s.dev.twin.state = 4 → s.dev.twin.witness < 0x20 →
    Completes .leaseAssertSend s (fun d => d.twin.assertedAt = d.now ∧ s.dev.twin.assertedAt + 10000000 ≤ d.now)))

/-- TWIN.WITNESS_CTL from the sideband while the sideband is the witness (R323, R324, R866): an ALONE drive becomes HOLDER of the next epoch, FENCED, or
has 2 ms of clearance; the write is answered OK. TWIN.WITNESS (R317): in PAIRED it takes the value written. RING_HELLO from a neighbour (R349, R403):
its side is up and heard now, and its parameters are known. The RING_HELLO instant: 1 ms after the last. A side's loss: nothing is reached through it.
A frame passing through (R351) goes on with its hops one fewer, or is dropped and counted at 0. -/
def Obligations.HedgerowAndWitness : Prop := ((∀ (s : State), s.dev.live = true → s.dev.twin.witness = 0x3E → s.dev.twin.state = 3 →
    Completes (.witnessGrant 0) s (fun d => d.twin.state = 4 ∧ d.twin.epoch = s.dev.twin.epoch + 1 ∧ Out.attr 0 0x0603 0 0 ∈ d.out) ∧
    Completes (.witnessFence 0) s (fun d => d.twin.state = 5 ∧ Out.attr 0 0x0603 0 0 ∈ d.out) ∧
    Completes (.witnessClear 0) s (fun d => d.twin.clearance = true ∧ d.twin.clearUntil = d.now + 2000000 ∧ Out.attr 0 0x0603 0 0 ∈ d.out)) ∧
  (∀ (s : State) (ch v : Nat), s.dev.live = true → s.dev.twin.state = 2 → v < 0x20 ∨ v = 0x3E ∨ v = 0x3F →
    Completes (.witnessWrite ch v) s (fun d => d.twin.witness = v ∧ Out.attr ch 0x0602 0 0 ∈ d.out))) ∧
  ((∀ (s : State) (src serial cycles random reach : Nat) (east : Bool), s.dev.live = true → s.dev.ringKeyed = true →
    src ≠ s.dev.mod.slotId →
    Completes (.ringHello src east true s.dev.operatorKeyHash serial cycles random reach) s (fun d => (d.ring.side east).up = true ∧
      (d.ring.side east).helloAt = s.dev.now ∧ tget? src d.keys.ringSenders = some (serial, cycles, random))) ∧
  (∀ (s : State), s.dev.live = true → s.dev.ringKeyed = true →
    Completes .ringHelloSend s (fun d => d.ring.helloSent = d.now ∧ s.dev.ring.helloSent + 1000000 ≤ d.now)) ∧
  (∀ (s : State) (east : Bool), s.dev.live = true → (s.dev.ring.side east).up = true →
    Completes (.ringLinkLoss east) s (fun d => (d.ring.side east).up = false ∧ (d.ring.side east).broken = true ∧ (d.ring.side east).reach = 0)) ∧
  (∀ (s : State) (f : RingFrame), s.dev.live = true → f.cls ≤ 3 → f.broadcast = true ∨ f.dest ≠ s.dev.mod.slotId →
    (f.hops = 0 → Completes (.ringFrameForward [f]) s (fun d => d.ring.hopDrops = (s.dev.ring.hopDrops + 1) % 2 ^ 64)) ∧
    (∀ e, f.hops ≠ 0 → f.broadcast = false → s.dev.ringWay f.dest = some e → (s.dev.prt (if e then 3 else 4)).link = 4 →
      Completes (.ringFrameForward [f]) s (fun d => Out.ring f.code (some f.dest) f.cls [f.seq, f.src, f.hops - 1, b2n e] [] ∈ d.out))))

/-! ## Reads of flash, Holly, checkpoints (chapters 4, 5 and 7) -/

/-- ARRAY_READ_COMPLETE (R55, R217): with the last page of a chunk, all codewords corrected and the tag verified, the chunk's bytes of the range leave,
after the reply's header if that has not left; with the last page of a record's header and key an EXISTS is answered. CHUNK_DATA (R310) that verifies:
the chunk leaves. CHUNK_DATA without bytes, and 2 ms without it (R310, R226): the reply ends in MEDIA_AUTH_FAIL. -/
def Obligations.ReadsFlow : Prop := (∀ (s : State) (o : Origin) (chunk gran : Nat) (cws : List Cw) (j : ReadJob) (x : Stream), s.dev.live = true →
    s.dev.media.reads.find? (fun j => j.origin = o ∧ j.chunk = chunk ∧ j.gran = gran ∧ j.src = none ∧ j.mode = 0) = some j → j.dead = false →
    (removeFirst (· == j) s.dev.media.reads).any (fun k => k.origin = o ∧ k.dead = false) = false → (∀ i, i < j.codewords → (cws.getD i {}).step ≠ 4) →
    s.dev.stream? o = some x → x.failed = false → x.ladder = 0 →
    (x.headerOnly = false → x.started = true → Completes (.arrayReadComplete o chunk gran none cws true) s (fun d =>
      Out.data o x.next (chunkBytes x.rec_.value x.lo x.hi x.next) ∈ d.out)) ∧
    (∀ r, s.dev.req? o = some r → (s.dev.currentPlace x).isSome = true → passed s.dev.nowUs r.tag.deadline = false → r.hdr.opcode ≠ 0x08 →
      (x.headerOnly = false → x.started = false → Completes (.arrayReadComplete o chunk gran none cws true) s (fun d =>
        Out.reply o r.replyHdr [] ∈ d.out ∧ Out.data o x.next (chunkBytes x.rec_.value x.lo x.hi x.next) ∈ d.out)) ∧
      (x.headerOnly = true → r.hdr.opcode = 0x04 → x.rec_.located = false →
        condOutcome 0x04 (condOf r.hdr.flags) r.hdr.condVersion (some x.rec_.version) = none →
        Completes (.arrayReadComplete o chunk gran none cws true) s (fun d => Out.reply o r.replyHdr [] ∈ d.out)))) ∧
  (∀ (s : State) (opId : Nat) (bytes : Bytes) (x : Stream) (r : Req), s.dev.TwinSpeaks → s.dev.fetching opId = some x → x.headerOnly = false →
    s.dev.req? x.origin = some r → r.hdr.opcode ≠ 0x08 →
    (x.started = true → Completes (.chunkData opId (some bytes) true) s (fun d =>
      Out.data x.origin x.next (chunkBytes x.rec_.value x.lo x.hi x.next) ∈ d.out)) ∧
    Completes (.chunkData opId none true) s (fun d =>
      Out.trailer x.origin St.mediaAuthFail x.reconstructed x.repaired x.next x.rec_.value.length ∈ d.out)) ∧
  (∀ (s : State) (opId : Nat) (x : Stream) (r : Req), s.dev.live = true → s.dev.fetching opId = some x → x.headerOnly = false →
    s.dev.req? x.origin = some r → r.hdr.opcode ≠ 0x08 →
    Completes (.chunkFetchTimeout opId) s (fun d => x.fetchAt + 2000000 ≤ d.now ∧
      Out.trailer x.origin St.mediaAuthFail x.reconstructed x.repaired x.next x.rec_.value.length ∈ d.out))

/-- HOLLY_DISPATCH: a request alone takes the free pair (R406); a mismatch is counted on its pair, and the third quarantines it (R408, R409). A
compatibility request suspended gets a context of its own (R413), which can be resumed once (R414); one that does not unwrap fails the import step.
DELTA_DRAIN (R268, R281): the deltas that lay in DRAM lie in the delta area, but those too old for it; the drained bytes are counted in blocks, and
what a power loss leaves of the directory is the directory. CHECKPOINT (R276, R277): counted, with a root of the next generation. HOLDUP_MEASURE
(R273, R274): what was measured holds, 24 h after the last. -/
def Obligations.HollyAndDeltas : Prop := ((∀ (s : State) (q : HollyReq) (p : Nat) (m : Bool), s.dev.live = true → s.dev.holly.waiting = [] →
    s.dev.freePair q.notPair = some p →
    Completes (.hollyDispatch [q] none m) s (fun d => tget? p d.holly.running = some { q with arrival := s.dev.now })) ∧
  (∀ (s : State) (qs : List HollyReq) (p : Nat) (q : HollyReq), s.dev.live = true → tget? p s.dev.holly.running = some q →
    Completes (.hollyDispatch qs (some p) true) s (fun d => (d.pair p).faults = (s.dev.pair p).faults + 1 ∧
      d.holly.faults = satAdd 64 s.dev.holly.faults 1 ∧ (2 ≤ (s.dev.pair p).faults → (d.pair p).inService = false))) ∧
  (∀ (s : State) (blocks p : Nat) (c q : HollyReq), s.dev.live = true → s.dev.holly.running.find? (fun p => p.2.use = 6) = some (p, c) →
    nextHolly s.dev.nowUs (s.dev.holly.waiting.filter (fun q => q.use ≠ 6)) = some q →
    Completes (.compatSuspend blocks) s (fun d => (∃ x ∈ d.holly.contexts, x.resumeId = s.dev.holly.nextResume ∧ x.dataBytes = 16 * blocks) ∧
      d.holly.nextResume = s.dev.holly.nextResume + 1 ∧ q.arrival + 1000 ≤ d.now)) ∧
  (∀ (s : State) (id : Nat) (tag : WorkTag), s.dev.live = true →
    (s.dev.holly.contexts.any (fun c => c.resumeId == id) = true →
      Completes (.compatResume id true tag) s (fun d => ∀ c, c ∈ d.holly.contexts ↔ c ∈ s.dev.holly.contexts ∧ c.resumeId ≠ id)) ∧
    Completes (.compatResume id false tag) s (fun d => d.holly.importError = true))) ∧
  ((∀ (s : State), s.dev.live = true → Completes .deltaDrain s (fun d =>
    (∀ p ∈ d.media.delta, s.dev.media.deltaNext ≤ p.1) ∧ (∀ p ∈ s.dev.media.delta, d.media.deltaOldest ≤ p.1 → p ∈ d.media.deltaArea) ∧
    d.media.drainedBytes = s.dev.media.drainedBytes + 4096 * ceilDiv s.dev.media.delta.length 127 ∧ d.kv.durable.dir = s.dev.kv.dir ∧ d.twin.acksDue = [])) ∧
  (∀ (s : State), s.dev.live = true → Completes .checkpoint s (fun d => d.media.checkpoints = s.dev.media.checkpoints + 1 ∧ d.media.drainedBytes = 0 ∧
    max d.media.roots.1.generation d.media.roots.2.generation = max s.dev.media.roots.1.generation s.dev.media.roots.2.generation + 1)) ∧
  (∀ (s : State) (mj : Nat) (temp : Int), s.dev.live = true → Completes (.holdupMeasure mj temp) s (fun d => d.media.holdupMj = mj ∧
    d.media.holdupLow = decide (mj < 3200) ∧ d.media.holdupFailed = decide (mj < 800) ∧ s.dev.media.holdupAt + 86400000000000 ≤ d.now)))

/-! ## Tenants, namespaces and keys (chapters 3 and 7) -/

/-- TENANT_CREATE and TENANT_DELETE (R141, R142): the tenant is there, or no more, and the change waits until both drives hold it (R140). NS_CREATE (R143,
R147): the namespace is ACTIVE, its owner's, of the generation above every one its number had. NS_DELETE (R155): DELETING. -/
def Obligations.TenantsAndNamespaces : Prop := (∀ (s : State) (o : Origin) (r : Req), s.dev.Asks o 0x68 r → s.dev.originTenant r = 0 → r.hdr.tenant ≠ 0 →
    s.dev.tenantExists r.hdr.tenant = false → s.dev.canChange = true → s.dev.canTell = true →
    Completes (.tenantCreate o) s (fun d => r.hdr.tenant ∈ d.kv.tenants ∧ ∃ q, d.req? o = some q ∧ q.phase = .table)) ∧
  (∀ (s : State) (o : Origin) (r : Req), s.dev.Asks o 0x69 r → s.dev.originTenant r = 0 → r.hdr.tenant ≠ 0 →
    s.dev.tenantExists r.hdr.tenant = true → s.dev.tenantState r.hdr.tenant ≠ 0x12 → s.dev.canChange = true → s.dev.canTell = true →
    Completes (.tenantDelete o) s (fun d => r.hdr.tenant ∉ d.kv.tenants)) ∧
  (∀ (s : State) (o : Origin) (r : Req) (x : NsDesc), s.dev.Asks o 0x60 r → s.dev.originTenant r = 0 → r.hdr.valueLen = 48 → r.body.length = 48 →
    r.hdr.ns ≤ 16383 → x = parseNsDesc r.body → x.kind = 1 ∨ (x.kind = 2 ∧ x.quota ≠ 0 ∧ x.solo = true) → (x.soloWrites && x.solo) = false →
    s.dev.tenantExists r.hdr.tenant = true → (s.dev.ns r.hdr.ns).state = 0x20 → s.dev.canChange = true → s.dev.canTell = true →
    Completes (.nsCreate o) s (fun d => (d.ns r.hdr.ns).state = 0x21 ∧ (d.ns r.hdr.ns).owner = r.hdr.tenant ∧
      (d.ns r.hdr.ns).gen = max (s.dev.ns r.hdr.ns).gen (s.dev.ns r.hdr.ns).topGen + 1 ∧ (d.ns r.hdr.ns).quota = x.quota ∧ (d.ns r.hdr.ns).solo = x.solo)) ∧
  (∀ (s : State) (o : Origin) (r : Req), s.dev.Asks o 0x61 r → s.dev.originTenant r = 0 → (s.dev.ns r.hdr.ns).state ∈ [0x21, 0x22] →
    s.dev.canChange = true → s.dev.canTell = true → Completes (.nsDelete o) s (fun d => (d.ns r.hdr.ns).state = 0x23))

/-- NS_MODIFY's three changes (R150, R151, R154), each of which may be joined with the others; NS_INFO's descriptor (R148); and the end of a sweep (R151,
R155). -/
def Obligations.NamespacesChange : Prop := (∀ (s : State) (o : Origin) (r : Req) (x : NsDesc) (n : Nat), s.dev.Asks o 0x62 r → s.dev.originTenant r = 0 →
    n = r.hdr.ns → x = parseNsDesc r.body → r.hdr.valueLen = 48 → r.body.length = 48 → (s.dev.ns n).state = 0x21 →
    ((bit 2 r.hdr.flags && x.soloWrites && (s.dev.ns n).solo) || (bit 0 r.hdr.flags && (s.dev.ns n).located && x.quota == 0)) = false →
    s.dev.canChange = true → s.dev.canTell = true →
    (bit 0 r.hdr.flags = true → Completes (.nsSetQuota o) s (fun d => (d.ns n).quota = x.quota)) ∧
    (bit 1 r.hdr.flags = true → Completes (.nsRaiseGen o) s (fun d => (d.ns n).gen = (s.dev.ns n).gen + 1 ∧ (d.ns n).used = 0)) ∧
    (bit 2 r.hdr.flags = true → Completes (.nsSetSoloWrites o) s (fun d => (d.ns n).soloWrites = x.soloWrites))) ∧
  (∀ (s : State) (o : Origin) (r : Req) (n : Nat), s.dev.Asks o 0x63 r → n = r.hdr.ns → (s.dev.ns n).state ≠ 0x20 →
    s.dev.originTenant r = 0 ∨ ((s.dev.ns n).state ≠ 0x24 ∧ (s.dev.ns n).owner = s.dev.originTenant r) →
    Completes (.nsInfo o) s (fun d => d.req? o = none ∧
      Out.reply o { echo r.hdr with valueLen := (s.dev.descriptor n).length } (s.dev.descriptor n) ∈ d.out)) ∧
  (∀ (s : State) (n : Nat), s.dev.live = true → (s.dev.ns n).state ∈ [0x22, 0x23] →
    Completes (.sweepComplete n) s (fun d => (∀ e ∈ d.kv.dir, e.ns ≠ n) ∧
      (d.ns n).state = if (s.dev.ns n).state = 0x22 then 0x21 else if (s.dev.ns n).topGen = 2 ^ 32 - 2 then 0x24 else 0x20))

/-- TENANT_KEY_LOAD (R370 to R372): a wrapping key is the tenant's, a STORAGE key is its CURRENT one (R378, Table 7.7), a system key is in its slot. What
waited for a slot's work goes in when it may (R378), and an old buffer that no work names is zeroised (R375). TENANT_KEY_ERASE (R380, R381, Table
7.8): what its selector names is erased: the wrapping key, the PREVIOUS slot, the CURRENT slot, both with every session of the tenant, or a system
slot. -/
def Obligations.KeysComeAndGo : Prop := ((∀ (s : State) (o : Origin) (b : Blob) (r : Req), s.dev.Asks o 0x6A r → s.dev.originTenant r = 0 →
    r.hdr.valueLen = 88 → blobForm b [2, 3, 5, 6, 7, 8] = true → s.dev.blobOpen b = none → b.tenant = r.hdr.tenant → blobPlain b = true →
    s.dev.canChange = true → s.dev.canTell = true →
    (b.kind = 2 → Completes (.tenantKeyLoad o b) s (fun d => tget? b.tenant d.keys.wraps = some b.key)) ∧
    (∀ i, b.kind = 3 → i = s.dev.loadTarget b.tenant → 
      ((s.dev.stslot i).state = 0x3A → s.dev.recordsOf b.tenant (s.dev.stslot i).serial = 0 ∧ (s.dev.effTwin = 0 ∨ (s.dev.stslot i).twinCount = 0)) → tgetD b.tenant 0 s.dev.keys.topSerial < b.serial →
      s.dev.slotInUse b.tenant i = false →
      Completes (.tenantKeyLoad o b) s (fun d => (d.stslot i).state = 0x39 ∧ (d.stslot i).key = b.key ∧ (d.stslot i).serial = b.serial)) ∧
    (5 ≤ b.kind → b.tenant = 0 → Completes (.tenantKeyLoad o b) s (fun d => (d.sysSlot (sysOf b.kind)).key = b.key ∧
      (d.sysSlot (sysOf b.kind)).state = if (s.dev.sysSlot (sysOf b.kind)).state = 0x3C then 0x3D else 0x3E))) ∧
  (∀ (s : State) (slot : Nat) (l : LoadWait) (r : Req), s.dev.live = true → s.dev.keys.loads.find? (fun l => 65536 + l.slot = slot) = some l →
    s.dev.slotInUse l.blob.tenant l.slot = false → s.dev.canTell = true → s.dev.req? l.origin = some r →
    Completes (.storageLoadResume slot) s (fun d => (d.stslot l.slot).state = 0x39 ∧ (d.stslot l.slot).key = l.blob.key)) ∧
  (∀ (s : State) (slot : Nat), s.dev.live = true →
    (73728 ≤ slot → (s.dev.sysSlot slot).state = 0x3E →
      Completes (.slotBufferRelease slot) s (fun d => (d.sysSlot slot).state = 0x3D ∧ (d.sysSlot slot).oldKey = none)) ∧
    (65536 ≤ slot → slot < 73728 → Completes (.slotBufferRelease slot) s (fun d => (d.stslot (slot - 65536)).oldKey = none)))) ∧
  ((∀ (s : State) (o : Origin) (r : Req) (t : Nat), s.dev.Asks o 0x6B r → s.dev.originTenant r = 0 → t = r.hdr.tenant →
    s.dev.tenantExists t = true →
    (r.hdr.flags % 8 = 1 → Completes (.keyEraseWrapping o) s (fun d => tget? t d.keys.wraps = none)) ∧
    (∀ i, r.hdr.flags % 8 = 2 → s.dev.slotIn t 0x3A = some i →
      Completes (.keyErasePrevious o) s (fun d => (d.stslot i).state = 0x38 ∧ (d.stslot i).key = .raw 0)) ∧
    (∀ i, r.hdr.flags % 8 = 3 → s.dev.slotIn t 0x39 = some i →
      Completes (.keyEraseCurrent o) s (fun d => (d.stslot i).state = 0x38 ∧ (d.stslot i).key = .raw 0)) ∧
    (r.hdr.flags % 8 = 4 → Completes (.keyEraseTenant o) s (fun d => tget? t d.keys.wraps = none ∧ (d.stslot (2 * t)).state = 0x38 ∧
      (d.stslot (2 * t + 1)).state = 0x38 ∧ ∀ sid, (d.sess sid).state ≠ 0x40 → (d.sess sid).tenant ≠ t)) ∧
    (∀ n, r.hdr.flags % 8 = 5 → t = 0 → n = r.hdr.condVersion % 2 ^ 32 → n ∈ [73730, 73732, 73733, 73734] →
      Completes (.keyEraseSystem o) s (fun d => (d.sysSlot n).state = 0x3C))))

/-! ## Ethernet ports (chapter 9) -/

/-- The bring-up of a link (R485): negotiation chooses the highest speed both partners advertise in a technology the port may use, training its lanes, and
the port is UP at that speed. Its loss (R486): HOLDOFF, and 10 ms later negotiation again. A failed training (R487): HOLDOFF, and the failure counts;
the twin port goes on at 200 Gb/s on a trained half (R484). A withdrawn speed returns. -/
def Obligations.LinksComeAndGo : Prop := (∀ (s : State) (p sp : Nat) (partner : List (Nat × Nat)), s.dev.live = true → (s.dev.prt p).link = 1 →
    (s.dev.advertised p).find? (fun v => (s.dev.techs p).any (fun t => partner.contains (v, t))) = some sp →
    Completes (.autonegComplete p partner) s (fun d => (d.prt p).link = 2 ∧ (d.prt p).chosen = sp ∧
      (d.prt p).tech ∈ s.dev.techs p ∧ (sp, (d.prt p).tech) ∈ partner)) ∧
  (∀ (s : State) (p trained m : Nat), s.dev.live = true → (s.dev.prt p).link = 2 → lanesFor p (s.dev.prt p).chosen trained = some m →
    Completes (.trainingComplete p trained) s (fun d => (d.prt p).link = 3 ∧ (d.prt p).lanes = m)) ∧
  (∀ (s : State) (p : Nat), s.dev.live = true → (s.dev.prt p).link = 3 →
    Completes (.linkUp p) s (fun d => (d.prt p).link = 4 ∧ (d.prt p).speed = (s.dev.prt p).chosen)) ∧
  (∀ (s : State) (p cause : Nat) (h : Option Nat), s.dev.live = true → (s.dev.prt p).link = 4 →
    Completes (.linkDown p cause h) s (fun d => (d.prt p).link = 5 ∧ (d.prt p).speed = 0 ∧ (d.prt p).holdoffAt = s.dev.now)) ∧
  (∀ (s : State) (p : Nat), s.dev.live = true → (s.dev.prt p).link = 5 →
    Completes (.holdoffExpiry p) s (fun d => (d.prt p).link = 1 ∧ (s.dev.prt p).holdoffAt + 10000000 ≤ d.now)) ∧
  (∀ (s : State) (p trained : Nat), s.dev.live = true → (s.dev.prt p).link = 2 ∨ (s.dev.prt p).link = 3 →
    (p ≠ 2 → Completes (.trainingFail p trained) s (fun d => (d.prt p).link = 5 ∧
      (d.prt p).fails = if (s.dev.prt p).fails = 2 then 0 else (s.dev.prt p).fails + 1)) ∧
    (∀ m, p = 2 → (s.dev.prt p).chosen = 400 → lanesFor 2 200 trained = some m →
      Completes (.trainingFail p trained) s (fun d => (d.prt p).link = 3 ∧ (d.prt p).chosen = 200 ∧ (d.prt p).lanes = m))) ∧
  (∀ (s : State) (p sp t : Nat), s.dev.live = true → tget? sp (s.dev.prt p).withdrawn = some t →
    Completes (.speedFallbackExpiry p sp) s (fun d => tget? sp (d.prt p).withdrawn = none ∧ t ≤ d.now))

/-- Writes of a port's CTL and STATS_MODE (R489, R518): a retrain sends the port through bring-up; disabling takes its link down, enabling begins
negotiation; a new mode of statistics begins with its counters empty. A read of the transmit timestamps (R526) takes the oldest and the lost count.
FRAME_RECEIVE (R508, Table 9.6): while the packet buffer has room, a frame that fails a step is counted by that step's counter; on the twin and
hedgerow ports a GKP frame between link-local addresses that fails none enters ring 1 while it has buffers (R511, R531). -/
def Obligations.PortsWriteAndReceive : Prop := ((∀ (s : State) (ch p : Nat), s.dev.live = true → (s.dev.prt p).link ≠ 0 → p ≠ 2 ∨ s.dev.twin.state ∈ [0, 3, 4, 5] →
    Completes (.portRetrain ch p) s (fun d => (d.prt p).link = 1 ∧ (d.prt p).retraining = true)) ∧
  (∀ (s : State) (ch p : Nat), s.dev.live = true →
    ((s.dev.prt p).enable = true → Completes (.portEnableWrite ch p false) s (fun d => (d.prt p).enable = false ∧ (d.prt p).link = 0)) ∧
    ((s.dev.prt p).enable = false → Completes (.portEnableWrite ch p true) s (fun d => (d.prt p).enable = true ∧ (d.prt p).link = 1))) ∧
  (∀ (s : State) (ch p v : Nat), s.dev.live = true → p ≤ 1 → v ≤ 1 → Completes (.statsModeWrite ch p v) s (fun d => (d.prt p).statsMode = v ∧
    (v ≠ (s.dev.prt p).statsMode → (d.prt p).counters = []) ∧ Out.attr ch (portBase p + 3) 0 0 ∈ d.out)) ∧
  (∀ (s : State) (p : Nat), s.dev.live = true → p < 5 → Completes (.txtsRead p) s (fun d => (d.prt p).txts = (s.dev.prt p).txts.tail ∧ (d.prt p).txtsLost = 0 ∧
    Out.port p 6 0 [stampBits (s.dev.prt p).txts.head? (s.dev.prt p).txtsLost] none none ∈ d.out))) ∧
  ((∀ (s : State) (f : Ether) (k : Nat), s.dev.live = true → f.port < 5 → (s.dev.prt f.port).link = 4 →
    f.cellsHeld + 36 ≤ shareCells f.port → (s.dev.prt f.port).statsMode = 0 → s.dev.rxFail f = some k →
    Completes (.frameReceive f) s (fun d => tgetD k 0 (d.prt f.port).counters = (tgetD k 0 (s.dev.prt f.port).counters + 1) % 2 ^ 64)) ∧
  (∀ (s : State) (f : Ether), s.dev.live = true → 2 ≤ f.port → f.port < 5 → (s.dev.prt f.port).link = 4 → f.cellsHeld + 36 ≤ shareCells f.port →
    s.dev.rxFail f = none → fixedFilter (classOf s.dev.port.gkpPort f) f = some 1 →
    (rxEntry f s.dev.now 0x3FFF false false).buffers ≤ s.dev.ringFree f.port 1 →
    Completes (.frameReceive f) s (fun d => (tgetD 1 [] (d.prt f.port).rings).length = (tgetD 1 [] (s.dev.prt f.port).rings).length + 1)))

/-- The protocols the drive answers on a port that is UP (R499): an ARP request and a neighbour solicitation for an address in use, an echo request with
the identical payload, in packets of R495 and R497. DHCP (R504): an acknowledgement's address and lease are the entry's; at the lease's end it has
none. LLDP (R500). An address whose detection ends is in use; one that another station uses is not (R492, R503). -/
def Obligations.PortsAnswer : Prop := (∀ (s : State) (f : ArpFrame) (i : Iface), s.dev.live = true → f.port ≤ 1 → i = s.dev.iface f.port f.vid → i.enabled = true →
    i.v4 ≠ 0 → i.v4Use = .used →
    ((s.dev.prt f.port).link = 4 → f.senderIp ≠ i.v4 → f.request = true → f.targetIp = i.v4 → Completes (.arpFrame f) s (fun d =>
      Out.port f.port 0 1 [f.vid, f.senderMac, f.senderIp, i.v4] none (if f.vid = 0 then none else some 6) ∈ d.out)) ∧
    (f.senderMac ≠ s.dev.macOf f.port → f.senderIp = i.v4 → Completes (.arpFrame f) s (fun d => (d.iface f.port f.vid).v4Use = .refused))) ∧
  (∀ (s : State) (f : NdFrame), s.dev.live = true → (s.dev.prt f.port).link = 4 → f.kind = 135 → f.source ≠ 0 → (s.dev.v6Used f.port f.vid).contains f.target = true →
    Completes (.ndFrame f) s (fun d => Out.port f.port 1 136 (f.vid :: f.sourceMac :: f.source :: wide f.target)
      (some (ipSent true false (some 48) 0)) (if f.vid = 0 then none else some 6) ∈ d.out)) ∧
  (∀ (s : State) (p vid source : Nat) (v6 : Bool) (b : Bytes), s.dev.live = true → p ≤ 1 → (s.dev.prt p).link = 4 → (s.dev.iface p vid).enabled = true →
    b.length ≤ 9146 → Completes (.icmpEcho p vid v6 source b) s (fun d => Out.port p 2 (if v6 then 129 else 0) (vid :: source :: b.map (·.toNat))
      (some (ipSent v6 false (some 48) 0)) (if vid = 0 then none else some 6) ∈ d.out)) ∧
  (∀ (s : State) (m : DhcpMsg), s.dev.live = true → m.port ≤ 1 → (s.dev.iface m.port m.vid).enabled = true → m.kind = 1 →
    (m.v6 = false → bit 1 (s.dev.iface m.port m.vid).flags = true → Completes (.dhcpMessage m) s (fun d =>
      (d.iface m.port m.vid).v4 = m.address ∧ (d.iface m.port m.vid).lease4 = some (s.dev.now + m.leaseS * 1000000000))) ∧
    (m.v6 = true → bit 3 (s.dev.iface m.port m.vid).flags = true → Completes (.dhcpMessage m) s (fun d =>
      (d.iface m.port m.vid).v61 = m.address ∧ (d.iface m.port m.vid).lease6 = some (s.dev.now + m.leaseS * 1000000000)))) ∧
  (∀ (s : State) (p vid t : Nat), s.dev.live = true →
    ((s.dev.iface p vid).lease4 = some t → Completes (.dhcpLeaseLost p vid false) s (fun d =>
      (d.iface p vid).v4 = 0 ∧ (d.iface p vid).v4Use = .none ∧ (d.iface p vid).lease4 = none ∧ t ≤ d.now)) ∧
    ((s.dev.iface p vid).lease6 = some t → Completes (.dhcpLeaseLost p vid true) s (fun d =>
      (d.iface p vid).v61 = 0 ∧ (d.iface p vid).v61Use = .none ∧ (d.iface p vid).lease6 = none ∧ t ≤ d.now))) ∧
  (∀ (s : State) (p ck pk : Nat) (c i : Bytes), s.dev.live = true → p < 5 →
    Completes (.lldpFrame p ck pk c i) s (fun d => (d.prt p).lldpPeer = lldpBytes ck pk c i)) ∧
  (∀ (s : State), s.dev.live = true → Completes .lldpTransmit s (fun d => d.port.lldpSentAt = d.now ∧ s.dev.port.lldpSentAt + 30000000000 ≤ d.now)) ∧
  (∀ (s : State) (p vid : Nat) (i : Iface), s.dev.live = true → p ≤ 1 → i = s.dev.iface p vid → i.enabled = true →
    (i.v4Use = .tentative → Completes (.duplicateAddressDetection p vid false i.v4) s (fun d => (d.iface p vid).v4Use = .used)) ∧
    (i.v60Use = .tentative → Completes (.duplicateAddressDetection p vid true i.v60) s (fun d => (d.iface p vid).v60Use = .used)) ∧
    (i.v61Use = .tentative → Completes (.duplicateAddressDetection p vid true i.v61) s (fun d => (d.iface p vid).v61Use = .used))) ∧
  (∀ (s : State) (p vid : Nat), s.dev.live = true → 2 ≤ p → (s.dev.prt p).localUse = .tentative →
    Completes (.duplicateAddressDetection p vid true (s.dev.linkLocal p)) s (fun d => (d.prt p).localUse = .used))

/-! ## Attributes, resets, rails and pins (chapters 13, 17 and 18) -/

/-- ATTR_READ, ATTR_WRITE and ATTR_BULK_READ in the operator role (R821 to R823): the words read leave, a write of DEV.LOCATE takes effect and is answered
with the count of words, a window leaves whole. Relayed, they are performed as this drive's own and answered to the host (R354). W1C (R862):
FLAG.ALERT is cleared. -/
def Obligations.AttributesAnswer : Prop := (∀ (s : State) (o : Origin) (r : Req) (n a : Nat), s.dev.Asks o 0x50 r → relayed r = false → s.dev.roleOf o = 1 →
    n = r.hdr.valueLen → a = r.hdr.offset % 65536 → 1 ≤ n → n ≤ 1024 → a + n ≤ 65536 → sidebandFits o (4 * n) = true →
    Completes (.attrRead o) s (fun d => Out.reply o { echo r.hdr with valueLen := 4 * n }
      (((readWords o.channel a n s.dev).1.map (beBytes 4)).flatten) ∈ d.out)) ∧
  (∀ (s : State) (o : Origin) (r : Req), s.dev.Asks o 0x51 r → relayed r = false → s.dev.roleOf o = 1 → r.hdr.valueLen = 4 → r.body.length = 4 →
    r.hdr.offset % 65536 = 0x102 → field 0 4 r.body ≤ 1 →
    Completes (.attrWrite o) s (fun d => d.mod.locate = (field 0 4 r.body == 1) ∧ Out.reply o { echo r.hdr with offset := 1 } [] ∈ d.out)) ∧
  (∀ (s : State) (o : Origin) (r : Req) (b : Bytes), s.dev.Asks o 0x52 r → relayed r = false → s.dev.roleOf o = 1 → r.hdr.valueLen = 0 →
    windowBytes o.channel (r.hdr.offset % 65536) s.dev = some b →
    Completes (.attrBulkRead o) s (fun d => Out.reply o { echo r.hdr with valueLen := b.length } b ∈ d.out)) ∧
  (∀ (s : State) (src seq n : Nat) (h : OpHdr) (body : Bytes), s.dev.RingHears src seq → h.opcode = 0x50 → n = h.valueLen → 1 ≤ n → n ≤ 1024 →
    h.offset % 65536 + n ≤ 65536 → s.dev.req? (.ring src seq) = none →
    Completes (.mgmtReq src seq h body) s (fun d => ∃ b, b.length = 4 * n ∧ Out.reply (.ring src seq) { echo h with valueLen := 4 * n } b ∈ d.out)) ∧
  (∀ (s : State) (src seq : Nat) (h : OpHdr) (body : Bytes) (r : Req), s.dev.RingHears src seq → s.dev.kv.reqs.find? (fun r => r.phase = .job ∧
      relayed r = true ∧ r.hdr.rid = h.rid ∧ r.hdr.opcode = h.opcode ∧ r.hdr.txn % 32 = src) = some r → sidebandFits r.origin body.length = true →
    Completes (.mgmtReply src seq h body) s (fun d => d.req? r.origin = none ∧ Out.reply r.origin h body ∈ d.out)) ∧
  (∀ (s : State) (ch v occur : Nat), s.dev.live = true → bit 0 v = true → bit 0 occur = false →
    Completes (.w1cWrite ch 0x200 v occur) s (fun d => d.flag.alert = false ∧ Out.attr ch 0x200 0 0 ∈ d.out))

/-- DEV.RESET (R819, R820): a cluster's reset is recorded; a port's sends it through bring-up (R485); the drive's holds the islands in reset with the main
rails up (R684). DEV.SIDEBAND_LOCK (R817): the sideband sets and clears it. -/
def Obligations.ResetsAndLock : Prop := (∀ (s : State) (ch : Nat), s.dev.live = true → ch = 0 ∨ s.dev.mod.sidebandLock = false →
    (∀ c, s.dev.jobIn 0x0B [0xB1] = none → Completes (.clusterReset ch c) s (fun d => tgetD 0x719 0 d.rec_.counts = tgetD 0x719 0 s.dev.rec_.counts + 1 ∧
      Out.attr ch 0x103 0 0 ∈ d.out)) ∧
    (∀ p, p ≤ 1 → (s.dev.prt p).enable = true → Completes (.portReset ch p) s (fun d => (d.prt p).link = 1)) ∧
    (s.dev.twin.state ∈ [0, 3, 4, 5] → (s.dev.prt 2).enable = true → Completes (.twinPortReset ch) s (fun d => (d.prt 2).link = 1)) ∧
    (∀ e : Bool, (s.dev.prt (if e then 3 else 4)).enable = true →
      Completes (.hedgerowPortReset ch e) s (fun d => (d.prt (if e then 3 else 4)).link = 1)) ∧
    Completes (.driveReset ch) s (fun d => d.mod.inReset = true ∧ d.mod.mainOn = true ∧ d.mod.devState = 0xD1 ∧ d.media.flushing = false)) ∧
  (∀ (s : State) (v : Nat), s.dev.live = true → v ≤ 1 →
    Completes (.sidebandLockWrite 0 v) s (fun d => d.mod.sidebandLock = (v == 1) ∧ Out.attr 0 0x104 0 0 ∈ d.out))

/-- POWER_FAIL (R270): the flush runs, and operating time is held. FLUSH_COMPLETE (R271): the main rails are off, with the flush record valid where the
recorder had begun. A failed conditional test (R411, R636, R637): the security state is ERROR. The supplies and the pins (R671 to R693): 12 V low is
recorded, high is a power failure; 3V3_AUX lost and restored; PWRDIS turns the rails off after a clean shutdown, unless a power failure or MRST_N ends
that first; MRST_N holds the islands in reset; straps changed while the rails are up are taken later; the twin's presence, the I3C address and the end
of LOCATE. -/
def Obligations.FailuresAndPins : Prop := ((∀ (s : State), s.dev.railsUp = true → Completes .powerFail s (fun d => d.media.flushing = true ∧ d.mod.devState = 0xD8 ∧
    d.time.exact = some s.dev.now)) ∧
  (∀ (s : State), s.dev.media.flushing = true → s.dev.mod.flushReset = false → Completes .flushComplete s (fun d => d.mod.mainOn = false ∧
    d.media.flushing = false ∧ (s.dev.rec_.based = true → d.media.flushValid = true ∧ d.rec_.savedStaging = s.dev.rec_.staging))) ∧
  (∀ (s : State), s.dev.live = true → Completes .drbgError s (fun d => d.sec.state = 0xA2 ∧ d.keys.drbgError = true ∧ d.holly.waiting = [])) ∧
  (∀ (s : State) (t : Nat), s.dev.live = true → t = 11 ∨ t = 12 →
    Completes (.continuousTestFail t) s (fun d => d.sec.state = 0xA2 ∧ d.mod.devState = 0xD9 ∧ bit t d.sec.tests = false))) ∧
  ((∀ (s : State), s.dev.railsUp = true →
    (∀ mv, 10800 ≤ mv → mv < 11200 → Completes (.supplyLow mv) s (fun d => tgetD 0x024 0 d.rec_.counts = tgetD 0x024 0 s.dev.rec_.counts + 1)) ∧
    (∀ mv, 13500 < mv → Completes (.supplyHigh mv) s (fun d => d.media.flushing = true)) ∧
    (s.dev.mod.auxOn = true → Completes .auxLost s (fun d => d.mod.auxOn = false)) ∧
    (s.dev.mod.auxOn = false → Completes .auxRestored s (fun d => d.mod.auxOn = true)) ∧
    (∀ how, s.dev.drained = true ∨ how = .complete → Completes (.pwrdisAssert how) s (fun d => d.mod.mainOn = false ∧ d.mod.devState = 0xD0)) ∧
    (s.dev.drained = false → Completes (.pwrdisAssert .powerFail) s (fun d => d.media.flushing = true) ∧
      Completes (.pwrdisAssert .mainReset) s (fun d => d.mod.inReset = true ∧ d.mod.mainOn = true)) ∧
    (s.dev.mod.inReset = false → Completes .mrstN s (fun d => d.mod.inReset = true ∧ d.mod.mainOn = true)) ∧
    (∀ v, v ≠ s.dev.mod.straps → Completes (.slotIdChange v) s (fun d => d.mod.straps = v ∧ d.mod.slotId = s.dev.mod.slotId)) ∧
    (∀ p, Completes (.twinPrsntChange p) s (fun d => d.twin.partnerPresent = p)) ∧
    (s.dev.mod.locate = true → Completes .locateExpiry s (fun d => d.mod.locate = false ∧ s.dev.mod.locateAt + 3600000000000 ≤ d.now))) ∧
  (∀ (s : State) (a : Nat) (e : Bool), (s.dev.mod.mainOn || s.dev.mod.auxOn) = true →
    Completes (.i3cDynamicAddress a e) s (fun d => d.mod.i3c = true ∧ d.mod.i3cAddr = a ∧ (e = true → Out.sideband 0 0x0F1 [s.dev.ident.serial % 2 ^ 32] [] ∈ d.out)) ∧
    Completes .i3cRstdaa s (fun d => d.mod.i3c = false ∧ d.mod.i3cAddr = 0)) ∧
  (∀ (s : State), s.dev.mod.mainOn = false →
    (∀ b, s.dev.mod.auxOn = false → Completes (.auxPowerApplied b) s (fun d => d.mod.auxOn = true)) ∧
    Completes .auxPowerRemoved s (fun d => d.mod.auxOn = false ∧ d.mod.i3c = false ∧ d.mod.eid = 0)))

/-! ## Time, the recorder and the meter (chapters 11 and 16) -/

/-- PPS_IN_EDGE (R588): the edge is the last, at the instant named. TOD_MESSAGE (R590): a message of the drive's own form (R591) is taken back whole and
waits for its edge; one that is not valid is counted. SOURCE_LOST (R576): the source is neither qualified nor followed. SOURCE_CHANGE (R576): the
better source is followed. HOLDOVER_TRUST_LOST (R571, R573): trust is lost, and the epoch has risen with it. TIME.WALL_SET with no source (R577): the
state is SET, which is trusted. OPTIME_RESERVATION (R568): a block ahead is reserved. PPS_OUT_EDGE (R591): the next whole second's edge leaves.
LEAP_SECOND (R592): the offset has changed by the second announced. PTP (R585, R587): a peer delay request is answered, an Announce makes the port
slave or not, and a master port sends Sync on each of its VLANs. -/
def Obligations.TimeIsKeptAndServed : Prop := ((∀ (s : State) (t : Nat), s.dev.live = true → Completes (.ppsInEdge t) s (fun d => d.time.ppsAt = some d.now ∧ t ≤ d.now ∧
    d.time.tod = none ∧ d.time.todLast = s.dev.time.tod)) ∧
  (∀ (s : State) (msg : Bytes), s.dev.live = true → (∀ m, todOf msg = some m → Completes (.todMessage msg) s (fun d => d.time.tod = some m)) ∧
    (todOf msg = none → Completes (.todMessage msg) s (fun d => d.time.todBad = (s.dev.time.todBad + 1) % 2 ^ 64))) ∧
  (∀ (m : Tod) (acc : Nat), m.seconds < 2 ^ 48 → -32768 ≤ m.utcOffset → m.utcOffset < 32768 → m.flags < 256 → m.clockClass < 256 →
    todOf (todBytes m acc) = some m ∧ (todBytes m acc).length = 24) ∧
  (∀ (s : State) (src : Nat), s.dev.live = true → src ≠ 0 → (tget? src s.dev.time.qualified).isSome = true →
    Completes (.sourceLost src) s (fun d => tget? src d.time.qualified = none ∧ d.time.source ≠ src)) ∧
  (∀ (s : State) (src t : Nat), s.dev.live = true → tget? src s.dev.time.qualified = some t → s.dev.time.source ≠ 0 →
    s.dev.rank src < s.dev.rank s.dev.time.source →
    Completes (.sourceChange src) s (fun d => d.time.source = src ∧ d.time.state = 1 ∧ t + 10000000000 ≤ d.now)) ∧
  (∀ (s : State), s.dev.live = true → s.dev.time.state = 2 → Completes .holdoverTrustLost s (fun d => d.time.state = 3 ∧ d.trusted = false ∧
    (s.dev.trusted = true → d.time.wallEpoch = satAdd 32 s.dev.time.wallEpoch 1)))) ∧
  ((∀ (s : State) (ch sec ns : Nat), s.dev.live = true → s.dev.time.qualified = [] → ns < 1000000000 →
    Completes (.wallSet ch sec ns) s (fun d => d.time.state = 4 ∧ d.trusted = true ∧ Out.attr ch 0x0A10 0 0 ∈ d.out)) ∧
  (∀ (s : State), s.dev.live = true → Completes .optimeReservation s (fun d => (s.dev.now / 2 ^ 36 + 2) * 2 ^ 36 ≤ d.time.opReserved ∧
    d.time.exact = none ∧ d.time.savedWall = s.dev.wallNow)) ∧
  (∀ (s : State), s.dev.live = true → s.dev.time.ppsOutCtl = 2 ∨ (s.dev.time.ppsOutCtl = 1 ∧ s.dev.trusted = true) →
    Completes .ppsOutEdge s (fun d => ∃ acc, Out.pps ((s.dev.wallNow / 1000000000 + 1) * 1000000000) (todBytes {
      seconds := s.dev.wallNow / 1000000000 + 2
      utcOffset := s.dev.time.utcOffset
      flags := b2n s.dev.time.leap61 + 2 * b2n s.dev.time.leap59 + 4 * b2n (s.dev.clockClass == 6) + 8 * b2n (s.dev.time.state == 2 || s.dev.time.state == 3) +
        16 * b2n s.dev.time.utcValid
      clockClass := s.dev.clockClass } acc) ∈ d.out)) ∧
  (∀ (s : State), s.dev.live = true → s.dev.time.leap61 = true ∨ s.dev.time.leap59 = true →
    Completes .leapSecond s (fun d => d.time.utcOffset = s.dev.time.utcOffset + (if s.dev.time.leap61 then 1 else -1) ∧
      d.time.leap61 = false ∧ d.time.leap59 = false)) ∧
  (∀ (s : State) (m : PtpMsg), s.dev.live = true → s.dev.ptpOn m.port = true → (s.dev.ptpVids m.port).contains m.vid = true →
    m.domain = s.dev.time.domain →
    (m.kind = 2 → (s.dev.ptpPort m.port).delay = 1 → (s.dev.prt m.port).link = 4 →
      Completes (.ptpMessage m) s (fun d => Out.port m.port 5 3 [m.vid, m.seq, s.dev.wallNow] (s.dev.fwIp m.port 5 3) none ∈ d.out)) ∧
    (m.kind = 11 → Completes (.ptpMessage m) s (fun d => (d.ptpPort m.port).slave = m.slave))) ∧
  (∀ (s : State) (p : Nat), s.dev.live = true → s.dev.ptpOn p = true → (s.dev.ptpPort p).master = true → s.dev.ptpSource p = false →
    (s.dev.prt p).link = 4 → Completes (.ptpIntervalTransmit p 0) s (fun d => (∀ v ∈ s.dev.ptpVids p,
      Out.port p 5 0 [v, (s.dev.ptpPort p).nextSeq % 65536] (s.dev.fwIp p 5 0) none ∈ d.out) ∧ (d.ptpPort p).nextSeq = (s.dev.ptpPort p).nextSeq + 1)))

/-- The log. STAGING_FLUSH (R776): up to 1,024 staged records are being written. LOG_GROUP_WRITTEN (R776, R785): a log with room has every record of the
group. LOG_FREEZE (R791, R793), LOG_THAW and the 10 s (R794). LOG.CTL (R797): the pinned area, or both areas, are empty. LOG.CURSOR (R787): the window
has the first 64 records from the cursor on. Health and enables. HEALTH_SAVE (R801): the health data are saved. The minute's end (R802): its maxima
have gone into the bins. EVEN.ENABLE (R799): the word is as written, with the bits of the sources that cannot be disabled. -/
def Obligations.LogAndHealth : Prop := ((∀ (s : State) (e : Event) (es : List Event), s.dev.live = true → s.dev.rec_.staging = e :: es → s.dev.rec_.state = 0xE1 →
    s.dev.rec_.writing = 0 → Completes .stagingFlush s (fun d => d.rec_.writing = min 1024 s.dev.rec_.staging.length ∧
      (s.dev.flushDue = false → e.opTime + 100000000 ≤ d.now))) ∧
  (∀ (s : State), s.dev.live = true → s.dev.rec_.writing ≠ 0 → s.dev.rec_.log.length + s.dev.rec_.writing ≤ 16777216 →
    Completes .logGroupWritten s (fun d => ∀ e ∈ s.dev.rec_.staging.take s.dev.rec_.writing, s.dev.rec_.logFloor ≤ e.seq → e ∈ d.rec_.log)) ∧
  (∀ (s : State) (o : Origin) (r : Req), s.dev.Asks o 0x78 r → r.operator = true → s.dev.mod.devState = 0xD5 → s.dev.rec_.state = 0xE1 →
    s.dev.jobIn 0x0A [0xB1, 0xB2] = none → Completes (.logFreeze o) s (fun d => d.rec_.state = 0xE2 ∧ d.rec_.freezeEnd = s.dev.now + 10000000000 ∧
      Out.reply o { echo r.hdr with condVersion := s.dev.headSeq } [] ∈ d.out)) ∧
  (∀ (s : State) (o : Origin) (r : Req), s.dev.Asks o 0x79 r → r.operator = true → s.dev.rec_.state = 0xE2 →
    Completes (.logThaw o) s (fun d => d.rec_.state = 0xE3 ∧ Out.reply o { echo r.hdr with offset := s.dev.rec_.frozenStaged } [] ∈ d.out)) ∧
  (∀ (s : State), s.dev.live = true → s.dev.rec_.state = 0xE2 →
    Completes .logFreezeTimeout s (fun d => d.rec_.state = 0xE3 ∧ s.dev.rec_.freezeEnd ≤ d.now)) ∧
  (∀ (s : State) (ch : Nat), s.dev.live = true → s.dev.rec_.state = 0xE1 →
    Completes (.clearPinned ch) s (fun d => d.rec_.pinned = [] ∧ d.rec_.log = s.dev.rec_.log) ∧
    Completes (.clearAll ch) s (fun d => d.rec_.pinned = [] ∧ d.rec_.log = [])) ∧
  (∀ (s : State) (ch hi cur : Nat), s.dev.live = true → s.dev.rec_.state ≠ 0xE0 → cur = hi % 2 ^ 32 * 2 ^ 32 + s.dev.cursorLow ch % 2 ^ 32 →
    Completes (.logWindowLoad ch hi) s (fun d => (d.logChan ch).cursor = cur ∧ (d.logChan ch).window =
      ((if (s.dev.logChan ch).area = 0 then s.dev.rec_.log else s.dev.rec_.pinned).filter (fun e => decide (cur ≤ e.seq))).take 64))) ∧
  ((∀ (s : State), s.dev.live = true → Completes .healthSave s (fun d => d.healthSaved = d.health ∧
    d.health.savedAt = d.now ∧ s.dev.health.savedAt + 600000000000 ≤ d.now)) ∧
  (∀ (s : State), s.dev.live = true → Completes .tempBinMinute s (fun d => d.health.minuteMax = [] ∧ d.now = (s.dev.now / 60000000000 + 1) * 60000000000)) ∧
  (∀ (s : State) (ch i v : Nat), s.dev.live = true →
    Completes (.eventEnableWrite ch i v) s (fun d => tget? i d.rec_.enable = some (v % 2 ^ 32 ||| protectedMask i))))

/-- The meter. METER_TICK (R593): one more tick is accounted, with its energy. 4 h of an interval (R618) end it. METER.INTERVAL_S (R594): a divisor of
3,600 is taken at the next interval. Recalibration (R603): the weights. METER_READ and METER_ACK (R612 to R614): a read changes no record; an
acknowledgement frees those up to it. -/
def Obligations.MeterWorks : Prop := (∀ (s : State) (e : Nat) (acts : List Activity), s.dev.live = true → Completes (.meterTick e acts) s (fun d =>
    d.meter.lastTick = s.dev.meter.lastTick + 1000000 ∧ d.meter.energyTotalUj = s.dev.meter.energyTotalUj + e ∧ d.meter.lastTick ≤ d.now)) ∧
  (∀ (s : State), s.dev.live = true → s.dev.meter.state = 2 → Completes .meterExtendedEnd s (fun d => d.meter.ticks = 0 ∧
    d.meter.lastTick = s.dev.meter.lastTick + (14400000 - s.dev.meter.ticks) * 1000000)) ∧
  (∀ (s : State) (ch v : Nat), s.dev.live = true → v ≠ 0 → 3600 % v = 0 → Completes (.meterIntervalWrite ch v) s (fun d =>
    d.meter.newInterval = some v ∧ d.meter.closeDue = true ∧ Out.attr ch 0x0B00 0 0 ∈ d.out)) ∧
  (∀ (s : State) (a b c e : Nat × Nat), s.dev.live = true → a.2 ≠ 0 → b.2 ≠ 0 → c.2 ≠ 0 → e.2 ≠ 0 → Completes (.weightRecalibrate a b c e) s (fun d =>
    d.meter.wDie = a.1 / a.2 ∧ d.meter.wHolly = b.1 / b.2 ∧ d.meter.wNet = c.1 / c.2 ∧ d.meter.wLaurel = e.1 / e.2 ∧
    s.dev.meter.recalibratedAt + 60000000000 ≤ d.now)) ∧
  (∀ (s : State) (o : Origin) (r : Req), s.dev.Asks o 0x70 r → r.operator = true → r.hdr.valueLen ≤ 8192 → Completes (.meterRead o) s (fun d =>
    d.meter.held = s.dev.meter.held ∧ d.req? o = none ∧ ∃ h b, Out.reply o h b ∈ d.out ∧ h.status = 0 ∧ h.valueLen = b.length)) ∧
  (∀ (s : State) (o : Origin) (r : Req), s.dev.Asks o 0x71 r → r.operator = true → r.hdr.offset % 2 ^ 48 < s.dev.meter.nextSeq →
    Completes (.meterAck o) s (fun d => d.meter.held = s.dev.meter.held.filter (fun x => r.hdr.offset % 2 ^ 48 < x.seq) ∧ d.req? o = none))

/-! ## Power, temperature and the option flash (chapters 14 and 15) -/

/-- IDLE_DWELL (R751) brings an idle drive to the deepest state it allows, WAKE_COMPLETE (R753) back to Leafed. What leaves the 10 s window contributes no
more (R749). POWER.STATE_LIMIT (R752) and POWER.CAP (R758) take what is written. The governor (R759): issue stops for 1 ms above 1.1 times the cap,
and the clock falls by 250 MHz above the cap less 1 W. TEMP_SAMPLE (R763): below the shutdown temperature the composite is the hottest candidate of
the sensors after the readings; at 100 °C the drive flushes (R768), at the third sample of 95 °C or more it shuts down (R767), to start again only
after a power cycle (R769). A stage is left for the next lower (R765). A sensor's silence makes it invalid (R764). A thermal shutdown that does not
complete becomes a flush (R768). -/
def Obligations.PowerAndHeat : Prop := ((∀ (s : State) (st n : Nat) (d1 : Drive), s.dev.live = true → s.dev.busy = false → s.dev.power.wakeAt = none → st ≤ 3 →
    d1 = s.dev.advanceTo (s.dev.power.idleFrom + dwellNs st) → n = d1.deepest (d1.now - d1.power.idleFrom) → s.dev.power.state < n →
    Completes (.idleDwell st) s (fun d => d.power.state = n)) ∧
  (∀ (s : State) (t : Nat), s.dev.live = true → s.dev.power.wakeAt = some t → Completes .wakeComplete s (fun d => d.power.state = 0 ∧ t ≤ d.now)) ∧
  (∀ (s : State), s.dev.live = true → s.dev.windowEnds ≠ [] → Completes .toleranceWindowExpiry s (fun d => s.dev.now < d.now ∧
    ∀ p ∈ d.power.overrides, d.now ≤ p.1 + 10000000000)) ∧
  (∀ (s : State) (ch v : Nat), s.dev.live = true → ch = 0 ∨ s.dev.mod.sidebandLock = false →
    (v ≤ 3 → Completes (.stateLimitWrite ch v) s (fun d => d.power.stateLimit = v)) ∧
    (25 ≤ v → v ≤ 70 → Completes (.capWrite ch v) s (fun d => d.power.capW = v ∧ d.power.tokens = poolOf v s.dev.therm.stage))) ∧
  (∀ (s : State) (mw : Nat), s.dev.live = true →
    (1100 * s.dev.power.capW < mw → Completes (.governor1ms mw) s (fun d => d.power.issueFrom = d.now + 1000000)) ∧
    ((s.dev.power.capW - 1) * 1000 < mw → Completes (.governor100ms mw) s (fun d => d.power.coreClock = max 1000 (s.dev.power.coreClock - 250) ∧
      d.power.inputMw = mw)))) ∧
  ((∀ (s : State) (rs : List (Nat × Int)) (b : Bool) (t : Nat) (d1 : Drive), s.dev.railsUp = true →
    t = (s.dev.now / 10000000 + 1) * 10000000 → d1 = takeReadings rs { s.dev.advanceTo t with therm.sampledAt := t } →
    ((hottest d1.therm.candidates).1 < 380 → s.dev.mod.heldStart = none →
      Completes (.tempSample rs b) s (fun d => d.therm.composite = (hottest d1.therm.candidates).1 ∧ d.therm.sampledAt = d.now ∧ d.now = t)) ∧
    (400 ≤ (hottest d1.therm.candidates).1 → Completes (.tempSample rs b) s (fun d => d.media.flushing = true ∧ d.mod.thermalOff = true)) ∧
    (380 ≤ (hottest d1.therm.candidates).1 → (hottest d1.therm.candidates).1 < 400 → 2 ≤ tgetD 4 0 s.dev.therm.hot → s.dev.therm.shutdownAt = none →
      ((b || s.dev.drained) = true → Completes (.tempSample rs b) s (fun d => d.mod.mainOn = false ∧ d.mod.thermalOff = true)) ∧
      ((b || s.dev.drained) = false → Completes (.tempSample rs b) s (fun d => d.mod.devState = 0xD7 ∧ d.mod.thermalOff = true ∧ d.therm.shutdownAt = some t)))) ∧
  (∀ (s : State) (t : Nat), s.dev.railsUp = true → tget? s.dev.therm.stage s.dev.therm.cool = some t → s.dev.therm.floor < s.dev.therm.stage →
    Completes .thermalStageExit s (fun d => d.therm.stage = s.dev.therm.stage - 1 ∧ t + 1000000000 ≤ d.now)) ∧
  (∀ (s : State) (x : Nat), s.dev.railsUp = true → x < 24 → Completes (.sensorFault x) s (fun d => x ∈ d.therm.faulted)) ∧
  (∀ (s : State) (t : Nat), s.dev.railsUp = true → s.dev.therm.shutdownAt = some t →
    Completes .thermalShutdownTimeout s (fun d => d.media.flushing = true ∧ t + 2000000000 ≤ d.now)))

/-- Execution in place (R707 to R711): released, loaded, resumed by a write, and by itself 600 s later, by sideband code that verifies. A completed write
of the option flash serves the reads that waited for it, lets the next by rank run, and answers who waited (R703 to R705). -/
def Obligations.OptionFlashWorks : Prop := (∀ (s : State) (ch : Nat), s.dev.live = true → s.dev.optf.xip = 0x90 →
    Completes (.xipRelease ch) s (fun d => d.optf.xip = 0x91 ∧ Out.attr ch 0x1300 0 0 ∈ d.out)) ∧
  (∀ (s : State), s.dev.railsUp = true → s.dev.optf.xip = 0x91 → Completes .tcmLoadComplete s (fun d => d.optf.xip = 0x92 ∧ d.optf.tcmAt = s.dev.now)) ∧
  (∀ (s : State) (i : Image), s.dev.optf.xip = 0x92 → s.dev.bank0Idle = true → s.dev.optf.sbCode = some i → s.dev.codeOk i = true →
    (∀ ch, s.dev.live = true → Completes (.xipResume ch) s (fun d => d.optf.xip = 0x90 ∧ Out.attr ch 0x1300 0 0 ∈ d.out)) ∧
    (s.dev.railsUp = true → s.dev.optf.sbRewritten = false →
      Completes .xipAutoResume s (fun d => d.optf.xip = 0x90 ∧ s.dev.optf.tcmAt + 600000000000 ≤ d.now))) ∧
  (∀ (s : State) (x : OptfOp), s.dev.railsUp = true → s.dev.optf.busy = some x → x.prio ≠ 0 → s.dev.optf.resumeFor = none →
    Completes .optfOperationComplete s (fun d => d.optf.busy = s.dev.optf.queue.head? ∧ d.optf.queue = s.dev.optf.queue.tail ∧
      (∀ p ∈ s.dev.optf.waitingReads, p.1 = x.bank → p.2 ∈ d.out) ∧ (∀ t ∈ x.tell, t ∈ d.out) ∧
      ∀ o, x.waiter = some o → s.dev.kv.changes.any (fun c => decide (c.origin = o)) = false → d.req? o = none))

/-! ## Privet (chapter 10) -/

/-- The entry commands (R538 to R541, R555, R556, Table 10.8). READ takes the entry's words and metadata to staging; WRITE stores those of staging in an
entry that is not valid, in both copies, the others staying as they are; INVALIDATE leaves zeros; MOVE takes the entry to a target that is not valid. -/
def Obligations.PrivetEntries : Prop := (∀ (s : State) (ch sel : Nat) (e : PEntry), s.dev.live = true → sel = (s.dev.pchan ch).select → s.dev.entryOk sel = true →
    e = s.dev.pentry sel →
    Completes (.entryRead ch) s (fun d => d.privet.table = s.dev.privet.table ∧ (d.pchan ch).mtch = e.mtch * 2 ^ (640 - 160 * s.dev.bankWidth (sel / 4096)) ∧
      (d.pchan ch).mask = e.mask * 2 ^ (640 - 160 * s.dev.bankWidth (sel / 4096)) ∧
      (d.pchan ch).metaWord = b2n e.valid * 2 ^ 31 + e.action * 2 ^ 16 + e.priority ∧ Out.attr ch 0x0806 0 0 ∈ d.out)) ∧
  (∀ (s : State) (ch lift : Nat) (c : PChan) (e : PEntry), s.dev.live = true → c = s.dev.pchan ch → s.dev.entryOk c.select = true →
    lift = 2 ^ (640 - 160 * s.dev.bankWidth (c.select / 4096)) →
    e = { mtch := c.mtch / lift, mask := c.mask / lift, valid := bit 31 c.metaWord, action := bits 29 16 c.metaWord, priority := bits 15 0 c.metaWord } →
    (e.mtch &&& e.mask) = e.mtch → e.action ≠ 0x3FFF →
    ((s.dev.pentry c.select).valid = true → Completes (.entryWrite ch) s (fun d => d.privet = s.dev.privet ∧
      Out.attr ch 0x0806 St.stateConflict (conflictOffset 0x81 0x08) ∈ d.out)) ∧
    ((s.dev.pentry c.select).valid = false → (e.valid = true → s.dev.orderOk c.select e.priority c.select = true) →
      Completes (.entryWrite ch) s (fun d => d.pentry c.select = e ∧ tgetD c.select {} d.privet.shadow = e ∧
        (∀ x, x ≠ c.select → d.pentry x = s.dev.pentry x) ∧ Out.attr ch 0x0806 0 0 ∈ d.out))) ∧
  (∀ (s : State) (ch sel : Nat), s.dev.live = true → sel = (s.dev.pchan ch).select → s.dev.entryOk sel = true →
    Completes (.entryInvalidate ch) s (fun d => d.pentry sel = {} ∧ tgetD sel {} d.privet.shadow = {} ∧ (∀ x, x ≠ sel → d.pentry x = s.dev.pentry x) ∧
      Out.attr ch 0x0806 0 0 ∈ d.out)) ∧
  (∀ (s : State) (ch src tgt : Nat), s.dev.live = true → src = (s.dev.pchan ch).select → tgt = (s.dev.pchan ch).target → s.dev.entryOk src = true →
    s.dev.entryOk tgt = true → s.dev.bankWidth (src / 4096) = s.dev.bankWidth (tgt / 4096) → (s.dev.pentry tgt).valid = false →
    (s.dev.pentry src).valid = true → s.dev.orderOk tgt (s.dev.pentry src).priority src = true →
    Completes (.entryMove ch) s (fun d => d.pentry tgt = s.dev.pentry src ∧ d.pentry src = {} ∧ (∀ x, x ≠ src → x ≠ tgt → d.pentry x = s.dev.pentry x) ∧
      Out.attr ch 0x0806 0 0 ∈ d.out))

/-- The action commands (R544, R545), the banks' widths (R535), the default actions (R554) and probes (R563 to R565): what is staged is stored once it is
well formed, a bank that changes width holds no valid entry, a probe answers the entry that matching would choose, or no match. The scrubber (R561):
no entry, action or default action differs from its shadow afterwards. -/
def Obligations.PrivetActions : Prop := (∀ (s : State) (ch : Nat) (c : PChan), s.dev.live = true → c = s.dev.pchan ch → c.actionSelect < 16383 →
    Completes (.actionRead ch) s (fun d => (d.pchan ch).actionData = tgetD c.actionSelect 0 s.dev.privet.actions ∧ d.privet.actions = s.dev.privet.actions) ∧
    (actionOk c.actionData = true → Completes (.actionWrite ch) s (fun d => tgetD c.actionSelect 0 d.privet.actions = actionBits c.actionData ∧
      (∀ x, x ≠ c.actionSelect → tgetD x 0 d.privet.actions = tgetD x 0 s.dev.privet.actions) ∧ Out.attr ch 0x0808 0 0 ∈ d.out)) ∧
    (actionOk c.actionData = false → Completes (.actionWrite ch) s (fun d => d.privet = s.dev.privet ∧ Out.attr ch 0x0808 St.malformed 0 ∈ d.out))) ∧
  (∀ (s : State) (ch v : Nat) (ws : List Nat), s.dev.live = true → widthsOf v = some ws →
    s.dev.privet.table.any (fun (p : Nat × PEntry) => p.2.valid && s.dev.bankWidth (p.1 / 4096) != ws.getD (p.1 / 4096) 1) = false →
    Completes (.bankWidthWrite ch v) s (fun d => d.privet.widths = ws ∧ (∀ x, (s.dev.pentry x).valid = true → d.pentry x = s.dev.pentry x) ∧
      Out.attr ch 0x0800 0 0 ∈ d.out)) ∧
  (∀ (s : State) (ch port v : Nat), s.dev.live = true → actAssign v = false → actDest v = 0 ∨ actDest v = 2 →
    Completes (.defaultActionWrite ch port v) s (fun d => d.privet.defaultA = (if port = 0 then actionBits v else s.dev.privet.defaultA) ∧
      d.privet.defaultB = (if port = 0 then s.dev.privet.defaultB else actionBits v))) ∧
  (∀ (s : State) (ch : Nat) (c : PChan), s.dev.live = true → c = s.dev.pchan ch →
    (∀ h, bestHit (s.dev.privetHits c.key1 c.key4) = some h → Completes (.probeFirst ch) s (fun d =>
      (d.pchan ch).cursor = h.2.priority * 2 ^ 16 + h.1 ∧ 2 ^ 31 ≤ (d.pchan ch).result ∧ d.privet.table = s.dev.privet.table)) ∧
    (s.dev.privetHits c.key1 c.key4 = [] → Completes (.probeFirst ch) s (fun d => (d.pchan ch).result = 0)) ∧
    (∀ h, bestHit ((s.dev.privetHits c.key1 c.key4).filter (fun p => decide (c.cursor < p.2.priority * 2 ^ 16 + p.1))) = some h →
      Completes (.probeNext ch) s (fun d => (d.pchan ch).cursor = h.2.priority * 2 ^ 16 + h.1 ∧ 2 ^ 31 ≤ (d.pchan ch).result)) ∧
    ((∀ p ∈ s.dev.privetHits c.key1 c.key4, p.2.priority * 2 ^ 16 + p.1 ≤ c.cursor) →
      Completes (.probeNext ch) s (fun d => (d.pchan ch).result = 0))) ∧
  (∀ (s : State) (u : List (Nat × Bool × Nat × Nat × Nat × Nat)) (au : List (Nat × Nat)), s.dev.live = true →
    Completes (.privetScrub u au [] []) s (fun d => (∀ x, d.pentry x = tgetD x {} s.dev.privet.shadow) ∧
      (∀ x, tgetD x 0 d.privet.actions = tgetD x 0 s.dev.privet.actionShadow) ∧ d.privet.defaultA = s.dev.privet.defaultShadowA ∧
      d.privet.defaultB = s.dev.privet.defaultShadowB ∧ s.dev.privet.scrubbedAt + 10000000 ≤ d.now))

/-! ## Security (chapter 12) -/

/-- Zeroisation (R639 to R642): the pin, the third open sample of the cover loop and the second write of the arming sequence on its channel within its
second begin it: every key is gone and the fuse blown. Each erase that completes goes on to the next, until the drive is ZEROISED. -/
def Obligations.ZeroisationRuns : Prop := (∀ (s : State), (s.dev.mod.mainOn || s.dev.mod.auxOn) = true → s.dev.sec.state ≠ 0xA3 → s.dev.sec.state ≠ 0xA4 →
    Completes .zeroizePin s (fun d => d.sec.zeroFuse = true ∧ (d.sec.state = 0xA3 ∨ d.sec.state = 0xA4) ∧ d.keys.root = false ∧ d.keys.storage = [] ∧
      d.keys.keks = [] ∧ d.keys.sessions = []) ∧
    (s.dev.sec.loopOpen = 2 → Completes (.tamperLoopSample true) s (fun d => d.sec.zeroFuse = true ∧ d.keys.root = false ∧ d.keys.storage = [])) ∧
    (s.dev.sec.loopOpen < 2 → Completes (.tamperLoopSample true) s (fun d => d = { s.dev with sec.loopOpen := s.dev.sec.loopOpen + 1 })) ∧
    Completes (.tamperLoopSample false) s (fun d => d = { s.dev with sec.loopOpen := 0 })) ∧
  (∀ (s : State) (ch : Nat), s.dev.live = true →
    Completes (.zeroizeArm ch) s (fun d => d.sec.armed = some (ch, d.now) ∧ d.sec.state = s.dev.sec.state ∧ Out.attr ch 0x120B 0 0 ∈ d.out) ∧
    (armedOn s.dev.awaken.now ch s.dev.sec.armed = true → Completes (.zeroizeConfirm ch) s (fun d => d.sec.zeroFuse = true ∧ d.keys.root = false ∧
      d.keys.storage = [] ∧ (d.sec.state = 0xA3 ∨ d.sec.state = 0xA4))) ∧
    (armedOn s.dev.awaken.now ch s.dev.sec.armed = false → Completes (.zeroizeConfirm ch) s (fun d => d.sec = { s.dev.sec with armed := none } ∧
      Out.attr ch 0x120B St.malformed 0 ∈ d.out)) ∧
    (∀ c t, s.dev.sec.armed = some (c, t) → Completes .zeroizeArmExpiry s (fun d => d.sec.armed = none ∧ t + 1000000000 ≤ d.now))) ∧
  (∀ (s : State), (s.dev.mod.mainOn || s.dev.mod.auxOn) = true → s.dev.sec.state = 0xA3 →
    (s.dev.sec.helperA = true → Completes .zeroiseEraseComplete s (fun d => d.sec.helperA = false ∧ d.sec.helperB = s.dev.sec.helperB)) ∧
    (s.dev.sec.helperA = false → s.dev.sec.helperB = true → Completes .zeroiseEraseComplete s (fun d => d.sec.helperB = false)) ∧
    (s.dev.sec.helperA = false → s.dev.sec.helperB = false → s.dev.sec.vaultCopies = 2 →
      Completes .zeroiseEraseComplete s (fun d => d.sec.vaultCopies = 1 ∧ d.keys.vaultA = [] ∧ d.sec.state = 0xA3)) ∧
    (s.dev.sec.helperA = false → s.dev.sec.helperB = false → s.dev.sec.vaultCopies ≠ 2 →
      Completes .zeroiseEraseComplete s (fun d => d.sec.vaultCopies = 0 ∧ d.keys.vaultA = [] ∧ d.keys.vaultB = [] ∧ d.sec.state = 0xA4)))

/-- Maintenance (R644 to R649): SEC.MAINT_ENABLE takes 0 and 1 until the fuse is blown, and then no write; the arming sequence blows the fuse; a token
that passes the checks of R646 gives the role for its duration, and one that fails leaves the role as it was, a fresh challenge drawn either way; the
role ends by MAINT_EXIT and by its duration. -/
def Obligations.MaintenanceIsGated : Prop := (∀ (s : State) (ch : Nat), s.dev.live = true →
    (s.dev.sec.maintFuse = true → ∀ v, Completes (.maintEnableWrite ch v) s (fun d => d.sec = s.dev.sec ∧
      Out.attr ch 0x120C St.stateConflict (conflictOffset s.dev.sec.state 0x12) ∈ d.out)) ∧
    (s.dev.sec.maintFuse = false → Completes (.maintEnableWrite ch 1) s (fun d => d.sec = { s.dev.sec with maintEnable := true })) ∧
    (s.dev.sec.maintFuse = false → Completes (.maintEnableWrite ch 0) s (fun d => d.sec = { s.dev.sec with maintEnable := false, maint := none })) ∧
    Completes (.maintFuseArm ch) s (fun d => d.sec = { s.dev.sec with maintArmed := some (ch, d.now) }) ∧
    (armedOn s.dev.awaken.now ch s.dev.sec.maintArmed = true → Completes (.maintFuseConfirm ch) s (fun d => d.sec.maintFuse = true ∧
      d.sec.maintEnable = false ∧ d.sec.maint = none)) ∧
    (∀ c t, s.dev.sec.maintArmed = some (c, t) → Completes .maintFuseArmExpiry s (fun d => d.sec = { s.dev.sec with maintArmed := none } ∧ t + 1000000000 ≤ d.now))) ∧
  (∀ (s : State) (session services serial challenge duration : Nat) (k g : Bool) (d0 : Drive), s.dev.spdmUp = true → d0 = s.dev.dropStale → d0.spdmOpen session = true →
    services ≤ 15 → 1 ≤ duration → duration ≤ 28800 →
    (d0.tokenFault k g serial challenge = none → Completes (.maintToken session services serial challenge duration k g) s (fun d =>
      d.sec.maint = some { services := services, session := session, until_ := d0.now + duration * 1000000000 } ∧
      d.sec.challenge = Config.random d0.keys.draws ∧ Out.sideband session 0x11 [0] [] ∈ d.out)) ∧
    (∀ c, d0.tokenFault k g serial challenge = some c → Completes (.maintToken session services serial challenge duration k g) s (fun d =>
      d.sec = { d0.sec with challenge := Config.random d0.keys.draws } ∧ Out.sideband session 0x11 [St.notPermitted] [] ∈ d.out))) ∧
  (∀ (s : State) (m : Maint) (d0 : Drive), s.dev.spdmUp = true → d0 = s.dev.dropStale → d0.sec.maint = some m →
    Completes (.maintExit m.session) s (fun d => d.sec = { d0.sec with maint := none } ∧ Out.sideband m.session 0x12 [0] [] ∈ d.out) ∧
    Completes .maintDurationExpiry s (fun d => d.sec = { d0.sec with maint := none } ∧ m.until_ ≤ d.now))

/-- SPDM before a session (R650 to R654): version, capabilities and algorithms are agreed in that order; then certificates, the signed challenge, the
measurements and KEY_EXCHANGE answer, of which at most four sessions stand. VENDOR_DEFINED_REQUEST (R628, R648): a raw read of a page answers its
bytes in a role that has the service, NOT_PERMITTED in any other, STATE_CONFLICT for a superblock in use; any other request a body that the spec
leaves open. `d0`: sessions silent too long have ended (log entry 35). SPDM sessions (R625, R650, R653): FINISH that verifies completes the handshake,
and makes the session the operator's when the requester's root is the operator's; a finished session is kept, rekeyed and ended; in the operator's,
SET_CERTIFICATE fills slot 1. KEK_IMPORT (R363, R366, R375) by the operator image's key stores the KEK; its answer leaves with the write of the
vault's copies. `d0`: sessions silent too long have ended (log entry 35). -/
def Obligations.SpdmServes : Prop := (∀ (s : State) (d0 : Drive), s.dev.spdmUp = true → d0 = s.dev.dropStale →
  Completes .getVersion s (fun d => d = { d0 with sec.negotiated := max 1 d0.sec.negotiated, out := Out.sideband 0 0x04 [0x13] [] :: d0.out }) ∧
  (1 ≤ d0.sec.negotiated → Completes (.getCapabilities true) s (fun d => d = { d0 with
      sec.negotiated := max 2 d0.sec.negotiated
      out := Out.sideband 0 0x61 [capabilityFlags] [] :: d0.out })) ∧
  (2 ≤ d0.sec.negotiated → Completes (.negotiateAlgorithms true) s (fun d => d = { d0 with
      sec.negotiated := 3
      out := Out.sideband 0 0x63 chosenAlgorithms [] :: d0.out })) ∧
  (3 ≤ d0.sec.negotiated → ∀ session,
    Completes (.getDigests session) s (fun d => d = d0.emit (.sideband session 0x01 (if d0.sec.slot1.isSome then [0, 1] else [0]) [])) ∧
    (∀ slot o, slot = 0 ∧ o = Out.sideband session 0x02 [0, d0.ident.serial] [] ∨ slot = 1 ∧ (∃ c, d0.sec.slot1 = some c ∧ o = Out.sideband session 0x02 [1] c) →
      ((∀ x, d0.optf.busy = some x → x.bank = 1 → x.suspends < 64 ∧ x.suspendedNs < 50000000) →
        Completes (.getCertificate session slot) s (fun d => o ∈ d.out ∧ d.optf.queue = d0.optf.queue)) ∧
      (∀ x, d0.optf.busy = some x → x.bank = 1 → 64 ≤ x.suspends ∨ 50000000 ≤ x.suspendedNs →
        Completes (.getCertificate session slot) s (fun d => d.out = d0.out ∧ (1, o) ∈ d.optf.waitingReads))) ∧
    Completes (.challenge 0) s (fun d => ∃ sig, d = { d0 with free := d0.free + 1, out := Out.sideband 0 0x03 [0, sig] [] :: d0.out }) ∧
    (∀ i m, 1 ≤ i → i ≤ 7 → d0.measurement i = some m → Completes (.getMeasurements session i) s (fun d => d = d0.emit (.sideband session 0x60 m []))) ∧
    (d0.optf.xip ≠ 0x92 ∨ d0.mod.devState = 0xD6 → d0.sec.spdm.length < 4 → Completes .keyExchange s (fun d =>
      tget? d0.sec.spdmNext d.sec.spdm = some { heardAt := d0.now } ∧ Out.sideband 0 0x64 [d0.sec.spdmNext] [] ∈ d.out)) ∧
    (d0.optf.xip ≠ 0x92 ∨ d0.mod.devState = 0xD6 → 4 ≤ d0.sec.spdm.length → Completes .keyExchange s (fun d => d = d0.emit (.sideband 0 0x7F [0x0A] []))) ∧
    Completes (.vendorDefinedRequest session .other) s (fun d => ∃ x, d = { d0 with free := d0.free + 1, out := Out.sideband session 0x7E [St.ok, x] [] :: d0.out }) ∧
    (∀ sb ch i, sb < 32768 → ch < 32 → i < (if (d0.sb sb).slc then 4096 else 16384) →
      (d0.maintHas session 2 = false → Completes (.vendorDefinedRequest session (.rawPage sb ch i)) s (fun d => d = d0.emit (.sideband session 0x7E [St.notPermitted] []))) ∧
      (d0.maintHas session 2 = true → (d0.sb sb).state ∉ [0, 1, 6] →
        Completes (.vendorDefinedRequest session (.rawPage sb ch i)) s (fun d => d = d0.emit (.sideband session 0x7E [St.stateConflict] []))) ∧
      (d0.maintHas session 2 = true → (d0.sb sb).state ∈ [0, 1, 6] → Completes (.vendorDefinedRequest session (.rawPage sb ch i)) s (fun d =>
        ∃ b, Out.sideband session 0x7E [St.ok] b ∈ d.out ∧ ∀ p, (d0.countEcc { read := 4 }).rawPage sb ch i = some p → b = p))))) ∧
  ((∀ (s : State) (n eid : Nat) (q : Option Nat) (x : SpdmSession) (d0 : Drive), s.dev.spdmUp = true → d0 = s.dev.dropStale →
    tget? n d0.sec.spdm = some x → x.phase = 0 →
    Completes (.finish n eid q true) s (fun d => tget? n d.sec.spdm = some { x with
        phase := 1, requester := q, operator := d0.sec.operatorRoot != 0 && q == some d0.sec.operatorRoot, heardAt := d0.now } ∧
      Out.sideband n 0x65 [] [] ∈ d.out)) ∧
  (∀ (s : State) (n : Nat) (x : SpdmSession) (d0 : Drive), s.dev.spdmUp = true → d0 = s.dev.dropStale → tget? n d0.sec.spdm = some x → x.phase = 1 →
    Completes (.spdmHeartbeat n) s (fun d => tget? n d.sec.spdm = some { x with heardAt := d0.now } ∧ Out.sideband n 0x68 [] [] ∈ d.out) ∧
    Completes (.keyUpdate n) s (fun d => tget? n d.sec.spdm = some { x with heardAt := d0.now, epoch := x.epoch + 1 } ∧ Out.sideband n 0x69 [] [] ∈ d.out) ∧
    Completes (.endSession n) s (fun d => d.sec.spdm = tdel n d0.sec.spdm ∧ (∀ m, d.sec.maint = some m → m.session ≠ n) ∧ Out.sideband n 0x6C [] [] ∈ d.out) ∧
    Completes (.getCsr n) s (fun d => ∃ c, d = { d0 with
      sec.spdm := tput n { x with heardAt := d0.now } d0.sec.spdm
      free := d0.free + 1
      out := Out.sideband n 0x6D [c] [] :: d0.out }) ∧
    (x.operator = true → ∀ chain, Completes (.setCertificate n 1 true chain) s (fun d => d.sec.slot1 = some chain ∧ Out.sideband n 0x6E [1] [] ∈ d.out)) ∧
    (x.operator = false → ∀ chain, Completes (.setCertificate n 1 true chain) s (fun d => d = { d0 with
      sec.spdm := tput n { x with heardAt := d0.now } d0.sec.spdm
      out := Out.sideband n 0x7F [0x01] [] :: d0.out }))) ∧
  (∀ (s : State) (n i pk : Nat) (b : Blob) (d0 : Drive), s.dev.spdmUp = true → d0 = s.dev.dropStale → d0.spdmOpen n = true → i ≤ 7 → d0.sec.otp ≠ [] → pk = d0.operatorKeyHash →
    blobForm b [1] = true → b.wrapper = i → b.wrappedUnder = .derived (.raw n) 0x4B454B 0 → b.headerCopyOk = true → blobPlain b = true → d0.hollyUp = true →
    Completes (.kekImport n i pk true b) s (fun d => tget? i d.keys.keks = some b.key ∧ tget? (vaultId 1 i) d.keys.vaultA = some b.key ∧
      tget? (vaultId 1 i) d.keys.vaultB = some b.key ∧ ∃ x, (d.optf.busy = some x ∨ x ∈ d.optf.queue) ∧ Out.sideband n 0x10 [0] [] ∈ x.tell)))

/-! ## The flash array, clipping and recovery (chapters 4 and 5) -/

/-- Dies (R212 to R217, R220): a suspended operation becomes ready, and the reads queued for its die run under its token; a program's last window and the
guard's protection are busy intervals, of which a die group has one at a time; an erase's first window ends after 400 µs; the guard ends a suspension,
what is queued waiting; a new interval of the reconstruction budget begins. -/
def Obligations.DiesTakeTurns : Prop := (∀ (s : State) (n : Nat) (o : DieOp), s.dev.live = true → s.dev.die n = some o →
    (o.suspended = true → o.ready = false → s.dev.readsFor n = true → Completes (.suspendComplete n) s (fun d => d.die n = some { o with ready := true } ∧
      o.suspendedAt + suspendLatency o ≤ d.now ∧ (s.dev.media.reads.any (fun r => r.mode = 3 ∧ r.die = n) = true → s.dev.dieGone n = false → s.dev.mayIssue = true →
        (s.dev.setDie n { o with ready := true }).withinPool = true →
        o.held = true ∨ o.spent d.now = false → d.reading n = true))) ∧
    (o.kind = 1 → o.suspended = false → o.window = false → o.guarded = false → o.held = false → o.guardDue s.dev.now = false →
      Completes (.busyWindowEntry n) s (fun d => d.die n = some (if s.dev.groupBusy n then { o with held := true } else { o with
        window := true
        startedAt := s.dev.now }))) ∧
    (o.kind = 2 → o.window = true → o.held = false → Completes (.eraseWindowEnd n) s (fun d => (∃ o', d.die n = some o' ∧ o'.window = false ∧ o'.sb = o.sb) ∧
      o.startedAt + 400000 ≤ d.now)) ∧
    (o.suspended = true → o.ready = true → o.held = false → s.dev.reading n = false → Completes (.starvationGuardTrip n) s (fun d => (∃ o', d.die n = some o' ∧
      (s.dev.groupBusy n = false → o'.suspended = false ∧ o'.guarded = true) ∧ (s.dev.groupBusy n = true → o'.held = true)) ∧
      ∀ j ∈ d.media.reads, j.die = n → j.mode ≠ 3))) ∧
  (∀ (s : State), s.dev.live = true → Completes .reconInterval s (fun d => d.now = (s.dev.now / 10000000 + 1) * 10000000 ∧
    d.media.reconInterval = s.dev.now / 10000000 + 1 ∧ (s.dev.media.reconInterval ≠ s.dev.now / 10000000 + 1 →
      d.media.reconUsed = 0 ∧ d.media.reconCapacity = s.dev.power.tokens * 160000 / 36)))

/-- Programs and erases (R245, R250 to R256, R267): a keyed record whose program verifies has left the shelf, its entry does not name it there, and its
place holds it; a superblock of which the last block is erased holds no record and has one erasure more; a block whose program or erase fails is
retired for a substitute. -/
def Obligations.ProgramsAndErasesEnd : Prop := (∀ (s : State) (n : Nat) (o : DieOp), s.dev.live = true → s.dev.die n = some o → o.suspended = false → o.held = false →
    (∀ i x, o.kind = 1 → o.job = some (.shelf i) → tget? i s.dev.kv.shelf = some x → x.rec_.located = false → (s.dev.sb o.sb).state = 2 →
      s.dev.media.verified = [] → s.dev.canDelta = true →
      Completes (.programComplete n) s (fun d => tget? i d.kv.shelf = none ∧ (∀ e ∈ d.kv.dir, e.place ≠ .shelf i) ∧ (o.gran, x.rec_) ∈ (d.sb o.sb).recs)) ∧
    (o.kind = 2 → (s.dev.sb o.sb).eraseBusy = 1 → (s.dev.sb o.sb).eraseTodo = [] → Completes (.eraseComplete n) s (fun d => (d.sb o.sb).recs = [] ∧
      (d.sb o.sb).eraseQlc = (s.dev.sb o.sb).eraseQlc + b2n (!(s.dev.sb o.sb).slc) ∧ (d.sb o.sb).eraseSlc = (s.dev.sb o.sb).eraseSlc + b2n (s.dev.sb o.sb).slc))) ∧
  (∀ (s : State) (n : Nat) (o : DieOp), s.dev.live = true → s.dev.die n = some o → (s.dev.takeSubstitute o.sb).isSome = true →
    (o.kind = 1 → Completes (.programFail n) s (fun d => d.media.retiredBlocks = s.dev.media.retiredBlocks + 1 ∧
      ∃ a b, Substitute.mk o.sb (channelOf o.gran) a b ∈ d.media.substitutes)) ∧
    (o.kind = 2 → Completes (.eraseFail n) s (fun d => d.media.retiredBlocks = s.dev.media.retiredBlocks + 1 ∧
      ∃ a b, Substitute.mk o.sb o.channel a b ∈ d.media.substitutes)))

/-- SHELF_DRAIN (R236, R237, R267): the oldest record that no die is programming begins its program, at its place if it has one, else at one of the HOST
stream's: in QLC mode while the shelf is less than half full, in the burst area at or above. SHELF_ADMIT (R241): with room again, a request that
waited does what its command does. Choosing what to clip (R238, R242, R243, R260) and the patrol (R258 to R261): the chosen superblock is a VICTIM, or
already DIRTY when nothing in it is live; a visit reads the next codeword of every page, recalibrates the read levels of its block groups, and a page
that needed help makes the superblock be refreshed; a late visit is recorded. HEALTH_WEAR_UPDATE (R262): the wear, every 60 s. -/
def Obligations.ShelfAndClipping : Prop := ((∀ (s : State) (i : Nat) (x : ShelfRec), s.dev.live = true →
    s.dev.kv.shelf.find? (fun p => !(s.dev.media.dies.any (fun q => q.2.job == some (ProgramJob.shelf p.1)) ||
      s.dev.media.verified.any (fun q => q.1 == ProgramJob.shelf p.1))) = some (i, x) →
    (∀ sb g, x.target = some (sb, g) → s.dev.dieFree (s.dev.dieOf sb g) = true → Completes .shelfDrain s (fun d =>
      ∃ o, d.die (s.dev.dieOf sb g) = some o ∧ o.kind = 1 ∧ o.sb = sb ∧ o.gran = g ∧ o.job = some (.shelf i) ∧ o.slc = (s.dev.sb sb).slc)) ∧
    (∀ slc sb g d', x.target = none → s.dev.allocate 0x01 slc (recGranules x.rec_) = some ((sb, g), d') → (d'.issueProgram (.shelf i) sb g).isSome = true →
      (slc = true → s.dev.media.shelfLimitMiB * 2 ^ 20 ≤ 2 * s.dev.shelfUsed) →
      (slc = false → 2 * s.dev.shelfUsed < s.dev.media.shelfLimitMiB * 2 ^ 20 ∧ ((s.dev.openOf 0x01 false (recGranules x.rec_)).isSome = true ∨ 32 ≤ s.dev.qlcFree)) →
      Completes .shelfDrain s (fun d => ∃ y, tget? i d.kv.shelf = some y ∧ y.target = some (sb, g) ∧ y.rec_ = x.rec_ ∧ (d.die (d'.dieOf sb g)).isSome = true))) ∧
  (∀ (s : State) (o : Origin) (r : Req) (i : Instr), s.dev.live = true → s.dev.req? o = some r → s.dev.canShelve = true → s.dev.canDelta = true →
    (r.hdr.opcode, i) ∈ [(0x02, .put o), (0x03, .delete o), (0x21, .locDelete o), (0x10, .batchAtomic o), (0x11, .batch o)] →
    Completes (.shelfAdmit o) s (fun d => exec i s = .next { s with dev := d }))) ∧
  ((∀ (s : State) (n : Nat) (bad : List Nat), s.dev.live = true →
    (s.dev.victim = some n → Completes (.clipVictimSelect bad) s (fun d => (d.sb n).state = 4 ∨ (d.sb n).state = 1)) ∧
    (bestBy (fun a b => decide ((s.dev.sb a).seq < (s.dev.sb b).seq))
        ((s.dev.media.sbs.filter (fun p => p.2.state = 3 ∧ p.2.slc = true ∧ p.2.stream = 0x01)).map (·.1)) = some n →
      Completes (.folding bad) s (fun d => (d.sb n).state = 4 ∨ (d.sb n).state = 1))) ∧
  (∀ (s : State) (n : Nat), s.dev.live = true → s.dev.patrolled n = true →
    (∀ cws, Completes (.patrolVisit n cws) s (fun d => (d.sb n).visitedAt = d.now ∧ s.dev.now ≤ d.now ∧ (d.sb n).codeword = ((s.dev.sb n).codeword + 1) % 4 ∧
      (∀ c, c < 32 → (tget? (s.dev.blockGroup n c) d.media.levels).isSome = true) ∧
      ((s.dev.sb n).state = 3 → cws.any (fun c => c.weak || decide (1 < c.step)) = true → (d.sb n).refresh = true))) ∧
    (s.dev.media.lateRecorded.contains n = false → Completes (.patrolLate n) s (fun d => n ∈ d.media.lateRecorded ∧
      (s.dev.sb n).visitedAt + 14 * 86400 * 1000000000 < d.now))) ∧
  (∀ (s : State), s.dev.live = true → Completes .healthWearUpdate s (fun d => d.now = (s.dev.now / 60000000000 + 1) * 60000000000 ∧
    d.media.wearMaxPct = ((s.dev.media.sbs.map (fun p => p.2.wear20)).foldl max 0) * 100 / 40000)))

/-! ## Starting, and firmware (chapters 14 and 17) -/

/-- START (R727 to R740, Table 14.10): images that verify and tests that pass bring the drive to the twin's handshake; a loader that does not verify
brings recovery boot (R742); the option area says where the images lie, and what it leaves out the default layout does (R715, R716). After a thermal
shutdown the drive starts only when 12 V has been cycled or PWRDIS given, and waits at step 4 while the composite is at or above 85 degrees (R769).
DEVICE_READY: the drive is ready. START_TIMEOUT and CLUSTER_FAULT (R732): a start that fails waits in reset. -/
def Obligations.StartsEnd : Prop := (∀ (s : State) (u : StartUp) (d1 : Drive), s.dev.mod.mainOn = false → s.dev.mod.auxOn = true → s.dev.media.flushing = false →
    s.dev.sec.zeroFuse = false → (s.dev.mod.thermalOff = false ∨ u.cycled = true) →
    d1 = (match (s.dev.wakeUp u).readArea u.areaOk with
      | (true, x) => x.bankRead 1
      | (false, x) => x.event 0x041 Sev.error []) →
    (∀ l c x, d1.findsRegion 2 = true → d1.findsRegion 4 = true → d1.optf.loader = some l → d1.codeOk l = true → u.bad.contains (2, 0) = false → d1.optf.sbCode = some c → d1.codeOk c = true →
      u.bad.contains (4, 0) = false → Drive.pickImages u { d1 with
        sec.tests := 3
        mod.sbFailed := false
        optf.xip := 0x90
        optf.sbRewritten := false } = .inr x →
      ((x.mod.thermalOff = false ∨ u.composite < 340) → (({ x with mod.thermalOff := false }).selfTests u).sec.state ≠ 0xA2 →
        Completes (.start u) s (fun d => d.mod.devState = 0xD4)) ∧
      (x.mod.thermalOff = true → 340 ≤ u.composite → Completes (.start u) s (fun d => d.mod.heldStart = some u ∧ d.live = false))) ∧
    (∀ i, d1.findsRegion 3 = true → u.bad.contains (2, 0) = true → d1.optf.recovery = some i → d1.codeOk i = true → u.bad.contains (3, 0) = false →
      Completes (.start u) s (fun d => d.mod.devState = 0xD6 ∧ d.mod.recovery = some 1 ∧ d.mod.mainOn = true ∧ d.optf.xip = 0x92))) ∧
  (∀ (s : State) (u : StartUp), s.dev.mod.thermalOff = true → u.cycled = false → Completes (.start u) s (fun d => d = s.dev)) ∧
  (∀ (s : State), s.dev.railsUp = true → s.dev.mod.heldStart.isSome = true → s.dev.mod.devState ≠ 0xD4 →
    Completes .startTimeout s (fun d => d.mod.inReset = true ∧ s.dev.mod.startedAt + 900000000000 ≤ d.now)) ∧
  (∀ (s : State), s.dev.live = true → s.dev.mod.devState = 0xD4 → Completes .deviceReady s (fun d => d.mod.devState = 0xD5 ∧ d.optf.boot.kind = 2) ∧
    Completes .startTimeout s (fun d => d.mod.devState = 0xD1 ∧ d.mod.inReset = true ∧ s.dev.mod.startedAt + 900000000000 ≤ d.now) ∧
    Completes .clusterFault s (fun d => d.mod.devState = 0xD1 ∧ d.mod.inReset = true ∧ ∀ r ∈ d.kv.reqs, r.phase = .decided))

/-- Downloads (R725, R839 to R841): the first chunk of firmware begins a download and the last one that verifies stores the image in the standby slot; by
PLDM type 5 as well (R811). After 10 minutes without a chunk the download is idle again (R840). -/
def Obligations.DownloadsStore : Prop := (∀ (s : State) (o : Origin) (r : Req) (img : Image), s.dev.Asks o 0x80 r → s.dev.roleOf o = 1 → r.hdr.flags % 32 = 1 →
    bits 6 5 r.hdr.flags = 0 → s.dev.jobIn 0x0B [0xB1] = none → (s.dev.optf.fwRunning = 0 ∨ s.dev.optf.fwRunning = 1 ∧ s.dev.optf.xip = 0x92) →
    chunkFault 1 r.hdr.offset r.hdr.valueLen r.body.length (bit 7 r.hdr.flags) = none →
    (r.hdr.offset = 0 → bit 7 r.hdr.flags = false → s.dev.optf.dl ≠ 0xC1 → s.dev.optf.dl ≠ 0xC2 → Completes (.fwDownload o img) s (fun d => d.optf.dl = 0xC1 ∧
      d.optf.dlComponent = 1 ∧ d.optf.dlNext = r.hdr.valueLen ∧ d.fwImage (1 - s.dev.optf.fwRunning) = none)) ∧
    (0 < r.hdr.offset → bit 7 r.hdr.flags = true → s.dev.optf.dl = 0xC1 → s.dev.optf.dlChannel = o.channel → s.dev.optf.dlComponent = 1 →
      s.dev.optf.dlNext = r.hdr.offset → s.dev.codeOk img = true → img.component = 1 → img.formOk = true → Completes (.fwDownload o img) s (fun d =>
        d.optf.dl = 0xC3 ∧ d.fwImage (1 - s.dev.optf.fwRunning) = some img ∧ d.fwImage s.dev.optf.fwRunning = s.dev.fwImage s.dev.optf.fwRunning))) ∧
  (∀ (s : State), s.dev.live = true → s.dev.optf.dl = 0xC1 → Completes .downloadIdleTimeout s (fun d => d.optf.dl = 0xC0 ∧ s.dev.optf.dlAt + 600000000000 ≤ d.now)) ∧
  (∀ (s : State) (n c off len : Nat) (last : Bool) (img : Image) (d0 : Drive), s.dev.pldmUp = true → d0 = s.dev.dropStale → d0.pldmMay n c = true → chunkFault c off len len last = none → len ≤ 4096 →
    (d0.chunk 0 c off len last img).status = 0 → Completes (.pldmFwUpdate n c off len last img) s (fun d => Out.sideband n 0x205 [0, c, off] [] ∈ d.out))

/-- Activation (R842 to R849): FW_ACTIVATE starts a roll, answered with its job's id; with RESTART the drive stops for a start from the other slot;
ActivateFirmware (R745, R811) does as much. A twin whose roll is done asks this drive to roll, and a job of starter 3 does so (R848). A roll restarts
the clusters one after another and, after the last watch, the drive runs the new image; a failure brings every cluster back, and an image that no
longer verifies fails the job before the first restart. After 24 h the security version that runs is the least to be run (R659). -/
def Obligations.RollsActivate : Prop := (∀ (s : State) (o : Origin) (r : Req) (dl dg : Nat), s.dev.Asks o 0x81 r → s.dev.roleOf o = 1 → r.hdr.flags < 4 →
    r.hdr.valueLen = 0 → r.body = [] → s.dev.activateFault (bit 0 r.hdr.flags) (bit 1 r.hdr.flags) dl dg = none →
    (bit 1 r.hdr.flags = false → (s.dev.jobRoom true).isSome = true → s.dev.jobs.table.length ≤ 256 → Completes (.fwActivate o dl dg) s (fun d => ∃ id, Out.reply o { echo r.hdr with offset := id } [] ∈ d.out ∧
      ∃ j ∈ d.jobs.table, j.id = id ∧ j.kind = 0x0B ∧ j.p0 = 1 - s.dev.optf.fwRunning)) ∧
    (bit 1 r.hdr.flags = true → Completes (.fwActivateRestart o dl dg) s (fun d => d.mod.inReset = true ∧ d.mod.devState = 0xD1 ∧
      d.optf.boot.fwSlot = 1 - s.dev.optf.fwRunning ∧ Out.reply o (echo r.hdr) [] ∈ d.out))) ∧
  (∀ (s : State) (n : Nat), s.dev.pldmUp = true → s.dev.mod.devState ≠ 0xD6 → s.dev.dropStale.pldmMay n s.dev.optf.dlComponent = true → s.dev.optf.dl = 0xC3 →
    s.dev.optf.dlComponent = 1 → s.dev.activateFault false false 0 0 = none → (s.dev.jobRoom true).isSome = true →
    s.dev.jobs.table.length ≤ 256 → Completes (.activateFirmware n) s (fun d => Out.sideband n 0x21A [0, 0] [] ∈ d.out ∧ ∃ j ∈ d.jobs.table, j.kind = 0x0B)) ∧
  (∀ (s : State) (op dl dg : Nat), s.dev.live = true → s.dev.twin.linkUp = true → s.dev.twin.authenticated = true → s.dev.activateFault false false 0 0 = none →
    (s.dev.jobRoom true).isSome = true → s.dev.jobs.table.length ≤ 256 → Completes (.fwActivate (.twin op) dl dg) s (fun d =>
      ∃ j ∈ d.jobs.table, j.kind = 0x0B ∧ j.starter = 3 ∧ j.p0 = 1 - s.dev.optf.fwRunning)) ∧
  (∀ (s : State) (j : Job), s.dev.live = true → s.dev.jobIn 0x0B [0xB1] = some j →
    (∀ c r ok, j.todo = c :: r → s.dev.jobs.newClusters ≠ [] → Completes (.fwRollStep ok) s (fun d => d.jobs.newClusters = s.dev.jobs.newClusters ++ [c] ∧
      d.optf.fwRunning = s.dev.optf.fwRunning ∧ j.watchAt + 500000000 ≤ d.now)) ∧
    (∀ c r, j.todo = c :: r → s.dev.jobs.newClusters = [] → s.dev.verifies (s.dev.fwImage j.p0) = true → Completes (.fwRollStep true) s (fun d =>
      d.jobs.newClusters = [c] ∧ d.optf.boot.fwSlot = j.p0)) ∧
    (∀ c r ok, j.todo = c :: r → s.dev.jobs.newClusters = [] → (ok && s.dev.verifies (s.dev.fwImage j.p0)) = false → Completes (.fwRollStep ok) s (fun d =>
      d.jobs.newClusters = [] ∧ d.optf.fwRunning = s.dev.optf.fwRunning ∧ ∃ k ∈ d.jobs.table, k.id = j.id ∧ k.state = 0xB7)) ∧
    (∀ ok, j.todo = [] → Completes (.fwRollStep ok) s (fun d => d.optf.fwRunning = j.p0 ∧ d.jobs.newClusters = [] ∧ ∃ k ∈ d.jobs.table, k.id = j.id ∧ k.state = 0xB5)) ∧
    (∀ c, s.dev.jobs.newClusters.contains c = true → Completes (.fwRollFailed c) s (fun d => d.jobs.newClusters = [] ∧
      d.optf.boot.fwSlot = s.dev.optf.fwRunning ∧ d.optf.fwRunning = s.dev.optf.fwRunning ∧ ∃ k ∈ d.jobs.table, k.id = j.id ∧ k.state = 0xB7))) ∧
  (∀ (s : State) (i : Image), s.dev.live = true → s.dev.fwImage s.dev.optf.fwRunning = some i → s.dev.sec.svnHold = false → s.dev.sec.svnMinFw < min 64 i.svn →
    Completes .svnRaise s (fun d => d.sec.svnMinFw = min 64 i.svn ∧ s.dev.sec.svnFrom + 86400000000000 ≤ d.now))

/-! ## Long jobs, migration and the sideband's messages (chapters 6 and 17) -/

/-- JOB_START of every kind (R825, R829 to R831, Table 17.9): with parameters in form, nothing in the way and a place in the table, the reply carries the
id of a job of that kind that the table holds. DIE_UNRESPONSIVE (R257, R827): the die is silent, and a job retires it. -/
def Obligations.JobsStart : Prop := (∀ (s : State) (o : Origin) (r : Req) (i : Instr) (k p0 p1 : Nat) (j : Job), s.dev.Asks o 0x30 r →
    (k, i) ∈ [(0x01, .clipForce o), (0x02, .patrolFull o), (0x03, .nsSanitize o), (0x04, .nsRekey o), (0x05, .dieRetire o), (0x06, .twinResync o), (0x07, .nsMigrate o),
      (0x08, .nsExport o), (0x09, .nsImport o), (0x0A, .selftestExt o)] →
    r.hdr.flags = k → s.dev.roleOf o = 1 → r.hdr.valueLen = r.body.length → r.hdr.keyLen = 0 → (nsKinds.contains k = true ∨ r.hdr.ns = 0) →
    jobParams k r.body = some (p0, p1) → (k = 0x07 → (s.dev.ns r.hdr.ns).located = false) → (k = 0x09 → s.dev.sec.approvedOnly = true → p1 ≠ 2) →
    j = { id := 0, kind := k, starter := o.channel, ns := r.hdr.ns, p0 := p0, p1 := p1, channel := o.channel } →
    j.names.any (fun n => (s.dev.ns n).state == 0x20) = false → s.dev.jobStateFault j = none → s.dev.jobInTheWay j = none → (k = 0x03 → s.dev.canChange = true) →
    s.dev.jobKeyFault j = false → (s.dev.jobRoom false).isSome = true → s.dev.jobs.table.length ≤ 256 →
    Completes i s (fun d => ∃ id, Out.reply o { echo r.hdr with offset := id } [] ∈ d.out ∧ ∃ x ∈ d.jobs.table, x.id = id ∧ x.kind = k ∧ x.ns = r.hdr.ns ∧
      x.p0 = p0 ∧ x.p1 = p1)) ∧
  (∀ (s : State) (n : Nat), s.dev.live = true → n < 512 → s.dev.dieGone n = false → s.dev.jobs.table.any (fun x => jobLive.contains x.state && x.die == some n) = false →
    (s.dev.jobRoom true).isSome = true → s.dev.jobs.table.length ≤ 256 →
    Completes (.dieUnresponsive n) s (fun d => n ∈ d.media.silentDies ∧ ∃ x ∈ d.jobs.table, x.kind = 0x05 ∧ x.die = some n))

/-- JOB_SUSPEND, JOB_RESUME, JOB_CANCEL and JOB_STATUS (R829, R830, R832 to R834), the queue (R830), the end of an entry after 24 h (R828), and a long
suspension (R833). JOB_STEP (Tables 17.8 and 17.9): a running job takes a step of its kind, and ends DONE or FAILED when the step ends it; a
suspending one is SUSPENDED, a cancelling one CANCELLED. A step of PATROL_FULL visits the next superblock. -/
def Obligations.JobsProceed : Prop := ((∀ (s : State) (o : Origin) (r : Req) (j : Job), s.dev.roleOf o = 1 → s.dev.job? (r.hdr.offset % 65536) = some j →
    (s.dev.Asks o 0x31 r → j.kind ≠ 0x0B → (j.state = 0xB0 ∨ j.state = 0xB1 ∧ s.dev.inCutover j = false) → Completes (.jobSuspend o) s (fun d =>
      (∃ k, d.job? j.id = some k ∧ k.state = if j.state = 0xB0 then 0xB3 else 0xB2) ∧ Out.reply o { echo r.hdr with offset := j.id } [] ∈ d.out)) ∧
    (s.dev.Asks o 0x32 r → j.state = 0xB2 ∨ j.state = 0xB3 → Completes (.jobResume o) s (fun d =>
      (∃ k, d.job? j.id = some k ∧ k.state = if s.dev.running < 8 then 0xB1 else 0xB0) ∧ Out.reply o { echo r.hdr with offset := j.id } [] ∈ d.out)) ∧
    (s.dev.Asks o 0x33 r → j.state ∈ [0xB0, 0xB1, 0xB2, 0xB3] → s.dev.mustFinish j = false → Completes (.jobCancel o) s (fun d =>
      (∃ k, d.job? j.id = some k ∧ k.state = 0xB4) ∧ Out.reply o { echo r.hdr with offset := j.id } [] ∈ d.out)) ∧
    (s.dev.Asks o 0x34 r → r.hdr.offset % 65536 ≠ 0 → Completes (.jobStatus o) s (fun d => d.jobs = s.dev.jobs ∧
      Out.reply o { echo r.hdr with valueLen := 32, flags := 16 * b2n (j.kind == 0x09 && j.p1 == 2), offset := j.id } (beBytes 32 (s.dev.jobRecord j)) ∈ d.out))) ∧
  (∀ (s : State) (j : Job), s.dev.live = true → s.dev.running < 8 → s.dev.jobs.table.find? (fun j => j.state = 0xB0) = some j →
    Completes .jobDequeue s (fun d => ∃ k, d.job? j.id = some k ∧ k.state = 0xB1)) ∧
  (∀ (s : State) (id : Nat) (j : Job), s.dev.live = true → s.dev.job? id = some j →
    (jobLive.contains j.state = false → Completes (.jobEntryExpiry id) s (fun d => d.job? id = none ∧ j.endedAt + 86400 * 1000000000 ≤ d.now)) ∧
    (j.state = 0xB3 → Completes (.jobSuspendedLong id) s (fun d => (∃ k, d.job? id = some k ∧ k.longTold = j.longTold + 1) ∧
      j.suspendedAt + (j.longTold + 1) * (86400 * 1000000000) ≤ d.now)))) ∧
  (∀ (s : State) (id : Nat) (x : StepIn) (j : Job), s.dev.live = true → s.dev.job? id = some j →
  (j.state = 0xB4 → Completes (.jobStep id x) s (fun d => ∃ k, d.job? id = some k ∧ k.state = 0xB6)) ∧
  (j.state = 0xB2 → Completes (.jobStep id x) s (fun d => ∃ k, d.job? id = some k ∧ k.state = 0xB3)) ∧
  (∀ st j' d', j.state = 0xB1 → kindStep j x s.dev = (some st, j', d') →
    Completes (.jobStep id x) s (fun d => ∃ k, d.job? id = some k ∧ k.result = st ∧ k.state = if st = 0 then 0xB5 else 0xB7)) ∧
  (∀ j' d', j.state = 0xB1 → kindStep j x s.dev = (none, j', d') → Completes (.jobStep id x) s (fun d => d.job? id = some j')) ∧
  (∀ n r, j.state = 0xB1 → j.kind = 0x02 → j.p2 = 1 → j.todo = n :: r → (s.dev.sb n).state = 3 → Completes (.jobStep id x) s (fun d =>
    (d.sb n).visitedAt = d.now ∧ ∃ k, d.job? id = some k ∧ k.todo = r ∧ k.done_ = j.done_ + 1)))

/-- Migration (R356 to R360; the messages' content is log entry 21): the destination creates the namespace when it is asked and takes each record at its
version; the source goes on once it is ready, and deletes the namespace when everything is held; a refusal ends the job, an abort deletes the
destination's copy. -/
def Obligations.MigrationsMove : Prop := (∀ (s : State) (src seq ns job : Nat) (r : Rec) (i : Nat), s.dev.RingHears src seq →
    s.dev.ring.migrations.any (fun m => !m.source && m.ns == ns && m.job == job && m.destElder == src) = true → r.deletion = false →
    (s.dev.roomFor ns r.key (recGranules r) ((s.dev.find? ns r.key).isNone)).1 = none → s.dev.slotIn (s.dev.ns ns).owner 0x39 = some i →
    (s.dev.stslot i).nonce + 1 < s.dev.nonceEnd → (∀ e ∈ s.dev.kv.dir, e.ns = ns → e.key = r.key → e.version ≤ r.version) →
    Completes (.migrateData src seq ns job [r]) s (fun d => (∃ e ∈ d.kv.dir, e.ns = ns ∧ e.key = r.key ∧ e.version = r.version) ∧
      r.version ≤ d.kv.lastVersion ∧ (src, false, seq) ∈ d.ring.seqIn)) ∧
  (∀ (s : State) (src seq ns job : Nat) (m : Migration), s.dev.RingHears src seq → s.dev.migration job = some m → m.ns = ns → m.destElder = src →
    (∀ gen, m.phase = 0 → Completes (.migrateCtl src seq ns job (.ready gen)) s (fun d =>
      ∃ x ∈ d.ring.migrations, x.source = true ∧ x.job = job ∧ x.phase = 1 ∧ x.destGen = gen)) ∧
    (∀ st j, st ≠ 0 → s.dev.job? job = some j → jobLive.contains j.state = true → Completes (.migrateCtl src seq ns job (.refused st)) s (fun d =>
      (∀ x ∈ d.ring.migrations, ¬(x.source = true ∧ x.job = job ∧ x.ns = ns)) ∧ ∃ k, d.job? job = some k ∧ k.state = 0xB7 ∧ k.result = st)) ∧
    (m.phase = 3 → Completes (.migrateCtl src seq ns job .finished) s (fun d => ([0x21, 0x22, 0x23].contains (s.dev.ns ns).state = true → (d.ns ns).state = 0x23) ∧
      ∀ x ∈ d.ring.migrations, ¬(x.source = true ∧ x.job = job ∧ x.ns = ns)))) ∧
  (∀ (s : State) (src seq ns job : Nat) (m : Migration), s.dev.RingHears src seq →
    s.dev.ring.migrations.find? (fun m => !m.source && m.ns == ns && m.job == job && m.destElder == src) = some m →
    Completes (.migrateCtl src seq ns job .finish) s (fun d => ∀ x ∈ d.ring.migrations, ¬(x.source = false ∧ x.job = job ∧ x.ns = ns)) ∧
    Completes (.migrateCtl src seq ns job .abort) s (fun d => ([0x21, 0x22, 0x23].contains (s.dev.ns ns).state = true → (d.ns ns).state = 0x23) ∧ ∀ x ∈ d.ring.migrations, ¬(x.source = false ∧ x.job = job ∧ x.ns = ns))) ∧
  (∀ (s : State) (src seq ns job owner quota serial younger : Nat) (solo sw : Bool), s.dev.RingHears src seq →
    s.dev.ring.migrations.any (fun m => !m.source && m.ns == ns && m.job == job && m.destElder == src) = false → s.dev.tenantExists owner = true →
    (s.dev.ns ns).state = 0x20 → s.dev.canChange = true → (s.dev.slotOfSerial owner serial).isSome = true → (s.dev.slotIn owner 0x39).isSome = true →
    Completes (.migrateCtl src seq ns job (.start owner quota solo sw serial younger)) s (fun d => (d.ns ns).state = 0x21 ∧ (d.ns ns).owner = owner ∧
      (d.ns ns).quota = quota ∧ ∃ x ∈ d.ring.migrations, x.source = false ∧ x.ns = ns ∧ x.job = job ∧ x.destElder = src))

/-- The sideband's own messages (R805 to R810): an OP of the operator role is held for its command; a drive that does not serve answers reads of its
status words; sensors are read as Table 17.4 gives them, and not from TCM; the endpoint id is set and read. -/
def Obligations.SidebandAnswers : Prop := (∀ (s : State) (n x : Nat) (h : OpHdr) (b : Bytes) (d0 : Drive), s.dev.live = true → d0 = s.dev.dropStale → d0.sidebandHeld < 16 →
    d0.req? (.sideband n x) = none → mgmtOps.contains h.opcode = true → (d0.roleOf (.sideband n x) = 1 ∨ h.opcode = 0x50) → 76 + b.length ≤ 8192 →
    h.qos ≤ 7 → h.tenant < 4096 → ¬(h.opcode = 0x6B ∧ (h.flags % 8 = 0 ∨ 6 ≤ h.flags % 8)) → ¬(h.opcode = 0x62 ∧ h.flags % 8 = 0) →
    Completes (.opMessage n x h b) s (fun d => ∃ r, d.req? (.sideband n x) = some r ∧ r.hdr = h ∧ r.body = b ∧ r.phase = .active)) ∧
  (∀ (s : State) (n x : Nat) (h : OpHdr) (b : Bytes), s.dev.live = false → (s.dev.mod.mainOn || s.dev.mod.auxOn) = true → h.opcode = 0x50 → 1 ≤ h.valueLen →
    h.valueLen ≤ 1024 → h.offset % 65536 + h.valueLen ≤ 65536 → (∀ i, i < h.valueLen → mayRead 3 (h.offset % 65536 + i) = true) →
    Completes (.opMessage n x h b) s (fun d => ∃ w, w.length = 4 * h.valueLen ∧ Out.reply (.sideband n x) { echo h with valueLen := 4 * h.valueLen } w ∈ d.out)) ∧
  (∀ (s : State) (n i : Nat), s.dev.live = true →
    (s.dev.optf.xip = 0x92 → Completes (.getSensorReading n i) s (fun d => d = s.dev.emit (.sideband n 0x211 [4] [])) ∧
      Completes (.getStateSensorReadings n i) s (fun d => d = s.dev.emit (.sideband n 0x221 [4] []))) ∧
    (s.dev.optf.xip ≠ 0x92 → (∀ st v, s.dev.sensor i = some (some (st, v)) →
        Completes (.getSensorReading n i) s (fun d => d = s.dev.emit (.sideband n 0x211 [0, st, i64 v] []))) ∧
      Completes (.getStateSensorReadings n 20) s (fun d => d = s.dev.emit (.sideband n 0x221 [0, s.dev.mod.devState] [])) ∧
      Completes (.getStateSensorReadings n 21) s (fun d => d = s.dev.emit (.sideband n 0x221 [0, s.dev.twin.state] [])))) ∧
  (∀ (s : State) (a : Nat), (s.dev.mod.mainOn || s.dev.mod.auxOn) = true →
    (8 ≤ a → a ≤ 254 → Completes (.mctpControl 1 a) s (fun d => d = { s.dev with mod.eid := a, out := Out.sideband 0 0x101 [0, a] [] :: s.dev.out })) ∧
    Completes (.mctpControl 2 a) s (fun d => d = s.dev.emit (.sideband 0 0x102 [0, s.dev.mod.eid] [])))
end

