-- ==== Sys2Proof/Laws/Frame.lean ====
section
/-! SUPPORT. Laws/Frame.lean: what each shared operation changes of the drive: one lemma for each, with the parts it can change. -/

set_option linter.all false

namespace Sys2Proof.Machine
open Sys2Proof
theorem Drive.changesOnly_refl (ps : List Part) (d : Drive) : d.changesOnly ps d := ⟨rfl⟩

theorem blank_twice {α : Type} {p q : Prop} [Decidable p] [Decidable q] (h : p → q) (a b : α) :
    (if q then a else if p then a else b) = if q then a else b := by
  by_cases hp : p
  · simp [h hp]
  · simp [hp]

/-- Blanking more parts after fewer is blanking the more. -/
theorem Drive.mask_mask {ps qs : List Part} (h : ps ⊆ qs) (d : Drive) : (d.mask ps).mask qs = d.mask qs := by
  simp only [Drive.mask, blank_twice (@h _)]

theorem Drive.mask_mono {ps qs : List Part} (h : ps ⊆ qs) {b c : Drive} (hb : c.mask ps = b.mask ps) : c.mask qs = b.mask qs := by
  rw [← Drive.mask_mask h c, hb, Drive.mask_mask h b]

theorem Drive.changesOnly.step {ps qs : List Part} {a b c : Drive} (h : a.changesOnly qs b) (hc : b.changesOnly ps c) (hs : ps ⊆ qs) :
    a.changesOnly qs c := ⟨(Drive.mask_mono hs hc.same).trans h.same⟩

theorem subset_of_all {ps qs : List Part} (h : ps.all (fun p => qs.contains p) = true) : ps ⊆ qs := by
  intro p hp
  have := List.all_eq_true.mp h p hp
  simpa using this

theorem mem_of_contains {p : Part} {ps : List Part} (h : ps.contains p = true) : p ∈ ps := by simpa using h

theorem snd_frame {α : Type} {ps : List Part} {a y : Drive} {p : α × Drive} {x : α} (h : a.changesOnly ps p.2) (e : p = (x, y)) :
    a.changesOnly ps y := by subst e; exact h

theorem mem_sub {p : Part} {ps qs : List Part} (h : ps ⊆ qs) (hp : p ∈ ps) : p ∈ qs := h hp

theorem let_frame {ps : List Part} {a z y : Drive} (h : a.changesOnly ps z) (k : a.changesOnly ps z → a.changesOnly ps y) :
    a.changesOnly ps y := k h

theorem foldl_frame {α : Type} {ps : List Part} {f : Drive → α → Drive} (hf : ∀ (d : Drive) x, d.changesOnly ps (f d x)) (l : List α) (d : Drive) :
    d.changesOnly ps (l.foldl f d) := by
  induction l generalizing d with
  | nil => exact ⟨rfl⟩
  | cons x l ih => exact (hf d x).step (ih _) (List.Subset.refl _)

theorem Drive.changesOnly.upd {ps : List Part} {a b : Drive}
    {x0 : Kv} {x1 : Media} {x2 : Twin} {x3 : Ring} {x4 : Keys} {x5 : Holly} {x6 : Xport} {x7 : Sprig} {x8 : Sec} {x9 : Module} {x10 : Ports} {x11 : Privet} {x12 : Thicket} {x13 : Meter} {x14 : Power} {x15 : Therm} {x16 : Health} {x17 : Flag} {x18 : Optf} {x19 : Jobs} {x20 : Tbl MgmtChan} {x21 : Health} {x22 : Ident} {x23 : List Out} {x24 : Nat}
    (h : a.changesOnly ps b)
    (h0 : Part.kv ∈ ps ∨ x0 = b.kv) (h1 : Part.media ∈ ps ∨ x1 = b.media) (h2 : Part.twin ∈ ps ∨ x2 = b.twin) (h3 : Part.ring ∈ ps ∨ x3 = b.ring) (h4 : Part.keys ∈ ps ∨ x4 = b.keys) (h5 : Part.holly ∈ ps ∨ x5 = b.holly) (h6 : Part.xp ∈ ps ∨ x6 = b.xp) (h7 : Part.time ∈ ps ∨ x7 = b.time) (h8 : Part.sec ∈ ps ∨ x8 = b.sec) (h9 : Part.mod ∈ ps ∨ x9 = b.mod) (h10 : Part.port ∈ ps ∨ x10 = b.port) (h11 : Part.privet ∈ ps ∨ x11 = b.privet) (h12 : Part.rec_ ∈ ps ∨ x12 = b.rec_) (h13 : Part.meter ∈ ps ∨ x13 = b.meter) (h14 : Part.power ∈ ps ∨ x14 = b.power) (h15 : Part.therm ∈ ps ∨ x15 = b.therm) (h16 : Part.health ∈ ps ∨ x16 = b.health) (h17 : Part.flag ∈ ps ∨ x17 = b.flag) (h18 : Part.optf ∈ ps ∨ x18 = b.optf) (h19 : Part.jobs ∈ ps ∨ x19 = b.jobs) (h20 : Part.chans ∈ ps ∨ x20 = b.chans) (h21 : Part.healthSaved ∈ ps ∨ x21 = b.healthSaved) (h22 : Part.ident ∈ ps ∨ x22 = b.ident) (h23 : Part.out ∈ ps ∨ x23 = b.out) (h24 : Part.free ∈ ps ∨ x24 = b.free) :
    a.changesOnly ps (Drive.mk x0 x1 x2 x3 x4 x5 x6 x7 x8 x9 x10 x11 x12 x13 x14 x15 x16 x17 x18 x19 x20 x21 x22 x23 x24) := by
  have : (Drive.mk x0 x1 x2 x3 x4 x5 x6 x7 x8 x9 x10 x11 x12 x13 x14 x15 x16 x17 x18 x19 x20 x21 x22 x23 x24).mask ps = b.mask ps := by
    simp only [Drive.mask, Drive.mk.injEq]
    and_intros <;> (split; rfl; simp_all)
  exact ⟨this.trans h.same⟩


theorem Drive.changesOnly.kv {ps : List Part} {a b : Drive} (h : a.changesOnly ps b) (hp : ps.contains Part.kv = false) : b.kv = a.kv := by
  have h1 := congrArg Drive.kv h.same
  have h2 : Part.kv ∉ ps := by simpa using hp
  simpa [Drive.mask, h2] using h1

theorem Drive.changesOnly.media {ps : List Part} {a b : Drive} (h : a.changesOnly ps b) (hp : ps.contains Part.media = false) : b.media = a.media := by
  have h1 := congrArg Drive.media h.same
  have h2 : Part.media ∉ ps := by simpa using hp
  simpa [Drive.mask, h2] using h1

theorem Drive.changesOnly.twin {ps : List Part} {a b : Drive} (h : a.changesOnly ps b) (hp : ps.contains Part.twin = false) : b.twin = a.twin := by
  have h1 := congrArg Drive.twin h.same
  have h2 : Part.twin ∉ ps := by simpa using hp
  simpa [Drive.mask, h2] using h1

theorem Drive.changesOnly.ring {ps : List Part} {a b : Drive} (h : a.changesOnly ps b) (hp : ps.contains Part.ring = false) : b.ring = a.ring := by
  have h1 := congrArg Drive.ring h.same
  have h2 : Part.ring ∉ ps := by simpa using hp
  simpa [Drive.mask, h2] using h1

theorem Drive.changesOnly.keys {ps : List Part} {a b : Drive} (h : a.changesOnly ps b) (hp : ps.contains Part.keys = false) : b.keys = a.keys := by
  have h1 := congrArg Drive.keys h.same
  have h2 : Part.keys ∉ ps := by simpa using hp
  simpa [Drive.mask, h2] using h1

theorem Drive.changesOnly.holly {ps : List Part} {a b : Drive} (h : a.changesOnly ps b) (hp : ps.contains Part.holly = false) : b.holly = a.holly := by
  have h1 := congrArg Drive.holly h.same
  have h2 : Part.holly ∉ ps := by simpa using hp
  simpa [Drive.mask, h2] using h1

theorem Drive.changesOnly.xp {ps : List Part} {a b : Drive} (h : a.changesOnly ps b) (hp : ps.contains Part.xp = false) : b.xp = a.xp := by
  have h1 := congrArg Drive.xp h.same
  have h2 : Part.xp ∉ ps := by simpa using hp
  simpa [Drive.mask, h2] using h1

theorem Drive.changesOnly.time {ps : List Part} {a b : Drive} (h : a.changesOnly ps b) (hp : ps.contains Part.time = false) : b.time = a.time := by
  have h1 := congrArg Drive.time h.same
  have h2 : Part.time ∉ ps := by simpa using hp
  simpa [Drive.mask, h2] using h1

theorem Drive.changesOnly.sec {ps : List Part} {a b : Drive} (h : a.changesOnly ps b) (hp : ps.contains Part.sec = false) : b.sec = a.sec := by
  have h1 := congrArg Drive.sec h.same
  have h2 : Part.sec ∉ ps := by simpa using hp
  simpa [Drive.mask, h2] using h1

theorem Drive.changesOnly.mod {ps : List Part} {a b : Drive} (h : a.changesOnly ps b) (hp : ps.contains Part.mod = false) : b.mod = a.mod := by
  have h1 := congrArg Drive.mod h.same
  have h2 : Part.mod ∉ ps := by simpa using hp
  simpa [Drive.mask, h2] using h1

theorem Drive.changesOnly.port {ps : List Part} {a b : Drive} (h : a.changesOnly ps b) (hp : ps.contains Part.port = false) : b.port = a.port := by
  have h1 := congrArg Drive.port h.same
  have h2 : Part.port ∉ ps := by simpa using hp
  simpa [Drive.mask, h2] using h1

theorem Drive.changesOnly.privet {ps : List Part} {a b : Drive} (h : a.changesOnly ps b) (hp : ps.contains Part.privet = false) : b.privet = a.privet := by
  have h1 := congrArg Drive.privet h.same
  have h2 : Part.privet ∉ ps := by simpa using hp
  simpa [Drive.mask, h2] using h1

theorem Drive.changesOnly.rec_ {ps : List Part} {a b : Drive} (h : a.changesOnly ps b) (hp : ps.contains Part.rec_ = false) : b.rec_ = a.rec_ := by
  have h1 := congrArg Drive.rec_ h.same
  have h2 : Part.rec_ ∉ ps := by simpa using hp
  simpa [Drive.mask, h2] using h1

theorem Drive.changesOnly.meter {ps : List Part} {a b : Drive} (h : a.changesOnly ps b) (hp : ps.contains Part.meter = false) : b.meter = a.meter := by
  have h1 := congrArg Drive.meter h.same
  have h2 : Part.meter ∉ ps := by simpa using hp
  simpa [Drive.mask, h2] using h1

theorem Drive.changesOnly.power {ps : List Part} {a b : Drive} (h : a.changesOnly ps b) (hp : ps.contains Part.power = false) : b.power = a.power := by
  have h1 := congrArg Drive.power h.same
  have h2 : Part.power ∉ ps := by simpa using hp
  simpa [Drive.mask, h2] using h1

theorem Drive.changesOnly.therm {ps : List Part} {a b : Drive} (h : a.changesOnly ps b) (hp : ps.contains Part.therm = false) : b.therm = a.therm := by
  have h1 := congrArg Drive.therm h.same
  have h2 : Part.therm ∉ ps := by simpa using hp
  simpa [Drive.mask, h2] using h1

theorem Drive.changesOnly.health {ps : List Part} {a b : Drive} (h : a.changesOnly ps b) (hp : ps.contains Part.health = false) : b.health = a.health := by
  have h1 := congrArg Drive.health h.same
  have h2 : Part.health ∉ ps := by simpa using hp
  simpa [Drive.mask, h2] using h1

theorem Drive.changesOnly.flag {ps : List Part} {a b : Drive} (h : a.changesOnly ps b) (hp : ps.contains Part.flag = false) : b.flag = a.flag := by
  have h1 := congrArg Drive.flag h.same
  have h2 : Part.flag ∉ ps := by simpa using hp
  simpa [Drive.mask, h2] using h1

theorem Drive.changesOnly.optf {ps : List Part} {a b : Drive} (h : a.changesOnly ps b) (hp : ps.contains Part.optf = false) : b.optf = a.optf := by
  have h1 := congrArg Drive.optf h.same
  have h2 : Part.optf ∉ ps := by simpa using hp
  simpa [Drive.mask, h2] using h1

theorem Drive.changesOnly.jobs {ps : List Part} {a b : Drive} (h : a.changesOnly ps b) (hp : ps.contains Part.jobs = false) : b.jobs = a.jobs := by
  have h1 := congrArg Drive.jobs h.same
  have h2 : Part.jobs ∉ ps := by simpa using hp
  simpa [Drive.mask, h2] using h1

theorem Drive.changesOnly.chans {ps : List Part} {a b : Drive} (h : a.changesOnly ps b) (hp : ps.contains Part.chans = false) : b.chans = a.chans := by
  have h1 := congrArg Drive.chans h.same
  have h2 : Part.chans ∉ ps := by simpa using hp
  simpa [Drive.mask, h2] using h1

theorem Drive.changesOnly.healthSaved {ps : List Part} {a b : Drive} (h : a.changesOnly ps b) (hp : ps.contains Part.healthSaved = false) : b.healthSaved = a.healthSaved := by
  have h1 := congrArg Drive.healthSaved h.same
  have h2 : Part.healthSaved ∉ ps := by simpa using hp
  simpa [Drive.mask, h2] using h1

theorem Drive.changesOnly.ident {ps : List Part} {a b : Drive} (h : a.changesOnly ps b) (hp : ps.contains Part.ident = false) : b.ident = a.ident := by
  have h1 := congrArg Drive.ident h.same
  have h2 : Part.ident ∉ ps := by simpa using hp
  simpa [Drive.mask, h2] using h1

theorem Drive.changesOnly.out {ps : List Part} {a b : Drive} (h : a.changesOnly ps b) (hp : ps.contains Part.out = false) : b.out = a.out := by
  have h1 := congrArg Drive.out h.same
  have h2 : Part.out ∉ ps := by simpa using hp
  simpa [Drive.mask, h2] using h1

theorem Drive.changesOnly.free {ps : List Part} {a b : Drive} (h : a.changesOnly ps b) (hp : ps.contains Part.free = false) : b.free = a.free := by
  have h1 := congrArg Drive.free h.same
  have h2 : Part.free ∉ ps := by simpa using hp
  simpa [Drive.mask, h2] using h1

theorem Drive.emit_frame (o) (d : Drive) :
    d.changesOnly [.out] (Drive.emit o d) := by
    unfold Drive.emit
    repeat' (first
      | with_reducible assumption
      | with_reducible exact Drive.changesOnly_refl _ _
      | with_reducible refine Drive.changesOnly.step ?_ (foldl_frame (fun _ _ => ?_) _ _) (List.Subset.refl _)
      | dsimp -zeta only
      | (extract_lets +onlyGivenNames z; first | (refine let_frame (z := z) ?_ ?_; (on_goal 1 => (dsimp only [z])); (on_goal 2 => (intro hz; clear_value z))) | ((have _t : (_ → _) := z); clear _t; (dsimp only [z]; try clear z)) | ((have _t : Wr := z); clear _t; (dsimp only [z]; try clear z)) | ((have _t : _ × Drive := z); clear _t; (dsimp only [z]; try clear z)) | ((have _t : _ × _ × Drive := z); clear _t; (dsimp only [z]; try clear z)) | (clear_value z) | (dsimp only [z]; try clear z))
      | split
      | fail_if_no_progress (with_reducible apply Drive.changesOnly.upd <;> try (first | with_reducible exact Or.inr rfl | exact Or.inl (mem_of_contains rfl))))

theorem Drive.modPort_frame (p) (f) (d : Drive) :
    d.changesOnly [.port] (Drive.modPort p f d) := by
    unfold Drive.modPort
    repeat' (first
      | with_reducible assumption
      | with_reducible exact Drive.changesOnly_refl _ _
      | with_reducible refine Drive.changesOnly.step ?_ (foldl_frame (fun _ _ => ?_) _ _) (List.Subset.refl _)
      | dsimp -zeta only
      | (extract_lets +onlyGivenNames z; first | (refine let_frame (z := z) ?_ ?_; (on_goal 1 => (dsimp only [z])); (on_goal 2 => (intro hz; clear_value z))) | ((have _t : (_ → _) := z); clear _t; (dsimp only [z]; try clear z)) | ((have _t : Wr := z); clear _t; (dsimp only [z]; try clear z)) | ((have _t : _ × Drive := z); clear _t; (dsimp only [z]; try clear z)) | ((have _t : _ × _ × Drive := z); clear _t; (dsimp only [z]; try clear z)) | (clear_value z) | (dsimp only [z]; try clear z))
      | split
      | fail_if_no_progress (with_reducible apply Drive.changesOnly.upd <;> try (first | with_reducible exact Or.inr rfl | exact Or.inl (mem_of_contains rfl))))

theorem Drive.portCount_frame (p) (k) (n) (d : Drive) :
    d.changesOnly [.port] (Drive.portCount p k n d) := by
    unfold Drive.portCount
    repeat' (first
      | with_reducible assumption
      | with_reducible exact Drive.changesOnly_refl _ _
      | with_reducible refine Drive.changesOnly.step ?_ (Drive.modPort_frame _ _ _) (subset_of_all rfl)
      | with_reducible refine Drive.changesOnly.step ?_ (foldl_frame (fun _ _ => ?_) _ _) (List.Subset.refl _)
      | dsimp -zeta only
      | (extract_lets +onlyGivenNames z; first | (refine let_frame (z := z) ?_ ?_; (on_goal 1 => (dsimp only [z])); (on_goal 2 => (intro hz; clear_value z))) | ((have _t : (_ → _) := z); clear _t; (dsimp only [z]; try clear z)) | ((have _t : Wr := z); clear _t; (dsimp only [z]; try clear z)) | ((have _t : _ × Drive := z); clear _t; (dsimp only [z]; try clear z)) | ((have _t : _ × _ × Drive := z); clear _t; (dsimp only [z]; try clear z)) | (clear_value z) | (dsimp only [z]; try clear z))
      | split
      | fail_if_no_progress (with_reducible apply Drive.changesOnly.upd <;> try (first | with_reducible exact Or.inr rfl | exact Or.inl (mem_of_contains rfl))))

theorem Drive.portTx_frame (p) (len) (cast) (tagged) (fw) (o) (d : Drive) :
    d.changesOnly [.port, .out] (Drive.portTx p len cast tagged fw o d) := by
    unfold Drive.portTx
    repeat' (first
      | with_reducible assumption
      | with_reducible exact Drive.changesOnly_refl _ _
      | with_reducible refine Drive.changesOnly.step ?_ (Drive.emit_frame _ _) (subset_of_all rfl)
      | with_reducible refine Drive.changesOnly.step ?_ (Drive.modPort_frame _ _ _) (subset_of_all rfl)
      | with_reducible refine Drive.changesOnly.step ?_ (Drive.portCount_frame _ _ _ _) (subset_of_all rfl)
      | with_reducible refine Drive.changesOnly.step ?_ (foldl_frame (fun _ _ => ?_) _ _) (List.Subset.refl _)
      | dsimp -zeta only
      | (extract_lets +onlyGivenNames z; first | (refine let_frame (z := z) ?_ ?_; (on_goal 1 => (dsimp only [z])); (on_goal 2 => (intro hz; clear_value z))) | ((have _t : (_ → _) := z); clear _t; (dsimp only [z]; try clear z)) | ((have _t : Wr := z); clear _t; (dsimp only [z]; try clear z)) | ((have _t : _ × Drive := z); clear _t; (dsimp only [z]; try clear z)) | ((have _t : _ × _ × Drive := z); clear _t; (dsimp only [z]; try clear z)) | (clear_value z) | (dsimp only [z]; try clear z))
      | split
      | fail_if_no_progress (with_reducible apply Drive.changesOnly.upd <;> try (first | with_reducible exact Or.inr rfl | exact Or.inl (mem_of_contains rfl))))

theorem Drive.fresh_frame (d : Drive) :
    d.changesOnly [.free] (Drive.fresh d).2 := by
    unfold Drive.fresh
    repeat' (first
      | with_reducible assumption
      | with_reducible exact Drive.changesOnly_refl _ _
      | with_reducible refine Drive.changesOnly.step ?_ (foldl_frame (fun _ _ => ?_) _ _) (List.Subset.refl _)
      | dsimp -zeta only
      | (extract_lets +onlyGivenNames z; first | (refine let_frame (z := z) ?_ ?_; (on_goal 1 => (dsimp only [z])); (on_goal 2 => (intro hz; clear_value z))) | ((have _t : (_ → _) := z); clear _t; (dsimp only [z]; try clear z)) | ((have _t : Wr := z); clear _t; (dsimp only [z]; try clear z)) | ((have _t : _ × Drive := z); clear _t; (dsimp only [z]; try clear z)) | ((have _t : _ × _ × Drive := z); clear _t; (dsimp only [z]; try clear z)) | (clear_value z) | (dsimp only [z]; try clear z))
      | split
      | fail_if_no_progress (with_reducible apply Drive.changesOnly.upd <;> try (first | with_reducible exact Or.inr rfl | exact Or.inl (mem_of_contains rfl))))

theorem Drive.inBand_frame (d : Drive) :
    d.changesOnly [.out] (Drive.inBand d) := by
    unfold Drive.inBand
    repeat' (first
      | with_reducible assumption
      | with_reducible exact Drive.changesOnly_refl _ _
      | with_reducible refine Drive.changesOnly.step ?_ (Drive.emit_frame _ _) (subset_of_all rfl)
      | with_reducible refine Drive.changesOnly.step ?_ (foldl_frame (fun _ _ => ?_) _ _) (List.Subset.refl _)
      | dsimp -zeta only
      | (extract_lets +onlyGivenNames z; first | (refine let_frame (z := z) ?_ ?_; (on_goal 1 => (dsimp only [z])); (on_goal 2 => (intro hz; clear_value z))) | ((have _t : (_ → _) := z); clear _t; (dsimp only [z]; try clear z)) | ((have _t : Wr := z); clear _t; (dsimp only [z]; try clear z)) | ((have _t : _ × Drive := z); clear _t; (dsimp only [z]; try clear z)) | ((have _t : _ × _ × Drive := z); clear _t; (dsimp only [z]; try clear z)) | (clear_value z) | (dsimp only [z]; try clear z))
      | split
      | fail_if_no_progress (with_reducible apply Drive.changesOnly.upd <;> try (first | with_reducible exact Or.inr rfl | exact Or.inl (mem_of_contains rfl))))

theorem Drive.raiseAlert_frame (d : Drive) :
    d.changesOnly [.flag, .out] (Drive.raiseAlert d) := by
    unfold Drive.raiseAlert
    repeat' (first
      | with_reducible assumption
      | with_reducible exact Drive.changesOnly_refl _ _
      | with_reducible refine Drive.changesOnly.step ?_ (Drive.inBand_frame _) (subset_of_all rfl)
      | with_reducible refine Drive.changesOnly.step ?_ (foldl_frame (fun _ _ => ?_) _ _) (List.Subset.refl _)
      | dsimp -zeta only
      | (extract_lets +onlyGivenNames z; first | (refine let_frame (z := z) ?_ ?_; (on_goal 1 => (dsimp only [z])); (on_goal 2 => (intro hz; clear_value z))) | ((have _t : (_ → _) := z); clear _t; (dsimp only [z]; try clear z)) | ((have _t : Wr := z); clear _t; (dsimp only [z]; try clear z)) | ((have _t : _ × Drive := z); clear _t; (dsimp only [z]; try clear z)) | ((have _t : _ × _ × Drive := z); clear _t; (dsimp only [z]; try clear z)) | (clear_value z) | (dsimp only [z]; try clear z))
      | split
      | fail_if_no_progress (with_reducible apply Drive.changesOnly.upd <;> try (first | with_reducible exact Or.inr rfl | exact Or.inl (mem_of_contains rfl))))

theorem Drive.dropEvent_frame (src) (sev) (d : Drive) :
    d.changesOnly [.rec_, .flag, .out] (Drive.dropEvent src sev d) := by
    unfold Drive.dropEvent
    repeat' (first
      | with_reducible assumption
      | with_reducible exact Drive.changesOnly_refl _ _
      | with_reducible refine Drive.changesOnly.step ?_ (Drive.raiseAlert_frame _) (subset_of_all rfl)
      | with_reducible refine Drive.changesOnly.step ?_ (foldl_frame (fun _ _ => ?_) _ _) (List.Subset.refl _)
      | dsimp -zeta only
      | (extract_lets +onlyGivenNames z; first | (refine let_frame (z := z) ?_ ?_; (on_goal 1 => (dsimp only [z])); (on_goal 2 => (intro hz; clear_value z))) | ((have _t : (_ → _) := z); clear _t; (dsimp only [z]; try clear z)) | ((have _t : Wr := z); clear _t; (dsimp only [z]; try clear z)) | ((have _t : _ × Drive := z); clear _t; (dsimp only [z]; try clear z)) | ((have _t : _ × _ × Drive := z); clear _t; (dsimp only [z]; try clear z)) | (clear_value z) | (dsimp only [z]; try clear z))
      | split
      | fail_if_no_progress (with_reducible apply Drive.changesOnly.upd <;> try (first | with_reducible exact Or.inr rfl | exact Or.inl (mem_of_contains rfl))))

theorem Drive.enter_frame (src) (sev) (payload) (d : Drive) :
    d.changesOnly [.rec_, .flag, .out] (Drive.enter src sev payload d).2 := by
    unfold Drive.enter
    repeat' (first
      | with_reducible assumption
      | with_reducible exact Drive.changesOnly_refl _ _
      | with_reducible refine Drive.changesOnly.step ?_ (Drive.dropEvent_frame _ _ _) (subset_of_all rfl)
      | with_reducible refine Drive.changesOnly.step ?_ (foldl_frame (fun _ _ => ?_) _ _) (List.Subset.refl _)
      | dsimp -zeta only
      | (extract_lets +onlyGivenNames z; first | (refine let_frame (z := z) ?_ ?_; (on_goal 1 => (dsimp only [z])); (on_goal 2 => (intro hz; clear_value z))) | ((have _t : (_ → _) := z); clear _t; (dsimp only [z]; try clear z)) | ((have _t : Wr := z); clear _t; (dsimp only [z]; try clear z)) | ((have _t : _ × Drive := z); clear _t; (dsimp only [z]; try clear z)) | ((have _t : _ × _ × Drive := z); clear _t; (dsimp only [z]; try clear z)) | (clear_value z) | (dsimp only [z]; try clear z))
      | split
      | fail_if_no_progress (with_reducible apply Drive.changesOnly.upd <;> try (first | with_reducible exact Or.inr rfl | exact Or.inl (mem_of_contains rfl))))

theorem Drive.startFlush_frame (d : Drive) :
    d.changesOnly [.rec_] (Drive.startFlush d) := by
    unfold Drive.startFlush
    repeat' (first
      | with_reducible assumption
      | with_reducible exact Drive.changesOnly_refl _ _
      | with_reducible refine Drive.changesOnly.step ?_ (foldl_frame (fun _ _ => ?_) _ _) (List.Subset.refl _)
      | dsimp -zeta only
      | (extract_lets +onlyGivenNames z; first | (refine let_frame (z := z) ?_ ?_; (on_goal 1 => (dsimp only [z])); (on_goal 2 => (intro hz; clear_value z))) | ((have _t : (_ → _) := z); clear _t; (dsimp only [z]; try clear z)) | ((have _t : Wr := z); clear _t; (dsimp only [z]; try clear z)) | ((have _t : _ × Drive := z); clear _t; (dsimp only [z]; try clear z)) | ((have _t : _ × _ × Drive := z); clear _t; (dsimp only [z]; try clear z)) | (clear_value z) | (dsimp only [z]; try clear z))
      | split
      | fail_if_no_progress (with_reducible apply Drive.changesOnly.upd <;> try (first | with_reducible exact Or.inr rfl | exact Or.inl (mem_of_contains rfl))))

theorem Drive.setSess_frame (sid) (s) (d : Drive) :
    d.changesOnly [.xp] (Drive.setSess sid s d) := by
    unfold Drive.setSess
    repeat' (first
      | with_reducible assumption
      | with_reducible exact Drive.changesOnly_refl _ _
      | with_reducible refine Drive.changesOnly.step ?_ (foldl_frame (fun _ _ => ?_) _ _) (List.Subset.refl _)
      | dsimp -zeta only
      | (extract_lets +onlyGivenNames z; first | (refine let_frame (z := z) ?_ ?_; (on_goal 1 => (dsimp only [z])); (on_goal 2 => (intro hz; clear_value z))) | ((have _t : (_ → _) := z); clear _t; (dsimp only [z]; try clear z)) | ((have _t : Wr := z); clear _t; (dsimp only [z]; try clear z)) | ((have _t : _ × Drive := z); clear _t; (dsimp only [z]; try clear z)) | ((have _t : _ × _ × Drive := z); clear _t; (dsimp only [z]; try clear z)) | (clear_value z) | (dsimp only [z]; try clear z))
      | split
      | fail_if_no_progress (with_reducible apply Drive.changesOnly.upd <;> try (first | with_reducible exact Or.inr rfl | exact Or.inl (mem_of_contains rfl))))

theorem Drive.modSess_frame (sid) (f) (d : Drive) :
    d.changesOnly [.xp] (Drive.modSess sid f d) := by
    unfold Drive.modSess
    repeat' (first
      | with_reducible assumption
      | with_reducible exact Drive.changesOnly_refl _ _
      | with_reducible refine Drive.changesOnly.step ?_ (Drive.setSess_frame _ _ _) (subset_of_all rfl)
      | with_reducible refine Drive.changesOnly.step ?_ (foldl_frame (fun _ _ => ?_) _ _) (List.Subset.refl _)
      | dsimp -zeta only
      | (extract_lets +onlyGivenNames z; first | (refine let_frame (z := z) ?_ ?_; (on_goal 1 => (dsimp only [z])); (on_goal 2 => (intro hz; clear_value z))) | ((have _t : (_ → _) := z); clear _t; (dsimp only [z]; try clear z)) | ((have _t : Wr := z); clear _t; (dsimp only [z]; try clear z)) | ((have _t : _ × Drive := z); clear _t; (dsimp only [z]; try clear z)) | ((have _t : _ × _ × Drive := z); clear _t; (dsimp only [z]; try clear z)) | (clear_value z) | (dsimp only [z]; try clear z))
      | split
      | fail_if_no_progress (with_reducible apply Drive.changesOnly.upd <;> try (first | with_reducible exact Or.inr rfl | exact Or.inl (mem_of_contains rfl))))

theorem Drive.eventNoticeLost_frame (sid) (d : Drive) :
    d.changesOnly [.xp, .rec_, .flag, .out] (Drive.eventNoticeLost sid d) := by
    unfold Drive.eventNoticeLost
    repeat' (first
      | with_reducible assumption
      | with_reducible exact Drive.changesOnly_refl _ _
      | with_reducible refine Drive.changesOnly.step ?_ (Drive.enter_frame _ _ _ _) (subset_of_all rfl)
      | with_reducible refine Drive.changesOnly.step ?_ (snd_frame (Drive.enter_frame _ _ _ _) (by assumption)) (subset_of_all rfl)
      | with_reducible refine Drive.changesOnly.step ?_ (Drive.modSess_frame _ _ _) (subset_of_all rfl)
      | with_reducible refine Drive.changesOnly.step ?_ (Drive.raiseAlert_frame _) (subset_of_all rfl)
      | with_reducible refine Drive.changesOnly.step ?_ (foldl_frame (fun _ _ => ?_) _ _) (List.Subset.refl _)
      | dsimp -zeta only
      | (extract_lets +onlyGivenNames z; first | (refine let_frame (z := z) ?_ ?_; (on_goal 1 => (dsimp only [z])); (on_goal 2 => (intro hz; clear_value z))) | ((have _t : (_ → _) := z); clear _t; (dsimp only [z]; try clear z)) | ((have _t : Wr := z); clear _t; (dsimp only [z]; try clear z)) | ((have _t : _ × Drive := z); clear _t; (dsimp only [z]; try clear z)) | ((have _t : _ × _ × Drive := z); clear _t; (dsimp only [z]; try clear z)) | (clear_value z) | (dsimp only [z]; try clear z))
      | split
      | fail_if_no_progress (with_reducible apply Drive.changesOnly.upd <;> try (first | with_reducible exact Or.inr rfl | exact Or.inl (mem_of_contains rfl))))

theorem Drive.queueWith_frame {ps : List Part} {lost : Nat → Drive → Drive} (hps : [.xp] ⊆ ps) (hf : ∀ y0 (x : Drive), x.changesOnly ps (lost y0 x)) (sid) (n) (d : Drive) :
    d.changesOnly ps (Drive.queueWith lost sid n d) := by
    unfold Drive.queueWith
    repeat' (first
      | with_reducible assumption
      | with_reducible exact Drive.changesOnly_refl _ _
      | refine Drive.changesOnly.step ?_ (hf _ _) (List.Subset.refl _)
      | with_reducible refine Drive.changesOnly.step ?_ (Drive.modSess_frame _ _ _) (List.Subset.trans (subset_of_all rfl) hps)
      | with_reducible refine Drive.changesOnly.step ?_ (foldl_frame (fun _ _ => ?_) _ _) (List.Subset.refl _)
      | dsimp -zeta only
      | (extract_lets +onlyGivenNames z; first | (refine let_frame (z := z) ?_ ?_; (on_goal 1 => (dsimp only [z])); (on_goal 2 => (intro hz; clear_value z))) | ((have _t : (_ → _) := z); clear _t; (dsimp only [z]; try clear z)) | ((have _t : Wr := z); clear _t; (dsimp only [z]; try clear z)) | ((have _t : _ × Drive := z); clear _t; (dsimp only [z]; try clear z)) | ((have _t : _ × _ × Drive := z); clear _t; (dsimp only [z]; try clear z)) | (clear_value z) | (dsimp only [z]; try clear z))
      | split
      | fail_if_no_progress (with_reducible apply Drive.changesOnly.upd <;> try (first | with_reducible exact Or.inr rfl | exact Or.inl (mem_sub hps (mem_of_contains rfl)))))

theorem Drive.modAcc_frame (t) (f) (d : Drive) :
    d.changesOnly [.meter] (Drive.modAcc t f d) := by
    unfold Drive.modAcc
    repeat' (first
      | with_reducible assumption
      | with_reducible exact Drive.changesOnly_refl _ _
      | with_reducible refine Drive.changesOnly.step ?_ (foldl_frame (fun _ _ => ?_) _ _) (List.Subset.refl _)
      | dsimp -zeta only
      | (extract_lets +onlyGivenNames z; first | (refine let_frame (z := z) ?_ ?_; (on_goal 1 => (dsimp only [z])); (on_goal 2 => (intro hz; clear_value z))) | ((have _t : (_ → _) := z); clear _t; (dsimp only [z]; try clear z)) | ((have _t : Wr := z); clear _t; (dsimp only [z]; try clear z)) | ((have _t : _ × Drive := z); clear _t; (dsimp only [z]; try clear z)) | ((have _t : _ × _ × Drive := z); clear _t; (dsimp only [z]; try clear z)) | (clear_value z) | (dsimp only [z]; try clear z))
      | split
      | fail_if_no_progress (with_reducible apply Drive.changesOnly.upd <;> try (first | with_reducible exact Or.inr rfl | exact Or.inl (mem_of_contains rfl))))

theorem Drive.meterOps_frame (t) (cls) (d : Drive) :
    d.changesOnly [.meter] (Drive.meterOps t cls d) := by
    unfold Drive.meterOps
    repeat' (first
      | with_reducible assumption
      | with_reducible exact Drive.changesOnly_refl _ _
      | with_reducible refine Drive.changesOnly.step ?_ (Drive.modAcc_frame _ _ _) (subset_of_all rfl)
      | with_reducible refine Drive.changesOnly.step ?_ (foldl_frame (fun _ _ => ?_) _ _) (List.Subset.refl _)
      | dsimp -zeta only
      | (extract_lets +onlyGivenNames z; first | (refine let_frame (z := z) ?_ ?_; (on_goal 1 => (dsimp only [z])); (on_goal 2 => (intro hz; clear_value z))) | ((have _t : (_ → _) := z); clear _t; (dsimp only [z]; try clear z)) | ((have _t : Wr := z); clear _t; (dsimp only [z]; try clear z)) | ((have _t : _ × Drive := z); clear _t; (dsimp only [z]; try clear z)) | ((have _t : _ × _ × Drive := z); clear _t; (dsimp only [z]; try clear z)) | (clear_value z) | (dsimp only [z]; try clear z))
      | split
      | fail_if_no_progress (with_reducible apply Drive.changesOnly.upd <;> try (first | with_reducible exact Or.inr rfl | exact Or.inl (mem_of_contains rfl))))

theorem Drive.meterReply_frame (r) (d : Drive) :
    d.changesOnly [.meter] (Drive.meterReply r d) := by
    unfold Drive.meterReply
    repeat' (first
      | with_reducible assumption
      | with_reducible exact Drive.changesOnly_refl _ _
      | with_reducible refine Drive.changesOnly.step ?_ (Drive.meterOps_frame _ _ _) (subset_of_all rfl)
      | with_reducible refine Drive.changesOnly.step ?_ (Drive.modAcc_frame _ _ _) (subset_of_all rfl)
      | with_reducible refine Drive.changesOnly.step ?_ (foldl_frame (fun _ _ => ?_) _ _) (List.Subset.refl _)
      | dsimp -zeta only
      | (extract_lets +onlyGivenNames z; first | (refine let_frame (z := z) ?_ ?_; (on_goal 1 => (dsimp only [z])); (on_goal 2 => (intro hz; clear_value z))) | ((have _t : (_ → _) := z); clear _t; (dsimp only [z]; try clear z)) | ((have _t : Wr := z); clear _t; (dsimp only [z]; try clear z)) | ((have _t : _ × Drive := z); clear _t; (dsimp only [z]; try clear z)) | ((have _t : _ × _ × Drive := z); clear _t; (dsimp only [z]; try clear z)) | (clear_value z) | (dsimp only [z]; try clear z))
      | split
      | fail_if_no_progress (with_reducible apply Drive.changesOnly.upd <;> try (first | with_reducible exact Or.inr rfl | exact Or.inl (mem_of_contains rfl))))

theorem Drive.twinSeen_frame (opId) (reply) (d : Drive) :
    d.changesOnly [.twin] (Drive.twinSeen opId reply d) := by
    unfold Drive.twinSeen
    repeat' (first
      | with_reducible assumption
      | with_reducible exact Drive.changesOnly_refl _ _
      | with_reducible refine Drive.changesOnly.step ?_ (foldl_frame (fun _ _ => ?_) _ _) (List.Subset.refl _)
      | dsimp -zeta only
      | (extract_lets +onlyGivenNames z; first | (refine let_frame (z := z) ?_ ?_; (on_goal 1 => (dsimp only [z])); (on_goal 2 => (intro hz; clear_value z))) | ((have _t : (_ → _) := z); clear _t; (dsimp only [z]; try clear z)) | ((have _t : Wr := z); clear _t; (dsimp only [z]; try clear z)) | ((have _t : _ × Drive := z); clear _t; (dsimp only [z]; try clear z)) | ((have _t : _ × _ × Drive := z); clear _t; (dsimp only [z]; try clear z)) | (clear_value z) | (dsimp only [z]; try clear z))
      | split
      | fail_if_no_progress (with_reducible apply Drive.changesOnly.upd <;> try (first | with_reducible exact Or.inr rfl | exact Or.inl (mem_of_contains rfl))))

theorem Drive.meterOut_frame (t) (n) (d : Drive) :
    d.changesOnly [.meter] (Drive.meterOut t n d) := by
    unfold Drive.meterOut
    repeat' (first
      | with_reducible assumption
      | with_reducible exact Drive.changesOnly_refl _ _
      | with_reducible refine Drive.changesOnly.step ?_ (Drive.modAcc_frame _ _ _) (subset_of_all rfl)
      | with_reducible refine Drive.changesOnly.step ?_ (foldl_frame (fun _ _ => ?_) _ _) (List.Subset.refl _)
      | dsimp -zeta only
      | (extract_lets +onlyGivenNames z; first | (refine let_frame (z := z) ?_ ?_; (on_goal 1 => (dsimp only [z])); (on_goal 2 => (intro hz; clear_value z))) | ((have _t : (_ → _) := z); clear _t; (dsimp only [z]; try clear z)) | ((have _t : Wr := z); clear _t; (dsimp only [z]; try clear z)) | ((have _t : _ × Drive := z); clear _t; (dsimp only [z]; try clear z)) | ((have _t : _ × _ × Drive := z); clear _t; (dsimp only [z]; try clear z)) | (clear_value z) | (dsimp only [z]; try clear z))
      | split
      | fail_if_no_progress (with_reducible apply Drive.changesOnly.upd <;> try (first | with_reducible exact Or.inr rfl | exact Or.inl (mem_of_contains rfl))))

theorem Drive.setSslot_frame (sid) (s) (d : Drive) :
    d.changesOnly [.keys] (Drive.setSslot sid s d) := by
    unfold Drive.setSslot
    repeat' (first
      | with_reducible assumption
      | with_reducible exact Drive.changesOnly_refl _ _
      | with_reducible refine Drive.changesOnly.step ?_ (foldl_frame (fun _ _ => ?_) _ _) (List.Subset.refl _)
      | dsimp -zeta only
      | (extract_lets +onlyGivenNames z; first | (refine let_frame (z := z) ?_ ?_; (on_goal 1 => (dsimp only [z])); (on_goal 2 => (intro hz; clear_value z))) | ((have _t : (_ → _) := z); clear _t; (dsimp only [z]; try clear z)) | ((have _t : Wr := z); clear _t; (dsimp only [z]; try clear z)) | ((have _t : _ × Drive := z); clear _t; (dsimp only [z]; try clear z)) | ((have _t : _ × _ × Drive := z); clear _t; (dsimp only [z]; try clear z)) | (clear_value z) | (dsimp only [z]; try clear z))
      | split
      | fail_if_no_progress (with_reducible apply Drive.changesOnly.upd <;> try (first | with_reducible exact Or.inr rfl | exact Or.inl (mem_of_contains rfl))))

theorem Drive.markSent_frame (sid) (p) (phase) (w) (f) (d : Drive) :
    d.changesOnly [.keys, .xp] (Drive.markSent sid p phase w f d) := by
    unfold Drive.markSent
    repeat' (first
      | with_reducible assumption
      | with_reducible exact Drive.changesOnly_refl _ _
      | with_reducible refine Drive.changesOnly.step ?_ (Drive.setSess_frame _ _ _) (subset_of_all rfl)
      | with_reducible refine Drive.changesOnly.step ?_ (Drive.setSslot_frame _ _ _) (subset_of_all rfl)
      | with_reducible refine Drive.changesOnly.step ?_ (foldl_frame (fun _ _ => ?_) _ _) (List.Subset.refl _)
      | dsimp -zeta only
      | (extract_lets +onlyGivenNames z; first | (refine let_frame (z := z) ?_ ?_; (on_goal 1 => (dsimp only [z])); (on_goal 2 => (intro hz; clear_value z))) | ((have _t : (_ → _) := z); clear _t; (dsimp only [z]; try clear z)) | ((have _t : Wr := z); clear _t; (dsimp only [z]; try clear z)) | ((have _t : _ × Drive := z); clear _t; (dsimp only [z]; try clear z)) | ((have _t : _ × _ × Drive := z); clear _t; (dsimp only [z]; try clear z)) | (clear_value z) | (dsimp only [z]; try clear z))
      | split
      | fail_if_no_progress (with_reducible apply Drive.changesOnly.upd <;> try (first | with_reducible exact Or.inr rfl | exact Or.inl (mem_of_contains rfl))))

theorem pumpFrames_frame (sid) (k) (d : Drive) :
    d.changesOnly [.keys, .xp, .port, .meter, .out] (pumpFrames sid k d) := by
    induction k generalizing d with
    | zero => exact Drive.changesOnly_refl _ _
    | succ n ih =>
      unfold pumpFrames
      extract_lets +onlyGivenNames s
      split
      · exact Drive.changesOnly_refl _ _
      · extract_lets +onlyGivenNames slot first
        split
        · exact Drive.changesOnly_refl _ _
        split
        · exact Drive.changesOnly_refl _ _
        split
        · exact Drive.changesOnly_refl _ _
        · extract_lets +onlyGivenNames phase w d1 peer mark d2
          have h1 : d.changesOnly [.keys, .xp, .port, .meter, .out] d1 :=
            (Drive.changesOnly_refl _ d).step (Drive.markSent_frame _ _ _ _ _ _) (subset_of_all rfl)
          have h2 : d.changesOnly [.keys, .xp, .port, .meter, .out] d2 := by
            dsimp only [d2]
            split
            · exact h1.step (Drive.meterOut_frame _ _ _) (subset_of_all rfl)
            · exact h1
          clear_value d2 mark peer w
          exact (h2.step (Drive.portTx_frame _ _ _ _ _ _ _) (subset_of_all rfl)).step (ih _) (List.Subset.refl _)

theorem Drive.pump_frame (sid) (d : Drive) :
    d.changesOnly [.keys, .xp, .port, .meter, .out] (Drive.pump sid d) := by
    unfold Drive.pump
    repeat' (first
      | with_reducible assumption
      | with_reducible exact Drive.changesOnly_refl _ _
      | with_reducible refine Drive.changesOnly.step ?_ (pumpFrames_frame _ _ _) (subset_of_all rfl)
      | with_reducible refine Drive.changesOnly.step ?_ (foldl_frame (fun _ _ => ?_) _ _) (List.Subset.refl _)
      | dsimp -zeta only
      | (extract_lets +onlyGivenNames z; first | (refine let_frame (z := z) ?_ ?_; (on_goal 1 => (dsimp only [z])); (on_goal 2 => (intro hz; clear_value z))) | ((have _t : (_ → _) := z); clear _t; (dsimp only [z]; try clear z)) | ((have _t : Wr := z); clear _t; (dsimp only [z]; try clear z)) | ((have _t : _ × Drive := z); clear _t; (dsimp only [z]; try clear z)) | ((have _t : _ × _ × Drive := z); clear _t; (dsimp only [z]; try clear z)) | (clear_value z) | (dsimp only [z]; try clear z))
      | split
      | fail_if_no_progress (with_reducible apply Drive.changesOnly.upd <;> try (first | with_reducible exact Or.inr rfl | exact Or.inl (mem_of_contains rfl))))

theorem Drive.sendPart_frame (sid) (rid) (path) (first) (last) (op) (payload) (d : Drive) :
    d.changesOnly [.keys, .xp, .port, .meter, .out] (Drive.sendPart sid rid path first last op payload d) := by
    unfold Drive.sendPart
    repeat' (first
      | with_reducible assumption
      | with_reducible exact Drive.changesOnly_refl _ _
      | with_reducible refine Drive.changesOnly.step ?_ (Drive.pump_frame _ _) (subset_of_all rfl)
      | with_reducible refine Drive.changesOnly.step ?_ (Drive.setSess_frame _ _ _) (subset_of_all rfl)
      | with_reducible refine Drive.changesOnly.step ?_ (foldl_frame (fun _ _ => ?_) _ _) (List.Subset.refl _)
      | dsimp -zeta only
      | (extract_lets +onlyGivenNames z; first | (refine let_frame (z := z) ?_ ?_; (on_goal 1 => (dsimp only [z])); (on_goal 2 => (intro hz; clear_value z))) | ((have _t : (_ → _) := z); clear _t; (dsimp only [z]; try clear z)) | ((have _t : Wr := z); clear _t; (dsimp only [z]; try clear z)) | ((have _t : _ × Drive := z); clear _t; (dsimp only [z]; try clear z)) | ((have _t : _ × _ × Drive := z); clear _t; (dsimp only [z]; try clear z)) | (clear_value z) | (dsimp only [z]; try clear z))
      | split
      | fail_if_no_progress (with_reducible apply Drive.changesOnly.upd <;> try (first | with_reducible exact Or.inr rfl | exact Or.inl (mem_of_contains rfl))))

theorem Drive.chargeReply_frame (t) (n) (d : Drive) :
    d.changesOnly [.xp] (Drive.chargeReply t n d) := by
    unfold Drive.chargeReply
    repeat' (first
      | with_reducible assumption
      | with_reducible exact Drive.changesOnly_refl _ _
      | with_reducible refine Drive.changesOnly.step ?_ (foldl_frame (fun _ _ => ?_) _ _) (List.Subset.refl _)
      | dsimp -zeta only
      | (extract_lets +onlyGivenNames z; first | (refine let_frame (z := z) ?_ ?_; (on_goal 1 => (dsimp only [z])); (on_goal 2 => (intro hz; clear_value z))) | ((have _t : (_ → _) := z); clear _t; (dsimp only [z]; try clear z)) | ((have _t : Wr := z); clear _t; (dsimp only [z]; try clear z)) | ((have _t : _ × Drive := z); clear _t; (dsimp only [z]; try clear z)) | ((have _t : _ × _ × Drive := z); clear _t; (dsimp only [z]; try clear z)) | (clear_value z) | (dsimp only [z]; try clear z))
      | split
      | fail_if_no_progress (with_reducible apply Drive.changesOnly.upd <;> try (first | with_reducible exact Or.inr rfl | exact Or.inl (mem_of_contains rfl))))

theorem Drive.replyFrames_frame (sid) (rid) (first) (last) (h) (body) (d : Drive) :
    d.changesOnly [.keys, .xp, .port, .meter, .out] (Drive.replyFrames sid rid first last h body d) := by
    unfold Drive.replyFrames
    repeat' (first
      | with_reducible assumption
      | with_reducible exact Drive.changesOnly_refl _ _
      | with_reducible refine Drive.changesOnly.step ?_ (Drive.chargeReply_frame _ _ _) (subset_of_all rfl)
      | with_reducible refine Drive.changesOnly.step ?_ (Drive.modSess_frame _ _ _) (subset_of_all rfl)
      | with_reducible refine Drive.changesOnly.step ?_ (Drive.sendPart_frame _ _ _ _ _ _ _ _) (subset_of_all rfl)
      | with_reducible refine Drive.changesOnly.step ?_ (foldl_frame (fun _ _ => ?_) _ _) (List.Subset.refl _)
      | dsimp -zeta only
      | (extract_lets +onlyGivenNames z; first | (refine let_frame (z := z) ?_ ?_; (on_goal 1 => (dsimp only [z])); (on_goal 2 => (intro hz; clear_value z))) | ((have _t : (_ → _) := z); clear _t; (dsimp only [z]; try clear z)) | ((have _t : Wr := z); clear _t; (dsimp only [z]; try clear z)) | ((have _t : _ × Drive := z); clear _t; (dsimp only [z]; try clear z)) | ((have _t : _ × _ × Drive := z); clear _t; (dsimp only [z]; try clear z)) | (clear_value z) | (dsimp only [z]; try clear z))
      | split
      | fail_if_no_progress (with_reducible apply Drive.changesOnly.upd <;> try (first | with_reducible exact Or.inr rfl | exact Or.inl (mem_of_contains rfl))))

theorem Drive.twinSend_frame (m) (d : Drive) :
    d.changesOnly [.port, .out, .free] (Drive.twinSend m d) := by
    unfold Drive.twinSend
    repeat' (first
      | with_reducible assumption
      | with_reducible exact Drive.changesOnly_refl _ _
      | with_reducible refine Drive.changesOnly.step ?_ (Drive.fresh_frame _) (subset_of_all rfl)
      | with_reducible refine Drive.changesOnly.step ?_ (snd_frame (Drive.fresh_frame _) (by assumption)) (subset_of_all rfl)
      | with_reducible refine Drive.changesOnly.step ?_ (Drive.portTx_frame _ _ _ _ _ _ _) (subset_of_all rfl)
      | with_reducible refine Drive.changesOnly.step ?_ (foldl_frame (fun _ _ => ?_) _ _) (List.Subset.refl _)
      | dsimp -zeta only
      | (extract_lets +onlyGivenNames z; first | (refine let_frame (z := z) ?_ ?_; (on_goal 1 => (dsimp only [z])); (on_goal 2 => (intro hz; clear_value z))) | ((have _t : (_ → _) := z); clear _t; (dsimp only [z]; try clear z)) | ((have _t : Wr := z); clear _t; (dsimp only [z]; try clear z)) | ((have _t : _ × Drive := z); clear _t; (dsimp only [z]; try clear z)) | ((have _t : _ × _ × Drive := z); clear _t; (dsimp only [z]; try clear z)) | (clear_value z) | (dsimp only [z]; try clear z))
      | split
      | fail_if_no_progress (with_reducible apply Drive.changesOnly.upd <;> try (first | with_reducible exact Or.inr rfl | exact Or.inl (mem_of_contains rfl))))

theorem Drive.dropReq_frame (o) (d : Drive) :
    d.changesOnly [.kv] (Drive.dropReq o d) := by
    unfold Drive.dropReq
    repeat' (first
      | with_reducible assumption
      | with_reducible exact Drive.changesOnly_refl _ _
      | with_reducible refine Drive.changesOnly.step ?_ (foldl_frame (fun _ _ => ?_) _ _) (List.Subset.refl _)
      | dsimp -zeta only
      | (extract_lets +onlyGivenNames z; first | (refine let_frame (z := z) ?_ ?_; (on_goal 1 => (dsimp only [z])); (on_goal 2 => (intro hz; clear_value z))) | ((have _t : (_ → _) := z); clear _t; (dsimp only [z]; try clear z)) | ((have _t : Wr := z); clear _t; (dsimp only [z]; try clear z)) | ((have _t : _ × Drive := z); clear _t; (dsimp only [z]; try clear z)) | ((have _t : _ × _ × Drive := z); clear _t; (dsimp only [z]; try clear z)) | (clear_value z) | (dsimp only [z]; try clear z))
      | split
      | fail_if_no_progress (with_reducible apply Drive.changesOnly.upd <;> try (first | with_reducible exact Or.inr rfl | exact Or.inl (mem_of_contains rfl))))

theorem ringTx_frame (east) (o) (d : Drive) :
    d.changesOnly [.port, .out, .free] (ringTx east o d) := by
    unfold ringTx
    repeat' (first
      | with_reducible assumption
      | with_reducible exact Drive.changesOnly_refl _ _
      | with_reducible refine Drive.changesOnly.step ?_ (Drive.fresh_frame _) (subset_of_all rfl)
      | with_reducible refine Drive.changesOnly.step ?_ (snd_frame (Drive.fresh_frame _) (by assumption)) (subset_of_all rfl)
      | with_reducible refine Drive.changesOnly.step ?_ (Drive.portTx_frame _ _ _ _ _ _ _) (subset_of_all rfl)
      | with_reducible refine Drive.changesOnly.step ?_ (foldl_frame (fun _ _ => ?_) _ _) (List.Subset.refl _)
      | dsimp -zeta only
      | (extract_lets +onlyGivenNames z; first | (refine let_frame (z := z) ?_ ?_; (on_goal 1 => (dsimp only [z])); (on_goal 2 => (intro hz; clear_value z))) | ((have _t : (_ → _) := z); clear _t; (dsimp only [z]; try clear z)) | ((have _t : Wr := z); clear _t; (dsimp only [z]; try clear z)) | ((have _t : _ × Drive := z); clear _t; (dsimp only [z]; try clear z)) | ((have _t : _ × _ × Drive := z); clear _t; (dsimp only [z]; try clear z)) | (clear_value z) | (dsimp only [z]; try clear z))
      | split
      | fail_if_no_progress (with_reducible apply Drive.changesOnly.upd <;> try (first | with_reducible exact Or.inr rfl | exact Or.inl (mem_of_contains rfl))))

theorem Drive.ringSend_frame (code) (dest) (cls) (args) (body) (d : Drive) :
    d.changesOnly [.ring, .port, .out, .free] (Drive.ringSend code dest cls args body d) := by
    unfold Drive.ringSend
    repeat' (first
      | with_reducible assumption
      | with_reducible exact Drive.changesOnly_refl _ _
      | with_reducible refine Drive.changesOnly.step ?_ (ringTx_frame _ _ _) (subset_of_all rfl)
      | with_reducible refine Drive.changesOnly.step ?_ (foldl_frame (fun _ _ => ?_) _ _) (List.Subset.refl _)
      | dsimp -zeta only
      | (extract_lets +onlyGivenNames z; first | (refine let_frame (z := z) ?_ ?_; (on_goal 1 => (dsimp only [z])); (on_goal 2 => (intro hz; clear_value z))) | ((have _t : (_ → _) := z); clear _t; (dsimp only [z]; try clear z)) | ((have _t : Wr := z); clear _t; (dsimp only [z]; try clear z)) | ((have _t : _ × Drive := z); clear _t; (dsimp only [z]; try clear z)) | ((have _t : _ × _ × Drive := z); clear _t; (dsimp only [z]; try clear z)) | (clear_value z) | (dsimp only [z]; try clear z))
      | split
      | fail_if_no_progress (with_reducible apply Drive.changesOnly.upd <;> try (first | with_reducible exact Or.inr rfl | exact Or.inl (mem_of_contains rfl))))

theorem Drive.answer_frame (o) (h) (body) (d : Drive) :
    d.changesOnly [.kv, .twin, .ring, .keys, .xp, .port, .meter, .out, .free] (Drive.answer o h body d) := by
    unfold Drive.answer
    repeat' (first
      | with_reducible assumption
      | with_reducible exact Drive.changesOnly_refl _ _
      | with_reducible refine Drive.changesOnly.step ?_ (Drive.dropReq_frame _ _) (subset_of_all rfl)
      | with_reducible refine Drive.changesOnly.step ?_ (Drive.emit_frame _ _) (subset_of_all rfl)
      | with_reducible refine Drive.changesOnly.step ?_ (Drive.meterReply_frame _ _) (subset_of_all rfl)
      | with_reducible refine Drive.changesOnly.step ?_ (Drive.modSess_frame _ _ _) (subset_of_all rfl)
      | with_reducible refine Drive.changesOnly.step ?_ (Drive.replyFrames_frame _ _ _ _ _ _ _) (subset_of_all rfl)
      | with_reducible refine Drive.changesOnly.step ?_ (Drive.ringSend_frame _ _ _ _ _ _) (subset_of_all rfl)
      | with_reducible refine Drive.changesOnly.step ?_ (Drive.twinSeen_frame _ _ _) (subset_of_all rfl)
      | with_reducible refine Drive.changesOnly.step ?_ (Drive.twinSend_frame _ _) (subset_of_all rfl)
      | with_reducible refine Drive.changesOnly.step ?_ (foldl_frame (fun _ _ => ?_) _ _) (List.Subset.refl _)
      | dsimp -zeta only
      | (extract_lets +onlyGivenNames z; first | (refine let_frame (z := z) ?_ ?_; (on_goal 1 => (dsimp only [z])); (on_goal 2 => (intro hz; clear_value z))) | ((have _t : (_ → _) := z); clear _t; (dsimp only [z]; try clear z)) | ((have _t : Wr := z); clear _t; (dsimp only [z]; try clear z)) | ((have _t : _ × Drive := z); clear _t; (dsimp only [z]; try clear z)) | ((have _t : _ × _ × Drive := z); clear _t; (dsimp only [z]; try clear z)) | (clear_value z) | (dsimp only [z]; try clear z))
      | split
      | fail_if_no_progress (with_reducible apply Drive.changesOnly.upd <;> try (first | with_reducible exact Or.inr rfl | exact Or.inl (mem_of_contains rfl))))

theorem Drive.lastReply_frame (sid) (late) (d : Drive) :
    d.changesOnly [.kv, .twin, .ring, .keys, .xp, .port, .meter, .out, .free] (Drive.lastReply sid late d) := by
    unfold Drive.lastReply
    repeat' (first
      | with_reducible assumption
      | with_reducible exact Drive.changesOnly_refl _ _
      | with_reducible refine Drive.changesOnly.step ?_ (Drive.answer_frame _ _ _ _) (subset_of_all rfl)
      | with_reducible refine Drive.changesOnly.step ?_ (Drive.modSess_frame _ _ _) (subset_of_all rfl)
      | with_reducible refine Drive.changesOnly.step ?_ (foldl_frame (fun _ _ => ?_) _ _) (List.Subset.refl _)
      | dsimp -zeta only
      | (extract_lets +onlyGivenNames z; first | (refine let_frame (z := z) ?_ ?_; (on_goal 1 => (dsimp only [z])); (on_goal 2 => (intro hz; clear_value z))) | ((have _t : (_ → _) := z); clear _t; (dsimp only [z]; try clear z)) | ((have _t : Wr := z); clear _t; (dsimp only [z]; try clear z)) | ((have _t : _ × Drive := z); clear _t; (dsimp only [z]; try clear z)) | ((have _t : _ × _ × Drive := z); clear _t; (dsimp only [z]; try clear z)) | (clear_value z) | (dsimp only [z]; try clear z))
      | split
      | fail_if_no_progress (with_reducible apply Drive.changesOnly.upd <;> try (first | with_reducible exact Or.inr rfl | exact Or.inl (mem_of_contains rfl))))

theorem Drive.reply_frame (o) (h) (body) (d : Drive) :
    d.changesOnly [.kv, .twin, .ring, .keys, .xp, .port, .meter, .out, .free] (Drive.reply o h body d) := by
    unfold Drive.reply
    repeat' (first
      | with_reducible assumption
      | with_reducible exact Drive.changesOnly_refl _ _
      | with_reducible refine Drive.changesOnly.step ?_ (Drive.answer_frame _ _ _ _) (subset_of_all rfl)
      | with_reducible refine Drive.changesOnly.step ?_ (Drive.lastReply_frame _ _ _) (subset_of_all rfl)
      | with_reducible refine Drive.changesOnly.step ?_ (foldl_frame (fun _ _ => ?_) _ _) (List.Subset.refl _)
      | dsimp -zeta only
      | (extract_lets +onlyGivenNames z; first | (refine let_frame (z := z) ?_ ?_; (on_goal 1 => (dsimp only [z])); (on_goal 2 => (intro hz; clear_value z))) | ((have _t : (_ → _) := z); clear _t; (dsimp only [z]; try clear z)) | ((have _t : Wr := z); clear _t; (dsimp only [z]; try clear z)) | ((have _t : _ × Drive := z); clear _t; (dsimp only [z]; try clear z)) | ((have _t : _ × _ × Drive := z); clear _t; (dsimp only [z]; try clear z)) | (clear_value z) | (dsimp only [z]; try clear z))
      | split
      | fail_if_no_progress (with_reducible apply Drive.changesOnly.upd <;> try (first | with_reducible exact Or.inr rfl | exact Or.inl (mem_of_contains rfl))))

theorem sendNotices_frame (sid) (k) (d : Drive) :
    d.changesOnly [.keys, .xp, .port, .meter, .out] (sendNotices sid k d) := by
    induction k generalizing d with
    | zero =>
      unfold sendNotices
      repeat' (first
            | with_reducible assumption
            | with_reducible exact Drive.changesOnly_refl _ _
            | with_reducible refine Drive.changesOnly.step ?_ (Drive.emit_frame _ _) (subset_of_all rfl)
            | with_reducible refine Drive.changesOnly.step ?_ (Drive.reply_frame _ _ _ _) (subset_of_all rfl)
            | with_reducible refine Drive.changesOnly.step ?_ (Drive.sendPart_frame _ _ _ _ _ _ _ _) (subset_of_all rfl)
            | with_reducible refine Drive.changesOnly.step ?_ (Drive.setSess_frame _ _ _) (subset_of_all rfl)
            | with_reducible refine Drive.changesOnly.step ?_ (foldl_frame (fun _ _ => ?_) _ _) (List.Subset.refl _)
            | dsimp -zeta only
            | (extract_lets +onlyGivenNames z; first | (refine let_frame (z := z) ?_ ?_; (on_goal 1 => (dsimp only [z])); (on_goal 2 => (intro hz; clear_value z))) | ((have _t : (_ → _) := z); clear _t; (dsimp only [z]; try clear z)) | ((have _t : Wr := z); clear _t; (dsimp only [z]; try clear z)) | ((have _t : _ × Drive := z); clear _t; (dsimp only [z]; try clear z)) | ((have _t : _ × _ × Drive := z); clear _t; (dsimp only [z]; try clear z)) | (clear_value z) | (dsimp only [z]; try clear z))
            | split
            | fail_if_no_progress (with_reducible apply Drive.changesOnly.upd <;> try (first | with_reducible exact Or.inr rfl | exact Or.inl (mem_of_contains rfl))))
    | succ n ih =>
      unfold sendNotices
      repeat' (first
            | with_reducible refine Drive.changesOnly.step ?_ (ih _) (List.Subset.refl _)
            | with_reducible assumption
            | with_reducible exact Drive.changesOnly_refl _ _
            | with_reducible refine Drive.changesOnly.step ?_ (Drive.emit_frame _ _) (subset_of_all rfl)
            | with_reducible refine Drive.changesOnly.step ?_ (Drive.reply_frame _ _ _ _) (subset_of_all rfl)
            | with_reducible refine Drive.changesOnly.step ?_ (Drive.sendPart_frame _ _ _ _ _ _ _ _) (subset_of_all rfl)
            | with_reducible refine Drive.changesOnly.step ?_ (Drive.setSess_frame _ _ _) (subset_of_all rfl)
            | with_reducible refine Drive.changesOnly.step ?_ (foldl_frame (fun _ _ => ?_) _ _) (List.Subset.refl _)
            | dsimp -zeta only
            | (extract_lets +onlyGivenNames z; first | (refine let_frame (z := z) ?_ ?_; (on_goal 1 => (dsimp only [z])); (on_goal 2 => (intro hz; clear_value z))) | ((have _t : (_ → _) := z); clear _t; (dsimp only [z]; try clear z)) | ((have _t : Wr := z); clear _t; (dsimp only [z]; try clear z)) | ((have _t : _ × Drive := z); clear _t; (dsimp only [z]; try clear z)) | ((have _t : _ × _ × Drive := z); clear _t; (dsimp only [z]; try clear z)) | (clear_value z) | (dsimp only [z]; try clear z))
            | split
            | fail_if_no_progress (with_reducible apply Drive.changesOnly.upd <;> try (first | with_reducible exact Or.inr rfl | exact Or.inl (mem_of_contains rfl))))

theorem Drive.noticeWith_frame {ps : List Part} {lost : Nat → Drive → Drive} (hps : [.keys, .xp, .port, .meter, .out] ⊆ ps) (hf : ∀ y0 (x : Drive), x.changesOnly ps (lost y0 x)) (sid) (n) (d : Drive) :
    d.changesOnly ps (Drive.noticeWith lost sid n d) := by
    unfold Drive.noticeWith
    repeat' (first
      | with_reducible assumption
      | with_reducible exact Drive.changesOnly_refl _ _
      | refine Drive.changesOnly.step ?_ (hf _ _) (List.Subset.refl _)
      | with_reducible refine Drive.changesOnly.step ?_ (Drive.queueWith_frame (ps := ps) (List.Subset.trans (subset_of_all rfl) hps) (fun _ _ => ?_) _ _ _) (List.Subset.refl _)
      | with_reducible refine Drive.changesOnly.step ?_ (sendNotices_frame _ _ _) (List.Subset.trans (subset_of_all rfl) hps)
      | with_reducible refine Drive.changesOnly.step ?_ (foldl_frame (fun _ _ => ?_) _ _) (List.Subset.refl _)
      | dsimp -zeta only
      | (extract_lets +onlyGivenNames z; first | (refine let_frame (z := z) ?_ ?_; (on_goal 1 => (dsimp only [z])); (on_goal 2 => (intro hz; clear_value z))) | ((have _t : (_ → _) := z); clear _t; (dsimp only [z]; try clear z)) | ((have _t : Wr := z); clear _t; (dsimp only [z]; try clear z)) | ((have _t : _ × Drive := z); clear _t; (dsimp only [z]; try clear z)) | ((have _t : _ × _ × Drive := z); clear _t; (dsimp only [z]; try clear z)) | (clear_value z) | (dsimp only [z]; try clear z))
      | split
      | fail_if_no_progress (with_reducible apply Drive.changesOnly.upd <;> try (first | with_reducible exact Or.inr rfl | exact Or.inl (mem_sub hps (mem_of_contains rfl)))))

theorem Drive.event_frame (src) (sev) (words) (d : Drive) (tag) :
    d.changesOnly [.keys, .xp, .port, .rec_, .meter, .flag, .out] (Drive.event src sev words d tag) := by
    have he : d.changesOnly [.keys, .xp, .port, .rec_, .meter, .flag, .out] (d.enter src sev (eventPayload tag words)).2 :=
      (Drive.changesOnly_refl _ d).step (Drive.enter_frame _ _ _ _) (subset_of_all rfl)
    unfold Drive.event
    split
    · rename_i h; rw [h] at he; exact he
    · rename_i e x h
      rw [h] at he
      dsimp -zeta only at he
      extract_lets y
      have hy : d.changesOnly [.keys, .xp, .port, .rec_, .meter, .flag, .out] y := by
        dsimp only [y]
        split
        · refine Drive.changesOnly.step ?_ (Drive.raiseAlert_frame _) (subset_of_all rfl)
          split
          · exact he.step (Drive.noticeWith_frame (ps := [.keys, .xp, .port, .rec_, .meter, .flag, .out]) (subset_of_all rfl)
              (fun sid x => (Drive.changesOnly_refl _ x).step (Drive.eventNoticeLost_frame sid x) (subset_of_all rfl)) _ _ _) (List.Subset.refl _)
          · exact he
        · exact he
      clear_value y
      split
      · exact hy.step (Drive.startFlush_frame _) (subset_of_all rfl)
      · exact hy

theorem Drive.takeRing_frame (p) (ring) (d : Drive) :
    d.changesOnly [.port] (Drive.takeRing p ring d) := by
    unfold Drive.takeRing
    repeat' (first
      | with_reducible assumption
      | with_reducible exact Drive.changesOnly_refl _ _
      | with_reducible refine Drive.changesOnly.step ?_ (Drive.modPort_frame _ _ _) (subset_of_all rfl)
      | with_reducible refine Drive.changesOnly.step ?_ (foldl_frame (fun _ _ => ?_) _ _) (List.Subset.refl _)
      | dsimp -zeta only
      | (extract_lets +onlyGivenNames z; first | (refine let_frame (z := z) ?_ ?_; (on_goal 1 => (dsimp only [z])); (on_goal 2 => (intro hz; clear_value z))) | ((have _t : (_ → _) := z); clear _t; (dsimp only [z]; try clear z)) | ((have _t : Wr := z); clear _t; (dsimp only [z]; try clear z)) | ((have _t : _ × Drive := z); clear _t; (dsimp only [z]; try clear z)) | ((have _t : _ × _ × Drive := z); clear _t; (dsimp only [z]; try clear z)) | (clear_value z) | (dsimp only [z]; try clear z))
      | split
      | fail_if_no_progress (with_reducible apply Drive.changesOnly.upd <;> try (first | with_reducible exact Or.inr rfl | exact Or.inl (mem_of_contains rfl))))

theorem Drive.takeRingSide_frame (d : Drive) :
    d.changesOnly [.port] (Drive.takeRingSide d) := by
    unfold Drive.takeRingSide
    repeat' (first
      | with_reducible assumption
      | with_reducible exact Drive.changesOnly_refl _ _
      | with_reducible refine Drive.changesOnly.step ?_ (Drive.takeRing_frame _ _ _) (subset_of_all rfl)
      | with_reducible refine Drive.changesOnly.step ?_ (foldl_frame (fun _ _ => ?_) _ _) (List.Subset.refl _)
      | dsimp -zeta only
      | (extract_lets +onlyGivenNames z; first | (refine let_frame (z := z) ?_ ?_; (on_goal 1 => (dsimp only [z])); (on_goal 2 => (intro hz; clear_value z))) | ((have _t : (_ → _) := z); clear _t; (dsimp only [z]; try clear z)) | ((have _t : Wr := z); clear _t; (dsimp only [z]; try clear z)) | ((have _t : _ × Drive := z); clear _t; (dsimp only [z]; try clear z)) | ((have _t : _ × _ × Drive := z); clear _t; (dsimp only [z]; try clear z)) | (clear_value z) | (dsimp only [z]; try clear z))
      | split
      | fail_if_no_progress (with_reducible apply Drive.changesOnly.upd <;> try (first | with_reducible exact Or.inr rfl | exact Or.inl (mem_of_contains rfl))))

theorem Drive.fromRing_frame {ps : List Part} {f : Drive → Drive} (hps : [.ring, .port] ⊆ ps) (hf : ∀  (x : Drive), x.changesOnly ps (f  x)) (src) (seq) (d : Drive) :
    d.changesOnly ps (Drive.fromRing src seq f d) := by
    unfold Drive.fromRing
    repeat' (first
      | with_reducible assumption
      | with_reducible exact Drive.changesOnly_refl _ _
      | refine Drive.changesOnly.step ?_ (hf _) (List.Subset.refl _)
      | with_reducible refine Drive.changesOnly.step ?_ (Drive.takeRingSide_frame _) (List.Subset.trans (subset_of_all rfl) hps)
      | with_reducible refine Drive.changesOnly.step ?_ (foldl_frame (fun _ _ => ?_) _ _) (List.Subset.refl _)
      | dsimp -zeta only
      | (extract_lets +onlyGivenNames z; first | (refine let_frame (z := z) ?_ ?_; (on_goal 1 => (dsimp only [z])); (on_goal 2 => (intro hz; clear_value z))) | ((have _t : (_ → _) := z); clear _t; (dsimp only [z]; try clear z)) | ((have _t : Wr := z); clear _t; (dsimp only [z]; try clear z)) | ((have _t : _ × Drive := z); clear _t; (dsimp only [z]; try clear z)) | ((have _t : _ × _ × Drive := z); clear _t; (dsimp only [z]; try clear z)) | (clear_value z) | (dsimp only [z]; try clear z))
      | split
      | fail_if_no_progress (with_reducible apply Drive.changesOnly.upd <;> try (first | with_reducible exact Or.inr rfl | exact Or.inl (mem_sub hps (mem_of_contains rfl)))))

theorem Drive.refuse_frame (r) (status) (d : Drive) (version) (offset) :
    d.changesOnly [.kv, .twin, .ring, .keys, .xp, .port, .meter, .out, .free] (Drive.refuse r status d version offset) := by
    unfold Drive.refuse
    repeat' (first
      | with_reducible assumption
      | with_reducible exact Drive.changesOnly_refl _ _
      | with_reducible refine Drive.changesOnly.step ?_ (Drive.reply_frame _ _ _ _) (subset_of_all rfl)
      | with_reducible refine Drive.changesOnly.step ?_ (foldl_frame (fun _ _ => ?_) _ _) (List.Subset.refl _)
      | dsimp -zeta only
      | (extract_lets +onlyGivenNames z; first | (refine let_frame (z := z) ?_ ?_; (on_goal 1 => (dsimp only [z])); (on_goal 2 => (intro hz; clear_value z))) | ((have _t : (_ → _) := z); clear _t; (dsimp only [z]; try clear z)) | ((have _t : Wr := z); clear _t; (dsimp only [z]; try clear z)) | ((have _t : _ × Drive := z); clear _t; (dsimp only [z]; try clear z)) | ((have _t : _ × _ × Drive := z); clear _t; (dsimp only [z]; try clear z)) | (clear_value z) | (dsimp only [z]; try clear z))
      | split
      | fail_if_no_progress (with_reducible apply Drive.changesOnly.upd <;> try (first | with_reducible exact Or.inr rfl | exact Or.inl (mem_of_contains rfl))))

theorem Drive.raiseWear_frame (d : Drive) :
    d.changesOnly [.flag] (Drive.raiseWear d) := by
    unfold Drive.raiseWear
    repeat' (first
      | with_reducible assumption
      | with_reducible exact Drive.changesOnly_refl _ _
      | with_reducible refine Drive.changesOnly.step ?_ (foldl_frame (fun _ _ => ?_) _ _) (List.Subset.refl _)
      | dsimp -zeta only
      | (extract_lets +onlyGivenNames z; first | (refine let_frame (z := z) ?_ ?_; (on_goal 1 => (dsimp only [z])); (on_goal 2 => (intro hz; clear_value z))) | ((have _t : (_ → _) := z); clear _t; (dsimp only [z]; try clear z)) | ((have _t : Wr := z); clear _t; (dsimp only [z]; try clear z)) | ((have _t : _ × Drive := z); clear _t; (dsimp only [z]; try clear z)) | ((have _t : _ × _ × Drive := z); clear _t; (dsimp only [z]; try clear z)) | (clear_value z) | (dsimp only [z]; try clear z))
      | split
      | fail_if_no_progress (with_reducible apply Drive.changesOnly.upd <;> try (first | with_reducible exact Or.inr rfl | exact Or.inl (mem_of_contains rfl))))

theorem Drive.twinOp_frame (op) (d : Drive) :
    d.changesOnly [.twin, .port, .out, .free] (Drive.twinOp op d) := by
    unfold Drive.twinOp
    repeat' (first
      | with_reducible assumption
      | with_reducible exact Drive.changesOnly_refl _ _
      | with_reducible refine Drive.changesOnly.step ?_ (Drive.twinSend_frame _ _) (subset_of_all rfl)
      | with_reducible refine Drive.changesOnly.step ?_ (foldl_frame (fun _ _ => ?_) _ _) (List.Subset.refl _)
      | dsimp -zeta only
      | (extract_lets +onlyGivenNames z; first | (refine let_frame (z := z) ?_ ?_; (on_goal 1 => (dsimp only [z])); (on_goal 2 => (intro hz; clear_value z))) | ((have _t : (_ → _) := z); clear _t; (dsimp only [z]; try clear z)) | ((have _t : Wr := z); clear _t; (dsimp only [z]; try clear z)) | ((have _t : _ × Drive := z); clear _t; (dsimp only [z]; try clear z)) | ((have _t : _ × _ × Drive := z); clear _t; (dsimp only [z]; try clear z)) | (clear_value z) | (dsimp only [z]; try clear z))
      | split
      | fail_if_no_progress (with_reducible apply Drive.changesOnly.upd <;> try (first | with_reducible exact Or.inr rfl | exact Or.inl (mem_of_contains rfl))))

theorem Drive.raiseFwd_frame (d : Drive) :
    d.changesOnly [.flag] (Drive.raiseFwd d) := by
    unfold Drive.raiseFwd
    repeat' (first
      | with_reducible assumption
      | with_reducible exact Drive.changesOnly_refl _ _
      | with_reducible refine Drive.changesOnly.step ?_ (foldl_frame (fun _ _ => ?_) _ _) (List.Subset.refl _)
      | dsimp -zeta only
      | (extract_lets +onlyGivenNames z; first | (refine let_frame (z := z) ?_ ?_; (on_goal 1 => (dsimp only [z])); (on_goal 2 => (intro hz; clear_value z))) | ((have _t : (_ → _) := z); clear _t; (dsimp only [z]; try clear z)) | ((have _t : Wr := z); clear _t; (dsimp only [z]; try clear z)) | ((have _t : _ × Drive := z); clear _t; (dsimp only [z]; try clear z)) | ((have _t : _ × _ × Drive := z); clear _t; (dsimp only [z]; try clear z)) | (clear_value z) | (dsimp only [z]; try clear z))
      | split
      | fail_if_no_progress (with_reducible apply Drive.changesOnly.upd <;> try (first | with_reducible exact Or.inr rfl | exact Or.inl (mem_of_contains rfl))))

theorem Drive.unheld_frame (ch) (addr) (d : Drive) :
    d.changesOnly [.chans] (Drive.unheld ch addr d) := by
    unfold Drive.unheld
    repeat' (first
      | with_reducible assumption
      | with_reducible exact Drive.changesOnly_refl _ _
      | with_reducible refine Drive.changesOnly.step ?_ (foldl_frame (fun _ _ => ?_) _ _) (List.Subset.refl _)
      | dsimp -zeta only
      | (extract_lets +onlyGivenNames z; first | (refine let_frame (z := z) ?_ ?_; (on_goal 1 => (dsimp only [z])); (on_goal 2 => (intro hz; clear_value z))) | ((have _t : (_ → _) := z); clear _t; (dsimp only [z]; try clear z)) | ((have _t : Wr := z); clear _t; (dsimp only [z]; try clear z)) | ((have _t : _ × Drive := z); clear _t; (dsimp only [z]; try clear z)) | ((have _t : _ × _ × Drive := z); clear _t; (dsimp only [z]; try clear z)) | (clear_value z) | (dsimp only [z]; try clear z))
      | split
      | fail_if_no_progress (with_reducible apply Drive.changesOnly.upd <;> try (first | with_reducible exact Or.inr rfl | exact Or.inl (mem_of_contains rfl))))

theorem Drive.advanceTo_frame (t) (d : Drive) :
    d.changesOnly [.time] (Drive.advanceTo t d) := by
    unfold Drive.advanceTo
    repeat' (first
      | with_reducible assumption
      | with_reducible exact Drive.changesOnly_refl _ _
      | with_reducible refine Drive.changesOnly.step ?_ (foldl_frame (fun _ _ => ?_) _ _) (List.Subset.refl _)
      | dsimp -zeta only
      | (extract_lets +onlyGivenNames z; first | (refine let_frame (z := z) ?_ ?_; (on_goal 1 => (dsimp only [z])); (on_goal 2 => (intro hz; clear_value z))) | ((have _t : (_ → _) := z); clear _t; (dsimp only [z]; try clear z)) | ((have _t : Wr := z); clear _t; (dsimp only [z]; try clear z)) | ((have _t : _ × Drive := z); clear _t; (dsimp only [z]; try clear z)) | ((have _t : _ × _ × Drive := z); clear _t; (dsimp only [z]; try clear z)) | (clear_value z) | (dsimp only [z]; try clear z))
      | split
      | fail_if_no_progress (with_reducible apply Drive.changesOnly.upd <;> try (first | with_reducible exact Or.inr rfl | exact Or.inl (mem_of_contains rfl))))

theorem Drive.setPower_frame (st) (d : Drive) :
    d.changesOnly [.keys, .xp, .port, .rec_, .meter, .power, .flag, .out] (Drive.setPower st d) := by
    unfold Drive.setPower
    repeat' (first
      | with_reducible assumption
      | with_reducible exact Drive.changesOnly_refl _ _
      | with_reducible refine Drive.changesOnly.step ?_ (Drive.event_frame _ _ _ _ _) (subset_of_all rfl)
      | with_reducible refine Drive.changesOnly.step ?_ (foldl_frame (fun _ _ => ?_) _ _) (List.Subset.refl _)
      | dsimp -zeta only
      | (extract_lets +onlyGivenNames z; first | (refine let_frame (z := z) ?_ ?_; (on_goal 1 => (dsimp only [z])); (on_goal 2 => (intro hz; clear_value z))) | ((have _t : (_ → _) := z); clear _t; (dsimp only [z]; try clear z)) | ((have _t : Wr := z); clear _t; (dsimp only [z]; try clear z)) | ((have _t : _ × Drive := z); clear _t; (dsimp only [z]; try clear z)) | ((have _t : _ × _ × Drive := z); clear _t; (dsimp only [z]; try clear z)) | (clear_value z) | (dsimp only [z]; try clear z))
      | split
      | fail_if_no_progress (with_reducible apply Drive.changesOnly.upd <;> try (first | with_reducible exact Or.inr rfl | exact Or.inl (mem_of_contains rfl))))

theorem Drive.beginWake_frame (d : Drive) :
    d.changesOnly [.power] (Drive.beginWake d) := by
    unfold Drive.beginWake
    repeat' (first
      | with_reducible assumption
      | with_reducible exact Drive.changesOnly_refl _ _
      | with_reducible refine Drive.changesOnly.step ?_ (foldl_frame (fun _ _ => ?_) _ _) (List.Subset.refl _)
      | dsimp -zeta only
      | (extract_lets +onlyGivenNames z; first | (refine let_frame (z := z) ?_ ?_; (on_goal 1 => (dsimp only [z])); (on_goal 2 => (intro hz; clear_value z))) | ((have _t : (_ → _) := z); clear _t; (dsimp only [z]; try clear z)) | ((have _t : Wr := z); clear _t; (dsimp only [z]; try clear z)) | ((have _t : _ × Drive := z); clear _t; (dsimp only [z]; try clear z)) | ((have _t : _ × _ × Drive := z); clear _t; (dsimp only [z]; try clear z)) | (clear_value z) | (dsimp only [z]; try clear z))
      | split
      | fail_if_no_progress (with_reducible apply Drive.changesOnly.upd <;> try (first | with_reducible exact Or.inr rfl | exact Or.inl (mem_of_contains rfl))))

theorem Drive.awaken_frame (d : Drive) :
    d.changesOnly [.keys, .xp, .time, .port, .rec_, .meter, .power, .flag, .out] (Drive.awaken d) := by
    unfold Drive.awaken
    repeat' (first
      | with_reducible assumption
      | with_reducible exact Drive.changesOnly_refl _ _
      | with_reducible refine Drive.changesOnly.step ?_ (Drive.advanceTo_frame _ _) (subset_of_all rfl)
      | with_reducible refine Drive.changesOnly.step ?_ (Drive.beginWake_frame _) (subset_of_all rfl)
      | with_reducible refine Drive.changesOnly.step ?_ (Drive.setPower_frame _ _) (subset_of_all rfl)
      | with_reducible refine Drive.changesOnly.step ?_ (foldl_frame (fun _ _ => ?_) _ _) (List.Subset.refl _)
      | dsimp -zeta only
      | (extract_lets +onlyGivenNames z; first | (refine let_frame (z := z) ?_ ?_; (on_goal 1 => (dsimp only [z])); (on_goal 2 => (intro hz; clear_value z))) | ((have _t : (_ → _) := z); clear _t; (dsimp only [z]; try clear z)) | ((have _t : Wr := z); clear _t; (dsimp only [z]; try clear z)) | ((have _t : _ × Drive := z); clear _t; (dsimp only [z]; try clear z)) | ((have _t : _ × _ × Drive := z); clear _t; (dsimp only [z]; try clear z)) | (clear_value z) | (dsimp only [z]; try clear z))
      | split
      | fail_if_no_progress (with_reducible apply Drive.changesOnly.upd <;> try (first | with_reducible exact Or.inr rfl | exact Or.inl (mem_of_contains rfl))))

theorem attrCmd_frame {ps : List Part} {w : Drive → Wr} (hps : [.keys, .xp, .time, .port, .rec_, .meter, .power, .flag, .chans, .out] ⊆ ps) (hf : ∀  (x : Drive), x.changesOnly ps (w  x).dev) (ch) (addr) (d : Drive) :
    d.changesOnly ps (attrCmd ch addr w d) := by
    unfold attrCmd
    repeat' (first
      | with_reducible assumption
      | with_reducible exact Drive.changesOnly_refl _ _
      | refine Drive.changesOnly.step ?_ (hf _) (List.Subset.refl _)
      | with_reducible refine Drive.changesOnly.step ?_ (Drive.awaken_frame _) (List.Subset.trans (subset_of_all rfl) hps)
      | with_reducible refine Drive.changesOnly.step ?_ (Drive.emit_frame _ _) (List.Subset.trans (subset_of_all rfl) hps)
      | with_reducible refine Drive.changesOnly.step ?_ (Drive.unheld_frame _ _ _) (List.Subset.trans (subset_of_all rfl) hps)
      | with_reducible refine Drive.changesOnly.step ?_ (foldl_frame (fun _ _ => ?_) _ _) (List.Subset.refl _)
      | dsimp -zeta only
      | (extract_lets +onlyGivenNames z; first | (refine let_frame (z := z) ?_ ?_; (on_goal 1 => (dsimp only [z])); (on_goal 2 => (intro hz; clear_value z))) | ((have _t : (_ → _) := z); clear _t; (dsimp only [z]; try clear z)) | ((have _t : Wr := z); clear _t; (dsimp only [z]; try clear z)) | ((have _t : _ × Drive := z); clear _t; (dsimp only [z]; try clear z)) | ((have _t : _ × _ × Drive := z); clear _t; (dsimp only [z]; try clear z)) | (clear_value z) | (dsimp only [z]; try clear z))
      | split
      | fail_if_no_progress (with_reducible apply Drive.changesOnly.upd <;> try (first | with_reducible exact Or.inr rfl | exact Or.inl (mem_sub hps (mem_of_contains rfl)))))

theorem Wr.ok_frame (d : Drive) :
    d.changesOnly [] (Wr.ok d).dev := by
    unfold Wr.ok
    repeat' (first
      | with_reducible assumption
      | with_reducible exact Drive.changesOnly_refl _ _
      | with_reducible refine Drive.changesOnly.step ?_ (foldl_frame (fun _ _ => ?_) _ _) (List.Subset.refl _)
      | dsimp -zeta only
      | (extract_lets +onlyGivenNames z; first | (refine let_frame (z := z) ?_ ?_; (on_goal 1 => (dsimp only [z])); (on_goal 2 => (intro hz; clear_value z))) | ((have _t : (_ → _) := z); clear _t; (dsimp only [z]; try clear z)) | ((have _t : Wr := z); clear _t; (dsimp only [z]; try clear z)) | ((have _t : _ × Drive := z); clear _t; (dsimp only [z]; try clear z)) | ((have _t : _ × _ × Drive := z); clear _t; (dsimp only [z]; try clear z)) | (clear_value z) | (dsimp only [z]; try clear z))
      | split
      | fail_if_no_progress (with_reducible apply Drive.changesOnly.upd <;> try (first | with_reducible exact Or.inr rfl | exact Or.inl (mem_of_contains rfl))))

theorem Wr.conflict_frame (code) (page) (d : Drive) :
    d.changesOnly [] (Wr.conflict code page d).dev := by
    unfold Wr.conflict
    repeat' (first
      | with_reducible assumption
      | with_reducible exact Drive.changesOnly_refl _ _
      | with_reducible refine Drive.changesOnly.step ?_ (foldl_frame (fun _ _ => ?_) _ _) (List.Subset.refl _)
      | dsimp -zeta only
      | (extract_lets +onlyGivenNames z; first | (refine let_frame (z := z) ?_ ?_; (on_goal 1 => (dsimp only [z])); (on_goal 2 => (intro hz; clear_value z))) | ((have _t : (_ → _) := z); clear _t; (dsimp only [z]; try clear z)) | ((have _t : Wr := z); clear _t; (dsimp only [z]; try clear z)) | ((have _t : _ × Drive := z); clear _t; (dsimp only [z]; try clear z)) | ((have _t : _ × _ × Drive := z); clear _t; (dsimp only [z]; try clear z)) | (clear_value z) | (dsimp only [z]; try clear z))
      | split
      | fail_if_no_progress (with_reducible apply Drive.changesOnly.upd <;> try (first | with_reducible exact Or.inr rfl | exact Or.inl (mem_of_contains rfl))))

theorem Wr.bad_frame (status) (d : Drive) :
    d.changesOnly [] (Wr.bad status d).dev := by
    unfold Wr.bad
    repeat' (first
      | with_reducible assumption
      | with_reducible exact Drive.changesOnly_refl _ _
      | with_reducible refine Drive.changesOnly.step ?_ (foldl_frame (fun _ _ => ?_) _ _) (List.Subset.refl _)
      | dsimp -zeta only
      | (extract_lets +onlyGivenNames z; first | (refine let_frame (z := z) ?_ ?_; (on_goal 1 => (dsimp only [z])); (on_goal 2 => (intro hz; clear_value z))) | ((have _t : (_ → _) := z); clear _t; (dsimp only [z]; try clear z)) | ((have _t : Wr := z); clear _t; (dsimp only [z]; try clear z)) | ((have _t : _ × Drive := z); clear _t; (dsimp only [z]; try clear z)) | ((have _t : _ × _ × Drive := z); clear _t; (dsimp only [z]; try clear z)) | (clear_value z) | (dsimp only [z]; try clear z))
      | split
      | fail_if_no_progress (with_reducible apply Drive.changesOnly.upd <;> try (first | with_reducible exact Or.inr rfl | exact Or.inl (mem_of_contains rfl))))

theorem Drive.conflict_frame (r) (code) (page) (d : Drive) :
    d.changesOnly [.kv, .twin, .ring, .keys, .xp, .port, .meter, .out, .free] (Drive.conflict r code page d) := by
    unfold Drive.conflict
    repeat' (first
      | with_reducible assumption
      | with_reducible exact Drive.changesOnly_refl _ _
      | with_reducible refine Drive.changesOnly.step ?_ (Drive.refuse_frame _ _ _ _ _) (subset_of_all rfl)
      | with_reducible refine Drive.changesOnly.step ?_ (foldl_frame (fun _ _ => ?_) _ _) (List.Subset.refl _)
      | dsimp -zeta only
      | (extract_lets +onlyGivenNames z; first | (refine let_frame (z := z) ?_ ?_; (on_goal 1 => (dsimp only [z])); (on_goal 2 => (intro hz; clear_value z))) | ((have _t : (_ → _) := z); clear _t; (dsimp only [z]; try clear z)) | ((have _t : Wr := z); clear _t; (dsimp only [z]; try clear z)) | ((have _t : _ × Drive := z); clear _t; (dsimp only [z]; try clear z)) | ((have _t : _ × _ × Drive := z); clear _t; (dsimp only [z]; try clear z)) | (clear_value z) | (dsimp only [z]; try clear z))
      | split
      | fail_if_no_progress (with_reducible apply Drive.changesOnly.upd <;> try (first | with_reducible exact Or.inr rfl | exact Or.inl (mem_of_contains rfl))))

theorem Drive.withReq_frame {ps : List Part} {f : Req → Drive → Drive} (hps : [] ⊆ ps) (hf : ∀ y0 (x : Drive), x.changesOnly ps (f y0 x)) (o) (ops) (d : Drive) :
    d.changesOnly ps (Drive.withReq o ops d f) := by
    unfold Drive.withReq
    repeat' (first
      | with_reducible assumption
      | with_reducible exact Drive.changesOnly_refl _ _
      | refine Drive.changesOnly.step ?_ (hf _ _) (List.Subset.refl _)
      | with_reducible refine Drive.changesOnly.step ?_ (foldl_frame (fun _ _ => ?_) _ _) (List.Subset.refl _)
      | dsimp -zeta only
      | (extract_lets +onlyGivenNames z; first | (refine let_frame (z := z) ?_ ?_; (on_goal 1 => (dsimp only [z])); (on_goal 2 => (intro hz; clear_value z))) | ((have _t : (_ → _) := z); clear _t; (dsimp only [z]; try clear z)) | ((have _t : Wr := z); clear _t; (dsimp only [z]; try clear z)) | ((have _t : _ × Drive := z); clear _t; (dsimp only [z]; try clear z)) | ((have _t : _ × _ × Drive := z); clear _t; (dsimp only [z]; try clear z)) | (clear_value z) | (dsimp only [z]; try clear z))
      | split
      | fail_if_no_progress (with_reducible apply Drive.changesOnly.upd <;> try (first | with_reducible exact Or.inr rfl | exact Or.inl (mem_sub hps (mem_of_contains rfl)))))

theorem Drive.setNs_frame (n) (x) (d : Drive) :
    d.changesOnly [.kv] (Drive.setNs n x d) := by
    unfold Drive.setNs
    repeat' (first
      | with_reducible assumption
      | with_reducible exact Drive.changesOnly_refl _ _
      | with_reducible refine Drive.changesOnly.step ?_ (foldl_frame (fun _ _ => ?_) _ _) (List.Subset.refl _)
      | dsimp -zeta only
      | (extract_lets +onlyGivenNames z; first | (refine let_frame (z := z) ?_ ?_; (on_goal 1 => (dsimp only [z])); (on_goal 2 => (intro hz; clear_value z))) | ((have _t : (_ → _) := z); clear _t; (dsimp only [z]; try clear z)) | ((have _t : Wr := z); clear _t; (dsimp only [z]; try clear z)) | ((have _t : _ × Drive := z); clear _t; (dsimp only [z]; try clear z)) | ((have _t : _ × _ × Drive := z); clear _t; (dsimp only [z]; try clear z)) | (clear_value z) | (dsimp only [z]; try clear z))
      | split
      | fail_if_no_progress (with_reducible apply Drive.changesOnly.upd <;> try (first | with_reducible exact Or.inr rfl | exact Or.inl (mem_of_contains rfl))))

theorem Drive.modNs_frame (n) (f) (d : Drive) :
    d.changesOnly [.kv] (Drive.modNs n f d) := by
    unfold Drive.modNs
    repeat' (first
      | with_reducible assumption
      | with_reducible exact Drive.changesOnly_refl _ _
      | with_reducible refine Drive.changesOnly.step ?_ (Drive.setNs_frame _ _ _) (subset_of_all rfl)
      | with_reducible refine Drive.changesOnly.step ?_ (foldl_frame (fun _ _ => ?_) _ _) (List.Subset.refl _)
      | dsimp -zeta only
      | (extract_lets +onlyGivenNames z; first | (refine let_frame (z := z) ?_ ?_; (on_goal 1 => (dsimp only [z])); (on_goal 2 => (intro hz; clear_value z))) | ((have _t : (_ → _) := z); clear _t; (dsimp only [z]; try clear z)) | ((have _t : Wr := z); clear _t; (dsimp only [z]; try clear z)) | ((have _t : _ × Drive := z); clear _t; (dsimp only [z]; try clear z)) | ((have _t : _ × _ × Drive := z); clear _t; (dsimp only [z]; try clear z)) | (clear_value z) | (dsimp only [z]; try clear z))
      | split
      | fail_if_no_progress (with_reducible apply Drive.changesOnly.upd <;> try (first | with_reducible exact Or.inr rfl | exact Or.inl (mem_of_contains rfl))))

theorem Drive.setStslot_frame (i) (s) (d : Drive) :
    d.changesOnly [.keys] (Drive.setStslot i s d) := by
    unfold Drive.setStslot
    repeat' (first
      | with_reducible assumption
      | with_reducible exact Drive.changesOnly_refl _ _
      | with_reducible refine Drive.changesOnly.step ?_ (foldl_frame (fun _ _ => ?_) _ _) (List.Subset.refl _)
      | dsimp -zeta only
      | (extract_lets +onlyGivenNames z; first | (refine let_frame (z := z) ?_ ?_; (on_goal 1 => (dsimp only [z])); (on_goal 2 => (intro hz; clear_value z))) | ((have _t : (_ → _) := z); clear _t; (dsimp only [z]; try clear z)) | ((have _t : Wr := z); clear _t; (dsimp only [z]; try clear z)) | ((have _t : _ × Drive := z); clear _t; (dsimp only [z]; try clear z)) | ((have _t : _ × _ × Drive := z); clear _t; (dsimp only [z]; try clear z)) | (clear_value z) | (dsimp only [z]; try clear z))
      | split
      | fail_if_no_progress (with_reducible apply Drive.changesOnly.upd <;> try (first | with_reducible exact Or.inr rfl | exact Or.inl (mem_of_contains rfl))))

theorem Drive.twinDone_frame (opId) (d : Drive) :
    d.changesOnly [.twin] (Drive.twinDone opId d) := by
    unfold Drive.twinDone
    repeat' (first
      | with_reducible assumption
      | with_reducible exact Drive.changesOnly_refl _ _
      | with_reducible refine Drive.changesOnly.step ?_ (foldl_frame (fun _ _ => ?_) _ _) (List.Subset.refl _)
      | dsimp -zeta only
      | (extract_lets +onlyGivenNames z; first | (refine let_frame (z := z) ?_ ?_; (on_goal 1 => (dsimp only [z])); (on_goal 2 => (intro hz; clear_value z))) | ((have _t : (_ → _) := z); clear _t; (dsimp only [z]; try clear z)) | ((have _t : Wr := z); clear _t; (dsimp only [z]; try clear z)) | ((have _t : _ × Drive := z); clear _t; (dsimp only [z]; try clear z)) | ((have _t : _ × _ × Drive := z); clear _t; (dsimp only [z]; try clear z)) | (clear_value z) | (dsimp only [z]; try clear z))
      | split
      | fail_if_no_progress (with_reducible apply Drive.changesOnly.upd <;> try (first | with_reducible exact Or.inr rfl | exact Or.inl (mem_of_contains rfl))))

theorem Drive.setDie_frame (n) (o) (d : Drive) :
    d.changesOnly [.media] (Drive.setDie n o d) := by
    unfold Drive.setDie
    repeat' (first
      | with_reducible assumption
      | with_reducible exact Drive.changesOnly_refl _ _
      | with_reducible refine Drive.changesOnly.step ?_ (foldl_frame (fun _ _ => ?_) _ _) (List.Subset.refl _)
      | dsimp -zeta only
      | (extract_lets +onlyGivenNames z; first | (refine let_frame (z := z) ?_ ?_; (on_goal 1 => (dsimp only [z])); (on_goal 2 => (intro hz; clear_value z))) | ((have _t : (_ → _) := z); clear _t; (dsimp only [z]; try clear z)) | ((have _t : Wr := z); clear _t; (dsimp only [z]; try clear z)) | ((have _t : _ × Drive := z); clear _t; (dsimp only [z]; try clear z)) | ((have _t : _ × _ × Drive := z); clear _t; (dsimp only [z]; try clear z)) | (clear_value z) | (dsimp only [z]; try clear z))
      | split
      | fail_if_no_progress (with_reducible apply Drive.changesOnly.upd <;> try (first | with_reducible exact Or.inr rfl | exact Or.inl (mem_of_contains rfl))))

theorem Drive.beginBusy_frame (n) (o) (d : Drive) :
    d.changesOnly [.media] (Drive.beginBusy n o d) := by
    unfold Drive.beginBusy
    repeat' (first
      | with_reducible assumption
      | with_reducible exact Drive.changesOnly_refl _ _
      | with_reducible refine Drive.changesOnly.step ?_ (Drive.setDie_frame _ _ _) (subset_of_all rfl)
      | with_reducible refine Drive.changesOnly.step ?_ (foldl_frame (fun _ _ => ?_) _ _) (List.Subset.refl _)
      | dsimp -zeta only
      | (extract_lets +onlyGivenNames z; first | (refine let_frame (z := z) ?_ ?_; (on_goal 1 => (dsimp only [z])); (on_goal 2 => (intro hz; clear_value z))) | ((have _t : (_ → _) := z); clear _t; (dsimp only [z]; try clear z)) | ((have _t : Wr := z); clear _t; (dsimp only [z]; try clear z)) | ((have _t : _ × Drive := z); clear _t; (dsimp only [z]; try clear z)) | ((have _t : _ × _ × Drive := z); clear _t; (dsimp only [z]; try clear z)) | (clear_value z) | (dsimp only [z]; try clear z))
      | split
      | fail_if_no_progress (with_reducible apply Drive.changesOnly.upd <;> try (first | with_reducible exact Or.inr rfl | exact Or.inl (mem_of_contains rfl))))

theorem Drive.resumeDie_frame (n) (d : Drive) :
    d.changesOnly [.media] (Drive.resumeDie n d) := by
    unfold Drive.resumeDie
    repeat' (first
      | with_reducible assumption
      | with_reducible exact Drive.changesOnly_refl _ _
      | with_reducible refine Drive.changesOnly.step ?_ (Drive.beginBusy_frame _ _ _) (subset_of_all rfl)
      | with_reducible refine Drive.changesOnly.step ?_ (Drive.setDie_frame _ _ _) (subset_of_all rfl)
      | with_reducible refine Drive.changesOnly.step ?_ (foldl_frame (fun _ _ => ?_) _ _) (List.Subset.refl _)
      | dsimp -zeta only
      | (extract_lets +onlyGivenNames z; first | (refine let_frame (z := z) ?_ ?_; (on_goal 1 => (dsimp only [z])); (on_goal 2 => (intro hz; clear_value z))) | ((have _t : (_ → _) := z); clear _t; (dsimp only [z]; try clear z)) | ((have _t : Wr := z); clear _t; (dsimp only [z]; try clear z)) | ((have _t : _ × Drive := z); clear _t; (dsimp only [z]; try clear z)) | ((have _t : _ × _ × Drive := z); clear _t; (dsimp only [z]; try clear z)) | (clear_value z) | (dsimp only [z]; try clear z))
      | split
      | fail_if_no_progress (with_reducible apply Drive.changesOnly.upd <;> try (first | with_reducible exact Or.inr rfl | exact Or.inl (mem_of_contains rfl))))

theorem Drive.cancelReads_frame (o) (d : Drive) :
    d.changesOnly [.media] (Drive.cancelReads o d) := by
    unfold Drive.cancelReads
    repeat' (first
      | with_reducible assumption
      | with_reducible exact Drive.changesOnly_refl _ _
      | with_reducible refine Drive.changesOnly.step ?_ (Drive.resumeDie_frame _ _) (subset_of_all rfl)
      | with_reducible refine Drive.changesOnly.step ?_ (foldl_frame (fun _ _ => ?_) _ _) (List.Subset.refl _)
      | dsimp -zeta only
      | (extract_lets +onlyGivenNames z; first | (refine let_frame (z := z) ?_ ?_; (on_goal 1 => (dsimp only [z])); (on_goal 2 => (intro hz; clear_value z))) | ((have _t : (_ → _) := z); clear _t; (dsimp only [z]; try clear z)) | ((have _t : Wr := z); clear _t; (dsimp only [z]; try clear z)) | ((have _t : _ × Drive := z); clear _t; (dsimp only [z]; try clear z)) | ((have _t : _ × _ × Drive := z); clear _t; (dsimp only [z]; try clear z)) | (clear_value z) | (dsimp only [z]; try clear z))
      | split
      | fail_if_no_progress (with_reducible apply Drive.changesOnly.upd <;> try (first | with_reducible exact Or.inr rfl | exact Or.inl (mem_of_contains rfl))))

theorem Drive.startReads_frame (n) (d : Drive) :
    d.changesOnly [.media] (Drive.startReads n d) := by
    unfold Drive.startReads
    repeat' (first
      | with_reducible assumption
      | with_reducible exact Drive.changesOnly_refl _ _
      | with_reducible refine Drive.changesOnly.step ?_ (foldl_frame (fun _ _ => ?_) _ _) (List.Subset.refl _)
      | dsimp -zeta only
      | (extract_lets +onlyGivenNames z; first | (refine let_frame (z := z) ?_ ?_; (on_goal 1 => (dsimp only [z])); (on_goal 2 => (intro hz; clear_value z))) | ((have _t : (_ → _) := z); clear _t; (dsimp only [z]; try clear z)) | ((have _t : Wr := z); clear _t; (dsimp only [z]; try clear z)) | ((have _t : _ × Drive := z); clear _t; (dsimp only [z]; try clear z)) | ((have _t : _ × _ × Drive := z); clear _t; (dsimp only [z]; try clear z)) | (clear_value z) | (dsimp only [z]; try clear z))
      | split
      | fail_if_no_progress (with_reducible apply Drive.changesOnly.upd <;> try (first | with_reducible exact Or.inr rfl | exact Or.inl (mem_of_contains rfl))))

theorem Drive.serveDie_frame (n) (d : Drive) :
    d.changesOnly [.media] (Drive.serveDie n d) := by
    unfold Drive.serveDie
    repeat' (first
      | with_reducible assumption
      | with_reducible exact Drive.changesOnly_refl _ _
      | with_reducible refine Drive.changesOnly.step ?_ (Drive.setDie_frame _ _ _) (subset_of_all rfl)
      | with_reducible refine Drive.changesOnly.step ?_ (Drive.startReads_frame _ _) (subset_of_all rfl)
      | with_reducible refine Drive.changesOnly.step ?_ (foldl_frame (fun _ _ => ?_) _ _) (List.Subset.refl _)
      | dsimp -zeta only
      | (extract_lets +onlyGivenNames z; first | (refine let_frame (z := z) ?_ ?_; (on_goal 1 => (dsimp only [z])); (on_goal 2 => (intro hz; clear_value z))) | ((have _t : (_ → _) := z); clear _t; (dsimp only [z]; try clear z)) | ((have _t : Wr := z); clear _t; (dsimp only [z]; try clear z)) | ((have _t : _ × Drive := z); clear _t; (dsimp only [z]; try clear z)) | ((have _t : _ × _ × Drive := z); clear _t; (dsimp only [z]; try clear z)) | (clear_value z) | (dsimp only [z]; try clear z))
      | split
      | fail_if_no_progress (with_reducible apply Drive.changesOnly.upd <;> try (first | with_reducible exact Or.inr rfl | exact Or.inl (mem_of_contains rfl))))

theorem Drive.queueRead_frame (j) (d : Drive) :
    d.changesOnly [.media] (Drive.queueRead j d) := by
    unfold Drive.queueRead
    repeat' (first
      | with_reducible assumption
      | with_reducible exact Drive.changesOnly_refl _ _
      | with_reducible refine Drive.changesOnly.step ?_ (Drive.serveDie_frame _ _) (subset_of_all rfl)
      | with_reducible refine Drive.changesOnly.step ?_ (foldl_frame (fun _ _ => ?_) _ _) (List.Subset.refl _)
      | dsimp -zeta only
      | (extract_lets +onlyGivenNames z; first | (refine let_frame (z := z) ?_ ?_; (on_goal 1 => (dsimp only [z])); (on_goal 2 => (intro hz; clear_value z))) | ((have _t : (_ → _) := z); clear _t; (dsimp only [z]; try clear z)) | ((have _t : Wr := z); clear _t; (dsimp only [z]; try clear z)) | ((have _t : _ × Drive := z); clear _t; (dsimp only [z]; try clear z)) | ((have _t : _ × _ × Drive := z); clear _t; (dsimp only [z]; try clear z)) | (clear_value z) | (dsimp only [z]; try clear z))
      | split
      | fail_if_no_progress (with_reducible apply Drive.changesOnly.upd <;> try (first | with_reducible exact Or.inr rfl | exact Or.inl (mem_of_contains rfl))))

theorem Drive.reconRoll_frame (d : Drive) :
    d.changesOnly [.media] (Drive.reconRoll d) := by
    unfold Drive.reconRoll
    repeat' (first
      | with_reducible assumption
      | with_reducible exact Drive.changesOnly_refl _ _
      | with_reducible refine Drive.changesOnly.step ?_ (foldl_frame (fun _ _ => ?_) _ _) (List.Subset.refl _)
      | dsimp -zeta only
      | (extract_lets +onlyGivenNames z; first | (refine let_frame (z := z) ?_ ?_; (on_goal 1 => (dsimp only [z])); (on_goal 2 => (intro hz; clear_value z))) | ((have _t : (_ → _) := z); clear _t; (dsimp only [z]; try clear z)) | ((have _t : Wr := z); clear _t; (dsimp only [z]; try clear z)) | ((have _t : _ × Drive := z); clear _t; (dsimp only [z]; try clear z)) | ((have _t : _ × _ × Drive := z); clear _t; (dsimp only [z]; try clear z)) | (clear_value z) | (dsimp only [z]; try clear z))
      | split
      | fail_if_no_progress (with_reducible apply Drive.changesOnly.upd <;> try (first | with_reducible exact Or.inr rfl | exact Or.inl (mem_of_contains rfl))))

theorem Drive.reconCount_frame (n) (d : Drive) :
    d.changesOnly [.media] (Drive.reconCount n d) := by
    unfold Drive.reconCount
    repeat' (first
      | with_reducible assumption
      | with_reducible exact Drive.changesOnly_refl _ _
      | with_reducible refine Drive.changesOnly.step ?_ (Drive.reconRoll_frame _) (subset_of_all rfl)
      | with_reducible refine Drive.changesOnly.step ?_ (foldl_frame (fun _ _ => ?_) _ _) (List.Subset.refl _)
      | dsimp -zeta only
      | (extract_lets +onlyGivenNames z; first | (refine let_frame (z := z) ?_ ?_; (on_goal 1 => (dsimp only [z])); (on_goal 2 => (intro hz; clear_value z))) | ((have _t : (_ → _) := z); clear _t; (dsimp only [z]; try clear z)) | ((have _t : Wr := z); clear _t; (dsimp only [z]; try clear z)) | ((have _t : _ × Drive := z); clear _t; (dsimp only [z]; try clear z)) | ((have _t : _ × _ × Drive := z); clear _t; (dsimp only [z]; try clear z)) | (clear_value z) | (dsimp only [z]; try clear z))
      | split
      | fail_if_no_progress (with_reducible apply Drive.changesOnly.upd <;> try (first | with_reducible exact Or.inr rfl | exact Or.inl (mem_of_contains rfl))))

theorem Drive.beginRebuild_frame (why) (j) (d : Drive) :
    d.changesOnly [.media] (Drive.beginRebuild why j d) := by
    unfold Drive.beginRebuild
    repeat' (first
      | with_reducible assumption
      | with_reducible exact Drive.changesOnly_refl _ _
      | with_reducible refine Drive.changesOnly.step ?_ (Drive.queueRead_frame _ _) (subset_of_all rfl)
      | with_reducible refine Drive.changesOnly.step ?_ (Drive.reconCount_frame _ _) (subset_of_all rfl)
      | with_reducible refine Drive.changesOnly.step ?_ (foldl_frame (fun _ _ => ?_) _ _) (List.Subset.refl _)
      | dsimp -zeta only
      | (extract_lets +onlyGivenNames z; first | (refine let_frame (z := z) ?_ ?_; (on_goal 1 => (dsimp only [z])); (on_goal 2 => (intro hz; clear_value z))) | ((have _t : (_ → _) := z); clear _t; (dsimp only [z]; try clear z)) | ((have _t : Wr := z); clear _t; (dsimp only [z]; try clear z)) | ((have _t : _ × Drive := z); clear _t; (dsimp only [z]; try clear z)) | ((have _t : _ × _ × Drive := z); clear _t; (dsimp only [z]; try clear z)) | (clear_value z) | (dsimp only [z]; try clear z))
      | split
      | fail_if_no_progress (with_reducible apply Drive.changesOnly.upd <;> try (first | with_reducible exact Or.inr rfl | exact Or.inl (mem_of_contains rfl))))

theorem Drive.issueRead_frame (j) (d : Drive) :
    d.changesOnly [.media] (Drive.issueRead j d) := by
    unfold Drive.issueRead
    repeat' (first
      | with_reducible assumption
      | with_reducible exact Drive.changesOnly_refl _ _
      | with_reducible refine Drive.changesOnly.step ?_ (Drive.beginRebuild_frame _ _ _) (subset_of_all rfl)
      | with_reducible refine Drive.changesOnly.step ?_ (Drive.queueRead_frame _ _) (subset_of_all rfl)
      | with_reducible refine Drive.changesOnly.step ?_ (Drive.reconRoll_frame _) (subset_of_all rfl)
      | with_reducible refine Drive.changesOnly.step ?_ (foldl_frame (fun _ _ => ?_) _ _) (List.Subset.refl _)
      | dsimp -zeta only
      | (extract_lets +onlyGivenNames z; first | (refine let_frame (z := z) ?_ ?_; (on_goal 1 => (dsimp only [z])); (on_goal 2 => (intro hz; clear_value z))) | ((have _t : (_ → _) := z); clear _t; (dsimp only [z]; try clear z)) | ((have _t : Wr := z); clear _t; (dsimp only [z]; try clear z)) | ((have _t : _ × Drive := z); clear _t; (dsimp only [z]; try clear z)) | ((have _t : _ × _ × Drive := z); clear _t; (dsimp only [z]; try clear z)) | (clear_value z) | (dsimp only [z]; try clear z))
      | split
      | fail_if_no_progress (with_reducible apply Drive.changesOnly.upd <;> try (first | with_reducible exact Or.inr rfl | exact Or.inl (mem_of_contains rfl))))

theorem Drive.dirWatch_frame (d : Drive) :
    d.changesOnly [.kv, .keys, .xp, .port, .rec_, .meter, .flag, .out] (Drive.dirWatch d) := by
    unfold Drive.dirWatch
    repeat' (first
      | with_reducible assumption
      | with_reducible exact Drive.changesOnly_refl _ _
      | with_reducible refine Drive.changesOnly.step ?_ (Drive.event_frame _ _ _ _ _) (subset_of_all rfl)
      | with_reducible refine Drive.changesOnly.step ?_ (foldl_frame (fun _ _ => ?_) _ _) (List.Subset.refl _)
      | dsimp -zeta only
      | (extract_lets +onlyGivenNames z; first | (refine let_frame (z := z) ?_ ?_; (on_goal 1 => (dsimp only [z])); (on_goal 2 => (intro hz; clear_value z))) | ((have _t : (_ → _) := z); clear _t; (dsimp only [z]; try clear z)) | ((have _t : Wr := z); clear _t; (dsimp only [z]; try clear z)) | ((have _t : _ × Drive := z); clear _t; (dsimp only [z]; try clear z)) | ((have _t : _ × _ × Drive := z); clear _t; (dsimp only [z]; try clear z)) | (clear_value z) | (dsimp only [z]; try clear z))
      | split
      | fail_if_no_progress (with_reducible apply Drive.changesOnly.upd <;> try (first | with_reducible exact Or.inr rfl | exact Or.inl (mem_of_contains rfl))))

theorem Drive.delta_frame (x) (d : Drive) :
    d.changesOnly [.media] (Drive.delta x d) := by
    unfold Drive.delta
    repeat' (first
      | with_reducible assumption
      | with_reducible exact Drive.changesOnly_refl _ _
      | with_reducible refine Drive.changesOnly.step ?_ (foldl_frame (fun _ _ => ?_) _ _) (List.Subset.refl _)
      | dsimp -zeta only
      | (extract_lets +onlyGivenNames z; first | (refine let_frame (z := z) ?_ ?_; (on_goal 1 => (dsimp only [z])); (on_goal 2 => (intro hz; clear_value z))) | ((have _t : (_ → _) := z); clear _t; (dsimp only [z]; try clear z)) | ((have _t : Wr := z); clear _t; (dsimp only [z]; try clear z)) | ((have _t : _ × Drive := z); clear _t; (dsimp only [z]; try clear z)) | ((have _t : _ × _ × Drive := z); clear _t; (dsimp only [z]; try clear z)) | (clear_value z) | (dsimp only [z]; try clear z))
      | split
      | fail_if_no_progress (with_reducible apply Drive.changesOnly.upd <;> try (first | with_reducible exact Or.inr rfl | exact Or.inl (mem_of_contains rfl))))

theorem Drive.fwdRemoved_frame (l) (d : Drive) :
    d.changesOnly [.media] (Drive.fwdRemoved l d) := by
    unfold Drive.fwdRemoved
    repeat' (first
      | with_reducible assumption
      | with_reducible exact Drive.changesOnly_refl _ _
      | with_reducible refine Drive.changesOnly.step ?_ (Drive.delta_frame _ _) (subset_of_all rfl)
      | with_reducible refine Drive.changesOnly.step ?_ (foldl_frame (fun _ _ => ?_) _ _) (List.Subset.refl _)
      | dsimp -zeta only
      | (extract_lets +onlyGivenNames z; first | (refine let_frame (z := z) ?_ ?_; (on_goal 1 => (dsimp only [z])); (on_goal 2 => (intro hz; clear_value z))) | ((have _t : (_ → _) := z); clear _t; (dsimp only [z]; try clear z)) | ((have _t : Wr := z); clear _t; (dsimp only [z]; try clear z)) | ((have _t : _ × Drive := z); clear _t; (dsimp only [z]; try clear z)) | ((have _t : _ × _ × Drive := z); clear _t; (dsimp only [z]; try clear z)) | (clear_value z) | (dsimp only [z]; try clear z))
      | split
      | fail_if_no_progress (with_reducible apply Drive.changesOnly.upd <;> try (first | with_reducible exact Or.inr rfl | exact Or.inl (mem_of_contains rfl))))

theorem Drive.newOpId_frame (d : Drive) :
    d.changesOnly [.twin] (Drive.newOpId d).2 := by
    unfold Drive.newOpId
    repeat' (first
      | with_reducible assumption
      | with_reducible exact Drive.changesOnly_refl _ _
      | with_reducible refine Drive.changesOnly.step ?_ (foldl_frame (fun _ _ => ?_) _ _) (List.Subset.refl _)
      | dsimp -zeta only
      | (extract_lets +onlyGivenNames z; first | (refine let_frame (z := z) ?_ ?_; (on_goal 1 => (dsimp only [z])); (on_goal 2 => (intro hz; clear_value z))) | ((have _t : (_ → _) := z); clear _t; (dsimp only [z]; try clear z)) | ((have _t : Wr := z); clear _t; (dsimp only [z]; try clear z)) | ((have _t : _ × Drive := z); clear _t; (dsimp only [z]; try clear z)) | ((have _t : _ × _ × Drive := z); clear _t; (dsimp only [z]; try clear z)) | (clear_value z) | (dsimp only [z]; try clear z))
      | split
      | fail_if_no_progress (with_reducible apply Drive.changesOnly.upd <;> try (first | with_reducible exact Or.inr rfl | exact Or.inl (mem_of_contains rfl))))

theorem Drive.putReq_frame (r) (d : Drive) :
    d.changesOnly [.kv] (Drive.putReq r d) := by
    unfold Drive.putReq
    repeat' (first
      | with_reducible assumption
      | with_reducible exact Drive.changesOnly_refl _ _
      | with_reducible refine Drive.changesOnly.step ?_ (foldl_frame (fun _ _ => ?_) _ _) (List.Subset.refl _)
      | dsimp -zeta only
      | (extract_lets +onlyGivenNames z; first | (refine let_frame (z := z) ?_ ?_; (on_goal 1 => (dsimp only [z])); (on_goal 2 => (intro hz; clear_value z))) | ((have _t : (_ → _) := z); clear _t; (dsimp only [z]; try clear z)) | ((have _t : Wr := z); clear _t; (dsimp only [z]; try clear z)) | ((have _t : _ × Drive := z); clear _t; (dsimp only [z]; try clear z)) | ((have _t : _ × _ × Drive := z); clear _t; (dsimp only [z]; try clear z)) | (clear_value z) | (dsimp only [z]; try clear z))
      | split
      | fail_if_no_progress (with_reducible apply Drive.changesOnly.upd <;> try (first | with_reducible exact Or.inr rfl | exact Or.inl (mem_of_contains rfl))))

theorem Drive.entryFor_frame (nsId) (key) (t) (d : Drive) :
    d.changesOnly [.kv, .keys, .xp, .port, .rec_, .meter, .flag, .out] (Drive.entryFor nsId key t d).2 := by
    unfold Drive.entryFor
    repeat' (first
      | with_reducible assumption
      | with_reducible exact Drive.changesOnly_refl _ _
      | with_reducible refine Drive.changesOnly.step ?_ (Drive.event_frame _ _ _ _ _) (subset_of_all rfl)
      | with_reducible refine Drive.changesOnly.step ?_ (foldl_frame (fun _ _ => ?_) _ _) (List.Subset.refl _)
      | dsimp -zeta only
      | (extract_lets +onlyGivenNames z; first | (refine let_frame (z := z) ?_ ?_; (on_goal 1 => (dsimp only [z])); (on_goal 2 => (intro hz; clear_value z))) | ((have _t : (_ → _) := z); clear _t; (dsimp only [z]; try clear z)) | ((have _t : Wr := z); clear _t; (dsimp only [z]; try clear z)) | ((have _t : _ × Drive := z); clear _t; (dsimp only [z]; try clear z)) | ((have _t : _ × _ × Drive := z); clear _t; (dsimp only [z]; try clear z)) | (clear_value z) | (dsimp only [z]; try clear z))
      | split
      | fail_if_no_progress (with_reducible apply Drive.changesOnly.upd <;> try (first | with_reducible exact Or.inr rfl | exact Or.inl (mem_of_contains rfl))))

theorem Drive.reserveTicks_frame (d : Drive) :
    d.changesOnly [.media, .twin] (Drive.reserveTicks d) := by
    unfold Drive.reserveTicks
    repeat' (first
      | with_reducible assumption
      | with_reducible exact Drive.changesOnly_refl _ _
      | with_reducible refine Drive.changesOnly.step ?_ (Drive.delta_frame _ _) (subset_of_all rfl)
      | with_reducible refine Drive.changesOnly.step ?_ (foldl_frame (fun _ _ => ?_) _ _) (List.Subset.refl _)
      | dsimp -zeta only
      | (extract_lets +onlyGivenNames z; first | (refine let_frame (z := z) ?_ ?_; (on_goal 1 => (dsimp only [z])); (on_goal 2 => (intro hz; clear_value z))) | ((have _t : (_ → _) := z); clear _t; (dsimp only [z]; try clear z)) | ((have _t : Wr := z); clear _t; (dsimp only [z]; try clear z)) | ((have _t : _ × Drive := z); clear _t; (dsimp only [z]; try clear z)) | ((have _t : _ × _ × Drive := z); clear _t; (dsimp only [z]; try clear z)) | (clear_value z) | (dsimp only [z]; try clear z))
      | split
      | fail_if_no_progress (with_reducible apply Drive.changesOnly.upd <;> try (first | with_reducible exact Or.inr rfl | exact Or.inl (mem_of_contains rfl))))

theorem Drive.assign_frame (input) (d : Drive) :
    d.changesOnly [.kv, .media, .twin, .time] (Drive.assign input d).2 := by
    unfold Drive.assign
    repeat' (first
      | with_reducible assumption
      | with_reducible exact Drive.changesOnly_refl _ _
      | with_reducible refine Drive.changesOnly.step ?_ (Drive.advanceTo_frame _ _) (subset_of_all rfl)
      | with_reducible refine Drive.changesOnly.step ?_ (Drive.reserveTicks_frame _) (subset_of_all rfl)
      | with_reducible refine Drive.changesOnly.step ?_ (foldl_frame (fun _ _ => ?_) _ _) (List.Subset.refl _)
      | dsimp -zeta only
      | (extract_lets +onlyGivenNames z; first | (refine let_frame (z := z) ?_ ?_; (on_goal 1 => (dsimp only [z])); (on_goal 2 => (intro hz; clear_value z))) | ((have _t : (_ → _) := z); clear _t; (dsimp only [z]; try clear z)) | ((have _t : Wr := z); clear _t; (dsimp only [z]; try clear z)) | ((have _t : _ × Drive := z); clear _t; (dsimp only [z]; try clear z)) | ((have _t : _ × _ × Drive := z); clear _t; (dsimp only [z]; try clear z)) | (clear_value z) | (dsimp only [z]; try clear z))
      | split
      | fail_if_no_progress (with_reducible apply Drive.changesOnly.upd <;> try (first | with_reducible exact Or.inr rfl | exact Or.inl (mem_of_contains rfl))))

theorem Drive.drawNonce_frame (t) (d : Drive) {xr} {er : Drive} (hr : Drive.drawNonce t d = some (xr, er)) :
    d.changesOnly [.media, .keys, .xp, .port, .rec_, .meter, .flag, .out] er := by
    unfold Drive.drawNonce at hr
    repeat' (first | (split at hr) | (dsimp only at hr))
    all_goals (first | cases hr | skip)
    repeat' (first
      | with_reducible assumption
      | with_reducible exact Drive.changesOnly_refl _ _
      | with_reducible refine Drive.changesOnly.step ?_ (Drive.delta_frame _ _) (subset_of_all rfl)
      | with_reducible refine Drive.changesOnly.step ?_ (Drive.event_frame _ _ _ _ _) (subset_of_all rfl)
      | with_reducible refine Drive.changesOnly.step ?_ (Drive.setStslot_frame _ _ _) (subset_of_all rfl)
      | with_reducible refine Drive.changesOnly.step ?_ (foldl_frame (fun _ _ => ?_) _ _) (List.Subset.refl _)
      | dsimp -zeta only
      | (extract_lets +onlyGivenNames z; first | (refine let_frame (z := z) ?_ ?_; (on_goal 1 => (dsimp only [z])); (on_goal 2 => (intro hz; clear_value z))) | ((have _t : (_ → _) := z); clear _t; (dsimp only [z]; try clear z)) | ((have _t : Wr := z); clear _t; (dsimp only [z]; try clear z)) | ((have _t : _ × Drive := z); clear _t; (dsimp only [z]; try clear z)) | ((have _t : _ × _ × Drive := z); clear _t; (dsimp only [z]; try clear z)) | (clear_value z) | (dsimp only [z]; try clear z))
      | split
      | fail_if_no_progress (with_reducible apply Drive.changesOnly.upd <;> try (first | with_reducible exact Or.inr rfl | exact Or.inl (mem_of_contains rfl))))

theorem Drive.setSb_frame (n) (s) (d : Drive) :
    d.changesOnly [.media] (Drive.setSb n s d) := by
    unfold Drive.setSb
    repeat' (first
      | with_reducible assumption
      | with_reducible exact Drive.changesOnly_refl _ _
      | with_reducible refine Drive.changesOnly.step ?_ (foldl_frame (fun _ _ => ?_) _ _) (List.Subset.refl _)
      | dsimp -zeta only
      | (extract_lets +onlyGivenNames z; first | (refine let_frame (z := z) ?_ ?_; (on_goal 1 => (dsimp only [z])); (on_goal 2 => (intro hz; clear_value z))) | ((have _t : (_ → _) := z); clear _t; (dsimp only [z]; try clear z)) | ((have _t : Wr := z); clear _t; (dsimp only [z]; try clear z)) | ((have _t : _ × Drive := z); clear _t; (dsimp only [z]; try clear z)) | ((have _t : _ × _ × Drive := z); clear _t; (dsimp only [z]; try clear z)) | (clear_value z) | (dsimp only [z]; try clear z))
      | split
      | fail_if_no_progress (with_reducible apply Drive.changesOnly.upd <;> try (first | with_reducible exact Or.inr rfl | exact Or.inl (mem_of_contains rfl))))

theorem Drive.modSb_frame (n) (f) (d : Drive) :
    d.changesOnly [.media] (Drive.modSb n f d) := by
    unfold Drive.modSb
    repeat' (first
      | with_reducible assumption
      | with_reducible exact Drive.changesOnly_refl _ _
      | with_reducible refine Drive.changesOnly.step ?_ (Drive.setSb_frame _ _ _) (subset_of_all rfl)
      | with_reducible refine Drive.changesOnly.step ?_ (foldl_frame (fun _ _ => ?_) _ _) (List.Subset.refl _)
      | dsimp -zeta only
      | (extract_lets +onlyGivenNames z; first | (refine let_frame (z := z) ?_ ?_; (on_goal 1 => (dsimp only [z])); (on_goal 2 => (intro hz; clear_value z))) | ((have _t : (_ → _) := z); clear _t; (dsimp only [z]; try clear z)) | ((have _t : Wr := z); clear _t; (dsimp only [z]; try clear z)) | ((have _t : _ × Drive := z); clear _t; (dsimp only [z]; try clear z)) | ((have _t : _ × _ × Drive := z); clear _t; (dsimp only [z]; try clear z)) | (clear_value z) | (dsimp only [z]; try clear z))
      | split
      | fail_if_no_progress (with_reducible apply Drive.changesOnly.upd <;> try (first | with_reducible exact Or.inr rfl | exact Or.inl (mem_of_contains rfl))))

theorem Drive.nextSbSeq_frame (d : Drive) :
    d.changesOnly [.media] (Drive.nextSbSeq d).2 := by
    unfold Drive.nextSbSeq
    by_cases h : d.media.sbSeqNext < d.media.sbSeqReserved
    · simp only [h, if_true]
      with_reducible apply Drive.changesOnly.upd <;> try (first | with_reducible exact Or.inr rfl | exact Or.inl (mem_of_contains rfl))
      exact Drive.changesOnly_refl _ _
    · simp only [h, if_false, Drive.delta]
      refine ⟨?_⟩
      simp [Drive.mask]

theorem Drive.openSb_frame (stream) (slc) (d : Drive) {xr} {er : Drive} (hr : Drive.openSb stream slc d = some (xr, er)) :
    d.changesOnly [.media] er := by
    unfold Drive.openSb at hr
    split at hr
    · cases hr
    · rw [Option.map_eq_some_iff] at hr
      obtain ⟨e, he, hr⟩ := hr
      obtain ⟨-, rfl⟩ := hr
      refine Drive.changesOnly.step ?_ (Drive.setSb_frame _ _ _) (subset_of_all rfl)
      exact (Drive.nextSbSeq_frame _)

theorem Drive.wasBusy_frame (d : Drive) :
    d.changesOnly [.power] (Drive.wasBusy d) := by
    unfold Drive.wasBusy
    repeat' (first
      | with_reducible assumption
      | with_reducible exact Drive.changesOnly_refl _ _
      | with_reducible refine Drive.changesOnly.step ?_ (foldl_frame (fun _ _ => ?_) _ _) (List.Subset.refl _)
      | dsimp -zeta only
      | (extract_lets +onlyGivenNames z; first | (refine let_frame (z := z) ?_ ?_; (on_goal 1 => (dsimp only [z])); (on_goal 2 => (intro hz; clear_value z))) | ((have _t : (_ → _) := z); clear _t; (dsimp only [z]; try clear z)) | ((have _t : Wr := z); clear _t; (dsimp only [z]; try clear z)) | ((have _t : _ × Drive := z); clear _t; (dsimp only [z]; try clear z)) | ((have _t : _ × _ × Drive := z); clear _t; (dsimp only [z]; try clear z)) | (clear_value z) | (dsimp only [z]; try clear z))
      | split
      | fail_if_no_progress (with_reducible apply Drive.changesOnly.upd <;> try (first | with_reducible exact Or.inr rfl | exact Or.inl (mem_of_contains rfl))))

theorem Drive.closeFull_frame (stream) (slc) (g) (d : Drive) :
    d.changesOnly [.media] (Drive.closeFull stream slc g d) := by
    unfold Drive.closeFull
    repeat' (first
      | with_reducible assumption
      | with_reducible exact Drive.changesOnly_refl _ _
      | with_reducible refine Drive.changesOnly.step ?_ (foldl_frame (fun _ _ => ?_) _ _) (List.Subset.refl _)
      | dsimp -zeta only
      | (extract_lets +onlyGivenNames z; first | (refine let_frame (z := z) ?_ ?_; (on_goal 1 => (dsimp only [z])); (on_goal 2 => (intro hz; clear_value z))) | ((have _t : (_ → _) := z); clear _t; (dsimp only [z]; try clear z)) | ((have _t : Wr := z); clear _t; (dsimp only [z]; try clear z)) | ((have _t : _ × Drive := z); clear _t; (dsimp only [z]; try clear z)) | ((have _t : _ × _ × Drive := z); clear _t; (dsimp only [z]; try clear z)) | (clear_value z) | (dsimp only [z]; try clear z))
      | split
      | fail_if_no_progress (with_reducible apply Drive.changesOnly.upd <;> try (first | with_reducible exact Or.inr rfl | exact Or.inl (mem_of_contains rfl))))

theorem Drive.allocate_frame (stream) (slc) (g) (d : Drive) {xr} {er : Drive} (hr : Drive.allocate stream slc g d = some (xr, er)) :
    d.changesOnly [.media] er := by
    unfold Drive.allocate at hr
    split at hr
    · cases hr
      exact Drive.modSb_frame _ _ _
    · rw [Option.map_eq_some_iff] at hr
      obtain ⟨⟨e, e'⟩, he, hr⟩ := hr
      obtain ⟨-, rfl⟩ := hr
      refine Drive.changesOnly.step ?_ (Drive.modSb_frame _ _ _) (subset_of_all rfl)
      exact (Drive.closeFull_frame _ _ _ _).step (Drive.openSb_frame _ _ _ he) (subset_of_all rfl)

theorem startAll_frame (l) (d : Drive) :
    d.changesOnly [.media] (startAll l d) := by
    induction l generalizing d with
    | nil =>
      unfold startAll
      repeat' (first
            | with_reducible assumption
            | with_reducible exact Drive.changesOnly_refl _ _
            | with_reducible refine Drive.changesOnly.step ?_ (Drive.startReads_frame _ _) (subset_of_all rfl)
            | with_reducible refine Drive.changesOnly.step ?_ (foldl_frame (fun _ _ => ?_) _ _) (List.Subset.refl _)
            | dsimp -zeta only
            | (extract_lets +onlyGivenNames z; first | (refine let_frame (z := z) ?_ ?_; (on_goal 1 => (dsimp only [z])); (on_goal 2 => (intro hz; clear_value z))) | ((have _t : (_ → _) := z); clear _t; (dsimp only [z]; try clear z)) | ((have _t : Wr := z); clear _t; (dsimp only [z]; try clear z)) | ((have _t : _ × Drive := z); clear _t; (dsimp only [z]; try clear z)) | ((have _t : _ × _ × Drive := z); clear _t; (dsimp only [z]; try clear z)) | (clear_value z) | (dsimp only [z]; try clear z))
            | split
            | fail_if_no_progress (with_reducible apply Drive.changesOnly.upd <;> try (first | with_reducible exact Or.inr rfl | exact Or.inl (mem_of_contains rfl))))
    | cons y l ih =>
      unfold startAll
      repeat' (first
            | with_reducible refine Drive.changesOnly.step ?_ (ih _) (List.Subset.refl _)
            | with_reducible assumption
            | with_reducible exact Drive.changesOnly_refl _ _
            | with_reducible refine Drive.changesOnly.step ?_ (Drive.startReads_frame _ _) (subset_of_all rfl)
            | with_reducible refine Drive.changesOnly.step ?_ (foldl_frame (fun _ _ => ?_) _ _) (List.Subset.refl _)
            | dsimp -zeta only
            | (extract_lets +onlyGivenNames z; first | (refine let_frame (z := z) ?_ ?_; (on_goal 1 => (dsimp only [z])); (on_goal 2 => (intro hz; clear_value z))) | ((have _t : (_ → _) := z); clear _t; (dsimp only [z]; try clear z)) | ((have _t : Wr := z); clear _t; (dsimp only [z]; try clear z)) | ((have _t : _ × Drive := z); clear _t; (dsimp only [z]; try clear z)) | ((have _t : _ × _ × Drive := z); clear _t; (dsimp only [z]; try clear z)) | (clear_value z) | (dsimp only [z]; try clear z))
            | split
            | fail_if_no_progress (with_reducible apply Drive.changesOnly.upd <;> try (first | with_reducible exact Or.inr rfl | exact Or.inl (mem_of_contains rfl))))

theorem Drive.countEcc_frame (e) (d : Drive) :
    d.changesOnly [.keys, .xp, .port, .rec_, .meter, .health, .flag, .out] (Drive.countEcc e d) := by
    unfold Drive.countEcc
    repeat' (first
      | with_reducible assumption
      | with_reducible exact Drive.changesOnly_refl _ _
      | with_reducible refine Drive.changesOnly.step ?_ (Drive.event_frame _ _ _ _ _) (subset_of_all rfl)
      | with_reducible refine Drive.changesOnly.step ?_ (foldl_frame (fun _ _ => ?_) _ _) (List.Subset.refl _)
      | dsimp -zeta only
      | (extract_lets +onlyGivenNames z; first | (refine let_frame (z := z) ?_ ?_; (on_goal 1 => (dsimp only [z])); (on_goal 2 => (intro hz; clear_value z))) | ((have _t : (_ → _) := z); clear _t; (dsimp only [z]; try clear z)) | ((have _t : Wr := z); clear _t; (dsimp only [z]; try clear z)) | ((have _t : _ × Drive := z); clear _t; (dsimp only [z]; try clear z)) | ((have _t : _ × _ × Drive := z); clear _t; (dsimp only [z]; try clear z)) | (clear_value z) | (dsimp only [z]; try clear z))
      | split
      | fail_if_no_progress (with_reducible apply Drive.changesOnly.upd <;> try (first | with_reducible exact Or.inr rfl | exact Or.inl (mem_of_contains rfl))))

theorem Drive.askReservation_frame (d : Drive) :
    d.changesOnly [.twin, .port, .out, .free] (Drive.askReservation d) := by
    unfold Drive.askReservation
    repeat' (first
      | with_reducible assumption
      | with_reducible exact Drive.changesOnly_refl _ _
      | with_reducible refine Drive.changesOnly.step ?_ (Drive.twinSend_frame _ _) (subset_of_all rfl)
      | with_reducible refine Drive.changesOnly.step ?_ (foldl_frame (fun _ _ => ?_) _ _) (List.Subset.refl _)
      | dsimp -zeta only
      | (extract_lets +onlyGivenNames z; first | (refine let_frame (z := z) ?_ ?_; (on_goal 1 => (dsimp only [z])); (on_goal 2 => (intro hz; clear_value z))) | ((have _t : (_ → _) := z); clear _t; (dsimp only [z]; try clear z)) | ((have _t : Wr := z); clear _t; (dsimp only [z]; try clear z)) | ((have _t : _ × Drive := z); clear _t; (dsimp only [z]; try clear z)) | ((have _t : _ × _ × Drive := z); clear _t; (dsimp only [z]; try clear z)) | (clear_value z) | (dsimp only [z]; try clear z))
      | split
      | fail_if_no_progress (with_reducible apply Drive.changesOnly.upd <;> try (first | with_reducible exact Or.inr rfl | exact Or.inl (mem_of_contains rfl))))

theorem Drive.drawReservation_frame (ns) (g) (entries) (d : Drive) :
    d.changesOnly [.twin, .port, .out, .free] (Drive.drawReservation ns g entries d) := by
    unfold Drive.drawReservation
    repeat' (first
      | with_reducible assumption
      | with_reducible exact Drive.changesOnly_refl _ _
      | with_reducible refine Drive.changesOnly.step ?_ (Drive.askReservation_frame _) (subset_of_all rfl)
      | with_reducible refine Drive.changesOnly.step ?_ (foldl_frame (fun _ _ => ?_) _ _) (List.Subset.refl _)
      | dsimp -zeta only
      | (extract_lets +onlyGivenNames z; first | (refine let_frame (z := z) ?_ ?_; (on_goal 1 => (dsimp only [z])); (on_goal 2 => (intro hz; clear_value z))) | ((have _t : (_ → _) := z); clear _t; (dsimp only [z]; try clear z)) | ((have _t : Wr := z); clear _t; (dsimp only [z]; try clear z)) | ((have _t : _ × Drive := z); clear _t; (dsimp only [z]; try clear z)) | ((have _t : _ × _ × Drive := z); clear _t; (dsimp only [z]; try clear z)) | (clear_value z) | (dsimp only [z]; try clear z))
      | split
      | fail_if_no_progress (with_reducible apply Drive.changesOnly.upd <;> try (first | with_reducible exact Or.inr rfl | exact Or.inl (mem_of_contains rfl))))

theorem Drive.roomFor_frame (nsId) (key) (g) (newKey) (d : Drive) :
    d.changesOnly [.kv, .keys, .xp, .port, .rec_, .meter, .flag, .out] (Drive.roomFor nsId key g newKey d).2 := by
    unfold Drive.roomFor
    repeat' (first
      | with_reducible assumption
      | with_reducible exact Drive.changesOnly_refl _ _
      | with_reducible refine Drive.changesOnly.step ?_ (Drive.entryFor_frame _ _ _ _) (subset_of_all rfl)
      | with_reducible refine Drive.changesOnly.step ?_ (snd_frame (Drive.entryFor_frame _ _ _ _) (by assumption)) (subset_of_all rfl)
      | with_reducible refine Drive.changesOnly.step ?_ (foldl_frame (fun _ _ => ?_) _ _) (List.Subset.refl _)
      | dsimp -zeta only
      | (extract_lets +onlyGivenNames z; first | (refine let_frame (z := z) ?_ ?_; (on_goal 1 => (dsimp only [z])); (on_goal 2 => (intro hz; clear_value z))) | ((have _t : (_ → _) := z); clear _t; (dsimp only [z]; try clear z)) | ((have _t : Wr := z); clear _t; (dsimp only [z]; try clear z)) | ((have _t : _ × Drive := z); clear _t; (dsimp only [z]; try clear z)) | ((have _t : _ × _ × Drive := z); clear _t; (dsimp only [z]; try clear z)) | (clear_value z) | (dsimp only [z]; try clear z))
      | split
      | fail_if_no_progress (with_reducible apply Drive.changesOnly.upd <;> try (first | with_reducible exact Or.inr rfl | exact Or.inl (mem_of_contains rfl))))

theorem Drive.useKey_frame (slot) (ns) (gen) (d : Drive) :
    d.changesOnly [.keys] (Drive.useKey slot ns gen d) := by
    unfold Drive.useKey
    repeat' (first
      | with_reducible assumption
      | with_reducible exact Drive.changesOnly_refl _ _
      | with_reducible refine Drive.changesOnly.step ?_ (foldl_frame (fun _ _ => ?_) _ _) (List.Subset.refl _)
      | dsimp -zeta only
      | (extract_lets +onlyGivenNames z; first | (refine let_frame (z := z) ?_ ?_; (on_goal 1 => (dsimp only [z])); (on_goal 2 => (intro hz; clear_value z))) | ((have _t : (_ → _) := z); clear _t; (dsimp only [z]; try clear z)) | ((have _t : Wr := z); clear _t; (dsimp only [z]; try clear z)) | ((have _t : _ × Drive := z); clear _t; (dsimp only [z]; try clear z)) | ((have _t : _ × _ × Drive := z); clear _t; (dsimp only [z]; try clear z)) | (clear_value z) | (dsimp only [z]; try clear z))
      | split
      | fail_if_no_progress (with_reducible apply Drive.changesOnly.upd <;> try (first | with_reducible exact Or.inr rfl | exact Or.inl (mem_of_contains rfl))))

theorem Drive.noteMismatch_frame (ns) (key) (d : Drive) :
    d.changesOnly [.keys, .xp, .port, .rec_, .meter, .flag, .out, .free] (Drive.noteMismatch ns key d) := by
    unfold Drive.noteMismatch
    repeat' (first
      | with_reducible assumption
      | with_reducible exact Drive.changesOnly_refl _ _
      | with_reducible refine Drive.changesOnly.step ?_ (Drive.event_frame _ _ _ _ _) (subset_of_all rfl)
      | with_reducible refine Drive.changesOnly.step ?_ (Drive.fresh_frame _) (subset_of_all rfl)
      | with_reducible refine Drive.changesOnly.step ?_ (snd_frame (Drive.fresh_frame _) (by assumption)) (subset_of_all rfl)
      | with_reducible refine Drive.changesOnly.step ?_ (foldl_frame (fun _ _ => ?_) _ _) (List.Subset.refl _)
      | dsimp -zeta only
      | (extract_lets +onlyGivenNames z; first | (refine let_frame (z := z) ?_ ?_; (on_goal 1 => (dsimp only [z])); (on_goal 2 => (intro hz; clear_value z))) | ((have _t : (_ → _) := z); clear _t; (dsimp only [z]; try clear z)) | ((have _t : Wr := z); clear _t; (dsimp only [z]; try clear z)) | ((have _t : _ × Drive := z); clear _t; (dsimp only [z]; try clear z)) | ((have _t : _ × _ × Drive := z); clear _t; (dsimp only [z]; try clear z)) | (clear_value z) | (dsimp only [z]; try clear z))
      | split
      | fail_if_no_progress (with_reducible apply Drive.changesOnly.upd <;> try (first | with_reducible exact Or.inr rfl | exact Or.inl (mem_of_contains rfl))))

theorem Drive.draw_frame (d : Drive) :
    d.changesOnly [.keys] (Drive.draw d).2 := by
    unfold Drive.draw
    repeat' (first
      | with_reducible assumption
      | with_reducible exact Drive.changesOnly_refl _ _
      | with_reducible refine Drive.changesOnly.step ?_ (foldl_frame (fun _ _ => ?_) _ _) (List.Subset.refl _)
      | dsimp -zeta only
      | (extract_lets +onlyGivenNames z; first | (refine let_frame (z := z) ?_ ?_; (on_goal 1 => (dsimp only [z])); (on_goal 2 => (intro hz; clear_value z))) | ((have _t : (_ → _) := z); clear _t; (dsimp only [z]; try clear z)) | ((have _t : Wr := z); clear _t; (dsimp only [z]; try clear z)) | ((have _t : _ × Drive := z); clear _t; (dsimp only [z]; try clear z)) | ((have _t : _ × _ × Drive := z); clear _t; (dsimp only [z]; try clear z)) | (clear_value z) | (dsimp only [z]; try clear z))
      | split
      | fail_if_no_progress (with_reducible apply Drive.changesOnly.upd <;> try (first | with_reducible exact Or.inr rfl | exact Or.inl (mem_of_contains rfl))))

theorem Drive.noticeLost_frame (sid) (d : Drive) :
    d.changesOnly [.keys, .xp, .port, .rec_, .meter, .flag, .out] (Drive.noticeLost sid d) := by
    unfold Drive.noticeLost
    repeat' (first
      | with_reducible assumption
      | with_reducible exact Drive.changesOnly_refl _ _
      | with_reducible refine Drive.changesOnly.step ?_ (Drive.event_frame _ _ _ _ _) (subset_of_all rfl)
      | with_reducible refine Drive.changesOnly.step ?_ (Drive.modSess_frame _ _ _) (subset_of_all rfl)
      | with_reducible refine Drive.changesOnly.step ?_ (foldl_frame (fun _ _ => ?_) _ _) (List.Subset.refl _)
      | dsimp -zeta only
      | (extract_lets +onlyGivenNames z; first | (refine let_frame (z := z) ?_ ?_; (on_goal 1 => (dsimp only [z])); (on_goal 2 => (intro hz; clear_value z))) | ((have _t : (_ → _) := z); clear _t; (dsimp only [z]; try clear z)) | ((have _t : Wr := z); clear _t; (dsimp only [z]; try clear z)) | ((have _t : _ × Drive := z); clear _t; (dsimp only [z]; try clear z)) | ((have _t : _ × _ × Drive := z); clear _t; (dsimp only [z]; try clear z)) | (clear_value z) | (dsimp only [z]; try clear z))
      | split
      | fail_if_no_progress (with_reducible apply Drive.changesOnly.upd <;> try (first | with_reducible exact Or.inr rfl | exact Or.inl (mem_of_contains rfl))))

theorem Drive.notice_frame (sid) (n) (d : Drive) :
    d.changesOnly [.keys, .xp, .port, .rec_, .meter, .flag, .out] (Drive.notice sid n d) := by
    unfold Drive.notice
    repeat' (first
      | with_reducible assumption
      | with_reducible exact Drive.changesOnly_refl _ _
      | with_reducible refine Drive.changesOnly.step ?_ (Drive.noticeLost_frame _ _) (subset_of_all rfl)
      | with_reducible refine Drive.changesOnly.step ?_ (Drive.noticeWith_frame (ps := [.keys, .xp, .port, .rec_, .meter, .flag, .out]) (subset_of_all rfl) (fun _ _ => ?_) _ _ _) (List.Subset.refl _)
      | with_reducible refine Drive.changesOnly.step ?_ (foldl_frame (fun _ _ => ?_) _ _) (List.Subset.refl _)
      | dsimp -zeta only
      | (extract_lets +onlyGivenNames z; first | (refine let_frame (z := z) ?_ ?_; (on_goal 1 => (dsimp only [z])); (on_goal 2 => (intro hz; clear_value z))) | ((have _t : (_ → _) := z); clear _t; (dsimp only [z]; try clear z)) | ((have _t : Wr := z); clear _t; (dsimp only [z]; try clear z)) | ((have _t : _ × Drive := z); clear _t; (dsimp only [z]; try clear z)) | ((have _t : _ × _ × Drive := z); clear _t; (dsimp only [z]; try clear z)) | (clear_value z) | (dsimp only [z]; try clear z))
      | split
      | fail_if_no_progress (with_reducible apply Drive.changesOnly.upd <;> try (first | with_reducible exact Or.inr rfl | exact Or.inl (mem_of_contains rfl))))

theorem Drive.putJob_frame (j) (d : Drive) :
    d.changesOnly [.jobs] (Drive.putJob j d) := by
    unfold Drive.putJob
    repeat' (first
      | with_reducible assumption
      | with_reducible exact Drive.changesOnly_refl _ _
      | with_reducible refine Drive.changesOnly.step ?_ (foldl_frame (fun _ _ => ?_) _ _) (List.Subset.refl _)
      | dsimp -zeta only
      | (extract_lets +onlyGivenNames z; first | (refine let_frame (z := z) ?_ ?_; (on_goal 1 => (dsimp only [z])); (on_goal 2 => (intro hz; clear_value z))) | ((have _t : (_ → _) := z); clear _t; (dsimp only [z]; try clear z)) | ((have _t : Wr := z); clear _t; (dsimp only [z]; try clear z)) | ((have _t : _ × Drive := z); clear _t; (dsimp only [z]; try clear z)) | ((have _t : _ × _ × Drive := z); clear _t; (dsimp only [z]; try clear z)) | (clear_value z) | (dsimp only [z]; try clear z))
      | split
      | fail_if_no_progress (with_reducible apply Drive.changesOnly.upd <;> try (first | with_reducible exact Or.inr rfl | exact Or.inl (mem_of_contains rfl))))

theorem Drive.endJob_frame (j) (status) (d : Drive) :
    d.changesOnly [.keys, .xp, .port, .rec_, .meter, .power, .flag, .jobs, .out] (Drive.endJob j status d) := by
    unfold Drive.endJob
    repeat' (first
      | with_reducible assumption
      | with_reducible exact Drive.changesOnly_refl _ _
      | with_reducible refine Drive.changesOnly.step ?_ (Drive.event_frame _ _ _ _ _) (subset_of_all rfl)
      | with_reducible refine Drive.changesOnly.step ?_ (Drive.putJob_frame _ _) (subset_of_all rfl)
      | with_reducible refine Drive.changesOnly.step ?_ (Drive.wasBusy_frame _) (subset_of_all rfl)
      | with_reducible refine Drive.changesOnly.step ?_ (foldl_frame (fun _ _ => ?_) _ _) (List.Subset.refl _)
      | dsimp -zeta only
      | (extract_lets +onlyGivenNames z; first | (refine let_frame (z := z) ?_ ?_; (on_goal 1 => (dsimp only [z])); (on_goal 2 => (intro hz; clear_value z))) | ((have _t : (_ → _) := z); clear _t; (dsimp only [z]; try clear z)) | ((have _t : Wr := z); clear _t; (dsimp only [z]; try clear z)) | ((have _t : _ × Drive := z); clear _t; (dsimp only [z]; try clear z)) | ((have _t : _ × _ × Drive := z); clear _t; (dsimp only [z]; try clear z)) | (clear_value z) | (dsimp only [z]; try clear z))
      | split
      | fail_if_no_progress (with_reducible apply Drive.changesOnly.upd <;> try (first | with_reducible exact Or.inr rfl | exact Or.inl (mem_of_contains rfl))))

theorem Drive.dequeue_frame (d : Drive) :
    d.changesOnly [.jobs] (Drive.dequeue d) := by
    unfold Drive.dequeue
    repeat' (first
      | with_reducible assumption
      | with_reducible exact Drive.changesOnly_refl _ _
      | with_reducible refine Drive.changesOnly.step ?_ (Drive.putJob_frame _ _) (subset_of_all rfl)
      | with_reducible refine Drive.changesOnly.step ?_ (foldl_frame (fun _ _ => ?_) _ _) (List.Subset.refl _)
      | dsimp -zeta only
      | (extract_lets +onlyGivenNames z; first | (refine let_frame (z := z) ?_ ?_; (on_goal 1 => (dsimp only [z])); (on_goal 2 => (intro hz; clear_value z))) | ((have _t : (_ → _) := z); clear _t; (dsimp only [z]; try clear z)) | ((have _t : Wr := z); clear _t; (dsimp only [z]; try clear z)) | ((have _t : _ × Drive := z); clear _t; (dsimp only [z]; try clear z)) | ((have _t : _ × _ × Drive := z); clear _t; (dsimp only [z]; try clear z)) | (clear_value z) | (dsimp only [z]; try clear z))
      | split
      | fail_if_no_progress (with_reducible apply Drive.changesOnly.upd <;> try (first | with_reducible exact Or.inr rfl | exact Or.inl (mem_of_contains rfl))))

theorem Drive.jobRoom_frame (own) (d : Drive) {er : Drive} (hr : Drive.jobRoom own d = some er) :
    d.changesOnly [.jobs] er := by
    unfold Drive.jobRoom at hr
    repeat' (first | (split at hr) | (dsimp only at hr))
    all_goals (first | cases hr | skip)
    repeat' (first
      | with_reducible assumption
      | with_reducible exact Drive.changesOnly_refl _ _
      | with_reducible refine Drive.changesOnly.step ?_ (foldl_frame (fun _ _ => ?_) _ _) (List.Subset.refl _)
      | dsimp -zeta only
      | (extract_lets +onlyGivenNames z; first | (refine let_frame (z := z) ?_ ?_; (on_goal 1 => (dsimp only [z])); (on_goal 2 => (intro hz; clear_value z))) | ((have _t : (_ → _) := z); clear _t; (dsimp only [z]; try clear z)) | ((have _t : Wr := z); clear _t; (dsimp only [z]; try clear z)) | ((have _t : _ × Drive := z); clear _t; (dsimp only [z]; try clear z)) | ((have _t : _ × _ × Drive := z); clear _t; (dsimp only [z]; try clear z)) | (clear_value z) | (dsimp only [z]; try clear z))
      | split
      | fail_if_no_progress (with_reducible apply Drive.changesOnly.upd <;> try (first | with_reducible exact Or.inr rfl | exact Or.inl (mem_of_contains rfl))))

theorem Drive.startJob_frame (j) (own) (d : Drive) {xr} {er : Drive} (hr : Drive.startJob j own d = some (xr, er)) :
    d.changesOnly [.keys, .xp, .port, .rec_, .meter, .flag, .jobs, .out] er := by
    unfold Drive.startJob at hr
    rw [Option.map_eq_some_iff] at hr
    obtain ⟨e, he, hr⟩ := hr
    obtain ⟨-, rfl⟩ := hr
    refine Drive.changesOnly.step ?_ (Drive.dequeue_frame _) (subset_of_all rfl)
    refine Drive.changesOnly.step ?_ (Drive.event_frame _ _ _ _ _) (subset_of_all rfl)
    have h := (Drive.changesOnly_refl [.keys, .xp, .port, .rec_, .meter, .flag, .jobs, .out] d).step (Drive.jobRoom_frame _ _ he) (subset_of_all rfl)
    with_reducible apply Drive.changesOnly.upd <;> try (first | with_reducible exact Or.inr rfl | exact Or.inl (mem_of_contains rfl))
    exact h

theorem Drive.ownJob_frame (kind) (p0) (d : Drive) :
    d.changesOnly [.keys, .xp, .port, .rec_, .meter, .flag, .jobs, .out] (Drive.ownJob kind p0 d) := by
    unfold Drive.ownJob
    repeat' (first
      | with_reducible assumption
      | with_reducible exact Drive.changesOnly_refl _ _
      | with_reducible refine Drive.changesOnly.step ?_ (Drive.startJob_frame _ _ _ (by assumption)) (subset_of_all rfl)
      | with_reducible refine Drive.changesOnly.step ?_ (foldl_frame (fun _ _ => ?_) _ _) (List.Subset.refl _)
      | dsimp -zeta only
      | (extract_lets +onlyGivenNames z; first | (refine let_frame (z := z) ?_ ?_; (on_goal 1 => (dsimp only [z])); (on_goal 2 => (intro hz; clear_value z))) | ((have _t : (_ → _) := z); clear _t; (dsimp only [z]; try clear z)) | ((have _t : Wr := z); clear _t; (dsimp only [z]; try clear z)) | ((have _t : _ × Drive := z); clear _t; (dsimp only [z]; try clear z)) | ((have _t : _ × _ × Drive := z); clear _t; (dsimp only [z]; try clear z)) | (clear_value z) | (dsimp only [z]; try clear z))
      | split
      | fail_if_no_progress (with_reducible apply Drive.changesOnly.upd <;> try (first | with_reducible exact Or.inr rfl | exact Or.inl (mem_of_contains rfl))))

theorem Drive.addReq_frame (r) (d : Drive) :
    d.changesOnly [.kv] (Drive.addReq r d) := by
    unfold Drive.addReq
    repeat' (first
      | with_reducible assumption
      | with_reducible exact Drive.changesOnly_refl _ _
      | with_reducible refine Drive.changesOnly.step ?_ (foldl_frame (fun _ _ => ?_) _ _) (List.Subset.refl _)
      | dsimp -zeta only
      | (extract_lets +onlyGivenNames z; first | (refine let_frame (z := z) ?_ ?_; (on_goal 1 => (dsimp only [z])); (on_goal 2 => (intro hz; clear_value z))) | ((have _t : (_ → _) := z); clear _t; (dsimp only [z]; try clear z)) | ((have _t : Wr := z); clear _t; (dsimp only [z]; try clear z)) | ((have _t : _ × Drive := z); clear _t; (dsimp only [z]; try clear z)) | ((have _t : _ × _ × Drive := z); clear _t; (dsimp only [z]; try clear z)) | (clear_value z) | (dsimp only [z]; try clear z))
      | split
      | fail_if_no_progress (with_reducible apply Drive.changesOnly.upd <;> try (first | with_reducible exact Or.inr rfl | exact Or.inl (mem_of_contains rfl))))

theorem Drive.authFail_frame (p) (tag) (d : Drive) :
    d.changesOnly [.keys, .xp, .port, .rec_, .meter, .health, .flag, .out] (Drive.authFail p tag d) := by
    unfold Drive.authFail
    repeat' (first
      | with_reducible assumption
      | with_reducible exact Drive.changesOnly_refl _ _
      | with_reducible refine Drive.changesOnly.step ?_ (Drive.event_frame _ _ _ _ _) (subset_of_all rfl)
      | with_reducible refine Drive.changesOnly.step ?_ (foldl_frame (fun _ _ => ?_) _ _) (List.Subset.refl _)
      | dsimp -zeta only
      | (extract_lets +onlyGivenNames z; first | (refine let_frame (z := z) ?_ ?_; (on_goal 1 => (dsimp only [z])); (on_goal 2 => (intro hz; clear_value z))) | ((have _t : (_ → _) := z); clear _t; (dsimp only [z]; try clear z)) | ((have _t : Wr := z); clear _t; (dsimp only [z]; try clear z)) | ((have _t : _ × Drive := z); clear _t; (dsimp only [z]; try clear z)) | ((have _t : _ × _ × Drive := z); clear _t; (dsimp only [z]; try clear z)) | (clear_value z) | (dsimp only [z]; try clear z))
      | split
      | fail_if_no_progress (with_reducible apply Drive.changesOnly.upd <;> try (first | with_reducible exact Or.inr rfl | exact Or.inl (mem_of_contains rfl))))

theorem Drive.placeRec_frame (sb) (gran) (r) (d : Drive) :
    d.changesOnly [.media] (Drive.placeRec sb gran r d) := by
    unfold Drive.placeRec
    repeat' (first
      | with_reducible assumption
      | with_reducible exact Drive.changesOnly_refl _ _
      | with_reducible refine Drive.changesOnly.step ?_ (Drive.modSb_frame _ _ _) (subset_of_all rfl)
      | with_reducible refine Drive.changesOnly.step ?_ (foldl_frame (fun _ _ => ?_) _ _) (List.Subset.refl _)
      | dsimp -zeta only
      | (extract_lets +onlyGivenNames z; first | (refine let_frame (z := z) ?_ ?_; (on_goal 1 => (dsimp only [z])); (on_goal 2 => (intro hz; clear_value z))) | ((have _t : (_ → _) := z); clear _t; (dsimp only [z]; try clear z)) | ((have _t : Wr := z); clear _t; (dsimp only [z]; try clear z)) | ((have _t : _ × Drive := z); clear _t; (dsimp only [z]; try clear z)) | ((have _t : _ × _ × Drive := z); clear _t; (dsimp only [z]; try clear z)) | (clear_value z) | (dsimp only [z]; try clear z))
      | split
      | fail_if_no_progress (with_reducible apply Drive.changesOnly.upd <;> try (first | with_reducible exact Or.inr rfl | exact Or.inl (mem_of_contains rfl))))

theorem Drive.serveWaiting_frame (n) (d : Drive) :
    d.changesOnly [.media] (Drive.serveWaiting n d) := by
    unfold Drive.serveWaiting
    repeat' (first
      | with_reducible assumption
      | with_reducible exact Drive.changesOnly_refl _ _
      | with_reducible refine Drive.changesOnly.step ?_ (Drive.serveDie_frame _ _) (subset_of_all rfl)
      | with_reducible refine Drive.changesOnly.step ?_ (foldl_frame (fun _ _ => ?_) _ _) (List.Subset.refl _)
      | dsimp -zeta only
      | (extract_lets +onlyGivenNames z; first | (refine let_frame (z := z) ?_ ?_; (on_goal 1 => (dsimp only [z])); (on_goal 2 => (intro hz; clear_value z))) | ((have _t : (_ → _) := z); clear _t; (dsimp only [z]; try clear z)) | ((have _t : Wr := z); clear _t; (dsimp only [z]; try clear z)) | ((have _t : _ × Drive := z); clear _t; (dsimp only [z]; try clear z)) | ((have _t : _ × _ × Drive := z); clear _t; (dsimp only [z]; try clear z)) | (clear_value z) | (dsimp only [z]; try clear z))
      | split
      | fail_if_no_progress (with_reducible apply Drive.changesOnly.upd <;> try (first | with_reducible exact Or.inr rfl | exact Or.inl (mem_of_contains rfl))))

theorem Drive.releaseHeld_frame (n) (d : Drive) :
    d.changesOnly [.media] (Drive.releaseHeld n d) := by
    unfold Drive.releaseHeld
    repeat' (first
      | with_reducible assumption
      | with_reducible exact Drive.changesOnly_refl _ _
      | with_reducible refine Drive.changesOnly.step ?_ (Drive.beginBusy_frame _ _ _) (subset_of_all rfl)
      | with_reducible refine Drive.changesOnly.step ?_ (foldl_frame (fun _ _ => ?_) _ _) (List.Subset.refl _)
      | dsimp -zeta only
      | (extract_lets +onlyGivenNames z; first | (refine let_frame (z := z) ?_ ?_; (on_goal 1 => (dsimp only [z])); (on_goal 2 => (intro hz; clear_value z))) | ((have _t : (_ → _) := z); clear _t; (dsimp only [z]; try clear z)) | ((have _t : Wr := z); clear _t; (dsimp only [z]; try clear z)) | ((have _t : _ × Drive := z); clear _t; (dsimp only [z]; try clear z)) | ((have _t : _ × _ × Drive := z); clear _t; (dsimp only [z]; try clear z)) | (clear_value z) | (dsimp only [z]; try clear z))
      | split
      | fail_if_no_progress (with_reducible apply Drive.changesOnly.upd <;> try (first | with_reducible exact Or.inr rfl | exact Or.inl (mem_of_contains rfl))))

theorem Drive.endKind_frame (kind) (status) (d : Drive) :
    d.changesOnly [.keys, .xp, .port, .rec_, .meter, .power, .flag, .jobs, .out] (Drive.endKind kind status d) := by
    unfold Drive.endKind
    repeat' (first
      | with_reducible assumption
      | with_reducible exact Drive.changesOnly_refl _ _
      | with_reducible refine Drive.changesOnly.step ?_ (Drive.endJob_frame _ _ _) (subset_of_all rfl)
      | with_reducible refine Drive.changesOnly.step ?_ (foldl_frame (fun _ _ => ?_) _ _) (List.Subset.refl _)
      | dsimp -zeta only
      | (extract_lets +onlyGivenNames z; first | (refine let_frame (z := z) ?_ ?_; (on_goal 1 => (dsimp only [z])); (on_goal 2 => (intro hz; clear_value z))) | ((have _t : (_ → _) := z); clear _t; (dsimp only [z]; try clear z)) | ((have _t : Wr := z); clear _t; (dsimp only [z]; try clear z)) | ((have _t : _ × Drive := z); clear _t; (dsimp only [z]; try clear z)) | ((have _t : _ × _ × Drive := z); clear _t; (dsimp only [z]; try clear z)) | (clear_value z) | (dsimp only [z]; try clear z))
      | split
      | fail_if_no_progress (with_reducible apply Drive.changesOnly.upd <;> try (first | with_reducible exact Or.inr rfl | exact Or.inl (mem_of_contains rfl))))

theorem Drive.tickTo_frame (t) (d : Drive) :
    d.changesOnly [.twin] (Drive.tickTo t d) := by
    unfold Drive.tickTo
    repeat' (first
      | with_reducible assumption
      | with_reducible exact Drive.changesOnly_refl _ _
      | with_reducible refine Drive.changesOnly.step ?_ (foldl_frame (fun _ _ => ?_) _ _) (List.Subset.refl _)
      | dsimp -zeta only
      | (extract_lets +onlyGivenNames z; first | (refine let_frame (z := z) ?_ ?_; (on_goal 1 => (dsimp only [z])); (on_goal 2 => (intro hz; clear_value z))) | ((have _t : (_ → _) := z); clear _t; (dsimp only [z]; try clear z)) | ((have _t : Wr := z); clear _t; (dsimp only [z]; try clear z)) | ((have _t : _ × Drive := z); clear _t; (dsimp only [z]; try clear z)) | ((have _t : _ × _ × Drive := z); clear _t; (dsimp only [z]; try clear z)) | (clear_value z) | (dsimp only [z]; try clear z))
      | split
      | fail_if_no_progress (with_reducible apply Drive.changesOnly.upd <;> try (first | with_reducible exact Or.inr rfl | exact Or.inl (mem_of_contains rfl))))

theorem Drive.sendAck_frame (sid) (path) (d : Drive) :
    d.changesOnly [.keys, .xp, .port, .meter, .out] (Drive.sendAck sid path d) := by
    unfold Drive.sendAck
    repeat' (first
      | with_reducible assumption
      | with_reducible exact Drive.changesOnly_refl _ _
      | with_reducible refine Drive.changesOnly.step ?_ (Drive.meterOut_frame _ _ _) (subset_of_all rfl)
      | with_reducible refine Drive.changesOnly.step ?_ (Drive.portTx_frame _ _ _ _ _ _ _) (subset_of_all rfl)
      | with_reducible refine Drive.changesOnly.step ?_ (Drive.setSess_frame _ _ _) (subset_of_all rfl)
      | with_reducible refine Drive.changesOnly.step ?_ (Drive.setSslot_frame _ _ _) (subset_of_all rfl)
      | with_reducible refine Drive.changesOnly.step ?_ (foldl_frame (fun _ _ => ?_) _ _) (List.Subset.refl _)
      | dsimp -zeta only
      | (extract_lets +onlyGivenNames z; first | (refine let_frame (z := z) ?_ ?_; (on_goal 1 => (dsimp only [z])); (on_goal 2 => (intro hz; clear_value z))) | ((have _t : (_ → _) := z); clear _t; (dsimp only [z]; try clear z)) | ((have _t : Wr := z); clear _t; (dsimp only [z]; try clear z)) | ((have _t : _ × Drive := z); clear _t; (dsimp only [z]; try clear z)) | ((have _t : _ × _ × Drive := z); clear _t; (dsimp only [z]; try clear z)) | (clear_value z) | (dsimp only [z]; try clear z))
      | split
      | fail_if_no_progress (with_reducible apply Drive.changesOnly.upd <;> try (first | with_reducible exact Or.inr rfl | exact Or.inl (mem_of_contains rfl))))

theorem Drive.raiseTick_frame (v) (d : Drive) :
    d.changesOnly [.kv, .media, .twin] (Drive.raiseTick v d) := by
    unfold Drive.raiseTick
    repeat' (first
      | with_reducible assumption
      | with_reducible exact Drive.changesOnly_refl _ _
      | with_reducible refine Drive.changesOnly.step ?_ (Drive.reserveTicks_frame _) (subset_of_all rfl)
      | with_reducible refine Drive.changesOnly.step ?_ (Drive.tickTo_frame _ _) (subset_of_all rfl)
      | with_reducible refine Drive.changesOnly.step ?_ (foldl_frame (fun _ _ => ?_) _ _) (List.Subset.refl _)
      | dsimp -zeta only
      | (extract_lets +onlyGivenNames z; first | (refine let_frame (z := z) ?_ ?_; (on_goal 1 => (dsimp only [z])); (on_goal 2 => (intro hz; clear_value z))) | ((have _t : (_ → _) := z); clear _t; (dsimp only [z]; try clear z)) | ((have _t : Wr := z); clear _t; (dsimp only [z]; try clear z)) | ((have _t : _ × Drive := z); clear _t; (dsimp only [z]; try clear z)) | ((have _t : _ × _ × Drive := z); clear _t; (dsimp only [z]; try clear z)) | (clear_value z) | (dsimp only [z]; try clear z))
      | split
      | fail_if_no_progress (with_reducible apply Drive.changesOnly.upd <;> try (first | with_reducible exact Or.inr rfl | exact Or.inl (mem_of_contains rfl))))

theorem Drive.withPhase_frame {ps : List Part} {f : Req → Drive → Drive} (hps : [] ⊆ ps) (hf : ∀ y0 (x : Drive), x.changesOnly ps (f y0 x)) (o) (psq) (d : Drive) :
    d.changesOnly ps (Drive.withPhase o psq d f) := by
    unfold Drive.withPhase
    repeat' (first
      | with_reducible assumption
      | with_reducible exact Drive.changesOnly_refl _ _
      | refine Drive.changesOnly.step ?_ (hf _ _) (List.Subset.refl _)
      | with_reducible refine Drive.changesOnly.step ?_ (foldl_frame (fun _ _ => ?_) _ _) (List.Subset.refl _)
      | dsimp -zeta only
      | (extract_lets +onlyGivenNames z; first | (refine let_frame (z := z) ?_ ?_; (on_goal 1 => (dsimp only [z])); (on_goal 2 => (intro hz; clear_value z))) | ((have _t : (_ → _) := z); clear _t; (dsimp only [z]; try clear z)) | ((have _t : Wr := z); clear _t; (dsimp only [z]; try clear z)) | ((have _t : _ × Drive := z); clear _t; (dsimp only [z]; try clear z)) | ((have _t : _ × _ × Drive := z); clear _t; (dsimp only [z]; try clear z)) | (clear_value z) | (dsimp only [z]; try clear z))
      | split
      | fail_if_no_progress (with_reducible apply Drive.changesOnly.upd <;> try (first | with_reducible exact Or.inr rfl | exact Or.inl (mem_sub hps (mem_of_contains rfl)))))

theorem Drive.meterIn_frame (t) (n) (d : Drive) :
    d.changesOnly [.meter] (Drive.meterIn t n d) := by
    unfold Drive.meterIn
    repeat' (first
      | with_reducible assumption
      | with_reducible exact Drive.changesOnly_refl _ _
      | with_reducible refine Drive.changesOnly.step ?_ (Drive.modAcc_frame _ _ _) (subset_of_all rfl)
      | with_reducible refine Drive.changesOnly.step ?_ (foldl_frame (fun _ _ => ?_) _ _) (List.Subset.refl _)
      | dsimp -zeta only
      | (extract_lets +onlyGivenNames z; first | (refine let_frame (z := z) ?_ ?_; (on_goal 1 => (dsimp only [z])); (on_goal 2 => (intro hz; clear_value z))) | ((have _t : (_ → _) := z); clear _t; (dsimp only [z]; try clear z)) | ((have _t : Wr := z); clear _t; (dsimp only [z]; try clear z)) | ((have _t : _ × Drive := z); clear _t; (dsimp only [z]; try clear z)) | ((have _t : _ × _ × Drive := z); clear _t; (dsimp only [z]; try clear z)) | (clear_value z) | (dsimp only [z]; try clear z))
      | split
      | fail_if_no_progress (with_reducible apply Drive.changesOnly.upd <;> try (first | with_reducible exact Or.inr rfl | exact Or.inl (mem_of_contains rfl))))

end Sys2Proof.Machine
end

