-- ==== Sys2Proof/Laws/State.lean ====
section
/-! SUPPORT. Laws/State.lean: what each update of one piece of state leaves of every other: one lemma for each update and part. -/

set_option linter.all false

namespace Sys2Proof.Machine
open Sys2Proof

@[simp] theorem Drive.emit_kv (o) (d : Drive) : (Drive.emit o d).kv = d.kv := rfl
@[simp] theorem Drive.emit_media (o) (d : Drive) : (Drive.emit o d).media = d.media := rfl
@[simp] theorem Drive.emit_twin (o) (d : Drive) : (Drive.emit o d).twin = d.twin := rfl
@[simp] theorem Drive.emit_ring (o) (d : Drive) : (Drive.emit o d).ring = d.ring := rfl
@[simp] theorem Drive.emit_keys (o) (d : Drive) : (Drive.emit o d).keys = d.keys := rfl
@[simp] theorem Drive.emit_holly (o) (d : Drive) : (Drive.emit o d).holly = d.holly := rfl
@[simp] theorem Drive.emit_xp (o) (d : Drive) : (Drive.emit o d).xp = d.xp := rfl
@[simp] theorem Drive.emit_time (o) (d : Drive) : (Drive.emit o d).time = d.time := rfl
@[simp] theorem Drive.emit_sec (o) (d : Drive) : (Drive.emit o d).sec = d.sec := rfl
@[simp] theorem Drive.emit_mod (o) (d : Drive) : (Drive.emit o d).mod = d.mod := rfl
@[simp] theorem Drive.emit_port (o) (d : Drive) : (Drive.emit o d).port = d.port := rfl
@[simp] theorem Drive.emit_privet (o) (d : Drive) : (Drive.emit o d).privet = d.privet := rfl
@[simp] theorem Drive.emit_rec_ (o) (d : Drive) : (Drive.emit o d).rec_ = d.rec_ := rfl
@[simp] theorem Drive.emit_meter (o) (d : Drive) : (Drive.emit o d).meter = d.meter := rfl
@[simp] theorem Drive.emit_power (o) (d : Drive) : (Drive.emit o d).power = d.power := rfl
@[simp] theorem Drive.emit_therm (o) (d : Drive) : (Drive.emit o d).therm = d.therm := rfl
@[simp] theorem Drive.emit_health (o) (d : Drive) : (Drive.emit o d).health = d.health := rfl
@[simp] theorem Drive.emit_flag (o) (d : Drive) : (Drive.emit o d).flag = d.flag := rfl
@[simp] theorem Drive.emit_optf (o) (d : Drive) : (Drive.emit o d).optf = d.optf := rfl
@[simp] theorem Drive.emit_jobs (o) (d : Drive) : (Drive.emit o d).jobs = d.jobs := rfl
@[simp] theorem Drive.emit_chans (o) (d : Drive) : (Drive.emit o d).chans = d.chans := rfl
@[simp] theorem Drive.emit_healthSaved (o) (d : Drive) : (Drive.emit o d).healthSaved = d.healthSaved := rfl
@[simp] theorem Drive.emit_ident (o) (d : Drive) : (Drive.emit o d).ident = d.ident := rfl
@[simp] theorem Drive.emit_free (o) (d : Drive) : (Drive.emit o d).free = d.free := rfl
@[simp] theorem Drive.modPort_kv (p) (f) (d : Drive) : (Drive.modPort p f d).kv = d.kv := rfl
@[simp] theorem Drive.modPort_media (p) (f) (d : Drive) : (Drive.modPort p f d).media = d.media := rfl
@[simp] theorem Drive.modPort_twin (p) (f) (d : Drive) : (Drive.modPort p f d).twin = d.twin := rfl
@[simp] theorem Drive.modPort_ring (p) (f) (d : Drive) : (Drive.modPort p f d).ring = d.ring := rfl
@[simp] theorem Drive.modPort_keys (p) (f) (d : Drive) : (Drive.modPort p f d).keys = d.keys := rfl
@[simp] theorem Drive.modPort_holly (p) (f) (d : Drive) : (Drive.modPort p f d).holly = d.holly := rfl
@[simp] theorem Drive.modPort_xp (p) (f) (d : Drive) : (Drive.modPort p f d).xp = d.xp := rfl
@[simp] theorem Drive.modPort_time (p) (f) (d : Drive) : (Drive.modPort p f d).time = d.time := rfl
@[simp] theorem Drive.modPort_sec (p) (f) (d : Drive) : (Drive.modPort p f d).sec = d.sec := rfl
@[simp] theorem Drive.modPort_mod (p) (f) (d : Drive) : (Drive.modPort p f d).mod = d.mod := rfl
@[simp] theorem Drive.modPort_privet (p) (f) (d : Drive) : (Drive.modPort p f d).privet = d.privet := rfl
@[simp] theorem Drive.modPort_rec_ (p) (f) (d : Drive) : (Drive.modPort p f d).rec_ = d.rec_ := rfl
@[simp] theorem Drive.modPort_meter (p) (f) (d : Drive) : (Drive.modPort p f d).meter = d.meter := rfl
@[simp] theorem Drive.modPort_power (p) (f) (d : Drive) : (Drive.modPort p f d).power = d.power := rfl
@[simp] theorem Drive.modPort_therm (p) (f) (d : Drive) : (Drive.modPort p f d).therm = d.therm := rfl
@[simp] theorem Drive.modPort_health (p) (f) (d : Drive) : (Drive.modPort p f d).health = d.health := rfl
@[simp] theorem Drive.modPort_flag (p) (f) (d : Drive) : (Drive.modPort p f d).flag = d.flag := rfl
@[simp] theorem Drive.modPort_optf (p) (f) (d : Drive) : (Drive.modPort p f d).optf = d.optf := rfl
@[simp] theorem Drive.modPort_jobs (p) (f) (d : Drive) : (Drive.modPort p f d).jobs = d.jobs := rfl
@[simp] theorem Drive.modPort_chans (p) (f) (d : Drive) : (Drive.modPort p f d).chans = d.chans := rfl
@[simp] theorem Drive.modPort_healthSaved (p) (f) (d : Drive) : (Drive.modPort p f d).healthSaved = d.healthSaved := rfl
@[simp] theorem Drive.modPort_ident (p) (f) (d : Drive) : (Drive.modPort p f d).ident = d.ident := rfl
@[simp] theorem Drive.modPort_out (p) (f) (d : Drive) : (Drive.modPort p f d).out = d.out := rfl
@[simp] theorem Drive.modPort_free (p) (f) (d : Drive) : (Drive.modPort p f d).free = d.free := rfl
@[simp] theorem Drive.setSess_kv (sid) (s) (d : Drive) : (Drive.setSess sid s d).kv = d.kv := rfl
@[simp] theorem Drive.setSess_media (sid) (s) (d : Drive) : (Drive.setSess sid s d).media = d.media := rfl
@[simp] theorem Drive.setSess_twin (sid) (s) (d : Drive) : (Drive.setSess sid s d).twin = d.twin := rfl
@[simp] theorem Drive.setSess_ring (sid) (s) (d : Drive) : (Drive.setSess sid s d).ring = d.ring := rfl
@[simp] theorem Drive.setSess_keys (sid) (s) (d : Drive) : (Drive.setSess sid s d).keys = d.keys := rfl
@[simp] theorem Drive.setSess_holly (sid) (s) (d : Drive) : (Drive.setSess sid s d).holly = d.holly := rfl
@[simp] theorem Drive.setSess_time (sid) (s) (d : Drive) : (Drive.setSess sid s d).time = d.time := rfl
@[simp] theorem Drive.setSess_sec (sid) (s) (d : Drive) : (Drive.setSess sid s d).sec = d.sec := rfl
@[simp] theorem Drive.setSess_mod (sid) (s) (d : Drive) : (Drive.setSess sid s d).mod = d.mod := rfl
@[simp] theorem Drive.setSess_port (sid) (s) (d : Drive) : (Drive.setSess sid s d).port = d.port := rfl
@[simp] theorem Drive.setSess_privet (sid) (s) (d : Drive) : (Drive.setSess sid s d).privet = d.privet := rfl
@[simp] theorem Drive.setSess_rec_ (sid) (s) (d : Drive) : (Drive.setSess sid s d).rec_ = d.rec_ := rfl
@[simp] theorem Drive.setSess_meter (sid) (s) (d : Drive) : (Drive.setSess sid s d).meter = d.meter := rfl
@[simp] theorem Drive.setSess_power (sid) (s) (d : Drive) : (Drive.setSess sid s d).power = d.power := rfl
@[simp] theorem Drive.setSess_therm (sid) (s) (d : Drive) : (Drive.setSess sid s d).therm = d.therm := rfl
@[simp] theorem Drive.setSess_health (sid) (s) (d : Drive) : (Drive.setSess sid s d).health = d.health := rfl
@[simp] theorem Drive.setSess_flag (sid) (s) (d : Drive) : (Drive.setSess sid s d).flag = d.flag := rfl
@[simp] theorem Drive.setSess_optf (sid) (s) (d : Drive) : (Drive.setSess sid s d).optf = d.optf := rfl
@[simp] theorem Drive.setSess_jobs (sid) (s) (d : Drive) : (Drive.setSess sid s d).jobs = d.jobs := rfl
@[simp] theorem Drive.setSess_chans (sid) (s) (d : Drive) : (Drive.setSess sid s d).chans = d.chans := rfl
@[simp] theorem Drive.setSess_healthSaved (sid) (s) (d : Drive) : (Drive.setSess sid s d).healthSaved = d.healthSaved := rfl
@[simp] theorem Drive.setSess_ident (sid) (s) (d : Drive) : (Drive.setSess sid s d).ident = d.ident := rfl
@[simp] theorem Drive.setSess_out (sid) (s) (d : Drive) : (Drive.setSess sid s d).out = d.out := rfl
@[simp] theorem Drive.setSess_free (sid) (s) (d : Drive) : (Drive.setSess sid s d).free = d.free := rfl
@[simp] theorem Drive.modSess_kv (sid) (f) (d : Drive) : (Drive.modSess sid f d).kv = d.kv := rfl
@[simp] theorem Drive.modSess_media (sid) (f) (d : Drive) : (Drive.modSess sid f d).media = d.media := rfl
@[simp] theorem Drive.modSess_twin (sid) (f) (d : Drive) : (Drive.modSess sid f d).twin = d.twin := rfl
@[simp] theorem Drive.modSess_ring (sid) (f) (d : Drive) : (Drive.modSess sid f d).ring = d.ring := rfl
@[simp] theorem Drive.modSess_keys (sid) (f) (d : Drive) : (Drive.modSess sid f d).keys = d.keys := rfl
@[simp] theorem Drive.modSess_holly (sid) (f) (d : Drive) : (Drive.modSess sid f d).holly = d.holly := rfl
@[simp] theorem Drive.modSess_time (sid) (f) (d : Drive) : (Drive.modSess sid f d).time = d.time := rfl
@[simp] theorem Drive.modSess_sec (sid) (f) (d : Drive) : (Drive.modSess sid f d).sec = d.sec := rfl
@[simp] theorem Drive.modSess_mod (sid) (f) (d : Drive) : (Drive.modSess sid f d).mod = d.mod := rfl
@[simp] theorem Drive.modSess_port (sid) (f) (d : Drive) : (Drive.modSess sid f d).port = d.port := rfl
@[simp] theorem Drive.modSess_privet (sid) (f) (d : Drive) : (Drive.modSess sid f d).privet = d.privet := rfl
@[simp] theorem Drive.modSess_rec_ (sid) (f) (d : Drive) : (Drive.modSess sid f d).rec_ = d.rec_ := rfl
@[simp] theorem Drive.modSess_meter (sid) (f) (d : Drive) : (Drive.modSess sid f d).meter = d.meter := rfl
@[simp] theorem Drive.modSess_power (sid) (f) (d : Drive) : (Drive.modSess sid f d).power = d.power := rfl
@[simp] theorem Drive.modSess_therm (sid) (f) (d : Drive) : (Drive.modSess sid f d).therm = d.therm := rfl
@[simp] theorem Drive.modSess_health (sid) (f) (d : Drive) : (Drive.modSess sid f d).health = d.health := rfl
@[simp] theorem Drive.modSess_flag (sid) (f) (d : Drive) : (Drive.modSess sid f d).flag = d.flag := rfl
@[simp] theorem Drive.modSess_optf (sid) (f) (d : Drive) : (Drive.modSess sid f d).optf = d.optf := rfl
@[simp] theorem Drive.modSess_jobs (sid) (f) (d : Drive) : (Drive.modSess sid f d).jobs = d.jobs := rfl
@[simp] theorem Drive.modSess_chans (sid) (f) (d : Drive) : (Drive.modSess sid f d).chans = d.chans := rfl
@[simp] theorem Drive.modSess_healthSaved (sid) (f) (d : Drive) : (Drive.modSess sid f d).healthSaved = d.healthSaved := rfl
@[simp] theorem Drive.modSess_ident (sid) (f) (d : Drive) : (Drive.modSess sid f d).ident = d.ident := rfl
@[simp] theorem Drive.modSess_out (sid) (f) (d : Drive) : (Drive.modSess sid f d).out = d.out := rfl
@[simp] theorem Drive.modSess_free (sid) (f) (d : Drive) : (Drive.modSess sid f d).free = d.free := rfl
@[simp] theorem Drive.setSslot_kv (sid) (s) (d : Drive) : (Drive.setSslot sid s d).kv = d.kv := rfl
@[simp] theorem Drive.setSslot_media (sid) (s) (d : Drive) : (Drive.setSslot sid s d).media = d.media := rfl
@[simp] theorem Drive.setSslot_twin (sid) (s) (d : Drive) : (Drive.setSslot sid s d).twin = d.twin := rfl
@[simp] theorem Drive.setSslot_ring (sid) (s) (d : Drive) : (Drive.setSslot sid s d).ring = d.ring := rfl
@[simp] theorem Drive.setSslot_holly (sid) (s) (d : Drive) : (Drive.setSslot sid s d).holly = d.holly := rfl
@[simp] theorem Drive.setSslot_xp (sid) (s) (d : Drive) : (Drive.setSslot sid s d).xp = d.xp := rfl
@[simp] theorem Drive.setSslot_time (sid) (s) (d : Drive) : (Drive.setSslot sid s d).time = d.time := rfl
@[simp] theorem Drive.setSslot_sec (sid) (s) (d : Drive) : (Drive.setSslot sid s d).sec = d.sec := rfl
@[simp] theorem Drive.setSslot_mod (sid) (s) (d : Drive) : (Drive.setSslot sid s d).mod = d.mod := rfl
@[simp] theorem Drive.setSslot_port (sid) (s) (d : Drive) : (Drive.setSslot sid s d).port = d.port := rfl
@[simp] theorem Drive.setSslot_privet (sid) (s) (d : Drive) : (Drive.setSslot sid s d).privet = d.privet := rfl
@[simp] theorem Drive.setSslot_rec_ (sid) (s) (d : Drive) : (Drive.setSslot sid s d).rec_ = d.rec_ := rfl
@[simp] theorem Drive.setSslot_meter (sid) (s) (d : Drive) : (Drive.setSslot sid s d).meter = d.meter := rfl
@[simp] theorem Drive.setSslot_power (sid) (s) (d : Drive) : (Drive.setSslot sid s d).power = d.power := rfl
@[simp] theorem Drive.setSslot_therm (sid) (s) (d : Drive) : (Drive.setSslot sid s d).therm = d.therm := rfl
@[simp] theorem Drive.setSslot_health (sid) (s) (d : Drive) : (Drive.setSslot sid s d).health = d.health := rfl
@[simp] theorem Drive.setSslot_flag (sid) (s) (d : Drive) : (Drive.setSslot sid s d).flag = d.flag := rfl
@[simp] theorem Drive.setSslot_optf (sid) (s) (d : Drive) : (Drive.setSslot sid s d).optf = d.optf := rfl
@[simp] theorem Drive.setSslot_jobs (sid) (s) (d : Drive) : (Drive.setSslot sid s d).jobs = d.jobs := rfl
@[simp] theorem Drive.setSslot_chans (sid) (s) (d : Drive) : (Drive.setSslot sid s d).chans = d.chans := rfl
@[simp] theorem Drive.setSslot_healthSaved (sid) (s) (d : Drive) : (Drive.setSslot sid s d).healthSaved = d.healthSaved := rfl
@[simp] theorem Drive.setSslot_ident (sid) (s) (d : Drive) : (Drive.setSslot sid s d).ident = d.ident := rfl
@[simp] theorem Drive.setSslot_out (sid) (s) (d : Drive) : (Drive.setSslot sid s d).out = d.out := rfl
@[simp] theorem Drive.setSslot_free (sid) (s) (d : Drive) : (Drive.setSslot sid s d).free = d.free := rfl
@[simp] theorem Drive.modAcc_kv (t) (f) (d : Drive) : (Drive.modAcc t f d).kv = d.kv := rfl
@[simp] theorem Drive.modAcc_media (t) (f) (d : Drive) : (Drive.modAcc t f d).media = d.media := rfl
@[simp] theorem Drive.modAcc_twin (t) (f) (d : Drive) : (Drive.modAcc t f d).twin = d.twin := rfl
@[simp] theorem Drive.modAcc_ring (t) (f) (d : Drive) : (Drive.modAcc t f d).ring = d.ring := rfl
@[simp] theorem Drive.modAcc_keys (t) (f) (d : Drive) : (Drive.modAcc t f d).keys = d.keys := rfl
@[simp] theorem Drive.modAcc_holly (t) (f) (d : Drive) : (Drive.modAcc t f d).holly = d.holly := rfl
@[simp] theorem Drive.modAcc_xp (t) (f) (d : Drive) : (Drive.modAcc t f d).xp = d.xp := rfl
@[simp] theorem Drive.modAcc_time (t) (f) (d : Drive) : (Drive.modAcc t f d).time = d.time := rfl
@[simp] theorem Drive.modAcc_sec (t) (f) (d : Drive) : (Drive.modAcc t f d).sec = d.sec := rfl
@[simp] theorem Drive.modAcc_mod (t) (f) (d : Drive) : (Drive.modAcc t f d).mod = d.mod := rfl
@[simp] theorem Drive.modAcc_port (t) (f) (d : Drive) : (Drive.modAcc t f d).port = d.port := rfl
@[simp] theorem Drive.modAcc_privet (t) (f) (d : Drive) : (Drive.modAcc t f d).privet = d.privet := rfl
@[simp] theorem Drive.modAcc_rec_ (t) (f) (d : Drive) : (Drive.modAcc t f d).rec_ = d.rec_ := rfl
@[simp] theorem Drive.modAcc_power (t) (f) (d : Drive) : (Drive.modAcc t f d).power = d.power := rfl
@[simp] theorem Drive.modAcc_therm (t) (f) (d : Drive) : (Drive.modAcc t f d).therm = d.therm := rfl
@[simp] theorem Drive.modAcc_health (t) (f) (d : Drive) : (Drive.modAcc t f d).health = d.health := rfl
@[simp] theorem Drive.modAcc_flag (t) (f) (d : Drive) : (Drive.modAcc t f d).flag = d.flag := rfl
@[simp] theorem Drive.modAcc_optf (t) (f) (d : Drive) : (Drive.modAcc t f d).optf = d.optf := rfl
@[simp] theorem Drive.modAcc_jobs (t) (f) (d : Drive) : (Drive.modAcc t f d).jobs = d.jobs := rfl
@[simp] theorem Drive.modAcc_chans (t) (f) (d : Drive) : (Drive.modAcc t f d).chans = d.chans := rfl
@[simp] theorem Drive.modAcc_healthSaved (t) (f) (d : Drive) : (Drive.modAcc t f d).healthSaved = d.healthSaved := rfl
@[simp] theorem Drive.modAcc_ident (t) (f) (d : Drive) : (Drive.modAcc t f d).ident = d.ident := rfl
@[simp] theorem Drive.modAcc_out (t) (f) (d : Drive) : (Drive.modAcc t f d).out = d.out := rfl
@[simp] theorem Drive.modAcc_free (t) (f) (d : Drive) : (Drive.modAcc t f d).free = d.free := rfl
@[simp] theorem Drive.addReq_media (r) (d : Drive) : (Drive.addReq r d).media = d.media := rfl
@[simp] theorem Drive.addReq_twin (r) (d : Drive) : (Drive.addReq r d).twin = d.twin := rfl
@[simp] theorem Drive.addReq_ring (r) (d : Drive) : (Drive.addReq r d).ring = d.ring := rfl
@[simp] theorem Drive.addReq_keys (r) (d : Drive) : (Drive.addReq r d).keys = d.keys := rfl
@[simp] theorem Drive.addReq_holly (r) (d : Drive) : (Drive.addReq r d).holly = d.holly := rfl
@[simp] theorem Drive.addReq_xp (r) (d : Drive) : (Drive.addReq r d).xp = d.xp := rfl
@[simp] theorem Drive.addReq_time (r) (d : Drive) : (Drive.addReq r d).time = d.time := rfl
@[simp] theorem Drive.addReq_sec (r) (d : Drive) : (Drive.addReq r d).sec = d.sec := rfl
@[simp] theorem Drive.addReq_mod (r) (d : Drive) : (Drive.addReq r d).mod = d.mod := rfl
@[simp] theorem Drive.addReq_port (r) (d : Drive) : (Drive.addReq r d).port = d.port := rfl
@[simp] theorem Drive.addReq_privet (r) (d : Drive) : (Drive.addReq r d).privet = d.privet := rfl
@[simp] theorem Drive.addReq_rec_ (r) (d : Drive) : (Drive.addReq r d).rec_ = d.rec_ := rfl
@[simp] theorem Drive.addReq_meter (r) (d : Drive) : (Drive.addReq r d).meter = d.meter := rfl
@[simp] theorem Drive.addReq_power (r) (d : Drive) : (Drive.addReq r d).power = d.power := rfl
@[simp] theorem Drive.addReq_therm (r) (d : Drive) : (Drive.addReq r d).therm = d.therm := rfl
@[simp] theorem Drive.addReq_health (r) (d : Drive) : (Drive.addReq r d).health = d.health := rfl
@[simp] theorem Drive.addReq_flag (r) (d : Drive) : (Drive.addReq r d).flag = d.flag := rfl
@[simp] theorem Drive.addReq_optf (r) (d : Drive) : (Drive.addReq r d).optf = d.optf := rfl
@[simp] theorem Drive.addReq_jobs (r) (d : Drive) : (Drive.addReq r d).jobs = d.jobs := rfl
@[simp] theorem Drive.addReq_chans (r) (d : Drive) : (Drive.addReq r d).chans = d.chans := rfl
@[simp] theorem Drive.addReq_healthSaved (r) (d : Drive) : (Drive.addReq r d).healthSaved = d.healthSaved := rfl
@[simp] theorem Drive.addReq_ident (r) (d : Drive) : (Drive.addReq r d).ident = d.ident := rfl
@[simp] theorem Drive.addReq_out (r) (d : Drive) : (Drive.addReq r d).out = d.out := rfl
@[simp] theorem Drive.addReq_free (r) (d : Drive) : (Drive.addReq r d).free = d.free := rfl
@[simp] theorem Drive.putReq_media (r) (d : Drive) : (Drive.putReq r d).media = d.media := rfl
@[simp] theorem Drive.putReq_twin (r) (d : Drive) : (Drive.putReq r d).twin = d.twin := rfl
@[simp] theorem Drive.putReq_ring (r) (d : Drive) : (Drive.putReq r d).ring = d.ring := rfl
@[simp] theorem Drive.putReq_keys (r) (d : Drive) : (Drive.putReq r d).keys = d.keys := rfl
@[simp] theorem Drive.putReq_holly (r) (d : Drive) : (Drive.putReq r d).holly = d.holly := rfl
@[simp] theorem Drive.putReq_xp (r) (d : Drive) : (Drive.putReq r d).xp = d.xp := rfl
@[simp] theorem Drive.putReq_time (r) (d : Drive) : (Drive.putReq r d).time = d.time := rfl
@[simp] theorem Drive.putReq_sec (r) (d : Drive) : (Drive.putReq r d).sec = d.sec := rfl
@[simp] theorem Drive.putReq_mod (r) (d : Drive) : (Drive.putReq r d).mod = d.mod := rfl
@[simp] theorem Drive.putReq_port (r) (d : Drive) : (Drive.putReq r d).port = d.port := rfl
@[simp] theorem Drive.putReq_privet (r) (d : Drive) : (Drive.putReq r d).privet = d.privet := rfl
@[simp] theorem Drive.putReq_rec_ (r) (d : Drive) : (Drive.putReq r d).rec_ = d.rec_ := rfl
@[simp] theorem Drive.putReq_meter (r) (d : Drive) : (Drive.putReq r d).meter = d.meter := rfl
@[simp] theorem Drive.putReq_power (r) (d : Drive) : (Drive.putReq r d).power = d.power := rfl
@[simp] theorem Drive.putReq_therm (r) (d : Drive) : (Drive.putReq r d).therm = d.therm := rfl
@[simp] theorem Drive.putReq_health (r) (d : Drive) : (Drive.putReq r d).health = d.health := rfl
@[simp] theorem Drive.putReq_flag (r) (d : Drive) : (Drive.putReq r d).flag = d.flag := rfl
@[simp] theorem Drive.putReq_optf (r) (d : Drive) : (Drive.putReq r d).optf = d.optf := rfl
@[simp] theorem Drive.putReq_jobs (r) (d : Drive) : (Drive.putReq r d).jobs = d.jobs := rfl
@[simp] theorem Drive.putReq_chans (r) (d : Drive) : (Drive.putReq r d).chans = d.chans := rfl
@[simp] theorem Drive.putReq_healthSaved (r) (d : Drive) : (Drive.putReq r d).healthSaved = d.healthSaved := rfl
@[simp] theorem Drive.putReq_ident (r) (d : Drive) : (Drive.putReq r d).ident = d.ident := rfl
@[simp] theorem Drive.putReq_out (r) (d : Drive) : (Drive.putReq r d).out = d.out := rfl
@[simp] theorem Drive.putReq_free (r) (d : Drive) : (Drive.putReq r d).free = d.free := rfl
@[simp] theorem Drive.dropReq_media (o) (d : Drive) : (Drive.dropReq o d).media = d.media := rfl
@[simp] theorem Drive.dropReq_twin (o) (d : Drive) : (Drive.dropReq o d).twin = d.twin := rfl
@[simp] theorem Drive.dropReq_ring (o) (d : Drive) : (Drive.dropReq o d).ring = d.ring := rfl
@[simp] theorem Drive.dropReq_keys (o) (d : Drive) : (Drive.dropReq o d).keys = d.keys := rfl
@[simp] theorem Drive.dropReq_holly (o) (d : Drive) : (Drive.dropReq o d).holly = d.holly := rfl
@[simp] theorem Drive.dropReq_xp (o) (d : Drive) : (Drive.dropReq o d).xp = d.xp := rfl
@[simp] theorem Drive.dropReq_time (o) (d : Drive) : (Drive.dropReq o d).time = d.time := rfl
@[simp] theorem Drive.dropReq_sec (o) (d : Drive) : (Drive.dropReq o d).sec = d.sec := rfl
@[simp] theorem Drive.dropReq_mod (o) (d : Drive) : (Drive.dropReq o d).mod = d.mod := rfl
@[simp] theorem Drive.dropReq_port (o) (d : Drive) : (Drive.dropReq o d).port = d.port := rfl
@[simp] theorem Drive.dropReq_privet (o) (d : Drive) : (Drive.dropReq o d).privet = d.privet := rfl
@[simp] theorem Drive.dropReq_rec_ (o) (d : Drive) : (Drive.dropReq o d).rec_ = d.rec_ := rfl
@[simp] theorem Drive.dropReq_meter (o) (d : Drive) : (Drive.dropReq o d).meter = d.meter := rfl
@[simp] theorem Drive.dropReq_power (o) (d : Drive) : (Drive.dropReq o d).power = d.power := rfl
@[simp] theorem Drive.dropReq_therm (o) (d : Drive) : (Drive.dropReq o d).therm = d.therm := rfl
@[simp] theorem Drive.dropReq_health (o) (d : Drive) : (Drive.dropReq o d).health = d.health := rfl
@[simp] theorem Drive.dropReq_flag (o) (d : Drive) : (Drive.dropReq o d).flag = d.flag := rfl
@[simp] theorem Drive.dropReq_optf (o) (d : Drive) : (Drive.dropReq o d).optf = d.optf := rfl
@[simp] theorem Drive.dropReq_jobs (o) (d : Drive) : (Drive.dropReq o d).jobs = d.jobs := rfl
@[simp] theorem Drive.dropReq_chans (o) (d : Drive) : (Drive.dropReq o d).chans = d.chans := rfl
@[simp] theorem Drive.dropReq_healthSaved (o) (d : Drive) : (Drive.dropReq o d).healthSaved = d.healthSaved := rfl
@[simp] theorem Drive.dropReq_ident (o) (d : Drive) : (Drive.dropReq o d).ident = d.ident := rfl
@[simp] theorem Drive.dropReq_out (o) (d : Drive) : (Drive.dropReq o d).out = d.out := rfl
@[simp] theorem Drive.dropReq_free (o) (d : Drive) : (Drive.dropReq o d).free = d.free := rfl
@[simp] theorem Drive.setNs_media (n) (x) (d : Drive) : (Drive.setNs n x d).media = d.media := rfl
@[simp] theorem Drive.setNs_twin (n) (x) (d : Drive) : (Drive.setNs n x d).twin = d.twin := rfl
@[simp] theorem Drive.setNs_ring (n) (x) (d : Drive) : (Drive.setNs n x d).ring = d.ring := rfl
@[simp] theorem Drive.setNs_keys (n) (x) (d : Drive) : (Drive.setNs n x d).keys = d.keys := rfl
@[simp] theorem Drive.setNs_holly (n) (x) (d : Drive) : (Drive.setNs n x d).holly = d.holly := rfl
@[simp] theorem Drive.setNs_xp (n) (x) (d : Drive) : (Drive.setNs n x d).xp = d.xp := rfl
@[simp] theorem Drive.setNs_time (n) (x) (d : Drive) : (Drive.setNs n x d).time = d.time := rfl
@[simp] theorem Drive.setNs_sec (n) (x) (d : Drive) : (Drive.setNs n x d).sec = d.sec := rfl
@[simp] theorem Drive.setNs_mod (n) (x) (d : Drive) : (Drive.setNs n x d).mod = d.mod := rfl
@[simp] theorem Drive.setNs_port (n) (x) (d : Drive) : (Drive.setNs n x d).port = d.port := rfl
@[simp] theorem Drive.setNs_privet (n) (x) (d : Drive) : (Drive.setNs n x d).privet = d.privet := rfl
@[simp] theorem Drive.setNs_rec_ (n) (x) (d : Drive) : (Drive.setNs n x d).rec_ = d.rec_ := rfl
@[simp] theorem Drive.setNs_meter (n) (x) (d : Drive) : (Drive.setNs n x d).meter = d.meter := rfl
@[simp] theorem Drive.setNs_power (n) (x) (d : Drive) : (Drive.setNs n x d).power = d.power := rfl
@[simp] theorem Drive.setNs_therm (n) (x) (d : Drive) : (Drive.setNs n x d).therm = d.therm := rfl
@[simp] theorem Drive.setNs_health (n) (x) (d : Drive) : (Drive.setNs n x d).health = d.health := rfl
@[simp] theorem Drive.setNs_flag (n) (x) (d : Drive) : (Drive.setNs n x d).flag = d.flag := rfl
@[simp] theorem Drive.setNs_optf (n) (x) (d : Drive) : (Drive.setNs n x d).optf = d.optf := rfl
@[simp] theorem Drive.setNs_jobs (n) (x) (d : Drive) : (Drive.setNs n x d).jobs = d.jobs := rfl
@[simp] theorem Drive.setNs_chans (n) (x) (d : Drive) : (Drive.setNs n x d).chans = d.chans := rfl
@[simp] theorem Drive.setNs_healthSaved (n) (x) (d : Drive) : (Drive.setNs n x d).healthSaved = d.healthSaved := rfl
@[simp] theorem Drive.setNs_ident (n) (x) (d : Drive) : (Drive.setNs n x d).ident = d.ident := rfl
@[simp] theorem Drive.setNs_out (n) (x) (d : Drive) : (Drive.setNs n x d).out = d.out := rfl
@[simp] theorem Drive.setNs_free (n) (x) (d : Drive) : (Drive.setNs n x d).free = d.free := rfl
@[simp] theorem Drive.modNs_media (n) (f) (d : Drive) : (Drive.modNs n f d).media = d.media := rfl
@[simp] theorem Drive.modNs_twin (n) (f) (d : Drive) : (Drive.modNs n f d).twin = d.twin := rfl
@[simp] theorem Drive.modNs_ring (n) (f) (d : Drive) : (Drive.modNs n f d).ring = d.ring := rfl
@[simp] theorem Drive.modNs_keys (n) (f) (d : Drive) : (Drive.modNs n f d).keys = d.keys := rfl
@[simp] theorem Drive.modNs_holly (n) (f) (d : Drive) : (Drive.modNs n f d).holly = d.holly := rfl
@[simp] theorem Drive.modNs_xp (n) (f) (d : Drive) : (Drive.modNs n f d).xp = d.xp := rfl
@[simp] theorem Drive.modNs_time (n) (f) (d : Drive) : (Drive.modNs n f d).time = d.time := rfl
@[simp] theorem Drive.modNs_sec (n) (f) (d : Drive) : (Drive.modNs n f d).sec = d.sec := rfl
@[simp] theorem Drive.modNs_mod (n) (f) (d : Drive) : (Drive.modNs n f d).mod = d.mod := rfl
@[simp] theorem Drive.modNs_port (n) (f) (d : Drive) : (Drive.modNs n f d).port = d.port := rfl
@[simp] theorem Drive.modNs_privet (n) (f) (d : Drive) : (Drive.modNs n f d).privet = d.privet := rfl
@[simp] theorem Drive.modNs_rec_ (n) (f) (d : Drive) : (Drive.modNs n f d).rec_ = d.rec_ := rfl
@[simp] theorem Drive.modNs_meter (n) (f) (d : Drive) : (Drive.modNs n f d).meter = d.meter := rfl
@[simp] theorem Drive.modNs_power (n) (f) (d : Drive) : (Drive.modNs n f d).power = d.power := rfl
@[simp] theorem Drive.modNs_therm (n) (f) (d : Drive) : (Drive.modNs n f d).therm = d.therm := rfl
@[simp] theorem Drive.modNs_health (n) (f) (d : Drive) : (Drive.modNs n f d).health = d.health := rfl
@[simp] theorem Drive.modNs_flag (n) (f) (d : Drive) : (Drive.modNs n f d).flag = d.flag := rfl
@[simp] theorem Drive.modNs_optf (n) (f) (d : Drive) : (Drive.modNs n f d).optf = d.optf := rfl
@[simp] theorem Drive.modNs_jobs (n) (f) (d : Drive) : (Drive.modNs n f d).jobs = d.jobs := rfl
@[simp] theorem Drive.modNs_chans (n) (f) (d : Drive) : (Drive.modNs n f d).chans = d.chans := rfl
@[simp] theorem Drive.modNs_healthSaved (n) (f) (d : Drive) : (Drive.modNs n f d).healthSaved = d.healthSaved := rfl
@[simp] theorem Drive.modNs_ident (n) (f) (d : Drive) : (Drive.modNs n f d).ident = d.ident := rfl
@[simp] theorem Drive.modNs_out (n) (f) (d : Drive) : (Drive.modNs n f d).out = d.out := rfl
@[simp] theorem Drive.modNs_free (n) (f) (d : Drive) : (Drive.modNs n f d).free = d.free := rfl
@[simp] theorem Drive.setSb_kv (n) (s) (d : Drive) : (Drive.setSb n s d).kv = d.kv := rfl
@[simp] theorem Drive.setSb_twin (n) (s) (d : Drive) : (Drive.setSb n s d).twin = d.twin := rfl
@[simp] theorem Drive.setSb_ring (n) (s) (d : Drive) : (Drive.setSb n s d).ring = d.ring := rfl
@[simp] theorem Drive.setSb_keys (n) (s) (d : Drive) : (Drive.setSb n s d).keys = d.keys := rfl
@[simp] theorem Drive.setSb_holly (n) (s) (d : Drive) : (Drive.setSb n s d).holly = d.holly := rfl
@[simp] theorem Drive.setSb_xp (n) (s) (d : Drive) : (Drive.setSb n s d).xp = d.xp := rfl
@[simp] theorem Drive.setSb_time (n) (s) (d : Drive) : (Drive.setSb n s d).time = d.time := rfl
@[simp] theorem Drive.setSb_sec (n) (s) (d : Drive) : (Drive.setSb n s d).sec = d.sec := rfl
@[simp] theorem Drive.setSb_mod (n) (s) (d : Drive) : (Drive.setSb n s d).mod = d.mod := rfl
@[simp] theorem Drive.setSb_port (n) (s) (d : Drive) : (Drive.setSb n s d).port = d.port := rfl
@[simp] theorem Drive.setSb_privet (n) (s) (d : Drive) : (Drive.setSb n s d).privet = d.privet := rfl
@[simp] theorem Drive.setSb_rec_ (n) (s) (d : Drive) : (Drive.setSb n s d).rec_ = d.rec_ := rfl
@[simp] theorem Drive.setSb_meter (n) (s) (d : Drive) : (Drive.setSb n s d).meter = d.meter := rfl
@[simp] theorem Drive.setSb_power (n) (s) (d : Drive) : (Drive.setSb n s d).power = d.power := rfl
@[simp] theorem Drive.setSb_therm (n) (s) (d : Drive) : (Drive.setSb n s d).therm = d.therm := rfl
@[simp] theorem Drive.setSb_health (n) (s) (d : Drive) : (Drive.setSb n s d).health = d.health := rfl
@[simp] theorem Drive.setSb_flag (n) (s) (d : Drive) : (Drive.setSb n s d).flag = d.flag := rfl
@[simp] theorem Drive.setSb_optf (n) (s) (d : Drive) : (Drive.setSb n s d).optf = d.optf := rfl
@[simp] theorem Drive.setSb_jobs (n) (s) (d : Drive) : (Drive.setSb n s d).jobs = d.jobs := rfl
@[simp] theorem Drive.setSb_chans (n) (s) (d : Drive) : (Drive.setSb n s d).chans = d.chans := rfl
@[simp] theorem Drive.setSb_healthSaved (n) (s) (d : Drive) : (Drive.setSb n s d).healthSaved = d.healthSaved := rfl
@[simp] theorem Drive.setSb_ident (n) (s) (d : Drive) : (Drive.setSb n s d).ident = d.ident := rfl
@[simp] theorem Drive.setSb_out (n) (s) (d : Drive) : (Drive.setSb n s d).out = d.out := rfl
@[simp] theorem Drive.setSb_free (n) (s) (d : Drive) : (Drive.setSb n s d).free = d.free := rfl
@[simp] theorem Drive.modSb_kv (n) (f) (d : Drive) : (Drive.modSb n f d).kv = d.kv := rfl
@[simp] theorem Drive.modSb_twin (n) (f) (d : Drive) : (Drive.modSb n f d).twin = d.twin := rfl
@[simp] theorem Drive.modSb_ring (n) (f) (d : Drive) : (Drive.modSb n f d).ring = d.ring := rfl
@[simp] theorem Drive.modSb_keys (n) (f) (d : Drive) : (Drive.modSb n f d).keys = d.keys := rfl
@[simp] theorem Drive.modSb_holly (n) (f) (d : Drive) : (Drive.modSb n f d).holly = d.holly := rfl
@[simp] theorem Drive.modSb_xp (n) (f) (d : Drive) : (Drive.modSb n f d).xp = d.xp := rfl
@[simp] theorem Drive.modSb_time (n) (f) (d : Drive) : (Drive.modSb n f d).time = d.time := rfl
@[simp] theorem Drive.modSb_sec (n) (f) (d : Drive) : (Drive.modSb n f d).sec = d.sec := rfl
@[simp] theorem Drive.modSb_mod (n) (f) (d : Drive) : (Drive.modSb n f d).mod = d.mod := rfl
@[simp] theorem Drive.modSb_port (n) (f) (d : Drive) : (Drive.modSb n f d).port = d.port := rfl
@[simp] theorem Drive.modSb_privet (n) (f) (d : Drive) : (Drive.modSb n f d).privet = d.privet := rfl
@[simp] theorem Drive.modSb_rec_ (n) (f) (d : Drive) : (Drive.modSb n f d).rec_ = d.rec_ := rfl
@[simp] theorem Drive.modSb_meter (n) (f) (d : Drive) : (Drive.modSb n f d).meter = d.meter := rfl
@[simp] theorem Drive.modSb_power (n) (f) (d : Drive) : (Drive.modSb n f d).power = d.power := rfl
@[simp] theorem Drive.modSb_therm (n) (f) (d : Drive) : (Drive.modSb n f d).therm = d.therm := rfl
@[simp] theorem Drive.modSb_health (n) (f) (d : Drive) : (Drive.modSb n f d).health = d.health := rfl
@[simp] theorem Drive.modSb_flag (n) (f) (d : Drive) : (Drive.modSb n f d).flag = d.flag := rfl
@[simp] theorem Drive.modSb_optf (n) (f) (d : Drive) : (Drive.modSb n f d).optf = d.optf := rfl
@[simp] theorem Drive.modSb_jobs (n) (f) (d : Drive) : (Drive.modSb n f d).jobs = d.jobs := rfl
@[simp] theorem Drive.modSb_chans (n) (f) (d : Drive) : (Drive.modSb n f d).chans = d.chans := rfl
@[simp] theorem Drive.modSb_healthSaved (n) (f) (d : Drive) : (Drive.modSb n f d).healthSaved = d.healthSaved := rfl
@[simp] theorem Drive.modSb_ident (n) (f) (d : Drive) : (Drive.modSb n f d).ident = d.ident := rfl
@[simp] theorem Drive.modSb_out (n) (f) (d : Drive) : (Drive.modSb n f d).out = d.out := rfl
@[simp] theorem Drive.modSb_free (n) (f) (d : Drive) : (Drive.modSb n f d).free = d.free := rfl
@[simp] theorem Drive.setStslot_kv (i) (s) (d : Drive) : (Drive.setStslot i s d).kv = d.kv := rfl
@[simp] theorem Drive.setStslot_media (i) (s) (d : Drive) : (Drive.setStslot i s d).media = d.media := rfl
@[simp] theorem Drive.setStslot_twin (i) (s) (d : Drive) : (Drive.setStslot i s d).twin = d.twin := rfl
@[simp] theorem Drive.setStslot_ring (i) (s) (d : Drive) : (Drive.setStslot i s d).ring = d.ring := rfl
@[simp] theorem Drive.setStslot_holly (i) (s) (d : Drive) : (Drive.setStslot i s d).holly = d.holly := rfl
@[simp] theorem Drive.setStslot_xp (i) (s) (d : Drive) : (Drive.setStslot i s d).xp = d.xp := rfl
@[simp] theorem Drive.setStslot_time (i) (s) (d : Drive) : (Drive.setStslot i s d).time = d.time := rfl
@[simp] theorem Drive.setStslot_sec (i) (s) (d : Drive) : (Drive.setStslot i s d).sec = d.sec := rfl
@[simp] theorem Drive.setStslot_mod (i) (s) (d : Drive) : (Drive.setStslot i s d).mod = d.mod := rfl
@[simp] theorem Drive.setStslot_port (i) (s) (d : Drive) : (Drive.setStslot i s d).port = d.port := rfl
@[simp] theorem Drive.setStslot_privet (i) (s) (d : Drive) : (Drive.setStslot i s d).privet = d.privet := rfl
@[simp] theorem Drive.setStslot_rec_ (i) (s) (d : Drive) : (Drive.setStslot i s d).rec_ = d.rec_ := rfl
@[simp] theorem Drive.setStslot_meter (i) (s) (d : Drive) : (Drive.setStslot i s d).meter = d.meter := rfl
@[simp] theorem Drive.setStslot_power (i) (s) (d : Drive) : (Drive.setStslot i s d).power = d.power := rfl
@[simp] theorem Drive.setStslot_therm (i) (s) (d : Drive) : (Drive.setStslot i s d).therm = d.therm := rfl
@[simp] theorem Drive.setStslot_health (i) (s) (d : Drive) : (Drive.setStslot i s d).health = d.health := rfl
@[simp] theorem Drive.setStslot_flag (i) (s) (d : Drive) : (Drive.setStslot i s d).flag = d.flag := rfl
@[simp] theorem Drive.setStslot_optf (i) (s) (d : Drive) : (Drive.setStslot i s d).optf = d.optf := rfl
@[simp] theorem Drive.setStslot_jobs (i) (s) (d : Drive) : (Drive.setStslot i s d).jobs = d.jobs := rfl
@[simp] theorem Drive.setStslot_chans (i) (s) (d : Drive) : (Drive.setStslot i s d).chans = d.chans := rfl
@[simp] theorem Drive.setStslot_healthSaved (i) (s) (d : Drive) : (Drive.setStslot i s d).healthSaved = d.healthSaved := rfl
@[simp] theorem Drive.setStslot_ident (i) (s) (d : Drive) : (Drive.setStslot i s d).ident = d.ident := rfl
@[simp] theorem Drive.setStslot_out (i) (s) (d : Drive) : (Drive.setStslot i s d).out = d.out := rfl
@[simp] theorem Drive.setStslot_free (i) (s) (d : Drive) : (Drive.setStslot i s d).free = d.free := rfl
@[simp] theorem Drive.delta_kv (x) (d : Drive) : (Drive.delta x d).kv = d.kv := rfl
@[simp] theorem Drive.delta_twin (x) (d : Drive) : (Drive.delta x d).twin = d.twin := rfl
@[simp] theorem Drive.delta_ring (x) (d : Drive) : (Drive.delta x d).ring = d.ring := rfl
@[simp] theorem Drive.delta_keys (x) (d : Drive) : (Drive.delta x d).keys = d.keys := rfl
@[simp] theorem Drive.delta_holly (x) (d : Drive) : (Drive.delta x d).holly = d.holly := rfl
@[simp] theorem Drive.delta_xp (x) (d : Drive) : (Drive.delta x d).xp = d.xp := rfl
@[simp] theorem Drive.delta_time (x) (d : Drive) : (Drive.delta x d).time = d.time := rfl
@[simp] theorem Drive.delta_sec (x) (d : Drive) : (Drive.delta x d).sec = d.sec := rfl
@[simp] theorem Drive.delta_mod (x) (d : Drive) : (Drive.delta x d).mod = d.mod := rfl
@[simp] theorem Drive.delta_port (x) (d : Drive) : (Drive.delta x d).port = d.port := rfl
@[simp] theorem Drive.delta_privet (x) (d : Drive) : (Drive.delta x d).privet = d.privet := rfl
@[simp] theorem Drive.delta_rec_ (x) (d : Drive) : (Drive.delta x d).rec_ = d.rec_ := rfl
@[simp] theorem Drive.delta_meter (x) (d : Drive) : (Drive.delta x d).meter = d.meter := rfl
@[simp] theorem Drive.delta_power (x) (d : Drive) : (Drive.delta x d).power = d.power := rfl
@[simp] theorem Drive.delta_therm (x) (d : Drive) : (Drive.delta x d).therm = d.therm := rfl
@[simp] theorem Drive.delta_health (x) (d : Drive) : (Drive.delta x d).health = d.health := rfl
@[simp] theorem Drive.delta_flag (x) (d : Drive) : (Drive.delta x d).flag = d.flag := rfl
@[simp] theorem Drive.delta_optf (x) (d : Drive) : (Drive.delta x d).optf = d.optf := rfl
@[simp] theorem Drive.delta_jobs (x) (d : Drive) : (Drive.delta x d).jobs = d.jobs := rfl
@[simp] theorem Drive.delta_chans (x) (d : Drive) : (Drive.delta x d).chans = d.chans := rfl
@[simp] theorem Drive.delta_healthSaved (x) (d : Drive) : (Drive.delta x d).healthSaved = d.healthSaved := rfl
@[simp] theorem Drive.delta_ident (x) (d : Drive) : (Drive.delta x d).ident = d.ident := rfl
@[simp] theorem Drive.delta_out (x) (d : Drive) : (Drive.delta x d).out = d.out := rfl
@[simp] theorem Drive.delta_free (x) (d : Drive) : (Drive.delta x d).free = d.free := rfl
@[simp] theorem Drive.twinDone_kv (opId) (d : Drive) : (Drive.twinDone opId d).kv = d.kv := rfl
@[simp] theorem Drive.twinDone_media (opId) (d : Drive) : (Drive.twinDone opId d).media = d.media := rfl
@[simp] theorem Drive.twinDone_ring (opId) (d : Drive) : (Drive.twinDone opId d).ring = d.ring := rfl
@[simp] theorem Drive.twinDone_keys (opId) (d : Drive) : (Drive.twinDone opId d).keys = d.keys := rfl
@[simp] theorem Drive.twinDone_holly (opId) (d : Drive) : (Drive.twinDone opId d).holly = d.holly := rfl
@[simp] theorem Drive.twinDone_xp (opId) (d : Drive) : (Drive.twinDone opId d).xp = d.xp := rfl
@[simp] theorem Drive.twinDone_time (opId) (d : Drive) : (Drive.twinDone opId d).time = d.time := rfl
@[simp] theorem Drive.twinDone_sec (opId) (d : Drive) : (Drive.twinDone opId d).sec = d.sec := rfl
@[simp] theorem Drive.twinDone_mod (opId) (d : Drive) : (Drive.twinDone opId d).mod = d.mod := rfl
@[simp] theorem Drive.twinDone_port (opId) (d : Drive) : (Drive.twinDone opId d).port = d.port := rfl
@[simp] theorem Drive.twinDone_privet (opId) (d : Drive) : (Drive.twinDone opId d).privet = d.privet := rfl
@[simp] theorem Drive.twinDone_rec_ (opId) (d : Drive) : (Drive.twinDone opId d).rec_ = d.rec_ := rfl
@[simp] theorem Drive.twinDone_meter (opId) (d : Drive) : (Drive.twinDone opId d).meter = d.meter := rfl
@[simp] theorem Drive.twinDone_power (opId) (d : Drive) : (Drive.twinDone opId d).power = d.power := rfl
@[simp] theorem Drive.twinDone_therm (opId) (d : Drive) : (Drive.twinDone opId d).therm = d.therm := rfl
@[simp] theorem Drive.twinDone_health (opId) (d : Drive) : (Drive.twinDone opId d).health = d.health := rfl
@[simp] theorem Drive.twinDone_flag (opId) (d : Drive) : (Drive.twinDone opId d).flag = d.flag := rfl
@[simp] theorem Drive.twinDone_optf (opId) (d : Drive) : (Drive.twinDone opId d).optf = d.optf := rfl
@[simp] theorem Drive.twinDone_jobs (opId) (d : Drive) : (Drive.twinDone opId d).jobs = d.jobs := rfl
@[simp] theorem Drive.twinDone_chans (opId) (d : Drive) : (Drive.twinDone opId d).chans = d.chans := rfl
@[simp] theorem Drive.twinDone_healthSaved (opId) (d : Drive) : (Drive.twinDone opId d).healthSaved = d.healthSaved := rfl
@[simp] theorem Drive.twinDone_ident (opId) (d : Drive) : (Drive.twinDone opId d).ident = d.ident := rfl
@[simp] theorem Drive.twinDone_out (opId) (d : Drive) : (Drive.twinDone opId d).out = d.out := rfl
@[simp] theorem Drive.twinDone_free (opId) (d : Drive) : (Drive.twinDone opId d).free = d.free := rfl
@[simp] theorem Drive.twinSeen_kv (opId) (reply) (d : Drive) : (Drive.twinSeen opId reply d).kv = d.kv := rfl
@[simp] theorem Drive.twinSeen_media (opId) (reply) (d : Drive) : (Drive.twinSeen opId reply d).media = d.media := rfl
@[simp] theorem Drive.twinSeen_ring (opId) (reply) (d : Drive) : (Drive.twinSeen opId reply d).ring = d.ring := rfl
@[simp] theorem Drive.twinSeen_keys (opId) (reply) (d : Drive) : (Drive.twinSeen opId reply d).keys = d.keys := rfl
@[simp] theorem Drive.twinSeen_holly (opId) (reply) (d : Drive) : (Drive.twinSeen opId reply d).holly = d.holly := rfl
@[simp] theorem Drive.twinSeen_xp (opId) (reply) (d : Drive) : (Drive.twinSeen opId reply d).xp = d.xp := rfl
@[simp] theorem Drive.twinSeen_time (opId) (reply) (d : Drive) : (Drive.twinSeen opId reply d).time = d.time := rfl
@[simp] theorem Drive.twinSeen_sec (opId) (reply) (d : Drive) : (Drive.twinSeen opId reply d).sec = d.sec := rfl
@[simp] theorem Drive.twinSeen_mod (opId) (reply) (d : Drive) : (Drive.twinSeen opId reply d).mod = d.mod := rfl
@[simp] theorem Drive.twinSeen_port (opId) (reply) (d : Drive) : (Drive.twinSeen opId reply d).port = d.port := rfl
@[simp] theorem Drive.twinSeen_privet (opId) (reply) (d : Drive) : (Drive.twinSeen opId reply d).privet = d.privet := rfl
@[simp] theorem Drive.twinSeen_rec_ (opId) (reply) (d : Drive) : (Drive.twinSeen opId reply d).rec_ = d.rec_ := rfl
@[simp] theorem Drive.twinSeen_meter (opId) (reply) (d : Drive) : (Drive.twinSeen opId reply d).meter = d.meter := rfl
@[simp] theorem Drive.twinSeen_power (opId) (reply) (d : Drive) : (Drive.twinSeen opId reply d).power = d.power := rfl
@[simp] theorem Drive.twinSeen_therm (opId) (reply) (d : Drive) : (Drive.twinSeen opId reply d).therm = d.therm := rfl
@[simp] theorem Drive.twinSeen_health (opId) (reply) (d : Drive) : (Drive.twinSeen opId reply d).health = d.health := rfl
@[simp] theorem Drive.twinSeen_flag (opId) (reply) (d : Drive) : (Drive.twinSeen opId reply d).flag = d.flag := rfl
@[simp] theorem Drive.twinSeen_optf (opId) (reply) (d : Drive) : (Drive.twinSeen opId reply d).optf = d.optf := rfl
@[simp] theorem Drive.twinSeen_jobs (opId) (reply) (d : Drive) : (Drive.twinSeen opId reply d).jobs = d.jobs := rfl
@[simp] theorem Drive.twinSeen_chans (opId) (reply) (d : Drive) : (Drive.twinSeen opId reply d).chans = d.chans := rfl
@[simp] theorem Drive.twinSeen_healthSaved (opId) (reply) (d : Drive) : (Drive.twinSeen opId reply d).healthSaved = d.healthSaved := rfl
@[simp] theorem Drive.twinSeen_ident (opId) (reply) (d : Drive) : (Drive.twinSeen opId reply d).ident = d.ident := rfl
@[simp] theorem Drive.twinSeen_out (opId) (reply) (d : Drive) : (Drive.twinSeen opId reply d).out = d.out := rfl
@[simp] theorem Drive.twinSeen_free (opId) (reply) (d : Drive) : (Drive.twinSeen opId reply d).free = d.free := rfl
@[simp] theorem Drive.wasBusy_kv (d : Drive) : (Drive.wasBusy d).kv = d.kv := rfl
@[simp] theorem Drive.wasBusy_media (d : Drive) : (Drive.wasBusy d).media = d.media := rfl
@[simp] theorem Drive.wasBusy_twin (d : Drive) : (Drive.wasBusy d).twin = d.twin := rfl
@[simp] theorem Drive.wasBusy_ring (d : Drive) : (Drive.wasBusy d).ring = d.ring := rfl
@[simp] theorem Drive.wasBusy_keys (d : Drive) : (Drive.wasBusy d).keys = d.keys := rfl
@[simp] theorem Drive.wasBusy_holly (d : Drive) : (Drive.wasBusy d).holly = d.holly := rfl
@[simp] theorem Drive.wasBusy_xp (d : Drive) : (Drive.wasBusy d).xp = d.xp := rfl
@[simp] theorem Drive.wasBusy_time (d : Drive) : (Drive.wasBusy d).time = d.time := rfl
@[simp] theorem Drive.wasBusy_sec (d : Drive) : (Drive.wasBusy d).sec = d.sec := rfl
@[simp] theorem Drive.wasBusy_mod (d : Drive) : (Drive.wasBusy d).mod = d.mod := rfl
@[simp] theorem Drive.wasBusy_port (d : Drive) : (Drive.wasBusy d).port = d.port := rfl
@[simp] theorem Drive.wasBusy_privet (d : Drive) : (Drive.wasBusy d).privet = d.privet := rfl
@[simp] theorem Drive.wasBusy_rec_ (d : Drive) : (Drive.wasBusy d).rec_ = d.rec_ := rfl
@[simp] theorem Drive.wasBusy_meter (d : Drive) : (Drive.wasBusy d).meter = d.meter := rfl
@[simp] theorem Drive.wasBusy_therm (d : Drive) : (Drive.wasBusy d).therm = d.therm := rfl
@[simp] theorem Drive.wasBusy_health (d : Drive) : (Drive.wasBusy d).health = d.health := rfl
@[simp] theorem Drive.wasBusy_flag (d : Drive) : (Drive.wasBusy d).flag = d.flag := rfl
@[simp] theorem Drive.wasBusy_optf (d : Drive) : (Drive.wasBusy d).optf = d.optf := rfl
@[simp] theorem Drive.wasBusy_jobs (d : Drive) : (Drive.wasBusy d).jobs = d.jobs := rfl
@[simp] theorem Drive.wasBusy_chans (d : Drive) : (Drive.wasBusy d).chans = d.chans := rfl
@[simp] theorem Drive.wasBusy_healthSaved (d : Drive) : (Drive.wasBusy d).healthSaved = d.healthSaved := rfl
@[simp] theorem Drive.wasBusy_ident (d : Drive) : (Drive.wasBusy d).ident = d.ident := rfl
@[simp] theorem Drive.wasBusy_out (d : Drive) : (Drive.wasBusy d).out = d.out := rfl
@[simp] theorem Drive.wasBusy_free (d : Drive) : (Drive.wasBusy d).free = d.free := rfl
@[simp] theorem Drive.putJob_kv (j) (d : Drive) : (Drive.putJob j d).kv = d.kv := rfl
@[simp] theorem Drive.putJob_media (j) (d : Drive) : (Drive.putJob j d).media = d.media := rfl
@[simp] theorem Drive.putJob_twin (j) (d : Drive) : (Drive.putJob j d).twin = d.twin := rfl
@[simp] theorem Drive.putJob_ring (j) (d : Drive) : (Drive.putJob j d).ring = d.ring := rfl
@[simp] theorem Drive.putJob_keys (j) (d : Drive) : (Drive.putJob j d).keys = d.keys := rfl
@[simp] theorem Drive.putJob_holly (j) (d : Drive) : (Drive.putJob j d).holly = d.holly := rfl
@[simp] theorem Drive.putJob_xp (j) (d : Drive) : (Drive.putJob j d).xp = d.xp := rfl
@[simp] theorem Drive.putJob_time (j) (d : Drive) : (Drive.putJob j d).time = d.time := rfl
@[simp] theorem Drive.putJob_sec (j) (d : Drive) : (Drive.putJob j d).sec = d.sec := rfl
@[simp] theorem Drive.putJob_mod (j) (d : Drive) : (Drive.putJob j d).mod = d.mod := rfl
@[simp] theorem Drive.putJob_port (j) (d : Drive) : (Drive.putJob j d).port = d.port := rfl
@[simp] theorem Drive.putJob_privet (j) (d : Drive) : (Drive.putJob j d).privet = d.privet := rfl
@[simp] theorem Drive.putJob_rec_ (j) (d : Drive) : (Drive.putJob j d).rec_ = d.rec_ := rfl
@[simp] theorem Drive.putJob_meter (j) (d : Drive) : (Drive.putJob j d).meter = d.meter := rfl
@[simp] theorem Drive.putJob_power (j) (d : Drive) : (Drive.putJob j d).power = d.power := rfl
@[simp] theorem Drive.putJob_therm (j) (d : Drive) : (Drive.putJob j d).therm = d.therm := rfl
@[simp] theorem Drive.putJob_health (j) (d : Drive) : (Drive.putJob j d).health = d.health := rfl
@[simp] theorem Drive.putJob_flag (j) (d : Drive) : (Drive.putJob j d).flag = d.flag := rfl
@[simp] theorem Drive.putJob_optf (j) (d : Drive) : (Drive.putJob j d).optf = d.optf := rfl
@[simp] theorem Drive.putJob_chans (j) (d : Drive) : (Drive.putJob j d).chans = d.chans := rfl
@[simp] theorem Drive.putJob_healthSaved (j) (d : Drive) : (Drive.putJob j d).healthSaved = d.healthSaved := rfl
@[simp] theorem Drive.putJob_ident (j) (d : Drive) : (Drive.putJob j d).ident = d.ident := rfl
@[simp] theorem Drive.putJob_out (j) (d : Drive) : (Drive.putJob j d).out = d.out := rfl
@[simp] theorem Drive.putJob_free (j) (d : Drive) : (Drive.putJob j d).free = d.free := rfl

@[simp] theorem Drive.emit_out (o : Out) (d : Drive) : (d.emit o).out = o :: d.out := rfl
@[simp] theorem Drive.wasBusy_idleFrom (d : Drive) : d.wasBusy.power.idleFrom = d.now := rfl
@[simp] theorem Drive.delta_delta (x : Delta) (d : Drive) : (d.delta x).media.delta = d.media.delta ++ [(d.media.deltaNext, x)] := rfl
@[simp] theorem Drive.delta_deltaNext (x : Delta) (d : Drive) : (d.delta x).media.deltaNext = d.media.deltaNext + 1 := rfl
@[simp] theorem Drive.delta_sbs (x : Delta) (d : Drive) : (d.delta x).media.sbs = d.media.sbs := rfl

end Sys2Proof.Machine
end

