-- ==== Sys2Proof/Laws/Ops.lean ====
section
/-! SUPPORT. Laws/Ops.lean: the shared operations as rewrite rules: what they leave unchanged, field by field, and what they do. -/

set_option linter.all false

namespace Sys2Proof.Machine
open Sys2Proof

@[simp] theorem Drive.event_kv (src) (sev) (words) (d : Drive) (tag) : (Drive.event src sev words d tag).kv = d.kv := (Drive.event_frame _ _ _ _ _).kv rfl
@[simp] theorem Drive.event_media (src) (sev) (words) (d : Drive) (tag) : (Drive.event src sev words d tag).media = d.media := (Drive.event_frame _ _ _ _ _).media rfl
@[simp] theorem Drive.event_twin (src) (sev) (words) (d : Drive) (tag) : (Drive.event src sev words d tag).twin = d.twin := (Drive.event_frame _ _ _ _ _).twin rfl
@[simp] theorem Drive.event_ring (src) (sev) (words) (d : Drive) (tag) : (Drive.event src sev words d tag).ring = d.ring := (Drive.event_frame _ _ _ _ _).ring rfl
@[simp] theorem Drive.event_holly (src) (sev) (words) (d : Drive) (tag) : (Drive.event src sev words d tag).holly = d.holly := (Drive.event_frame _ _ _ _ _).holly rfl
@[simp] theorem Drive.event_time (src) (sev) (words) (d : Drive) (tag) : (Drive.event src sev words d tag).time = d.time := (Drive.event_frame _ _ _ _ _).time rfl
@[simp] theorem Drive.event_sec (src) (sev) (words) (d : Drive) (tag) : (Drive.event src sev words d tag).sec = d.sec := (Drive.event_frame _ _ _ _ _).sec rfl
@[simp] theorem Drive.event_mod (src) (sev) (words) (d : Drive) (tag) : (Drive.event src sev words d tag).mod = d.mod := (Drive.event_frame _ _ _ _ _).mod rfl
@[simp] theorem Drive.event_privet (src) (sev) (words) (d : Drive) (tag) : (Drive.event src sev words d tag).privet = d.privet := (Drive.event_frame _ _ _ _ _).privet rfl
@[simp] theorem Drive.event_power (src) (sev) (words) (d : Drive) (tag) : (Drive.event src sev words d tag).power = d.power := (Drive.event_frame _ _ _ _ _).power rfl
@[simp] theorem Drive.event_therm (src) (sev) (words) (d : Drive) (tag) : (Drive.event src sev words d tag).therm = d.therm := (Drive.event_frame _ _ _ _ _).therm rfl
@[simp] theorem Drive.event_health (src) (sev) (words) (d : Drive) (tag) : (Drive.event src sev words d tag).health = d.health := (Drive.event_frame _ _ _ _ _).health rfl
@[simp] theorem Drive.event_optf (src) (sev) (words) (d : Drive) (tag) : (Drive.event src sev words d tag).optf = d.optf := (Drive.event_frame _ _ _ _ _).optf rfl
@[simp] theorem Drive.event_jobs (src) (sev) (words) (d : Drive) (tag) : (Drive.event src sev words d tag).jobs = d.jobs := (Drive.event_frame _ _ _ _ _).jobs rfl
@[simp] theorem Drive.event_chans (src) (sev) (words) (d : Drive) (tag) : (Drive.event src sev words d tag).chans = d.chans := (Drive.event_frame _ _ _ _ _).chans rfl
@[simp] theorem Drive.event_healthSaved (src) (sev) (words) (d : Drive) (tag) : (Drive.event src sev words d tag).healthSaved = d.healthSaved := (Drive.event_frame _ _ _ _ _).healthSaved rfl
@[simp] theorem Drive.event_ident (src) (sev) (words) (d : Drive) (tag) : (Drive.event src sev words d tag).ident = d.ident := (Drive.event_frame _ _ _ _ _).ident rfl
@[simp] theorem Drive.event_free (src) (sev) (words) (d : Drive) (tag) : (Drive.event src sev words d tag).free = d.free := (Drive.event_frame _ _ _ _ _).free rfl
@[simp] theorem Drive.notice_kv (sid) (n) (d : Drive) : (Drive.notice sid n d).kv = d.kv := (Drive.notice_frame _ _ _).kv rfl
@[simp] theorem Drive.notice_media (sid) (n) (d : Drive) : (Drive.notice sid n d).media = d.media := (Drive.notice_frame _ _ _).media rfl
@[simp] theorem Drive.notice_twin (sid) (n) (d : Drive) : (Drive.notice sid n d).twin = d.twin := (Drive.notice_frame _ _ _).twin rfl
@[simp] theorem Drive.notice_ring (sid) (n) (d : Drive) : (Drive.notice sid n d).ring = d.ring := (Drive.notice_frame _ _ _).ring rfl
@[simp] theorem Drive.notice_holly (sid) (n) (d : Drive) : (Drive.notice sid n d).holly = d.holly := (Drive.notice_frame _ _ _).holly rfl
@[simp] theorem Drive.notice_time (sid) (n) (d : Drive) : (Drive.notice sid n d).time = d.time := (Drive.notice_frame _ _ _).time rfl
@[simp] theorem Drive.notice_sec (sid) (n) (d : Drive) : (Drive.notice sid n d).sec = d.sec := (Drive.notice_frame _ _ _).sec rfl
@[simp] theorem Drive.notice_mod (sid) (n) (d : Drive) : (Drive.notice sid n d).mod = d.mod := (Drive.notice_frame _ _ _).mod rfl
@[simp] theorem Drive.notice_privet (sid) (n) (d : Drive) : (Drive.notice sid n d).privet = d.privet := (Drive.notice_frame _ _ _).privet rfl
@[simp] theorem Drive.notice_power (sid) (n) (d : Drive) : (Drive.notice sid n d).power = d.power := (Drive.notice_frame _ _ _).power rfl
@[simp] theorem Drive.notice_therm (sid) (n) (d : Drive) : (Drive.notice sid n d).therm = d.therm := (Drive.notice_frame _ _ _).therm rfl
@[simp] theorem Drive.notice_health (sid) (n) (d : Drive) : (Drive.notice sid n d).health = d.health := (Drive.notice_frame _ _ _).health rfl
@[simp] theorem Drive.notice_optf (sid) (n) (d : Drive) : (Drive.notice sid n d).optf = d.optf := (Drive.notice_frame _ _ _).optf rfl
@[simp] theorem Drive.notice_jobs (sid) (n) (d : Drive) : (Drive.notice sid n d).jobs = d.jobs := (Drive.notice_frame _ _ _).jobs rfl
@[simp] theorem Drive.notice_chans (sid) (n) (d : Drive) : (Drive.notice sid n d).chans = d.chans := (Drive.notice_frame _ _ _).chans rfl
@[simp] theorem Drive.notice_healthSaved (sid) (n) (d : Drive) : (Drive.notice sid n d).healthSaved = d.healthSaved := (Drive.notice_frame _ _ _).healthSaved rfl
@[simp] theorem Drive.notice_ident (sid) (n) (d : Drive) : (Drive.notice sid n d).ident = d.ident := (Drive.notice_frame _ _ _).ident rfl
@[simp] theorem Drive.notice_free (sid) (n) (d : Drive) : (Drive.notice sid n d).free = d.free := (Drive.notice_frame _ _ _).free rfl
@[simp] theorem Drive.reply_media (o) (h) (body) (d : Drive) : (Drive.reply o h body d).media = d.media := (Drive.reply_frame _ _ _ _).media rfl
@[simp] theorem Drive.reply_holly (o) (h) (body) (d : Drive) : (Drive.reply o h body d).holly = d.holly := (Drive.reply_frame _ _ _ _).holly rfl
@[simp] theorem Drive.reply_time (o) (h) (body) (d : Drive) : (Drive.reply o h body d).time = d.time := (Drive.reply_frame _ _ _ _).time rfl
@[simp] theorem Drive.reply_sec (o) (h) (body) (d : Drive) : (Drive.reply o h body d).sec = d.sec := (Drive.reply_frame _ _ _ _).sec rfl
@[simp] theorem Drive.reply_mod (o) (h) (body) (d : Drive) : (Drive.reply o h body d).mod = d.mod := (Drive.reply_frame _ _ _ _).mod rfl
@[simp] theorem Drive.reply_privet (o) (h) (body) (d : Drive) : (Drive.reply o h body d).privet = d.privet := (Drive.reply_frame _ _ _ _).privet rfl
@[simp] theorem Drive.reply_rec_ (o) (h) (body) (d : Drive) : (Drive.reply o h body d).rec_ = d.rec_ := (Drive.reply_frame _ _ _ _).rec_ rfl
@[simp] theorem Drive.reply_power (o) (h) (body) (d : Drive) : (Drive.reply o h body d).power = d.power := (Drive.reply_frame _ _ _ _).power rfl
@[simp] theorem Drive.reply_therm (o) (h) (body) (d : Drive) : (Drive.reply o h body d).therm = d.therm := (Drive.reply_frame _ _ _ _).therm rfl
@[simp] theorem Drive.reply_health (o) (h) (body) (d : Drive) : (Drive.reply o h body d).health = d.health := (Drive.reply_frame _ _ _ _).health rfl
@[simp] theorem Drive.reply_flag (o) (h) (body) (d : Drive) : (Drive.reply o h body d).flag = d.flag := (Drive.reply_frame _ _ _ _).flag rfl
@[simp] theorem Drive.reply_optf (o) (h) (body) (d : Drive) : (Drive.reply o h body d).optf = d.optf := (Drive.reply_frame _ _ _ _).optf rfl
@[simp] theorem Drive.reply_jobs (o) (h) (body) (d : Drive) : (Drive.reply o h body d).jobs = d.jobs := (Drive.reply_frame _ _ _ _).jobs rfl
@[simp] theorem Drive.reply_chans (o) (h) (body) (d : Drive) : (Drive.reply o h body d).chans = d.chans := (Drive.reply_frame _ _ _ _).chans rfl
@[simp] theorem Drive.reply_healthSaved (o) (h) (body) (d : Drive) : (Drive.reply o h body d).healthSaved = d.healthSaved := (Drive.reply_frame _ _ _ _).healthSaved rfl
@[simp] theorem Drive.reply_ident (o) (h) (body) (d : Drive) : (Drive.reply o h body d).ident = d.ident := (Drive.reply_frame _ _ _ _).ident rfl
@[simp] theorem Drive.refuse_media (r) (status) (d : Drive) (version) (offset) : (Drive.refuse r status d version offset).media = d.media := (Drive.refuse_frame _ _ _ _ _).media rfl
@[simp] theorem Drive.refuse_holly (r) (status) (d : Drive) (version) (offset) : (Drive.refuse r status d version offset).holly = d.holly := (Drive.refuse_frame _ _ _ _ _).holly rfl
@[simp] theorem Drive.refuse_time (r) (status) (d : Drive) (version) (offset) : (Drive.refuse r status d version offset).time = d.time := (Drive.refuse_frame _ _ _ _ _).time rfl
@[simp] theorem Drive.refuse_sec (r) (status) (d : Drive) (version) (offset) : (Drive.refuse r status d version offset).sec = d.sec := (Drive.refuse_frame _ _ _ _ _).sec rfl
@[simp] theorem Drive.refuse_mod (r) (status) (d : Drive) (version) (offset) : (Drive.refuse r status d version offset).mod = d.mod := (Drive.refuse_frame _ _ _ _ _).mod rfl
@[simp] theorem Drive.refuse_privet (r) (status) (d : Drive) (version) (offset) : (Drive.refuse r status d version offset).privet = d.privet := (Drive.refuse_frame _ _ _ _ _).privet rfl
@[simp] theorem Drive.refuse_rec_ (r) (status) (d : Drive) (version) (offset) : (Drive.refuse r status d version offset).rec_ = d.rec_ := (Drive.refuse_frame _ _ _ _ _).rec_ rfl
@[simp] theorem Drive.refuse_power (r) (status) (d : Drive) (version) (offset) : (Drive.refuse r status d version offset).power = d.power := (Drive.refuse_frame _ _ _ _ _).power rfl
@[simp] theorem Drive.refuse_therm (r) (status) (d : Drive) (version) (offset) : (Drive.refuse r status d version offset).therm = d.therm := (Drive.refuse_frame _ _ _ _ _).therm rfl
@[simp] theorem Drive.refuse_health (r) (status) (d : Drive) (version) (offset) : (Drive.refuse r status d version offset).health = d.health := (Drive.refuse_frame _ _ _ _ _).health rfl
@[simp] theorem Drive.refuse_flag (r) (status) (d : Drive) (version) (offset) : (Drive.refuse r status d version offset).flag = d.flag := (Drive.refuse_frame _ _ _ _ _).flag rfl
@[simp] theorem Drive.refuse_optf (r) (status) (d : Drive) (version) (offset) : (Drive.refuse r status d version offset).optf = d.optf := (Drive.refuse_frame _ _ _ _ _).optf rfl
@[simp] theorem Drive.refuse_jobs (r) (status) (d : Drive) (version) (offset) : (Drive.refuse r status d version offset).jobs = d.jobs := (Drive.refuse_frame _ _ _ _ _).jobs rfl
@[simp] theorem Drive.refuse_chans (r) (status) (d : Drive) (version) (offset) : (Drive.refuse r status d version offset).chans = d.chans := (Drive.refuse_frame _ _ _ _ _).chans rfl
@[simp] theorem Drive.refuse_healthSaved (r) (status) (d : Drive) (version) (offset) : (Drive.refuse r status d version offset).healthSaved = d.healthSaved := (Drive.refuse_frame _ _ _ _ _).healthSaved rfl
@[simp] theorem Drive.refuse_ident (r) (status) (d : Drive) (version) (offset) : (Drive.refuse r status d version offset).ident = d.ident := (Drive.refuse_frame _ _ _ _ _).ident rfl
@[simp] theorem Drive.conflict_media (r) (code) (page) (d : Drive) : (Drive.conflict r code page d).media = d.media := (Drive.conflict_frame _ _ _ _).media rfl
@[simp] theorem Drive.conflict_holly (r) (code) (page) (d : Drive) : (Drive.conflict r code page d).holly = d.holly := (Drive.conflict_frame _ _ _ _).holly rfl
@[simp] theorem Drive.conflict_time (r) (code) (page) (d : Drive) : (Drive.conflict r code page d).time = d.time := (Drive.conflict_frame _ _ _ _).time rfl
@[simp] theorem Drive.conflict_sec (r) (code) (page) (d : Drive) : (Drive.conflict r code page d).sec = d.sec := (Drive.conflict_frame _ _ _ _).sec rfl
@[simp] theorem Drive.conflict_mod (r) (code) (page) (d : Drive) : (Drive.conflict r code page d).mod = d.mod := (Drive.conflict_frame _ _ _ _).mod rfl
@[simp] theorem Drive.conflict_privet (r) (code) (page) (d : Drive) : (Drive.conflict r code page d).privet = d.privet := (Drive.conflict_frame _ _ _ _).privet rfl
@[simp] theorem Drive.conflict_rec_ (r) (code) (page) (d : Drive) : (Drive.conflict r code page d).rec_ = d.rec_ := (Drive.conflict_frame _ _ _ _).rec_ rfl
@[simp] theorem Drive.conflict_power (r) (code) (page) (d : Drive) : (Drive.conflict r code page d).power = d.power := (Drive.conflict_frame _ _ _ _).power rfl
@[simp] theorem Drive.conflict_therm (r) (code) (page) (d : Drive) : (Drive.conflict r code page d).therm = d.therm := (Drive.conflict_frame _ _ _ _).therm rfl
@[simp] theorem Drive.conflict_health (r) (code) (page) (d : Drive) : (Drive.conflict r code page d).health = d.health := (Drive.conflict_frame _ _ _ _).health rfl
@[simp] theorem Drive.conflict_flag (r) (code) (page) (d : Drive) : (Drive.conflict r code page d).flag = d.flag := (Drive.conflict_frame _ _ _ _).flag rfl
@[simp] theorem Drive.conflict_optf (r) (code) (page) (d : Drive) : (Drive.conflict r code page d).optf = d.optf := (Drive.conflict_frame _ _ _ _).optf rfl
@[simp] theorem Drive.conflict_jobs (r) (code) (page) (d : Drive) : (Drive.conflict r code page d).jobs = d.jobs := (Drive.conflict_frame _ _ _ _).jobs rfl
@[simp] theorem Drive.conflict_chans (r) (code) (page) (d : Drive) : (Drive.conflict r code page d).chans = d.chans := (Drive.conflict_frame _ _ _ _).chans rfl
@[simp] theorem Drive.conflict_healthSaved (r) (code) (page) (d : Drive) : (Drive.conflict r code page d).healthSaved = d.healthSaved := (Drive.conflict_frame _ _ _ _).healthSaved rfl
@[simp] theorem Drive.conflict_ident (r) (code) (page) (d : Drive) : (Drive.conflict r code page d).ident = d.ident := (Drive.conflict_frame _ _ _ _).ident rfl
@[simp] theorem Drive.twinSend_kv (m) (d : Drive) : (Drive.twinSend m d).kv = d.kv := (Drive.twinSend_frame _ _).kv rfl
@[simp] theorem Drive.twinSend_media (m) (d : Drive) : (Drive.twinSend m d).media = d.media := (Drive.twinSend_frame _ _).media rfl
@[simp] theorem Drive.twinSend_twin (m) (d : Drive) : (Drive.twinSend m d).twin = d.twin := (Drive.twinSend_frame _ _).twin rfl
@[simp] theorem Drive.twinSend_ring (m) (d : Drive) : (Drive.twinSend m d).ring = d.ring := (Drive.twinSend_frame _ _).ring rfl
@[simp] theorem Drive.twinSend_keys (m) (d : Drive) : (Drive.twinSend m d).keys = d.keys := (Drive.twinSend_frame _ _).keys rfl
@[simp] theorem Drive.twinSend_holly (m) (d : Drive) : (Drive.twinSend m d).holly = d.holly := (Drive.twinSend_frame _ _).holly rfl
@[simp] theorem Drive.twinSend_xp (m) (d : Drive) : (Drive.twinSend m d).xp = d.xp := (Drive.twinSend_frame _ _).xp rfl
@[simp] theorem Drive.twinSend_time (m) (d : Drive) : (Drive.twinSend m d).time = d.time := (Drive.twinSend_frame _ _).time rfl
@[simp] theorem Drive.twinSend_sec (m) (d : Drive) : (Drive.twinSend m d).sec = d.sec := (Drive.twinSend_frame _ _).sec rfl
@[simp] theorem Drive.twinSend_mod (m) (d : Drive) : (Drive.twinSend m d).mod = d.mod := (Drive.twinSend_frame _ _).mod rfl
@[simp] theorem Drive.twinSend_privet (m) (d : Drive) : (Drive.twinSend m d).privet = d.privet := (Drive.twinSend_frame _ _).privet rfl
@[simp] theorem Drive.twinSend_rec_ (m) (d : Drive) : (Drive.twinSend m d).rec_ = d.rec_ := (Drive.twinSend_frame _ _).rec_ rfl
@[simp] theorem Drive.twinSend_meter (m) (d : Drive) : (Drive.twinSend m d).meter = d.meter := (Drive.twinSend_frame _ _).meter rfl
@[simp] theorem Drive.twinSend_power (m) (d : Drive) : (Drive.twinSend m d).power = d.power := (Drive.twinSend_frame _ _).power rfl
@[simp] theorem Drive.twinSend_therm (m) (d : Drive) : (Drive.twinSend m d).therm = d.therm := (Drive.twinSend_frame _ _).therm rfl
@[simp] theorem Drive.twinSend_health (m) (d : Drive) : (Drive.twinSend m d).health = d.health := (Drive.twinSend_frame _ _).health rfl
@[simp] theorem Drive.twinSend_flag (m) (d : Drive) : (Drive.twinSend m d).flag = d.flag := (Drive.twinSend_frame _ _).flag rfl
@[simp] theorem Drive.twinSend_optf (m) (d : Drive) : (Drive.twinSend m d).optf = d.optf := (Drive.twinSend_frame _ _).optf rfl
@[simp] theorem Drive.twinSend_jobs (m) (d : Drive) : (Drive.twinSend m d).jobs = d.jobs := (Drive.twinSend_frame _ _).jobs rfl
@[simp] theorem Drive.twinSend_chans (m) (d : Drive) : (Drive.twinSend m d).chans = d.chans := (Drive.twinSend_frame _ _).chans rfl
@[simp] theorem Drive.twinSend_healthSaved (m) (d : Drive) : (Drive.twinSend m d).healthSaved = d.healthSaved := (Drive.twinSend_frame _ _).healthSaved rfl
@[simp] theorem Drive.twinSend_ident (m) (d : Drive) : (Drive.twinSend m d).ident = d.ident := (Drive.twinSend_frame _ _).ident rfl
@[simp] theorem Drive.twinOp_kv (op) (d : Drive) : (Drive.twinOp op d).kv = d.kv := (Drive.twinOp_frame _ _).kv rfl
@[simp] theorem Drive.twinOp_media (op) (d : Drive) : (Drive.twinOp op d).media = d.media := (Drive.twinOp_frame _ _).media rfl
@[simp] theorem Drive.twinOp_ring (op) (d : Drive) : (Drive.twinOp op d).ring = d.ring := (Drive.twinOp_frame _ _).ring rfl
@[simp] theorem Drive.twinOp_keys (op) (d : Drive) : (Drive.twinOp op d).keys = d.keys := (Drive.twinOp_frame _ _).keys rfl
@[simp] theorem Drive.twinOp_holly (op) (d : Drive) : (Drive.twinOp op d).holly = d.holly := (Drive.twinOp_frame _ _).holly rfl
@[simp] theorem Drive.twinOp_xp (op) (d : Drive) : (Drive.twinOp op d).xp = d.xp := (Drive.twinOp_frame _ _).xp rfl
@[simp] theorem Drive.twinOp_time (op) (d : Drive) : (Drive.twinOp op d).time = d.time := (Drive.twinOp_frame _ _).time rfl
@[simp] theorem Drive.twinOp_sec (op) (d : Drive) : (Drive.twinOp op d).sec = d.sec := (Drive.twinOp_frame _ _).sec rfl
@[simp] theorem Drive.twinOp_mod (op) (d : Drive) : (Drive.twinOp op d).mod = d.mod := (Drive.twinOp_frame _ _).mod rfl
@[simp] theorem Drive.twinOp_privet (op) (d : Drive) : (Drive.twinOp op d).privet = d.privet := (Drive.twinOp_frame _ _).privet rfl
@[simp] theorem Drive.twinOp_rec_ (op) (d : Drive) : (Drive.twinOp op d).rec_ = d.rec_ := (Drive.twinOp_frame _ _).rec_ rfl
@[simp] theorem Drive.twinOp_meter (op) (d : Drive) : (Drive.twinOp op d).meter = d.meter := (Drive.twinOp_frame _ _).meter rfl
@[simp] theorem Drive.twinOp_power (op) (d : Drive) : (Drive.twinOp op d).power = d.power := (Drive.twinOp_frame _ _).power rfl
@[simp] theorem Drive.twinOp_therm (op) (d : Drive) : (Drive.twinOp op d).therm = d.therm := (Drive.twinOp_frame _ _).therm rfl
@[simp] theorem Drive.twinOp_health (op) (d : Drive) : (Drive.twinOp op d).health = d.health := (Drive.twinOp_frame _ _).health rfl
@[simp] theorem Drive.twinOp_flag (op) (d : Drive) : (Drive.twinOp op d).flag = d.flag := (Drive.twinOp_frame _ _).flag rfl
@[simp] theorem Drive.twinOp_optf (op) (d : Drive) : (Drive.twinOp op d).optf = d.optf := (Drive.twinOp_frame _ _).optf rfl
@[simp] theorem Drive.twinOp_jobs (op) (d : Drive) : (Drive.twinOp op d).jobs = d.jobs := (Drive.twinOp_frame _ _).jobs rfl
@[simp] theorem Drive.twinOp_chans (op) (d : Drive) : (Drive.twinOp op d).chans = d.chans := (Drive.twinOp_frame _ _).chans rfl
@[simp] theorem Drive.twinOp_healthSaved (op) (d : Drive) : (Drive.twinOp op d).healthSaved = d.healthSaved := (Drive.twinOp_frame _ _).healthSaved rfl
@[simp] theorem Drive.twinOp_ident (op) (d : Drive) : (Drive.twinOp op d).ident = d.ident := (Drive.twinOp_frame _ _).ident rfl
@[simp] theorem Drive.ringSend_kv (code) (dest) (cls) (args) (body) (d : Drive) : (Drive.ringSend code dest cls args body d).kv = d.kv := (Drive.ringSend_frame _ _ _ _ _ _).kv rfl
@[simp] theorem Drive.ringSend_media (code) (dest) (cls) (args) (body) (d : Drive) : (Drive.ringSend code dest cls args body d).media = d.media := (Drive.ringSend_frame _ _ _ _ _ _).media rfl
@[simp] theorem Drive.ringSend_twin (code) (dest) (cls) (args) (body) (d : Drive) : (Drive.ringSend code dest cls args body d).twin = d.twin := (Drive.ringSend_frame _ _ _ _ _ _).twin rfl
@[simp] theorem Drive.ringSend_keys (code) (dest) (cls) (args) (body) (d : Drive) : (Drive.ringSend code dest cls args body d).keys = d.keys := (Drive.ringSend_frame _ _ _ _ _ _).keys rfl
@[simp] theorem Drive.ringSend_holly (code) (dest) (cls) (args) (body) (d : Drive) : (Drive.ringSend code dest cls args body d).holly = d.holly := (Drive.ringSend_frame _ _ _ _ _ _).holly rfl
@[simp] theorem Drive.ringSend_xp (code) (dest) (cls) (args) (body) (d : Drive) : (Drive.ringSend code dest cls args body d).xp = d.xp := (Drive.ringSend_frame _ _ _ _ _ _).xp rfl
@[simp] theorem Drive.ringSend_time (code) (dest) (cls) (args) (body) (d : Drive) : (Drive.ringSend code dest cls args body d).time = d.time := (Drive.ringSend_frame _ _ _ _ _ _).time rfl
@[simp] theorem Drive.ringSend_sec (code) (dest) (cls) (args) (body) (d : Drive) : (Drive.ringSend code dest cls args body d).sec = d.sec := (Drive.ringSend_frame _ _ _ _ _ _).sec rfl
@[simp] theorem Drive.ringSend_mod (code) (dest) (cls) (args) (body) (d : Drive) : (Drive.ringSend code dest cls args body d).mod = d.mod := (Drive.ringSend_frame _ _ _ _ _ _).mod rfl
@[simp] theorem Drive.ringSend_privet (code) (dest) (cls) (args) (body) (d : Drive) : (Drive.ringSend code dest cls args body d).privet = d.privet := (Drive.ringSend_frame _ _ _ _ _ _).privet rfl
@[simp] theorem Drive.ringSend_rec_ (code) (dest) (cls) (args) (body) (d : Drive) : (Drive.ringSend code dest cls args body d).rec_ = d.rec_ := (Drive.ringSend_frame _ _ _ _ _ _).rec_ rfl
@[simp] theorem Drive.ringSend_meter (code) (dest) (cls) (args) (body) (d : Drive) : (Drive.ringSend code dest cls args body d).meter = d.meter := (Drive.ringSend_frame _ _ _ _ _ _).meter rfl
@[simp] theorem Drive.ringSend_power (code) (dest) (cls) (args) (body) (d : Drive) : (Drive.ringSend code dest cls args body d).power = d.power := (Drive.ringSend_frame _ _ _ _ _ _).power rfl
@[simp] theorem Drive.ringSend_therm (code) (dest) (cls) (args) (body) (d : Drive) : (Drive.ringSend code dest cls args body d).therm = d.therm := (Drive.ringSend_frame _ _ _ _ _ _).therm rfl
@[simp] theorem Drive.ringSend_health (code) (dest) (cls) (args) (body) (d : Drive) : (Drive.ringSend code dest cls args body d).health = d.health := (Drive.ringSend_frame _ _ _ _ _ _).health rfl
@[simp] theorem Drive.ringSend_flag (code) (dest) (cls) (args) (body) (d : Drive) : (Drive.ringSend code dest cls args body d).flag = d.flag := (Drive.ringSend_frame _ _ _ _ _ _).flag rfl
@[simp] theorem Drive.ringSend_optf (code) (dest) (cls) (args) (body) (d : Drive) : (Drive.ringSend code dest cls args body d).optf = d.optf := (Drive.ringSend_frame _ _ _ _ _ _).optf rfl
@[simp] theorem Drive.ringSend_jobs (code) (dest) (cls) (args) (body) (d : Drive) : (Drive.ringSend code dest cls args body d).jobs = d.jobs := (Drive.ringSend_frame _ _ _ _ _ _).jobs rfl
@[simp] theorem Drive.ringSend_chans (code) (dest) (cls) (args) (body) (d : Drive) : (Drive.ringSend code dest cls args body d).chans = d.chans := (Drive.ringSend_frame _ _ _ _ _ _).chans rfl
@[simp] theorem Drive.ringSend_healthSaved (code) (dest) (cls) (args) (body) (d : Drive) : (Drive.ringSend code dest cls args body d).healthSaved = d.healthSaved := (Drive.ringSend_frame _ _ _ _ _ _).healthSaved rfl
@[simp] theorem Drive.ringSend_ident (code) (dest) (cls) (args) (body) (d : Drive) : (Drive.ringSend code dest cls args body d).ident = d.ident := (Drive.ringSend_frame _ _ _ _ _ _).ident rfl
@[simp] theorem Drive.portTx_kv (p) (len) (cast) (tagged) (fw) (o) (d : Drive) : (Drive.portTx p len cast tagged fw o d).kv = d.kv := (Drive.portTx_frame _ _ _ _ _ _ _).kv rfl
@[simp] theorem Drive.portTx_media (p) (len) (cast) (tagged) (fw) (o) (d : Drive) : (Drive.portTx p len cast tagged fw o d).media = d.media := (Drive.portTx_frame _ _ _ _ _ _ _).media rfl
@[simp] theorem Drive.portTx_twin (p) (len) (cast) (tagged) (fw) (o) (d : Drive) : (Drive.portTx p len cast tagged fw o d).twin = d.twin := (Drive.portTx_frame _ _ _ _ _ _ _).twin rfl
@[simp] theorem Drive.portTx_ring (p) (len) (cast) (tagged) (fw) (o) (d : Drive) : (Drive.portTx p len cast tagged fw o d).ring = d.ring := (Drive.portTx_frame _ _ _ _ _ _ _).ring rfl
@[simp] theorem Drive.portTx_keys (p) (len) (cast) (tagged) (fw) (o) (d : Drive) : (Drive.portTx p len cast tagged fw o d).keys = d.keys := (Drive.portTx_frame _ _ _ _ _ _ _).keys rfl
@[simp] theorem Drive.portTx_holly (p) (len) (cast) (tagged) (fw) (o) (d : Drive) : (Drive.portTx p len cast tagged fw o d).holly = d.holly := (Drive.portTx_frame _ _ _ _ _ _ _).holly rfl
@[simp] theorem Drive.portTx_xp (p) (len) (cast) (tagged) (fw) (o) (d : Drive) : (Drive.portTx p len cast tagged fw o d).xp = d.xp := (Drive.portTx_frame _ _ _ _ _ _ _).xp rfl
@[simp] theorem Drive.portTx_time (p) (len) (cast) (tagged) (fw) (o) (d : Drive) : (Drive.portTx p len cast tagged fw o d).time = d.time := (Drive.portTx_frame _ _ _ _ _ _ _).time rfl
@[simp] theorem Drive.portTx_sec (p) (len) (cast) (tagged) (fw) (o) (d : Drive) : (Drive.portTx p len cast tagged fw o d).sec = d.sec := (Drive.portTx_frame _ _ _ _ _ _ _).sec rfl
@[simp] theorem Drive.portTx_mod (p) (len) (cast) (tagged) (fw) (o) (d : Drive) : (Drive.portTx p len cast tagged fw o d).mod = d.mod := (Drive.portTx_frame _ _ _ _ _ _ _).mod rfl
@[simp] theorem Drive.portTx_privet (p) (len) (cast) (tagged) (fw) (o) (d : Drive) : (Drive.portTx p len cast tagged fw o d).privet = d.privet := (Drive.portTx_frame _ _ _ _ _ _ _).privet rfl
@[simp] theorem Drive.portTx_rec_ (p) (len) (cast) (tagged) (fw) (o) (d : Drive) : (Drive.portTx p len cast tagged fw o d).rec_ = d.rec_ := (Drive.portTx_frame _ _ _ _ _ _ _).rec_ rfl
@[simp] theorem Drive.portTx_meter (p) (len) (cast) (tagged) (fw) (o) (d : Drive) : (Drive.portTx p len cast tagged fw o d).meter = d.meter := (Drive.portTx_frame _ _ _ _ _ _ _).meter rfl
@[simp] theorem Drive.portTx_power (p) (len) (cast) (tagged) (fw) (o) (d : Drive) : (Drive.portTx p len cast tagged fw o d).power = d.power := (Drive.portTx_frame _ _ _ _ _ _ _).power rfl
@[simp] theorem Drive.portTx_therm (p) (len) (cast) (tagged) (fw) (o) (d : Drive) : (Drive.portTx p len cast tagged fw o d).therm = d.therm := (Drive.portTx_frame _ _ _ _ _ _ _).therm rfl
@[simp] theorem Drive.portTx_health (p) (len) (cast) (tagged) (fw) (o) (d : Drive) : (Drive.portTx p len cast tagged fw o d).health = d.health := (Drive.portTx_frame _ _ _ _ _ _ _).health rfl
@[simp] theorem Drive.portTx_flag (p) (len) (cast) (tagged) (fw) (o) (d : Drive) : (Drive.portTx p len cast tagged fw o d).flag = d.flag := (Drive.portTx_frame _ _ _ _ _ _ _).flag rfl
@[simp] theorem Drive.portTx_optf (p) (len) (cast) (tagged) (fw) (o) (d : Drive) : (Drive.portTx p len cast tagged fw o d).optf = d.optf := (Drive.portTx_frame _ _ _ _ _ _ _).optf rfl
@[simp] theorem Drive.portTx_jobs (p) (len) (cast) (tagged) (fw) (o) (d : Drive) : (Drive.portTx p len cast tagged fw o d).jobs = d.jobs := (Drive.portTx_frame _ _ _ _ _ _ _).jobs rfl
@[simp] theorem Drive.portTx_chans (p) (len) (cast) (tagged) (fw) (o) (d : Drive) : (Drive.portTx p len cast tagged fw o d).chans = d.chans := (Drive.portTx_frame _ _ _ _ _ _ _).chans rfl
@[simp] theorem Drive.portTx_healthSaved (p) (len) (cast) (tagged) (fw) (o) (d : Drive) : (Drive.portTx p len cast tagged fw o d).healthSaved = d.healthSaved := (Drive.portTx_frame _ _ _ _ _ _ _).healthSaved rfl
@[simp] theorem Drive.portTx_ident (p) (len) (cast) (tagged) (fw) (o) (d : Drive) : (Drive.portTx p len cast tagged fw o d).ident = d.ident := (Drive.portTx_frame _ _ _ _ _ _ _).ident rfl
@[simp] theorem Drive.portTx_free (p) (len) (cast) (tagged) (fw) (o) (d : Drive) : (Drive.portTx p len cast tagged fw o d).free = d.free := (Drive.portTx_frame _ _ _ _ _ _ _).free rfl
@[simp] theorem Drive.portCount_kv (p) (k) (n) (d : Drive) : (Drive.portCount p k n d).kv = d.kv := (Drive.portCount_frame _ _ _ _).kv rfl
@[simp] theorem Drive.portCount_media (p) (k) (n) (d : Drive) : (Drive.portCount p k n d).media = d.media := (Drive.portCount_frame _ _ _ _).media rfl
@[simp] theorem Drive.portCount_twin (p) (k) (n) (d : Drive) : (Drive.portCount p k n d).twin = d.twin := (Drive.portCount_frame _ _ _ _).twin rfl
@[simp] theorem Drive.portCount_ring (p) (k) (n) (d : Drive) : (Drive.portCount p k n d).ring = d.ring := (Drive.portCount_frame _ _ _ _).ring rfl
@[simp] theorem Drive.portCount_keys (p) (k) (n) (d : Drive) : (Drive.portCount p k n d).keys = d.keys := (Drive.portCount_frame _ _ _ _).keys rfl
@[simp] theorem Drive.portCount_holly (p) (k) (n) (d : Drive) : (Drive.portCount p k n d).holly = d.holly := (Drive.portCount_frame _ _ _ _).holly rfl
@[simp] theorem Drive.portCount_xp (p) (k) (n) (d : Drive) : (Drive.portCount p k n d).xp = d.xp := (Drive.portCount_frame _ _ _ _).xp rfl
@[simp] theorem Drive.portCount_time (p) (k) (n) (d : Drive) : (Drive.portCount p k n d).time = d.time := (Drive.portCount_frame _ _ _ _).time rfl
@[simp] theorem Drive.portCount_sec (p) (k) (n) (d : Drive) : (Drive.portCount p k n d).sec = d.sec := (Drive.portCount_frame _ _ _ _).sec rfl
@[simp] theorem Drive.portCount_mod (p) (k) (n) (d : Drive) : (Drive.portCount p k n d).mod = d.mod := (Drive.portCount_frame _ _ _ _).mod rfl
@[simp] theorem Drive.portCount_privet (p) (k) (n) (d : Drive) : (Drive.portCount p k n d).privet = d.privet := (Drive.portCount_frame _ _ _ _).privet rfl
@[simp] theorem Drive.portCount_rec_ (p) (k) (n) (d : Drive) : (Drive.portCount p k n d).rec_ = d.rec_ := (Drive.portCount_frame _ _ _ _).rec_ rfl
@[simp] theorem Drive.portCount_meter (p) (k) (n) (d : Drive) : (Drive.portCount p k n d).meter = d.meter := (Drive.portCount_frame _ _ _ _).meter rfl
@[simp] theorem Drive.portCount_power (p) (k) (n) (d : Drive) : (Drive.portCount p k n d).power = d.power := (Drive.portCount_frame _ _ _ _).power rfl
@[simp] theorem Drive.portCount_therm (p) (k) (n) (d : Drive) : (Drive.portCount p k n d).therm = d.therm := (Drive.portCount_frame _ _ _ _).therm rfl
@[simp] theorem Drive.portCount_health (p) (k) (n) (d : Drive) : (Drive.portCount p k n d).health = d.health := (Drive.portCount_frame _ _ _ _).health rfl
@[simp] theorem Drive.portCount_flag (p) (k) (n) (d : Drive) : (Drive.portCount p k n d).flag = d.flag := (Drive.portCount_frame _ _ _ _).flag rfl
@[simp] theorem Drive.portCount_optf (p) (k) (n) (d : Drive) : (Drive.portCount p k n d).optf = d.optf := (Drive.portCount_frame _ _ _ _).optf rfl
@[simp] theorem Drive.portCount_jobs (p) (k) (n) (d : Drive) : (Drive.portCount p k n d).jobs = d.jobs := (Drive.portCount_frame _ _ _ _).jobs rfl
@[simp] theorem Drive.portCount_chans (p) (k) (n) (d : Drive) : (Drive.portCount p k n d).chans = d.chans := (Drive.portCount_frame _ _ _ _).chans rfl
@[simp] theorem Drive.portCount_healthSaved (p) (k) (n) (d : Drive) : (Drive.portCount p k n d).healthSaved = d.healthSaved := (Drive.portCount_frame _ _ _ _).healthSaved rfl
@[simp] theorem Drive.portCount_ident (p) (k) (n) (d : Drive) : (Drive.portCount p k n d).ident = d.ident := (Drive.portCount_frame _ _ _ _).ident rfl
@[simp] theorem Drive.portCount_out (p) (k) (n) (d : Drive) : (Drive.portCount p k n d).out = d.out := (Drive.portCount_frame _ _ _ _).out rfl
@[simp] theorem Drive.portCount_free (p) (k) (n) (d : Drive) : (Drive.portCount p k n d).free = d.free := (Drive.portCount_frame _ _ _ _).free rfl
@[simp] theorem Drive.advanceTo_kv (t) (d : Drive) : (Drive.advanceTo t d).kv = d.kv := (Drive.advanceTo_frame _ _).kv rfl
@[simp] theorem Drive.advanceTo_media (t) (d : Drive) : (Drive.advanceTo t d).media = d.media := (Drive.advanceTo_frame _ _).media rfl
@[simp] theorem Drive.advanceTo_twin (t) (d : Drive) : (Drive.advanceTo t d).twin = d.twin := (Drive.advanceTo_frame _ _).twin rfl
@[simp] theorem Drive.advanceTo_ring (t) (d : Drive) : (Drive.advanceTo t d).ring = d.ring := (Drive.advanceTo_frame _ _).ring rfl
@[simp] theorem Drive.advanceTo_keys (t) (d : Drive) : (Drive.advanceTo t d).keys = d.keys := (Drive.advanceTo_frame _ _).keys rfl
@[simp] theorem Drive.advanceTo_holly (t) (d : Drive) : (Drive.advanceTo t d).holly = d.holly := (Drive.advanceTo_frame _ _).holly rfl
@[simp] theorem Drive.advanceTo_xp (t) (d : Drive) : (Drive.advanceTo t d).xp = d.xp := (Drive.advanceTo_frame _ _).xp rfl
@[simp] theorem Drive.advanceTo_sec (t) (d : Drive) : (Drive.advanceTo t d).sec = d.sec := (Drive.advanceTo_frame _ _).sec rfl
@[simp] theorem Drive.advanceTo_mod (t) (d : Drive) : (Drive.advanceTo t d).mod = d.mod := (Drive.advanceTo_frame _ _).mod rfl
@[simp] theorem Drive.advanceTo_port (t) (d : Drive) : (Drive.advanceTo t d).port = d.port := (Drive.advanceTo_frame _ _).port rfl
@[simp] theorem Drive.advanceTo_privet (t) (d : Drive) : (Drive.advanceTo t d).privet = d.privet := (Drive.advanceTo_frame _ _).privet rfl
@[simp] theorem Drive.advanceTo_rec_ (t) (d : Drive) : (Drive.advanceTo t d).rec_ = d.rec_ := (Drive.advanceTo_frame _ _).rec_ rfl
@[simp] theorem Drive.advanceTo_meter (t) (d : Drive) : (Drive.advanceTo t d).meter = d.meter := (Drive.advanceTo_frame _ _).meter rfl
@[simp] theorem Drive.advanceTo_power (t) (d : Drive) : (Drive.advanceTo t d).power = d.power := (Drive.advanceTo_frame _ _).power rfl
@[simp] theorem Drive.advanceTo_therm (t) (d : Drive) : (Drive.advanceTo t d).therm = d.therm := (Drive.advanceTo_frame _ _).therm rfl
@[simp] theorem Drive.advanceTo_health (t) (d : Drive) : (Drive.advanceTo t d).health = d.health := (Drive.advanceTo_frame _ _).health rfl
@[simp] theorem Drive.advanceTo_flag (t) (d : Drive) : (Drive.advanceTo t d).flag = d.flag := (Drive.advanceTo_frame _ _).flag rfl
@[simp] theorem Drive.advanceTo_optf (t) (d : Drive) : (Drive.advanceTo t d).optf = d.optf := (Drive.advanceTo_frame _ _).optf rfl
@[simp] theorem Drive.advanceTo_jobs (t) (d : Drive) : (Drive.advanceTo t d).jobs = d.jobs := (Drive.advanceTo_frame _ _).jobs rfl
@[simp] theorem Drive.advanceTo_chans (t) (d : Drive) : (Drive.advanceTo t d).chans = d.chans := (Drive.advanceTo_frame _ _).chans rfl
@[simp] theorem Drive.advanceTo_healthSaved (t) (d : Drive) : (Drive.advanceTo t d).healthSaved = d.healthSaved := (Drive.advanceTo_frame _ _).healthSaved rfl
@[simp] theorem Drive.advanceTo_ident (t) (d : Drive) : (Drive.advanceTo t d).ident = d.ident := (Drive.advanceTo_frame _ _).ident rfl
@[simp] theorem Drive.advanceTo_out (t) (d : Drive) : (Drive.advanceTo t d).out = d.out := (Drive.advanceTo_frame _ _).out rfl
@[simp] theorem Drive.advanceTo_free (t) (d : Drive) : (Drive.advanceTo t d).free = d.free := (Drive.advanceTo_frame _ _).free rfl
@[simp] theorem Drive.reserveTicks_kv (d : Drive) : (Drive.reserveTicks d).kv = d.kv := (Drive.reserveTicks_frame _).kv rfl
@[simp] theorem Drive.reserveTicks_ring (d : Drive) : (Drive.reserveTicks d).ring = d.ring := (Drive.reserveTicks_frame _).ring rfl
@[simp] theorem Drive.reserveTicks_keys (d : Drive) : (Drive.reserveTicks d).keys = d.keys := (Drive.reserveTicks_frame _).keys rfl
@[simp] theorem Drive.reserveTicks_holly (d : Drive) : (Drive.reserveTicks d).holly = d.holly := (Drive.reserveTicks_frame _).holly rfl
@[simp] theorem Drive.reserveTicks_xp (d : Drive) : (Drive.reserveTicks d).xp = d.xp := (Drive.reserveTicks_frame _).xp rfl
@[simp] theorem Drive.reserveTicks_time (d : Drive) : (Drive.reserveTicks d).time = d.time := (Drive.reserveTicks_frame _).time rfl
@[simp] theorem Drive.reserveTicks_sec (d : Drive) : (Drive.reserveTicks d).sec = d.sec := (Drive.reserveTicks_frame _).sec rfl
@[simp] theorem Drive.reserveTicks_mod (d : Drive) : (Drive.reserveTicks d).mod = d.mod := (Drive.reserveTicks_frame _).mod rfl
@[simp] theorem Drive.reserveTicks_port (d : Drive) : (Drive.reserveTicks d).port = d.port := (Drive.reserveTicks_frame _).port rfl
@[simp] theorem Drive.reserveTicks_privet (d : Drive) : (Drive.reserveTicks d).privet = d.privet := (Drive.reserveTicks_frame _).privet rfl
@[simp] theorem Drive.reserveTicks_rec_ (d : Drive) : (Drive.reserveTicks d).rec_ = d.rec_ := (Drive.reserveTicks_frame _).rec_ rfl
@[simp] theorem Drive.reserveTicks_meter (d : Drive) : (Drive.reserveTicks d).meter = d.meter := (Drive.reserveTicks_frame _).meter rfl
@[simp] theorem Drive.reserveTicks_power (d : Drive) : (Drive.reserveTicks d).power = d.power := (Drive.reserveTicks_frame _).power rfl
@[simp] theorem Drive.reserveTicks_therm (d : Drive) : (Drive.reserveTicks d).therm = d.therm := (Drive.reserveTicks_frame _).therm rfl
@[simp] theorem Drive.reserveTicks_health (d : Drive) : (Drive.reserveTicks d).health = d.health := (Drive.reserveTicks_frame _).health rfl
@[simp] theorem Drive.reserveTicks_flag (d : Drive) : (Drive.reserveTicks d).flag = d.flag := (Drive.reserveTicks_frame _).flag rfl
@[simp] theorem Drive.reserveTicks_optf (d : Drive) : (Drive.reserveTicks d).optf = d.optf := (Drive.reserveTicks_frame _).optf rfl
@[simp] theorem Drive.reserveTicks_jobs (d : Drive) : (Drive.reserveTicks d).jobs = d.jobs := (Drive.reserveTicks_frame _).jobs rfl
@[simp] theorem Drive.reserveTicks_chans (d : Drive) : (Drive.reserveTicks d).chans = d.chans := (Drive.reserveTicks_frame _).chans rfl
@[simp] theorem Drive.reserveTicks_healthSaved (d : Drive) : (Drive.reserveTicks d).healthSaved = d.healthSaved := (Drive.reserveTicks_frame _).healthSaved rfl
@[simp] theorem Drive.reserveTicks_ident (d : Drive) : (Drive.reserveTicks d).ident = d.ident := (Drive.reserveTicks_frame _).ident rfl
@[simp] theorem Drive.reserveTicks_out (d : Drive) : (Drive.reserveTicks d).out = d.out := (Drive.reserveTicks_frame _).out rfl
@[simp] theorem Drive.reserveTicks_free (d : Drive) : (Drive.reserveTicks d).free = d.free := (Drive.reserveTicks_frame _).free rfl
@[simp] theorem Drive.awaken_kv (d : Drive) : (Drive.awaken d).kv = d.kv := (Drive.awaken_frame _).kv rfl
@[simp] theorem Drive.awaken_media (d : Drive) : (Drive.awaken d).media = d.media := (Drive.awaken_frame _).media rfl
@[simp] theorem Drive.awaken_twin (d : Drive) : (Drive.awaken d).twin = d.twin := (Drive.awaken_frame _).twin rfl
@[simp] theorem Drive.awaken_ring (d : Drive) : (Drive.awaken d).ring = d.ring := (Drive.awaken_frame _).ring rfl
@[simp] theorem Drive.awaken_holly (d : Drive) : (Drive.awaken d).holly = d.holly := (Drive.awaken_frame _).holly rfl
@[simp] theorem Drive.awaken_sec (d : Drive) : (Drive.awaken d).sec = d.sec := (Drive.awaken_frame _).sec rfl
@[simp] theorem Drive.awaken_mod (d : Drive) : (Drive.awaken d).mod = d.mod := (Drive.awaken_frame _).mod rfl
@[simp] theorem Drive.awaken_privet (d : Drive) : (Drive.awaken d).privet = d.privet := (Drive.awaken_frame _).privet rfl
@[simp] theorem Drive.awaken_therm (d : Drive) : (Drive.awaken d).therm = d.therm := (Drive.awaken_frame _).therm rfl
@[simp] theorem Drive.awaken_health (d : Drive) : (Drive.awaken d).health = d.health := (Drive.awaken_frame _).health rfl
@[simp] theorem Drive.awaken_optf (d : Drive) : (Drive.awaken d).optf = d.optf := (Drive.awaken_frame _).optf rfl
@[simp] theorem Drive.awaken_jobs (d : Drive) : (Drive.awaken d).jobs = d.jobs := (Drive.awaken_frame _).jobs rfl
@[simp] theorem Drive.awaken_chans (d : Drive) : (Drive.awaken d).chans = d.chans := (Drive.awaken_frame _).chans rfl
@[simp] theorem Drive.awaken_healthSaved (d : Drive) : (Drive.awaken d).healthSaved = d.healthSaved := (Drive.awaken_frame _).healthSaved rfl
@[simp] theorem Drive.awaken_ident (d : Drive) : (Drive.awaken d).ident = d.ident := (Drive.awaken_frame _).ident rfl
@[simp] theorem Drive.awaken_free (d : Drive) : (Drive.awaken d).free = d.free := (Drive.awaken_frame _).free rfl
@[simp] theorem Drive.beginWake_kv (d : Drive) : (Drive.beginWake d).kv = d.kv := (Drive.beginWake_frame _).kv rfl
@[simp] theorem Drive.beginWake_media (d : Drive) : (Drive.beginWake d).media = d.media := (Drive.beginWake_frame _).media rfl
@[simp] theorem Drive.beginWake_twin (d : Drive) : (Drive.beginWake d).twin = d.twin := (Drive.beginWake_frame _).twin rfl
@[simp] theorem Drive.beginWake_ring (d : Drive) : (Drive.beginWake d).ring = d.ring := (Drive.beginWake_frame _).ring rfl
@[simp] theorem Drive.beginWake_keys (d : Drive) : (Drive.beginWake d).keys = d.keys := (Drive.beginWake_frame _).keys rfl
@[simp] theorem Drive.beginWake_holly (d : Drive) : (Drive.beginWake d).holly = d.holly := (Drive.beginWake_frame _).holly rfl
@[simp] theorem Drive.beginWake_xp (d : Drive) : (Drive.beginWake d).xp = d.xp := (Drive.beginWake_frame _).xp rfl
@[simp] theorem Drive.beginWake_time (d : Drive) : (Drive.beginWake d).time = d.time := (Drive.beginWake_frame _).time rfl
@[simp] theorem Drive.beginWake_sec (d : Drive) : (Drive.beginWake d).sec = d.sec := (Drive.beginWake_frame _).sec rfl
@[simp] theorem Drive.beginWake_mod (d : Drive) : (Drive.beginWake d).mod = d.mod := (Drive.beginWake_frame _).mod rfl
@[simp] theorem Drive.beginWake_port (d : Drive) : (Drive.beginWake d).port = d.port := (Drive.beginWake_frame _).port rfl
@[simp] theorem Drive.beginWake_privet (d : Drive) : (Drive.beginWake d).privet = d.privet := (Drive.beginWake_frame _).privet rfl
@[simp] theorem Drive.beginWake_rec_ (d : Drive) : (Drive.beginWake d).rec_ = d.rec_ := (Drive.beginWake_frame _).rec_ rfl
@[simp] theorem Drive.beginWake_meter (d : Drive) : (Drive.beginWake d).meter = d.meter := (Drive.beginWake_frame _).meter rfl
@[simp] theorem Drive.beginWake_therm (d : Drive) : (Drive.beginWake d).therm = d.therm := (Drive.beginWake_frame _).therm rfl
@[simp] theorem Drive.beginWake_health (d : Drive) : (Drive.beginWake d).health = d.health := (Drive.beginWake_frame _).health rfl
@[simp] theorem Drive.beginWake_flag (d : Drive) : (Drive.beginWake d).flag = d.flag := (Drive.beginWake_frame _).flag rfl
@[simp] theorem Drive.beginWake_optf (d : Drive) : (Drive.beginWake d).optf = d.optf := (Drive.beginWake_frame _).optf rfl
@[simp] theorem Drive.beginWake_jobs (d : Drive) : (Drive.beginWake d).jobs = d.jobs := (Drive.beginWake_frame _).jobs rfl
@[simp] theorem Drive.beginWake_chans (d : Drive) : (Drive.beginWake d).chans = d.chans := (Drive.beginWake_frame _).chans rfl
@[simp] theorem Drive.beginWake_healthSaved (d : Drive) : (Drive.beginWake d).healthSaved = d.healthSaved := (Drive.beginWake_frame _).healthSaved rfl
@[simp] theorem Drive.beginWake_ident (d : Drive) : (Drive.beginWake d).ident = d.ident := (Drive.beginWake_frame _).ident rfl
@[simp] theorem Drive.beginWake_out (d : Drive) : (Drive.beginWake d).out = d.out := (Drive.beginWake_frame _).out rfl
@[simp] theorem Drive.beginWake_free (d : Drive) : (Drive.beginWake d).free = d.free := (Drive.beginWake_frame _).free rfl
@[simp] theorem Drive.setPower_kv (st) (d : Drive) : (Drive.setPower st d).kv = d.kv := (Drive.setPower_frame _ _).kv rfl
@[simp] theorem Drive.setPower_media (st) (d : Drive) : (Drive.setPower st d).media = d.media := (Drive.setPower_frame _ _).media rfl
@[simp] theorem Drive.setPower_twin (st) (d : Drive) : (Drive.setPower st d).twin = d.twin := (Drive.setPower_frame _ _).twin rfl
@[simp] theorem Drive.setPower_ring (st) (d : Drive) : (Drive.setPower st d).ring = d.ring := (Drive.setPower_frame _ _).ring rfl
@[simp] theorem Drive.setPower_holly (st) (d : Drive) : (Drive.setPower st d).holly = d.holly := (Drive.setPower_frame _ _).holly rfl
@[simp] theorem Drive.setPower_time (st) (d : Drive) : (Drive.setPower st d).time = d.time := (Drive.setPower_frame _ _).time rfl
@[simp] theorem Drive.setPower_sec (st) (d : Drive) : (Drive.setPower st d).sec = d.sec := (Drive.setPower_frame _ _).sec rfl
@[simp] theorem Drive.setPower_mod (st) (d : Drive) : (Drive.setPower st d).mod = d.mod := (Drive.setPower_frame _ _).mod rfl
@[simp] theorem Drive.setPower_privet (st) (d : Drive) : (Drive.setPower st d).privet = d.privet := (Drive.setPower_frame _ _).privet rfl
@[simp] theorem Drive.setPower_therm (st) (d : Drive) : (Drive.setPower st d).therm = d.therm := (Drive.setPower_frame _ _).therm rfl
@[simp] theorem Drive.setPower_health (st) (d : Drive) : (Drive.setPower st d).health = d.health := (Drive.setPower_frame _ _).health rfl
@[simp] theorem Drive.setPower_optf (st) (d : Drive) : (Drive.setPower st d).optf = d.optf := (Drive.setPower_frame _ _).optf rfl
@[simp] theorem Drive.setPower_jobs (st) (d : Drive) : (Drive.setPower st d).jobs = d.jobs := (Drive.setPower_frame _ _).jobs rfl
@[simp] theorem Drive.setPower_chans (st) (d : Drive) : (Drive.setPower st d).chans = d.chans := (Drive.setPower_frame _ _).chans rfl
@[simp] theorem Drive.setPower_healthSaved (st) (d : Drive) : (Drive.setPower st d).healthSaved = d.healthSaved := (Drive.setPower_frame _ _).healthSaved rfl
@[simp] theorem Drive.setPower_ident (st) (d : Drive) : (Drive.setPower st d).ident = d.ident := (Drive.setPower_frame _ _).ident rfl
@[simp] theorem Drive.setPower_free (st) (d : Drive) : (Drive.setPower st d).free = d.free := (Drive.setPower_frame _ _).free rfl
@[simp] theorem Drive.dequeue_kv (d : Drive) : (Drive.dequeue d).kv = d.kv := (Drive.dequeue_frame _).kv rfl
@[simp] theorem Drive.dequeue_media (d : Drive) : (Drive.dequeue d).media = d.media := (Drive.dequeue_frame _).media rfl
@[simp] theorem Drive.dequeue_twin (d : Drive) : (Drive.dequeue d).twin = d.twin := (Drive.dequeue_frame _).twin rfl
@[simp] theorem Drive.dequeue_ring (d : Drive) : (Drive.dequeue d).ring = d.ring := (Drive.dequeue_frame _).ring rfl
@[simp] theorem Drive.dequeue_keys (d : Drive) : (Drive.dequeue d).keys = d.keys := (Drive.dequeue_frame _).keys rfl
@[simp] theorem Drive.dequeue_holly (d : Drive) : (Drive.dequeue d).holly = d.holly := (Drive.dequeue_frame _).holly rfl
@[simp] theorem Drive.dequeue_xp (d : Drive) : (Drive.dequeue d).xp = d.xp := (Drive.dequeue_frame _).xp rfl
@[simp] theorem Drive.dequeue_time (d : Drive) : (Drive.dequeue d).time = d.time := (Drive.dequeue_frame _).time rfl
@[simp] theorem Drive.dequeue_sec (d : Drive) : (Drive.dequeue d).sec = d.sec := (Drive.dequeue_frame _).sec rfl
@[simp] theorem Drive.dequeue_mod (d : Drive) : (Drive.dequeue d).mod = d.mod := (Drive.dequeue_frame _).mod rfl
@[simp] theorem Drive.dequeue_port (d : Drive) : (Drive.dequeue d).port = d.port := (Drive.dequeue_frame _).port rfl
@[simp] theorem Drive.dequeue_privet (d : Drive) : (Drive.dequeue d).privet = d.privet := (Drive.dequeue_frame _).privet rfl
@[simp] theorem Drive.dequeue_rec_ (d : Drive) : (Drive.dequeue d).rec_ = d.rec_ := (Drive.dequeue_frame _).rec_ rfl
@[simp] theorem Drive.dequeue_meter (d : Drive) : (Drive.dequeue d).meter = d.meter := (Drive.dequeue_frame _).meter rfl
@[simp] theorem Drive.dequeue_power (d : Drive) : (Drive.dequeue d).power = d.power := (Drive.dequeue_frame _).power rfl
@[simp] theorem Drive.dequeue_therm (d : Drive) : (Drive.dequeue d).therm = d.therm := (Drive.dequeue_frame _).therm rfl
@[simp] theorem Drive.dequeue_health (d : Drive) : (Drive.dequeue d).health = d.health := (Drive.dequeue_frame _).health rfl
@[simp] theorem Drive.dequeue_flag (d : Drive) : (Drive.dequeue d).flag = d.flag := (Drive.dequeue_frame _).flag rfl
@[simp] theorem Drive.dequeue_optf (d : Drive) : (Drive.dequeue d).optf = d.optf := (Drive.dequeue_frame _).optf rfl
@[simp] theorem Drive.dequeue_chans (d : Drive) : (Drive.dequeue d).chans = d.chans := (Drive.dequeue_frame _).chans rfl
@[simp] theorem Drive.dequeue_healthSaved (d : Drive) : (Drive.dequeue d).healthSaved = d.healthSaved := (Drive.dequeue_frame _).healthSaved rfl
@[simp] theorem Drive.dequeue_ident (d : Drive) : (Drive.dequeue d).ident = d.ident := (Drive.dequeue_frame _).ident rfl
@[simp] theorem Drive.dequeue_out (d : Drive) : (Drive.dequeue d).out = d.out := (Drive.dequeue_frame _).out rfl
@[simp] theorem Drive.dequeue_free (d : Drive) : (Drive.dequeue d).free = d.free := (Drive.dequeue_frame _).free rfl
@[simp] theorem Drive.endJob_kv (j) (status) (d : Drive) : (Drive.endJob j status d).kv = d.kv := (Drive.endJob_frame _ _ _).kv rfl
@[simp] theorem Drive.endJob_media (j) (status) (d : Drive) : (Drive.endJob j status d).media = d.media := (Drive.endJob_frame _ _ _).media rfl
@[simp] theorem Drive.endJob_twin (j) (status) (d : Drive) : (Drive.endJob j status d).twin = d.twin := (Drive.endJob_frame _ _ _).twin rfl
@[simp] theorem Drive.endJob_ring (j) (status) (d : Drive) : (Drive.endJob j status d).ring = d.ring := (Drive.endJob_frame _ _ _).ring rfl
@[simp] theorem Drive.endJob_holly (j) (status) (d : Drive) : (Drive.endJob j status d).holly = d.holly := (Drive.endJob_frame _ _ _).holly rfl
@[simp] theorem Drive.endJob_time (j) (status) (d : Drive) : (Drive.endJob j status d).time = d.time := (Drive.endJob_frame _ _ _).time rfl
@[simp] theorem Drive.endJob_sec (j) (status) (d : Drive) : (Drive.endJob j status d).sec = d.sec := (Drive.endJob_frame _ _ _).sec rfl
@[simp] theorem Drive.endJob_mod (j) (status) (d : Drive) : (Drive.endJob j status d).mod = d.mod := (Drive.endJob_frame _ _ _).mod rfl
@[simp] theorem Drive.endJob_privet (j) (status) (d : Drive) : (Drive.endJob j status d).privet = d.privet := (Drive.endJob_frame _ _ _).privet rfl
@[simp] theorem Drive.endJob_therm (j) (status) (d : Drive) : (Drive.endJob j status d).therm = d.therm := (Drive.endJob_frame _ _ _).therm rfl
@[simp] theorem Drive.endJob_health (j) (status) (d : Drive) : (Drive.endJob j status d).health = d.health := (Drive.endJob_frame _ _ _).health rfl
@[simp] theorem Drive.endJob_optf (j) (status) (d : Drive) : (Drive.endJob j status d).optf = d.optf := (Drive.endJob_frame _ _ _).optf rfl
@[simp] theorem Drive.endJob_chans (j) (status) (d : Drive) : (Drive.endJob j status d).chans = d.chans := (Drive.endJob_frame _ _ _).chans rfl
@[simp] theorem Drive.endJob_healthSaved (j) (status) (d : Drive) : (Drive.endJob j status d).healthSaved = d.healthSaved := (Drive.endJob_frame _ _ _).healthSaved rfl
@[simp] theorem Drive.endJob_ident (j) (status) (d : Drive) : (Drive.endJob j status d).ident = d.ident := (Drive.endJob_frame _ _ _).ident rfl
@[simp] theorem Drive.endJob_free (j) (status) (d : Drive) : (Drive.endJob j status d).free = d.free := (Drive.endJob_frame _ _ _).free rfl
@[simp] theorem Drive.useKey_kv (slot) (ns) (gen) (d : Drive) : (Drive.useKey slot ns gen d).kv = d.kv := (Drive.useKey_frame _ _ _ _).kv rfl
@[simp] theorem Drive.useKey_media (slot) (ns) (gen) (d : Drive) : (Drive.useKey slot ns gen d).media = d.media := (Drive.useKey_frame _ _ _ _).media rfl
@[simp] theorem Drive.useKey_twin (slot) (ns) (gen) (d : Drive) : (Drive.useKey slot ns gen d).twin = d.twin := (Drive.useKey_frame _ _ _ _).twin rfl
@[simp] theorem Drive.useKey_ring (slot) (ns) (gen) (d : Drive) : (Drive.useKey slot ns gen d).ring = d.ring := (Drive.useKey_frame _ _ _ _).ring rfl
@[simp] theorem Drive.useKey_holly (slot) (ns) (gen) (d : Drive) : (Drive.useKey slot ns gen d).holly = d.holly := (Drive.useKey_frame _ _ _ _).holly rfl
@[simp] theorem Drive.useKey_xp (slot) (ns) (gen) (d : Drive) : (Drive.useKey slot ns gen d).xp = d.xp := (Drive.useKey_frame _ _ _ _).xp rfl
@[simp] theorem Drive.useKey_time (slot) (ns) (gen) (d : Drive) : (Drive.useKey slot ns gen d).time = d.time := (Drive.useKey_frame _ _ _ _).time rfl
@[simp] theorem Drive.useKey_sec (slot) (ns) (gen) (d : Drive) : (Drive.useKey slot ns gen d).sec = d.sec := (Drive.useKey_frame _ _ _ _).sec rfl
@[simp] theorem Drive.useKey_mod (slot) (ns) (gen) (d : Drive) : (Drive.useKey slot ns gen d).mod = d.mod := (Drive.useKey_frame _ _ _ _).mod rfl
@[simp] theorem Drive.useKey_port (slot) (ns) (gen) (d : Drive) : (Drive.useKey slot ns gen d).port = d.port := (Drive.useKey_frame _ _ _ _).port rfl
@[simp] theorem Drive.useKey_privet (slot) (ns) (gen) (d : Drive) : (Drive.useKey slot ns gen d).privet = d.privet := (Drive.useKey_frame _ _ _ _).privet rfl
@[simp] theorem Drive.useKey_rec_ (slot) (ns) (gen) (d : Drive) : (Drive.useKey slot ns gen d).rec_ = d.rec_ := (Drive.useKey_frame _ _ _ _).rec_ rfl
@[simp] theorem Drive.useKey_meter (slot) (ns) (gen) (d : Drive) : (Drive.useKey slot ns gen d).meter = d.meter := (Drive.useKey_frame _ _ _ _).meter rfl
@[simp] theorem Drive.useKey_power (slot) (ns) (gen) (d : Drive) : (Drive.useKey slot ns gen d).power = d.power := (Drive.useKey_frame _ _ _ _).power rfl
@[simp] theorem Drive.useKey_therm (slot) (ns) (gen) (d : Drive) : (Drive.useKey slot ns gen d).therm = d.therm := (Drive.useKey_frame _ _ _ _).therm rfl
@[simp] theorem Drive.useKey_health (slot) (ns) (gen) (d : Drive) : (Drive.useKey slot ns gen d).health = d.health := (Drive.useKey_frame _ _ _ _).health rfl
@[simp] theorem Drive.useKey_flag (slot) (ns) (gen) (d : Drive) : (Drive.useKey slot ns gen d).flag = d.flag := (Drive.useKey_frame _ _ _ _).flag rfl
@[simp] theorem Drive.useKey_optf (slot) (ns) (gen) (d : Drive) : (Drive.useKey slot ns gen d).optf = d.optf := (Drive.useKey_frame _ _ _ _).optf rfl
@[simp] theorem Drive.useKey_jobs (slot) (ns) (gen) (d : Drive) : (Drive.useKey slot ns gen d).jobs = d.jobs := (Drive.useKey_frame _ _ _ _).jobs rfl
@[simp] theorem Drive.useKey_chans (slot) (ns) (gen) (d : Drive) : (Drive.useKey slot ns gen d).chans = d.chans := (Drive.useKey_frame _ _ _ _).chans rfl
@[simp] theorem Drive.useKey_healthSaved (slot) (ns) (gen) (d : Drive) : (Drive.useKey slot ns gen d).healthSaved = d.healthSaved := (Drive.useKey_frame _ _ _ _).healthSaved rfl
@[simp] theorem Drive.useKey_ident (slot) (ns) (gen) (d : Drive) : (Drive.useKey slot ns gen d).ident = d.ident := (Drive.useKey_frame _ _ _ _).ident rfl
@[simp] theorem Drive.useKey_out (slot) (ns) (gen) (d : Drive) : (Drive.useKey slot ns gen d).out = d.out := (Drive.useKey_frame _ _ _ _).out rfl
@[simp] theorem Drive.useKey_free (slot) (ns) (gen) (d : Drive) : (Drive.useKey slot ns gen d).free = d.free := (Drive.useKey_frame _ _ _ _).free rfl
@[simp] theorem Drive.dirWatch_media (d : Drive) : (Drive.dirWatch d).media = d.media := (Drive.dirWatch_frame _).media rfl
@[simp] theorem Drive.dirWatch_twin (d : Drive) : (Drive.dirWatch d).twin = d.twin := (Drive.dirWatch_frame _).twin rfl
@[simp] theorem Drive.dirWatch_ring (d : Drive) : (Drive.dirWatch d).ring = d.ring := (Drive.dirWatch_frame _).ring rfl
@[simp] theorem Drive.dirWatch_holly (d : Drive) : (Drive.dirWatch d).holly = d.holly := (Drive.dirWatch_frame _).holly rfl
@[simp] theorem Drive.dirWatch_time (d : Drive) : (Drive.dirWatch d).time = d.time := (Drive.dirWatch_frame _).time rfl
@[simp] theorem Drive.dirWatch_sec (d : Drive) : (Drive.dirWatch d).sec = d.sec := (Drive.dirWatch_frame _).sec rfl
@[simp] theorem Drive.dirWatch_mod (d : Drive) : (Drive.dirWatch d).mod = d.mod := (Drive.dirWatch_frame _).mod rfl
@[simp] theorem Drive.dirWatch_privet (d : Drive) : (Drive.dirWatch d).privet = d.privet := (Drive.dirWatch_frame _).privet rfl
@[simp] theorem Drive.dirWatch_power (d : Drive) : (Drive.dirWatch d).power = d.power := (Drive.dirWatch_frame _).power rfl
@[simp] theorem Drive.dirWatch_therm (d : Drive) : (Drive.dirWatch d).therm = d.therm := (Drive.dirWatch_frame _).therm rfl
@[simp] theorem Drive.dirWatch_health (d : Drive) : (Drive.dirWatch d).health = d.health := (Drive.dirWatch_frame _).health rfl
@[simp] theorem Drive.dirWatch_optf (d : Drive) : (Drive.dirWatch d).optf = d.optf := (Drive.dirWatch_frame _).optf rfl
@[simp] theorem Drive.dirWatch_jobs (d : Drive) : (Drive.dirWatch d).jobs = d.jobs := (Drive.dirWatch_frame _).jobs rfl
@[simp] theorem Drive.dirWatch_chans (d : Drive) : (Drive.dirWatch d).chans = d.chans := (Drive.dirWatch_frame _).chans rfl
@[simp] theorem Drive.dirWatch_healthSaved (d : Drive) : (Drive.dirWatch d).healthSaved = d.healthSaved := (Drive.dirWatch_frame _).healthSaved rfl
@[simp] theorem Drive.dirWatch_ident (d : Drive) : (Drive.dirWatch d).ident = d.ident := (Drive.dirWatch_frame _).ident rfl
@[simp] theorem Drive.dirWatch_free (d : Drive) : (Drive.dirWatch d).free = d.free := (Drive.dirWatch_frame _).free rfl
@[simp] theorem Drive.authFail_kv (p) (tag) (d : Drive) : (Drive.authFail p tag d).kv = d.kv := (Drive.authFail_frame _ _ _).kv rfl
@[simp] theorem Drive.authFail_media (p) (tag) (d : Drive) : (Drive.authFail p tag d).media = d.media := (Drive.authFail_frame _ _ _).media rfl
@[simp] theorem Drive.authFail_twin (p) (tag) (d : Drive) : (Drive.authFail p tag d).twin = d.twin := (Drive.authFail_frame _ _ _).twin rfl
@[simp] theorem Drive.authFail_ring (p) (tag) (d : Drive) : (Drive.authFail p tag d).ring = d.ring := (Drive.authFail_frame _ _ _).ring rfl
@[simp] theorem Drive.authFail_holly (p) (tag) (d : Drive) : (Drive.authFail p tag d).holly = d.holly := (Drive.authFail_frame _ _ _).holly rfl
@[simp] theorem Drive.authFail_time (p) (tag) (d : Drive) : (Drive.authFail p tag d).time = d.time := (Drive.authFail_frame _ _ _).time rfl
@[simp] theorem Drive.authFail_sec (p) (tag) (d : Drive) : (Drive.authFail p tag d).sec = d.sec := (Drive.authFail_frame _ _ _).sec rfl
@[simp] theorem Drive.authFail_mod (p) (tag) (d : Drive) : (Drive.authFail p tag d).mod = d.mod := (Drive.authFail_frame _ _ _).mod rfl
@[simp] theorem Drive.authFail_privet (p) (tag) (d : Drive) : (Drive.authFail p tag d).privet = d.privet := (Drive.authFail_frame _ _ _).privet rfl
@[simp] theorem Drive.authFail_power (p) (tag) (d : Drive) : (Drive.authFail p tag d).power = d.power := (Drive.authFail_frame _ _ _).power rfl
@[simp] theorem Drive.authFail_therm (p) (tag) (d : Drive) : (Drive.authFail p tag d).therm = d.therm := (Drive.authFail_frame _ _ _).therm rfl
@[simp] theorem Drive.authFail_optf (p) (tag) (d : Drive) : (Drive.authFail p tag d).optf = d.optf := (Drive.authFail_frame _ _ _).optf rfl
@[simp] theorem Drive.authFail_jobs (p) (tag) (d : Drive) : (Drive.authFail p tag d).jobs = d.jobs := (Drive.authFail_frame _ _ _).jobs rfl
@[simp] theorem Drive.authFail_chans (p) (tag) (d : Drive) : (Drive.authFail p tag d).chans = d.chans := (Drive.authFail_frame _ _ _).chans rfl
@[simp] theorem Drive.authFail_healthSaved (p) (tag) (d : Drive) : (Drive.authFail p tag d).healthSaved = d.healthSaved := (Drive.authFail_frame _ _ _).healthSaved rfl
@[simp] theorem Drive.authFail_ident (p) (tag) (d : Drive) : (Drive.authFail p tag d).ident = d.ident := (Drive.authFail_frame _ _ _).ident rfl
@[simp] theorem Drive.authFail_free (p) (tag) (d : Drive) : (Drive.authFail p tag d).free = d.free := (Drive.authFail_frame _ _ _).free rfl
@[simp] theorem Drive.takeRing_kv (p) (ring) (d : Drive) : (Drive.takeRing p ring d).kv = d.kv := (Drive.takeRing_frame _ _ _).kv rfl
@[simp] theorem Drive.takeRing_media (p) (ring) (d : Drive) : (Drive.takeRing p ring d).media = d.media := (Drive.takeRing_frame _ _ _).media rfl
@[simp] theorem Drive.takeRing_twin (p) (ring) (d : Drive) : (Drive.takeRing p ring d).twin = d.twin := (Drive.takeRing_frame _ _ _).twin rfl
@[simp] theorem Drive.takeRing_ring (p) (ring) (d : Drive) : (Drive.takeRing p ring d).ring = d.ring := (Drive.takeRing_frame _ _ _).ring rfl
@[simp] theorem Drive.takeRing_keys (p) (ring) (d : Drive) : (Drive.takeRing p ring d).keys = d.keys := (Drive.takeRing_frame _ _ _).keys rfl
@[simp] theorem Drive.takeRing_holly (p) (ring) (d : Drive) : (Drive.takeRing p ring d).holly = d.holly := (Drive.takeRing_frame _ _ _).holly rfl
@[simp] theorem Drive.takeRing_xp (p) (ring) (d : Drive) : (Drive.takeRing p ring d).xp = d.xp := (Drive.takeRing_frame _ _ _).xp rfl
@[simp] theorem Drive.takeRing_time (p) (ring) (d : Drive) : (Drive.takeRing p ring d).time = d.time := (Drive.takeRing_frame _ _ _).time rfl
@[simp] theorem Drive.takeRing_sec (p) (ring) (d : Drive) : (Drive.takeRing p ring d).sec = d.sec := (Drive.takeRing_frame _ _ _).sec rfl
@[simp] theorem Drive.takeRing_mod (p) (ring) (d : Drive) : (Drive.takeRing p ring d).mod = d.mod := (Drive.takeRing_frame _ _ _).mod rfl
@[simp] theorem Drive.takeRing_privet (p) (ring) (d : Drive) : (Drive.takeRing p ring d).privet = d.privet := (Drive.takeRing_frame _ _ _).privet rfl
@[simp] theorem Drive.takeRing_rec_ (p) (ring) (d : Drive) : (Drive.takeRing p ring d).rec_ = d.rec_ := (Drive.takeRing_frame _ _ _).rec_ rfl
@[simp] theorem Drive.takeRing_meter (p) (ring) (d : Drive) : (Drive.takeRing p ring d).meter = d.meter := (Drive.takeRing_frame _ _ _).meter rfl
@[simp] theorem Drive.takeRing_power (p) (ring) (d : Drive) : (Drive.takeRing p ring d).power = d.power := (Drive.takeRing_frame _ _ _).power rfl
@[simp] theorem Drive.takeRing_therm (p) (ring) (d : Drive) : (Drive.takeRing p ring d).therm = d.therm := (Drive.takeRing_frame _ _ _).therm rfl
@[simp] theorem Drive.takeRing_health (p) (ring) (d : Drive) : (Drive.takeRing p ring d).health = d.health := (Drive.takeRing_frame _ _ _).health rfl
@[simp] theorem Drive.takeRing_flag (p) (ring) (d : Drive) : (Drive.takeRing p ring d).flag = d.flag := (Drive.takeRing_frame _ _ _).flag rfl
@[simp] theorem Drive.takeRing_optf (p) (ring) (d : Drive) : (Drive.takeRing p ring d).optf = d.optf := (Drive.takeRing_frame _ _ _).optf rfl
@[simp] theorem Drive.takeRing_jobs (p) (ring) (d : Drive) : (Drive.takeRing p ring d).jobs = d.jobs := (Drive.takeRing_frame _ _ _).jobs rfl
@[simp] theorem Drive.takeRing_chans (p) (ring) (d : Drive) : (Drive.takeRing p ring d).chans = d.chans := (Drive.takeRing_frame _ _ _).chans rfl
@[simp] theorem Drive.takeRing_healthSaved (p) (ring) (d : Drive) : (Drive.takeRing p ring d).healthSaved = d.healthSaved := (Drive.takeRing_frame _ _ _).healthSaved rfl
@[simp] theorem Drive.takeRing_ident (p) (ring) (d : Drive) : (Drive.takeRing p ring d).ident = d.ident := (Drive.takeRing_frame _ _ _).ident rfl
@[simp] theorem Drive.takeRing_out (p) (ring) (d : Drive) : (Drive.takeRing p ring d).out = d.out := (Drive.takeRing_frame _ _ _).out rfl
@[simp] theorem Drive.takeRing_free (p) (ring) (d : Drive) : (Drive.takeRing p ring d).free = d.free := (Drive.takeRing_frame _ _ _).free rfl
@[simp] theorem Drive.takeRingSide_kv (d : Drive) : (Drive.takeRingSide d).kv = d.kv := (Drive.takeRingSide_frame _).kv rfl
@[simp] theorem Drive.takeRingSide_media (d : Drive) : (Drive.takeRingSide d).media = d.media := (Drive.takeRingSide_frame _).media rfl
@[simp] theorem Drive.takeRingSide_twin (d : Drive) : (Drive.takeRingSide d).twin = d.twin := (Drive.takeRingSide_frame _).twin rfl
@[simp] theorem Drive.takeRingSide_ring (d : Drive) : (Drive.takeRingSide d).ring = d.ring := (Drive.takeRingSide_frame _).ring rfl
@[simp] theorem Drive.takeRingSide_keys (d : Drive) : (Drive.takeRingSide d).keys = d.keys := (Drive.takeRingSide_frame _).keys rfl
@[simp] theorem Drive.takeRingSide_holly (d : Drive) : (Drive.takeRingSide d).holly = d.holly := (Drive.takeRingSide_frame _).holly rfl
@[simp] theorem Drive.takeRingSide_xp (d : Drive) : (Drive.takeRingSide d).xp = d.xp := (Drive.takeRingSide_frame _).xp rfl
@[simp] theorem Drive.takeRingSide_time (d : Drive) : (Drive.takeRingSide d).time = d.time := (Drive.takeRingSide_frame _).time rfl
@[simp] theorem Drive.takeRingSide_sec (d : Drive) : (Drive.takeRingSide d).sec = d.sec := (Drive.takeRingSide_frame _).sec rfl
@[simp] theorem Drive.takeRingSide_mod (d : Drive) : (Drive.takeRingSide d).mod = d.mod := (Drive.takeRingSide_frame _).mod rfl
@[simp] theorem Drive.takeRingSide_privet (d : Drive) : (Drive.takeRingSide d).privet = d.privet := (Drive.takeRingSide_frame _).privet rfl
@[simp] theorem Drive.takeRingSide_rec_ (d : Drive) : (Drive.takeRingSide d).rec_ = d.rec_ := (Drive.takeRingSide_frame _).rec_ rfl
@[simp] theorem Drive.takeRingSide_meter (d : Drive) : (Drive.takeRingSide d).meter = d.meter := (Drive.takeRingSide_frame _).meter rfl
@[simp] theorem Drive.takeRingSide_power (d : Drive) : (Drive.takeRingSide d).power = d.power := (Drive.takeRingSide_frame _).power rfl
@[simp] theorem Drive.takeRingSide_therm (d : Drive) : (Drive.takeRingSide d).therm = d.therm := (Drive.takeRingSide_frame _).therm rfl
@[simp] theorem Drive.takeRingSide_health (d : Drive) : (Drive.takeRingSide d).health = d.health := (Drive.takeRingSide_frame _).health rfl
@[simp] theorem Drive.takeRingSide_flag (d : Drive) : (Drive.takeRingSide d).flag = d.flag := (Drive.takeRingSide_frame _).flag rfl
@[simp] theorem Drive.takeRingSide_optf (d : Drive) : (Drive.takeRingSide d).optf = d.optf := (Drive.takeRingSide_frame _).optf rfl
@[simp] theorem Drive.takeRingSide_jobs (d : Drive) : (Drive.takeRingSide d).jobs = d.jobs := (Drive.takeRingSide_frame _).jobs rfl
@[simp] theorem Drive.takeRingSide_chans (d : Drive) : (Drive.takeRingSide d).chans = d.chans := (Drive.takeRingSide_frame _).chans rfl
@[simp] theorem Drive.takeRingSide_healthSaved (d : Drive) : (Drive.takeRingSide d).healthSaved = d.healthSaved := (Drive.takeRingSide_frame _).healthSaved rfl
@[simp] theorem Drive.takeRingSide_ident (d : Drive) : (Drive.takeRingSide d).ident = d.ident := (Drive.takeRingSide_frame _).ident rfl
@[simp] theorem Drive.takeRingSide_out (d : Drive) : (Drive.takeRingSide d).out = d.out := (Drive.takeRingSide_frame _).out rfl
@[simp] theorem Drive.takeRingSide_free (d : Drive) : (Drive.takeRingSide d).free = d.free := (Drive.takeRingSide_frame _).free rfl
@[simp] theorem Drive.sendAck_kv (sid) (path) (d : Drive) : (Drive.sendAck sid path d).kv = d.kv := (Drive.sendAck_frame _ _ _).kv rfl
@[simp] theorem Drive.sendAck_media (sid) (path) (d : Drive) : (Drive.sendAck sid path d).media = d.media := (Drive.sendAck_frame _ _ _).media rfl
@[simp] theorem Drive.sendAck_twin (sid) (path) (d : Drive) : (Drive.sendAck sid path d).twin = d.twin := (Drive.sendAck_frame _ _ _).twin rfl
@[simp] theorem Drive.sendAck_ring (sid) (path) (d : Drive) : (Drive.sendAck sid path d).ring = d.ring := (Drive.sendAck_frame _ _ _).ring rfl
@[simp] theorem Drive.sendAck_holly (sid) (path) (d : Drive) : (Drive.sendAck sid path d).holly = d.holly := (Drive.sendAck_frame _ _ _).holly rfl
@[simp] theorem Drive.sendAck_time (sid) (path) (d : Drive) : (Drive.sendAck sid path d).time = d.time := (Drive.sendAck_frame _ _ _).time rfl
@[simp] theorem Drive.sendAck_sec (sid) (path) (d : Drive) : (Drive.sendAck sid path d).sec = d.sec := (Drive.sendAck_frame _ _ _).sec rfl
@[simp] theorem Drive.sendAck_mod (sid) (path) (d : Drive) : (Drive.sendAck sid path d).mod = d.mod := (Drive.sendAck_frame _ _ _).mod rfl
@[simp] theorem Drive.sendAck_privet (sid) (path) (d : Drive) : (Drive.sendAck sid path d).privet = d.privet := (Drive.sendAck_frame _ _ _).privet rfl
@[simp] theorem Drive.sendAck_rec_ (sid) (path) (d : Drive) : (Drive.sendAck sid path d).rec_ = d.rec_ := (Drive.sendAck_frame _ _ _).rec_ rfl
@[simp] theorem Drive.sendAck_power (sid) (path) (d : Drive) : (Drive.sendAck sid path d).power = d.power := (Drive.sendAck_frame _ _ _).power rfl
@[simp] theorem Drive.sendAck_therm (sid) (path) (d : Drive) : (Drive.sendAck sid path d).therm = d.therm := (Drive.sendAck_frame _ _ _).therm rfl
@[simp] theorem Drive.sendAck_health (sid) (path) (d : Drive) : (Drive.sendAck sid path d).health = d.health := (Drive.sendAck_frame _ _ _).health rfl
@[simp] theorem Drive.sendAck_flag (sid) (path) (d : Drive) : (Drive.sendAck sid path d).flag = d.flag := (Drive.sendAck_frame _ _ _).flag rfl
@[simp] theorem Drive.sendAck_optf (sid) (path) (d : Drive) : (Drive.sendAck sid path d).optf = d.optf := (Drive.sendAck_frame _ _ _).optf rfl
@[simp] theorem Drive.sendAck_jobs (sid) (path) (d : Drive) : (Drive.sendAck sid path d).jobs = d.jobs := (Drive.sendAck_frame _ _ _).jobs rfl
@[simp] theorem Drive.sendAck_chans (sid) (path) (d : Drive) : (Drive.sendAck sid path d).chans = d.chans := (Drive.sendAck_frame _ _ _).chans rfl
@[simp] theorem Drive.sendAck_healthSaved (sid) (path) (d : Drive) : (Drive.sendAck sid path d).healthSaved = d.healthSaved := (Drive.sendAck_frame _ _ _).healthSaved rfl
@[simp] theorem Drive.sendAck_ident (sid) (path) (d : Drive) : (Drive.sendAck sid path d).ident = d.ident := (Drive.sendAck_frame _ _ _).ident rfl
@[simp] theorem Drive.sendAck_free (sid) (path) (d : Drive) : (Drive.sendAck sid path d).free = d.free := (Drive.sendAck_frame _ _ _).free rfl
@[simp] theorem Drive.meterReply_kv (r) (d : Drive) : (Drive.meterReply r d).kv = d.kv := (Drive.meterReply_frame _ _).kv rfl
@[simp] theorem Drive.meterReply_media (r) (d : Drive) : (Drive.meterReply r d).media = d.media := (Drive.meterReply_frame _ _).media rfl
@[simp] theorem Drive.meterReply_twin (r) (d : Drive) : (Drive.meterReply r d).twin = d.twin := (Drive.meterReply_frame _ _).twin rfl
@[simp] theorem Drive.meterReply_ring (r) (d : Drive) : (Drive.meterReply r d).ring = d.ring := (Drive.meterReply_frame _ _).ring rfl
@[simp] theorem Drive.meterReply_keys (r) (d : Drive) : (Drive.meterReply r d).keys = d.keys := (Drive.meterReply_frame _ _).keys rfl
@[simp] theorem Drive.meterReply_holly (r) (d : Drive) : (Drive.meterReply r d).holly = d.holly := (Drive.meterReply_frame _ _).holly rfl
@[simp] theorem Drive.meterReply_xp (r) (d : Drive) : (Drive.meterReply r d).xp = d.xp := (Drive.meterReply_frame _ _).xp rfl
@[simp] theorem Drive.meterReply_time (r) (d : Drive) : (Drive.meterReply r d).time = d.time := (Drive.meterReply_frame _ _).time rfl
@[simp] theorem Drive.meterReply_sec (r) (d : Drive) : (Drive.meterReply r d).sec = d.sec := (Drive.meterReply_frame _ _).sec rfl
@[simp] theorem Drive.meterReply_mod (r) (d : Drive) : (Drive.meterReply r d).mod = d.mod := (Drive.meterReply_frame _ _).mod rfl
@[simp] theorem Drive.meterReply_port (r) (d : Drive) : (Drive.meterReply r d).port = d.port := (Drive.meterReply_frame _ _).port rfl
@[simp] theorem Drive.meterReply_privet (r) (d : Drive) : (Drive.meterReply r d).privet = d.privet := (Drive.meterReply_frame _ _).privet rfl
@[simp] theorem Drive.meterReply_rec_ (r) (d : Drive) : (Drive.meterReply r d).rec_ = d.rec_ := (Drive.meterReply_frame _ _).rec_ rfl
@[simp] theorem Drive.meterReply_power (r) (d : Drive) : (Drive.meterReply r d).power = d.power := (Drive.meterReply_frame _ _).power rfl
@[simp] theorem Drive.meterReply_therm (r) (d : Drive) : (Drive.meterReply r d).therm = d.therm := (Drive.meterReply_frame _ _).therm rfl
@[simp] theorem Drive.meterReply_health (r) (d : Drive) : (Drive.meterReply r d).health = d.health := (Drive.meterReply_frame _ _).health rfl
@[simp] theorem Drive.meterReply_flag (r) (d : Drive) : (Drive.meterReply r d).flag = d.flag := (Drive.meterReply_frame _ _).flag rfl
@[simp] theorem Drive.meterReply_optf (r) (d : Drive) : (Drive.meterReply r d).optf = d.optf := (Drive.meterReply_frame _ _).optf rfl
@[simp] theorem Drive.meterReply_jobs (r) (d : Drive) : (Drive.meterReply r d).jobs = d.jobs := (Drive.meterReply_frame _ _).jobs rfl
@[simp] theorem Drive.meterReply_chans (r) (d : Drive) : (Drive.meterReply r d).chans = d.chans := (Drive.meterReply_frame _ _).chans rfl
@[simp] theorem Drive.meterReply_healthSaved (r) (d : Drive) : (Drive.meterReply r d).healthSaved = d.healthSaved := (Drive.meterReply_frame _ _).healthSaved rfl
@[simp] theorem Drive.meterReply_ident (r) (d : Drive) : (Drive.meterReply r d).ident = d.ident := (Drive.meterReply_frame _ _).ident rfl
@[simp] theorem Drive.meterReply_out (r) (d : Drive) : (Drive.meterReply r d).out = d.out := (Drive.meterReply_frame _ _).out rfl
@[simp] theorem Drive.meterReply_free (r) (d : Drive) : (Drive.meterReply r d).free = d.free := (Drive.meterReply_frame _ _).free rfl
@[simp] theorem Drive.meterOps_kv (t) (cls) (d : Drive) : (Drive.meterOps t cls d).kv = d.kv := (Drive.meterOps_frame _ _ _).kv rfl
@[simp] theorem Drive.meterOps_media (t) (cls) (d : Drive) : (Drive.meterOps t cls d).media = d.media := (Drive.meterOps_frame _ _ _).media rfl
@[simp] theorem Drive.meterOps_twin (t) (cls) (d : Drive) : (Drive.meterOps t cls d).twin = d.twin := (Drive.meterOps_frame _ _ _).twin rfl
@[simp] theorem Drive.meterOps_ring (t) (cls) (d : Drive) : (Drive.meterOps t cls d).ring = d.ring := (Drive.meterOps_frame _ _ _).ring rfl
@[simp] theorem Drive.meterOps_keys (t) (cls) (d : Drive) : (Drive.meterOps t cls d).keys = d.keys := (Drive.meterOps_frame _ _ _).keys rfl
@[simp] theorem Drive.meterOps_holly (t) (cls) (d : Drive) : (Drive.meterOps t cls d).holly = d.holly := (Drive.meterOps_frame _ _ _).holly rfl
@[simp] theorem Drive.meterOps_xp (t) (cls) (d : Drive) : (Drive.meterOps t cls d).xp = d.xp := (Drive.meterOps_frame _ _ _).xp rfl
@[simp] theorem Drive.meterOps_time (t) (cls) (d : Drive) : (Drive.meterOps t cls d).time = d.time := (Drive.meterOps_frame _ _ _).time rfl
@[simp] theorem Drive.meterOps_sec (t) (cls) (d : Drive) : (Drive.meterOps t cls d).sec = d.sec := (Drive.meterOps_frame _ _ _).sec rfl
@[simp] theorem Drive.meterOps_mod (t) (cls) (d : Drive) : (Drive.meterOps t cls d).mod = d.mod := (Drive.meterOps_frame _ _ _).mod rfl
@[simp] theorem Drive.meterOps_port (t) (cls) (d : Drive) : (Drive.meterOps t cls d).port = d.port := (Drive.meterOps_frame _ _ _).port rfl
@[simp] theorem Drive.meterOps_privet (t) (cls) (d : Drive) : (Drive.meterOps t cls d).privet = d.privet := (Drive.meterOps_frame _ _ _).privet rfl
@[simp] theorem Drive.meterOps_rec_ (t) (cls) (d : Drive) : (Drive.meterOps t cls d).rec_ = d.rec_ := (Drive.meterOps_frame _ _ _).rec_ rfl
@[simp] theorem Drive.meterOps_power (t) (cls) (d : Drive) : (Drive.meterOps t cls d).power = d.power := (Drive.meterOps_frame _ _ _).power rfl
@[simp] theorem Drive.meterOps_therm (t) (cls) (d : Drive) : (Drive.meterOps t cls d).therm = d.therm := (Drive.meterOps_frame _ _ _).therm rfl
@[simp] theorem Drive.meterOps_health (t) (cls) (d : Drive) : (Drive.meterOps t cls d).health = d.health := (Drive.meterOps_frame _ _ _).health rfl
@[simp] theorem Drive.meterOps_flag (t) (cls) (d : Drive) : (Drive.meterOps t cls d).flag = d.flag := (Drive.meterOps_frame _ _ _).flag rfl
@[simp] theorem Drive.meterOps_optf (t) (cls) (d : Drive) : (Drive.meterOps t cls d).optf = d.optf := (Drive.meterOps_frame _ _ _).optf rfl
@[simp] theorem Drive.meterOps_jobs (t) (cls) (d : Drive) : (Drive.meterOps t cls d).jobs = d.jobs := (Drive.meterOps_frame _ _ _).jobs rfl
@[simp] theorem Drive.meterOps_chans (t) (cls) (d : Drive) : (Drive.meterOps t cls d).chans = d.chans := (Drive.meterOps_frame _ _ _).chans rfl
@[simp] theorem Drive.meterOps_healthSaved (t) (cls) (d : Drive) : (Drive.meterOps t cls d).healthSaved = d.healthSaved := (Drive.meterOps_frame _ _ _).healthSaved rfl
@[simp] theorem Drive.meterOps_ident (t) (cls) (d : Drive) : (Drive.meterOps t cls d).ident = d.ident := (Drive.meterOps_frame _ _ _).ident rfl
@[simp] theorem Drive.meterOps_out (t) (cls) (d : Drive) : (Drive.meterOps t cls d).out = d.out := (Drive.meterOps_frame _ _ _).out rfl
@[simp] theorem Drive.meterOps_free (t) (cls) (d : Drive) : (Drive.meterOps t cls d).free = d.free := (Drive.meterOps_frame _ _ _).free rfl
@[simp] theorem Drive.replyFrames_kv (sid) (rid) (first) (last) (h) (body) (d : Drive) : (Drive.replyFrames sid rid first last h body d).kv = d.kv := (Drive.replyFrames_frame _ _ _ _ _ _ _).kv rfl
@[simp] theorem Drive.replyFrames_media (sid) (rid) (first) (last) (h) (body) (d : Drive) : (Drive.replyFrames sid rid first last h body d).media = d.media := (Drive.replyFrames_frame _ _ _ _ _ _ _).media rfl
@[simp] theorem Drive.replyFrames_twin (sid) (rid) (first) (last) (h) (body) (d : Drive) : (Drive.replyFrames sid rid first last h body d).twin = d.twin := (Drive.replyFrames_frame _ _ _ _ _ _ _).twin rfl
@[simp] theorem Drive.replyFrames_ring (sid) (rid) (first) (last) (h) (body) (d : Drive) : (Drive.replyFrames sid rid first last h body d).ring = d.ring := (Drive.replyFrames_frame _ _ _ _ _ _ _).ring rfl
@[simp] theorem Drive.replyFrames_holly (sid) (rid) (first) (last) (h) (body) (d : Drive) : (Drive.replyFrames sid rid first last h body d).holly = d.holly := (Drive.replyFrames_frame _ _ _ _ _ _ _).holly rfl
@[simp] theorem Drive.replyFrames_time (sid) (rid) (first) (last) (h) (body) (d : Drive) : (Drive.replyFrames sid rid first last h body d).time = d.time := (Drive.replyFrames_frame _ _ _ _ _ _ _).time rfl
@[simp] theorem Drive.replyFrames_sec (sid) (rid) (first) (last) (h) (body) (d : Drive) : (Drive.replyFrames sid rid first last h body d).sec = d.sec := (Drive.replyFrames_frame _ _ _ _ _ _ _).sec rfl
@[simp] theorem Drive.replyFrames_mod (sid) (rid) (first) (last) (h) (body) (d : Drive) : (Drive.replyFrames sid rid first last h body d).mod = d.mod := (Drive.replyFrames_frame _ _ _ _ _ _ _).mod rfl
@[simp] theorem Drive.replyFrames_privet (sid) (rid) (first) (last) (h) (body) (d : Drive) : (Drive.replyFrames sid rid first last h body d).privet = d.privet := (Drive.replyFrames_frame _ _ _ _ _ _ _).privet rfl
@[simp] theorem Drive.replyFrames_rec_ (sid) (rid) (first) (last) (h) (body) (d : Drive) : (Drive.replyFrames sid rid first last h body d).rec_ = d.rec_ := (Drive.replyFrames_frame _ _ _ _ _ _ _).rec_ rfl
@[simp] theorem Drive.replyFrames_power (sid) (rid) (first) (last) (h) (body) (d : Drive) : (Drive.replyFrames sid rid first last h body d).power = d.power := (Drive.replyFrames_frame _ _ _ _ _ _ _).power rfl
@[simp] theorem Drive.replyFrames_therm (sid) (rid) (first) (last) (h) (body) (d : Drive) : (Drive.replyFrames sid rid first last h body d).therm = d.therm := (Drive.replyFrames_frame _ _ _ _ _ _ _).therm rfl
@[simp] theorem Drive.replyFrames_health (sid) (rid) (first) (last) (h) (body) (d : Drive) : (Drive.replyFrames sid rid first last h body d).health = d.health := (Drive.replyFrames_frame _ _ _ _ _ _ _).health rfl
@[simp] theorem Drive.replyFrames_flag (sid) (rid) (first) (last) (h) (body) (d : Drive) : (Drive.replyFrames sid rid first last h body d).flag = d.flag := (Drive.replyFrames_frame _ _ _ _ _ _ _).flag rfl
@[simp] theorem Drive.replyFrames_optf (sid) (rid) (first) (last) (h) (body) (d : Drive) : (Drive.replyFrames sid rid first last h body d).optf = d.optf := (Drive.replyFrames_frame _ _ _ _ _ _ _).optf rfl
@[simp] theorem Drive.replyFrames_jobs (sid) (rid) (first) (last) (h) (body) (d : Drive) : (Drive.replyFrames sid rid first last h body d).jobs = d.jobs := (Drive.replyFrames_frame _ _ _ _ _ _ _).jobs rfl
@[simp] theorem Drive.replyFrames_chans (sid) (rid) (first) (last) (h) (body) (d : Drive) : (Drive.replyFrames sid rid first last h body d).chans = d.chans := (Drive.replyFrames_frame _ _ _ _ _ _ _).chans rfl
@[simp] theorem Drive.replyFrames_healthSaved (sid) (rid) (first) (last) (h) (body) (d : Drive) : (Drive.replyFrames sid rid first last h body d).healthSaved = d.healthSaved := (Drive.replyFrames_frame _ _ _ _ _ _ _).healthSaved rfl
@[simp] theorem Drive.replyFrames_ident (sid) (rid) (first) (last) (h) (body) (d : Drive) : (Drive.replyFrames sid rid first last h body d).ident = d.ident := (Drive.replyFrames_frame _ _ _ _ _ _ _).ident rfl
@[simp] theorem Drive.replyFrames_free (sid) (rid) (first) (last) (h) (body) (d : Drive) : (Drive.replyFrames sid rid first last h body d).free = d.free := (Drive.replyFrames_frame _ _ _ _ _ _ _).free rfl
@[simp] theorem Drive.chargeReply_kv (t) (n) (d : Drive) : (Drive.chargeReply t n d).kv = d.kv := (Drive.chargeReply_frame _ _ _).kv rfl
@[simp] theorem Drive.chargeReply_media (t) (n) (d : Drive) : (Drive.chargeReply t n d).media = d.media := (Drive.chargeReply_frame _ _ _).media rfl
@[simp] theorem Drive.chargeReply_twin (t) (n) (d : Drive) : (Drive.chargeReply t n d).twin = d.twin := (Drive.chargeReply_frame _ _ _).twin rfl
@[simp] theorem Drive.chargeReply_ring (t) (n) (d : Drive) : (Drive.chargeReply t n d).ring = d.ring := (Drive.chargeReply_frame _ _ _).ring rfl
@[simp] theorem Drive.chargeReply_keys (t) (n) (d : Drive) : (Drive.chargeReply t n d).keys = d.keys := (Drive.chargeReply_frame _ _ _).keys rfl
@[simp] theorem Drive.chargeReply_holly (t) (n) (d : Drive) : (Drive.chargeReply t n d).holly = d.holly := (Drive.chargeReply_frame _ _ _).holly rfl
@[simp] theorem Drive.chargeReply_time (t) (n) (d : Drive) : (Drive.chargeReply t n d).time = d.time := (Drive.chargeReply_frame _ _ _).time rfl
@[simp] theorem Drive.chargeReply_sec (t) (n) (d : Drive) : (Drive.chargeReply t n d).sec = d.sec := (Drive.chargeReply_frame _ _ _).sec rfl
@[simp] theorem Drive.chargeReply_mod (t) (n) (d : Drive) : (Drive.chargeReply t n d).mod = d.mod := (Drive.chargeReply_frame _ _ _).mod rfl
@[simp] theorem Drive.chargeReply_port (t) (n) (d : Drive) : (Drive.chargeReply t n d).port = d.port := (Drive.chargeReply_frame _ _ _).port rfl
@[simp] theorem Drive.chargeReply_privet (t) (n) (d : Drive) : (Drive.chargeReply t n d).privet = d.privet := (Drive.chargeReply_frame _ _ _).privet rfl
@[simp] theorem Drive.chargeReply_rec_ (t) (n) (d : Drive) : (Drive.chargeReply t n d).rec_ = d.rec_ := (Drive.chargeReply_frame _ _ _).rec_ rfl
@[simp] theorem Drive.chargeReply_meter (t) (n) (d : Drive) : (Drive.chargeReply t n d).meter = d.meter := (Drive.chargeReply_frame _ _ _).meter rfl
@[simp] theorem Drive.chargeReply_power (t) (n) (d : Drive) : (Drive.chargeReply t n d).power = d.power := (Drive.chargeReply_frame _ _ _).power rfl
@[simp] theorem Drive.chargeReply_therm (t) (n) (d : Drive) : (Drive.chargeReply t n d).therm = d.therm := (Drive.chargeReply_frame _ _ _).therm rfl
@[simp] theorem Drive.chargeReply_health (t) (n) (d : Drive) : (Drive.chargeReply t n d).health = d.health := (Drive.chargeReply_frame _ _ _).health rfl
@[simp] theorem Drive.chargeReply_flag (t) (n) (d : Drive) : (Drive.chargeReply t n d).flag = d.flag := (Drive.chargeReply_frame _ _ _).flag rfl
@[simp] theorem Drive.chargeReply_optf (t) (n) (d : Drive) : (Drive.chargeReply t n d).optf = d.optf := (Drive.chargeReply_frame _ _ _).optf rfl
@[simp] theorem Drive.chargeReply_jobs (t) (n) (d : Drive) : (Drive.chargeReply t n d).jobs = d.jobs := (Drive.chargeReply_frame _ _ _).jobs rfl
@[simp] theorem Drive.chargeReply_chans (t) (n) (d : Drive) : (Drive.chargeReply t n d).chans = d.chans := (Drive.chargeReply_frame _ _ _).chans rfl
@[simp] theorem Drive.chargeReply_healthSaved (t) (n) (d : Drive) : (Drive.chargeReply t n d).healthSaved = d.healthSaved := (Drive.chargeReply_frame _ _ _).healthSaved rfl
@[simp] theorem Drive.chargeReply_ident (t) (n) (d : Drive) : (Drive.chargeReply t n d).ident = d.ident := (Drive.chargeReply_frame _ _ _).ident rfl
@[simp] theorem Drive.chargeReply_out (t) (n) (d : Drive) : (Drive.chargeReply t n d).out = d.out := (Drive.chargeReply_frame _ _ _).out rfl
@[simp] theorem Drive.chargeReply_free (t) (n) (d : Drive) : (Drive.chargeReply t n d).free = d.free := (Drive.chargeReply_frame _ _ _).free rfl
@[simp] theorem Drive.pump_kv (sid) (d : Drive) : (Drive.pump sid d).kv = d.kv := (Drive.pump_frame _ _).kv rfl
@[simp] theorem Drive.pump_media (sid) (d : Drive) : (Drive.pump sid d).media = d.media := (Drive.pump_frame _ _).media rfl
@[simp] theorem Drive.pump_twin (sid) (d : Drive) : (Drive.pump sid d).twin = d.twin := (Drive.pump_frame _ _).twin rfl
@[simp] theorem Drive.pump_ring (sid) (d : Drive) : (Drive.pump sid d).ring = d.ring := (Drive.pump_frame _ _).ring rfl
@[simp] theorem Drive.pump_holly (sid) (d : Drive) : (Drive.pump sid d).holly = d.holly := (Drive.pump_frame _ _).holly rfl
@[simp] theorem Drive.pump_time (sid) (d : Drive) : (Drive.pump sid d).time = d.time := (Drive.pump_frame _ _).time rfl
@[simp] theorem Drive.pump_sec (sid) (d : Drive) : (Drive.pump sid d).sec = d.sec := (Drive.pump_frame _ _).sec rfl
@[simp] theorem Drive.pump_mod (sid) (d : Drive) : (Drive.pump sid d).mod = d.mod := (Drive.pump_frame _ _).mod rfl
@[simp] theorem Drive.pump_privet (sid) (d : Drive) : (Drive.pump sid d).privet = d.privet := (Drive.pump_frame _ _).privet rfl
@[simp] theorem Drive.pump_rec_ (sid) (d : Drive) : (Drive.pump sid d).rec_ = d.rec_ := (Drive.pump_frame _ _).rec_ rfl
@[simp] theorem Drive.pump_power (sid) (d : Drive) : (Drive.pump sid d).power = d.power := (Drive.pump_frame _ _).power rfl
@[simp] theorem Drive.pump_therm (sid) (d : Drive) : (Drive.pump sid d).therm = d.therm := (Drive.pump_frame _ _).therm rfl
@[simp] theorem Drive.pump_health (sid) (d : Drive) : (Drive.pump sid d).health = d.health := (Drive.pump_frame _ _).health rfl
@[simp] theorem Drive.pump_flag (sid) (d : Drive) : (Drive.pump sid d).flag = d.flag := (Drive.pump_frame _ _).flag rfl
@[simp] theorem Drive.pump_optf (sid) (d : Drive) : (Drive.pump sid d).optf = d.optf := (Drive.pump_frame _ _).optf rfl
@[simp] theorem Drive.pump_jobs (sid) (d : Drive) : (Drive.pump sid d).jobs = d.jobs := (Drive.pump_frame _ _).jobs rfl
@[simp] theorem Drive.pump_chans (sid) (d : Drive) : (Drive.pump sid d).chans = d.chans := (Drive.pump_frame _ _).chans rfl
@[simp] theorem Drive.pump_healthSaved (sid) (d : Drive) : (Drive.pump sid d).healthSaved = d.healthSaved := (Drive.pump_frame _ _).healthSaved rfl
@[simp] theorem Drive.pump_ident (sid) (d : Drive) : (Drive.pump sid d).ident = d.ident := (Drive.pump_frame _ _).ident rfl
@[simp] theorem Drive.pump_free (sid) (d : Drive) : (Drive.pump sid d).free = d.free := (Drive.pump_frame _ _).free rfl
@[simp] theorem Drive.sendPart_kv (sid) (rid) (path) (first) (last) (op) (payload) (d : Drive) : (Drive.sendPart sid rid path first last op payload d).kv = d.kv := (Drive.sendPart_frame _ _ _ _ _ _ _ _).kv rfl
@[simp] theorem Drive.sendPart_media (sid) (rid) (path) (first) (last) (op) (payload) (d : Drive) : (Drive.sendPart sid rid path first last op payload d).media = d.media := (Drive.sendPart_frame _ _ _ _ _ _ _ _).media rfl
@[simp] theorem Drive.sendPart_twin (sid) (rid) (path) (first) (last) (op) (payload) (d : Drive) : (Drive.sendPart sid rid path first last op payload d).twin = d.twin := (Drive.sendPart_frame _ _ _ _ _ _ _ _).twin rfl
@[simp] theorem Drive.sendPart_ring (sid) (rid) (path) (first) (last) (op) (payload) (d : Drive) : (Drive.sendPart sid rid path first last op payload d).ring = d.ring := (Drive.sendPart_frame _ _ _ _ _ _ _ _).ring rfl
@[simp] theorem Drive.sendPart_holly (sid) (rid) (path) (first) (last) (op) (payload) (d : Drive) : (Drive.sendPart sid rid path first last op payload d).holly = d.holly := (Drive.sendPart_frame _ _ _ _ _ _ _ _).holly rfl
@[simp] theorem Drive.sendPart_time (sid) (rid) (path) (first) (last) (op) (payload) (d : Drive) : (Drive.sendPart sid rid path first last op payload d).time = d.time := (Drive.sendPart_frame _ _ _ _ _ _ _ _).time rfl
@[simp] theorem Drive.sendPart_sec (sid) (rid) (path) (first) (last) (op) (payload) (d : Drive) : (Drive.sendPart sid rid path first last op payload d).sec = d.sec := (Drive.sendPart_frame _ _ _ _ _ _ _ _).sec rfl
@[simp] theorem Drive.sendPart_mod (sid) (rid) (path) (first) (last) (op) (payload) (d : Drive) : (Drive.sendPart sid rid path first last op payload d).mod = d.mod := (Drive.sendPart_frame _ _ _ _ _ _ _ _).mod rfl
@[simp] theorem Drive.sendPart_privet (sid) (rid) (path) (first) (last) (op) (payload) (d : Drive) : (Drive.sendPart sid rid path first last op payload d).privet = d.privet := (Drive.sendPart_frame _ _ _ _ _ _ _ _).privet rfl
@[simp] theorem Drive.sendPart_rec_ (sid) (rid) (path) (first) (last) (op) (payload) (d : Drive) : (Drive.sendPart sid rid path first last op payload d).rec_ = d.rec_ := (Drive.sendPart_frame _ _ _ _ _ _ _ _).rec_ rfl
@[simp] theorem Drive.sendPart_power (sid) (rid) (path) (first) (last) (op) (payload) (d : Drive) : (Drive.sendPart sid rid path first last op payload d).power = d.power := (Drive.sendPart_frame _ _ _ _ _ _ _ _).power rfl
@[simp] theorem Drive.sendPart_therm (sid) (rid) (path) (first) (last) (op) (payload) (d : Drive) : (Drive.sendPart sid rid path first last op payload d).therm = d.therm := (Drive.sendPart_frame _ _ _ _ _ _ _ _).therm rfl
@[simp] theorem Drive.sendPart_health (sid) (rid) (path) (first) (last) (op) (payload) (d : Drive) : (Drive.sendPart sid rid path first last op payload d).health = d.health := (Drive.sendPart_frame _ _ _ _ _ _ _ _).health rfl
@[simp] theorem Drive.sendPart_flag (sid) (rid) (path) (first) (last) (op) (payload) (d : Drive) : (Drive.sendPart sid rid path first last op payload d).flag = d.flag := (Drive.sendPart_frame _ _ _ _ _ _ _ _).flag rfl
@[simp] theorem Drive.sendPart_optf (sid) (rid) (path) (first) (last) (op) (payload) (d : Drive) : (Drive.sendPart sid rid path first last op payload d).optf = d.optf := (Drive.sendPart_frame _ _ _ _ _ _ _ _).optf rfl
@[simp] theorem Drive.sendPart_jobs (sid) (rid) (path) (first) (last) (op) (payload) (d : Drive) : (Drive.sendPart sid rid path first last op payload d).jobs = d.jobs := (Drive.sendPart_frame _ _ _ _ _ _ _ _).jobs rfl
@[simp] theorem Drive.sendPart_chans (sid) (rid) (path) (first) (last) (op) (payload) (d : Drive) : (Drive.sendPart sid rid path first last op payload d).chans = d.chans := (Drive.sendPart_frame _ _ _ _ _ _ _ _).chans rfl
@[simp] theorem Drive.sendPart_healthSaved (sid) (rid) (path) (first) (last) (op) (payload) (d : Drive) : (Drive.sendPart sid rid path first last op payload d).healthSaved = d.healthSaved := (Drive.sendPart_frame _ _ _ _ _ _ _ _).healthSaved rfl
@[simp] theorem Drive.sendPart_ident (sid) (rid) (path) (first) (last) (op) (payload) (d : Drive) : (Drive.sendPart sid rid path first last op payload d).ident = d.ident := (Drive.sendPart_frame _ _ _ _ _ _ _ _).ident rfl
@[simp] theorem Drive.sendPart_free (sid) (rid) (path) (first) (last) (op) (payload) (d : Drive) : (Drive.sendPart sid rid path first last op payload d).free = d.free := (Drive.sendPart_frame _ _ _ _ _ _ _ _).free rfl
@[simp] theorem Drive.raiseAlert_kv (d : Drive) : (Drive.raiseAlert d).kv = d.kv := (Drive.raiseAlert_frame _).kv rfl
@[simp] theorem Drive.raiseAlert_media (d : Drive) : (Drive.raiseAlert d).media = d.media := (Drive.raiseAlert_frame _).media rfl
@[simp] theorem Drive.raiseAlert_twin (d : Drive) : (Drive.raiseAlert d).twin = d.twin := (Drive.raiseAlert_frame _).twin rfl
@[simp] theorem Drive.raiseAlert_ring (d : Drive) : (Drive.raiseAlert d).ring = d.ring := (Drive.raiseAlert_frame _).ring rfl
@[simp] theorem Drive.raiseAlert_keys (d : Drive) : (Drive.raiseAlert d).keys = d.keys := (Drive.raiseAlert_frame _).keys rfl
@[simp] theorem Drive.raiseAlert_holly (d : Drive) : (Drive.raiseAlert d).holly = d.holly := (Drive.raiseAlert_frame _).holly rfl
@[simp] theorem Drive.raiseAlert_xp (d : Drive) : (Drive.raiseAlert d).xp = d.xp := (Drive.raiseAlert_frame _).xp rfl
@[simp] theorem Drive.raiseAlert_time (d : Drive) : (Drive.raiseAlert d).time = d.time := (Drive.raiseAlert_frame _).time rfl
@[simp] theorem Drive.raiseAlert_sec (d : Drive) : (Drive.raiseAlert d).sec = d.sec := (Drive.raiseAlert_frame _).sec rfl
@[simp] theorem Drive.raiseAlert_mod (d : Drive) : (Drive.raiseAlert d).mod = d.mod := (Drive.raiseAlert_frame _).mod rfl
@[simp] theorem Drive.raiseAlert_port (d : Drive) : (Drive.raiseAlert d).port = d.port := (Drive.raiseAlert_frame _).port rfl
@[simp] theorem Drive.raiseAlert_privet (d : Drive) : (Drive.raiseAlert d).privet = d.privet := (Drive.raiseAlert_frame _).privet rfl
@[simp] theorem Drive.raiseAlert_rec_ (d : Drive) : (Drive.raiseAlert d).rec_ = d.rec_ := (Drive.raiseAlert_frame _).rec_ rfl
@[simp] theorem Drive.raiseAlert_meter (d : Drive) : (Drive.raiseAlert d).meter = d.meter := (Drive.raiseAlert_frame _).meter rfl
@[simp] theorem Drive.raiseAlert_power (d : Drive) : (Drive.raiseAlert d).power = d.power := (Drive.raiseAlert_frame _).power rfl
@[simp] theorem Drive.raiseAlert_therm (d : Drive) : (Drive.raiseAlert d).therm = d.therm := (Drive.raiseAlert_frame _).therm rfl
@[simp] theorem Drive.raiseAlert_health (d : Drive) : (Drive.raiseAlert d).health = d.health := (Drive.raiseAlert_frame _).health rfl
@[simp] theorem Drive.raiseAlert_optf (d : Drive) : (Drive.raiseAlert d).optf = d.optf := (Drive.raiseAlert_frame _).optf rfl
@[simp] theorem Drive.raiseAlert_jobs (d : Drive) : (Drive.raiseAlert d).jobs = d.jobs := (Drive.raiseAlert_frame _).jobs rfl
@[simp] theorem Drive.raiseAlert_chans (d : Drive) : (Drive.raiseAlert d).chans = d.chans := (Drive.raiseAlert_frame _).chans rfl
@[simp] theorem Drive.raiseAlert_healthSaved (d : Drive) : (Drive.raiseAlert d).healthSaved = d.healthSaved := (Drive.raiseAlert_frame _).healthSaved rfl
@[simp] theorem Drive.raiseAlert_ident (d : Drive) : (Drive.raiseAlert d).ident = d.ident := (Drive.raiseAlert_frame _).ident rfl
@[simp] theorem Drive.raiseAlert_free (d : Drive) : (Drive.raiseAlert d).free = d.free := (Drive.raiseAlert_frame _).free rfl
@[simp] theorem Drive.startFlush_kv (d : Drive) : (Drive.startFlush d).kv = d.kv := (Drive.startFlush_frame _).kv rfl
@[simp] theorem Drive.startFlush_media (d : Drive) : (Drive.startFlush d).media = d.media := (Drive.startFlush_frame _).media rfl
@[simp] theorem Drive.startFlush_twin (d : Drive) : (Drive.startFlush d).twin = d.twin := (Drive.startFlush_frame _).twin rfl
@[simp] theorem Drive.startFlush_ring (d : Drive) : (Drive.startFlush d).ring = d.ring := (Drive.startFlush_frame _).ring rfl
@[simp] theorem Drive.startFlush_keys (d : Drive) : (Drive.startFlush d).keys = d.keys := (Drive.startFlush_frame _).keys rfl
@[simp] theorem Drive.startFlush_holly (d : Drive) : (Drive.startFlush d).holly = d.holly := (Drive.startFlush_frame _).holly rfl
@[simp] theorem Drive.startFlush_xp (d : Drive) : (Drive.startFlush d).xp = d.xp := (Drive.startFlush_frame _).xp rfl
@[simp] theorem Drive.startFlush_time (d : Drive) : (Drive.startFlush d).time = d.time := (Drive.startFlush_frame _).time rfl
@[simp] theorem Drive.startFlush_sec (d : Drive) : (Drive.startFlush d).sec = d.sec := (Drive.startFlush_frame _).sec rfl
@[simp] theorem Drive.startFlush_mod (d : Drive) : (Drive.startFlush d).mod = d.mod := (Drive.startFlush_frame _).mod rfl
@[simp] theorem Drive.startFlush_port (d : Drive) : (Drive.startFlush d).port = d.port := (Drive.startFlush_frame _).port rfl
@[simp] theorem Drive.startFlush_privet (d : Drive) : (Drive.startFlush d).privet = d.privet := (Drive.startFlush_frame _).privet rfl
@[simp] theorem Drive.startFlush_meter (d : Drive) : (Drive.startFlush d).meter = d.meter := (Drive.startFlush_frame _).meter rfl
@[simp] theorem Drive.startFlush_power (d : Drive) : (Drive.startFlush d).power = d.power := (Drive.startFlush_frame _).power rfl
@[simp] theorem Drive.startFlush_therm (d : Drive) : (Drive.startFlush d).therm = d.therm := (Drive.startFlush_frame _).therm rfl
@[simp] theorem Drive.startFlush_health (d : Drive) : (Drive.startFlush d).health = d.health := (Drive.startFlush_frame _).health rfl
@[simp] theorem Drive.startFlush_flag (d : Drive) : (Drive.startFlush d).flag = d.flag := (Drive.startFlush_frame _).flag rfl
@[simp] theorem Drive.startFlush_optf (d : Drive) : (Drive.startFlush d).optf = d.optf := (Drive.startFlush_frame _).optf rfl
@[simp] theorem Drive.startFlush_jobs (d : Drive) : (Drive.startFlush d).jobs = d.jobs := (Drive.startFlush_frame _).jobs rfl
@[simp] theorem Drive.startFlush_chans (d : Drive) : (Drive.startFlush d).chans = d.chans := (Drive.startFlush_frame _).chans rfl
@[simp] theorem Drive.startFlush_healthSaved (d : Drive) : (Drive.startFlush d).healthSaved = d.healthSaved := (Drive.startFlush_frame _).healthSaved rfl
@[simp] theorem Drive.startFlush_ident (d : Drive) : (Drive.startFlush d).ident = d.ident := (Drive.startFlush_frame _).ident rfl
@[simp] theorem Drive.startFlush_out (d : Drive) : (Drive.startFlush d).out = d.out := (Drive.startFlush_frame _).out rfl
@[simp] theorem Drive.startFlush_free (d : Drive) : (Drive.startFlush d).free = d.free := (Drive.startFlush_frame _).free rfl
@[simp] theorem Drive.raiseTick_ring (v) (d : Drive) : (Drive.raiseTick v d).ring = d.ring := (Drive.raiseTick_frame _ _).ring rfl
@[simp] theorem Drive.raiseTick_keys (v) (d : Drive) : (Drive.raiseTick v d).keys = d.keys := (Drive.raiseTick_frame _ _).keys rfl
@[simp] theorem Drive.raiseTick_holly (v) (d : Drive) : (Drive.raiseTick v d).holly = d.holly := (Drive.raiseTick_frame _ _).holly rfl
@[simp] theorem Drive.raiseTick_xp (v) (d : Drive) : (Drive.raiseTick v d).xp = d.xp := (Drive.raiseTick_frame _ _).xp rfl
@[simp] theorem Drive.raiseTick_time (v) (d : Drive) : (Drive.raiseTick v d).time = d.time := (Drive.raiseTick_frame _ _).time rfl
@[simp] theorem Drive.raiseTick_sec (v) (d : Drive) : (Drive.raiseTick v d).sec = d.sec := (Drive.raiseTick_frame _ _).sec rfl
@[simp] theorem Drive.raiseTick_mod (v) (d : Drive) : (Drive.raiseTick v d).mod = d.mod := (Drive.raiseTick_frame _ _).mod rfl
@[simp] theorem Drive.raiseTick_port (v) (d : Drive) : (Drive.raiseTick v d).port = d.port := (Drive.raiseTick_frame _ _).port rfl
@[simp] theorem Drive.raiseTick_privet (v) (d : Drive) : (Drive.raiseTick v d).privet = d.privet := (Drive.raiseTick_frame _ _).privet rfl
@[simp] theorem Drive.raiseTick_rec_ (v) (d : Drive) : (Drive.raiseTick v d).rec_ = d.rec_ := (Drive.raiseTick_frame _ _).rec_ rfl
@[simp] theorem Drive.raiseTick_meter (v) (d : Drive) : (Drive.raiseTick v d).meter = d.meter := (Drive.raiseTick_frame _ _).meter rfl
@[simp] theorem Drive.raiseTick_power (v) (d : Drive) : (Drive.raiseTick v d).power = d.power := (Drive.raiseTick_frame _ _).power rfl
@[simp] theorem Drive.raiseTick_therm (v) (d : Drive) : (Drive.raiseTick v d).therm = d.therm := (Drive.raiseTick_frame _ _).therm rfl
@[simp] theorem Drive.raiseTick_health (v) (d : Drive) : (Drive.raiseTick v d).health = d.health := (Drive.raiseTick_frame _ _).health rfl
@[simp] theorem Drive.raiseTick_flag (v) (d : Drive) : (Drive.raiseTick v d).flag = d.flag := (Drive.raiseTick_frame _ _).flag rfl
@[simp] theorem Drive.raiseTick_optf (v) (d : Drive) : (Drive.raiseTick v d).optf = d.optf := (Drive.raiseTick_frame _ _).optf rfl
@[simp] theorem Drive.raiseTick_jobs (v) (d : Drive) : (Drive.raiseTick v d).jobs = d.jobs := (Drive.raiseTick_frame _ _).jobs rfl
@[simp] theorem Drive.raiseTick_chans (v) (d : Drive) : (Drive.raiseTick v d).chans = d.chans := (Drive.raiseTick_frame _ _).chans rfl
@[simp] theorem Drive.raiseTick_healthSaved (v) (d : Drive) : (Drive.raiseTick v d).healthSaved = d.healthSaved := (Drive.raiseTick_frame _ _).healthSaved rfl
@[simp] theorem Drive.raiseTick_ident (v) (d : Drive) : (Drive.raiseTick v d).ident = d.ident := (Drive.raiseTick_frame _ _).ident rfl
@[simp] theorem Drive.raiseTick_out (v) (d : Drive) : (Drive.raiseTick v d).out = d.out := (Drive.raiseTick_frame _ _).out rfl
@[simp] theorem Drive.raiseTick_free (v) (d : Drive) : (Drive.raiseTick v d).free = d.free := (Drive.raiseTick_frame _ _).free rfl
@[simp] theorem Drive.drawReservation_kv (ns) (g) (entries) (d : Drive) : (Drive.drawReservation ns g entries d).kv = d.kv := (Drive.drawReservation_frame _ _ _ _).kv rfl
@[simp] theorem Drive.drawReservation_media (ns) (g) (entries) (d : Drive) : (Drive.drawReservation ns g entries d).media = d.media := (Drive.drawReservation_frame _ _ _ _).media rfl
@[simp] theorem Drive.drawReservation_ring (ns) (g) (entries) (d : Drive) : (Drive.drawReservation ns g entries d).ring = d.ring := (Drive.drawReservation_frame _ _ _ _).ring rfl
@[simp] theorem Drive.drawReservation_keys (ns) (g) (entries) (d : Drive) : (Drive.drawReservation ns g entries d).keys = d.keys := (Drive.drawReservation_frame _ _ _ _).keys rfl
@[simp] theorem Drive.drawReservation_holly (ns) (g) (entries) (d : Drive) : (Drive.drawReservation ns g entries d).holly = d.holly := (Drive.drawReservation_frame _ _ _ _).holly rfl
@[simp] theorem Drive.drawReservation_xp (ns) (g) (entries) (d : Drive) : (Drive.drawReservation ns g entries d).xp = d.xp := (Drive.drawReservation_frame _ _ _ _).xp rfl
@[simp] theorem Drive.drawReservation_time (ns) (g) (entries) (d : Drive) : (Drive.drawReservation ns g entries d).time = d.time := (Drive.drawReservation_frame _ _ _ _).time rfl
@[simp] theorem Drive.drawReservation_sec (ns) (g) (entries) (d : Drive) : (Drive.drawReservation ns g entries d).sec = d.sec := (Drive.drawReservation_frame _ _ _ _).sec rfl
@[simp] theorem Drive.drawReservation_mod (ns) (g) (entries) (d : Drive) : (Drive.drawReservation ns g entries d).mod = d.mod := (Drive.drawReservation_frame _ _ _ _).mod rfl
@[simp] theorem Drive.drawReservation_privet (ns) (g) (entries) (d : Drive) : (Drive.drawReservation ns g entries d).privet = d.privet := (Drive.drawReservation_frame _ _ _ _).privet rfl
@[simp] theorem Drive.drawReservation_rec_ (ns) (g) (entries) (d : Drive) : (Drive.drawReservation ns g entries d).rec_ = d.rec_ := (Drive.drawReservation_frame _ _ _ _).rec_ rfl
@[simp] theorem Drive.drawReservation_meter (ns) (g) (entries) (d : Drive) : (Drive.drawReservation ns g entries d).meter = d.meter := (Drive.drawReservation_frame _ _ _ _).meter rfl
@[simp] theorem Drive.drawReservation_power (ns) (g) (entries) (d : Drive) : (Drive.drawReservation ns g entries d).power = d.power := (Drive.drawReservation_frame _ _ _ _).power rfl
@[simp] theorem Drive.drawReservation_therm (ns) (g) (entries) (d : Drive) : (Drive.drawReservation ns g entries d).therm = d.therm := (Drive.drawReservation_frame _ _ _ _).therm rfl
@[simp] theorem Drive.drawReservation_health (ns) (g) (entries) (d : Drive) : (Drive.drawReservation ns g entries d).health = d.health := (Drive.drawReservation_frame _ _ _ _).health rfl
@[simp] theorem Drive.drawReservation_flag (ns) (g) (entries) (d : Drive) : (Drive.drawReservation ns g entries d).flag = d.flag := (Drive.drawReservation_frame _ _ _ _).flag rfl
@[simp] theorem Drive.drawReservation_optf (ns) (g) (entries) (d : Drive) : (Drive.drawReservation ns g entries d).optf = d.optf := (Drive.drawReservation_frame _ _ _ _).optf rfl
@[simp] theorem Drive.drawReservation_jobs (ns) (g) (entries) (d : Drive) : (Drive.drawReservation ns g entries d).jobs = d.jobs := (Drive.drawReservation_frame _ _ _ _).jobs rfl
@[simp] theorem Drive.drawReservation_chans (ns) (g) (entries) (d : Drive) : (Drive.drawReservation ns g entries d).chans = d.chans := (Drive.drawReservation_frame _ _ _ _).chans rfl
@[simp] theorem Drive.drawReservation_healthSaved (ns) (g) (entries) (d : Drive) : (Drive.drawReservation ns g entries d).healthSaved = d.healthSaved := (Drive.drawReservation_frame _ _ _ _).healthSaved rfl
@[simp] theorem Drive.drawReservation_ident (ns) (g) (entries) (d : Drive) : (Drive.drawReservation ns g entries d).ident = d.ident := (Drive.drawReservation_frame _ _ _ _).ident rfl
@[simp] theorem Drive.fresh_kv (d : Drive) : (Drive.fresh d).2.kv = d.kv := (Drive.fresh_frame _).kv rfl
@[simp] theorem Drive.fresh_media (d : Drive) : (Drive.fresh d).2.media = d.media := (Drive.fresh_frame _).media rfl
@[simp] theorem Drive.fresh_twin (d : Drive) : (Drive.fresh d).2.twin = d.twin := (Drive.fresh_frame _).twin rfl
@[simp] theorem Drive.fresh_ring (d : Drive) : (Drive.fresh d).2.ring = d.ring := (Drive.fresh_frame _).ring rfl
@[simp] theorem Drive.fresh_keys (d : Drive) : (Drive.fresh d).2.keys = d.keys := (Drive.fresh_frame _).keys rfl
@[simp] theorem Drive.fresh_holly (d : Drive) : (Drive.fresh d).2.holly = d.holly := (Drive.fresh_frame _).holly rfl
@[simp] theorem Drive.fresh_xp (d : Drive) : (Drive.fresh d).2.xp = d.xp := (Drive.fresh_frame _).xp rfl
@[simp] theorem Drive.fresh_time (d : Drive) : (Drive.fresh d).2.time = d.time := (Drive.fresh_frame _).time rfl
@[simp] theorem Drive.fresh_sec (d : Drive) : (Drive.fresh d).2.sec = d.sec := (Drive.fresh_frame _).sec rfl
@[simp] theorem Drive.fresh_mod (d : Drive) : (Drive.fresh d).2.mod = d.mod := (Drive.fresh_frame _).mod rfl
@[simp] theorem Drive.fresh_port (d : Drive) : (Drive.fresh d).2.port = d.port := (Drive.fresh_frame _).port rfl
@[simp] theorem Drive.fresh_privet (d : Drive) : (Drive.fresh d).2.privet = d.privet := (Drive.fresh_frame _).privet rfl
@[simp] theorem Drive.fresh_rec_ (d : Drive) : (Drive.fresh d).2.rec_ = d.rec_ := (Drive.fresh_frame _).rec_ rfl
@[simp] theorem Drive.fresh_meter (d : Drive) : (Drive.fresh d).2.meter = d.meter := (Drive.fresh_frame _).meter rfl
@[simp] theorem Drive.fresh_power (d : Drive) : (Drive.fresh d).2.power = d.power := (Drive.fresh_frame _).power rfl
@[simp] theorem Drive.fresh_therm (d : Drive) : (Drive.fresh d).2.therm = d.therm := (Drive.fresh_frame _).therm rfl
@[simp] theorem Drive.fresh_health (d : Drive) : (Drive.fresh d).2.health = d.health := (Drive.fresh_frame _).health rfl
@[simp] theorem Drive.fresh_flag (d : Drive) : (Drive.fresh d).2.flag = d.flag := (Drive.fresh_frame _).flag rfl
@[simp] theorem Drive.fresh_optf (d : Drive) : (Drive.fresh d).2.optf = d.optf := (Drive.fresh_frame _).optf rfl
@[simp] theorem Drive.fresh_jobs (d : Drive) : (Drive.fresh d).2.jobs = d.jobs := (Drive.fresh_frame _).jobs rfl
@[simp] theorem Drive.fresh_chans (d : Drive) : (Drive.fresh d).2.chans = d.chans := (Drive.fresh_frame _).chans rfl
@[simp] theorem Drive.fresh_healthSaved (d : Drive) : (Drive.fresh d).2.healthSaved = d.healthSaved := (Drive.fresh_frame _).healthSaved rfl
@[simp] theorem Drive.fresh_ident (d : Drive) : (Drive.fresh d).2.ident = d.ident := (Drive.fresh_frame _).ident rfl
@[simp] theorem Drive.fresh_out (d : Drive) : (Drive.fresh d).2.out = d.out := (Drive.fresh_frame _).out rfl
@[simp] theorem Drive.newOpId_kv (d : Drive) : (Drive.newOpId d).2.kv = d.kv := (Drive.newOpId_frame _).kv rfl
@[simp] theorem Drive.newOpId_media (d : Drive) : (Drive.newOpId d).2.media = d.media := (Drive.newOpId_frame _).media rfl
@[simp] theorem Drive.newOpId_ring (d : Drive) : (Drive.newOpId d).2.ring = d.ring := (Drive.newOpId_frame _).ring rfl
@[simp] theorem Drive.newOpId_keys (d : Drive) : (Drive.newOpId d).2.keys = d.keys := (Drive.newOpId_frame _).keys rfl
@[simp] theorem Drive.newOpId_holly (d : Drive) : (Drive.newOpId d).2.holly = d.holly := (Drive.newOpId_frame _).holly rfl
@[simp] theorem Drive.newOpId_xp (d : Drive) : (Drive.newOpId d).2.xp = d.xp := (Drive.newOpId_frame _).xp rfl
@[simp] theorem Drive.newOpId_time (d : Drive) : (Drive.newOpId d).2.time = d.time := (Drive.newOpId_frame _).time rfl
@[simp] theorem Drive.newOpId_sec (d : Drive) : (Drive.newOpId d).2.sec = d.sec := (Drive.newOpId_frame _).sec rfl
@[simp] theorem Drive.newOpId_mod (d : Drive) : (Drive.newOpId d).2.mod = d.mod := (Drive.newOpId_frame _).mod rfl
@[simp] theorem Drive.newOpId_port (d : Drive) : (Drive.newOpId d).2.port = d.port := (Drive.newOpId_frame _).port rfl
@[simp] theorem Drive.newOpId_privet (d : Drive) : (Drive.newOpId d).2.privet = d.privet := (Drive.newOpId_frame _).privet rfl
@[simp] theorem Drive.newOpId_rec_ (d : Drive) : (Drive.newOpId d).2.rec_ = d.rec_ := (Drive.newOpId_frame _).rec_ rfl
@[simp] theorem Drive.newOpId_meter (d : Drive) : (Drive.newOpId d).2.meter = d.meter := (Drive.newOpId_frame _).meter rfl
@[simp] theorem Drive.newOpId_power (d : Drive) : (Drive.newOpId d).2.power = d.power := (Drive.newOpId_frame _).power rfl
@[simp] theorem Drive.newOpId_therm (d : Drive) : (Drive.newOpId d).2.therm = d.therm := (Drive.newOpId_frame _).therm rfl
@[simp] theorem Drive.newOpId_health (d : Drive) : (Drive.newOpId d).2.health = d.health := (Drive.newOpId_frame _).health rfl
@[simp] theorem Drive.newOpId_flag (d : Drive) : (Drive.newOpId d).2.flag = d.flag := (Drive.newOpId_frame _).flag rfl
@[simp] theorem Drive.newOpId_optf (d : Drive) : (Drive.newOpId d).2.optf = d.optf := (Drive.newOpId_frame _).optf rfl
@[simp] theorem Drive.newOpId_jobs (d : Drive) : (Drive.newOpId d).2.jobs = d.jobs := (Drive.newOpId_frame _).jobs rfl
@[simp] theorem Drive.newOpId_chans (d : Drive) : (Drive.newOpId d).2.chans = d.chans := (Drive.newOpId_frame _).chans rfl
@[simp] theorem Drive.newOpId_healthSaved (d : Drive) : (Drive.newOpId d).2.healthSaved = d.healthSaved := (Drive.newOpId_frame _).healthSaved rfl
@[simp] theorem Drive.newOpId_ident (d : Drive) : (Drive.newOpId d).2.ident = d.ident := (Drive.newOpId_frame _).ident rfl
@[simp] theorem Drive.newOpId_out (d : Drive) : (Drive.newOpId d).2.out = d.out := (Drive.newOpId_frame _).out rfl
@[simp] theorem Drive.newOpId_free (d : Drive) : (Drive.newOpId d).2.free = d.free := (Drive.newOpId_frame _).free rfl
@[simp] theorem Drive.draw_kv (d : Drive) : (Drive.draw d).2.kv = d.kv := (Drive.draw_frame _).kv rfl
@[simp] theorem Drive.draw_media (d : Drive) : (Drive.draw d).2.media = d.media := (Drive.draw_frame _).media rfl
@[simp] theorem Drive.draw_twin (d : Drive) : (Drive.draw d).2.twin = d.twin := (Drive.draw_frame _).twin rfl
@[simp] theorem Drive.draw_ring (d : Drive) : (Drive.draw d).2.ring = d.ring := (Drive.draw_frame _).ring rfl
@[simp] theorem Drive.draw_holly (d : Drive) : (Drive.draw d).2.holly = d.holly := (Drive.draw_frame _).holly rfl
@[simp] theorem Drive.draw_xp (d : Drive) : (Drive.draw d).2.xp = d.xp := (Drive.draw_frame _).xp rfl
@[simp] theorem Drive.draw_time (d : Drive) : (Drive.draw d).2.time = d.time := (Drive.draw_frame _).time rfl
@[simp] theorem Drive.draw_sec (d : Drive) : (Drive.draw d).2.sec = d.sec := (Drive.draw_frame _).sec rfl
@[simp] theorem Drive.draw_mod (d : Drive) : (Drive.draw d).2.mod = d.mod := (Drive.draw_frame _).mod rfl
@[simp] theorem Drive.draw_port (d : Drive) : (Drive.draw d).2.port = d.port := (Drive.draw_frame _).port rfl
@[simp] theorem Drive.draw_privet (d : Drive) : (Drive.draw d).2.privet = d.privet := (Drive.draw_frame _).privet rfl
@[simp] theorem Drive.draw_rec_ (d : Drive) : (Drive.draw d).2.rec_ = d.rec_ := (Drive.draw_frame _).rec_ rfl
@[simp] theorem Drive.draw_meter (d : Drive) : (Drive.draw d).2.meter = d.meter := (Drive.draw_frame _).meter rfl
@[simp] theorem Drive.draw_power (d : Drive) : (Drive.draw d).2.power = d.power := (Drive.draw_frame _).power rfl
@[simp] theorem Drive.draw_therm (d : Drive) : (Drive.draw d).2.therm = d.therm := (Drive.draw_frame _).therm rfl
@[simp] theorem Drive.draw_health (d : Drive) : (Drive.draw d).2.health = d.health := (Drive.draw_frame _).health rfl
@[simp] theorem Drive.draw_flag (d : Drive) : (Drive.draw d).2.flag = d.flag := (Drive.draw_frame _).flag rfl
@[simp] theorem Drive.draw_optf (d : Drive) : (Drive.draw d).2.optf = d.optf := (Drive.draw_frame _).optf rfl
@[simp] theorem Drive.draw_jobs (d : Drive) : (Drive.draw d).2.jobs = d.jobs := (Drive.draw_frame _).jobs rfl
@[simp] theorem Drive.draw_chans (d : Drive) : (Drive.draw d).2.chans = d.chans := (Drive.draw_frame _).chans rfl
@[simp] theorem Drive.draw_healthSaved (d : Drive) : (Drive.draw d).2.healthSaved = d.healthSaved := (Drive.draw_frame _).healthSaved rfl
@[simp] theorem Drive.draw_ident (d : Drive) : (Drive.draw d).2.ident = d.ident := (Drive.draw_frame _).ident rfl
@[simp] theorem Drive.draw_out (d : Drive) : (Drive.draw d).2.out = d.out := (Drive.draw_frame _).out rfl
@[simp] theorem Drive.draw_free (d : Drive) : (Drive.draw d).2.free = d.free := (Drive.draw_frame _).free rfl
@[simp] theorem Drive.assign_ring (input) (d : Drive) : (Drive.assign input d).2.ring = d.ring := (Drive.assign_frame _ _).ring rfl
@[simp] theorem Drive.assign_keys (input) (d : Drive) : (Drive.assign input d).2.keys = d.keys := (Drive.assign_frame _ _).keys rfl
@[simp] theorem Drive.assign_holly (input) (d : Drive) : (Drive.assign input d).2.holly = d.holly := (Drive.assign_frame _ _).holly rfl
@[simp] theorem Drive.assign_xp (input) (d : Drive) : (Drive.assign input d).2.xp = d.xp := (Drive.assign_frame _ _).xp rfl
@[simp] theorem Drive.assign_sec (input) (d : Drive) : (Drive.assign input d).2.sec = d.sec := (Drive.assign_frame _ _).sec rfl
@[simp] theorem Drive.assign_mod (input) (d : Drive) : (Drive.assign input d).2.mod = d.mod := (Drive.assign_frame _ _).mod rfl
@[simp] theorem Drive.assign_port (input) (d : Drive) : (Drive.assign input d).2.port = d.port := (Drive.assign_frame _ _).port rfl
@[simp] theorem Drive.assign_privet (input) (d : Drive) : (Drive.assign input d).2.privet = d.privet := (Drive.assign_frame _ _).privet rfl
@[simp] theorem Drive.assign_rec_ (input) (d : Drive) : (Drive.assign input d).2.rec_ = d.rec_ := (Drive.assign_frame _ _).rec_ rfl
@[simp] theorem Drive.assign_meter (input) (d : Drive) : (Drive.assign input d).2.meter = d.meter := (Drive.assign_frame _ _).meter rfl
@[simp] theorem Drive.assign_power (input) (d : Drive) : (Drive.assign input d).2.power = d.power := (Drive.assign_frame _ _).power rfl
@[simp] theorem Drive.assign_therm (input) (d : Drive) : (Drive.assign input d).2.therm = d.therm := (Drive.assign_frame _ _).therm rfl
@[simp] theorem Drive.assign_health (input) (d : Drive) : (Drive.assign input d).2.health = d.health := (Drive.assign_frame _ _).health rfl
@[simp] theorem Drive.assign_flag (input) (d : Drive) : (Drive.assign input d).2.flag = d.flag := (Drive.assign_frame _ _).flag rfl
@[simp] theorem Drive.assign_optf (input) (d : Drive) : (Drive.assign input d).2.optf = d.optf := (Drive.assign_frame _ _).optf rfl
@[simp] theorem Drive.assign_jobs (input) (d : Drive) : (Drive.assign input d).2.jobs = d.jobs := (Drive.assign_frame _ _).jobs rfl
@[simp] theorem Drive.assign_chans (input) (d : Drive) : (Drive.assign input d).2.chans = d.chans := (Drive.assign_frame _ _).chans rfl
@[simp] theorem Drive.assign_healthSaved (input) (d : Drive) : (Drive.assign input d).2.healthSaved = d.healthSaved := (Drive.assign_frame _ _).healthSaved rfl
@[simp] theorem Drive.assign_ident (input) (d : Drive) : (Drive.assign input d).2.ident = d.ident := (Drive.assign_frame _ _).ident rfl
@[simp] theorem Drive.assign_out (input) (d : Drive) : (Drive.assign input d).2.out = d.out := (Drive.assign_frame _ _).out rfl
@[simp] theorem Drive.assign_free (input) (d : Drive) : (Drive.assign input d).2.free = d.free := (Drive.assign_frame _ _).free rfl
@[simp] theorem Drive.raiseWear_kv (d : Drive) : (Drive.raiseWear d).kv = d.kv := (Drive.raiseWear_frame _).kv rfl
@[simp] theorem Drive.raiseWear_media (d : Drive) : (Drive.raiseWear d).media = d.media := (Drive.raiseWear_frame _).media rfl
@[simp] theorem Drive.raiseWear_twin (d : Drive) : (Drive.raiseWear d).twin = d.twin := (Drive.raiseWear_frame _).twin rfl
@[simp] theorem Drive.raiseWear_ring (d : Drive) : (Drive.raiseWear d).ring = d.ring := (Drive.raiseWear_frame _).ring rfl
@[simp] theorem Drive.raiseWear_keys (d : Drive) : (Drive.raiseWear d).keys = d.keys := (Drive.raiseWear_frame _).keys rfl
@[simp] theorem Drive.raiseWear_holly (d : Drive) : (Drive.raiseWear d).holly = d.holly := (Drive.raiseWear_frame _).holly rfl
@[simp] theorem Drive.raiseWear_xp (d : Drive) : (Drive.raiseWear d).xp = d.xp := (Drive.raiseWear_frame _).xp rfl
@[simp] theorem Drive.raiseWear_time (d : Drive) : (Drive.raiseWear d).time = d.time := (Drive.raiseWear_frame _).time rfl
@[simp] theorem Drive.raiseWear_sec (d : Drive) : (Drive.raiseWear d).sec = d.sec := (Drive.raiseWear_frame _).sec rfl
@[simp] theorem Drive.raiseWear_mod (d : Drive) : (Drive.raiseWear d).mod = d.mod := (Drive.raiseWear_frame _).mod rfl
@[simp] theorem Drive.raiseWear_port (d : Drive) : (Drive.raiseWear d).port = d.port := (Drive.raiseWear_frame _).port rfl
@[simp] theorem Drive.raiseWear_privet (d : Drive) : (Drive.raiseWear d).privet = d.privet := (Drive.raiseWear_frame _).privet rfl
@[simp] theorem Drive.raiseWear_rec_ (d : Drive) : (Drive.raiseWear d).rec_ = d.rec_ := (Drive.raiseWear_frame _).rec_ rfl
@[simp] theorem Drive.raiseWear_meter (d : Drive) : (Drive.raiseWear d).meter = d.meter := (Drive.raiseWear_frame _).meter rfl
@[simp] theorem Drive.raiseWear_power (d : Drive) : (Drive.raiseWear d).power = d.power := (Drive.raiseWear_frame _).power rfl
@[simp] theorem Drive.raiseWear_therm (d : Drive) : (Drive.raiseWear d).therm = d.therm := (Drive.raiseWear_frame _).therm rfl
@[simp] theorem Drive.raiseWear_health (d : Drive) : (Drive.raiseWear d).health = d.health := (Drive.raiseWear_frame _).health rfl
@[simp] theorem Drive.raiseWear_optf (d : Drive) : (Drive.raiseWear d).optf = d.optf := (Drive.raiseWear_frame _).optf rfl
@[simp] theorem Drive.raiseWear_jobs (d : Drive) : (Drive.raiseWear d).jobs = d.jobs := (Drive.raiseWear_frame _).jobs rfl
@[simp] theorem Drive.raiseWear_chans (d : Drive) : (Drive.raiseWear d).chans = d.chans := (Drive.raiseWear_frame _).chans rfl
@[simp] theorem Drive.raiseWear_healthSaved (d : Drive) : (Drive.raiseWear d).healthSaved = d.healthSaved := (Drive.raiseWear_frame _).healthSaved rfl
@[simp] theorem Drive.raiseWear_ident (d : Drive) : (Drive.raiseWear d).ident = d.ident := (Drive.raiseWear_frame _).ident rfl
@[simp] theorem Drive.raiseWear_out (d : Drive) : (Drive.raiseWear d).out = d.out := (Drive.raiseWear_frame _).out rfl
@[simp] theorem Drive.raiseWear_free (d : Drive) : (Drive.raiseWear d).free = d.free := (Drive.raiseWear_frame _).free rfl
@[simp] theorem Drive.raiseFwd_kv (d : Drive) : (Drive.raiseFwd d).kv = d.kv := (Drive.raiseFwd_frame _).kv rfl
@[simp] theorem Drive.raiseFwd_media (d : Drive) : (Drive.raiseFwd d).media = d.media := (Drive.raiseFwd_frame _).media rfl
@[simp] theorem Drive.raiseFwd_twin (d : Drive) : (Drive.raiseFwd d).twin = d.twin := (Drive.raiseFwd_frame _).twin rfl
@[simp] theorem Drive.raiseFwd_ring (d : Drive) : (Drive.raiseFwd d).ring = d.ring := (Drive.raiseFwd_frame _).ring rfl
@[simp] theorem Drive.raiseFwd_keys (d : Drive) : (Drive.raiseFwd d).keys = d.keys := (Drive.raiseFwd_frame _).keys rfl
@[simp] theorem Drive.raiseFwd_holly (d : Drive) : (Drive.raiseFwd d).holly = d.holly := (Drive.raiseFwd_frame _).holly rfl
@[simp] theorem Drive.raiseFwd_xp (d : Drive) : (Drive.raiseFwd d).xp = d.xp := (Drive.raiseFwd_frame _).xp rfl
@[simp] theorem Drive.raiseFwd_time (d : Drive) : (Drive.raiseFwd d).time = d.time := (Drive.raiseFwd_frame _).time rfl
@[simp] theorem Drive.raiseFwd_sec (d : Drive) : (Drive.raiseFwd d).sec = d.sec := (Drive.raiseFwd_frame _).sec rfl
@[simp] theorem Drive.raiseFwd_mod (d : Drive) : (Drive.raiseFwd d).mod = d.mod := (Drive.raiseFwd_frame _).mod rfl
@[simp] theorem Drive.raiseFwd_port (d : Drive) : (Drive.raiseFwd d).port = d.port := (Drive.raiseFwd_frame _).port rfl
@[simp] theorem Drive.raiseFwd_privet (d : Drive) : (Drive.raiseFwd d).privet = d.privet := (Drive.raiseFwd_frame _).privet rfl
@[simp] theorem Drive.raiseFwd_rec_ (d : Drive) : (Drive.raiseFwd d).rec_ = d.rec_ := (Drive.raiseFwd_frame _).rec_ rfl
@[simp] theorem Drive.raiseFwd_meter (d : Drive) : (Drive.raiseFwd d).meter = d.meter := (Drive.raiseFwd_frame _).meter rfl
@[simp] theorem Drive.raiseFwd_power (d : Drive) : (Drive.raiseFwd d).power = d.power := (Drive.raiseFwd_frame _).power rfl
@[simp] theorem Drive.raiseFwd_therm (d : Drive) : (Drive.raiseFwd d).therm = d.therm := (Drive.raiseFwd_frame _).therm rfl
@[simp] theorem Drive.raiseFwd_health (d : Drive) : (Drive.raiseFwd d).health = d.health := (Drive.raiseFwd_frame _).health rfl
@[simp] theorem Drive.raiseFwd_optf (d : Drive) : (Drive.raiseFwd d).optf = d.optf := (Drive.raiseFwd_frame _).optf rfl
@[simp] theorem Drive.raiseFwd_jobs (d : Drive) : (Drive.raiseFwd d).jobs = d.jobs := (Drive.raiseFwd_frame _).jobs rfl
@[simp] theorem Drive.raiseFwd_chans (d : Drive) : (Drive.raiseFwd d).chans = d.chans := (Drive.raiseFwd_frame _).chans rfl
@[simp] theorem Drive.raiseFwd_healthSaved (d : Drive) : (Drive.raiseFwd d).healthSaved = d.healthSaved := (Drive.raiseFwd_frame _).healthSaved rfl
@[simp] theorem Drive.raiseFwd_ident (d : Drive) : (Drive.raiseFwd d).ident = d.ident := (Drive.raiseFwd_frame _).ident rfl
@[simp] theorem Drive.raiseFwd_out (d : Drive) : (Drive.raiseFwd d).out = d.out := (Drive.raiseFwd_frame _).out rfl
@[simp] theorem Drive.raiseFwd_free (d : Drive) : (Drive.raiseFwd d).free = d.free := (Drive.raiseFwd_frame _).free rfl
@[simp] theorem Drive.noticeLost_kv (sid) (d : Drive) : (Drive.noticeLost sid d).kv = d.kv := (Drive.noticeLost_frame _ _).kv rfl
@[simp] theorem Drive.noticeLost_media (sid) (d : Drive) : (Drive.noticeLost sid d).media = d.media := (Drive.noticeLost_frame _ _).media rfl
@[simp] theorem Drive.noticeLost_twin (sid) (d : Drive) : (Drive.noticeLost sid d).twin = d.twin := (Drive.noticeLost_frame _ _).twin rfl
@[simp] theorem Drive.noticeLost_ring (sid) (d : Drive) : (Drive.noticeLost sid d).ring = d.ring := (Drive.noticeLost_frame _ _).ring rfl
@[simp] theorem Drive.noticeLost_holly (sid) (d : Drive) : (Drive.noticeLost sid d).holly = d.holly := (Drive.noticeLost_frame _ _).holly rfl
@[simp] theorem Drive.noticeLost_time (sid) (d : Drive) : (Drive.noticeLost sid d).time = d.time := (Drive.noticeLost_frame _ _).time rfl
@[simp] theorem Drive.noticeLost_sec (sid) (d : Drive) : (Drive.noticeLost sid d).sec = d.sec := (Drive.noticeLost_frame _ _).sec rfl
@[simp] theorem Drive.noticeLost_mod (sid) (d : Drive) : (Drive.noticeLost sid d).mod = d.mod := (Drive.noticeLost_frame _ _).mod rfl
@[simp] theorem Drive.noticeLost_privet (sid) (d : Drive) : (Drive.noticeLost sid d).privet = d.privet := (Drive.noticeLost_frame _ _).privet rfl
@[simp] theorem Drive.noticeLost_power (sid) (d : Drive) : (Drive.noticeLost sid d).power = d.power := (Drive.noticeLost_frame _ _).power rfl
@[simp] theorem Drive.noticeLost_therm (sid) (d : Drive) : (Drive.noticeLost sid d).therm = d.therm := (Drive.noticeLost_frame _ _).therm rfl
@[simp] theorem Drive.noticeLost_health (sid) (d : Drive) : (Drive.noticeLost sid d).health = d.health := (Drive.noticeLost_frame _ _).health rfl
@[simp] theorem Drive.noticeLost_optf (sid) (d : Drive) : (Drive.noticeLost sid d).optf = d.optf := (Drive.noticeLost_frame _ _).optf rfl
@[simp] theorem Drive.noticeLost_jobs (sid) (d : Drive) : (Drive.noticeLost sid d).jobs = d.jobs := (Drive.noticeLost_frame _ _).jobs rfl
@[simp] theorem Drive.noticeLost_chans (sid) (d : Drive) : (Drive.noticeLost sid d).chans = d.chans := (Drive.noticeLost_frame _ _).chans rfl
@[simp] theorem Drive.noticeLost_healthSaved (sid) (d : Drive) : (Drive.noticeLost sid d).healthSaved = d.healthSaved := (Drive.noticeLost_frame _ _).healthSaved rfl
@[simp] theorem Drive.noticeLost_ident (sid) (d : Drive) : (Drive.noticeLost sid d).ident = d.ident := (Drive.noticeLost_frame _ _).ident rfl
@[simp] theorem Drive.noticeLost_free (sid) (d : Drive) : (Drive.noticeLost sid d).free = d.free := (Drive.noticeLost_frame _ _).free rfl
@[simp] theorem Drive.placeRec_kv (sb) (gran) (r) (d : Drive) : (Drive.placeRec sb gran r d).kv = d.kv := (Drive.placeRec_frame _ _ _ _).kv rfl
@[simp] theorem Drive.placeRec_twin (sb) (gran) (r) (d : Drive) : (Drive.placeRec sb gran r d).twin = d.twin := (Drive.placeRec_frame _ _ _ _).twin rfl
@[simp] theorem Drive.placeRec_ring (sb) (gran) (r) (d : Drive) : (Drive.placeRec sb gran r d).ring = d.ring := (Drive.placeRec_frame _ _ _ _).ring rfl
@[simp] theorem Drive.placeRec_keys (sb) (gran) (r) (d : Drive) : (Drive.placeRec sb gran r d).keys = d.keys := (Drive.placeRec_frame _ _ _ _).keys rfl
@[simp] theorem Drive.placeRec_holly (sb) (gran) (r) (d : Drive) : (Drive.placeRec sb gran r d).holly = d.holly := (Drive.placeRec_frame _ _ _ _).holly rfl
@[simp] theorem Drive.placeRec_xp (sb) (gran) (r) (d : Drive) : (Drive.placeRec sb gran r d).xp = d.xp := (Drive.placeRec_frame _ _ _ _).xp rfl
@[simp] theorem Drive.placeRec_time (sb) (gran) (r) (d : Drive) : (Drive.placeRec sb gran r d).time = d.time := (Drive.placeRec_frame _ _ _ _).time rfl
@[simp] theorem Drive.placeRec_sec (sb) (gran) (r) (d : Drive) : (Drive.placeRec sb gran r d).sec = d.sec := (Drive.placeRec_frame _ _ _ _).sec rfl
@[simp] theorem Drive.placeRec_mod (sb) (gran) (r) (d : Drive) : (Drive.placeRec sb gran r d).mod = d.mod := (Drive.placeRec_frame _ _ _ _).mod rfl
@[simp] theorem Drive.placeRec_port (sb) (gran) (r) (d : Drive) : (Drive.placeRec sb gran r d).port = d.port := (Drive.placeRec_frame _ _ _ _).port rfl
@[simp] theorem Drive.placeRec_privet (sb) (gran) (r) (d : Drive) : (Drive.placeRec sb gran r d).privet = d.privet := (Drive.placeRec_frame _ _ _ _).privet rfl
@[simp] theorem Drive.placeRec_rec_ (sb) (gran) (r) (d : Drive) : (Drive.placeRec sb gran r d).rec_ = d.rec_ := (Drive.placeRec_frame _ _ _ _).rec_ rfl
@[simp] theorem Drive.placeRec_meter (sb) (gran) (r) (d : Drive) : (Drive.placeRec sb gran r d).meter = d.meter := (Drive.placeRec_frame _ _ _ _).meter rfl
@[simp] theorem Drive.placeRec_power (sb) (gran) (r) (d : Drive) : (Drive.placeRec sb gran r d).power = d.power := (Drive.placeRec_frame _ _ _ _).power rfl
@[simp] theorem Drive.placeRec_therm (sb) (gran) (r) (d : Drive) : (Drive.placeRec sb gran r d).therm = d.therm := (Drive.placeRec_frame _ _ _ _).therm rfl
@[simp] theorem Drive.placeRec_health (sb) (gran) (r) (d : Drive) : (Drive.placeRec sb gran r d).health = d.health := (Drive.placeRec_frame _ _ _ _).health rfl
@[simp] theorem Drive.placeRec_flag (sb) (gran) (r) (d : Drive) : (Drive.placeRec sb gran r d).flag = d.flag := (Drive.placeRec_frame _ _ _ _).flag rfl
@[simp] theorem Drive.placeRec_optf (sb) (gran) (r) (d : Drive) : (Drive.placeRec sb gran r d).optf = d.optf := (Drive.placeRec_frame _ _ _ _).optf rfl
@[simp] theorem Drive.placeRec_jobs (sb) (gran) (r) (d : Drive) : (Drive.placeRec sb gran r d).jobs = d.jobs := (Drive.placeRec_frame _ _ _ _).jobs rfl
@[simp] theorem Drive.placeRec_chans (sb) (gran) (r) (d : Drive) : (Drive.placeRec sb gran r d).chans = d.chans := (Drive.placeRec_frame _ _ _ _).chans rfl
@[simp] theorem Drive.placeRec_healthSaved (sb) (gran) (r) (d : Drive) : (Drive.placeRec sb gran r d).healthSaved = d.healthSaved := (Drive.placeRec_frame _ _ _ _).healthSaved rfl
@[simp] theorem Drive.placeRec_ident (sb) (gran) (r) (d : Drive) : (Drive.placeRec sb gran r d).ident = d.ident := (Drive.placeRec_frame _ _ _ _).ident rfl
@[simp] theorem Drive.placeRec_out (sb) (gran) (r) (d : Drive) : (Drive.placeRec sb gran r d).out = d.out := (Drive.placeRec_frame _ _ _ _).out rfl
@[simp] theorem Drive.placeRec_free (sb) (gran) (r) (d : Drive) : (Drive.placeRec sb gran r d).free = d.free := (Drive.placeRec_frame _ _ _ _).free rfl
@[simp] theorem Drive.closeFull_kv (stream) (slc) (g) (d : Drive) : (Drive.closeFull stream slc g d).kv = d.kv := (Drive.closeFull_frame _ _ _ _).kv rfl
@[simp] theorem Drive.closeFull_twin (stream) (slc) (g) (d : Drive) : (Drive.closeFull stream slc g d).twin = d.twin := (Drive.closeFull_frame _ _ _ _).twin rfl
@[simp] theorem Drive.closeFull_ring (stream) (slc) (g) (d : Drive) : (Drive.closeFull stream slc g d).ring = d.ring := (Drive.closeFull_frame _ _ _ _).ring rfl
@[simp] theorem Drive.closeFull_keys (stream) (slc) (g) (d : Drive) : (Drive.closeFull stream slc g d).keys = d.keys := (Drive.closeFull_frame _ _ _ _).keys rfl
@[simp] theorem Drive.closeFull_holly (stream) (slc) (g) (d : Drive) : (Drive.closeFull stream slc g d).holly = d.holly := (Drive.closeFull_frame _ _ _ _).holly rfl
@[simp] theorem Drive.closeFull_xp (stream) (slc) (g) (d : Drive) : (Drive.closeFull stream slc g d).xp = d.xp := (Drive.closeFull_frame _ _ _ _).xp rfl
@[simp] theorem Drive.closeFull_time (stream) (slc) (g) (d : Drive) : (Drive.closeFull stream slc g d).time = d.time := (Drive.closeFull_frame _ _ _ _).time rfl
@[simp] theorem Drive.closeFull_sec (stream) (slc) (g) (d : Drive) : (Drive.closeFull stream slc g d).sec = d.sec := (Drive.closeFull_frame _ _ _ _).sec rfl
@[simp] theorem Drive.closeFull_mod (stream) (slc) (g) (d : Drive) : (Drive.closeFull stream slc g d).mod = d.mod := (Drive.closeFull_frame _ _ _ _).mod rfl
@[simp] theorem Drive.closeFull_port (stream) (slc) (g) (d : Drive) : (Drive.closeFull stream slc g d).port = d.port := (Drive.closeFull_frame _ _ _ _).port rfl
@[simp] theorem Drive.closeFull_privet (stream) (slc) (g) (d : Drive) : (Drive.closeFull stream slc g d).privet = d.privet := (Drive.closeFull_frame _ _ _ _).privet rfl
@[simp] theorem Drive.closeFull_rec_ (stream) (slc) (g) (d : Drive) : (Drive.closeFull stream slc g d).rec_ = d.rec_ := (Drive.closeFull_frame _ _ _ _).rec_ rfl
@[simp] theorem Drive.closeFull_meter (stream) (slc) (g) (d : Drive) : (Drive.closeFull stream slc g d).meter = d.meter := (Drive.closeFull_frame _ _ _ _).meter rfl
@[simp] theorem Drive.closeFull_power (stream) (slc) (g) (d : Drive) : (Drive.closeFull stream slc g d).power = d.power := (Drive.closeFull_frame _ _ _ _).power rfl
@[simp] theorem Drive.closeFull_therm (stream) (slc) (g) (d : Drive) : (Drive.closeFull stream slc g d).therm = d.therm := (Drive.closeFull_frame _ _ _ _).therm rfl
@[simp] theorem Drive.closeFull_health (stream) (slc) (g) (d : Drive) : (Drive.closeFull stream slc g d).health = d.health := (Drive.closeFull_frame _ _ _ _).health rfl
@[simp] theorem Drive.closeFull_flag (stream) (slc) (g) (d : Drive) : (Drive.closeFull stream slc g d).flag = d.flag := (Drive.closeFull_frame _ _ _ _).flag rfl
@[simp] theorem Drive.closeFull_optf (stream) (slc) (g) (d : Drive) : (Drive.closeFull stream slc g d).optf = d.optf := (Drive.closeFull_frame _ _ _ _).optf rfl
@[simp] theorem Drive.closeFull_jobs (stream) (slc) (g) (d : Drive) : (Drive.closeFull stream slc g d).jobs = d.jobs := (Drive.closeFull_frame _ _ _ _).jobs rfl
@[simp] theorem Drive.closeFull_chans (stream) (slc) (g) (d : Drive) : (Drive.closeFull stream slc g d).chans = d.chans := (Drive.closeFull_frame _ _ _ _).chans rfl
@[simp] theorem Drive.closeFull_healthSaved (stream) (slc) (g) (d : Drive) : (Drive.closeFull stream slc g d).healthSaved = d.healthSaved := (Drive.closeFull_frame _ _ _ _).healthSaved rfl
@[simp] theorem Drive.closeFull_ident (stream) (slc) (g) (d : Drive) : (Drive.closeFull stream slc g d).ident = d.ident := (Drive.closeFull_frame _ _ _ _).ident rfl
@[simp] theorem Drive.closeFull_out (stream) (slc) (g) (d : Drive) : (Drive.closeFull stream slc g d).out = d.out := (Drive.closeFull_frame _ _ _ _).out rfl
@[simp] theorem Drive.closeFull_free (stream) (slc) (g) (d : Drive) : (Drive.closeFull stream slc g d).free = d.free := (Drive.closeFull_frame _ _ _ _).free rfl
@[simp] theorem Drive.issueRead_kv (j) (d : Drive) : (Drive.issueRead j d).kv = d.kv := (Drive.issueRead_frame _ _).kv rfl
@[simp] theorem Drive.issueRead_twin (j) (d : Drive) : (Drive.issueRead j d).twin = d.twin := (Drive.issueRead_frame _ _).twin rfl
@[simp] theorem Drive.issueRead_ring (j) (d : Drive) : (Drive.issueRead j d).ring = d.ring := (Drive.issueRead_frame _ _).ring rfl
@[simp] theorem Drive.issueRead_keys (j) (d : Drive) : (Drive.issueRead j d).keys = d.keys := (Drive.issueRead_frame _ _).keys rfl
@[simp] theorem Drive.issueRead_holly (j) (d : Drive) : (Drive.issueRead j d).holly = d.holly := (Drive.issueRead_frame _ _).holly rfl
@[simp] theorem Drive.issueRead_xp (j) (d : Drive) : (Drive.issueRead j d).xp = d.xp := (Drive.issueRead_frame _ _).xp rfl
@[simp] theorem Drive.issueRead_time (j) (d : Drive) : (Drive.issueRead j d).time = d.time := (Drive.issueRead_frame _ _).time rfl
@[simp] theorem Drive.issueRead_sec (j) (d : Drive) : (Drive.issueRead j d).sec = d.sec := (Drive.issueRead_frame _ _).sec rfl
@[simp] theorem Drive.issueRead_mod (j) (d : Drive) : (Drive.issueRead j d).mod = d.mod := (Drive.issueRead_frame _ _).mod rfl
@[simp] theorem Drive.issueRead_port (j) (d : Drive) : (Drive.issueRead j d).port = d.port := (Drive.issueRead_frame _ _).port rfl
@[simp] theorem Drive.issueRead_privet (j) (d : Drive) : (Drive.issueRead j d).privet = d.privet := (Drive.issueRead_frame _ _).privet rfl
@[simp] theorem Drive.issueRead_rec_ (j) (d : Drive) : (Drive.issueRead j d).rec_ = d.rec_ := (Drive.issueRead_frame _ _).rec_ rfl
@[simp] theorem Drive.issueRead_meter (j) (d : Drive) : (Drive.issueRead j d).meter = d.meter := (Drive.issueRead_frame _ _).meter rfl
@[simp] theorem Drive.issueRead_power (j) (d : Drive) : (Drive.issueRead j d).power = d.power := (Drive.issueRead_frame _ _).power rfl
@[simp] theorem Drive.issueRead_therm (j) (d : Drive) : (Drive.issueRead j d).therm = d.therm := (Drive.issueRead_frame _ _).therm rfl
@[simp] theorem Drive.issueRead_health (j) (d : Drive) : (Drive.issueRead j d).health = d.health := (Drive.issueRead_frame _ _).health rfl
@[simp] theorem Drive.issueRead_flag (j) (d : Drive) : (Drive.issueRead j d).flag = d.flag := (Drive.issueRead_frame _ _).flag rfl
@[simp] theorem Drive.issueRead_optf (j) (d : Drive) : (Drive.issueRead j d).optf = d.optf := (Drive.issueRead_frame _ _).optf rfl
@[simp] theorem Drive.issueRead_jobs (j) (d : Drive) : (Drive.issueRead j d).jobs = d.jobs := (Drive.issueRead_frame _ _).jobs rfl
@[simp] theorem Drive.issueRead_chans (j) (d : Drive) : (Drive.issueRead j d).chans = d.chans := (Drive.issueRead_frame _ _).chans rfl
@[simp] theorem Drive.issueRead_healthSaved (j) (d : Drive) : (Drive.issueRead j d).healthSaved = d.healthSaved := (Drive.issueRead_frame _ _).healthSaved rfl
@[simp] theorem Drive.issueRead_ident (j) (d : Drive) : (Drive.issueRead j d).ident = d.ident := (Drive.issueRead_frame _ _).ident rfl
@[simp] theorem Drive.issueRead_out (j) (d : Drive) : (Drive.issueRead j d).out = d.out := (Drive.issueRead_frame _ _).out rfl
@[simp] theorem Drive.issueRead_free (j) (d : Drive) : (Drive.issueRead j d).free = d.free := (Drive.issueRead_frame _ _).free rfl
@[simp] theorem Drive.ownJob_kv (kind) (p0) (d : Drive) : (Drive.ownJob kind p0 d).kv = d.kv := (Drive.ownJob_frame _ _ _).kv rfl
@[simp] theorem Drive.ownJob_media (kind) (p0) (d : Drive) : (Drive.ownJob kind p0 d).media = d.media := (Drive.ownJob_frame _ _ _).media rfl
@[simp] theorem Drive.ownJob_twin (kind) (p0) (d : Drive) : (Drive.ownJob kind p0 d).twin = d.twin := (Drive.ownJob_frame _ _ _).twin rfl
@[simp] theorem Drive.ownJob_ring (kind) (p0) (d : Drive) : (Drive.ownJob kind p0 d).ring = d.ring := (Drive.ownJob_frame _ _ _).ring rfl
@[simp] theorem Drive.ownJob_holly (kind) (p0) (d : Drive) : (Drive.ownJob kind p0 d).holly = d.holly := (Drive.ownJob_frame _ _ _).holly rfl
@[simp] theorem Drive.ownJob_time (kind) (p0) (d : Drive) : (Drive.ownJob kind p0 d).time = d.time := (Drive.ownJob_frame _ _ _).time rfl
@[simp] theorem Drive.ownJob_sec (kind) (p0) (d : Drive) : (Drive.ownJob kind p0 d).sec = d.sec := (Drive.ownJob_frame _ _ _).sec rfl
@[simp] theorem Drive.ownJob_mod (kind) (p0) (d : Drive) : (Drive.ownJob kind p0 d).mod = d.mod := (Drive.ownJob_frame _ _ _).mod rfl
@[simp] theorem Drive.ownJob_privet (kind) (p0) (d : Drive) : (Drive.ownJob kind p0 d).privet = d.privet := (Drive.ownJob_frame _ _ _).privet rfl
@[simp] theorem Drive.ownJob_power (kind) (p0) (d : Drive) : (Drive.ownJob kind p0 d).power = d.power := (Drive.ownJob_frame _ _ _).power rfl
@[simp] theorem Drive.ownJob_therm (kind) (p0) (d : Drive) : (Drive.ownJob kind p0 d).therm = d.therm := (Drive.ownJob_frame _ _ _).therm rfl
@[simp] theorem Drive.ownJob_health (kind) (p0) (d : Drive) : (Drive.ownJob kind p0 d).health = d.health := (Drive.ownJob_frame _ _ _).health rfl
@[simp] theorem Drive.ownJob_optf (kind) (p0) (d : Drive) : (Drive.ownJob kind p0 d).optf = d.optf := (Drive.ownJob_frame _ _ _).optf rfl
@[simp] theorem Drive.ownJob_chans (kind) (p0) (d : Drive) : (Drive.ownJob kind p0 d).chans = d.chans := (Drive.ownJob_frame _ _ _).chans rfl
@[simp] theorem Drive.ownJob_healthSaved (kind) (p0) (d : Drive) : (Drive.ownJob kind p0 d).healthSaved = d.healthSaved := (Drive.ownJob_frame _ _ _).healthSaved rfl
@[simp] theorem Drive.ownJob_ident (kind) (p0) (d : Drive) : (Drive.ownJob kind p0 d).ident = d.ident := (Drive.ownJob_frame _ _ _).ident rfl
@[simp] theorem Drive.ownJob_free (kind) (p0) (d : Drive) : (Drive.ownJob kind p0 d).free = d.free := (Drive.ownJob_frame _ _ _).free rfl
@[simp] theorem Drive.endKind_kv (kind) (status) (d : Drive) : (Drive.endKind kind status d).kv = d.kv := (Drive.endKind_frame _ _ _).kv rfl
@[simp] theorem Drive.endKind_media (kind) (status) (d : Drive) : (Drive.endKind kind status d).media = d.media := (Drive.endKind_frame _ _ _).media rfl
@[simp] theorem Drive.endKind_twin (kind) (status) (d : Drive) : (Drive.endKind kind status d).twin = d.twin := (Drive.endKind_frame _ _ _).twin rfl
@[simp] theorem Drive.endKind_ring (kind) (status) (d : Drive) : (Drive.endKind kind status d).ring = d.ring := (Drive.endKind_frame _ _ _).ring rfl
@[simp] theorem Drive.endKind_holly (kind) (status) (d : Drive) : (Drive.endKind kind status d).holly = d.holly := (Drive.endKind_frame _ _ _).holly rfl
@[simp] theorem Drive.endKind_time (kind) (status) (d : Drive) : (Drive.endKind kind status d).time = d.time := (Drive.endKind_frame _ _ _).time rfl
@[simp] theorem Drive.endKind_sec (kind) (status) (d : Drive) : (Drive.endKind kind status d).sec = d.sec := (Drive.endKind_frame _ _ _).sec rfl
@[simp] theorem Drive.endKind_mod (kind) (status) (d : Drive) : (Drive.endKind kind status d).mod = d.mod := (Drive.endKind_frame _ _ _).mod rfl
@[simp] theorem Drive.endKind_privet (kind) (status) (d : Drive) : (Drive.endKind kind status d).privet = d.privet := (Drive.endKind_frame _ _ _).privet rfl
@[simp] theorem Drive.endKind_therm (kind) (status) (d : Drive) : (Drive.endKind kind status d).therm = d.therm := (Drive.endKind_frame _ _ _).therm rfl
@[simp] theorem Drive.endKind_health (kind) (status) (d : Drive) : (Drive.endKind kind status d).health = d.health := (Drive.endKind_frame _ _ _).health rfl
@[simp] theorem Drive.endKind_optf (kind) (status) (d : Drive) : (Drive.endKind kind status d).optf = d.optf := (Drive.endKind_frame _ _ _).optf rfl
@[simp] theorem Drive.endKind_chans (kind) (status) (d : Drive) : (Drive.endKind kind status d).chans = d.chans := (Drive.endKind_frame _ _ _).chans rfl
@[simp] theorem Drive.endKind_healthSaved (kind) (status) (d : Drive) : (Drive.endKind kind status d).healthSaved = d.healthSaved := (Drive.endKind_frame _ _ _).healthSaved rfl
@[simp] theorem Drive.endKind_ident (kind) (status) (d : Drive) : (Drive.endKind kind status d).ident = d.ident := (Drive.endKind_frame _ _ _).ident rfl
@[simp] theorem Drive.endKind_free (kind) (status) (d : Drive) : (Drive.endKind kind status d).free = d.free := (Drive.endKind_frame _ _ _).free rfl

end Sys2Proof.Machine
end

