-- ==== Sys2Proof/Laws/Command.lean ====
section
/-! SUPPORT. Laws/Command.lean: what the gates and the request table do: a live drive runs a command, a request is found, replaced and
dropped; outputs are only ever added. -/

set_option linter.all false

namespace Sys2Proof.Machine
open Sys2Proof

theorem State.onMain_live {s : State} (h : s.dev.live = true) (f : Drive → Drive) : s.onMain f = .next { s with dev := f s.dev } := by
  simp [State.onMain, h]

theorem completes_onMain {i : Instr} {s : State} {f : Drive → Drive} {P : Drive → Prop} (he : exec i s = s.onMain f)
    (h : s.dev.live = true) (hp : P (f s.dev)) : Completes i s P := by
  rw [State.onMain_live h] at he
  exact ⟨_, he, rfl, hp⟩

/-! ## The request table -/

theorem Drive.req?_origin {d : Drive} {o : Origin} {r : Req} (h : d.req? o = some r) : r.origin = o := by
  have := List.find?_some h
  simpa using this

theorem Drive.req?_dropReq (d : Drive) (o : Origin) : (d.dropReq o).req? o = none := by
  simp [Drive.req?, Drive.dropReq]

theorem Drive.req?_putReq {d : Drive} {o : Origin} {r0 r : Req} (h : d.req? o = some r0) (hr : r.origin = o) : (d.putReq r).req? o = some r := by
  unfold Drive.req? Drive.putReq at *
  induction hl : d.kv.reqs generalizing r0 with
  | nil => simp [hl] at h
  | cons x l ih => 
    clear ih
    rw [hl] at h
    clear hl
    induction l generalizing x with
    | nil =>
      by_cases hx : x.origin = o
      · simp [hx, hr]
      · simp [List.find?, hx] at h
    | cons y l ih2 =>
      by_cases hx : x.origin = o
      · simp [hx, hr]
      · have h' : List.find? (fun r => decide (r.origin = o)) (y :: l) = some r0 := by
          simpa [List.find?, hx] using h
        have := ih2 y h'
        have hx2 : ¬ x.origin = r.origin := by rw [hr]; exact hx
        rw [List.map_cons, if_neg hx2, List.find?_cons]
        simp [hx]
        simpa using this

theorem Drive.withReq_of {d : Drive} {o : Origin} {ops : List Nat} {r : Req} (h : d.req? o = some r) (hp : r.phase = .active)
    (ho : r.hdr.opcode ∈ ops) (hs : d.sequenced r = true) (f : Req → Drive → Drive) : d.withReq o ops f = f r d := by
  simp [Drive.withReq, h, hp, ho, hs]

/-- A request of the data path does not wait for the sequencer (R812). -/
theorem Drive.sequenced_data {r : Req} (h : r.hdr.opcode < 0x30) (d : Drive) : d.sequenced r = true := by
  simp [Drive.sequenced, h]

theorem Drive.withPhase_of {d : Drive} {o : Origin} {ps : List ReqPhase} {r : Req} (h : d.req? o = some r) (hp : r.phase ∈ ps)
    (f : Req → Drive → Drive) : d.withPhase o ps f = f r d := by
  simp [Drive.withPhase, h, hp]

/-! ## Outputs -/

/-- `b`'s outputs are `a`'s and later ones. -/
def Drive.outFrom (a b : Drive) : Prop := ∃ l, b.out = l ++ a.out

theorem Drive.outFrom_refl (d : Drive) : d.outFrom d := ⟨[], rfl⟩
theorem Drive.outFrom_of_eq {a b : Drive} (h : b.out = a.out) : a.outFrom b := ⟨[], h⟩
theorem Drive.outFrom.trans {a b c : Drive} (h : a.outFrom b) (k : b.outFrom c) : a.outFrom c := by
  obtain ⟨l, h⟩ := h; obtain ⟨m, k⟩ := k
  exact ⟨m ++ l, by rw [k, h, List.append_assoc]⟩
theorem Drive.outFrom.mem {a b : Drive} {x : Out} (h : a.outFrom b) (hx : x ∈ a.out) : x ∈ b.out := by
  obtain ⟨l, h⟩ := h; rw [h]; exact List.mem_append_right _ hx
theorem Drive.outFrom.same {a b c : Drive} (h : a.outFrom b) (k : c.out = b.out) : a.outFrom c := h.trans (Drive.outFrom_of_eq k)

theorem Drive.outFrom_let {a z y : Drive} (h : a.outFrom z) (k : a.outFrom z → a.outFrom y) : a.outFrom y := k h

theorem Drive.emit_outFrom (o : Out) (d : Drive) : d.outFrom (d.emit o) := ⟨[o], rfl⟩
theorem Drive.emit_mem (o : Out) (d : Drive) : o ∈ (d.emit o).out := by simp

theorem Drive.portTx_outFrom (p len cast) (tagged fw : Bool) (o : Out) (d : Drive) : d.outFrom (d.portTx p len cast tagged fw o) := by
  unfold Drive.portTx
  split
  · exact ⟨[], rfl⟩
  · exact ⟨[o], rfl⟩

theorem Drive.meterOut_outFrom (t n : Nat) (d : Drive) : d.outFrom (d.meterOut t n) := Drive.outFrom_of_eq ((Drive.meterOut_frame t n d).out rfl)

theorem pumpFrames_outFrom (sid k : Nat) (d : Drive) : d.outFrom (pumpFrames sid k d) := by
  induction k generalizing d with
  | zero => exact Drive.outFrom_refl _
  | succ n ih =>
    unfold pumpFrames
    extract_lets +onlyGivenNames s
    split
    · exact Drive.outFrom_refl _
    · extract_lets +onlyGivenNames slot first
      split
      · exact Drive.outFrom_refl _
      split
      · exact Drive.outFrom_refl _
      split
      · exact Drive.outFrom_refl _
      · extract_lets +onlyGivenNames phase w d1 peer mark d2
        have h1 : d.outFrom d1 := Drive.outFrom_of_eq ((Drive.markSent_frame _ _ _ _ _ _).out rfl)
        have h2 : d.outFrom d2 := by
          dsimp only [d2]
          split
          · exact h1.trans (Drive.meterOut_outFrom _ _ _)
          · exact h1
        exact (h2.trans (Drive.portTx_outFrom _ _ _ _ _ _ _)).trans (ih _)

theorem Drive.pump_outFrom (sid : Nat) (d : Drive) : d.outFrom (d.pump sid) := pumpFrames_outFrom _ _ _

theorem Drive.sendPart_outFrom (sid rid path : Nat) (first last : Bool) (op : OpHdr) (b : Bytes) (d : Drive) :
    d.outFrom (d.sendPart sid rid path first last op b) := by
  unfold Drive.sendPart
  dsimp only
  split
  · exact Drive.outFrom_refl _
  · exact Drive.outFrom.trans (Drive.outFrom_of_eq (by simp)) (Drive.pump_outFrom _ _)

theorem Drive.replyFrames_outFrom (sid rid : Nat) (first last : Bool) (h : OpHdr) (b : Bytes) (d : Drive) :
    d.outFrom (d.replyFrames sid rid first last h b) := by
  unfold Drive.replyFrames
  exact Drive.outFrom.trans (Drive.outFrom_of_eq (by simp)) (Drive.sendPart_outFrom _ _ _ _ _ _ _ _)

theorem Drive.twinSend_outFrom (m : TwinMsg) (d : Drive) : d.outFrom (d.twinSend m) := by
  unfold Drive.twinSend
  split
  · exact Drive.outFrom.trans (b := d.fresh.2) (Drive.outFrom_of_eq rfl) (Drive.portTx_outFrom _ _ _ _ _ _ _)
  · exact Drive.outFrom_refl _

theorem Drive.ringSend_outFrom (code dest cls : Nat) (args : List Nat) (b : Bytes) (d : Drive) :
    d.outFrom (d.ringSend code dest cls args b) := by
  unfold Drive.ringSend
  split
  · split
    · unfold ringTx
      exact Drive.outFrom.trans (Drive.outFrom_of_eq rfl) (Drive.portTx_outFrom _ _ _ _ _ _ _)
    · exact Drive.outFrom_refl _
  · exact Drive.outFrom_refl _

theorem sendNotices_outFrom (sid k : Nat) (d : Drive) : d.outFrom (sendNotices sid k d) := by
  induction k generalizing d with
  | zero => exact Drive.outFrom_refl _
  | succ n ih =>
    unfold sendNotices
    repeat' (first
      | with_reducible assumption
      | with_reducible exact Drive.outFrom_refl _
      | with_reducible refine Drive.outFrom.trans ?_ (ih _)
      | with_reducible refine Drive.outFrom.trans ?_ (Drive.portTx_outFrom _ _ _ _ _ _ _)
      | with_reducible refine Drive.outFrom.trans ?_ (Drive.emit_outFrom _ _)
      | with_reducible refine Drive.outFrom.trans ?_ (Drive.sendPart_outFrom _ _ _ _ _ _ _ _)
      | with_reducible refine Drive.outFrom.same ?_ (Drive.setSess_out _ _ _)
      | with_reducible refine Drive.outFrom.same ?_ (Drive.setSslot_out _ _ _)
      | with_reducible refine Drive.outFrom.same ?_ (Drive.modAcc_out _ _ _)
      | (extract_lets +onlyGivenNames z; first | (refine Drive.outFrom_let (z := z) ?_ ?_; (on_goal 1 => (dsimp only [z])); (on_goal 2 => (intro hz; clear_value z))) | clear_value z)
      | split)

theorem Drive.noticeWith_outFrom {lost : Nat → Drive → Drive} (hl : ∀ (sid : Nat) (d : Drive), d.outFrom (lost sid d)) (sid : Nat) (n : Notice) (d : Drive) :
    d.outFrom (d.noticeWith lost sid n) := by
  unfold Drive.noticeWith
  split
  · exact Drive.outFrom_refl _
  · refine Drive.outFrom.trans ?_ (sendNotices_outFrom _ _ _)
    unfold Drive.queueWith
    dsimp only
    repeat' split
    all_goals first
      | exact hl _ _
      | (refine Drive.outFrom_of_eq ?_; simp; done)
      | (refine Drive.outFrom.same (hl sid d) ?_; simp; done)

theorem Drive.raiseAlert_outFrom (d : Drive) : d.outFrom d.raiseAlert := by
  unfold Drive.raiseAlert Drive.inBand
  split
  · exact Drive.outFrom_refl _
  · split
    · exact Drive.outFrom.trans (Drive.outFrom_of_eq (by rfl)) (Drive.emit_outFrom _ _)
    · exact ⟨[], rfl⟩

theorem Drive.enter_outFrom (src sev : Nat) (b : Bytes) (d : Drive) : d.outFrom (d.enter src sev b).2 := by
  unfold Drive.enter
  dsimp only
  split
  · exact ⟨[], rfl⟩
  · split
    · unfold Drive.dropEvent
      dsimp only
      split
      · exact Drive.outFrom.trans (Drive.outFrom_of_eq (by rfl)) (Drive.raiseAlert_outFrom _)
      · exact ⟨[], rfl⟩
    · exact ⟨[], rfl⟩

theorem Drive.eventNoticeLost_outFrom (sid : Nat) (d : Drive) : d.outFrom (d.eventNoticeLost sid) := by
  unfold Drive.eventNoticeLost
  dsimp only
  have he := d.enter_outFrom 0x609 Sev.warning (eventPayload none [])
  have hr := he.trans (Drive.raiseAlert_outFrom _)
  repeat' split
  all_goals first
    | exact he.same (Drive.modSess_out _ _ _)
    | exact hr.same (Drive.modSess_out _ _ _)
    | exact ⟨[], rfl⟩

theorem Drive.event_outFrom (src sev : Nat) (words : List Nat) (d : Drive) (tag : Option WorkTag) : d.outFrom (d.event src sev words tag) := by
  have he := d.enter_outFrom src sev (eventPayload tag words)
  unfold Drive.event
  split
  · rename_i h
    rw [h] at he
    exact he
  · rename_i e d' h
    rw [h] at he
    extract_lets w
    have hA : d.outFrom w := by
      dsimp only [w]
      split
      · refine Drive.outFrom.trans ?_ (Drive.raiseAlert_outFrom _)
        split
        · exact he.trans (Drive.noticeWith_outFrom Drive.eventNoticeLost_outFrom _ _ _)
        · exact he
      · exact he
    clear_value w
    split
    · exact hA.same (Drive.startFlush_out _)
    · exact hA

theorem Drive.noticeLost_outFrom (sid : Nat) (d : Drive) : d.outFrom (d.noticeLost sid) := by
  unfold Drive.noticeLost
  dsimp only
  split
  · exact Drive.outFrom_of_eq (by simp)
  · exact Drive.outFrom.same (Drive.event_outFrom 0x609 Sev.warning [] d none) (by simp)

theorem Drive.notice_outFrom (sid : Nat) (n : Notice) (d : Drive) : d.outFrom (d.notice sid n) :=
  Drive.noticeWith_outFrom (fun _ _ => Drive.noticeLost_outFrom _ _) _ _ _

/-! ## Replies -/

theorem Drive.answer_outFrom (o : Origin) (h : OpHdr) (b : Bytes) (d : Drive) : d.outFrom (d.answer o h b) ∧ Out.reply o h b ∈ (d.answer o h b).out := by
  have key : ∀ z : Drive, z.out = d.out → ∀ y, ((z.emit (.reply o h b)).dropReq o).outFrom y → d.outFrom y ∧ Out.reply o h b ∈ y.out := by
    intro z hz y hy
    refine ⟨(Drive.outFrom_of_eq hz).trans (((Drive.emit_outFrom _ _).same (Drive.dropReq_out _ _)).trans hy), hy.mem ?_⟩
    simp
  unfold Drive.answer
  extract_lets z
  have hz : z.out = d.out := by
    dsimp only [z]
    split <;> simp
  clear_value z
  dsimp only
  split
  · refine key z hz _ ?_
    exact Drive.outFrom.trans (Drive.outFrom_of_eq (by simp +zetaDelta)) (Drive.replyFrames_outFrom _ _ _ _ _ _ _)
  · exact key z hz _ (Drive.outFrom_refl _)
  · exact key z hz _ (Drive.ringSend_outFrom _ _ _ _ _ _)
  · refine key z hz _ (Drive.outFrom.trans (Drive.outFrom_of_eq (by simp +zetaDelta)) (Drive.twinSend_outFrom _ _))

theorem Drive.lastReply_outFrom (sid : Nat) (late : Bool) (d : Drive) : d.outFrom (d.lastReply sid late) := by
  unfold Drive.lastReply
  dsimp only
  repeat' split
  all_goals first
    | exact Drive.outFrom_refl _
    | exact (Drive.answer_outFrom _ _ _ _).1.same (Drive.modSess_out _ _ _)

theorem Drive.reply_outFrom (o : Origin) (h : OpHdr) (b : Bytes) (d : Drive) : d.outFrom (d.reply o h b) ∧ Out.reply o h b ∈ (d.reply o h b).out := by
  have ha : ∀ z, z = d.answer o h b → d.outFrom z ∧ Out.reply o h b ∈ z.out := fun z hz => hz ▸ Drive.answer_outFrom o h b d
  unfold Drive.reply
  extract_lets +onlyGivenNames z
  replace ha := ha z rfl
  clear_value z
  split
  · exact ⟨ha.1.trans (Drive.lastReply_outFrom _ _ _), (Drive.lastReply_outFrom _ _ _).mem ha.2⟩
  · exact ha

theorem Drive.reply_mem (o : Origin) (h : OpHdr) (b : Bytes) (d : Drive) : Out.reply o h b ∈ (d.reply o h b).out := (Drive.reply_outFrom o h b d).2

theorem Drive.answer_kv (o : Origin) (h : OpHdr) (b : Bytes) (d : Drive) : (d.answer o h b).kv = (d.dropReq o).kv := by
  unfold Drive.answer
  extract_lets z
  have hz : z.kv = d.kv := by
    dsimp only [z]
    split <;> simp
  clear_value z
  have h2 : ((z.emit (.reply o h b)).dropReq o).kv = (d.dropReq o).kv := by simp [Drive.dropReq, hz]
  dsimp only
  split <;> simp +zetaDelta [h2]

/-- What a reply does to the data service: the request goes, and at most one more (R438). -/
theorem Drive.reply_kv (o : Origin) (h : OpHdr) (b : Bytes) (d : Drive) :
    (d.reply o h b).kv = (d.dropReq o).kv ∨ ∃ o', (d.reply o h b).kv = ((d.dropReq o).dropReq o').kv := by
  have ha : ∀ z, z = d.answer o h b → z.kv = (d.dropReq o).kv := fun z hz => hz ▸ Drive.answer_kv o h b d
  unfold Drive.reply
  extract_lets +onlyGivenNames z
  replace ha := ha z rfl
  clear_value z
  split
  · unfold Drive.lastReply
    dsimp only
    repeat' split
    · exact .inl ha
    · exact .inl ha
    · refine .inr ⟨‹Origin›, ?_⟩
      rw [Drive.modSess_kv, Drive.answer_kv]
      simp [Drive.dropReq, ha]
    · exact .inl ha
  · exact .inl ha

theorem Drive.reply_req? (o : Origin) (h : OpHdr) (b : Bytes) (d : Drive) : (d.reply o h b).req? o = none := by
  have hd := Drive.req?_dropReq d o
  rcases Drive.reply_kv o h b d with hk | ⟨o', hk⟩
  · simpa [Drive.req?, hk] using hd
  · simp only [Drive.req?, hk]
    simp [Drive.dropReq, List.find?_eq_none]

theorem Drive.refuse_mem (r : Req) (st : Nat) (d : Drive) (v off : Nat) :
    Out.reply r.origin { refusedHdr r.hdr with
      status := st, condVersion := v, offset := if off = 0 then (refusedHdr r.hdr).offset else off } [] ∈ (d.refuse r st v off).out :=
  Drive.reply_mem _ _ _ _

/-! ## Time -/

theorem Drive.advanceTo_now (t : Nat) (d : Drive) : (d.advanceTo t).now = max d.now t := by
  unfold Drive.advanceTo Drive.now
  split
  · omega
  · unfold Sprig.at
    dsimp only
    split <;> simp <;> omega

end Sys2Proof.Machine
end

