-- ==== Sys2Proof/Tests/Slice0.lean ====
section
/-! SUPPORT. Tests/Slice0.lean: operands that do not fit are refused; small steps whose outcome the spec gives; and for every statement with
hypotheses, concrete states and operands that meet all of them. -/

set_option linter.all false

namespace Sys2Proof.Tests
open Sys2Proof Sys2Proof.Machine
set_option Elab.async false

/-! ## Operands that do not fit -/

theorem test_wf_refuses_ok8 : (Instr.fwdWrite 1 1 {} { opcode := 256 } []).wf = false := by decide +kernel
theorem test_wf_refuses_ok16 : (Instr.idleTimeout 65536).wf = false := by decide +kernel
theorem test_wf_refuses_ok32 : (Instr.abort 4294967296).wf = false := by decide +kernel
theorem test_wf_refuses_ok64 : (Instr.commitWaitExpiry (2 ^ 64)).wf = false := by decide +kernel
theorem test_wf_refuses_channel : (Instr.witnessGrant 2).wf = false := by decide +kernel
theorem test_wf_refuses_port : (Instr.shearsAdmit 5).wf = false := by decide +kernel
theorem test_wf_refuses_path : (Instr.keepAlive 1 2).wf = false := by decide +kernel
theorem test_wf_refuses_ns : (Instr.supersedeConfirm 16384 [1]).wf = false := by decide +kernel
theorem test_wf_refuses_position : (Instr.probe 32 0).wf = false := by decide +kernel
theorem test_wf_refuses_tag : (Instr.fwdWrite 1 1 { ns := 16384 } {} []).wf = false := by decide +kernel
theorem test_wf_refuses_origin_session : (Instr.put (.session 65536 0)).wf = false := by decide +kernel
theorem test_wf_refuses_origin_sideband : (Instr.put (.sideband 0 65536)).wf = false := by decide +kernel
theorem test_wf_refuses_origin_ring : (Instr.put (.ring 32 0)).wf = false := by decide +kernel
theorem test_wf_refuses_origin_twin : (Instr.put (.twin (2 ^ 64))).wf = false := by decide +kernel
theorem test_wf_refuses_die : (Instr.suspendComplete 512).wf = false := by decide +kernel
theorem test_wf_refuses_superblock : (Instr.patrolLate 32768).wf = false := by decide +kernel
theorem test_wf_refuses_cluster : (Instr.fwRollFailed 8).wf = false := by decide +kernel
theorem test_wf_refuses_sensor : (Instr.sensorFault 24).wf = false := by decide +kernel
theorem test_wf_refuses_vid : (Instr.dhcpLeaseLost 0 4096 false).wf = false := by decide +kernel
theorem test_wf_refuses_even_word : (Instr.eventEnableWrite 0 64 0).wf = false := by decide +kernel

/-! ## Drives and requests of the tests -/

/-- A completion says that the command runs. -/
theorem runs_of {i : Instr} {s : State} {P : Drive → Prop} (h : Completes i s P) : ∃ t, exec i s = .next t := h.imp fun _ h => h.1

/-- What evaluates to true holds. -/
theorem yes {p : Prop} [Decidable p] (h : decide p = true := by decide +kernel) : p := of_decide_eq_true h
/-- Of what is not there, everything holds. -/
theorem vac {α : Type} {o : Option α} {P : α → Prop} (h : o.isNone = true := by decide +kernel) : ∀ x, o = some x → P x := by
  rintro x rfl; cases h
theorem numbered {d : Drive} (h : decide (∀ p ∈ d.kv.shelf, p.1 < d.kv.shelfNext) = true := by decide +kernel) : d.ShelfNumbered :=
  show ∀ p ∈ d.kv.shelf, p.1 < d.kv.shelfNext from of_decide_eq_true h

/-- The state of a drive with nothing waiting; the command that answers a next state. -/
abbrev st (d : Drive) : State := { dev := d }
abbrev Runs (i : Instr) (s : State) : Prop := ∃ t, exec i s = .next t

/-- A drive that runs: rails up, ready, operational, unpaired; tenant 1 has a CURRENT storage key and namespace 5; session 10 is its. -/
def ready : Drive := {
  mod := { mainOn := true, auxOn := true, devState := 0xD5 }
  sec := { state := 0xA1 }
  time := { opNs := 0, opReserved := 2 ^ 36 }
  kv := {
    tenants := [1]
    nss := [(5, { state := 0x21, owner := 1, gen := 1, topGen := 1 })]
    durable := { reservedTick := 65536 } }
  keys := {
    root := true
    storage := [(2, { state := 0x39, key := .raw 7, serial := 3, reserved := 2 ^ 24 })]
    sessions := [(10, { state := 0x31, key := .raw 8 })] }
  twin := { reservedTick := 65536 }
  xp := { sessions := [(10, { state := 0x42, tenant := 1, pathA := { up := true }, idle := 0 })] } }

def hdr (op : Nat) : OpHdr := { opcode := op, rid := 1, tenant := 1, ns := 5, keyLen := 1, valueLen := 1 }
def o1 : Origin := .session 10 1
def req (op : Nat) (h : OpHdr := hdr op) (body : Bytes := [75, 86]) (ph : ReqPhase := .active) : Req :=
  { origin := o1, hdr := h, body := body, tag := { tenant := 1, deadline := 1000 }, phase := ph, serial := 3 }
def withReq (d : Drive) (r : Req) : Drive := { d with kv.reqs := [r] }
theorem ite_all {α : Type} {l : List α} {c A B : α → Prop} [DecidablePred c] (ha : ∀ x ∈ l, A x) (hb : ∀ x ∈ l, B x) :
    ∀ x ∈ l, if c x then A x else B x := by
  intro x hx
  split
  · exact ha x hx
  · exact hb x hx

/-! ## The spec's worked examples -/

/-- Scope and orientation, example of a work tag. -/
theorem test_work_tag : tagBytes { tenant := 42, ns := 261, session := 8000, keySlot := 65620, deadline := 0x12345678, durability := 1, qos := 2, kind := 2, last := true } =
    [0x02, 0xA0, 0x41, 0x47, 0xD0, 0x20, 0x0A, 0x80, 0x02, 0x46, 0x8A, 0xCF, 0x0A, 0x08, 0x00, 0x08] := by decide +kernel
/-- R12: deadlines wrap. -/
theorem test_deadline_wraps : passed 0 (2 ^ 40 - 1) = true ∧ passed 5 6 = false ∧ passed 6 6 = true := by decide +kernel
/-- Chapter 3, example of a fingerprint. -/
theorem test_fingerprint : primaryBucket 0x9C4107E25B3A0D1800000004A8F123C7 = 814244807 ∧ fpTag 0x9C4107E25B3A0D1800000004A8F123C7 = 0x5B3A0D18 ∧
    homeBit 0x9C4107E25B3A0D1800000004A8F123C7 = 1 := by decide +kernel
/-- Chapter 3, example of a token; the record's size in granules. -/
theorem test_token : tokenBytes { sb := 0x1A2B, gran := 0x4F20, len := 17, home := 1, reserved := false, ns := 300, epoch := 7, check := 0x5E91C207AB } =
    [0x34, 0x56, 0x00, 0x4F, 0x20, 0x00, 0x00, 0x11, 0x81, 0x2C, 0x07, 0x5E, 0x91, 0xC2, 0x07, 0xAB] ∧ granules 8 4096 = 17 := by decide +kernel
/-- Chapter 4, example of the geometry. -/
theorem test_geometry : stripeOf 20256 = 10 ∧ dataPageOf 20256 = 6 ∧ byteOf 20256 = 8192 ∧ parityChannel 10 = 10 ∧ channelOf 20256 = 17 := by decide +kernel
/-- Chapter 5, example of the hold-up measurement. -/
theorem test_holdup : ((({} : Drive).holdup 2400 25 false).media.shelfLimitMiB, (({} : Drive).holdup 2400 25 false).media.deltaLimitMiB) = (768, 576) := by decide +kernel
/-- Chapter 9, example of the multicast filter. -/
theorem test_mcast : mcastHash 0x01005E010203 = 605 := by decide +kernel
/-- Chapter 11, example of a tick's energy. -/
theorem test_share : (Drive.shareEnergy 1 40000 [{ tenant := 42, probes := 66 }, { tenant := 7, probes := 44 }]
    { kv := { nss := [(1, { owner := 42, used := 3 }), (2, { owner := 7, used := 1 })] }
      meter := { seen := [42, 7], wLaurel := 1 } }).meter.energyUj = [(7, 13300), (42, 26700)] := by decide +kernel
/-- Chapter 11, example of a meter record: its first 40 bytes. -/
theorem test_meter_record : (meterRecBytes { seq := 0x0B2F31A6, tenant := 42, powerCycles := 201, startOp := 0x00192F7A4C001E40, durationMs := 60000, startWall := 0x730976B9 * 1000000000 + 268844, wallEpoch := 7 }).take 40 =
    [0x00, 0x00, 0x0B, 0x2F, 0x31, 0xA6, 0x00, 0x2A, 0x01, 0x00, 0x00, 0x00, 0x00, 0xC9, 0x00, 0x19,
     0x2F, 0x7A, 0x4C, 0x00, 0x1E, 0x40, 0x00, 0x00, 0xEA, 0x60, 0x00, 0x00, 0x73, 0x09, 0x76, 0xB9,
     0x00, 0x04, 0x1A, 0x2C, 0x00, 0x00, 0x00, 0x07] := by decide +kernel

/-! ## Commands that find nothing to act on -/

/-- The state a command or a step answers. -/
def nextOf (o : Host.Outcome State Fault Refusal) : Option State :=
  match o with
  | .next t => some t
  | .fault _ => none
  | .refused _ => none

/-- A request that is not there, and a drive without power: nothing happens (log entry 5). -/
theorem test_no_request : nextOf (exec (.put o1) (st ready)) = some (st ready) := by decide +kernel
theorem test_no_power : nextOf (exec (.put o1) State.reset) = some State.reset := by decide +kernel
/-- The queue stays empty at reset, and no time passes without power. -/
theorem test_reset_idles : nextOf (step State.reset) = some State.reset := by decide +kernel

/-! ## Witnesses -/

def keyed : DirEnt := { ns := 5, key := [75], version := 7, place := .shelf 0, granules := 1 }
def keyRec : Rec := { ns := 5, tenant := 1, key := [75], value := [86], version := 7, gen := 1, serial := 3, nonce := 0 }
/-- `ready` with the key [75] held in the shelf at version 7. -/
def stored : Drive := { ready with
  kv.dir := [keyed], kv.shelf := [(0, { rec_ := keyRec })], kv.shelfNext := 1, kv.lastVersion := 7
  kv.nss := [(5, { state := 0x21, owner := 1, gen := 1, topGen := 1, used := 1, count := 1 })] }
def batchBody : Bytes := beBytes 2 1 ++ beBytes 6 0 ++ (beBytes 1 2 ++ beBytes 1 0 ++ beBytes 2 5 ++ beBytes 2 1 ++ beBytes 2 0 ++ beBytes 8 1 ++ beBytes 8 0) ++
  pad8 [76] ++ pad8 [86]
def batchMem : Member := { op := 2, flags := 0, ns := 5, key := [76], keyLen := 1, value := [86], valueLen := 1, condVersion := 0 }
def batchReq (op : Nat) (ph : ReqPhase := .active) : Req := req op { hdr op with valueLen := 48, keyLen := 0, ns := 0 } batchBody ph
def pingHdr : OpHdr := { hdr 0x43 with keyLen := 0, valueLen := 2 }
def listReq : Req := req 0x08 { hdr 0x08 with keyLen := 0, valueLen := 4096 } []
def getReq (ph : ReqPhase := .active) : Req := req 1 { hdr 1 with valueLen := 0 } [75] ph
def superD : Drive := { stored with kv.dir := [{ keyed with version := 6 }, { keyed with supersede := true }] }
theorem wit_WritesTakeEffect (H : Obligations.WritesTakeEffect) :
    Runs (.put o1) (st (withReq ready (req 2))) ∧
    Runs (.putCommit o1) (st (withReq ready (req 2 (ph := .sealed)))) ∧
    Runs (.delete o1) (st (withReq stored (req 3 { hdr 3 with valueLen := 0 }))) :=
  ⟨runs_of ((H.1 (st (withReq ready (req 2))) o1 (req 2) 2 (by constructor <;> decide +kernel) yes yes yes yes)),
    runs_of ((H.2.1 (st (withReq ready (req 2 (ph := .sealed)))) o1 (req 2 (ph := .sealed)) yes yes yes yes yes yes yes yes yes yes yes yes yes yes yes yes yes yes yes numbered)),
    runs_of ((H.2.2 (st (withReq stored (req 3 { hdr 3 with valueLen := 0 }))) o1 (req 3 { hdr 3 with valueLen := 0 }) 2 (by constructor <;> decide +kernel) yes yes yes yes yes yes yes yes numbered))⟩

theorem wit_ReadsAreAnswered (H : Obligations.ReadsAreAnswered) :
    Runs (.get o1) (st (withReq stored getReq)) ∧
    Runs (.getRange o1) (st (withReq stored (req 5))) ∧
    Runs (.existsKey o1) (st (withReq stored (req 4 { hdr 4 with valueLen := 0 }))) ∧
    Runs (.existsKey o1) (st (withReq stored { req 4 { hdr 4 with valueLen := 0 } with tag := { tenant := 1, deadline := 1000, kind := 0x11 } })) ∧
    Runs (.list o1) (st (withReq stored listReq)) ∧
    Runs (.ping o1) (st (withReq ready (req 0x43 pingHdr))) :=
  ⟨runs_of (((H.1 (st (withReq stored getReq)) o1 1 getReq keyed keyRec 0 (by constructor <;> decide +kernel) yes yes yes yes yes yes yes).1 yes yes)),
    runs_of (((H.1 (st (withReq stored (req 5))) o1 5 (req 5) keyed keyRec 0 (by constructor <;> decide +kernel) yes yes yes yes yes yes yes).2.1 yes yes)),
    runs_of (((H.1 (st (withReq stored (req 4 { hdr 4 with valueLen := 0 }))) o1 4 (req 4 { hdr 4 with valueLen := 0 }) keyed keyRec 0 (by constructor <;> decide +kernel) yes yes yes yes yes yes yes).2.2 yes)),
    runs_of (((H.1 (st (withReq stored { req 4 { hdr 4 with valueLen := 0 } with tag := { tenant := 1, deadline := 1000, kind := 0x11 } })) o1 4 { req 4 { hdr 4 with valueLen := 0 } with tag := { tenant := 1, deadline := 1000, kind := 0x11 } } keyed keyRec 0 (by constructor <;> decide +kernel) yes yes yes yes yes yes yes).2.2 yes)),
    runs_of (H.2.1 (st (withReq stored listReq)) o1 listReq (by constructor <;> decide +kernel) yes yes yes yes yes yes (fun e he _ => by obtain rfl := (List.mem_singleton (b := keyed)).mp he; exact ⟨yes, 0, rfl⟩)),
    runs_of ((H.2.2 (st (withReq ready (req 0x43 pingHdr))) o1 (req 0x43 pingHdr) (by constructor <;> decide +kernel) yes))⟩

theorem wit_DeadlinesAreTold (H : Obligations.DeadlinesAreTold) :
    Runs (.deadlineMissed o1) (st (withReq ready (req 2))) ∧
    Runs (.deadlineMissed o1) (st (withReq ready (req 2 (ph := .queued)))) ∧
    Runs (.deadlineMissed o1) (st (withReq ready (req 2 (ph := .sealed)))) ∧
    Runs (.deadlineMissed o1) (st ({ withReq ready (getReq .streaming) with kv.streams := [{ origin := o1, rec_ := keyRec, place := .shelf 0, next := 0, stop := 1, lo := 0, hi := 1, started := false }] })) ∧
    Runs (.deadlineMissed o1) (st (withReq ready (getReq .atTwin))) ∧
    Runs (.deadlineMissed o1) (st (withReq ready (batchReq 0x10))) ∧
    Runs (.deadlineMissed o1) (st (withReq ready (batchReq 0x11 .queued))) ∧
    Runs (.deadlineMissed o1) (st (withReq ready (batchReq 0x11))) ∧
    Runs (.deadlineMissed o1) (st (withReq ready { batchReq 0x11 with results := [{ applied := true, version := 9 }] })) :=
  ⟨runs_of (H.1 (st (withReq ready (req 2))) o1 (req 2) yes yes (Or.inr (Or.inl ⟨yes, yes⟩))),
    runs_of (H.1 (st (withReq ready (req 2 (ph := .queued)))) o1 (req 2 (ph := .queued)) yes yes (Or.inl yes)),
    runs_of (H.1 (st (withReq ready (req 2 (ph := .sealed)))) o1 (req 2 (ph := .sealed)) yes yes (Or.inr (Or.inr (Or.inl yes)))),
    runs_of (H.1 (st ({ withReq ready (getReq .streaming) with kv.streams := [{ origin := o1, rec_ := keyRec, place := .shelf 0, next := 0, stop := 1, lo := 0, hi := 1, started := false }] })) o1 (getReq .streaming) yes yes (Or.inr (Or.inr (Or.inr (Or.inl ⟨yes, _, rfl, yes⟩))))),
    runs_of (H.1 (st (withReq ready (getReq .atTwin))) o1 (getReq .atTwin) yes yes (Or.inr (Or.inr (Or.inr (Or.inr ⟨yes, yes, yes⟩))))),
    runs_of (H.1 (st (withReq ready (batchReq 0x10))) o1 (batchReq 0x10) yes yes (Or.inr (Or.inl ⟨yes, yes⟩))),
    runs_of (H.1 (st (withReq ready (batchReq 0x11 .queued))) o1 (batchReq 0x11 .queued) yes yes (Or.inl yes)),
    runs_of ((H.2 (st (withReq ready (batchReq 0x11))) o1 (batchReq 0x11) yes yes yes yes yes yes yes)),
    runs_of ((H.2 (st (withReq ready { batchReq 0x11 with results := [{ applied := true, version := 9 }] })) o1 { batchReq 0x11 with results := [{ applied := true, version := 9 }] } yes yes yes yes yes yes yes))⟩

theorem wit_WaitsAndConfirmationsEnd (H : Obligations.WaitsAndConfirmationsEnd) :
    Runs (.commitWaitExpiry 0) (st (ready)) ∧
    Runs (.commitWaitExpiry 5) (st ({ withReq ready { req 2 (ph := .waiting) with version := 5, needWait := true } with kv.lastVersion := 5 })) ∧
    Runs (.supersedeConfirm 5 [75]) (st (superD)) ∧
    Runs (.supersedeConfirm 5 [75]) (st (withReq superD { req 2 (ph := .waiting) with version := 7 })) :=
  ⟨runs_of ((H.1 (st (ready)) 0 yes yes)),
    runs_of ((H.1 (st ({ withReq ready { req 2 (ph := .waiting) with version := 5, needWait := true } with kv.lastVersion := 5 })) 5 yes yes)),
    runs_of (((H.2 (st (superD)) 5 [75] { keyed with supersede := true } yes yes).1 yes)),
    runs_of (((H.2 (st (withReq superD { req 2 (ph := .waiting) with version := 7 })) 5 [75] { keyed with supersede := true } yes yes).2 yes))⟩

theorem wit_BatchesAnswer (H : Obligations.BatchesAnswer) :
    Runs (.batch o1) (st (withReq ready (batchReq 0x11))) ∧
    Runs (.batch o1) (st (withReq ready (batchReq 0x11))) ∧
    Runs (.batchAtomic o1) (st (withReq ready (batchReq 0x10))) :=
  ⟨runs_of ((H.1 (st (withReq ready (batchReq 0x11))) o1 (batchReq 0x11) (by constructor <;> decide +kernel) yes yes yes yes)),
    runs_of (H.2.1 (st (withReq ready (batchReq 0x11))) o1 (batchReq 0x11) batchMem 2 (by constructor <;> decide +kernel) yes yes yes yes yes yes (by intro k; unfold Drive.memberCheck; split <;> decide +kernel) yes yes yes yes yes yes yes),
    runs_of ((H.2.2 (st (withReq ready (batchReq 0x10))) o1 (batchReq 0x10) (by constructor <;> decide +kernel) yes yes yes yes yes yes yes yes yes yes))⟩

def relocBody : Bytes := beBytes 5 (locBits 9 4) ++ beBytes 3 1 ++ beBytes 2 5 ++ beBytes 1 2 ++ beBytes 5 0
def relocReq : Req := req 0x22 { hdr 0x22 with keyLen := 0, valueLen := 16 } relocBody
/-- The located record of namespace 5 at granule 4 of superblock 9, and its token. -/
def locRec : Rec := { ns := 5, tenant := 1, key := [], value := [86, 87], version := 7, gen := 1, serial := 3, nonce := 0, located := true }
def tok0 : Token := { sb := 9, gran := 4, len := 1, home := 0, reserved := false, ns := 5, epoch := 0, check := 0 }
def tok : Token := { tok0 with check := tokenCheck (.raw 21) tok0 }
def tokReq (op : Nat) : Req := req op { hdr op with keyLen := 0, valueLen := 2 * (1 - (op - 0x20)) } (tokenHead tok0 ++ beBytes 5 tok.check)
def located : Drive := { ready with
  kv.nss := [(5, { state := 0x21, owner := 1, gen := 1, topGen := 1, located := true, solo := true, quota := 9, used := 1, count := 1 })]
  kv.live := [(9, 4)], kv.locatorKey := .raw 21, media.sbs := [(9, { state := 3, seq := 1, wptr := 5, recs := [(4, locRec)] })] }
theorem tok_parse (x : Nat) (h : x < 2 ^ 40) : parseToken (tokenHead tok0 ++ beBytes 5 x) = { tok0 with check := x } := by
  have c : field 11 5 (tokenHead tok0 ++ beBytes 5 x) = beNat (beBytes 5 x) := by
    simp [field, slice, tokenHead, beBytes]
  have e : parseToken (tokenHead tok0 ++ beBytes 5 x) = { tok0 with check := field 11 5 (tokenHead tok0 ++ beBytes 5 x) } := by
    simp [parseToken, field, slice, tokenHead, beBytes, tok0, locBits, beNat, b2n, bit]
  rw [e, c]
  simp only [beBytes, beNat, List.foldl_cons, List.foldl_nil, BitVec.toNat_ofNat]
  simp only [Token.mk.injEq, true_and, and_self, and_true]
  omega
theorem tok_record (d : Drive) (op : Nat) (h : d.kv.locatorKey = .raw 21)
    (g : (if !(d.nsOwned 5 1 && (d.ns 5).located && (5 == (tokReq op).hdr.ns)) then none
      else match d.resolveToken tok0 with
        | none => none
        | some (sb, gran) =>
          match d.recAt (.media sb gran) with
          | none => none
          | some rec_ => if rec_.ns = 5 ∧ recGranules rec_ = 1 ∧ d.locLive sb gran rec_ = true then some (sb, gran, rec_) else none) = some (9, 4, locRec)) :
    d.tokenRecord (tokReq op) 1 (parseToken (tokReq op).body) = some (9, 4, locRec) := by
  rw [show parseToken (tokReq op).body = tok from tok_parse _ (Nat.mod_lt _ (by decide))]
  unfold Drive.tokenRecord
  rw [if_neg (by decide), h, if_neg (fun hn => hn rfl)]
  exact g
def locStored : Drive := { located with kv.shelf := [(0, { rec_ := locRec, target := some (9, 4) })], kv.shelfNext := 1 }
/-- A blob of a session's wire key for tenant 1, and the frames of session 10 and 11. -/
def wireBlob : Blob := { kind := 4, tenant := 1, wrappedUnder := .raw 5, key := .raw 9, saltH2d := 1, saltD2h := 2 }
def wrapped : Drive := { ready with keys.wraps := [(1, .raw 5)] }
def openF : Frame := { ftype := 3, headerLen := 96, sid := 11, assigned := 11, size := 300, sealedUnder := openKey (.raw 9) 11, op := { opcode := 0x40, rid := 1, tenant := 1, offset := 11, valueLen := 112 } }
def openReq : Req := { origin := .session 0 1, hdr := { opcode := 0x40, rid := 1, tenant := 1, offset := 11, valueLen := 112 }, phase := .active }
def closeReq (own : Nat) : Req := { origin := .session own 1, hdr := { opcode := 0x41, rid := 1, offset := 10 }, phase := .active }
def withSess (x : Session) : Drive := { ready with xp.sessions := [(10, x)] }
def openS : Session := { state := 0x42, tenant := 1, pathA := { up := true } }
def granted : SessionParams := { tolerance := 65535, idle := 30, maxFrame := 9088, paths := 1 }
theorem wit_LocatedOperations (H : Obligations.LocatedOperations) :
    Runs (.locGet o1) (st (withReq located (tokReq 0x20))) ∧
    Runs (.locGet o1) (st (withReq locStored (tokReq 0x20))) ∧
    Runs (.locDelete o1) (st (withReq located (tokReq 0x21))) ∧
    Runs (.relocAck o1) (st (withReq { ready with kv.fwd := [{ oldSb := 9, oldGran := 4, oldEpoch := 2, newSb := 8, newGran := 0, newEpoch := 0, ns := 5, granules := 1 }] } relocReq)) :=
  ⟨runs_of ((H.1 (st (withReq located (tokReq 0x20))) o1 (tokReq 0x20) 9 4 locRec _ ⟨yes, rfl, yes, yes, yes⟩ yes yes yes yes (tok_record _ _ yes yes) yes yes rfl)),
    runs_of ((H.1 (st (withReq locStored (tokReq 0x20))) o1 (tokReq 0x20) 9 4 locRec _ ⟨yes, rfl, yes, yes, yes⟩ yes yes yes yes (tok_record _ _ yes yes) yes yes rfl)),
    runs_of ((H.2.1 (st (withReq located (tokReq 0x21))) o1 (tokReq 0x21) 9 4 2 locRec ⟨yes, rfl, yes, yes, yes⟩ yes yes yes yes (tok_record _ _ yes yes) yes yes yes yes yes)),
    runs_of (H.2.2 (st (withReq { ready with kv.fwd := [{ oldSb := 9, oldGran := 4, oldEpoch := 2, newSb := 8, newGran := 0, newEpoch := 0, ns := 5, granules := 1 }] } relocReq)) o1 relocReq 1 (fun e => decide (e.ns = 5) && (tokensOf 256 relocBody).any (fun t => t.sb == e.oldSb && t.gran == e.oldGran && t.epoch == e.oldEpoch && t.home == e.homeBit && t.ns == e.ns)) (by constructor <;> decide +kernel) yes yes yes yes (Or.inr yes) (by intro e; simp [relocReq, req, hdr, List.any_eq_true]; grind))⟩

def dataF : Frame := { ftype := 1, first := true, last := true, headerLen := 96, sid := 10, assigned := 10, size := 300, sealedUnder := .raw 8, window := 5000, op := { opcode := 0x43, rid := 3, tenant := 1 } }
def ackF : Frame := { ftype := 2, headerLen := 32, sid := 10, assigned := 10, size := 64, sealedUnder := .raw 8, seq := 2 ^ 63 }
def waitingReq : Req := { req 2 with phase := .queued }
def txF : TxFrame := { seq := 4, path := 0, phase := 0, first := true, last := true, rid := 1, payload := [1], sent := true }
theorem wit_SessionsOpenAndEnd (H : Obligations.SessionsOpenAndEnd) :
    Runs (.openFrame openF wireBlob {}) (st (wrapped)) ∧
    Runs (.sessionOpen (.session 0 1) wireBlob {}) (st (withReq wrapped openReq)) ∧
    Runs (.sessionOpen (.sideband 4 1) wireBlob {}) (st (withReq { wrapped with sec.spdm := [(4, { phase := 1, operator := true })] } { openReq with origin := .sideband 4 1 })) ∧
    Runs (.sessionClose (.session 0 1)) (st (withReq ready (closeReq 0))) ∧
    Runs (.sessionClose (.session 10 1)) (st (withReq ready (closeReq 10))) ∧
    Runs (.idleTimeout 10) (st (withSess openS)) ∧
    Runs (.openingTimeout 10) (st (withSess { openS with state := 0x41 })) ∧
    Runs (.drainComplete 10) (st (withSess { openS with state := 0x43 })) ∧
    Runs (.drainingTimeout 10) (st (withSess { openS with state := 0x43 })) :=
  ⟨runs_of ((H.1.1 (st (wrapped)) openF wireBlob {} granted yes yes yes yes yes yes yes yes yes yes yes yes yes yes yes)),
    runs_of ((H.1.2 (st (withReq wrapped openReq)) (.session 0 1) wireBlob {} granted openReq 11 (by constructor <;> decide +kernel) yes yes yes yes yes yes yes yes yes yes yes)),
    runs_of ((H.1.2 (st (withReq { wrapped with sec.spdm := [(4, { phase := 1, operator := true })] } { openReq with origin := .sideband 4 1 })) (.sideband 4 1) wireBlob {} granted { openReq with origin := .sideband 4 1 } 11 (by constructor <;> decide +kernel) yes yes yes yes yes yes yes yes yes yes yes)),
    runs_of ((H.2.1 (st (withReq ready (closeReq 0))) (.session 0 1) 10 (closeReq 0) (by constructor <;> decide +kernel) yes yes yes)),
    runs_of ((H.2.1 (st (withReq ready (closeReq 10))) (.session 10 1) 10 (closeReq 10) (by constructor <;> decide +kernel) yes yes yes)),
    runs_of ((H.2.2.1 (st (withSess openS)) 10 yes yes)),
    runs_of ((H.2.2.2.1 (st (withSess { openS with state := 0x41 })) 10 yes yes)),
    runs_of ((H.2.2.2.2.1 (st (withSess { openS with state := 0x43 })) 10 yes yes yes yes yes)),
    runs_of ((H.2.2.2.2.2 (st (withSess { openS with state := 0x43 })) 10 yes yes))⟩

theorem wit_FramesAndAdmission (H : Obligations.FramesAndAdmission) :
    Runs (.dataFrame dataF) (st (withSess { openS with state := 0x41 })) ∧
    Runs (.ackFrame ackF) (st (ready)) ∧
    Runs (.shearsAdmit 0) (st ({ withReq ready waitingReq with xp.shapers := [(1, { resOps := 1000 })] })) :=
  ⟨runs_of ((H.1.1 (st (withSess { openS with state := 0x41 })) dataF yes yes yes yes yes yes yes yes yes yes yes yes)),
    runs_of ((H.1.2 (st (ready)) ackF yes yes yes yes yes yes yes yes yes)),
    runs_of (H.2 (st ({ withReq ready waitingReq with xp.shapers := [(1, { resOps := 1000 })] })) 0 waitingReq yes yes yes yes yes yes yes)⟩

def rekeyReq (o : Origin) : Req := { origin := o, hdr := { opcode := 0x42, rid := 1, tenant := 1, offset := 10 }, phase := .active }
theorem wit_SessionTimers (H : Obligations.SessionTimers) :
    Runs (.ackDelayExpiry 10) (st (withSess { openS with ackDue := some 500 })) ∧
    Runs (.keepAlive 10 0) (st (ready)) ∧
    Runs (.windowReopenAck 10) (st (withSess { openS with reopenUntil := 1000000 })) ∧
    Runs (.retransmissionTimeout 10 0) (st (withSess { openS with unacked := [txF] })) ∧
    Runs (.pathSilence 10 0) (st (withSess { openS with pathB := { up := true, lastVerified := 9 } })) :=
  ⟨runs_of ((H.1 (st (withSess { openS with ackDue := some 500 })) 10 500 yes yes yes yes yes)),
    runs_of ((H.2.1 (st (ready)) 10 0 yes yes yes yes yes)),
    runs_of ((H.2.2.1 (st (withSess { openS with reopenUntil := 1000000 })) 10 yes yes yes yes yes yes)),
    runs_of ((H.2.2.2.1 (st (withSess { openS with unacked := [txF] })) 10 0 txF yes yes yes)),
    runs_of ((H.2.2.2.2 (st (withSess { openS with pathB := { up := true, lastVerified := 9 } })) 10 0 yes yes yes yes yes))⟩

theorem wit_SessionKeysChange (H : Obligations.SessionKeysChange) :
    Runs (.sessionRekey (.session 10 1) wireBlob) (st (withReq wrapped (rekeyReq (.session 10 1)))) ∧
    Runs (.sessionRekey (.session 0 1) wireBlob) (st (withReq wrapped (rekeyReq (.session 0 1)))) ∧
    Runs (.keyPhaseRetire 10) (st ({ ready with keys.sessions := [(10, { state := 0x32, key := .raw 8, oldKey := .raw 9 })] })) ∧
    Runs (.rekeyRequired 10 true) (st ({ ready with keys.sessions := [(10, { state := 0x31, key := .raw 8, framesIn := 2 ^ 48 - 2 ^ 32 })] })) ∧
    Runs (.sessionExhausted 10 true) (st ({ ready with keys.sessions := [(10, { state := 0x32, key := .raw 8, framesIn := 2 ^ 48 })] })) :=
  ⟨runs_of ((H.1 (st (withReq wrapped (rekeyReq (.session 10 1)))) (.session 10 1) 10 wireBlob (rekeyReq (.session 10 1)) (by constructor <;> decide +kernel) yes yes yes yes yes yes yes yes)),
    runs_of ((H.1 (st (withReq wrapped (rekeyReq (.session 0 1)))) (.session 0 1) 10 wireBlob (rekeyReq (.session 0 1)) (by constructor <;> decide +kernel) yes yes yes yes yes yes yes yes)),
    runs_of ((H.2.1 (st ({ ready with keys.sessions := [(10, { state := 0x32, key := .raw 8, oldKey := .raw 9 })] })) 10 yes yes)),
    runs_of ((H.2.2.1 (st ({ ready with keys.sessions := [(10, { state := 0x31, key := .raw 8, framesIn := 2 ^ 48 - 2 ^ 32 })] })) 10 true yes yes yes yes)),
    runs_of ((H.2.2.2 (st ({ ready with keys.sessions := [(10, { state := 0x32, key := .raw 8, framesIn := 2 ^ 48 })] })) 10 true yes yes yes))⟩

/-- `stored` with a live twin, in twin state `n`. -/
def twinned (n : Nat) : Drive := { stored with
  twin := { state := n, prior := 2, role := some 0, serial := 77, linkUp := true, authenticated := true, reservedTick := 65536, resGranules := 100, resEntries := 100 }
  port.ports := [(2, { link := 4, speed := 400, localUse := .used })] }
def otw : Origin := .twin 40
def delHdr : OpHdr := { hdr 3 with valueLen := 0 }
def exHdr : OpHdr := { hdr 4 with valueLen := 0 }
def twTag : WorkTag := { tenant := 1, ns := 5 }
def fwd1 (h : OpHdr) : Drive := ((twinned 4).awaken.takeRing 2 1).addForward 40 1000 twTag h [76]
def fwdDel : Drive := ((twinned 4).awaken.takeRing 2 1).addForward 40 1000 twTag delHdr [75]
def fwdReq (h : OpHdr) (b : Bytes) : Req := { origin := otw, hdr := h, body := b, tag := { twTag with deadline := 1000, twin := true, kind := 0x19 }, input := 2, phase := .active, opId := 40 }
def outOp (code : Nat) (body : TwinBody) (o : Option Origin) : TwinOp := { opId := 50, msg := { code := code, opId := 50, body := body }, origin := o }
def asked (n : Nat) (r : Req) : Drive := { withReq (twinned n) r with twin.out := [outOp 0x11 (.write {} r.hdr r.body) (some o1)] }
def pendingD : Drive := { twinned 2 with kv.dir := [{ keyed with pending := true }], twin.out := [outOp 0x16 (.mirror [keyRec]) none] }
def exBatch : Bytes := beBytes 2 1 ++ beBytes 6 0 ++ (beBytes 1 3 ++ beBytes 1 0 ++ beBytes 2 5 ++ beBytes 2 1 ++ beBytes 2 0 ++ beBytes 8 0 ++ beBytes 8 0) ++ pad8 [75]
def crossReq (p : ReqPhase) : Req := { req 0x10 { hdr 0x10 with keyLen := 0, valueLen := 40, ns := 0 } exBatch p with opId := 50, replyHdr := { txn := 9 } }
def cross (p : ReqPhase) : Drive := { withReq (twinned 2) (crossReq p) with kv.holds := [{ ns := 5, key := [75], txn := 9, coordinator := true }], twin.out := [outOp 0x18 .none (some o1)] }
def preparedD : Drive := { twinned 2 with
  kv.prepared := [{ txn := 9, opId := 60, members := [], hdr := {}, tag := {} }], kv.holds := [{ ns := 5, key := [75], txn := 9, coordinator := false }] }
theorem unheld_any (d : Drive) (ms : List Member) (h : d.kv.holds = []) : ms.any (fun m => d.isHome m.ns m.key && d.held m.ns m.key) = false := by
  simp [Drive.held, h]
theorem wit_TwinCarriesWrites (H : Obligations.TwinCarriesWrites) :
    Runs (.fwdWrite 40 1000 twTag delHdr [75]) (st (twinned 4)) ∧
    Runs (.fwdRead 40 1000 twTag exHdr [76]) (st (twinned 4)) ∧
    Runs (.fwdReply 50 {} []) (st (asked 2 (req 4 exHdr [75] .atTwin))) ∧
    Runs (.fwdData 50 0 [1, 2]) (st (asked 2 (req 1 { hdr 1 with valueLen := 0 } [75] .streaming))) ∧
    Runs (.mirror 40 0 9 31 false [1] []) (st (twinned 2)) ∧
    Runs (.mirror 40 0 9 31 true [] [{ keyRec with version := 9 }]) (st (twinned 2)) ∧
    Runs (.mirrorAck 50 true) (st (pendingD)) :=
  ⟨runs_of ((H.1.1 (st (twinned 4)) 40 1000 twTag delHdr [75] (fwdReq delHdr [75]) 2 fwdDel (by constructor <;> decide +kernel) rfl yes yes (by constructor <;> decide +kernel) yes yes yes yes yes yes)),
    runs_of ((H.1.2.1 (st (twinned 4)) 40 1000 twTag exHdr [76] (fwdReq exHdr [76]) (fwd1 exHdr) (by constructor <;> decide +kernel) rfl yes yes (by constructor <;> decide +kernel) yes yes yes)),
    runs_of ((H.1.2.2.1 (st (asked 2 (req 4 exHdr [75] .atTwin))) 50 {} [] (outOp 0x11 (.write {} exHdr [75]) (some o1)) o1 (req 4 exHdr [75] .atTwin) (by constructor <;> decide +kernel) yes yes yes yes yes yes yes)),
    runs_of ((H.1.2.2.2 (st (asked 2 (req 1 { hdr 1 with valueLen := 0 } [75] .streaming))) 50 0 [1, 2] (outOp 0x11 (.write {} { hdr 1 with valueLen := 0 } [75]) (some o1)) o1 (req 1 { hdr 1 with valueLen := 0 } [75] .streaming) (by constructor <;> decide +kernel) yes yes yes yes)),
    runs_of ((H.2.1 (st (twinned 2)) 40 0 9 31 [1] { keyRec with version := 9 } (by constructor <;> decide +kernel) yes yes yes yes (fun h => absurd h (by decide))).1),
    runs_of ((H.2.1 (st (twinned 2)) 40 0 9 31 [] { keyRec with version := 9 } (by constructor <;> decide +kernel) yes yes yes yes (fun h => absurd h (by decide))).2),
    runs_of ((H.2.2 (st (pendingD)) 50 true (outOp 0x16 (.mirror [keyRec]) none) [keyRec] (by constructor <;> decide +kernel) yes yes))⟩

theorem wit_TwinBatches (H : Obligations.TwinBatches) :
    Runs (.prepare 40 9 twTag {} exBatch [(3, 0)]) (st (twinned 2)) ∧
    Runs (.commit 60 9 160) (st (preparedD)) ∧
    Runs (.abort 9) (st (preparedD)) ∧
    Runs (.prepared 9 [{}]) (st (cross .coordinating)) ∧
    Runs (.committed 9) (st (cross .decided)) ∧
    Runs (.refused 9) (st (cross .coordinating)) ∧
    Runs (.prepareTimeout 9) (st (cross .coordinating)) :=
  ⟨runs_of ((H.1.1 (st (twinned 2)) 40 9 twTag {} exBatch [(3, 0)] (by constructor <;> decide +kernel) yes yes (unheld_any _ _ rfl))),
    runs_of ((H.1.2.1 (st (preparedD)) 60 9 160 { txn := 9, opId := 60, members := [], hdr := {}, tag := {} } (by constructor <;> decide +kernel) yes)),
    runs_of ((H.1.2.2 (st (preparedD)) 9 (by constructor <;> decide +kernel))),
    runs_of (H.2.1 (st (cross .coordinating)) 9 [{}] (crossReq .coordinating) ((cross .coordinating).awaken.takeRing 2 1) ((cross .coordinating).awaken.takeRing 2 1) (by constructor <;> decide +kernel) yes rfl
  (fun m hm _ => (yes : ∀ m ∈ parseMembers (crossReq .coordinating).body, ((cross .coordinating).awaken.takeRing 2 1).memberCheck (crossReq .coordinating) (((cross .coordinating).awaken.takeRing 2 1).originTenant (crossReq .coordinating)) m 12 = none) m hm) (fun p hp _ => (yes : ∀ p ∈ (parseMembers (crossReq .coordinating).body).zip [({} : MemberResult)], p.2.status = 0) p hp) (by generalize Drive.isHome _ = f; simp only [show parseMembers (crossReq .coordinating).body = [{ op := 3, flags := 0, ns := 5, key := [75], keyLen := 1, value := [], valueLen := 0, condVersion := 0 }] from by decide +kernel, List.map]; cases f 5 [75] <;> decide +kernel) yes yes yes),
    runs_of ((H.2.2.1 (st (cross .decided)) 9 (crossReq .decided) (by constructor <;> decide +kernel) yes)),
    runs_of ((H.2.2.2.1 (st (cross .coordinating)) 9 (crossReq .coordinating) (by constructor <;> decide +kernel) yes)),
    runs_of ((H.2.2.2.2 (st (cross .coordinating)) 9 (crossReq .coordinating) yes yes yes yes))⟩

def adoptReq : Req := { origin := .session 0 1, hdr := { opcode := 0x88, rid := 1, valueLen := 16 }, body := beBytes 16 77, phase := .active }
def releaseReq : Req := { origin := .session 0 1, hdr := { opcode := 0x89, rid := 1 }, phase := .active }
def greeting : HelloBody := { pairId := 0, younger := true, epoch := 3, state := 3, tick := 5, resyncPoint := some 0, counts := [] }
def adopted : Adoption := { serial := 77, younger := true, directoryKey := .raw 2, pairId := 6, keks := [], wraps := [], slots := [], resync := true }
theorem wit_TwinLiveness (H : Obligations.TwinLiveness) :
    Runs (.heartbeat 4 0 0 0 6) (st (twinned 2)) ∧
    Runs (.heartbeatSend) (st (twinned 2)) ∧
    Runs (.heartbeatSilence) (st (twinned 2)) ∧
    Runs (.twinLinkDownTimeout) (st ({ twinned 2 with twin.linkUp := false })) ∧
    Runs (.joiningTimeout) (st ({ twinned 1 with twin.prior := 3 })) ∧
    Runs (.twinLinkUp 77 true false false (.raw 3)) (st (twinned 3)) :=
  ⟨runs_of ((H.1 (st (twinned 2)) 4 0 0 0 6 (by constructor <;> decide +kernel))),
    runs_of ((H.2.1 (st (twinned 2)) (by constructor <;> decide +kernel) yes yes yes)),
    runs_of ((H.2.2.1 (st (twinned 2)) yes yes)),
    runs_of ((H.2.2.2.1 (st ({ twinned 2 with twin.linkUp := false })) yes yes yes)),
    runs_of ((H.2.2.2.2.1 (st ({ twinned 1 with twin.prior := 3 })) yes yes yes)),
    runs_of ((H.2.2.2.2.2 (st (twinned 3)) false false (.raw 3) yes yes yes yes))⟩

theorem wit_TwinPairs (H : Obligations.TwinPairs) :
    Runs (.hello greeting false) (st ({ twinned 1 with twin.prior := 3 })) ∧
    Runs (.hello greeting true) (st ({ twinned 1 with twin.prior := 3 })) ∧
    Runs (.resyncData [{ keyRec with version := 9 }] none none [] 31) (st (twinned 6)) ∧
    Runs (.homeReturn 99) (st (twinned 6)) ∧
    Runs (.twinAdopt (.session 0 1) none) (st (withReq { ready with twin.linkUp := true, twin.seenSerial := 77, twin.seenUnpaired := true, twin.seenEmpty := true } adoptReq)) ∧
    Runs (.twinAdopt (.session 0 1) (some adopted)) (st ({ ready with twin.linkUp := true, twin.seenSerial := 77, kv.nss := [] })) ∧
    Runs (.twinRelease (.session 0 1)) (st (withReq (twinned 3) releaseReq)) ∧
    Runs (.twinRelease (.session 0 1)) (st (withReq (twinned 5) { releaseReq with hdr := { opcode := 0x89, rid := 1, flags := 1 } })) :=
  ⟨runs_of ((H.1 (st ({ twinned 1 with twin.prior := 3 })) greeting 0 (by constructor <;> decide +kernel) yes yes yes yes yes yes)),
    runs_of ((H.2.1 (st ({ twinned 1 with twin.prior := 3 })) greeting (by constructor <;> decide +kernel) yes yes yes yes)),
    runs_of ((H.2.2.1 (st (twinned 6)) [{ keyRec with version := 9 }] none none [] 31 (by constructor <;> decide +kernel) yes yes)),
    runs_of ((H.2.2.2.1 (st (twinned 6)) 99 (by constructor <;> decide +kernel) yes yes)),
    runs_of ((H.2.2.2.2.1 (st (withReq { ready with twin.linkUp := true, twin.seenSerial := 77, twin.seenUnpaired := true, twin.seenEmpty := true } adoptReq)) (.session 0 1) adoptReq (by constructor <;> decide +kernel) yes yes yes yes yes yes yes yes)),
    runs_of ((H.2.2.2.2.2.1 (st ({ ready with twin.linkUp := true, twin.seenSerial := 77, kv.nss := [] })) (.session 0 1) adopted yes yes yes yes yes)),
    runs_of (H.2.2.2.2.2.2 (st (withReq (twinned 3) releaseReq)) (.session 0 1) releaseReq (by constructor <;> decide +kernel) yes (Or.inl yes)),
    runs_of (H.2.2.2.2.2.2 (st (withReq (twinned 5) { releaseReq with hdr := { opcode := 0x89, rid := 1, flags := 1 } })) (.session 0 1) { releaseReq with hdr := { opcode := 0x89, rid := 1, flags := 1 } } (by constructor <;> decide +kernel) yes (Or.inr ⟨yes, yes⟩))⟩

theorem wit_TwinServices (H : Obligations.TwinServices) :
    Runs (.reserveReq 10 5) (st (twinned 2)) ∧
    Runs (.reserveGrant 10 5) (st (twinned 2)) ∧
    Runs (.chunkFetch 40 5 1 7 0 false) (st (twinned 2)) ∧
    Runs (.tableChange 40 3 (.tenantCreate 2)) (st (twinned 2)) ∧
    Runs (.tableAck 50 3) (st ({ twinned 2 with kv.changes := [{ seq := 3, change := .tenantCreate 2, origin := o1, hdr := {}, needAck := true, needDrain := true }] })) :=
  ⟨runs_of ((H.1 (st (twinned 2)) 10 5 (by constructor <;> decide +kernel))),
    runs_of ((H.2.1 (st (twinned 2)) 10 5 (by constructor <;> decide +kernel))),
    runs_of ((H.2.2.1 (st (twinned 2)) 40 5 1 7 0 false (by constructor <;> decide +kernel) yes)),
    runs_of ((H.2.2.2.1 (st (twinned 2)) 40 3 2 (by constructor <;> decide +kernel) yes)),
    runs_of ((H.2.2.2.2 (st ({ twinned 2 with kv.changes := [{ seq := 3, change := .tenantCreate 2, origin := o1, hdr := {}, needAck := true, needDrain := true }] })) 50 3 (by constructor <;> decide +kernel)))⟩

/-- `twinned` on the ring: position 2, its twin at 3, the neighbour at 9 reached to the east. -/
def ringed (n : Nat) : Drive := { twinned n with
  mod := { mainOn := true, auxOn := true, devState := 0xD5, slotId := 2 }, keys := { (twinned n).keys with system := [(73732, { state := 0x3D, key := .raw 4 })], ringSenders := [(9, 1, 1, 1)] }
  ring.east := { up := true, reach := 512 }, port.ports := [(2, { link := 4, speed := 400, localUse := .used }), (3, { link := 4, speed := 200 }), (4, { link := 4, speed := 200 })] }
def witnessing (w : WitnessRec) : Drive := { ringed 2 with ring.served := [(4, w)] }
def seeking (n : Nat) : Drive := { ringed n with twin.witness := 9 }
def sidebandWit : Drive := { twinned 3 with twin.witness := 0x3E }
def passing (hops : Nat) : RingFrame := { code := 0x11, dest := 9, src := 3, hops := hops, cls := 1, seq := 8, east := false }
theorem wit_LeasesAreServed (H : Obligations.LeasesAreServed) :
    Runs (.leaseReq 9 1 4) (st (ringed 2)) ∧
    Runs (.probe 9 1) (st (ringed 2)) ∧
    Runs (.probeAnswer 9 1) (st (witnessing { pend := [(8, 3), (9, 3)] })) ∧
    Runs (.witnessProbeTick 4) (st (witnessing { pend := [(8, 3)] })) ∧
    Runs (.witnessGrantHold 9) (st (witnessing { pend := [(9, 3)] })) ∧
    Runs (.witnessFreezeEnd) (st ({ ringed 2 with ring.freezeUntil := 900 })) ∧
    Runs (.clear 9 1) (st (ringed 2)) ∧
    Runs (.leaseAssert 9 1 4) (st (ringed 2)) ∧
    Runs (.leaseRelease 9 1) (st (witnessing { holder := some 9, fenced := some 8 })) ∧
    Runs (.leaseGrant 9 1 4) (st (seeking 3)) ∧
    Runs (.leaseDeny 9 1 0) (st (seeking 3)) ∧
    Runs (.leaseDeny 9 1 1) (st (seeking 3)) ∧
    Runs (.fencedNotice 9 1) (st (seeking 3)) ∧
    Runs (.cleared 9 1) (st (seeking 3)) ∧
    Runs (.leaseReqResend) (st (seeking 3)) ∧
    Runs (.clearSend) (st (seeking 3)) ∧
    Runs (.clearanceLapse) (st ({ seeking 3 with twin.clearance := true, twin.clearUntil := 70 })) ∧
    Runs (.leaseAssertSend) (st (seeking 4)) :=
  ⟨runs_of ((H.1.1 (st (ringed 2)) 9 1 4 (by constructor <;> decide +kernel) yes yes)),
    runs_of ((H.1.2.1 (st (ringed 2)) 9 1 true (by constructor <;> decide +kernel) (by constructor <;> decide +kernel))),
    runs_of ((H.1.2.2.1 (st (witnessing { pend := [(8, 3), (9, 3)] })) 9 1 (by constructor <;> decide +kernel))),
    runs_of ((H.1.2.2.2.1 (st (witnessing { pend := [(8, 3)] })) 4 { pend := [(8, 3)] } yes yes yes)),
    runs_of ((H.1.2.2.2.2.1 (st (witnessing { pend := [(9, 3)] })) 9 3 yes yes yes)),
    runs_of ((H.1.2.2.2.2.2.1 (st ({ ringed 2 with ring.freezeUntil := 900 })) yes)),
    runs_of ((H.1.2.2.2.2.2.2.1 (st (ringed 2)) 9 1 true (by constructor <;> decide +kernel) (by constructor <;> decide +kernel) yes)),
    runs_of ((H.1.2.2.2.2.2.2.2.1 (st (ringed 2)) 9 1 4 (by constructor <;> decide +kernel) yes yes)),
    runs_of ((H.1.2.2.2.2.2.2.2.2 (st (witnessing { holder := some 9, fenced := some 8 })) 9 1 (by constructor <;> decide +kernel) yes)),
    runs_of ((H.2.1 (st (seeking 3)) 9 1 4 (by constructor <;> decide +kernel) yes yes)),
    runs_of (((H.2.2.1 (st (seeking 3)) 9 1 (by constructor <;> decide +kernel) yes yes).1)),
    runs_of (((H.2.2.1 (st (seeking 3)) 9 1 (by constructor <;> decide +kernel) yes yes).2.1)),
    runs_of (((H.2.2.1 (st (seeking 3)) 9 1 (by constructor <;> decide +kernel) yes yes).2.2.1)),
    runs_of (((H.2.2.1 (st (seeking 3)) 9 1 (by constructor <;> decide +kernel) yes yes).2.2.2)),
    runs_of (((H.2.2.2.1 (st (seeking 3)) yes yes yes).1)),
    runs_of (((H.2.2.2.1 (st (seeking 3)) yes yes yes).2)),
    runs_of ((H.2.2.2.2.1 (st ({ seeking 3 with twin.clearance := true, twin.clearUntil := 70 })) yes yes)),
    runs_of ((H.2.2.2.2.2 (st (seeking 4)) yes yes yes))⟩

theorem wit_HedgerowAndWitness (H : Obligations.HedgerowAndWitness) :
    Runs (.witnessGrant 0) (st (sidebandWit)) ∧
    Runs (.witnessFence 0) (st (sidebandWit)) ∧
    Runs (.witnessClear 0) (st (sidebandWit)) ∧
    Runs (.witnessWrite 1 9) (st (twinned 2)) ∧
    Runs (.ringHello 9 true true 0 5 6 7 512) (st (ringed 2)) ∧
    Runs (.ringHelloSend) (st (ringed 2)) ∧
    Runs (.ringLinkLoss true) (st (ringed 2)) ∧
    Runs (.ringFrameForward [passing 0]) (st (ringed 2)) ∧
    Runs (.ringFrameForward [passing 5]) (st (ringed 2)) :=
  ⟨runs_of (((H.1.1 (st (sidebandWit)) yes yes yes).1)),
    runs_of (((H.1.1 (st (sidebandWit)) yes yes yes).2.1)),
    runs_of (((H.1.1 (st (sidebandWit)) yes yes yes).2.2)),
    runs_of ((H.1.2 (st (twinned 2)) 1 9 yes yes yes)),
    runs_of ((H.2.1 (st (ringed 2)) 9 5 6 7 512 true yes yes yes)),
    runs_of ((H.2.2.1 (st (ringed 2)) yes yes)),
    runs_of ((H.2.2.2.1 (st (ringed 2)) true yes yes)),
    runs_of (((H.2.2.2.2 (st (ringed 2)) (passing 0) yes yes yes).1 yes)),
    runs_of (((H.2.2.2.2 (st (ringed 2)) (passing 5) yes yes yes).2 true yes yes yes yes))⟩

def big : Rec := { keyRec with value := [1, 2, 3] }
def stream0 : Stream := { origin := o1, rec_ := big, place := .media 9 4, next := 0, stop := 1, lo := 0, hi := 3, started := true }
def readJob : ReadJob := { origin := o1, die := 3, sb := 9, gran := 4, chunk := 0, codewords := 1, tag := { waitable := true }, mode := 0 }
def streamReq (op : Nat := 1) : Req := { req op { hdr op with valueLen := 0 } [75] .streaming with replyHdr := { opcode := op, rid := 1, status := 0, valueLen := 3 } }
def reading (x : Stream) (op : Nat := 1) : Drive := { withReq (twinned 2) (streamReq op) with
  kv.streams := [x], media.reads := [readJob], kv.dir := [{ keyed with place := .media 9 4 }], media.sbs := [(9, { state := 3, seq := 1, wptr := 8, recs := [(4, big)] })] }
def fetchS : Stream := { stream0 with ladder := 3, fetchOp := 50 }
def hollyReq (use : Nat) : HollyReq := { tag := twTag, use := use }
def hollyD (h : Holly) : Drive := { ready with holly := h }
theorem wit_ReadsFlow (H : Obligations.ReadsFlow) :
    Runs (.arrayReadComplete o1 0 4 none [{}] true) (st (reading stream0)) ∧
    Runs (.arrayReadComplete o1 0 4 none [{}] true) (st (reading { stream0 with started := false })) ∧
    Runs (.arrayReadComplete o1 0 4 none [{}] true) (st (reading { stream0 with started := false, headerOnly := true } 4)) ∧
    Runs (.chunkData 50 (some [1, 2, 3]) true) (st (reading fetchS)) ∧
    Runs (.chunkData 50 none true) (st (reading fetchS)) ∧
    Runs (.chunkFetchTimeout 50) (st (reading fetchS)) :=
  ⟨runs_of (((H.1 (st (reading stream0)) o1 0 4 [{}] readJob stream0 yes yes yes yes (fun i hi => (yes : ∀ i < 1, (([{}] : List Cw).getD i {}).step ≠ 4) i hi) yes yes yes).1 yes yes)),
    runs_of ((((H.1 (st (reading { stream0 with started := false })) o1 0 4 [{}] readJob { stream0 with started := false } yes yes yes yes (fun i hi => (yes : ∀ i < 1, (([{}] : List Cw).getD i {}).step ≠ 4) i hi) yes yes yes).2 streamReq yes yes yes yes).1 yes yes)),
    runs_of ((((H.1 (st (reading { stream0 with started := false, headerOnly := true } 4)) o1 0 4 [{}] readJob { stream0 with started := false, headerOnly := true } yes yes yes yes (fun i hi => (yes : ∀ i < 1, (([{}] : List Cw).getD i {}).step ≠ 4) i hi) yes yes yes).2 (streamReq 4) yes yes yes yes).2 yes yes yes yes)),
    runs_of (((H.2.1 (st (reading fetchS)) 50 [1, 2, 3] fetchS streamReq (by constructor <;> decide +kernel) yes yes yes yes).1 yes)),
    runs_of ((H.2.1 (st (reading fetchS)) 50 [1, 2, 3] fetchS streamReq (by constructor <;> decide +kernel) yes yes yes yes).2),
    runs_of ((H.2.2 (st (reading fetchS)) 50 fetchS streamReq yes yes yes yes yes))⟩

def opReq (op : Nat) (h : OpHdr) (b : Bytes := []) : Req := { origin := .session 0 1, hdr := { h with opcode := op, rid := 1 }, body := b, phase := .active }
def o0 : Origin := .session 0 1
def desc (kind flags quota : Nat) : Bytes := beBytes 1 kind ++ beBytes 1 flags ++ beBytes 6 0 ++ beBytes 8 quota ++ List.replicate 32 0
def nsReq (op : Nat) (flags : Nat) (b : Bytes) (n : Nat := 5) : Req := opReq op { flags := flags, tenant := 1, ns := n, valueLen := b.length } b
theorem wit_HollyAndDeltas (H : Obligations.HollyAndDeltas) :
    Runs (.hollyDispatch [hollyReq 0] none false) (st (ready)) ∧
    Runs (.hollyDispatch [] (some 3) true) (st (hollyD { running := [(3, hollyReq 0)], pairs := [(3, { faults := 2, busy := true })] })) ∧
    Runs (.compatSuspend 5) (st (hollyD { running := [(3, hollyReq 6)], waiting := [hollyReq 2], pairs := [(3, { busy := true })] })) ∧
    Runs (.compatResume 4 true twTag) (st (hollyD { contexts := [{ resumeId := 4, counterBlock := 1, ghash := 2, aadBytes := 3, dataBytes := 4 }, { resumeId := 6, counterBlock := 1, ghash := 2, aadBytes := 3, dataBytes := 4 }] })) ∧
    Runs (.compatResume 4 false twTag) (st (hollyD { contexts := [{ resumeId := 4, counterBlock := 1, ghash := 2, aadBytes := 3, dataBytes := 4 }, { resumeId := 6, counterBlock := 1, ghash := 2, aadBytes := 3, dataBytes := 4 }] })) ∧
    Runs (.deltaDrain) (st ({ stored with media.delta := [(0, { kind := 1 })] })) ∧
    Runs (.checkpoint) (st (stored)) ∧
    Runs (.holdupMeasure 3000 100) (st (ready)) :=
  ⟨runs_of ((H.1.1 (st (ready)) (hollyReq 0) 0 false yes yes yes)),
    runs_of ((H.1.2.1 (st (hollyD { running := [(3, hollyReq 0)], pairs := [(3, { faults := 2, busy := true })] })) [] 3 (hollyReq 0) yes yes)),
    runs_of ((H.1.2.2.1 (st (hollyD { running := [(3, hollyReq 6)], waiting := [hollyReq 2], pairs := [(3, { busy := true })] })) 5 3 (hollyReq 6) (hollyReq 2) yes yes yes)),
    runs_of (((H.1.2.2.2 (st (hollyD { contexts := [{ resumeId := 4, counterBlock := 1, ghash := 2, aadBytes := 3, dataBytes := 4 }, { resumeId := 6, counterBlock := 1, ghash := 2, aadBytes := 3, dataBytes := 4 }] })) 4 twTag yes).1 yes)),
    runs_of (((H.1.2.2.2 (st (hollyD { contexts := [{ resumeId := 4, counterBlock := 1, ghash := 2, aadBytes := 3, dataBytes := 4 }, { resumeId := 6, counterBlock := 1, ghash := 2, aadBytes := 3, dataBytes := 4 }] })) 4 twTag yes).2)),
    runs_of ((H.2.1 (st ({ stored with media.delta := [(0, { kind := 1 })] })) yes)),
    runs_of ((H.2.2.1 (st (stored)) yes)),
    runs_of ((H.2.2.2 (st (ready)) 3000 100 yes))⟩

def modDesc : NsDesc := { kind := 1, soloWrites := true, solo := false, quota := 8 }
theorem wit_TenantsAndNamespaces (H : Obligations.TenantsAndNamespaces) :
    Runs (.tenantCreate o0) (st (withReq ready (opReq 0x68 { tenant := 2 }))) ∧
    Runs (.tenantDelete o0) (st (withReq { ready with kv.tenants := [1, 2] } (opReq 0x69 { tenant := 2 }))) ∧
    Runs (.nsCreate o0) (st (withReq ready (nsReq 0x60 0 (desc 1 0 8) 6))) ∧
    Runs (.nsDelete o0) (st (withReq ready (nsReq 0x61 0 []))) :=
  ⟨runs_of ((H.1 (st (withReq ready (opReq 0x68 { tenant := 2 }))) o0 (opReq 0x68 { tenant := 2 }) (by constructor <;> decide +kernel) yes yes yes yes yes)),
    runs_of ((H.2.1 (st (withReq { ready with kv.tenants := [1, 2] } (opReq 0x69 { tenant := 2 }))) o0 (opReq 0x69 { tenant := 2 }) (by constructor <;> decide +kernel) yes yes yes yes yes yes)),
    runs_of ((H.2.2.1 (st (withReq ready (nsReq 0x60 0 (desc 1 0 8) 6))) o0 (nsReq 0x60 0 (desc 1 0 8) 6) { kind := 1, soloWrites := false, solo := false, quota := 8 } (by constructor <;> decide +kernel) yes yes yes yes yes (Or.inl (by decide +kernel)) yes yes yes yes yes)),
    runs_of ((H.2.2.2 (st (withReq ready (nsReq 0x61 0 []))) o0 (nsReq 0x61 0 []) (by constructor <;> decide +kernel) yes yes yes yes))⟩

def loadBlob (kind : Nat) : Blob := { kind := kind, tenant := (if kind ≤ 3 then 1 else 0), serial := (if kind = 3 then 4 else 0), wrappedUnder := (if kind = 3 then .raw 5 else .raw 6), key := .raw 9 }
def loadReq : Req := opReq 0x6A { tenant := 1, valueLen := 88 }
def sysReq : Req := opReq 0x6A { tenant := 0, valueLen := 88 }
def keksD : Drive := { wrapped with keys.keks := [(0, .raw 6)] }
def eraseReq (sel : Nat) : Req := opReq 0x6B { flags := sel, tenant := 1 }
def waitingLoad : LoadWait := { origin := o0, blob := loadBlob 3, slot := 3 }
theorem wit_NamespacesChange (H : Obligations.NamespacesChange) :
    Runs (.nsSetQuota o0) (st (withReq ready (nsReq 0x62 7 (desc 1 2 8)))) ∧
    Runs (.nsRaiseGen o0) (st (withReq ready (nsReq 0x62 7 (desc 1 2 8)))) ∧
    Runs (.nsSetSoloWrites o0) (st (withReq ready (nsReq 0x62 7 (desc 1 2 8)))) ∧
    Runs (.nsInfo o0) (st (withReq ready (nsReq 0x63 0 []))) ∧
    Runs (.sweepComplete 5) (st ({ stored with kv.nss := [(5, { state := 0x22, owner := 1, gen := 2, topGen := 2 })] })) :=
  ⟨runs_of (((H.1 (st (withReq ready (nsReq 0x62 7 (desc 1 2 8)))) o0 (nsReq 0x62 7 (desc 1 2 8)) modDesc 5 (by constructor <;> decide +kernel) yes yes yes yes yes yes yes yes yes).1 yes)),
    runs_of (((H.1 (st (withReq ready (nsReq 0x62 7 (desc 1 2 8)))) o0 (nsReq 0x62 7 (desc 1 2 8)) modDesc 5 (by constructor <;> decide +kernel) yes yes yes yes yes yes yes yes yes).2.1 yes)),
    runs_of (((H.1 (st (withReq ready (nsReq 0x62 7 (desc 1 2 8)))) o0 (nsReq 0x62 7 (desc 1 2 8)) modDesc 5 (by constructor <;> decide +kernel) yes yes yes yes yes yes yes yes yes).2.2 yes)),
    runs_of ((H.2.1 (st (withReq ready (nsReq 0x63 0 []))) o0 (nsReq 0x63 0 []) 5 (by constructor <;> decide +kernel) yes yes (Or.inl (by decide +kernel)))),
    runs_of ((H.2.2 (st ({ stored with kv.nss := [(5, { state := 0x22, owner := 1, gen := 2, topGen := 2 })] })) 5 yes yes))⟩

theorem wit_KeysComeAndGo (H : Obligations.KeysComeAndGo) :
    Runs (.tenantKeyLoad o0 (loadBlob 2)) (st (withReq keksD loadReq)) ∧
    Runs (.tenantKeyLoad o0 (loadBlob 3)) (st (withReq keksD loadReq)) ∧
    Runs (.tenantKeyLoad o0 (loadBlob 6)) (st (withReq keksD sysReq)) ∧
    Runs (.storageLoadResume 65539) (st ({ withReq keksD loadReq with keys.loads := [waitingLoad] })) ∧
    Runs (.slotBufferRelease 73732) (st ({ ready with keys.system := [(73732, { state := 0x3E, key := .raw 4, oldKey := some (.raw 5) })] })) ∧
    Runs (.slotBufferRelease 65538) (st ({ ready with keys.storage := [(2, { state := 0x39, key := .raw 7, serial := 3, oldKey := some (.raw 5) })] })) ∧
    Runs (.keyEraseWrapping o0) (st (withReq wrapped (eraseReq 1))) ∧
    Runs (.keyErasePrevious o0) (st (withReq { ready with keys.storage := [(2, { state := 0x3A, key := .raw 7, serial := 3 })] } (eraseReq 2))) ∧
    Runs (.keyEraseCurrent o0) (st (withReq wrapped (eraseReq 3))) ∧
    Runs (.keyEraseTenant o0) (st (withReq wrapped (eraseReq 4))) ∧
    Runs (.keyEraseSystem o0) (st (withReq { ready with keys.system := [(73732, { state := 0x3D, key := .raw 4 })] } (opReq 0x6B { flags := 5, condVersion := 73732 }))) :=
  ⟨runs_of (((H.1.1 (st (withReq keksD loadReq)) o0 (loadBlob 2) loadReq (by constructor <;> decide +kernel) yes yes yes yes yes yes yes yes).1 yes)),
    runs_of (((H.1.1 (st (withReq keksD loadReq)) o0 (loadBlob 3) loadReq (by constructor <;> decide +kernel) yes yes yes yes yes yes yes yes).2.1 3 yes yes yes yes yes)),
    runs_of (((H.1.1 (st (withReq keksD sysReq)) o0 (loadBlob 6) sysReq (by constructor <;> decide +kernel) yes yes yes yes yes yes yes yes).2.2 yes yes)),
    runs_of ((H.1.2.1 (st ({ withReq keksD loadReq with keys.loads := [waitingLoad] })) 65539 waitingLoad loadReq yes yes yes yes yes)),
    runs_of (((H.1.2.2 (st ({ ready with keys.system := [(73732, { state := 0x3E, key := .raw 4, oldKey := some (.raw 5) })] })) 73732 yes).1 yes yes)),
    runs_of (((H.1.2.2 (st ({ ready with keys.storage := [(2, { state := 0x39, key := .raw 7, serial := 3, oldKey := some (.raw 5) })] })) 65538 yes).2 yes yes)),
    runs_of (((H.2 (st (withReq wrapped (eraseReq 1))) o0 (eraseReq 1) 1 (by constructor <;> decide +kernel) yes yes yes).1 yes)),
    runs_of (((H.2 (st (withReq { ready with keys.storage := [(2, { state := 0x3A, key := .raw 7, serial := 3 })] } (eraseReq 2))) o0 (eraseReq 2) 1 (by constructor <;> decide +kernel) yes yes yes).2.1 2 yes yes)),
    runs_of (((H.2 (st (withReq wrapped (eraseReq 3))) o0 (eraseReq 3) 1 (by constructor <;> decide +kernel) yes yes yes).2.2.1 2 yes yes)),
    runs_of (((H.2 (st (withReq wrapped (eraseReq 4))) o0 (eraseReq 4) 1 (by constructor <;> decide +kernel) yes yes yes).2.2.2.1 yes)),
    runs_of (((H.2 (st (withReq { ready with keys.system := [(73732, { state := 0x3D, key := .raw 4 })] } (opReq 0x6B { flags := 5, condVersion := 73732 }))) o0 (opReq 0x6B { flags := 5, condVersion := 73732 }) 0 (by constructor <;> decide +kernel) yes yes yes).2.2.2.2 73732 yes yes yes yes))⟩

/-- `ready` with one port in a given condition. -/
def withPort (p : Nat) (x : Port) : Drive := { ready with port.ports := [(p, x)] }
def upPort : Port := { link := 4, speed := 100, chosen := 100 }
def gkpFrame (f : Ether) : Ether := { f with port := 2, length := 200, etherType := 0x86DD, dest := ready.macOf 2, proto := 17, udpDst := 27463, ipSrc := ready.linkLocal 2, ipDst := ready.linkLocal 2 }
def twinFrame : Ether := gkpFrame { port := 2, length := 0, etherType := 0, dest := 0 }
theorem wit_LinksComeAndGo (H : Obligations.LinksComeAndGo) :
    Runs (.autonegComplete 0 [(50, 1), (100, 1)]) (st (withPort 0 { link := 1 })) ∧
    Runs (.trainingComplete 0 3) (st (withPort 0 { link := 2, chosen := 100 })) ∧
    Runs (.linkUp 0) (st (withPort 0 { link := 3, chosen := 100, lanes := 3 })) ∧
    Runs (.linkDown 0 1 none) (st (withPort 0 upPort)) ∧
    Runs (.holdoffExpiry 0) (st (withPort 0 { link := 5 })) ∧
    Runs (.trainingFail 0 0) (st (withPort 0 { link := 2, chosen := 100, failSpeed := 100, fails := 1 })) ∧
    Runs (.trainingFail 2 12) (st (withPort 2 { link := 2, chosen := 400 })) ∧
    Runs (.speedFallbackExpiry 0 100) (st (withPort 0 { link := 1, withdrawn := [(100, 30)] })) :=
  ⟨runs_of ((H.1 (st (withPort 0 { link := 1 })) 0 100 [(50, 1), (100, 1)] yes yes yes)),
    runs_of ((H.2.1 (st (withPort 0 { link := 2, chosen := 100 })) 0 3 3 yes yes yes)),
    runs_of ((H.2.2.1 (st (withPort 0 { link := 3, chosen := 100, lanes := 3 })) 0 yes yes)),
    runs_of ((H.2.2.2.1 (st (withPort 0 upPort)) 0 1 none yes yes)),
    runs_of ((H.2.2.2.2.1 (st (withPort 0 { link := 5 })) 0 yes yes)),
    runs_of (((H.2.2.2.2.2.1 (st (withPort 0 { link := 2, chosen := 100, failSpeed := 100, fails := 1 })) 0 0 yes yes).1 yes)),
    runs_of (((H.2.2.2.2.2.1 (st (withPort 2 { link := 2, chosen := 400 })) 2 12 yes yes).2 12 yes yes yes)),
    runs_of ((H.2.2.2.2.2.2 (st (withPort 0 { link := 1, withdrawn := [(100, 30)] })) 0 100 30 yes yes))⟩

def addressed (i : Iface) : Drive := withPort 0 { upPort with ifs := [(0, i)] }
def iface0 : Iface := { flags := 11, v4 := 77, v4Use := .used, localUse := .used, v60 := 99, v60Use := .used }
def arp0 : ArpFrame := { port := 0, request := true, senderMac := 4, senderIp := 5, targetIp := 77 }
def nd0 : NdFrame := { port := 0, kind := 135, sourceMac := 4, source := 5, target := 99 }
def dhcp0 (v6 : Bool) : DhcpMsg := { port := 0, v6 := v6, kind := 1, address := 78, leaseS := 60 }
def leased : Iface := { iface0 with lease4 := some 60, lease6 := some 70, v61 := 88, v61Use := .used }
def fresh0 : Iface := { iface0 with v4Use := .tentative, v60Use := .tentative, v61 := 88, v61Use := .tentative }
theorem wit_PortsWriteAndReceive (H : Obligations.PortsWriteAndReceive) :
    Runs (.portRetrain 0 0) (st (withPort 0 upPort)) ∧
    Runs (.portEnableWrite 0 0 false) (st (withPort 0 upPort)) ∧
    Runs (.portEnableWrite 0 0 true) (st (withPort 0 { enable := false })) ∧
    Runs (.statsModeWrite 0 0 1) (st (withPort 0 upPort)) ∧
    Runs (.txtsRead 0) (st (withPort 0 { upPort with txts := [{ wallNs := 6, sequenceId := 1, messageType := 0 }], txtsLost := 3 })) ∧
    Runs (.frameReceive { twinFrame with length := 40 }) (st (withPort 2 { upPort with speed := 400, localUse := .used })) ∧
    Runs (.frameReceive twinFrame) (st (withPort 2 { upPort with speed := 400, localUse := .used })) :=
  ⟨runs_of ((H.1.1 (st (withPort 0 upPort)) 0 0 yes yes yes)),
    runs_of (((H.1.2.1 (st (withPort 0 upPort)) 0 0 yes).1 yes)),
    runs_of (((H.1.2.1 (st (withPort 0 { enable := false })) 0 0 yes).2 yes)),
    runs_of ((H.1.2.2.1 (st (withPort 0 upPort)) 0 0 1 yes yes yes)),
    runs_of ((H.1.2.2.2 (st (withPort 0 { upPort with txts := [{ wallNs := 6, sequenceId := 1, messageType := 0 }], txtsLost := 3 })) 0 yes yes)),
    runs_of ((H.2.1 (st (withPort 2 { upPort with speed := 400, localUse := .used })) { twinFrame with length := 40 } 10 yes yes yes yes yes yes)),
    runs_of ((H.2.2 (st (withPort 2 { upPort with speed := 400, localUse := .used })) twinFrame yes yes yes yes yes yes yes yes))⟩

def attrReq (op n addr : Nat) (b : Bytes) : Req := opReq op { valueLen := n, offset := addr } b
def relayHdr : OpHdr := { opcode := 0x50, rid := 6, valueLen := 1, offset := 0x100 }
def relayed0 : Req := { origin := o0, hdr := { opcode := 0x50, rid := 6, valueLen := 1, offset := 0x100, txn := 2 ^ 31 + 9 }, phase := .job }
theorem wit_PortsAnswer (H : Obligations.PortsAnswer) :
    Runs (.arpFrame arp0) (st (addressed iface0)) ∧
    Runs (.arpFrame { arp0 with senderIp := 77 }) (st (addressed iface0)) ∧
    Runs (.ndFrame nd0) (st (addressed iface0)) ∧
    Runs (.icmpEcho 0 0 false 5 [1, 2]) (st (addressed iface0)) ∧
    Runs (.dhcpMessage (dhcp0 false)) (st (addressed iface0)) ∧
    Runs (.dhcpMessage (dhcp0 true)) (st (addressed iface0)) ∧
    Runs (.dhcpLeaseLost 0 0 false) (st (addressed leased)) ∧
    Runs (.dhcpLeaseLost 0 0 true) (st (addressed leased)) ∧
    Runs (.lldpFrame 1 4 3 [1, 2] [5, 6]) (st (ready)) ∧
    Runs (.lldpTransmit) (st (withPort 0 upPort)) ∧
    Runs (.duplicateAddressDetection 0 0 false 77) (st (addressed fresh0)) ∧
    Runs (.duplicateAddressDetection 0 0 true 99) (st (addressed fresh0)) ∧
    Runs (.duplicateAddressDetection 0 0 true 88) (st (addressed fresh0)) ∧
    Runs (.duplicateAddressDetection 3 0 true ((withPort 3 { upPort with localUse := .tentative }).linkLocal 3)) (st (withPort 3 { upPort with localUse := .tentative })) :=
  ⟨runs_of (((H.1 (st (addressed iface0)) arp0 iface0 yes yes yes yes yes yes).1 yes yes yes yes)),
    runs_of (((H.1 (st (addressed iface0)) { arp0 with senderIp := 77 } iface0 yes yes yes yes yes yes).2 yes yes)),
    runs_of ((H.2.1 (st (addressed iface0)) nd0 yes yes yes yes yes)),
    runs_of ((H.2.2.1 (st (addressed iface0)) 0 0 5 false [1, 2] yes yes yes yes yes)),
    runs_of (((H.2.2.2.1 (st (addressed iface0)) (dhcp0 false) yes yes yes yes).1 yes yes)),
    runs_of (((H.2.2.2.1 (st (addressed iface0)) (dhcp0 true) yes yes yes yes).2 yes yes)),
    runs_of (((H.2.2.2.2.1 (st (addressed leased)) 0 0 60 yes).1 yes)),
    runs_of (((H.2.2.2.2.1 (st (addressed leased)) 0 0 70 yes).2 yes)),
    runs_of ((H.2.2.2.2.2.1 (st (ready)) 1 4 3 [1, 2] [5, 6] yes yes)),
    runs_of ((H.2.2.2.2.2.2.1 (st (withPort 0 upPort)) yes)),
    runs_of (((H.2.2.2.2.2.2.2.1 (st (addressed fresh0)) 0 0 fresh0 yes yes yes yes).1 yes)),
    runs_of (((H.2.2.2.2.2.2.2.1 (st (addressed fresh0)) 0 0 fresh0 yes yes yes yes).2.1 yes)),
    runs_of (((H.2.2.2.2.2.2.2.1 (st (addressed fresh0)) 0 0 fresh0 yes yes yes yes).2.2 yes)),
    runs_of ((H.2.2.2.2.2.2.2.2 (st (withPort 3 { upPort with localUse := .tentative })) 3 0 yes yes yes))⟩

theorem wit_AttributesAnswer (H : Obligations.AttributesAnswer) :
    Runs (.attrRead o0) (st (withReq ready (attrReq 0x50 2 0x100 []))) ∧
    Runs (.attrWrite o0) (st (withReq ready (attrReq 0x51 4 0x102 [0, 0, 0, 1]))) ∧
    Runs (.attrBulkRead o0) (st (withReq ready (attrReq 0x52 0 0x818 []))) ∧
    Runs (.mgmtReq 9 1 relayHdr []) (st (ringed 2)) ∧
    Runs (.mgmtReply 9 1 { opcode := 0x50, rid := 6 } [1]) (st (withReq (ringed 2) relayed0)) ∧
    Runs (.w1cWrite 0 0x200 1 0) (st ({ ready with flag.alert := true })) :=
  ⟨runs_of ((H.1 (st (withReq ready (attrReq 0x50 2 0x100 []))) o0 (attrReq 0x50 2 0x100 []) 2 0x100 (by constructor <;> decide +kernel) yes yes yes yes yes yes yes yes)),
    runs_of ((H.2.1 (st (withReq ready (attrReq 0x51 4 0x102 [0, 0, 0, 1]))) o0 (attrReq 0x51 4 0x102 [0, 0, 0, 1]) (by constructor <;> decide +kernel) yes yes yes yes yes yes)),
    runs_of ((H.2.2.1 (st (withReq ready (attrReq 0x52 0 0x818 []))) o0 (attrReq 0x52 0 0x818 []) ((windowBytes 1 0x818 ready).getD []) (by constructor <;> decide +kernel) yes yes yes yes)),
    runs_of ((H.2.2.2.1 (st (ringed 2)) 9 1 1 relayHdr [] (by constructor <;> decide +kernel) yes yes yes yes yes yes)),
    runs_of ((H.2.2.2.2.1 (st (withReq (ringed 2) relayed0)) 9 1 { opcode := 0x50, rid := 6 } [1] relayed0 (by constructor <;> decide +kernel) yes yes)),
    runs_of ((H.2.2.2.2.2 (st ({ ready with flag.alert := true })) 0 1 0 yes yes yes))⟩

theorem wit_ResetsAndLock (H : Obligations.ResetsAndLock) :
    Runs (.clusterReset 0 0) (st (ready)) ∧
    Runs (.portReset 0 1) (st (withPort 1 upPort)) ∧
    Runs (.twinPortReset 0) (st (withPort 2 upPort)) ∧
    Runs (.hedgerowPortReset 0 true) (st (withPort 3 upPort)) ∧
    Runs (.driveReset 0) (st (ready)) ∧
    Runs (.sidebandLockWrite 0 1) (st (ready)) :=
  ⟨runs_of (((H.1 (st (ready)) 0 yes (Or.inl rfl)).1 0 yes)),
    runs_of (((H.1 (st (withPort 1 upPort)) 0 yes (Or.inl rfl)).2.1 1 yes yes)),
    runs_of (((H.1 (st (withPort 2 upPort)) 0 yes (Or.inl rfl)).2.2.1 yes yes)),
    runs_of (((H.1 (st (withPort 3 upPort)) 0 yes (Or.inl rfl)).2.2.2.1 true yes)),
    runs_of (((H.1 (st (ready)) 0 yes (Or.inl rfl)).2.2.2.2)),
    runs_of ((H.2 (st (ready)) 1 yes yes))⟩

theorem wit_FailuresAndPins (H : Obligations.FailuresAndPins) :
    Runs (.powerFail) (st (ready)) ∧
    Runs (.flushComplete) (st ({ ready with media.flushing := true, rec_.based := true, mod.devState := 0xD8, time.exact := some 0 })) ∧
    Runs (.drbgError) (st (ready)) ∧
    Runs (.continuousTestFail 12) (st ({ ready with sec.tests := 0x7FFF })) ∧
    Runs (.supplyLow 11000) (st (ready)) ∧
    Runs (.supplyHigh 13600) (st (ready)) ∧
    Runs (.auxLost) (st (ready)) ∧
    Runs (.auxRestored) (st ({ ready with mod.auxOn := false })) ∧
    Runs (.pwrdisAssert .complete) (st (ready)) ∧
    Runs (.pwrdisAssert .powerFail) (st ({ ready with mod.inReset := true })) ∧
    Runs (.pwrdisAssert .powerFail) (st (ready)) ∧
    Runs (.pwrdisAssert .mainReset) (st (ready)) ∧
    Runs (.mrstN) (st (ready)) ∧
    Runs (.slotIdChange 5) (st (ready)) ∧
    Runs (.twinPrsntChange true) (st (ready)) ∧
    Runs (.locateExpiry) (st ({ ready with mod.locate := true })) ∧
    Runs (.i3cDynamicAddress 9 true) (st (ready)) ∧
    Runs (.i3cRstdaa) (st (ready)) ∧
    Runs (.auxPowerApplied true) (st ({})) ∧
    Runs (.auxPowerRemoved) (st ({ ({} : Drive) with mod.auxOn := true })) :=
  ⟨runs_of ((H.1.1 (st (ready)) yes)),
    runs_of ((H.1.2.1 (st ({ ready with media.flushing := true, rec_.based := true, mod.devState := 0xD8, time.exact := some 0 })) yes yes)),
    runs_of ((H.1.2.2.1 (st (ready)) yes)),
    runs_of ((H.1.2.2.2 (st ({ ready with sec.tests := 0x7FFF })) 12 yes (Or.inr rfl))),
    runs_of (((H.2.1 (st (ready)) yes).1 11000 yes yes)),
    runs_of (((H.2.1 (st (ready)) yes).2.1 13600 yes)),
    runs_of (((H.2.1 (st (ready)) yes).2.2.1 yes)),
    runs_of (((H.2.1 (st ({ ready with mod.auxOn := false })) yes).2.2.2.1 yes)),
    runs_of ((H.2.1 (st (ready)) yes).2.2.2.2.1 .complete (Or.inr rfl)),
    runs_of ((H.2.1 (st ({ ready with mod.inReset := true })) yes).2.2.2.2.1 .powerFail (Or.inl yes)),
    runs_of (((H.2.1 (st (ready)) yes).2.2.2.2.2.1 yes).1),
    runs_of (((H.2.1 (st (ready)) yes).2.2.2.2.2.1 yes).2),
    runs_of (((H.2.1 (st (ready)) yes).2.2.2.2.2.2.1 yes)),
    runs_of (((H.2.1 (st (ready)) yes).2.2.2.2.2.2.2.1 5 yes)),
    runs_of (((H.2.1 (st (ready)) yes).2.2.2.2.2.2.2.2.1 true)),
    runs_of (((H.2.1 (st ({ ready with mod.locate := true })) yes).2.2.2.2.2.2.2.2.2 yes)),
    runs_of (((H.2.2.1 (st (ready)) 9 true yes).1)),
    runs_of (((H.2.2.1 (st (ready)) 9 true yes).2)),
    runs_of (((H.2.2.2 (st ({})) yes).1 true yes)),
    runs_of (((H.2.2.2 (st ({ ({} : Drive) with mod.auxOn := true })) yes).2))⟩

def timed (t : Sprig) : Drive := { ready with time := { t with opReserved := 2 ^ 36 } }
def ptpPort0 : Drive := { timed { ptp := [(3, { role := 2, delay := 1, transport := 2, master := true })] } with port.ports := [(3, { link := 4, speed := 200 })] }
def tod0 : Tod := { seconds := 7, utcOffset := 37, flags := 0, clockClass := 6 }
theorem tod_form : todOf (todBytes tod0 33) = some tod0 := yes
def announce : PtpMsg := { port := 3, kind := 11, slave := true }
def ev (n : Nat) : Event := { seq := n, opTime := 10 * n }
def logging (x : Thicket) : Drive := { ready with rec_ := { x with based := true } }
theorem wit_TimeIsKeptAndServed (H : Obligations.TimeIsKeptAndServed) :
    Runs (.ppsInEdge 500) (st (ready)) ∧
    Runs (.todMessage (todBytes tod0 33)) (st (ready)) ∧
    Runs (.todMessage [1, 2]) (st (ready)) ∧
    Runs (.sourceLost 4) (st (timed { qualified := [(4, 0)], source := 4, state := 1 })) ∧
    Runs (.sourceChange 4) (st (timed { qualified := [(2, 0), (4, 0)], source := 2, state := 1, priority := 0x4200 })) ∧
    Runs (.holdoverTrustLost) (st (timed { state := 2 })) ∧
    Runs (.wallSet 0 1000 5) (st (ready)) ∧
    Runs (.optimeReservation) (st (ready)) ∧
    Runs (.ppsOutEdge) (st (timed { ppsOutCtl := 2 })) ∧
    Runs (.leapSecond) (st (timed { leap61 := true })) ∧
    Runs (.ptpMessage { port := 3, kind := 2 }) (st (ptpPort0)) ∧
    Runs (.ptpMessage announce) (st (ptpPort0)) ∧
    Runs (.ptpIntervalTransmit 3 0) (st (ptpPort0)) :=
  ⟨runs_of ((H.1.1 (st (ready)) 500 yes)),
    runs_of ((H.1.2.1 (st (ready)) (todBytes tod0 33) yes).1 tod0 (H.1.2.2.1 tod0 33 yes yes yes yes yes).1),
    runs_of ((H.1.2.1 (st (ready)) [1, 2] yes).2 yes),
    runs_of ((H.1.2.2.2.1 (st (timed { qualified := [(4, 0)], source := 4, state := 1 })) 4 yes yes yes)),
    runs_of ((H.1.2.2.2.2.1 (st (timed { qualified := [(2, 0), (4, 0)], source := 2, state := 1, priority := 0x4200 })) 4 0 yes yes yes yes)),
    runs_of ((H.1.2.2.2.2.2 (st (timed { state := 2 })) yes yes)),
    runs_of ((H.2.1 (st (ready)) 0 1000 5 yes yes yes)),
    runs_of ((H.2.2.1 (st (ready)) yes)),
    runs_of ((H.2.2.2.1 (st (timed { ppsOutCtl := 2 })) yes (Or.inl rfl))),
    runs_of ((H.2.2.2.2.1 (st (timed { leap61 := true })) yes (Or.inl rfl))),
    runs_of (((H.2.2.2.2.2.1 (st (ptpPort0)) { port := 3, kind := 2 } yes yes yes yes).1 yes yes yes)),
    runs_of (((H.2.2.2.2.2.1 (st (ptpPort0)) announce yes yes yes yes).2 yes)),
    runs_of ((H.2.2.2.2.2.2 (st (ptpPort0)) 3 yes yes yes yes yes))⟩

def meterRec (n : Nat) : MeterRec := { seq := n, tenant := 1 }
def metered : Drive := { ready with meter.held := [meterRec 4, meterRec 5], meter.nextSeq := 6 }
theorem wit_LogAndHealth (H : Obligations.LogAndHealth) :
    Runs (.stagingFlush) (st (logging { state := 0xE1, staging := [ev 1, ev 2] })) ∧
    Runs (.logGroupWritten) (st (logging { state := 0xE1, staging := [ev 1, ev 2], writing := 2, logFloor := 2 })) ∧
    Runs (.logFreeze o0) (st (withReq (logging { state := 0xE1, staging := [ev 1] }) (opReq 0x78 {}))) ∧
    Runs (.logThaw o0) (st (withReq (logging { state := 0xE2, frozenStaged := 3 }) (opReq 0x79 {}))) ∧
    Runs (.logFreezeTimeout) (st (logging { state := 0xE2, freezeEnd := 900 })) ∧
    Runs (.clearPinned 1) (st (logging { state := 0xE1, log := [ev 1], pinned := [ev 2] })) ∧
    Runs (.clearAll 1) (st (logging { state := 0xE1, log := [ev 1], pinned := [ev 2] })) ∧
    Runs (.logWindowLoad 1 0) (st (logging { state := 0xE1, log := [ev 1, ev 2], inband := { cursor := 2 } })) ∧
    Runs (.healthSave) (st ({ ready with health.cwRead := 6 })) ∧
    Runs (.tempBinMinute) (st ({ ready with health.minuteMax := [(1, 140)] })) ∧
    Runs (.eventEnableWrite 0 3 17) (st (ready)) :=
  ⟨runs_of ((H.1.1 (st (logging { state := 0xE1, staging := [ev 1, ev 2] })) (ev 1) [ev 2] yes yes yes yes)),
    runs_of ((H.1.2.1 (st (logging { state := 0xE1, staging := [ev 1, ev 2], writing := 2, logFloor := 2 })) yes yes yes)),
    runs_of ((H.1.2.2.1 (st (withReq (logging { state := 0xE1, staging := [ev 1] }) (opReq 0x78 {}))) o0 (opReq 0x78 {}) (by constructor <;> decide +kernel) yes yes yes yes)),
    runs_of ((H.1.2.2.2.1 (st (withReq (logging { state := 0xE2, frozenStaged := 3 }) (opReq 0x79 {}))) o0 (opReq 0x79 {}) (by constructor <;> decide +kernel) yes yes)),
    runs_of ((H.1.2.2.2.2.1 (st (logging { state := 0xE2, freezeEnd := 900 })) yes yes)),
    runs_of (((H.1.2.2.2.2.2.1 (st (logging { state := 0xE1, log := [ev 1], pinned := [ev 2] })) 1 yes yes).1)),
    runs_of (((H.1.2.2.2.2.2.1 (st (logging { state := 0xE1, log := [ev 1], pinned := [ev 2] })) 1 yes yes).2)),
    runs_of ((H.1.2.2.2.2.2.2 (st (logging { state := 0xE1, log := [ev 1, ev 2], inband := { cursor := 2 } })) 1 0 2 yes yes yes)),
    runs_of ((H.2.1 (st ({ ready with health.cwRead := 6 })) yes)),
    runs_of ((H.2.2.1 (st ({ ready with health.minuteMax := [(1, 140)] })) yes)),
    runs_of ((H.2.2.2 (st (ready)) 0 3 17 yes))⟩

def cooling : Drive := { ready with therm.stage := 2, therm.cool := [(2, 50)], therm.sensors := (List.range 24).map (fun n => (n, 100)) }
def hot : Drive := { ready with therm.hot := [(4, 2)] }
def sampled (d : Drive) (rs : List (Nat × Int)) : Drive := takeReadings rs { d.advanceTo 10000000 with therm.sampledAt := 10000000 }
theorem wit_MeterWorks (H : Obligations.MeterWorks) :
    Runs (.meterTick 40 [{ tenant := 1, dieUs := 5 }]) (st (ready)) ∧
    Runs (.meterExtendedEnd) (st ({ ready with meter.state := 2, meter.ticks := 100 })) ∧
    Runs (.meterIntervalWrite 0 120) (st (ready)) ∧
    Runs (.weightRecalibrate (9, 3) (8, 2) (5, 5) (6, 1)) (st (ready)) ∧
    Runs (.meterRead o0) (st (withReq metered (opReq 0x70 { valueLen := 4096 }))) ∧
    Runs (.meterAck o0) (st (withReq metered (opReq 0x71 { offset := 4 }))) :=
  ⟨runs_of ((H.1 (st (ready)) 40 [{ tenant := 1, dieUs := 5 }] yes)),
    runs_of ((H.2.1 (st ({ ready with meter.state := 2, meter.ticks := 100 })) yes yes)),
    runs_of ((H.2.2.1 (st (ready)) 0 120 yes yes yes)),
    runs_of ((H.2.2.2.1 (st (ready)) (9, 3) (8, 2) (5, 5) (6, 1) yes yes yes yes yes)),
    runs_of ((H.2.2.2.2.1 (st (withReq metered (opReq 0x70 { valueLen := 4096 }))) o0 (opReq 0x70 { valueLen := 4096 }) (by constructor <;> decide +kernel) yes yes)),
    runs_of ((H.2.2.2.2.2 (st (withReq metered (opReq 0x71 { offset := 4 }))) o0 (opReq 0x71 { offset := 4 }) (by constructor <;> decide +kernel) yes yes))⟩

def sbImage : Image := { component := 4 }
def tcm : Drive := { ready with optf.xip := 0x92 }
def opA : OptfOp := { prio := 3, bank := 1, waiter := some o1 }
def opT : OptfOp := { opA with tell := [.attr 0 1 0 0] }
def opB : OptfOp := { prio := 4, bank := 2 }
theorem wit_PowerAndHeat (H : Obligations.PowerAndHeat) :
    Runs (.idleDwell 1) (st (ready)) ∧
    Runs (.wakeComplete) (st ({ ready with power.wakeAt := some 40, power.state := 2 })) ∧
    Runs (.toleranceWindowExpiry) (st ({ ready with power.overrides := [(3, 100)] })) ∧
    Runs (.stateLimitWrite 0 2) (st (ready)) ∧
    Runs (.capWrite 0 40) (st (ready)) ∧
    Runs (.governor1ms 90000) (st (ready)) ∧
    Runs (.governor100ms 90000) (st (ready)) ∧
    Runs (.tempSample [(0, 100), (5, 120)] false) (st (ready)) ∧
    Runs (.tempSample [(3, 400)] false) (st (ready)) ∧
    Runs (.tempSample [(3, 380)] true) (st (hot)) ∧
    Runs (.tempSample [(3, 380)] false) (st (hot)) ∧
    Runs (.thermalStageExit) (st (cooling)) ∧
    Runs (.sensorFault 7) (st (cooling)) ∧
    Runs (.thermalShutdownTimeout) (st ({ ready with therm.shutdownAt := some 40, mod.devState := 0xD7 })) :=
  ⟨runs_of ((H.1.1 (st (ready)) 1 1 (ready.advanceTo 200000) yes yes yes yes rfl yes yes)),
    runs_of ((H.1.2.1 (st ({ ready with power.wakeAt := some 40, power.state := 2 })) 40 yes yes)),
    runs_of ((H.1.2.2.1 (st ({ ready with power.overrides := [(3, 100)] })) yes yes)),
    runs_of (((H.1.2.2.2.1 (st (ready)) 0 2 yes (Or.inl rfl)).1 yes)),
    runs_of (((H.1.2.2.2.1 (st (ready)) 0 40 yes (Or.inl rfl)).2 yes yes)),
    runs_of (((H.1.2.2.2.2 (st (ready)) 90000 yes).1 yes)),
    runs_of (((H.1.2.2.2.2 (st (ready)) 90000 yes).2 yes)),
    runs_of (((H.2.1 (st (ready)) [(0, 100), (5, 120)] false 10000000 (sampled ready [(0, 100), (5, 120)]) yes yes rfl).1 yes yes)),
    runs_of (((H.2.1 (st (ready)) [(3, 400)] false 10000000 (sampled ready [(3, 400)]) yes yes rfl).2.1 yes)),
    runs_of ((((H.2.1 (st (hot)) [(3, 380)] true 10000000 (sampled hot [(3, 380)]) yes yes rfl).2.2 yes yes yes yes).1 yes)),
    runs_of ((((H.2.1 (st (hot)) [(3, 380)] false 10000000 (sampled hot [(3, 380)]) yes yes rfl).2.2 yes yes yes yes).2 yes)),
    runs_of ((H.2.2.1 (st (cooling)) 50 yes yes yes)),
    runs_of ((H.2.2.2.1 (st (cooling)) 7 yes yes)),
    runs_of ((H.2.2.2.2 (st ({ ready with therm.shutdownAt := some 40, mod.devState := 0xD7 })) 40 yes yes))⟩

/-- Entry 20 of bank 0 (narrow) is valid, and probing with key 6 meets it. -/
def pe : PEntry := { mtch := 6, mask := 7, valid := true, action := 4, priority := 16 }
def priv (c : PChan) : Drive := { ready with privet.table := [(20, pe)], privet.shadow := [(20, pe)], privet.chans := [(0, c)], privet.actions := [(4, 2 ^ 126)], privet.actionShadow := [(4, 2 ^ 126)] }
def newPe : PEntry := { mtch := 5, mask := 7, valid := true, action := 4, priority := 32 }
def staged : PChan := { select := 40, mtch := 5 * 2 ^ 480, mask := 7 * 2 ^ 480, metaWord := 2 ^ 31 + 4 * 2 ^ 16 + 32 }
theorem wit_OptionFlashWorks (H : Obligations.OptionFlashWorks) :
    Runs (.xipRelease 0) (st (ready)) ∧
    Runs (.tcmLoadComplete) (st ({ ready with optf.xip := 0x91 })) ∧
    Runs (.xipResume 0) (st (tcm)) ∧
    Runs (.xipAutoResume) (st (tcm)) ∧
    Runs (.optfOperationComplete) (st ({ withReq ready (req 2) with optf.busy := some opA, optf.queue := [opB] })) ∧
    Runs (.optfOperationComplete) (st ({ withReq ready (req 2) with optf.busy := some opT, optf.queue := [opB], optf.waitingReads := [(1, .attr 0 2 0 0)] })) :=
  ⟨runs_of ((H.1 (st (ready)) 0 yes yes)),
    runs_of ((H.2.1 (st ({ ready with optf.xip := 0x91 })) yes yes)),
    runs_of (((H.2.2.1 (st (tcm)) sbImage yes yes yes yes).1 0 yes)),
    runs_of (((H.2.2.1 (st (tcm)) sbImage yes yes yes yes).2 yes yes)),
    runs_of ((H.2.2.2 (st ({ withReq ready (req 2) with optf.busy := some opA, optf.queue := [opB] })) opA yes yes yes yes)),
    runs_of ((H.2.2.2 (st ({ withReq ready (req 2) with optf.busy := some opT, optf.queue := [opB], optf.waitingReads := [(1, .attr 0 2 0 0)] })) opT yes yes yes yes))⟩

theorem wit_PrivetEntries (H : Obligations.PrivetEntries) :
    Runs (.entryRead 0) (st (priv { select := 20 })) ∧
    Runs (.entryWrite 0) (st (priv { staged with select := 20 })) ∧
    Runs (.entryWrite 0) (st (priv staged)) ∧
    Runs (.entryInvalidate 0) (st (priv { select := 20 })) ∧
    Runs (.entryMove 0) (st (priv { select := 20, target := 18 })) :=
  ⟨runs_of ((H.1 (st (priv { select := 20 })) 0 20 pe yes yes yes yes)),
    runs_of (((H.2.1 (st (priv { staged with select := 20 })) 0 (2 ^ 480) { staged with select := 20 } newPe yes yes yes yes yes yes yes).1 yes)),
    runs_of (((H.2.1 (st (priv staged)) 0 (2 ^ 480) staged newPe yes yes yes yes yes yes yes).2 yes yes)),
    runs_of ((H.2.2.1 (st (priv { select := 20 })) 0 20 yes yes yes)),
    runs_of ((H.2.2.2 (st (priv { select := 20, target := 18 })) 0 20 18 yes yes yes yes yes yes yes yes yes))⟩

theorem wit_PrivetActions (H : Obligations.PrivetActions) :
    Runs (.actionRead 0) (st (priv { actionSelect := 4 })) ∧
    Runs (.actionWrite 0) (st (priv { actionSelect := 4, actionData := 2 ^ 127 })) ∧
    Runs (.actionWrite 0) (st (priv { actionSelect := 4, actionData := 2 ^ 126 })) ∧
    Runs (.bankWidthWrite 0 0) (st (priv {})) ∧
    Runs (.defaultActionWrite 0 0 (2 ^ 127)) (st (ready)) ∧
    Runs (.probeFirst 0) (st (priv { key1 := 6 })) ∧
    Runs (.probeFirst 0) (st (priv { key1 := 5 })) ∧
    Runs (.probeNext 0) (st (priv { key1 := 6, cursor := 3 })) ∧
    Runs (.probeNext 0) (st (priv { key1 := 6, cursor := 2 ^ 24 })) ∧
    Runs (.privetScrub [] [] [] []) (st ({ priv {} with privet.table := [(20, { pe with mtch := 4 })] })) :=
  ⟨runs_of (((H.1 (st (priv { actionSelect := 4 })) 0 { actionSelect := 4 } yes yes yes).1)),
    runs_of (((H.1 (st (priv { actionSelect := 4, actionData := 2 ^ 127 })) 0 { actionSelect := 4, actionData := 2 ^ 127 } yes yes yes).2.1 yes)),
    runs_of (((H.1 (st (priv { actionSelect := 4, actionData := 2 ^ 126 })) 0 { actionSelect := 4, actionData := 2 ^ 126 } yes yes yes).2.2 yes)),
    runs_of ((H.2.1 (st (priv {})) 0 0 [1, 1, 1, 1, 1, 1, 1, 1] yes yes yes)),
    runs_of ((H.2.2.1 (st (ready)) 0 0 (2 ^ 127) yes yes (Or.inr (by decide +kernel)))),
    runs_of (((H.2.2.2.1 (st (priv { key1 := 6 })) 0 { key1 := 6 } yes yes).1 (20, pe) yes)),
    runs_of (((H.2.2.2.1 (st (priv { key1 := 5 })) 0 { key1 := 5 } yes yes).2.1 yes)),
    runs_of (((H.2.2.2.1 (st (priv { key1 := 6, cursor := 3 })) 0 { key1 := 6, cursor := 3 } yes yes).2.2.1 (20, pe) yes)),
    runs_of (((H.2.2.2.1 (st (priv { key1 := 6, cursor := 2 ^ 24 })) 0 { key1 := 6, cursor := 2 ^ 24 } yes yes).2.2.2 yes)),
    runs_of ((H.2.2.2.2 (st ({ priv {} with privet.table := [(20, { pe with mtch := 4 })] })) [] [] yes))⟩

def secured (x : Sec) : Drive := { ready with sec := x }
def zeroising (x : Sec) : Drive := { ready with sec := { x with state := 0xA3, zeroFuse := true }, keys := { vaultA := [(1, .raw 3)], vaultB := [(1, .raw 3)] } }
def role : Maint := { services := 3, session := 4, until_ := 60 }
def spdmD (x : Sec) : Drive := secured { x with state := 0xA1, spdm := [(4, { phase := 1, operator := true }), (5, { phase := 1 }), (6, {})], spdmNext := 7, negotiated := 3 }
theorem wit_ZeroisationRuns (H : Obligations.ZeroisationRuns) :
    Runs (.zeroizePin) (st (wrapped)) ∧
    Runs (.tamperLoopSample true) (st (secured { state := 0xA1, loopOpen := 2 })) ∧
    Runs (.tamperLoopSample true) (st (secured { state := 0xA1, loopOpen := 1 })) ∧
    Runs (.tamperLoopSample false) (st (secured { state := 0xA1, loopOpen := 1 })) ∧
    Runs (.zeroizeArm 0) (st (ready)) ∧
    Runs (.zeroizeConfirm 0) (st (secured { state := 0xA1, armed := some (0, 0) })) ∧
    Runs (.zeroizeConfirm 0) (st (secured { state := 0xA1, armed := some (1, 0) })) ∧
    Runs (.zeroizeArmExpiry) (st (secured { state := 0xA1, armed := some (1, 0) })) ∧
    Runs (.zeroiseEraseComplete) (st (zeroising {})) ∧
    Runs (.zeroiseEraseComplete) (st (zeroising { helperA := false })) ∧
    Runs (.zeroiseEraseComplete) (st (zeroising { helperA := false, helperB := false })) ∧
    Runs (.zeroiseEraseComplete) (st (zeroising { helperA := false, helperB := false, vaultCopies := 1 })) :=
  ⟨runs_of (((H.1 (st (wrapped)) yes yes yes).1)),
    runs_of (((H.1 (st (secured { state := 0xA1, loopOpen := 2 })) yes yes yes).2.1 yes)),
    runs_of (((H.1 (st (secured { state := 0xA1, loopOpen := 1 })) yes yes yes).2.2.1 yes)),
    runs_of (((H.1 (st (secured { state := 0xA1, loopOpen := 1 })) yes yes yes).2.2.2)),
    runs_of (((H.2.1 (st (ready)) 0 yes).1)),
    runs_of (((H.2.1 (st (secured { state := 0xA1, armed := some (0, 0) })) 0 yes).2.1 yes)),
    runs_of (((H.2.1 (st (secured { state := 0xA1, armed := some (1, 0) })) 0 yes).2.2.1 yes)),
    runs_of (((H.2.1 (st (secured { state := 0xA1, armed := some (1, 0) })) 0 yes).2.2.2 1 0 yes)),
    runs_of (((H.2.2 (st (zeroising {})) yes yes).1 yes)),
    runs_of (((H.2.2 (st (zeroising { helperA := false })) yes yes).2.1 yes yes)),
    runs_of (((H.2.2 (st (zeroising { helperA := false, helperB := false })) yes yes).2.2.1 yes yes yes)),
    runs_of (((H.2.2 (st (zeroising { helperA := false, helperB := false, vaultCopies := 1 })) yes yes).2.2.2 yes yes yes))⟩

def kekBlob : Blob := { kind := 1, tenant := 0, wrapper := 2, wrappedUnder := .derived (.raw 4) 0x4B454B 0, key := .raw 9 }
def sessions4 : Tbl SpdmSession := [(1, {}), (2, {}), (3, {}), (4, {})]
def waitingBank : Drive := { spdmD {} with optf.busy := some { prio := 4, bank := 1, suspends := 64 } }
def rawRole : Maint := { services := 7, session := 4, until_ := 60 }
def rawD : Drive := { spdmD { maint := some rawRole } with media.sbs := [(7, { state := 3, stream := 1, seq := 4, wptr := 9 }), (9, { state := 1, stream := 1, seq := 1, wptr := 8, recs := [(4, keyRec)] })] }
def measure6 : List Nat := ((spdmD {}).measurement 6).getD []
theorem wit_MaintenanceIsGated (H : Obligations.MaintenanceIsGated) :
    Runs (.maintEnableWrite 0 1) (st (secured { state := 0xA1, maintFuse := true })) ∧
    Runs (.maintEnableWrite 0 1) (st (ready)) ∧
    Runs (.maintEnableWrite 0 0) (st (secured { state := 0xA1, maintEnable := true })) ∧
    Runs (.maintFuseArm 0) (st (ready)) ∧
    Runs (.maintFuseConfirm 0) (st (secured { state := 0xA1, maintEnable := true, maintArmed := some (0, 0), maint := some role })) ∧
    Runs (.maintFuseArmExpiry) (st (secured { state := 0xA1, maintArmed := some (0, 0) })) ∧
    Runs (.maintToken 4 3 0 0 60 true true) (st (spdmD { maintEnable := true })) ∧
    Runs (.maintToken 4 3 0 8 60 true true) (st (spdmD { maintEnable := true })) ∧
    Runs (.maintExit 4) (st (spdmD { maint := some role })) ∧
    Runs (.maintDurationExpiry) (st (spdmD { maint := some role })) :=
  ⟨runs_of (((H.1 (st (secured { state := 0xA1, maintFuse := true })) 0 yes).1 yes 1)),
    runs_of (((H.1 (st (ready)) 0 yes).2.1 yes)),
    runs_of (((H.1 (st (secured { state := 0xA1, maintEnable := true })) 0 yes).2.2.1 yes)),
    runs_of (((H.1 (st (ready)) 0 yes).2.2.2.1)),
    runs_of (((H.1 (st (secured { state := 0xA1, maintEnable := true, maintArmed := some (0, 0), maint := some role })) 0 yes).2.2.2.2.1 yes)),
    runs_of (((H.1 (st (secured { state := 0xA1, maintArmed := some (0, 0) })) 0 yes).2.2.2.2.2 0 0 yes)),
    runs_of (((H.2.1 (st (spdmD { maintEnable := true })) 4 3 0 0 60 true true _ yes rfl yes yes yes yes).1 yes)),
    runs_of (((H.2.1 (st (spdmD { maintEnable := true })) 4 3 0 8 60 true true _ yes rfl yes yes yes yes).2 4 yes)),
    runs_of (((H.2.2 (st (spdmD { maint := some role })) role _ yes rfl yes).1)),
    runs_of (((H.2.2 (st (spdmD { maint := some role })) role _ yes rfl yes).2))⟩

theorem wit_SpdmServes (H : Obligations.SpdmServes) :
    Runs (.getVersion) (st (ready)) ∧
    Runs (.getCapabilities true) (st (secured { state := 0xA1, negotiated := 1 })) ∧
    Runs (.negotiateAlgorithms true) (st (secured { state := 0xA1, negotiated := 2 })) ∧
    Runs (.getDigests 0) (st (spdmD {})) ∧
    Runs (.getCertificate 0 0) (st (spdmD {})) ∧
    Runs (.getCertificate 0 1) (st (spdmD { slot1 := some [7] })) ∧
    Runs (.getCertificate 0 0) (st (waitingBank)) ∧
    Runs (.challenge 0) (st (spdmD {})) ∧
    Runs (.getMeasurements 0 6) (st (spdmD {})) ∧
    Runs (.keyExchange) (st (spdmD {})) ∧
    Runs (.keyExchange) (st ({ spdmD {} with sec.spdm := sessions4 })) ∧
    Runs (.vendorDefinedRequest 0 .other) (st (spdmD {})) ∧
    Runs (.vendorDefinedRequest 0 (.rawPage 9 1 0)) (st (spdmD {})) ∧
    Runs (.vendorDefinedRequest 4 (.rawPage 7 1 0)) (st (rawD)) ∧
    Runs (.vendorDefinedRequest 4 (.rawPage 9 1 0)) (st (rawD)) ∧
    Runs (.finish 6 8 (some 5) true) (st (spdmD { operatorRoot := 5 })) ∧
    Runs (.spdmHeartbeat 4) (st (spdmD {})) ∧
    Runs (.keyUpdate 4) (st (spdmD {})) ∧
    Runs (.endSession 4) (st (spdmD { maint := some role })) ∧
    Runs (.getCsr 4) (st (spdmD {})) ∧
    Runs (.setCertificate 4 1 true [6]) (st (spdmD {})) ∧
    Runs (.setCertificate 5 1 true [6]) (st (spdmD {})) ∧
    Runs (.kekImport 4 2 6 true kekBlob) (st (spdmD { otp := [6] })) :=
  ⟨runs_of (((H.1 (st (ready)) _ yes rfl).1)),
    runs_of (((H.1 (st (secured { state := 0xA1, negotiated := 1 })) _ yes rfl).2.1 yes)),
    runs_of (((H.1 (st (secured { state := 0xA1, negotiated := 2 })) _ yes rfl).2.2.1 yes)),
    runs_of (((H.1 (st (spdmD {})) _ yes rfl).2.2.2 yes 0).1),
    runs_of ((((H.1 (st (spdmD {})) _ yes rfl).2.2.2 yes 0).2.1 0 _ (Or.inl ⟨rfl, rfl⟩)).1 vac),
    runs_of ((((H.1 (st (spdmD { slot1 := some [7] })) _ yes rfl).2.2.2 yes 0).2.1 1 _ (Or.inr ⟨rfl, [7], yes, rfl⟩)).1 vac),
    runs_of (((((H.1 (st (waitingBank)) _ yes rfl).2.2.2 yes 0).2.1 0 _ (Or.inl ⟨rfl, rfl⟩)).2 { prio := 4, bank := 1, suspends := 64 } yes yes yes)),
    runs_of (((H.1 (st (spdmD {})) _ yes rfl).2.2.2 yes 0).2.2.1),
    runs_of ((((H.1 (st (spdmD {})) _ yes rfl).2.2.2 yes 0).2.2.2.1 6 measure6 yes yes yes)),
    runs_of ((((H.1 (st (spdmD {})) _ yes rfl).2.2.2 yes 0).2.2.2.2.1 yes yes)),
    runs_of ((((H.1 (st ({ spdmD {} with sec.spdm := sessions4 })) _ yes rfl).2.2.2 yes 0).2.2.2.2.2.1 yes yes)),
    runs_of (((H.1 (st (spdmD {})) _ yes rfl).2.2.2 yes 0).2.2.2.2.2.2.1),
    runs_of (((((H.1 (st (spdmD {})) _ yes rfl).2.2.2 yes 0).2.2.2.2.2.2.2 9 1 0 yes yes yes).1 yes)),
    runs_of (((((H.1 (st (rawD)) _ yes rfl).2.2.2 yes 4).2.2.2.2.2.2.2 7 1 0 yes yes yes).2.1 yes yes)),
    runs_of (((((H.1 (st (rawD)) _ yes rfl).2.2.2 yes 4).2.2.2.2.2.2.2 9 1 0 yes yes yes).2.2 yes yes)),
    runs_of ((H.2.1 (st (spdmD { operatorRoot := 5 })) 6 8 (some 5) {} _ yes rfl yes yes)),
    runs_of (((H.2.2.1 (st (spdmD {})) 4 { phase := 1, operator := true } _ yes rfl yes yes).1)),
    runs_of (((H.2.2.1 (st (spdmD {})) 4 { phase := 1, operator := true } _ yes rfl yes yes).2.1)),
    runs_of (((H.2.2.1 (st (spdmD { maint := some role })) 4 { phase := 1, operator := true } _ yes rfl yes yes).2.2.1)),
    runs_of (((H.2.2.1 (st (spdmD {})) 4 { phase := 1, operator := true } _ yes rfl yes yes).2.2.2.1)),
    runs_of ((H.2.2.1 (st (spdmD {})) 4 { phase := 1, operator := true } _ yes rfl yes yes).2.2.2.2.1 yes [6]),
    runs_of ((H.2.2.1 (st (spdmD {})) 5 { phase := 1 } _ yes rfl yes yes).2.2.2.2.2 yes [6]),
    runs_of ((H.2.2.2 (st (spdmD { otp := [6] })) 4 2 6 kekBlob _ yes rfl yes yes yes yes yes yes yes yes yes yes))⟩

def dieD (o : DieOp) : Drive := { ready with media.dies := [(3, o)], media.reads := [{ readJob with mode := 3 }], media.sbs := [(9, { state := 2, stream := 1, wptr := 8, seq := 1 })] }
def prog : DieOp := { kind := 1, sb := 9, gran := 4, job := some (.shelf 0) }
theorem wit_MaintenanceFuseHolds (H : Obligations.MaintenanceFuseHolds) :
    Runs (.maintFuseArm 0) (st (ready)) ∧
    Runs (.maintFuseConfirm 0) (st (secured { state := 0xA1, maintEnable := true, maintArmed := some (0, 0), maint := some role })) ∧
    Runs (.maintEnableWrite 0 1) (st (secured { state := 0xA1, maintFuse := true })) :=
  ⟨runs_of (((H.1 (st (ready)) 0 yes).1)),
    runs_of (((H.1 (st (secured { state := 0xA1, maintEnable := true, maintArmed := some (0, 0), maint := some role })) 0 yes).2.1 yes)),
    runs_of (((H.1 (st (secured { state := 0xA1, maintFuse := true })) 0 yes).2.2 yes 1))⟩

def shelved : Drive := { stored with media.dies := [(3, prog)], media.sbs := [(9, { state := 2, stream := 1, wptr := 8, seq := 1 })] }
def lastErase : DieOp := { kind := 2, sb := 9, channel := 3 }
def erasing : Drive := { ready with media.dies := [(3, lastErase)], media.sbs := [(9, { state := 1, stream := 1, seq := 1, eraseBusy := 1, recs := [(4, keyRec)] })] }
theorem wit_DiesTakeTurns (H : Obligations.DiesTakeTurns) :
    Runs (.suspendComplete 3) (st (dieD { prog with suspended := true })) ∧
    Runs (.busyWindowEntry 3) (st (dieD prog)) ∧
    Runs (.eraseWindowEnd 3) (st (dieD { kind := 2, sb := 9, window := true })) ∧
    Runs (.starvationGuardTrip 3) (st (dieD { prog with suspended := true, ready := true })) ∧
    Runs (.reconInterval) (st (ready)) :=
  ⟨runs_of (((H.1 (st (dieD { prog with suspended := true })) 3 { prog with suspended := true } yes yes).1 yes yes yes)),
    runs_of (((H.1 (st (dieD prog)) 3 prog yes yes).2.1 yes yes yes yes yes yes)),
    runs_of (((H.1 (st (dieD { kind := 2, sb := 9, window := true })) 3 { kind := 2, sb := 9, window := true } yes yes).2.2.1 yes yes yes)),
    runs_of (((H.1 (st (dieD { prog with suspended := true, ready := true })) 3 { prog with suspended := true, ready := true } yes yes).2.2.2 yes yes yes yes)),
    runs_of ((H.2 (st (ready)) yes))⟩

def closedD : Drive := { ready with media.sbs := [(7, { state := 3, slc := true, stream := 1, seq := 4, wptr := 9, recs := [(4, { keyRec with version := 5 })] }), (2000, { state := 3, stream := 1, seq := 5, wptr := 9, refresh := true })] }
def putReq : Req := req 2
def draining (slc : Bool) : Drive := { stored with media.sbs := [(9, { state := 2, slc := slc, stream := 1, wptr := 8, seq := 1 })] }
def drained (slc : Bool) : Drive := { stored with media.sbs := [(9, { state := 2, slc := slc, stream := 1, wptr := 9, seq := 1 })] }
def full : Drive := { draining true with media.shelfLimitMiB := 0 }
theorem wit_ProgramsAndErasesEnd (H : Obligations.ProgramsAndErasesEnd) :
    Runs (.programComplete 3) (st (shelved)) ∧
    Runs (.eraseComplete 3) (st (erasing)) ∧
    Runs (.programFail 3) (st (shelved)) ∧
    Runs (.eraseFail 3) (st (erasing)) :=
  ⟨runs_of (((H.1 (st (shelved)) 3 prog yes yes yes yes).1 0 { rec_ := keyRec } yes yes yes yes yes yes yes)),
    runs_of (((H.1 (st (erasing)) 3 lastErase yes yes yes yes).2 yes yes yes)),
    runs_of (((H.2 (st (shelved)) 3 prog yes yes yes).1 yes)),
    runs_of (((H.2 (st (erasing)) 3 lastErase yes yes yes).2 yes))⟩

theorem wit_ShelfAndClipping (H : Obligations.ShelfAndClipping) :
    Runs (.shelfDrain) (st ({ stored with kv.shelf := [(0, { rec_ := keyRec, target := some (9, 4) })], media.sbs := [(9, { state := 2, stream := 1, wptr := 8, seq := 1 })] })) ∧
    Runs (.shelfDrain) (st (draining false)) ∧
    Runs (.shelfDrain) (st (full)) ∧
    Runs (.shelfAdmit o1) (st (withReq ready putReq)) ∧
    Runs (.clipVictimSelect []) (st (closedD)) ∧
    Runs (.folding []) (st (closedD)) ∧
    Runs (.patrolVisit 7 [{ clean := false, weak := true }]) (st (closedD)) ∧
    Runs (.patrolLate 7) (st (closedD)) ∧
    Runs (.healthWearUpdate) (st (closedD)) :=
  ⟨runs_of (((H.1.1 (st ({ stored with kv.shelf := [(0, { rec_ := keyRec, target := some (9, 4) })], media.sbs := [(9, { state := 2, stream := 1, wptr := 8, seq := 1 })] })) 0 { rec_ := keyRec, target := some (9, 4) } yes yes).1 9 4 yes yes)),
    runs_of (((H.1.1 (st (draining false)) 0 { rec_ := keyRec } yes yes).2 false 9 8 (drained false) yes yes yes (fun h => nomatch h) yes)),
    runs_of ((H.1.1 (st (full)) 0 { rec_ := keyRec } yes yes).2 true 9 8 { drained true with media.shelfLimitMiB := 0 } yes yes yes yes (fun h => nomatch h)),
    runs_of ((H.1.2 (st (withReq ready putReq)) o1 putReq (.put o1) yes yes yes yes yes)),
    runs_of (((H.2.1 (st (closedD)) 2000 [] yes).1 yes)),
    runs_of (((H.2.1 (st (closedD)) 7 [] yes).2 yes)),
    runs_of (((H.2.2.1 (st (closedD)) 7 yes yes).1 [{ clean := false, weak := true }])),
    runs_of (((H.2.2.1 (st (closedD)) 7 yes yes).2 yes)),
    runs_of ((H.2.2.2 (st (closedD)) yes))⟩

def cold : Drive := { ({} : Drive) with mod.auxOn := true }
/-- A cold drive whose option area holds no bytes of an area. -/
def bare : Drive := { cold with optf.area := none }
def awake (d : Drive) (u : StartUp) : Drive := match (d.wakeUp u).readArea u.areaOk with
  | (true, x) => x.bankRead 1
  | (false, x) => x.event 0x041 Sev.error []
def choosing (d : Drive) (u : StartUp) : Drive := { awake d u with sec.tests := 3, mod.sbFailed := false, optf.xip := 0x90, optf.sbRewritten := false }
def picked (d : Drive) (u : StartUp) : Drive := match Drive.pickImages u (choosing d u) with
  | .inr x => x
  | .inl _ => {}
def noLoader : StartUp := { bad := [(2, 0)] }
def noArea : StartUp := { areaOk := false }
def hotStart : StartUp := { cycled := true, composite := 350 }
def wasHot : Drive := { bare with mod := { auxOn := true, thermalOff := true } }
def starting : Drive := { ready with mod := { mainOn := true, auxOn := true, devState := 0xD4 } }
def newFw : Image := { version := 3 }
def chunkReq (len off : Nat) (last : Bool) : Req := opReq 0x80 { flags := 1 + 128 * b2n last, offset := off, valueLen := len } (List.replicate len 0)
def downloading : Drive := { ready with optf.dl := 0xC1, optf.dlChannel := 1, optf.dlComponent := 1, optf.dlNext := 4096 }
theorem wit_StartsEnd (H : Obligations.StartsEnd) :
    Runs (.start {}) (st (bare)) ∧
    Runs (.start noArea) (st (cold)) ∧
    Runs (.start hotStart) (st (wasHot)) ∧
    Runs (.start noLoader) (st (bare)) ∧
    Runs (.start { cycled := false }) (st (wasHot)) ∧
    Runs (.startTimeout) (st ({ ready with mod := { mainOn := true, auxOn := true, devState := 0xD1, heldStart := some {} } })) ∧
    Runs (.deviceReady) (st (starting)) ∧
    Runs (.startTimeout) (st (starting)) ∧
    Runs (.clusterFault) (st (withReq starting (req 2))) :=
  ⟨runs_of ((((H.1 (st (bare)) {} (awake bare {}) yes yes yes yes yes yes).1 { component := 2 } { component := 4 } (picked bare {}) yes yes yes yes yes yes yes yes yes).1 yes yes)),
    runs_of ((((H.1 (st (cold)) noArea (awake cold noArea) yes yes yes yes yes yes).1 { component := 2 } { component := 4 } (picked cold noArea) yes yes yes yes yes yes yes yes yes).1 yes yes)),
    runs_of ((((H.1 (st (wasHot)) hotStart (awake wasHot hotStart) yes yes yes yes yes yes).1 { component := 2 } { component := 4 } (picked wasHot hotStart) yes yes yes yes yes yes yes yes yes).2 yes yes)),
    runs_of (((H.1 (st (bare)) noLoader (awake bare noLoader) yes yes yes yes yes yes).2 { component := 3 } yes yes yes yes yes)),
    runs_of ((H.2.1 (st (wasHot)) { cycled := false } yes yes)),
    runs_of ((H.2.2.1 (st ({ ready with mod := { mainOn := true, auxOn := true, devState := 0xD1, heldStart := some {} } })) yes yes yes)),
    runs_of ((H.2.2.2 (st (starting)) yes yes).1),
    runs_of ((H.2.2.2 (st (starting)) yes yes).2.1),
    runs_of ((H.2.2.2 (st (withReq starting (req 2))) yes yes).2.2)⟩

def complete : Drive := { ready with optf.dl := 0xC3, optf.dlComponent := 1, optf.fwB := some newFw }
def actReq (f : Nat) : Req := opReq 0x81 { flags := f }
def rollJob (todo : List Nat) : Job := { id := 4, kind := 0x0B, state := 0xB1, starter := 1, p0 := 1, todo := todo }
def rolling (todo new : List Nat) : Drive := { complete with jobs.table := [rollJob todo], jobs.newClusters := new, jobs.nextId := 5 }
def activating : Drive := { complete with sec.spdm := [(4, { phase := 1, operator := true })] }
theorem wit_DownloadsStore (H : Obligations.DownloadsStore) :
    Runs (.fwDownload o0 newFw) (st (withReq ready (chunkReq 4096 0 false))) ∧
    Runs (.fwDownload o0 newFw) (st (withReq downloading (chunkReq 16 4096 true))) ∧
    Runs (.downloadIdleTimeout) (st (downloading)) ∧
    Runs (.pldmFwUpdate 4 16 0 4096 false newFw) (st (ready)) :=
  ⟨runs_of (((H.1 (st (withReq ready (chunkReq 4096 0 false))) o0 (chunkReq 4096 0 false) newFw ⟨yes, rfl, rfl, rfl, yes⟩ yes yes yes yes (Or.inl rfl) (by rw [show (chunkReq 4096 0 false).body.length = 4096 from List.length_replicate ..]; decide +kernel)).1 yes yes yes yes)),
    runs_of (((H.1 (st (withReq downloading (chunkReq 16 4096 true))) o0 (chunkReq 16 4096 true) newFw (by constructor <;> decide +kernel) yes yes yes yes (Or.inl rfl) yes).2 yes yes yes yes yes yes yes yes yes)),
    runs_of ((H.2.1 (st (downloading)) yes yes)),
    runs_of ((H.2.2 (st (ready)) 4 16 0 4096 false newFw _ yes rfl yes yes yes yes))⟩

def jobReq (k n : Nat) (b : Bytes) : Req := opReq 0x30 { flags := k, ns := n, valueLen := b.length } b
def two (a b c : Nat) : Bytes := [BitVec.ofNat 8 a, BitVec.ofNat 8 b, BitVec.ofNat 8 c, 0, 0, 0, 0, 0]
def newJob (k n p0 p1 : Nat) : Job := { id := 0, kind := k, starter := 1, ns := n, p0 := p0, p1 := p1, channel := 1 }
def jobbing : Drive := { ringed 3 with
  kv.dir := [], kv.nss := [(5, { state := 0x21, owner := 1, gen := 1, topGen := 1 }), (6, { state := 0x21, gen := 1, topGen := 1 })]
  keys := { (ringed 3).keys with system := [(73732, { state := 0x3D, key := .raw 4 }), (73733, { state := 0x3D, key := .raw 5 })] } }
theorem wit_RollsActivate (H : Obligations.RollsActivate) :
    Runs (.fwActivate o0 0 0) (st (withReq complete (actReq 0))) ∧
    Runs (.fwActivateRestart o0 0 0) (st (withReq complete (actReq 2))) ∧
    Runs (.activateFirmware 4) (st (activating)) ∧
    Runs (.fwActivate (.twin 3) 0 0) (st ({ complete with twin.state := 2, twin.linkUp := true, twin.authenticated := true })) ∧
    Runs (.fwRollStep true) (st (rolling [3, 4] [1, 2])) ∧
    Runs (.fwRollStep true) (st (rolling [1, 2] [])) ∧
    Runs (.fwRollStep false) (st (rolling [1, 2] [])) ∧
    Runs (.fwRollStep true) (st (rolling [] [1, 2])) ∧
    Runs (.fwRollFailed 2) (st (rolling [3] [1, 2])) ∧
    Runs (.svnRaise) (st ({ ready with optf.fwA := some { svn := 3 } })) :=
  ⟨runs_of (((H.1 (st (withReq complete (actReq 0))) o0 (actReq 0) 0 0 (by constructor <;> decide +kernel) yes yes yes yes yes).1 yes yes yes)),
    runs_of (((H.1 (st (withReq complete (actReq 2))) o0 (actReq 2) 0 0 (by constructor <;> decide +kernel) yes yes yes yes yes).2 yes)),
    runs_of ((H.2.1 (st (activating)) 4 yes yes yes yes yes yes yes yes)),
    runs_of ((H.2.2.1 (st ({ complete with twin.state := 2, twin.linkUp := true, twin.authenticated := true })) 3 0 0 yes yes yes yes yes yes)),
    runs_of (((H.2.2.2.1 (st (rolling [3, 4] [1, 2])) (rollJob [3, 4]) yes yes).1 3 [4] true yes yes)),
    runs_of (((H.2.2.2.1 (st (rolling [1, 2] [])) (rollJob [1, 2]) yes yes).2.1 1 [2] yes yes yes)),
    runs_of (((H.2.2.2.1 (st (rolling [1, 2] [])) (rollJob [1, 2]) yes yes).2.2.1 1 [2] false yes yes yes)),
    runs_of (((H.2.2.2.1 (st (rolling [] [1, 2])) (rollJob []) yes yes).2.2.2.1 true yes)),
    runs_of (((H.2.2.2.1 (st (rolling [3] [1, 2])) (rollJob [3]) yes yes).2.2.2.2 2 yes)),
    runs_of ((H.2.2.2.2 (st ({ ready with optf.fwA := some { svn := 3 } })) { svn := 3 } yes yes yes yes))⟩

def jobIs (k s : Nat) : Job := { id := 4, kind := k, state := s, starter := 1, todo := [7, 8], p2 := 1, total := 2 }
def withJob (k s : Nat) : Drive := { closedD with jobs.table := [jobIs k s], jobs.nextId := 5 }
def jobOp (op : Nat) : Req := opReq op { offset := 4 }
def doneJob : Job := { id := 4, kind := 2, state := 0xB1, starter := 1, p2 := 1, total := 2, done_ := 2 }
def doneD : Drive := { closedD with jobs.table := [doneJob], jobs.nextId := 5 }
theorem wit_JobsStart (H : Obligations.JobsStart) :
    Runs (.clipForce o0) (st (withReq jobbing (jobReq 1 0 (two 0 3 0)))) ∧
    Runs (.patrolFull o0) (st (withReq jobbing (jobReq 2 0 []))) ∧
    Runs (.nsSanitize o0) (st (withReq { jobbing with twin.state := 4 } (jobReq 3 5 []))) ∧
    Runs (.nsRekey o0) (st (withReq jobbing (jobReq 4 5 []))) ∧
    Runs (.dieRetire o0) (st (withReq jobbing (jobReq 5 0 (two 3 2 0)))) ∧
    Runs (.twinResync o0) (st (withReq jobbing (jobReq 6 0 (two 1 0 0)))) ∧
    Runs (.nsMigrate o0) (st (withReq jobbing (jobReq 7 5 (two 9 8 0)))) ∧
    Runs (.nsExport o0) (st (withReq jobbing (jobReq 8 5 (two 0 6 0)))) ∧
    Runs (.nsImport o0) (st (withReq jobbing (jobReq 9 5 (two 0 6 1)))) ∧
    Runs (.selftestExt o0) (st (withReq jobbing (jobReq 10 0 []))) ∧
    Runs (.dieUnresponsive 9) (st (jobbing)) :=
  ⟨runs_of ((H.1 (st (withReq jobbing (jobReq 1 0 (two 0 3 0)))) o0 (jobReq 1 0 (two 0 3 0)) (.clipForce o0) 1 3 0 (newJob 1 0 3 0) (by constructor <;> decide +kernel) yes yes yes yes yes (Or.inr rfl) yes yes yes yes yes yes yes yes yes yes yes)),
    runs_of ((H.1 (st (withReq jobbing (jobReq 2 0 []))) o0 (jobReq 2 0 []) (.patrolFull o0) 2 0 0 (newJob 2 0 0 0) (by constructor <;> decide +kernel) yes yes yes yes yes (Or.inr rfl) yes yes yes yes yes yes yes yes yes yes yes)),
    runs_of ((H.1 (st (withReq { jobbing with twin.state := 4 } (jobReq 3 5 []))) o0 (jobReq 3 5 []) (.nsSanitize o0) 3 0 0 (newJob 3 5 0 0) (by constructor <;> decide +kernel) yes yes yes yes yes (Or.inl rfl) yes yes yes yes yes yes yes yes yes yes yes)),
    runs_of ((H.1 (st (withReq jobbing (jobReq 4 5 []))) o0 (jobReq 4 5 []) (.nsRekey o0) 4 0 0 (newJob 4 5 0 0) (by constructor <;> decide +kernel) yes yes yes yes yes (Or.inl rfl) yes yes yes yes yes yes yes yes yes yes yes)),
    runs_of ((H.1 (st (withReq jobbing (jobReq 5 0 (two 3 2 0)))) o0 (jobReq 5 0 (two 3 2 0)) (.dieRetire o0) 5 3 2 (newJob 5 0 3 2) (by constructor <;> decide +kernel) yes yes yes yes yes (Or.inr rfl) yes yes yes yes yes yes yes yes yes yes yes)),
    runs_of ((H.1 (st (withReq jobbing (jobReq 6 0 (two 1 0 0)))) o0 (jobReq 6 0 (two 1 0 0)) (.twinResync o0) 6 1 0 (newJob 6 0 1 0) (by constructor <;> decide +kernel) yes yes yes yes yes (Or.inr rfl) yes yes yes yes yes yes yes yes yes yes yes)),
    runs_of ((H.1 (st (withReq jobbing (jobReq 7 5 (two 9 8 0)))) o0 (jobReq 7 5 (two 9 8 0)) (.nsMigrate o0) 7 9 8 (newJob 7 5 9 8) (by constructor <;> decide +kernel) yes yes yes yes yes (Or.inl rfl) yes yes yes yes yes yes yes yes yes yes yes)),
    runs_of ((H.1 (st (withReq jobbing (jobReq 8 5 (two 0 6 0)))) o0 (jobReq 8 5 (two 0 6 0)) (.nsExport o0) 8 6 0 (newJob 8 5 6 0) (by constructor <;> decide +kernel) yes yes yes yes yes (Or.inl rfl) yes yes yes yes yes yes yes yes yes yes yes)),
    runs_of ((H.1 (st (withReq jobbing (jobReq 9 5 (two 0 6 1)))) o0 (jobReq 9 5 (two 0 6 1)) (.nsImport o0) 9 6 1 (newJob 9 5 6 1) (by constructor <;> decide +kernel) yes yes yes yes yes (Or.inl rfl) yes yes yes yes yes yes yes yes yes yes yes)),
    runs_of ((H.1 (st (withReq jobbing (jobReq 10 0 []))) o0 (jobReq 10 0 []) (.selftestExt o0) 10 0 0 (newJob 10 0 0 0) (by constructor <;> decide +kernel) yes yes yes yes yes (Or.inr rfl) yes yes yes yes yes yes yes yes yes yes yes)),
    runs_of ((H.2 (st (jobbing)) 9 yes yes yes yes yes yes))⟩

def dest : Migration := { ns := 6, job := 4, source := false, phase := 1, destElder := 9 }
def src (p : Nat) : Migration := { ns := 5, job := 4, source := true, phase := p, destElder := 9, destYounger := 8 }
def migJob : Job := { id := 4, kind := 7, state := 0xB1, starter := 1, ns := 5, p0 := 9, p1 := 8 }
def sending (p : Nat) : Drive := { ringed 2 with ring.migrations := [src p], jobs.table := [migJob], jobs.nextId := 5 }
def receiving : Drive := { ringed 4 with ring.migrations := [dest], kv.nss := [(6, { state := 0x21, owner := 1, gen := 1, topGen := 1 })], kv.dir := [] }
def movedRec : Rec := { keyRec with ns := 6, version := 9 }
theorem wit_JobsProceed (H : Obligations.JobsProceed) :
    Runs (.jobSuspend o0) (st (withReq (withJob 2 0xB1) (jobOp 0x31))) ∧
    Runs (.jobResume o0) (st (withReq (withJob 2 0xB3) (jobOp 0x32))) ∧
    Runs (.jobCancel o0) (st (withReq (withJob 2 0xB1) (jobOp 0x33))) ∧
    Runs (.jobStatus o0) (st (withReq (withJob 2 0xB1) (jobOp 0x34))) ∧
    Runs (.jobDequeue) (st (withJob 2 0xB0)) ∧
    Runs (.jobEntryExpiry 4) (st (withJob 2 0xB5)) ∧
    Runs (.jobSuspendedLong 4) (st (withJob 2 0xB3)) ∧
    Runs (.jobStep 4 {}) (st (withJob 2 0xB4)) ∧
    Runs (.jobStep 4 {}) (st (withJob 2 0xB2)) ∧
    Runs (.jobStep 4 {}) (st (doneD)) ∧
    Runs (.jobStep 4 {}) (st (withJob 2 0xB1)) ∧
    Runs (.jobStep 4 {}) (st (withJob 2 0xB1)) :=
  ⟨runs_of (((H.1.1 (st (withReq (withJob 2 0xB1) (jobOp 0x31))) o0 (jobOp 0x31) (jobIs 2 0xB1) yes yes).1 (by constructor <;> decide +kernel) yes (Or.inr ⟨rfl, by decide +kernel⟩))),
    runs_of (((H.1.1 (st (withReq (withJob 2 0xB3) (jobOp 0x32))) o0 (jobOp 0x32) (jobIs 2 0xB3) yes yes).2.1 (by constructor <;> decide +kernel) (Or.inr rfl))),
    runs_of (((H.1.1 (st (withReq (withJob 2 0xB1) (jobOp 0x33))) o0 (jobOp 0x33) (jobIs 2 0xB1) yes yes).2.2.1 (by constructor <;> decide +kernel) yes yes)),
    runs_of (((H.1.1 (st (withReq (withJob 2 0xB1) (jobOp 0x34))) o0 (jobOp 0x34) (jobIs 2 0xB1) yes yes).2.2.2 (by constructor <;> decide +kernel) yes)),
    runs_of ((H.1.2.1 (st (withJob 2 0xB0)) (jobIs 2 0xB0) yes yes yes)),
    runs_of (((H.1.2.2 (st (withJob 2 0xB5)) 4 (jobIs 2 0xB5) yes yes).1 yes)),
    runs_of (((H.1.2.2 (st (withJob 2 0xB3)) 4 (jobIs 2 0xB3) yes yes).2 yes)),
    runs_of (((H.2 (st (withJob 2 0xB4)) 4 {} (jobIs 2 0xB4) yes yes).1 yes)),
    runs_of (((H.2 (st (withJob 2 0xB2)) 4 {} (jobIs 2 0xB2) yes yes).2.1 yes)),
    runs_of ((H.2 (st (doneD)) 4 {} doneJob yes yes).2.2.1 0 _ _ yes rfl),
    runs_of ((H.2 (st (withJob 2 0xB1)) 4 {} (jobIs 2 0xB1) yes yes).2.2.2.1 _ _ yes rfl),
    runs_of (((H.2 (st (withJob 2 0xB1)) 4 {} (jobIs 2 0xB1) yes yes).2.2.2.2 7 [8] yes yes yes yes yes))⟩

def sbReq : OpHdr := { opcode := 0x50, valueLen := 1, offset := 0x100 }
def tcmD : Drive := { ready with optf.xip := 0x92 }
theorem wit_MigrationsMove (H : Obligations.MigrationsMove) :
    Runs (.migrateData 9 1 6 4 [movedRec]) (st (receiving)) ∧
    Runs (.migrateCtl 9 1 5 4 (.ready 7)) (st (sending 0)) ∧
    Runs (.migrateCtl 9 1 5 4 (.refused 32)) (st (sending 0)) ∧
    Runs (.migrateCtl 9 1 5 4 .finished) (st (sending 3)) ∧
    Runs (.migrateCtl 9 1 6 4 .finish) (st (receiving)) ∧
    Runs (.migrateCtl 9 1 6 4 .abort) (st (receiving)) ∧
    Runs (.migrateCtl 9 1 7 4 (.start 1 0 false false 3 8)) (st (receiving)) :=
  ⟨runs_of ((H.1 (st (receiving)) 9 1 6 4 movedRec 2 (by constructor <;> decide +kernel) yes yes yes yes yes yes)),
    runs_of (((H.2.1 (st (sending 0)) 9 1 5 4 (src 0) (by constructor <;> decide +kernel) yes yes yes).1 7 yes)),
    runs_of (((H.2.1 (st (sending 0)) 9 1 5 4 (src 0) (by constructor <;> decide +kernel) yes yes yes).2.1 32 migJob yes yes yes)),
    runs_of (((H.2.1 (st (sending 3)) 9 1 5 4 (src 3) (by constructor <;> decide +kernel) yes yes yes).2.2 yes)),
    runs_of (((H.2.2.1 (st (receiving)) 9 1 6 4 dest (by constructor <;> decide +kernel) yes).1)),
    runs_of (((H.2.2.1 (st (receiving)) 9 1 6 4 dest (by constructor <;> decide +kernel) yes).2)),
    runs_of ((H.2.2.2 (st (receiving)) 9 1 7 4 1 0 3 8 false false (by constructor <;> decide +kernel) yes yes yes yes yes yes))⟩

theorem wit_SidebandAnswers (H : Obligations.SidebandAnswers) :
    Runs (.opMessage 0 6 sbReq []) (st (ready)) ∧
    Runs (.opMessage 0 6 sbReq []) (st (cold)) ∧
    Runs (.getSensorReading 0 10) (st (tcmD)) ∧
    Runs (.getStateSensorReadings 0 10) (st (tcmD)) ∧
    Runs (.getSensorReading 0 10) (st (ready)) ∧
    Runs (.getStateSensorReadings 0 20) (st (ready)) ∧
    Runs (.getStateSensorReadings 0 21) (st (ready)) ∧
    Runs (.mctpControl 1 9) (st (ready)) ∧
    Runs (.mctpControl 2 9) (st (ready)) :=
  ⟨runs_of ((H.1 (st (ready)) 0 6 sbReq [] _ yes rfl yes yes yes (Or.inr rfl) yes yes yes yes yes)),
    runs_of ((H.2.1 (st (cold)) 0 6 sbReq [] yes yes yes yes yes yes yes)),
    runs_of ((((H.2.2.1 (st (tcmD)) 0 10 yes).1 yes).1)),
    runs_of ((((H.2.2.1 (st (tcmD)) 0 10 yes).1 yes).2)),
    runs_of (((H.2.2.1 (st (ready)) 0 10 yes).2 yes).1 _ _ rfl),
    runs_of ((((H.2.2.1 (st (ready)) 0 10 yes).2 yes).2.1)),
    runs_of ((((H.2.2.1 (st (ready)) 0 10 yes).2 yes).2.2)),
    runs_of (((H.2.2.2 (st (ready)) 9 yes).1 yes yes)),
    runs_of (((H.2.2.2 (st (ready)) 9 yes).2))⟩

/-- A drive with superblock 9 open in SLC mode, holding a record. -/
def openSb : Drive := { ready with media.sbs := [(9, { state := 2, slc := true, stream := 1, wptr := 8, seq := 1, recs := [(4, keyRec)] })] }
/-- A drive that has been zeroised. -/
def zeroed : Drive := { mod := { mainOn := true, auxOn := true, devState := 0xD9 }, sec := { state := 0xA4, zeroFuse := true } }

theorem wit_StepRunsTheFront (H : Obligations.StepRunsTheFront) :
    step { pending := [.ping o1, .put o1], dev := ready } = exec (.ping o1) { pending := [.put o1], dev := ready } ∧ ∃ t, step (st ready) = .next t ∧ t.dev.now = 1 :=
  ⟨H.1 _ _ _ rfl, _, H.2 _ rfl, by decide +kernel⟩
theorem wit_TablesKeepTheirForm (H : Obligations.TablesKeepTheirForm) : ∃ t, step ({ pending := [.shelfDrain], dev := openSb }) = .next t ∧
    t.dev.jobs.table.length ≤ 256 ∧ Tbl.ordered t.dev.media.sbs ∧ t.dev.ShelfNumbered := by
  have h : ∃ t, step ({ pending := [.shelfDrain], dev := openSb }) = .next t := ⟨_, rfl⟩
  obtain ⟨t, h⟩ := h
  have k := H { pending := [.shelfDrain], dev := openSb } t h
  exact ⟨t, h, k.1 yes, k.2.1 yes, k.2.2 numbered⟩
theorem wit_OperatingTimeNeverReturns (H : Obligations.OperatingTimeNeverReturns) : ∃ t, step (st ready) = .next t ∧ (st ready).dev.now ≤ t.dev.now := by
  have h : ∃ t, step (st ready) = .next t := ⟨_, rfl⟩
  obtain ⟨t, h⟩ := h
  exact ⟨t, h, (H (st ready) t ⟨by decide +kernel, fun _ h => by cases h; rfl⟩ h).2⟩
theorem wit_ZeroisationIsFinal (H : Obligations.ZeroisationIsFinal) : ∃ t, step ({ pending := [.start {}], dev := zeroed }) = .next t ∧ t.dev.sec.zeroFuse = true := by
  have h : ∃ t, step ({ pending := [.start {}], dev := zeroed }) = .next t := ⟨_, rfl⟩
  obtain ⟨t, h⟩ := h
  exact ⟨t, h, (H { pending := [.start {}], dev := zeroed } t ⟨fun _ => Or.inr rfl, fun _ => ⟨rfl, rfl⟩⟩ h).2.1 rfl⟩
theorem wit_SuperblockKeepsItsMode (H : Obligations.SuperblockKeepsItsMode) : ∃ t, step ({ pending := [.shelfDrain], dev := openSb }) = .next t ∧ ((t.dev.sb 9).slc = (openSb.sb 9).slc ∨ (openSb.sb 9).erasures < (t.dev.sb 9).erasures) := by
  have h : ∃ t, step ({ pending := [.shelfDrain], dev := openSb }) = .next t := ⟨_, rfl⟩
  obtain ⟨t, h⟩ := h
  exact ⟨t, h, H { pending := [.shelfDrain], dev := openSb } t 9 (by decide +kernel) h (by decide +kernel)⟩
theorem wit_ProgrammedRecordsStay (H : Obligations.ProgrammedRecordsStay) : ∃ t, step ({ pending := [.shelfDrain], dev := openSb }) = .next t ∧ ((openSb.sb 9).erasures < (t.dev.sb 9).erasures ∨ ∀ p ∈ (openSb.sb 9).recs, p ∈ (t.dev.sb 9).recs) := by
  have h : ∃ t, step ({ pending := [.shelfDrain], dev := openSb }) = .next t := ⟨_, rfl⟩
  obtain ⟨t, h⟩ := h
  exact ⟨t, h, H { pending := [.shelfDrain], dev := openSb } t 9 (by decide +kernel) h (fun u h => by cases h) (by decide +kernel)⟩
theorem wit_RegistersHaveTheirWriters (H : Obligations.RegistersHaveTheirWriters) : ∃ t, exec (.put o1) (st ready) = .next t ∧ t.dev.ident = ready.ident := by
  obtain ⟨t, h, _, hr⟩ := H (.put o1) (st ready)
  exact ⟨t, h, hr .identity (by decide +kernel)⟩
theorem wit_todForm : (7 : Nat) < 2 ^ 48 ∧ tod0.seconds = 7 ∧ tod0.utcOffset < 32768 ∧ tod0.flags < 256 ∧ tod0.clockClass < 256 := by decide +kernel
theorem wit_StripesSpreadOverChannels (H : Obligations.StripesSpreadOverChannels) : channelOf 0 ≠ channelOf 64 :=
  H.2.1 0 64 (by decide +kernel) (by decide +kernel)

end Sys2Proof.Tests
end

-- Proofs of the scope chapter: when a deadline is passed (R12).
section
namespace Sys2Proof.Machine
open Sys2Proof

/-- The natural number that `passed` compares with 2^39 is the integer difference taken modulo 2^40: adding 2^40 keeps the truncated
subtraction from reaching 0, and vanishes modulo 2^40. -/
theorem passed_residue (now deadline : Nat) :
    (((now % 2 ^ 40 + 2 ^ 40 - deadline % 2 ^ 40) % 2 ^ 40 : Nat) : Int) = ((now : Int) - deadline) % 2 ^ 40 := by
  have hle : deadline % 2 ^ 40 ≤ now % 2 ^ 40 + 2 ^ 40 :=
    (Nat.mod_lt deadline (by decide)).le.trans (Nat.le_add_left ..)
  rw [Int.natCast_mod, Nat.cast_sub hle]
  push_cast
  rw [add_sub_right_comm, Int.add_emod_right, ← Int.sub_emod]

/-- R12 over the integers, for every time and deadline. -/
theorem passed_iff_emod (now deadline : Nat) :
    passed now deadline = true ↔ ((now : Int) - deadline) % 2 ^ 40 < 2 ^ 39 := by
  rw [passed, decide_eq_true_iff, ← passed_residue]
  exact_mod_cast Iff.rfl

/-- Operating time may be reduced modulo 2^40 before the comparison, as `Drive.nowUs` does. -/
theorem passed_now_mod (now deadline : Nat) : passed (now % 2 ^ 40) deadline = passed now deadline := by
  rw [passed, Nat.mod_mod, passed]

/-- The drive compares a tag's deadline with the whole microseconds of its operating time. -/
theorem Drive.late_eq_passed (d : Drive) (t : WorkTag) : d.late t = passed (d.time.opNs / 1000) t.deadline :=
  passed_now_mod (d.time.opNs / 1000) t.deadline

/-- Settles O11: the comparison of naturals is R12's over the integers, and the drive makes it with its own operating time. -/
theorem deadlinesPass : Obligations.DeadlinesPass := by
  unfold Obligations.DeadlinesPass
  refine ⟨passed_iff_emod, fun d t => ?_⟩
  rw [Drive.late_eq_passed]
  exact passed_iff_emod (d.time.opNs / 1000) t.deadline

end Sys2Proof.Machine
end

-- Proofs of the key-value service: what an operation leaves of the clock and adds to the outputs.
section
namespace Sys2Proof.Machine
open Sys2Proof

/-! ## Outputs are only added, and the clock stands -/

/-- `b` comes of `a` without time passing: its outputs are those of `a` and later ones. -/
structure Drive.Instantly (a b : Drive) : Prop where
  out : a.outFrom b
  time : b.time = a.time

theorem Drive.Instantly.refl (d : Drive) : d.Instantly d := ⟨d.outFrom_refl, rfl⟩

theorem Drive.Instantly.trans {a b c : Drive} (h : a.Instantly b) (k : b.Instantly c) : a.Instantly c :=
  ⟨h.out.trans k.out, k.time.trans h.time⟩

/-- What changes neither outputs nor time. -/
theorem Drive.Instantly.quiet {ps : List Part} {a b c : Drive} (h : a.Instantly b) (k : b.changesOnly ps c)
    (ho : ps.contains Part.out = false) (ht : ps.contains Part.time = false) : a.Instantly c :=
  h.trans ⟨Drive.outFrom_of_eq (k.out ho), k.time ht⟩

/-- What adds outputs and leaves the time, by its frame. -/
theorem Drive.Instantly.framed {ps : List Part} {a b c : Drive} (h : a.Instantly b) (k : b.changesOnly ps c)
    (ho : b.outFrom c) (ht : ps.contains Part.time = false) : a.Instantly c :=
  h.trans ⟨ho, k.time ht⟩

theorem Drive.Instantly.foldl {α : Type} {a b : Drive} {f : Drive → α → Drive} (h : a.Instantly b)
    (hf : ∀ (d : Drive) x, d.Instantly (f d x)) (l : List α) : a.Instantly (l.foldl f b) := by
  induction l generalizing b with
  | nil => exact h
  | cons x l ih => exact ih (h.trans (hf b x))

theorem Drive.Instantly.ite {a b c : Drive} {p : Prop} [Decidable p] (hb : a.Instantly b) (hc : a.Instantly c) :
    a.Instantly (if p then b else c) := by
  split
  · exact hb
  · exact hc

/-- A change of parts that are neither outputs nor time. -/
theorem Drive.Instantly.upd {a b : Drive} {kv : Kv} {media : Media} {twin : Twin} {ring : Ring} {keys : Keys} {holly : Holly}
    {xp : Xport} {sec : Sec} {mod : Module} {port : Ports} {privet : Privet} {rec_ : Thicket} {meter : Meter} {power : Power} {therm : Therm}
    {health : Health} {flag : Flag} {optf : Optf} {jobs : Jobs} {chans : Tbl MgmtChan} {saved : Health} {ident : Ident} {free : Nat}
    (h : a.Instantly b) :
    a.Instantly (Drive.mk kv media twin ring keys holly xp b.time sec mod port privet rec_ meter power therm health flag optf jobs chans
      saved ident b.out free) := h.trans ⟨⟨[], rfl⟩, rfl⟩

section
variable {a b : Drive} (h : a.Instantly b)
include h

theorem Drive.Instantly.emit (o : Out) : a.Instantly (b.emit o) :=
  h.trans ⟨Drive.emit_outFrom o b, rfl⟩
theorem Drive.Instantly.reply (o : Origin) (x : OpHdr) (body : Bytes) : a.Instantly (b.reply o x body) :=
  h.framed (Drive.reply_frame o x body b) (Drive.reply_outFrom o x body b).1 rfl
theorem Drive.Instantly.refuse (r : Req) (st v off : Nat) : a.Instantly (b.refuse r st v off) :=
  h.reply ..
theorem Drive.Instantly.event (src sev : Nat) (words : List Nat) (tag : Option WorkTag) :
    a.Instantly (b.event src sev words tag) :=
  h.framed (Drive.event_frame ..) (Drive.event_outFrom ..) rfl
theorem Drive.Instantly.twinSend (m : TwinMsg) : a.Instantly (b.twinSend m) :=
  h.framed (Drive.twinSend_frame m b) (Drive.twinSend_outFrom m b) rfl
theorem Drive.Instantly.replyFrames (sid rid : Nat) (first last : Bool) (x : OpHdr) (body : Bytes) :
    a.Instantly (b.replyFrames sid rid first last x body) :=
  h.framed (Drive.replyFrames_frame ..) (Drive.replyFrames_outFrom ..) rfl
theorem Drive.Instantly.lastReply (sid : Nat) (late : Bool) : a.Instantly (b.lastReply sid late) :=
  h.framed (Drive.lastReply_frame ..) (Drive.lastReply_outFrom ..) rfl
theorem Drive.Instantly.useKey (slot ns gen : Nat) : a.Instantly (b.useKey slot ns gen) :=
  h.quiet (Drive.useKey_frame slot ns gen b) rfl rfl
theorem Drive.Instantly.delta (x : Delta) : a.Instantly (b.delta x) := h.quiet (Drive.delta_frame x b) rfl rfl
theorem Drive.Instantly.putReq (r : Req) : a.Instantly (b.putReq r) := h.quiet (Drive.putReq_frame r b) rfl rfl
theorem Drive.Instantly.dropReq (o : Origin) : a.Instantly (b.dropReq o) := h.quiet (Drive.dropReq_frame o b) rfl rfl
theorem Drive.Instantly.twinSeen (opId : Nat) (m : Option TwinMsg) : a.Instantly (b.twinSeen opId m) :=
  h.quiet (Drive.twinSeen_frame opId m b) rfl rfl
theorem Drive.Instantly.modSess (sid : Nat) (f : Session → Session) : a.Instantly (b.modSess sid f) :=
  h.quiet (Drive.modSess_frame sid f b) rfl rfl
theorem Drive.Instantly.modNs (n : Nat) (f : Ns → Ns) : a.Instantly (b.modNs n f) :=
  h.quiet (Drive.modNs_frame n f b) rfl rfl
theorem Drive.Instantly.modSb (n : Nat) (f : Superblock → Superblock) : a.Instantly (b.modSb n f) :=
  h.quiet (Drive.modSb_frame n f b) rfl rfl
theorem Drive.Instantly.setDie (n : Nat) (o : DieOp) : a.Instantly (b.setDie n o) :=
  h.quiet (Drive.setDie_frame n o b) rfl rfl
theorem Drive.Instantly.beginBusy (n : Nat) (o : DieOp) : a.Instantly (b.beginBusy n o) :=
  h.quiet (Drive.beginBusy_frame n o b) rfl rfl
theorem Drive.Instantly.beginRebuild (why : Nat) (j : ReadJob) : a.Instantly (b.beginRebuild why j) :=
  h.quiet (Drive.beginRebuild_frame why j b) rfl rfl
theorem Drive.Instantly.issueRead (j : ReadJob) : a.Instantly (b.issueRead j) :=
  h.quiet (Drive.issueRead_frame j b) rfl rfl
theorem Drive.Instantly.startAll (l : List ReadJob) : a.Instantly (startAll l b) :=
  h.quiet (startAll_frame l b) rfl rfl
theorem Drive.Instantly.cancelReads (o : Origin) : a.Instantly (b.cancelReads o) :=
  h.quiet (Drive.cancelReads_frame o b) rfl rfl
theorem Drive.Instantly.newOpId : a.Instantly b.newOpId.2 := h.quiet (Drive.newOpId_frame b) rfl rfl
theorem Drive.Instantly.fresh : a.Instantly b.fresh.2 := h.quiet (Drive.fresh_frame b) rfl rfl
theorem Drive.Instantly.meterReply (r : Req) : a.Instantly (b.meterReply r) :=
  h.quiet (Drive.meterReply_frame r b) rfl rfl

theorem Drive.Instantly.twinOp (op : TwinOp) : a.Instantly (b.twinOp op) :=
  Drive.Instantly.twinSend h.upd _

theorem Drive.Instantly.noteMismatch (n : Nat) (key : Bytes) : a.Instantly (b.noteMismatch n key) :=
  (h.fresh.fresh.event ..).ite h

theorem Drive.Instantly.countEcc (e : EccResult) : a.Instantly (b.countEcc e) := by
  unfold Drive.countEcc
  dsimp only
  exact h.upd.foldl (fun d _ => (Drive.Instantly.refl d).event ..) _

theorem Drive.Instantly.authFail (p : Place) (tag : WorkTag) : a.Instantly (b.authFail p tag) :=
  Drive.Instantly.event h.upd ..

theorem Drive.Instantly.forward (r : Req) (write : Bool) : a.Instantly (b.forward r write) :=
  h.ite ((h.newOpId.putReq _).twinOp _)

end

/-! ## Streams of a reply -/

section
variable {a b : Drive} (h : a.Instantly b)

theorem Drive.Instantly.issueReads (h : a.Instantly b) (l : List ReadJob) : a.Instantly (issueReads l b) := by
  induction l generalizing b with
  | nil => exact h
  | cons j l ih => exact ih (h.issueRead j)

include h

theorem Drive.Instantly.putStream (s : Stream) : a.Instantly (b.putStream s) := h.upd

theorem Drive.Instantly.issueChunk (s : Stream) : a.Instantly (b.issueChunk s) := (h.putStream _).ite (h.issueReads _)

omit h in
theorem Drive.Instantly.reissue (h : a.Instantly b) (p : Place) (l : List Stream) : a.Instantly (reissue p l b) := by
  induction l generalizing b with
  | nil => exact h
  | cons x l ih => exact ih (((h.putStream _).issueChunk _).ite h)

theorem Drive.Instantly.dropStream (o : Origin) : a.Instantly (b.dropStream o) := by
  have hc : a.Instantly (Drive.cancelReads o { b with kv.streams := b.kv.streams.filter (fun x => x.origin ≠ o) }) :=
    Drive.Instantly.cancelReads h.upd o
  unfold Drive.dropStream
  split
  · exact h
  · exact hc.ite (hc.reissue ..)

end

end Sys2Proof.Machine
end

-- Proofs of the key-value service: deadlines that pass (R38, R112, R476).
section
namespace Sys2Proof.Machine
open Sys2Proof

/-! ## Time reaches a deadline -/

/-- The drive when a deadline has come: as it is, if it has passed already. -/
def Drive.atDeadline (t : Nat) (d : Drive) : Drive :=
  if passed d.nowUs t then d else d.advanceTo ((d.now / 1000 + (t + 2 ^ 40 - d.nowUs) % 2 ^ 40) * 1000)

theorem Drive.atDeadline_of_late {t : Nat} {d : Drive} (h : passed d.nowUs t = true) : d.atDeadline t = d := if_pos h

theorem Drive.atDeadline_of_early {t : Nat} {d : Drive} (h : ¬passed d.nowUs t = true) :
    d.atDeadline t = d.advanceTo ((d.now / 1000 + (t + 2 ^ 40 - d.nowUs) % 2 ^ 40) * 1000) := if_neg h

theorem passed_of_residue {now t : Nat} (h : now % 2 ^ 40 = t % 2 ^ 40) : passed now t = true := by
  rw [passed, h, Nat.add_sub_cancel_left, Nat.mod_self]
  exact decide_eq_true (by positivity)

theorem Drive.now_congr {a b : Drive} (h : a.time = b.time) : a.now = b.now := congrArg Sprig.opNs h

theorem Drive.nowUs_congr {a b : Drive} (h : a.time = b.time) : a.nowUs = b.nowUs :=
  congrArg (fun t => t.opNs / 1000 % 2 ^ 40) h

theorem Drive.now_le_atDeadline (t : Nat) (d : Drive) : d.now ≤ (d.atDeadline t).now := by
  unfold Drive.atDeadline
  split
  · exact le_refl _
  · rw [Drive.advanceTo_now]
    exact le_max_left ..

theorem deadline_residue (n t : Nat) :
    max n ((n / 1000 + (t + 2 ^ 40 - n / 1000 % 2 ^ 40) % 2 ^ 40) * 1000) / 1000 % 2 ^ 40 % 2 ^ 40 = t % 2 ^ 40 := by
  omega

theorem Drive.passed_atDeadline (t : Nat) (d : Drive) : passed (d.atDeadline t).nowUs t = true := by
  by_cases hp : passed d.nowUs t = true
  · rw [Drive.atDeadline_of_late hp]
    exact hp
  · rw [Drive.atDeadline_of_early hp]
    refine passed_of_residue ?_
    have hnow := Drive.advanceTo_now ((d.now / 1000 + (t + 2 ^ 40 - d.nowUs) % 2 ^ 40) * 1000) d
    have hres := deadline_residue d.now t
    generalize d.advanceTo _ = z at hnow ⊢
    rw [Drive.nowUs, ← Drive.now, hnow]
    exact hres

theorem Drive.atDeadline_kv (t : Nat) (d : Drive) : (d.atDeadline t).kv = d.kv := by
  unfold Drive.atDeadline
  split <;> simp

/-! ## The members of a batch -/

theorem memberData_length (l : List Member) (b : Bytes) : (memberData l b).length = l.length := by
  induction l generalizing b with
  | nil => rfl
  | cons m l ih => exact congrArg (· + 1) (ih _)

theorem parseMembers_length_le (b : Bytes) : (parseMembers b).length ≤ memberCount b := by
  simp [parseMembers, memberData_length]

/-! ## Any request ends with a status (log entry 66) -/

theorem Drive.refuseAny_time (r : Req) (st : Nat) (d : Drive) : (d.refuseAny r st).time = d.time := by
  unfold Drive.refuseAny Drive.batchWhole
  dsimp only
  split
  · split <;> exact Drive.reply_time ..
  · exact Drive.refuse_time ..

theorem Drive.refuseAny_req? (r : Req) (st : Nat) (d : Drive) : (d.refuseAny r st).req? r.origin = none := by
  unfold Drive.refuseAny Drive.batchWhole
  dsimp only
  split
  · split <;> exact Drive.reply_req? ..
  · exact Drive.reply_req? ..

theorem Drive.refuseAny_mem {r : Req} (ha : r.hdr.opcode ≠ 0x10) (hb : r.hdr.opcode ≠ 0x11) (st : Nat) (d : Drive) :
    Out.reply r.origin { refusedHdr r.hdr with status := st } [] ∈ (d.refuseAny r st).out := by
  rw [Drive.refuseAny, if_neg (by simp [ha, hb])]
  exact Drive.refuse_mem r st d 0 0

theorem Drive.refuseAny_atomic_mem {r : Req} (ha : r.hdr.opcode = 0x10) (st : Nat) (d : Drive) :
    ∃ h rs, Out.reply r.origin h (resultsBytes rs) ∈ (d.refuseAny r st).out ∧ h.status = st ∧
      rs.length = (parseMembers r.body).length ∧ ∀ x ∈ rs, x.applied = false := by
  rw [Drive.refuseAny, if_pos (.inl ha), Drive.batchWhole, if_pos ha]
  refine ⟨_, _, Drive.reply_mem .., rfl, List.length_map .., fun x hx => ?_⟩
  obtain ⟨m, -, rfl⟩ := List.mem_map.mp hx
  rfl

/-- The check of order 5 on a member fails with NOT_PERMITTED alone. -/
theorem Drive.memberCheck_five (d : Drive) (r : Req) (tenant : Nat) (m : Member) (st : Nat) :
    (d.memberCheck r tenant m 5).getD st = st ∨ (d.memberCheck r tenant m 5).getD st = St.notPermitted := by
  have h5 : d.memberCheck r tenant m 5 =
      if r.hdr.tenant = tenant ∧ d.nsOwned m.ns tenant = true then none else some St.notPermitted := rfl
  rw [h5]
  split
  · exact .inl rfl
  · exact .inr rfl

theorem Drive.refuseAny_batch_mem {r : Req} (hb : r.hdr.opcode = 0x11) (hr : r.results = []) (st : Nat) (d : Drive) :
    ∃ h rs, Out.reply r.origin h (resultsBytes rs) ∈ (d.refuseAny r st).out ∧ h.status = St.ok ∧
      rs.length = (parseMembers r.body).length ∧ ∀ x ∈ rs, x.applied = false ∧ (x.status = st ∨ x.status = St.notPermitted) := by
  rw [Drive.refuseAny, if_pos (.inr hb), Drive.batchWhole, if_neg (by simp [hb])]
  refine ⟨_, _, Drive.reply_mem .., rfl, by simp [hr], fun x hx => ?_⟩
  rw [hr, List.nil_append] at hx
  obtain ⟨m, -, rfl⟩ := List.mem_map.mp hx
  exact ⟨rfl, Drive.memberCheck_five ..⟩

/-! ## A BATCH in execution whose deadline has passed -/

theorem Drive.nextMember_of_noParts {r : Req} (h : r.parts = []) (d : Drive) : d.nextMember r = r.results.length := by
  simp [Drive.nextMember, h]

/-- The check of order 7 on a member is that of the deadline. -/
theorem Drive.memberCheck_of_seven {d : Drive} {r : Req} {tenant : Nat} {m : Member} {k : Nat} (hk : k = 7) :
    d.memberCheck r tenant m k = if passed d.nowUs r.tag.deadline then some St.deadlineMissed else none := by
  unfold Drive.memberCheck
  dsimp only
  split
  case h_2 => rfl
  case h_8 h7 _ _ _ _ _ => exact absurd hk h7
  all_goals omega

/-- Once the deadline has passed every member fails a check of orders 5 to 11. -/
theorem Drive.memberCheck_late {d : Drive} {r : Req} (h : passed d.nowUs r.tag.deadline = true) (tenant : Nat) (m : Member) :
    ∃ st, (List.range 7).findSome? (fun k => d.memberCheck r tenant m (k + 5)) = some st := by
  have h7 : d.memberCheck r tenant m (2 + 5) = some St.deadlineMissed := by rw [Drive.memberCheck_of_seven rfl, if_pos h]
  rw [← Option.isSome_iff_exists, List.findSome?_isSome_iff]
  exact ⟨2, List.mem_range.mpr (by decide), by rw [h7]; rfl⟩

theorem Req.setResult_append {r : Req} (h : r.parts = []) (x : MemberResult) :
    r.setResult r.results.length x = { r with results := r.results ++ [x] } := by
  simp [Req.setResult, h]

/-- Execution ends with an idle result for every member that had none. -/
theorem batchRun_late {o : Origin} (n : Nat) {d : Drive} {r : Req} (hr : d.req? o = some r) (hd : passed d.nowUs r.tag.deadline = true)
    (hp : r.parts = []) (hn : (parseMembers r.body).length < r.results.length + n) (hle : r.results.length ≤ (parseMembers r.body).length) :
    ∃ (tail : List MemberResult) (z : Drive), batchRun o n d = z.endBatch { r with results := r.results ++ tail } ∧ z.time = d.time ∧
      (z.req? o).isSome = true ∧ r.results.length + tail.length = (parseMembers r.body).length ∧ ∀ x ∈ tail, x.applied = false := by
  induction n generalizing d r with
  | zero => omega
  | succ n ih =>
    have ho : r.origin = o := Drive.req?_origin hr
    have hkeep : ({ r with parts := r.parts.filter (fun p => p.2 ≠ r.results.length) } : Req) = r := by
      have hnil : r.parts.filter (fun p => p.2 ≠ r.results.length) = r.parts := by rw [hp]; rfl
      rw [hnil]
    have hput : ∀ x : MemberResult, x.applied = false → r.results.length < (parseMembers r.body).length →
        ∃ (tail : List MemberResult) (z : Drive), batchRun o n (d.putReq (r.setResult r.results.length x)) =
            z.endBatch { r with results := r.results ++ tail } ∧ z.time = d.time ∧
          (z.req? o).isSome = true ∧ r.results.length + tail.length = (parseMembers r.body).length ∧ ∀ x ∈ tail, x.applied = false := by
      intro x hx hlt
      rw [Req.setResult_append hp]
      obtain ⟨tail, z, hz, ht, hq, hlen, happ⟩ := ih (d := d.putReq { r with results := r.results ++ [x] })
        (r := { r with results := r.results ++ [x] }) (Drive.req?_putReq hr ho) hd hp
        (by simp only [List.length_append, List.length_singleton]; omega) (by simpa using hlt)
      refine ⟨x :: tail, z, by rw [hz]; simp, ht, hq, ?_, ?_⟩
      · simp only [List.length_append, List.length_singleton] at hlen
        simp only [List.length_cons]
        omega
      · simpa [hx] using happ
    rw [batchRun, hr]
    dsimp only
    simp only [Drive.nextMember_of_noParts hp, hkeep]
    split
    · rename_i hnone
      refine ⟨[], d, by simp, rfl, by simp [hr], ?_, by simp⟩
      have := List.getElem?_eq_none_iff.mp hnone
      simp only [List.length_nil]
      omega
    · rename_i m hm
      have hlt := (List.getElem?_eq_some_iff.mp hm).1
      split
      · exact hput _ rfl hlt
      · obtain ⟨st, hst⟩ := Drive.memberCheck_late hd (d.originTenant r) m
        rw [hst]
        exact hput _ rfl hlt

/-- A batch that has all its results waits with them for what the applied ones need, or is answered. -/
theorem Drive.endBatch_cases {z : Drive} {o : Origin} {r : Req} (hq : (z.req? o).isSome = true) (ho : r.origin = o) (hs : r.silent = false) :
    (z.endBatch r).time = z.time ∧ ((∃ q, (z.endBatch r).req? o = some q ∧ q.phase = .waiting ∧ q.results = r.results) ∨
      ∃ h, h.status = St.ok ∧ Out.reply o h (resultsBytes r.results) ∈ (z.endBatch r).out) := by
  obtain ⟨r0, hr0⟩ := Option.isSome_iff_exists.mp hq
  unfold Drive.endBatch
  extract_lets dur wrote h h' z'
  have hz' : z'.req? o = some _ := Drive.req?_putReq hr0 ho
  have ht : z'.time = z.time := rfl
  clear_value z'
  subst ho
  rw [Drive.settle, hz']
  dsimp only
  rw [hs]
  split
  · exact ⟨ht, .inl ⟨_, hz', rfl, rfl⟩⟩
  · exact ⟨(Drive.reply_time ..).trans ht, .inr ⟨_, rfl, Drive.reply_mem ..⟩⟩

/-! ## DEADLINE_MISSED -/

/-- A request waits before it has taken effect (R38): the phases in which its deadline still counts. -/
def Drive.waits (d : Drive) (o : Origin) (r : Req) : Prop :=
  r.phase = .queued ∨ (r.phase = .active ∧ r.hdr.opcode ≠ 0x11) ∨ r.phase = .sealed ∨
    (r.phase = .streaming ∧ ∃ x, d.stream? o = some x ∧ x.started = false) ∨
    (r.phase = .atTwin ∧ isWrite r.hdr.opcode = false ∧ r.hdr.opcode ≠ 0x10)

/-- A request that waits ends with DEADLINE_MISSED at its deadline. -/
theorem deadlineMissed_of_waits {d : Drive} {o : Origin} {r : Req} (hr : d.req? o = some r) (hw : d.waits o r) :
    ∃ z : Drive, z.time = (d.atDeadline r.tag.deadline).time ∧ deadlineMissed o d = z.refuseAny r St.deadlineMissed := by
  unfold deadlineMissed
  rw [hr]
  dsimp -zeta only
  extract_lets reading forwarded left z
  rw [if_neg (by
    rcases hw with h | ⟨h, -⟩ | h | ⟨h, x, hx, hs⟩ | ⟨h, hwr, hop⟩
    · simp [h]
    · simp [h]
    · simp [h]
    · simp [h, reading, hx, hs]
    · simp [h, forwarded, hwr, hop])]
  have hz : z = d.atDeadline r.tag.deadline := rfl
  clear_value z forwarded
  rw [if_neg (by
    rintro ⟨hop, hact⟩
    rcases hw with h | ⟨h, hne⟩ | h | ⟨h, -⟩ | ⟨h, -⟩ <;> simp_all)]
  refine ⟨_, ?_, rfl⟩
  rw [((Drive.Instantly.refl _).dropStream o).time, ← hz]
  split
  · exact Drive.twinDone_time ..
  · rfl

/-- A BATCH in execution goes on at its deadline. -/
theorem deadlineMissed_of_batch {d : Drive} {o : Origin} {r : Req} (hr : d.req? o = some r) (hp : r.phase = .active)
    (hop : r.hdr.opcode = 0x11) : deadlineMissed o d = batchRun o (batchFuel r) (d.atDeadline r.tag.deadline) := by
  unfold deadlineMissed
  rw [hr]
  dsimp -zeta only
  extract_lets reading forwarded left z
  have hz : z = d.atDeadline r.tag.deadline := rfl
  clear_value z
  rw [if_neg (by simp [hp]), if_pos ⟨hop, hp⟩, hz]

/-- Settles O15: a request that waits ends at its deadline by `refuseAny`; a BATCH in execution gives an idle result to every member left. -/
theorem deadlinesAreTold : Obligations.DeadlinesAreTold := by
  unfold Obligations.DeadlinesAreTold
  refine ⟨fun s o r hlive hr hw => completes_onMain rfl hlive ?_, fun s o r hlive hr hp hop hparts hsil hle => completes_onMain rfl hlive ?_⟩
  · obtain ⟨z, hz, he⟩ := deadlineMissed_of_waits hr hw
    have ho := Drive.req?_origin hr
    subst ho
    have ht : (deadlineMissed r.origin s.dev).time = (s.dev.atDeadline r.tag.deadline).time := by rw [he, Drive.refuseAny_time, hz]
    refine ⟨?_, ?_, ?_, ?_, ?_, ?_⟩
    · rw [he]
      exact Drive.refuseAny_req? ..
    · rw [Drive.now_congr ht]
      exact Drive.now_le_atDeadline ..
    · rw [Drive.nowUs_congr ht]
      exact Drive.passed_atDeadline ..
    · rw [he]
      exact fun ha hb => Drive.refuseAny_mem ha hb ..
    · rw [he]
      exact fun ha => Drive.refuseAny_atomic_mem ha ..
    · rw [he]
      exact fun hb hres => Drive.refuseAny_batch_mem hb hres ..
  · have hd := Drive.passed_atDeadline r.tag.deadline s.dev
    have hr' : (s.dev.atDeadline r.tag.deadline).req? o = some r := by rwa [Drive.req?, Drive.atDeadline_kv]
    have ho : r.origin = o := Drive.req?_origin hr
    have hcount := parseMembers_length_le r.body
    obtain ⟨tail, z, hz, ht, hq, hlen, happ⟩ := batchRun_late (batchFuel r) hr' hd hparts (by unfold batchFuel; omega) hle
    obtain ⟨hte, hend⟩ := Drive.endBatch_cases (r := { r with results := r.results ++ tail }) hq ho hsil
    have htime : (deadlineMissed o s.dev).time = (s.dev.atDeadline r.tag.deadline).time := by
      rw [deadlineMissed_of_batch hr hp hop, hz, hte, ht]
    rw [← hz, ← deadlineMissed_of_batch hr hp hop] at hend
    refine ⟨?_, ?_, tail, hlen, happ, hend⟩
    · rw [Drive.now_congr htime]
      exact Drive.now_le_atDeadline ..
    · rw [Drive.nowUs_congr htime]
      exact hd

end Sys2Proof.Machine
end

-- Proofs of the key-value service: reads, their streams and their replies.
section
namespace Sys2Proof.Machine
open Sys2Proof

/-! ## What leaves the requests, the directory and the shelf alone -/

/-- Of the data service only the streams of replies differ. -/
def Drive.StreamsOnly (a b : Drive) : Prop := ∃ l, b.kv = { a.kv with streams := l }

theorem Drive.StreamsOnly.of_eq {a b : Drive} (h : b.kv = a.kv) : a.StreamsOnly b := ⟨a.kv.streams, h⟩

theorem Drive.StreamsOnly.trans {a b c : Drive} (h : a.StreamsOnly b) (k : b.StreamsOnly c) : a.StreamsOnly c := by
  obtain ⟨l, hl⟩ := h
  obtain ⟨m, hm⟩ := k
  exact ⟨m, by rw [hm, hl]⟩

theorem Drive.StreamsOnly.dir {a b : Drive} (h : a.StreamsOnly b) : b.kv.dir = a.kv.dir := by
  obtain ⟨l, hl⟩ := h
  rw [hl]

theorem Drive.StreamsOnly.req? {a b : Drive} (h : a.StreamsOnly b) (o : Origin) : b.req? o = a.req? o := by
  obtain ⟨l, hl⟩ := h
  rw [Drive.req?, hl, Drive.req?]

theorem Drive.putStream_streamsOnly (s : Stream) (d : Drive) : d.StreamsOnly (d.putStream s) := ⟨_, rfl⟩

theorem issueReads_frame (l : List ReadJob) (d : Drive) : d.changesOnly [.media] (issueReads l d) := by
  induction l generalizing d with
  | nil => exact d.changesOnly_refl _
  | cons j l ih => exact (Drive.issueRead_frame j d).step (ih _) (List.Subset.refl _)

theorem Drive.issueChunk_streamsOnly (s : Stream) (d : Drive) : d.StreamsOnly (d.issueChunk s) := by
  unfold Drive.issueChunk
  split
  · exact Drive.putStream_streamsOnly ..
  · exact .of_eq ((issueReads_frame _ d).kv rfl)

theorem reissue_streamsOnly (p : Place) (l : List Stream) (d : Drive) : d.StreamsOnly (reissue p l d) := by
  induction l generalizing d with
  | nil => exact .of_eq rfl
  | cons x l ih =>
    refine Drive.StreamsOnly.trans ?_ (ih _)
    split
    · exact (Drive.putStream_streamsOnly ..).trans (Drive.issueChunk_streamsOnly ..)
    · exact .of_eq rfl

theorem Drive.dropStream_streamsOnly (o : Origin) (d : Drive) : d.StreamsOnly (d.dropStream o) := by
  unfold Drive.dropStream
  split
  · exact .of_eq rfl
  · have hc : d.StreamsOnly (Drive.cancelReads o { d with kv.streams := d.kv.streams.filter (fun x => x.origin ≠ o) }) :=
      ⟨_, (Drive.cancelReads_frame o _).kv rfl⟩
    dsimp only
    split
    · exact hc
    · exact hc.trans (reissue_streamsOnly ..)

/-! ## Replies leave the directory alone -/

theorem Drive.reply_dir (o : Origin) (h : OpHdr) (b : Bytes) (d : Drive) : (d.reply o h b).kv.dir = d.kv.dir := by
  rcases Drive.reply_kv o h b d with hk | ⟨o', hk⟩ <;> rw [hk] <;> rfl

theorem Drive.lastReply_dir (sid : Nat) (late : Bool) (d : Drive) : (d.lastReply sid late).kv.dir = d.kv.dir := by
  unfold Drive.lastReply
  dsimp only
  split
  · rfl
  · split
    · rfl
    · split
      · rw [Drive.modSess_kv, Drive.answer_kv]
        rfl
      · rfl

theorem Drive.readHeader_kv (o : Origin) (h : OpHdr) (n : Nat) (d : Drive) : (d.readHeader o h n).kv = d.kv := by
  unfold Drive.readHeader
  dsimp only
  split <;> simp

theorem Drive.readChunk_kv (o : Origin) (i : Nat) (b : Bytes) (d : Drive) : (d.readChunk o i b).kv = d.kv := by
  unfold Drive.readChunk
  dsimp only
  split <;> simp

theorem sendChunks_kv (o : Origin) (v : Bytes) (lo hi n i : Nat) (d : Drive) : (sendChunks o v lo hi n i d).kv = d.kv := by
  induction n generalizing i d with
  | zero => rfl
  | succ n ih => exact (ih ..).trans (Drive.readChunk_kv ..)

theorem Drive.readTrailer_dir (o : Origin) (st : Nat) (recon rep : Bool) (chunk total : Nat) (d : Drive) :
    (d.readTrailer o st recon rep chunk total).kv.dir = d.kv.dir := by
  have hm : ∀ z : Drive, (match z.req? o with | some r => z.meterReply r | none => z).kv = z.kv := by
    intro z
    split <;> simp
  unfold Drive.readTrailer
  extract_lets z z'
  have hz : z.kv.dir = d.kv.dir := congrArg Kv.dir (hm d)
  replace hz : z'.kv.dir = d.kv.dir := hz
  clear_value z'
  split
  · simp [Drive.lastReply_dir, hz]
  · simp [hz]
  · exact hz

/-! ## The parts of a read's reply -/

theorem Drive.readHeader_emits (o : Origin) (x : OpHdr) (n : Nat) (d : Drive) : (d.emit (.reply o x [])).Instantly (d.readHeader o x n) := by
  unfold Drive.readHeader
  dsimp only
  split
  · exact (Drive.Instantly.refl _).replyFrames ..
  · exact (Drive.Instantly.refl _).twinSend _
  · exact Drive.Instantly.refl _

theorem Drive.readChunk_emits (o : Origin) (i : Nat) (x : Bytes) (d : Drive) : (d.emit (.data o i x)).Instantly (d.readChunk o i x) := by
  unfold Drive.readChunk
  dsimp only
  split
  · exact (Drive.Instantly.refl _).replyFrames ..
  · exact (Drive.Instantly.refl _).twinSend _
  · exact Drive.Instantly.refl _

/-- The trailer leaves once the request has been counted. -/
theorem Drive.readTrailer_emits (o : Origin) (st : Nat) (recon rep : Bool) (chunk total : Nat) (d : Drive) :
    ∃ z, d.Instantly z ∧ (z.emit (.trailer o st recon rep chunk total)).Instantly (d.readTrailer o st recon rep chunk total) := by
  unfold Drive.readTrailer
  extract_lets z z'
  have hz : d.Instantly z := by
    dsimp only [z]
    split
    · exact (Drive.Instantly.refl _).meterReply _
    · exact Drive.Instantly.refl _
  refine ⟨z, hz, ?_⟩
  have hz' : (z.emit (.trailer o st recon rep chunk total)).Instantly z' := (Drive.Instantly.refl _).dropReq _
  clear_value z'
  split
  · exact ((hz'.modSess ..).replyFrames ..).lastReply ..
  · exact (hz'.twinSeen ..).twinSend _
  · exact hz'

section
variable {a b : Drive} (h : a.Instantly b)
include h

theorem Drive.Instantly.readHeader (o : Origin) (x : OpHdr) (n : Nat) : a.Instantly (b.readHeader o x n) :=
  (h.emit _).trans (b.readHeader_emits o x n)

theorem Drive.Instantly.readChunk (o : Origin) (i : Nat) (x : Bytes) : a.Instantly (b.readChunk o i x) :=
  (h.emit _).trans (b.readChunk_emits o i x)

omit h in
theorem Drive.Instantly.sendChunks (h : a.Instantly b) (o : Origin) (v : Bytes) (lo hi n i : Nat) :
    a.Instantly (sendChunks o v lo hi n i b) := by
  induction n generalizing i b with
  | zero => exact h
  | succ n ih => exact ih (h.readChunk ..) _

theorem Drive.Instantly.readTrailer (o : Origin) (st : Nat) (recon rep : Bool) (chunk total : Nat) :
    a.Instantly (b.readTrailer o st recon rep chunk total) := by
  obtain ⟨z, hz, hk⟩ := b.readTrailer_emits o st recon rep chunk total
  exact ((h.trans hz).emit _).trans hk

theorem Drive.Instantly.endRead (s : Stream) (st chunk : Nat) : a.Instantly (b.endRead s st chunk) :=
  (h.dropStream _).readTrailer ..

theorem Drive.Instantly.refuseRead (r : Req) (st v : Nat) : a.Instantly (b.refuseRead r st v) :=
  (h.dropStream _).refuse ..

theorem Drive.Instantly.beginRead (r : Req) (x : Rec) (p : Place) (lo hi : Nat) (y : OpHdr) :
    a.Instantly (b.beginRead r x p lo hi y) := by
  unfold Drive.beginRead
  dsimp only
  split
  · exact (h.reply ..).ite (((h.readHeader ..).sendChunks ..).readTrailer ..)
  · exact Drive.Instantly.issueChunk (h.putReq _).upd _

theorem Drive.Instantly.withReq (o : Origin) (ops : List Nat) {f : Req → Drive → Drive} (hf : ∀ r, a.Instantly (f r b)) :
    a.Instantly (b.withReq o ops f) := by
  unfold Drive.withReq
  split
  · exact (hf _).ite h
  · exact h

theorem Drive.Instantly.keyedRead (o : Origin) (op : Nat) : a.Instantly (keyedRead o op b) := by
  refine h.withReq o [op] fun r => ?_
  dsimp only
  split
  · exact h.refuse ..
  split
  · exact h.refuse ..
  · exact h.forward ..
  refine .ite (h.refuse ..) (.ite (.ite (h.refuse ..) h) (.ite (h.refuse ..) (.ite h ?_)))
  have hn := h.noteMismatch r.hdr.ns r.key
  refine .ite ?_ ?_
  · split
    · exact hn.refuse ..
    · exact hn.reply ..
  · split
    · exact hn.refuse ..
    · split
      · exact hn.refuse ..
      · exact hn.refuse ..
      · exact hn.refuse ..
      · split
        · exact hn.refuse ..
        · exact hn.refuse ..
        · exact (hn.useKey ..).beginRead ..

theorem Drive.Instantly.mapLookup (sb gran : Nat) : a.Instantly (b.mapLookup sb gran) :=
  Drive.Instantly.upd (h.ite (h.countEcc _))

theorem Drive.Instantly.locGetRequest (o : Origin) : a.Instantly (locGetRequest o b) := by
  unfold Machine.locGetRequest locChecked
  refine h.withReq o [0x20] fun r => ?_
  dsimp only
  split
  · exact h.refuse ..
  refine .ite (.ite (h.forward ..) (h.refuse ..)) (.ite (h.refuse ..) (.ite (h.refuse ..) ?_))
  split
  · exact h.refuse ..
  refine .ite ((h.mapLookup ..).refuse ..) ?_
  split
  · exact (h.mapLookup ..).refuse ..
  · exact ((h.mapLookup ..).useKey ..).beginRead ..

/-! ## LIST -/

theorem Drive.Instantly.endList (r : Req) (items : List (Nat × Bytes)) (cut : Option Nat) : a.Instantly (b.endList r items cut) :=
  ((h.dropStream _).refuse ..).ite ((h.dropStream _).reply ..)

omit h in
theorem Drive.Instantly.listNext (h : a.Instantly b) (r : Req) (n : Nat) (s : Stream) : a.Instantly (listNext r n s b) := by
  induction n generalizing s with
  | zero => exact h
  | succ n ih =>
    unfold Machine.listNext
    split
    · exact h.endList ..
    · refine .ite ((h.putStream _).putReq _) ?_
      split
      · exact ih _
      · split
        · exact ih _
        · exact .ite (ih _) (h.endList ..)
        · exact ((h.putStream _).putReq _).issueChunk _

theorem Drive.Instantly.listRead (r : Req) (s : Stream) (unreadable : Bool) : a.Instantly (listRead r s unreadable b) := by
  unfold Machine.listRead
  split
  · exact h
  · split
    · exact h.listNext ..
    · exact .ite (h.listNext ..) (.ite (h.listNext ..) (h.endList ..))

/-! ## What a read that has come in leads to -/

theorem Drive.Instantly.rerunRead (r : Req) : a.Instantly (b.rerunRead r) := by
  have hd := (h.dropStream r.origin).putReq { r with phase := .active }
  unfold Drive.rerunRead
  dsimp only
  split
  · exact hd.keyedRead ..
  · exact hd.keyedRead ..
  · exact hd.keyedRead ..
  · exact hd.locGetRequest _
  · exact hd

theorem Drive.Instantly.ifCurrent (s : Stream) (r : Req) {go : Drive → Drive} (hg : a.Instantly (go b)) : a.Instantly (b.ifCurrent s r go) :=
  (h.rerunRead _).ite ((h.refuseRead ..).ite hg)

theorem Drive.Instantly.releaseChunk (s : Stream) : a.Instantly (releaseChunk s b) :=
  (((h.readChunk ..).putStream _).endRead ..).ite (((h.readChunk ..).putStream _).issueChunk _)

theorem Drive.Instantly.headerGood (s : Stream) : a.Instantly (headerGood s b) := by
  unfold Machine.headerGood
  split
  · exact h.dropStream _
  · refine .ite (h.listRead ..) (h.ifCurrent s _ ?_)
    split
    · exact h.refuseRead ..
    · exact .ite ((h.dropStream _).reply ..) (.ite ((h.readHeader ..).endRead ..) ((h.putStream _).issueChunk _))

theorem Drive.Instantly.chunkGood (s : Stream) : a.Instantly (chunkGood s b) := by
  unfold Machine.chunkGood
  refine .ite (h.headerGood _) (.ite (h.releaseChunk _) ?_)
  split
  · exact h.dropStream _
  · exact h.ifCurrent s _ ((h.readHeader ..).releaseChunk _)

theorem Drive.Instantly.endAuthFail (s : Stream) : a.Instantly (endAuthFail s b) := by
  unfold Machine.endAuthFail
  split
  · exact h.dropStream _
  · exact .ite (h.listRead ..) (.ite (h.refuseRead ..) ((h.ite (h.readHeader ..)).endRead ..))

end

end Sys2Proof.Machine
end

-- Proofs of the key-value service: lookups, and what an event leaves of the storage slots.
section
namespace Sys2Proof.Machine
open Sys2Proof

/-! ## Ordered checks -/

theorem firstFail_cons_eq_none {ok : Bool} {st : Nat} {l : List (Bool × Nat)} :
    firstFail ((ok, st) :: l) = none ↔ ok = true ∧ firstFail l = none := by
  rw [firstFail]
  cases ok <;> simp

/-- A request that passes orders 6 to 9 has its deadline before it. -/
theorem Drive.not_passed_of_checks69 {d : Drive} {r : Req} {tenant : Nat} {write : Bool} (h : d.checks69 r tenant write = none) :
    passed d.nowUs r.tag.deadline = false := by
  rw [Drive.checks69, firstFail_cons_eq_none] at h
  exact Bool.eq_false_of_not_eq_true' h.1

theorem orElse_of_none {α : Type} {a b : Option α} (ha : a = none) (hb : b = none) : a.orElse (fun _ => b) = none := by
  rw [ha, hb]
  rfl

/-! ## Lookups -/

theorem Drive.recAt_congr {a b : Drive} (hs : b.kv.shelf = a.kv.shelf) (hm : b.media.sbs = a.media.sbs) (p : Place) :
    b.recAt p = a.recAt p := by
  cases p with
  | shelf i => rw [Drive.recAt, hs, Drive.recAt]
  | media sb g => rw [Drive.recAt, Drive.sb, hm, Drive.recAt, Drive.sb]

/-- Two drives whose candidates are the same, and whose records agree with them alike, end a lookup at the same entry. -/
theorem Drive.find?_congr {a b : Drive} {n : Nat} {k : Bytes} (hc : b.candidates n k = a.candidates n k)
    (hr : ∀ e ∈ a.candidates n k, b.confirms e = a.confirms e) : b.find? n k = a.find? n k := by
  rw [Drive.find?, hc, Drive.find?]
  generalize a.candidates n k = l at hr
  induction l with
  | nil => rfl
  | cons e l ih =>
    rw [List.find?_cons, List.find?_cons, hr e List.mem_cons_self, ih (fun x hx => hr x (List.mem_cons_of_mem _ hx))]

theorem Drive.confirms_congr {a b : Drive} {e : DirEnt} (h : b.recAt e.place = a.recAt e.place) : b.confirms e = a.confirms e := by
  rw [Drive.confirms, Drive.keyMatches, h, Drive.confirms, Drive.keyMatches]

/-- Directory, shelf and superblocks are what a lookup reads. -/
theorem Drive.find?_same {a b : Drive} (hd : b.kv.dir = a.kv.dir) (hs : b.kv.shelf = a.kv.shelf) (hm : b.media.sbs = a.media.sbs)
    (n : Nat) (k : Bytes) : b.find? n k = a.find? n k :=
  Drive.find?_congr (by rw [Drive.candidates, hd, Drive.candidates]) fun _ _ => Drive.confirms_congr (Drive.recAt_congr hs hm _)

theorem Drive.mem_dir_of_mem_candidates {d : Drive} {n : Nat} {k : Bytes} {e : DirEnt} (h : e ∈ d.candidates n k) :
    e ∈ d.kv.dir ∧ e.ns = n ∧ e.key = k := by
  simp only [Drive.candidates, List.mem_append, List.mem_filter, Bool.and_eq_true, beq_iff_eq] at h
  rcases h with ⟨hm, ⟨hn, hk⟩, -⟩ | ⟨hm, ⟨hn, hk⟩, -⟩ <;> exact ⟨hm, hn, hk⟩

theorem Drive.mem_dir_of_find? {d : Drive} {n : Nat} {k : Bytes} {e : DirEnt} (h : d.find? n k = some e) :
    e ∈ d.kv.dir ∧ e.ns = n ∧ e.key = k := Drive.mem_dir_of_mem_candidates (List.mem_of_find?_eq_some h)

/-! ## Storage slots -/

theorem Drive.stslot_congr {a b : Drive} (h : b.keys.storage = a.keys.storage) : b.stslot = a.stslot :=
  funext fun i => congrArg (fun l => tgetD i ({} : StorageSlot) l) h

theorem Drive.slotOfSerial_congr {a b : Drive} (h : b.keys.storage = a.keys.storage) (t serial : Nat) :
    b.slotOfSerial t serial = a.slotOfSerial t serial := by
  rw [Drive.slotOfSerial, Drive.stslot_congr h, Drive.slotOfSerial]

theorem Drive.slotIn_congr {a b : Drive} (h : b.keys.storage = a.keys.storage) (t state : Nat) : b.slotIn t state = a.slotIn t state := by
  rw [Drive.slotIn, Drive.stslot_congr h, Drive.slotIn]

/-- Frames of sessions count in session slots alone. -/
theorem pumpFrames_storage (sid k : Nat) (d : Drive) : (pumpFrames sid k d).keys.storage = d.keys.storage := by
  induction k generalizing d with
  | zero => rfl
  | succ n ih =>
    unfold pumpFrames
    extract_lets +onlyGivenNames s
    split
    · rfl
    · extract_lets +onlyGivenNames slot first
      split
      · rfl
      split
      · rfl
      split
      · rfl
      · extract_lets +onlyGivenNames phase w d1 peer mark d2
        have h1 : d1.keys.storage = d.keys.storage := rfl
        have h2 : d2.keys.storage = d1.keys.storage := by
          dsimp only [d2]
          split
          · exact congrArg Keys.storage ((Drive.meterOut_frame ..).keys rfl)
          · rfl
        rw [ih, congrArg Keys.storage ((Drive.portTx_frame ..).keys rfl), h2, h1]

theorem Drive.sendPart_storage (sid rid path : Nat) (first last : Bool) (op : OpHdr) (b : Bytes) (d : Drive) :
    (d.sendPart sid rid path first last op b).keys.storage = d.keys.storage := by
  unfold Drive.sendPart
  dsimp only
  split
  · rfl
  · exact pumpFrames_storage ..

theorem sendNotices_storage (sid k : Nat) (d : Drive) : (sendNotices sid k d).keys.storage = d.keys.storage := by
  induction k generalizing d with
  | zero => rfl
  | succ n ih =>
    unfold sendNotices
    extract_lets +onlyGivenNames s
    split
    · rfl
    · split
      · split
        · exact ih _
        · rfl
      · extract_lets +onlyGivenNames h d1 d2 s2 d3
        have h2 : d2.keys.storage = d.keys.storage := Drive.sendPart_storage ..
        have h3 : d3.keys.storage = d2.keys.storage := by
          dsimp only [d3]
          split <;> rfl
        rw [ih, h3, h2]

theorem Drive.event_storage (src sev : Nat) (words : List Nat) (d : Drive) (tag : Option WorkTag) :
    (d.event src sev words tag).keys.storage = d.keys.storage := by
  have he : (d.enter src sev (eventPayload tag words)).2.keys = d.keys := (Drive.enter_frame ..).keys rfl
  have hn : ∀ (sid : Nat) (n : Notice) (z : Drive), (z.noticeWith Drive.eventNoticeLost sid n).keys.storage = z.keys.storage := by
    intro sid n z
    unfold Drive.noticeWith
    split
    · rfl
    · rw [sendNotices_storage, congrArg Keys.storage ((Drive.queueWith_frame (ps := [.xp, .rec_, .flag, .out]) (subset_of_all rfl)
        (fun sid x => Drive.eventNoticeLost_frame sid x) ..).keys rfl)]
  unfold Drive.event
  split
  · rename_i h
    rw [h] at he
    exact congrArg Keys.storage he
  · rename_i e d' h
    rw [h] at he
    replace he : d'.keys.storage = d.keys.storage := congrArg Keys.storage he
    extract_lets y
    have hy : y.keys.storage = d.keys.storage := by
      dsimp only [y]
      split
      · rw [congrArg Keys.storage ((Drive.raiseAlert_frame _).keys rfl)]
        split
        · rw [hn, he]
        · exact he
      · exact he
    clear_value y
    split
    · rw [congrArg Keys.storage ((Drive.startFlush_frame _).keys rfl), hy]
    · exact hy

/-! ## Confirmation that finds another low version byte -/

theorem Drive.noteMismatch_kv (n : Nat) (k : Bytes) (d : Drive) : (d.noteMismatch n k).kv = d.kv := (Drive.noteMismatch_frame ..).kv rfl

theorem Drive.noteMismatch_media (n : Nat) (k : Bytes) (d : Drive) : (d.noteMismatch n k).media = d.media :=
  (Drive.noteMismatch_frame ..).media rfl

theorem Drive.noteMismatch_storage (n : Nat) (k : Bytes) (d : Drive) : (d.noteMismatch n k).keys.storage = d.keys.storage := by
  unfold Drive.noteMismatch
  dsimp only
  split
  · exact Drive.event_storage ..
  · rfl

theorem Drive.noteMismatch_find? (n : Nat) (k : Bytes) (d : Drive) : (d.noteMismatch n k).find? = d.find? := by
  funext m l
  exact Drive.find?_same (by rw [Drive.noteMismatch_kv]) (by rw [Drive.noteMismatch_kv]) (by rw [Drive.noteMismatch_media]) m l

theorem Drive.noteMismatch_recAt (n : Nat) (k : Bytes) (d : Drive) : (d.noteMismatch n k).recAt = d.recAt := by
  funext p
  exact Drive.recAt_congr (by rw [Drive.noteMismatch_kv]) (by rw [Drive.noteMismatch_media]) p

theorem Drive.noteMismatch_slotOfSerial (n : Nat) (k : Bytes) (d : Drive) (t serial : Nat) :
    (d.noteMismatch n k).slotOfSerial t serial = d.slotOfSerial t serial :=
  Drive.slotOfSerial_congr (Drive.noteMismatch_storage n k d) t serial

end Sys2Proof.Machine
end

-- Proofs of the key-value service: GET, GET_RANGE, EXISTS, LIST and PING are answered (R53, R54, R62, R65, R107, R445).
section
namespace Sys2Proof.Machine
open Sys2Proof

/-! ## Keyed reads that are served -/

/-- A served read of a key that has a record in DRAM, of which nothing newer is kept from readers. -/
structure Drive.Finds (d : Drive) (r : Req) (e : DirEnt) (x : Rec) : Prop where
  found : d.find? r.hdr.ns r.key = some e
  shown : d.hidden r.hdr.ns r.key = false
  sound : e.marked = false
  rec_ : d.recAt e.place = some x
  cond : condOutcome r.hdr.opcode (condOf r.hdr.flags) r.hdr.condVersion (some e.version) = none
  opens : (d.slotOfSerial (d.originTenant r) x.serial).isSome = true

/-- An EXISTS member of a BATCH is answered from the directory alone (R107). -/
theorem keyedRead_of_member {d : Drive} {o : Origin} {op : Nat} {r : Req} {e : DirEnt} {x : Rec} (h : d.Serves o op false r)
    (hf : d.Finds r e x) (hop : op = 0x04) (hk : r.tag.kind = 0x11) :
    keyedRead o op d = (d.noteMismatch r.hdr.ns r.key).reply o { echo r.hdr with condVersion := e.version } [] := by
  have hcode := h.opcode
  subst hcode
  have hcond := hf.cond
  rw [hop] at hcond
  rw [keyedRead, Drive.withReq_of h.req h.active (List.mem_singleton_self _) (Drive.sequenced_data (by omega) d)]
  dsimp only
  rw [orElse_of_none h.early h.late]
  dsimp only
  rw [h.here]
  dsimp only
  rw [if_neg h.still, if_neg (by simp [h.unheld]), if_neg (by simp [h.holly]), if_neg (by simp [hf.shown]), if_pos hk,
    Drive.noteMismatch_find?, hf.found]
  simp only [Option.map_some, hcond, Option.getD_some]

/-- A read that is no member of a BATCH begins its reply (R53 to R55). -/
theorem keyedRead_of_alone {d : Drive} {o : Origin} {op : Nat} {r : Req} {e : DirEnt} {x : Rec} (h : d.Serves o op false r)
    (hf : d.Finds r e x) (hop : op < 0x30) (hk : r.tag.kind ≠ 0x11) :
    ∃ i, keyedRead o op d = ((d.noteMismatch r.hdr.ns r.key).useKey i r.hdr.ns x.gen).beginRead r x e.place
      (readRange r.hdr x.value.length).1 (readRange r.hdr x.value.length).2 (readHdr r.hdr x.value.length x.version) := by
  have hcode := h.opcode
  subst hcode
  obtain ⟨i, hi⟩ := Option.isSome_iff_exists.mp hf.opens
  refine ⟨65536 + i, ?_⟩
  rw [keyedRead, Drive.withReq_of h.req h.active (List.mem_singleton_self _) (Drive.sequenced_data hop d)]
  dsimp only
  rw [orElse_of_none h.early h.late]
  dsimp only
  rw [h.here]
  dsimp only
  rw [if_neg h.still, if_neg (by simp [h.unheld]), if_neg (by simp [h.holly]), if_neg (by simp [hf.shown]), if_neg hk,
    Drive.noteMismatch_find?, Drive.noteMismatch_recAt, hf.found]
  dsimp only
  rw [hf.cond, hf.sound, hf.rec_]
  dsimp only
  rw [Drive.noteMismatch_slotOfSerial, hi]

/-- The reply to a read of a record in DRAM leaves whole, and the directory stays. -/
theorem Drive.beginRead_shelf (r : Req) (x : Rec) (i lo hi : Nat) (h : OpHdr) (d : Drive) :
    (d.beginRead r x (.shelf i) lo hi h).kv.dir = d.kv.dir ∧ Out.reply r.origin h [] ∈ (d.beginRead r x (.shelf i) lo hi h).out := by
  unfold Drive.beginRead
  dsimp only
  split
  · exact ⟨Drive.reply_dir .., Drive.reply_mem ..⟩
  · constructor
    · rw [Drive.readTrailer_dir, sendChunks_kv, Drive.readHeader_kv]
    · exact (((Drive.readHeader_emits ..).sendChunks ..).readTrailer ..).out.mem (Drive.emit_mem ..)

/-- A read of a record in DRAM, alone: its header leaves with the record's version (R168). -/
theorem keyedRead_answers {d : Drive} {o : Origin} {op : Nat} {r : Req} {e : DirEnt} {x : Rec} {i : Nat} (h : d.Serves o op false r)
    (hf : d.Finds r e x) (hp : e.place = .shelf i) (hop : op < 0x30) (hk : r.tag.kind ≠ 0x11) :
    (keyedRead o op d).kv.dir = d.kv.dir ∧ Out.reply o (readHdr r.hdr x.value.length x.version) [] ∈ (keyedRead o op d).out := by
  obtain ⟨j, hj⟩ := keyedRead_of_alone h hf hop hk
  have ho := Drive.req?_origin h.req
  subst ho
  rw [hj, hp]
  obtain ⟨hd, hm⟩ := Drive.beginRead_shelf r x i (readRange r.hdr x.value.length).1 (readRange r.hdr x.value.length).2
    (readHdr r.hdr x.value.length x.version) ((d.noteMismatch r.hdr.ns r.key).useKey j r.hdr.ns x.gen)
  exact ⟨by rw [hd, Drive.useKey_kv, Drive.noteMismatch_kv], hm⟩

theorem readHdr_of_whole {h : OpHdr} (hop : h.opcode ≠ 0x05) (len version : Nat) :
    readHdr h len version = { echo h with valueLen := len, condVersion := version } := if_neg hop

theorem readHdr_of_range {h : OpHdr} (hop : h.opcode = 0x05) (len version : Nat) :
    readHdr h len version = { echo h with valueLen := (readRange h len).2 - (readRange h len).1, offset := h.offset, condVersion := version } :=
  if_pos hop

/-! ## LIST -/

theorem mem_of_mem_insertByPos {x y : Nat × DirEnt} {l : List (Nat × DirEnt)} (h : y ∈ insertByPos x l) : y = x ∨ y ∈ l := by
  induction l with
  | nil => simpa [insertByPos] using h
  | cons z l ih =>
    unfold insertByPos at h
    split at h
    · simpa using h
    · rcases List.mem_cons.mp h with rfl | h
      · simp
      · rcases ih h with rfl | h <;> simp [*]

theorem mem_of_mem_sortByPos {y : Nat × DirEnt} {l : List (Nat × DirEnt)} (h : y ∈ l.foldr insertByPos []) : y ∈ l := by
  induction l with
  | nil => simp at h
  | cons x l ih =>
    rcases mem_of_mem_insertByPos h with rfl | h
    · exact List.mem_cons_self
    · exact List.mem_cons_of_mem _ (ih h)

/-- What a LIST goes through are entries of the namespace. -/
theorem Drive.mem_dir_of_mem_listFrom {d : Drive} {ns cursor : Nat} {p : Nat × DirEnt} (h : p ∈ d.listFrom ns cursor) :
    p.2 ∈ d.kv.dir ∧ p.2.ns = ns := by
  obtain ⟨e, he, rfl⟩ := List.mem_map.mp (mem_of_mem_sortByPos (List.mem_filter.mp h).1)
  obtain ⟨hm, hn⟩ := List.mem_filter.mp he
  rw [Bool.and_eq_true, decide_eq_true_eq] at hn
  exact ⟨hm, hn.1⟩

/-- A LIST over keys in DRAM that may all be shown ends at once. -/
theorem listNext_of_dram {d : Drive} {r : Req} (hf : ∀ e ∈ d.kv.dir, e.ns = r.hdr.ns → ∃ x, e.place = .shelf x) (n : Nat) {s : Stream}
    (hn : s.todo.length < n) (hh : ∀ p ∈ s.todo, d.hidden r.hdr.ns p.2 = false) :
    ∃ items cut, listNext r n s d = d.endList r items cut := by
  induction n generalizing s with
  | zero => omega
  | succ n ih =>
    unfold listNext
    split
    · exact ⟨_, _, rfl⟩
    · rename_i p k rest htodo
      rw [htodo] at hn hh
      have hrest : ∀ items, ∃ items' cut, listNext r n { s with todo := rest, items := items } d = d.endList r items' cut := fun items =>
        ih (s := { s with todo := rest, items := items }) (Nat.lt_of_succ_lt_succ hn) fun q hq => hh q (List.mem_cons_of_mem _ hq)
      rw [if_neg (by simp [hh (p, k) List.mem_cons_self])]
      split
      · exact hrest _
      · rename_i e he
        obtain ⟨hmem, hns, -⟩ := Drive.mem_dir_of_find? he
        obtain ⟨x, hx⟩ := hf e hmem hns
        split
        · exact hrest _
        · dsimp only
          split
          · exact hrest _
          · exact ⟨_, _, rfl⟩
        · rename_i hplace
          rw [hx] at hplace
          cases hplace

/-- What a LIST's reply does, before its deadline. -/
theorem Drive.endList_answers {d : Drive} {r : Req} (hd : passed d.nowUs r.tag.deadline = false) (items : List (Nat × Bytes)) (cut : Option Nat) :
    (d.endList r items cut).kv.dir = d.kv.dir ∧ (d.endList r items cut).req? r.origin = none ∧
      ∃ h body, Out.reply r.origin h body ∈ (d.endList r items cut).out ∧ h.status = 0 ∧ h.valueLen = body.length := by
  have ht : (d.dropStream r.origin).nowUs = d.nowUs := Drive.nowUs_congr ((Drive.Instantly.refl d).dropStream r.origin).time
  unfold Drive.endList
  extract_lets solo kept body nextCursor z
  have hz : z.kv.dir = d.kv.dir := (Drive.dropStream_streamsOnly r.origin d).dir
  have hn : z.nowUs = d.nowUs := ht
  clear_value z
  rw [hn, hd, if_neg (by decide)]
  exact ⟨(Drive.reply_dir ..).trans hz, Drive.reply_req? .., _, _, Drive.reply_mem .., rfl, rfl⟩

/-- A LIST begun over keys in DRAM is answered. -/
theorem listNext_answers {d : Drive} {r : Req} {cursor : Nat} {s : Stream} (hd : passed d.nowUs r.tag.deadline = false)
    (hdir : ∀ e ∈ d.kv.dir, e.ns = r.hdr.ns → d.hidden e.ns e.key = false ∧ ∃ x, e.place = .shelf x)
    (hs : s.todo = (d.listFrom r.hdr.ns cursor).map (fun p => (p.1, p.2.key))) (l : List Stream) :
    let z := listNext r (s.todo.length + 1) s { d with kv.streams := l }
    z.kv.dir = d.kv.dir ∧ z.req? r.origin = none ∧ ∃ h body, Out.reply r.origin h body ∈ z.out ∧ h.status = 0 ∧ h.valueLen = body.length := by
  have htodo : ∀ p ∈ s.todo, d.hidden r.hdr.ns p.2 = false := by
    rw [hs]
    intro p hp
    obtain ⟨q, hq, rfl⟩ := List.mem_map.mp hp
    obtain ⟨hmem, hns⟩ := Drive.mem_dir_of_mem_listFrom hq
    rw [← hns]
    exact (hdir q.2 hmem hns).1
  obtain ⟨items, cut, hend⟩ := listNext_of_dram (d := { d with kv.streams := l }) (r := r)
    (fun e hm hn => (hdir e hm hn).2) (s.todo.length + 1) (s := s) (Nat.lt_succ_self _) htodo
  rw [hend]
  exact Drive.endList_answers (d := { d with kv.streams := l }) hd items cut

/-- LIST of the part that this drive serves. -/
theorem listRequest_answers {d : Drive} {o : Origin} {r : Req} (h : d.Asks o 0x08 r) (he : d.checks14 r = none)
    (hl : d.checks69 r (d.originTenant r) false = none)
    (hpart : (d.ns r.hdr.ns).solo = true → d.effTwin = 0 ∨ r.hdr.offset / 2 ^ 63 = d.roleBit) (hres : d.effTwin = 6 → (d.ns r.hdr.ns).solo = true)
    (hup : d.hollyUp = true) (hs : d.stream? o = none)
    (hdir : ∀ e ∈ d.kv.dir, e.ns = r.hdr.ns → d.hidden e.ns e.key = false ∧ ∃ x, e.place = .shelf x) :
    (listRequest o d).kv.dir = d.kv.dir ∧ (listRequest o d).req? o = none ∧
      ∃ h body, Out.reply o h body ∈ (listRequest o d).out ∧ h.status = 0 ∧ h.valueLen = body.length := by
  have ho := Drive.req?_origin h.req
  have hmine : ¬((d.ns r.hdr.ns).solo && d.effTwin != 0 && r.hdr.offset / 2 ^ 63 != d.roleBit) = true := by
    rw [Bool.and_eq_true, Bool.and_eq_true, bne_iff_ne, bne_iff_ne]
    rintro ⟨⟨hsolo, h0⟩, hne⟩
    exact (hpart hsolo).elim h0 hne
  have hhere : ¬(d.effTwin = 6 ∧ (d.ns r.hdr.ns).solo = false) := fun ⟨h6, hsolo⟩ => by simp [hres h6] at hsolo
  rw [listRequest, Drive.withReq_of h.req h.active (by simp [h.opcode]) h.turn]
  dsimp only
  rw [orElse_of_none he hl]
  dsimp only
  rw [hs]
  dsimp only
  rw [if_neg hmine, if_neg hhere]
  subst ho
  split
  · exact ⟨Drive.reply_dir .., Drive.reply_req? .., _, _, Drive.reply_mem .., rfl, rfl⟩
  rw [if_neg (by simp [hup])]
  exact listNext_answers (Drive.not_passed_of_checks69 hl) hdir rfl _

/-! ## PING -/

theorem pingRequest_answers {d : Drive} {o : Origin} {r : Req} (h : d.Asks o 0x43 r) (hlen : r.hdr.valueLen ≤ 1024) :
    (pingRequest o d).req? o = none ∧
      Out.reply o { echo r.hdr with valueLen := r.body.length, condVersion := d.now } r.body ∈ (pingRequest o d).out := by
  rw [pingRequest, Drive.withReq_of h.req h.active (by simp [h.opcode]) h.turn, if_neg (Nat.not_lt.mpr hlen)]
  extract_lets z
  have hz : z.now = d.now := by
    dsimp only [z]
    split
    · split <;> rfl
    · rfl
  clear_value z
  rw [← hz]
  exact ⟨Drive.reply_req? .., Drive.reply_mem ..⟩

/-- Settles O14: reads of what lies in DRAM by `keyedRead_answers`, LIST by `listRequest_answers`, PING by `pingRequest_answers`. -/
theorem readsAreAnswered : Obligations.ReadsAreAnswered := by
  unfold Obligations.ReadsAreAnswered
  refine ⟨fun s o op r e x i hserves hfound hshown hsound hplace hrec hcond hopens => ?_,
    fun s o r h he hl hpart hres hup hs hdir => completes_onMain rfl h.live (listRequest_answers h he hl hpart hres hup hs hdir),
    fun s o r h hlen => completes_onMain rfl h.live (pingRequest_answers h hlen)⟩
  have hf : s.dev.Finds r e x := ⟨hfound, hshown, hsound, hrec, by rw [hserves.opcode]; exact hcond, hopens⟩
  refine ⟨fun hop hk => ?_, fun hop hk => ?_, fun hop => ?_⟩ <;> subst hop
  · have ha := keyedRead_answers hserves hf hplace (by decide) hk
    rw [readHdr_of_whole (by simp [hserves.opcode])] at ha
    exact completes_onMain rfl hserves.live ha
  · have ha := keyedRead_answers hserves hf hplace (by decide) hk
    rw [readHdr_of_range hserves.opcode] at ha
    exact completes_onMain rfl hserves.live ha
  · refine completes_onMain (f := keyedRead o 0x04) rfl hserves.live ?_
    by_cases hk : r.tag.kind = 0x11
    · rw [keyedRead_of_member hserves hf rfl hk]
      exact ⟨by rw [Drive.reply_dir, Drive.noteMismatch_kv], fun hn => absurd hk hn, fun _ => Drive.reply_mem ..⟩
    · obtain ⟨hd, hm⟩ := keyedRead_answers hserves hf hplace (by decide) hk
      rw [readHdr_of_whole (by simp [hserves.opcode])] at hm
      exact ⟨hd, fun _ => hm, fun h => absurd h hk⟩

end Sys2Proof.Machine
end

-- Proofs of reads of flash: pages that come in, tag ladders and fetched chunks (R55, R217, R224, R226, R310).
section
namespace Sys2Proof.Machine
open Sys2Proof

/-! ## Media work adds no output but events -/

theorem Drive.issueProgram_frame {job : ProgramJob} {sb gran : Nat} {d z : Drive} (h : d.issueProgram job sb gran = some z) :
    d.changesOnly [.media] z := by
  unfold Drive.issueProgram at h
  dsimp only at h
  split at h
  · obtain rfl := Option.some.inj h
    exact Drive.setDie_frame ..
  · cases h

section
variable {a b : Drive}

theorem Drive.Instantly.advanceRepairs (h : a.Instantly b) (l : List (Rec × Nat × Nat)) : a.Instantly (advanceRepairs l b) := by
  induction l generalizing b with
  | nil => exact h
  | cons x l ih =>
    refine ih (.ite h.upd (.ite h ?_))
    split
    · exact h
    · rename_i hal
      have h' := h.quiet (Drive.allocate_frame _ _ _ _ hal) rfl rfl
      split
      · exact h
      · rename_i hp
        exact (h'.quiet (Drive.issueProgram_frame hp) rfl rfl).upd

theorem Drive.Instantly.sbState (h : a.Instantly b) (sb st : Nat) : a.Instantly (b.sbState sb st) := (h.modSb ..).delta _

theorem Drive.Instantly.finishClip (h : a.Instantly b) (sb : Nat) : a.Instantly (b.finishClip sb) := by
  unfold Drive.finishClip
  split
  · exact h
  · exact .ite h (Drive.Instantly.sbState (h.foldl (fun d p => (Drive.Instantly.refl d).modNs ..) _).upd ..)

theorem Drive.Instantly.advanceClip (h : a.Instantly b) (sb n : Nat) : a.Instantly (advanceClip sb n b) := by
  induction n generalizing b with
  | zero => exact h.finishClip _
  | succ n ih =>
    unfold Machine.advanceClip
    split
    · exact h
    · dsimp only
      split
      · exact h.finishClip _
      · refine .ite (ih h.upd) (.ite h ?_)
        split
        · exact h
        · rename_i hal
          have h' := h.quiet (Drive.allocate_frame _ _ _ _ hal) rfl rfl
          split
          · exact h
          · rename_i hp
            exact ih (Drive.Instantly.upd ((h'.quiet (Drive.issueProgram_frame hp) rfl rfl).countEcc _))

theorem Drive.Instantly.eraseBlocks (h : a.Instantly b) (sb : Nat) (l : List Nat) : a.Instantly (eraseBlocks sb l b) := by
  induction l generalizing b with
  | nil => exact h
  | cons c l ih => exact ih (.ite h ((h.beginBusy ..).modSb ..))

theorem Drive.Instantly.advanceErases (h : a.Instantly b) (l : List (Nat × Superblock)) : a.Instantly (advanceErases l b) := by
  induction l generalizing b with
  | nil => exact h
  | cons p l ih => exact ih (.ite h (Drive.Instantly.eraseBlocks (.ite (h.modSb ..) h) ..))

theorem Drive.Instantly.advanceMedia (h : a.Instantly b) : a.Instantly b.advanceMedia :=
  ((((h.startAll _).advanceRepairs _).foldl (fun d _ => (Drive.Instantly.refl d).advanceClip ..) _).advanceErases _)

end

/-! ## Reads under way -/

/-- A read of the reply is still to come in. -/
def Drive.awaits (d : Drive) (o : Origin) : Bool := d.media.reads.any (fun j => j.origin = o ∧ j.dead = false)

/-- The superblocks and what replies still wait for are as they were. -/
structure Drive.SameReads (a b : Drive) : Prop where
  sbs : b.media.sbs = a.media.sbs
  awaits : b.awaits = a.awaits

theorem Drive.SameReads.trans {a b c : Drive} (h : a.SameReads b) (k : b.SameReads c) : a.SameReads c :=
  ⟨k.sbs.trans h.sbs, k.awaits.trans h.awaits⟩

theorem Drive.SameReads.of_reads {a b : Drive} (hs : b.media.sbs = a.media.sbs) (hr : b.media.reads = a.media.reads) : a.SameReads b :=
  ⟨hs, funext fun o => congrArg (fun l : List ReadJob => l.any (fun j => j.origin = o ∧ j.dead = false)) hr⟩

theorem startGroup_any (o : Origin) (n : Nat) (planes : List Nat) (l : List ReadJob) :
    (startGroup n planes l).any (fun j => j.origin = o ∧ j.dead = false) = l.any (fun j => j.origin = o ∧ j.dead = false) := by
  induction l generalizing planes with
  | nil => rfl
  | cons j l ih =>
    unfold startGroup
    split <;> rw [List.any_cons, List.any_cons, ih]

theorem Drive.startReads_same (n : Nat) (d : Drive) : d.SameReads (d.startReads n) := by
  unfold Drive.startReads
  split
  · exact ⟨rfl, funext fun o => startGroup_any o n [] d.media.reads⟩
  · exact .of_reads rfl rfl

theorem startAll_same (l : List ReadJob) (d : Drive) : d.SameReads (startAll l d) := by
  induction l generalizing d with
  | nil => exact .of_reads rfl rfl
  | cons j l ih =>
    refine Drive.SameReads.trans ?_ (ih _)
    split
    · exact Drive.startReads_same ..
    · exact .of_reads rfl rfl

theorem Drive.beginBusy_same (n : Nat) (o : DieOp) (d : Drive) : d.SameReads (d.beginBusy n o) := by
  unfold Drive.beginBusy
  split
  · exact .of_reads rfl rfl
  · split <;> exact .of_reads rfl rfl

theorem Drive.resumeDie_same (n : Nat) (d : Drive) : d.SameReads (d.resumeDie n) := by
  unfold Drive.resumeDie
  split
  · exact .of_reads rfl rfl
  · split
    · exact .of_reads rfl rfl
    · split
      · exact Drive.beginBusy_same ..
      · split
        · exact Drive.beginBusy_same ..
        · exact .of_reads rfl rfl

/-! ## The last page of what a reply reads -/

theorem uncorrected_eq_nil {n : Nat} {cws : List Cw} (h : ∀ i, i < n → (cws.getD i {}).step ≠ 4) :
    (List.range n).filter (fun i => (((List.range n).map (fun i => cws.getD i {})).getD i {}).step == 4) = [] := by
  rw [List.filter_eq_nil_iff]
  intro i hi
  have hlt := List.mem_range.mp hi
  have hget : ((List.range n).map (fun i => cws.getD i {})).getD i {} = cws.getD i {} := by
    rw [List.getD_eq_getElem?_getD, List.getElem?_map, List.getElem?_range hlt]
    rfl
  rw [hget, beq_iff_eq]
  exact h i hlt

/-- With the last of a reply's pages, good and verified, outside a ladder, what it was reading goes on. -/
theorem pageDone_of_last {o : Origin} {d : Drive} {x : Stream} (hx : d.stream? o = some x) (hw : d.awaits o = false)
    (hf : x.failed = false) (hl : x.ladder = 0) : pageDone o true false true d = chunkGood x (d.putStream x) := by
  have hsame : ({ x with failed := x.failed || !true, reconstructed := x.reconstructed || false } : Stream) = x := by simp
  unfold pageDone
  rw [hx]
  dsimp only
  simp only [hsame]
  rw [if_neg (by rw [show (d.putStream x).media.reads.any _ = false from hw]; decide), if_neg (by simp [hf]), if_pos hl]

/-- What ARRAY_READ_COMPLETE does with the last page: the data service is as it was but for streams, and the reply goes on. -/
theorem arrayReadComplete_of_last {d : Drive} {o : Origin} {chunk gran : Nat} {cws : List Cw} {j : ReadJob} {x : Stream}
    (hj : d.media.reads.find? (fun j => j.origin = o ∧ j.chunk = chunk ∧ j.gran = gran ∧ j.src = none ∧ j.mode = 0) = some j)
    (hdead : j.dead = false) (hlast : (removeFirst (· == j) d.media.reads).any (fun k => k.origin = o ∧ k.dead = false) = false)
    (hcws : ∀ i, i < j.codewords → (cws.getD i {}).step ≠ 4) (hx : d.stream? o = some x) (hf : x.failed = false) (hl : x.ladder = 0) :
    ∃ z : Drive, arrayReadComplete o chunk gran none cws true d = (chunkGood x z).advanceMedia ∧ d.StreamsOnly z ∧
      z.media.sbs = d.media.sbs ∧ z.time = d.time := by
  unfold arrayReadComplete
  rw [hj]
  dsimp only
  rw [uncorrected_eq_nil hcws, if_neg (by simp [hdead])]
  generalize hd1 : Drive.countEcc _ _ = d1
  have hkv1 : d1.kv = d.kv := by rw [← hd1]; exact (Drive.countEcc_frame ..).kv rfl
  have hmed1 : d1.media = { d.media with reads := removeFirst (· == j) d.media.reads } := by
    rw [← hd1]
    exact (Drive.countEcc_frame ..).media rfl
  have htime1 : d1.time = d.time := by rw [← hd1]; exact (Drive.countEcc_frame ..).time rfl
  clear hd1
  have hsame := ((Drive.startReads_same j.die d1).trans (Drive.resumeDie_same j.die _)).trans (startAll_same
    ((d1.startReads j.die).resumeDie j.die).media.reads _)
  have hframe := ((Drive.startReads_frame j.die d1).step (Drive.resumeDie_frame j.die _) (List.Subset.refl _)).step
    (startAll_frame ((d1.startReads j.die).resumeDie j.die).media.reads _) (List.Subset.refl _)
  generalize startAll _ ((d1.startReads j.die).resumeDie j.die) = z at hsame hframe ⊢
  have hkv : z.kv = d.kv := (hframe.kv rfl).trans hkv1
  have hz : z.stream? o = some x := by rw [Drive.stream?, hkv]; exact hx
  have haw : z.awaits o = false := by
    rw [hsame.awaits, Drive.awaits, hmed1]
    exact hlast
  refine ⟨z.putStream x, ?_, (Drive.StreamsOnly.of_eq hkv).trans (Drive.putStream_streamsOnly ..), ?_, (hframe.time rfl).trans htime1⟩
  · rw [← pageDone_of_last hz haw hf hl]
    rfl
  · rw [show (z.putStream x).media.sbs = z.media.sbs from rfl, hsame.sbs, hmed1]

/-- Where a reply's record is does not depend on the streams. -/
theorem Drive.StreamsOnly.currentPlace {a b : Drive} (h : a.StreamsOnly b) (hs : b.media.sbs = a.media.sbs) (s : Stream) :
    b.currentPlace s = a.currentPlace s := by
  obtain ⟨l, hl⟩ := h
  have hrec : b.recAt = a.recAt := funext fun p => Drive.recAt_congr (by rw [hl]) hs p
  have hfind : b.find? = a.find? := by
    funext n k
    exact Drive.find?_same (by rw [hl]) (by rw [hl]) hs n k
  have hloc : b.locLive = a.locLive := by
    funext sb gran r
    rw [Drive.locLive, Drive.ns, hl, Drive.locLive, Drive.ns]
  rw [Drive.currentPlace, hrec, hfind, hloc, hl, Drive.currentPlace]

theorem Drive.ifCurrent_of_current {d : Drive} {s : Stream} {r : Req} (hc : (d.currentPlace s).isSome = true)
    (hp : passed d.nowUs r.tag.deadline = false) (go : Drive → Drive) : d.ifCurrent s r go = go d := by
  rw [Drive.ifCurrent, if_neg (by rw [← Option.not_isSome, hc]; decide), if_neg (by rw [hp]; decide)]

/-- A released chunk leaves. -/
theorem releaseChunk_mem (s : Stream) (d : Drive) :
    Out.data s.origin s.next (chunkBytes s.rec_.value s.lo s.hi s.next) ∈ (releaseChunk s d).out := by
  have hc := d.readChunk_emits s.origin s.next (chunkBytes s.rec_.value s.lo s.hi s.next)
  have hr : (d.emit (.data s.origin s.next (chunkBytes s.rec_.value s.lo s.hi s.next))).Instantly (releaseChunk s d) :=
    ((hc.putStream _).endRead ..).ite ((hc.putStream _).issueChunk _)
  exact hr.out.mem (Drive.emit_mem ..)

theorem chunkGood_of_started {s : Stream} (hh : s.headerOnly = false) (hs : s.started = true) (d : Drive) :
    chunkGood s d = releaseChunk s d := by
  rw [chunkGood, if_neg (by simp [hh]), if_pos hs]

/-- The first chunk leaves after the reply's header (R53). -/
theorem chunkGood_first {s : Stream} {d : Drive} {r : Req} (hh : s.headerOnly = false) (hs : s.started = false) (hr : d.req? s.origin = some r)
    (hc : (d.currentPlace s).isSome = true) (hp : passed d.nowUs r.tag.deadline = false) :
    Out.reply s.origin r.replyHdr [] ∈ (chunkGood s d).out ∧
      Out.data s.origin s.next (chunkBytes s.rec_.value s.lo s.hi s.next) ∈ (chunkGood s d).out := by
  rw [chunkGood, if_neg (by simp [hh]), if_neg (by simp [hs]), hr]
  dsimp only
  rw [Drive.ifCurrent_of_current hc hp]
  exact ⟨((d.readHeader_emits ..).releaseChunk s).out.mem (Drive.emit_mem ..), releaseChunk_mem ..⟩

/-- An EXISTS is answered with its record's header and key (R62). -/
theorem chunkGood_exists {s : Stream} {d : Drive} {r : Req} (hh : s.headerOnly = true) (hr : d.req? s.origin = some r)
    (hop : r.hdr.opcode = 0x04) (hloc : s.rec_.located = false)
    (hcond : condOutcome 0x04 (condOf r.hdr.flags) r.hdr.condVersion (some s.rec_.version) = none)
    (hc : (d.currentPlace s).isSome = true) (hp : passed d.nowUs r.tag.deadline = false) :
    Out.reply s.origin r.replyHdr [] ∈ (chunkGood s d).out := by
  rw [chunkGood, if_pos hh, headerGood, hr]
  dsimp only
  rw [if_neg (by simp [hop]), Drive.ifCurrent_of_current hc hp, hop, hloc]
  simp only [Bool.false_eq_true, if_false, hcond, if_true]
  exact Drive.reply_mem ..

/-! ## Tag ladders -/

/-- The reply whose ladder has ended takes its outcome first; what the others do comes after. -/
theorem ladderEnds_after {s : Stream} {outcome : Stream → Drive → Drive} (h : ∀ x z, Drive.Instantly z (outcome x z)) (d : Drive) :
    (outcome s d).Instantly (ladderEnds s outcome d) := by
  rw [ladderEnds, List.foldl_cons, if_pos rfl]
  refine (Drive.Instantly.refl _).foldl (fun z x => ?_) _
  exact (h x z).ite (((Drive.Instantly.refl z).putStream _).issueChunk _)

/-- A chunk whose ladder has ended well leaves. -/
theorem ladderOk_mem {s : Stream} (hh : s.headerOnly = false) (hs : s.started = true) (d : Drive) :
    Out.data s.origin s.next (chunkBytes s.rec_.value s.lo s.hi s.next) ∈ (ladderOk s d).out := by
  refine (ladderEnds_after (fun x z => ((Drive.Instantly.refl z).putStream _).chunkGood _) _).out.mem ?_
  rw [chunkGood_of_started (s := { s with repaired := true, ladder := 0, failed := false }) hh hs]
  exact releaseChunk_mem { s with repaired := true, ladder := 0, failed := false } _

theorem Drive.markValue_req? (p : Place) (x : Rec) (o : Origin) (d : Drive) : (d.markValue p x).req? o = d.req? o := by
  unfold Drive.markValue
  dsimp only
  split <;> rfl

theorem Drive.markCurrent_req? (s : Stream) (o : Origin) (d : Drive) : (d.markCurrent s).req? o = d.req? o := by
  unfold Drive.markCurrent
  dsimp only
  split
  · exact Drive.markValue_req? ..
  · rfl

theorem Drive.Instantly.markCurrent {a b : Drive} (h : a.Instantly b) (s : Stream) : a.Instantly (b.markCurrent s) := by
  unfold Drive.markCurrent
  dsimp only
  split
  · unfold Drive.markValue
    dsimp only
    split <;> exact Drive.Instantly.delta h.upd _
  · exact h

theorem Drive.Instantly.ladderFail {a b : Drive} (h : a.Instantly b) (s : Stream) : a.Instantly (ladderFail s b) :=
  ((((h.authFail ..).markCurrent s)).endAuthFail s).trans (ladderEnds_after (fun x z => (Drive.Instantly.refl z).endAuthFail x) _)

/-- A reply whose chunk cannot be had ends in MEDIA_AUTH_FAIL, with the chunk's number and the value's length (R58, R226). -/
theorem endAuthFail_mem {s : Stream} {d : Drive} {r : Req} (hr : d.req? s.origin = some r) (hop : r.hdr.opcode ≠ 0x08)
    (hh : s.headerOnly = false) :
    Out.trailer s.origin St.mediaAuthFail s.reconstructed s.repaired s.next s.rec_.value.length ∈ (endAuthFail s d).out := by
  rw [endAuthFail, hr]
  dsimp only
  rw [if_neg hop, if_neg (by simp [hh])]
  generalize (if s.started = true then d else _) = z
  obtain ⟨y, -, hy⟩ := (z.dropStream s.origin).readTrailer_emits s.origin St.mediaAuthFail s.reconstructed s.repaired s.next s.rec_.value.length
  exact hy.out.mem (Drive.emit_mem ..)

theorem ladderFail_mem {s : Stream} {d : Drive} {r : Req} (hr : d.req? s.origin = some r) (hop : r.hdr.opcode ≠ 0x08)
    (hh : s.headerOnly = false) :
    Out.trailer s.origin St.mediaAuthFail s.reconstructed s.repaired s.next s.rec_.value.length ∈ (ladderFail s d).out := by
  refine (ladderEnds_after (fun x z => (Drive.Instantly.refl z).endAuthFail x) _).out.mem (endAuthFail_mem (r := r) ?_ hop hh)
  rw [Drive.markCurrent_req?, Drive.req?, Drive.authFail_kv]
  exact hr

/-! ## Fetched chunks -/

theorem Drive.fromTwin_of_speaks {d : Drive} (h : d.TwinSpeaks) (f : Drive → Drive) : d.fromTwin f = f (d.takeRing 2 1) := by
  rw [Drive.fromTwin, if_pos]
  simp [h.up, h.authentic, h.paired]

/-- CHUNK_DATA for a stream that waits for it ends its ladder. -/
theorem chunkData_of_fetching {d : Drive} {opId : Nat} {x : Stream} (h : d.TwinSpeaks) (hx : d.fetching opId = some x) (body : Option Bytes)
    (verifies : Bool) : chunkData opId body verifies d =
      if body.isSome && verifies then ladderOk x ((d.takeRing 2 1).twinDone opId) else ladderFail x ((d.takeRing 2 1).twinDone opId) := by
  have hx' : (d.takeRing 2 1).fetching opId = some x := by rw [Drive.fetching, Drive.takeRing_kv]; exact hx
  rw [chunkData, Drive.fromTwin_of_speaks h]
  dsimp only
  rw [hx']

/-- Settles O30: a page that comes in by `arrayReadComplete_of_last`; fetched chunks, and their absence, by the ends of the ladder. -/
theorem readsFlow : Obligations.ReadsFlow := by
  unfold Obligations.ReadsFlow
  refine ⟨fun s o chunk gran cws j x hlive hj hdead hlast hcws hx hf hl => ?_, fun s opId bytes x r hspeaks hfetch hh hr hop => ?_,
    fun s opId x r hlive hfetch hh hr hop => completes_onMain rfl hlive ?_⟩
  · obtain ⟨z, hz, hstreams, hsbs, htime⟩ := arrayReadComplete_of_last hj hdead hlast hcws hx hf hl
    have ho : x.origin = o := by simpa using List.find?_some hx
    subst ho
    have hcompletes : ∀ P : Drive → Prop, P (chunkGood x z).advanceMedia →
        Completes (.arrayReadComplete x.origin chunk gran none cws true) s P :=
      fun P hP => completes_onMain (f := arrayReadComplete x.origin chunk gran none cws true) rfl hlive (by rw [hz]; exact hP)
    have hmem : ∀ {y : Out}, y ∈ (chunkGood x z).out → y ∈ (chunkGood x z).advanceMedia.out :=
      fun hy => (Drive.Instantly.refl (chunkGood x z)).advanceMedia.out.mem hy
    refine ⟨fun hh hs => hcompletes _ (hmem ?_), fun r hr hc hp _ => ?_⟩
    · rw [chunkGood_of_started hh hs]
      exact releaseChunk_mem ..
    · have hr' : z.req? x.origin = some r := by rw [hstreams.req?, hr]
      have hc' : (z.currentPlace x).isSome = true := by rw [hstreams.currentPlace hsbs, hc]
      have hp' : passed z.nowUs r.tag.deadline = false := by rw [Drive.nowUs_congr htime, hp]
      refine ⟨fun hh hs => hcompletes _ ?_, fun hh hop hloc hcond => hcompletes _ (hmem (chunkGood_exists hh hr' hop hloc hcond hc' hp'))⟩
      obtain ⟨hhdr, hdata⟩ := chunkGood_first hh hs hr' hc' hp'
      exact ⟨hmem hhdr, hmem hdata⟩
  · refine ⟨fun hs => completes_onMain rfl hspeaks.live ?_, completes_onMain rfl hspeaks.live ?_⟩
    · rw [chunkData_of_fetching hspeaks hfetch]
      exact ladderOk_mem hh hs _
    · rw [chunkData_of_fetching hspeaks hfetch]
      exact ladderFail_mem (d := (s.dev.takeRing 2 1).twinDone opId) (by rw [Drive.req?, Drive.twinDone_kv, Drive.takeRing_kv]; exact hr) hop hh
  · rw [chunkFetchTimeout, hfetch]
    dsimp only
    constructor
    · rw [Drive.now_congr ((Drive.Instantly.refl _).ladderFail x).time, Drive.now_congr (Drive.twinDone_time ..), Drive.advanceTo_now]
      exact le_max_right ..
    · exact ladderFail_mem (by rw [Drive.req?, Drive.twinDone_kv, Drive.advanceTo_kv]; exact hr) hop hh

end Sys2Proof.Machine
end

-- Proofs of the key-value service: writes take effect.
section
namespace Sys2Proof.Machine
open Sys2Proof

/-! ## Tables -/

theorem tget?_tput_same {α : Type} (k : Nat) (a : α) (t : Tbl α) : tget? k (tput k a t) = some a := by
  induction t with
  | nil => simp [tput, tget?]
  | cons p t ih =>
    rw [tput]
    split
    · simp [tget?]
    · split
      · simp [tget?]
      · rename_i hne _
        rw [tget?, if_neg hne, ih]

theorem tget?_tput_ne {α : Type} {i k : Nat} (h : i ≠ k) (a : α) (t : Tbl α) : tget? i (tput k a t) = tget? i t := by
  induction t with
  | nil => simp [tput, tget?, Ne.symm h]
  | cons p t ih =>
    rw [tput]
    split
    · rename_i hp
      rw [tget?, tget?, if_neg (Ne.symm h), if_neg (hp ▸ Ne.symm h)]
    · split
      · rw [tget?, if_neg (Ne.symm h)]
      · rw [tget?, tget?, ih]

theorem tgetD_tput_same {α : Type} (k : Nat) (z a : α) (t : Tbl α) : tgetD k z (tput k a t) = a := by
  rw [tgetD, tget?_tput_same, Option.getD_some]

theorem tget?_eq_none {α : Type} {k : Nat} {t : Tbl α} (h : ∀ p ∈ t, p.1 ≠ k) : tget? k t = none := by
  induction t with
  | nil => rfl
  | cons p t ih => rw [tget?, if_neg (h p List.mem_cons_self), ih fun q hq => h q (List.mem_cons_of_mem _ hq)]

/-! ## Nonces -/

theorem Drive.stslot_setStslot (i : Nat) (x : StorageSlot) (d : Drive) : (d.setStslot i x).stslot i = x := tgetD_tput_same ..

theorem Drive.putReq_stslot (r : Req) (d : Drive) : (d.putReq r).stslot = d.stslot := rfl

theorem Drive.useKey_storage (slot ns gen : Nat) (d : Drive) : (d.useKey slot ns gen).keys.storage = d.keys.storage := rfl

/-- A slot reserves nonces ahead: its serial and its next nonce stay, and so does what is stored. -/
theorem Drive.reserveNonces_keeps {i : Nat} {d e : Drive} (h : e = if (d.stslot i).nonce < (d.stslot i).reserved then d
      else (d.setStslot i { d.stslot i with reserved := (d.stslot i).nonce / 2 ^ 24 * 2 ^ 24 + 2 ^ 24 }).delta
        { kind := 8, tag := 3 + i, version := (d.stslot i).nonce / 2 ^ 24 * 2 ^ 24 }) :
    (e.stslot i).serial = (d.stslot i).serial ∧ (e.stslot i).nonce = (d.stslot i).nonce ∧ e.nonceEnd = d.nonceEnd ∧ e.kv = d.kv ∧
      e.media.sbs = d.media.sbs := by
  split at h
  · subst h
    exact ⟨rfl, rfl, rfl, rfl, rfl⟩
  · subst h
    have hslot := Drive.stslot_setStslot i { d.stslot i with reserved := (d.stslot i).nonce / 2 ^ 24 * 2 ^ 24 + 2 ^ 24 } d
    exact ⟨(congrArg StorageSlot.serial hslot :), (congrArg StorageSlot.nonce hslot :), rfl, rfl, rfl⟩

/-- The next nonce of a CURRENT slot that has more to give (R388). -/
theorem Drive.drawNonce_of {d : Drive} {t i : Nat} (hi : d.slotIn t 0x39 = some i) (hn : (d.stslot i).nonce + 1 < d.nonceEnd) :
    ∃ e, d.drawNonce t = some (((d.stslot i).serial, (d.stslot i).nonce), e) ∧ (e.stslot i).nonce = (d.stslot i).nonce + 1 ∧
      e.kv = d.kv ∧ e.media.sbs = d.media.sbs := by
  unfold Drive.drawNonce
  rw [hi]
  dsimp only
  rw [if_neg (by omega)]
  generalize he : (if (d.stslot i).nonce < (d.stslot i).reserved then d else _) = e
  obtain ⟨hserial, hnonce, hend, hkv, hsbs⟩ := Drive.reserveNonces_keeps he.symm
  rw [if_pos (by rw [hnonce]; exact hend ▸ hn), hserial, hnonce]
  exact ⟨_, rfl, by rw [Drive.stslot_setStslot], hkv, hsbs⟩

/-! ## PUT at its home -/

/-- A PUT that is served here is held sealed with a nonce of its tenant's. The functions the branches turn on are made variables before the
branches are taken (here and below): the kernel would else evaluate the deadline's arithmetic to compare two matches. -/
theorem putRequest_of {d e : Drive} {o : Origin} {r : Req} {serial nonce : Nat} (h : d.Serves o 0x02 true r) (hs : d.canShelve = true)
    (hd : d.canDelta = true) (he : d.drawNonce (d.originTenant r) = some ((serial, nonce), e)) :
    ∃ y tag, y = e.useKey (e.storageKeySlot (d.originTenant r)) r.hdr.ns (d.ns r.hdr.ns).gen ∧
      putRequest o d = y.putReq { r with phase := .sealed, serial := serial, nonce := nonce, tag := tag } := by
  have hcheck : firstFail [((d.checks14 r).isNone, (d.checks14 r).getD 0)] = none := by
    rw [firstFail_cons_eq_none, h.early]
    exact ⟨rfl, rfl⟩
  have hlate := h.late
  rw [putRequest, Drive.withReq_of h.req h.active (by simp [h.opcode]) (Drive.sequenced_data (by simp [h.opcode]) d)]
  obtain ⟨checks, hchecks⟩ : ∃ f, d.checks69 = f := ⟨_, rfl⟩
  obtain ⟨draw, hdraw⟩ : ∃ f, Drive.drawNonce = f := ⟨_, rfl⟩
  rw [hchecks] at hlate ⊢
  rw [hdraw] at he ⊢
  simp only [hcheck, hlate, h.here, he]
  rw [if_neg (by simp [h.still, h.stays]), if_neg (by simp [h.holly]), if_neg (by simp [hs, hd])]
  exact ⟨_, _, rfl, rfl⟩

/-- The nonce is the next one of the tenant's CURRENT slot (R42, R388). -/
theorem putRequest_seals {d : Drive} {o : Origin} {r : Req} {i : Nat} (h : d.Serves o 0x02 true r) (hs : d.canShelve = true)
    (hd : d.canDelta = true) (hi : d.slotIn (d.originTenant r) 0x39 = some i) (hn : (d.stslot i).nonce + 1 < d.nonceEnd) :
    ((putRequest o d).stslot i).nonce = (d.stslot i).nonce + 1 ∧ ∃ r', (putRequest o d).req? o = some r' ∧ r'.phase = .sealed ∧
      r'.hdr = r.hdr ∧ r'.body = r.body ∧ r'.serial = (d.stslot i).serial ∧ r'.nonce = (d.stslot i).nonce := by
  obtain ⟨e, he, hnonce, hkv, -⟩ := Drive.drawNonce_of hi hn
  obtain ⟨y, tag, hy, hput⟩ := putRequest_of h hs hd he
  have hreq : y.req? o = some r := by
    rw [hy, Drive.req?, Drive.useKey_kv, hkv]
    exact h.req
  have hslot : y.stslot i = e.stslot i := by rw [hy, Drive.stslot_congr (Drive.useKey_storage ..)]
  have ho : r.origin = o := Drive.req?_origin h.req
  refine ⟨?_, { r with phase := .sealed, serial := (d.stslot i).serial, nonce := (d.stslot i).nonce, tag := tag }, ?_, rfl, rfl, rfl, rfl, rfl⟩
  · rw [hput, Drive.putReq_stslot, hslot, hnonce]
  · rw [hput]
    exact Drive.req?_putReq hreq ho

/-! ## What is stored -/

/-- Directory, write shelf, superblocks and the last version assigned are as they were. -/
structure Drive.SameStore (a b : Drive) : Prop where
  dir : b.kv.dir = a.kv.dir
  shelf : b.kv.shelf = a.kv.shelf
  last : b.kv.lastVersion = a.kv.lastVersion
  sbs : b.media.sbs = a.media.sbs

theorem Drive.SameStore.refl (d : Drive) : d.SameStore d := ⟨rfl, rfl, rfl, rfl⟩

theorem Drive.SameStore.trans {a b c : Drive} (h : a.SameStore b) (k : b.SameStore c) : a.SameStore c :=
  ⟨k.dir.trans h.dir, k.shelf.trans h.shelf, k.last.trans h.last, k.sbs.trans h.sbs⟩

/-- What changes neither the data service nor the media. -/
theorem Drive.SameStore.of_eq {a b : Drive} (hk : b.kv = a.kv) (hm : b.media = a.media) : a.SameStore b :=
  ⟨by rw [hk], by rw [hk], by rw [hk], by rw [hm]⟩

theorem Drive.SameStore.framed {ps : List Part} {a b : Drive} (k : a.changesOnly ps b) (hk : ps.contains Part.kv = false)
    (hm : ps.contains Part.media = false) : a.SameStore b := .of_eq (k.kv hk) (k.media hm)

theorem Drive.dirWatch_sameStore (d : Drive) : d.SameStore d.dirWatch := by
  unfold Drive.dirWatch
  dsimp only
  split
  · refine Drive.SameStore.trans ?_ (Drive.SameStore.framed (Drive.event_frame 0x280 Sev.warning [] _ none) rfl rfl)
    exact ⟨rfl, rfl, rfl, rfl⟩
  · split <;> exact ⟨rfl, rfl, rfl, rfl⟩

theorem Drive.mirror_sameStore (r : Req) (recs : List Rec) (key : Option (Nat × Bytes)) (dur : Nat) (d : Drive) :
    d.SameStore (d.mirror r recs key dur).2 := by
  unfold Drive.mirror
  dsimp only
  refine Drive.SameStore.trans ?_ (.framed (Drive.twinOp_frame ..) rfl rfl)
  split
  · exact .refl d
  · exact .framed (Drive.newOpId_frame d) rfl rfl

theorem Drive.noteChanges_sameStore (recs : List Rec) (d : Drive) : d.SameStore (d.noteChanges recs) := by
  unfold Drive.noteChanges
  dsimp only
  split <;> exact ⟨rfl, rfl, rfl, rfl⟩

/-- A write that waits for what it needs has stored what it stores. -/
theorem Drive.awaitNeeds_sameStore (r : Req) (v : Nat) (h : OpHdr) (body : Bytes) (recs : List Rec) (key : Option (Nat × Bytes))
    (release : Nat) (d : Drive) : d.SameStore (d.awaitNeeds r v h body recs key release) := by
  unfold Drive.awaitNeeds
  dsimp only
  refine Drive.SameStore.trans ?_ ((Drive.noteChanges_sameStore recs _).trans ⟨rfl, rfl, rfl, rfl⟩)
  split
  · exact Drive.mirror_sameStore ..
  · exact .refl d

/-! ## Versions -/

theorem Drive.reserveTicks_keeps (d : Drive) : d.reserveTicks.media.sbs = d.media.sbs ∧ d.reserveTicks.tick = d.tick ∧
    d.reserveTicks.roleBit = d.roleBit := by
  unfold Drive.reserveTicks
  split <;> exact ⟨rfl, rfl, rfl⟩

theorem Drive.reserveTicks_cycleVersion (input : Nat) (d : Drive) : d.reserveTicks.cycleVersion input = d.cycleVersion input := by
  obtain ⟨-, htick, hrole⟩ := d.reserveTicks_keeps
  rw [Drive.cycleVersion, htick, hrole, Drive.reserveTicks_time, Drive.cycleVersion]

/-- Once its time has come, the tick after that of a version gives greater versions (R83). -/
theorem Drive.lt_cycleVersion_advanceTo (last input : Nat) (d : Drive) :
    last < (d.advanceTo (4 * (verTick last + 1 - d.twin.tickBase))).cycleVersion input := by
  have hnow := Drive.advanceTo_now (4 * (verTick last + 1 - d.twin.tickBase)) d
  have htwin := Drive.advanceTo_twin (4 * (verTick last + 1 - d.twin.tickBase)) d
  generalize d.advanceTo _ = e at hnow htwin
  have htick : verTick last + 1 ≤ e.tick := by
    rw [Drive.tick, htwin]
    simp only [Drive.now] at hnow
    omega
  rw [verTick] at htick
  rw [Drive.cycleVersion]
  omega

/-- A version that is assigned is greater than every one before it (R81, R83), and the store is as it was. -/
theorem Drive.assign_eq (input : Nat) (d : Drive) : ∃ v e, d.assign input = (v, e) ∧ d.kv.lastVersion < v ∧
    e.kv = { d.kv with lastVersion := v } ∧ e.media.sbs = d.media.sbs := by
  unfold Drive.assign
  dsimp only
  refine ⟨_, _, rfl, ?_⟩
  rw [Drive.reserveTicks_cycleVersion, Drive.reserveTicks_kv, (Drive.reserveTicks_keeps _).1]
  split
  · rename_i hlt
    exact ⟨hlt, rfl, rfl⟩
  · rw [Drive.advanceTo_kv, Drive.advanceTo_media]
    exact ⟨Drive.lt_cycleVersion_advanceTo .., rfl, rfl⟩

/-! ## Entries of a key -/

/-- The entries of a key, in the order of the directory. -/
def entriesOf (n : Nat) (k : Bytes) (l : List DirEnt) : List DirEnt := l.filter (fun e => e.ns == n && e.key == k)

theorem Drive.candidates_eq (d : Drive) (n : Nat) (k : Bytes) : d.candidates n k =
    (entriesOf n k d.kv.dir).filter (fun e => e.supersede) ++ (entriesOf n k d.kv.dir).filter (fun e => !e.supersede) := by
  simp only [Drive.candidates, entriesOf, List.filter_filter, Bool.and_comm, Bool.and_left_comm]

theorem entriesOf_cons_of {n : Nat} {k : Bytes} {e : DirEnt} (hn : e.ns = n) (hk : e.key = k) (l : List DirEnt) :
    entriesOf n k (e :: l) = e :: entriesOf n k l := List.filter_cons_of_pos (by simp [hn, hk])

theorem entriesOf_cons_ne {n : Nat} {k : Bytes} {e : DirEnt} (h : ¬(e.ns = n ∧ e.key = k)) (l : List DirEnt) :
    entriesOf n k (e :: l) = entriesOf n k l := List.filter_cons_of_neg (by simpa using h)

/-- A directory from which a key's entries are taken. -/
def withoutKey (n : Nat) (k : Bytes) (l : List DirEnt) : List DirEnt := l.filter (fun e => !(e.ns == n && e.key == k))

theorem entriesOf_withoutKey_same (n : Nat) (k : Bytes) (l : List DirEnt) : entriesOf n k (withoutKey n k l) = [] := by
  rw [entriesOf, withoutKey, List.filter_filter, List.filter_eq_nil_iff]
  intro e _
  simp

theorem entriesOf_withoutKey_ne {n m : Nat} {k l : Bytes} (h : ¬(m = n ∧ l = k)) (es : List DirEnt) :
    entriesOf m l (withoutKey n k es) = entriesOf m l es := by
  rw [entriesOf, withoutKey, List.filter_filter, entriesOf]
  refine List.filter_congr fun e _ => ?_
  by_cases he : e.ns = m ∧ e.key = l
  · obtain ⟨rfl, rfl⟩ := he
    simpa [-not_and, Classical.not_and_iff_not_or_not] using h
  · have : (e.ns == m && e.key == l) = false := by simpa using he
    rw [this, Bool.false_and]

/-! ## A record that is shelved -/

/-- `b` is `a` with one more write: its record `x`, of a new version, is on the shelf under the next number, and the directory is `dir`. -/
structure Drive.Writes (a : Drive) (x : Rec) (dir : List DirEnt) (b : Drive) : Prop where
  later : a.kv.lastVersion < x.version
  last : b.kv.lastVersion = x.version
  dir : b.kv.dir = dir
  shelf : ∃ y : ShelfRec, y.rec_ = x ∧ b.kv.shelf = tput a.kv.shelfNext y a.kv.shelf
  sbs : b.media.sbs = a.media.sbs

theorem Drive.Writes.trans {a b c : Drive} {x : Rec} {dir : List DirEnt} (h : a.Writes x dir b) (k : b.SameStore c) : a.Writes x dir c where
  later := h.later
  last := k.last.trans h.last
  dir := k.dir.trans h.dir
  shelf := by rw [k.shelf]; exact h.shelf
  sbs := k.sbs.trans h.sbs

theorem Drive.Writes.recAt_new {a b : Drive} {x : Rec} {dir : List DirEnt} (h : a.Writes x dir b) : b.recAt (.shelf a.kv.shelfNext) = some x := by
  obtain ⟨y, rfl, hy⟩ := h.shelf
  rw [Drive.recAt, hy, tget?_tput_same]
  rfl

theorem Drive.Writes.recAt_old {a b : Drive} {x : Rec} {dir : List DirEnt} (h : a.Writes x dir b) {p : Place}
    (hp : p ≠ .shelf a.kv.shelfNext) : b.recAt p = a.recAt p := by
  obtain ⟨y, -, hy⟩ := h.shelf
  cases p with
  | shelf i => rw [Drive.recAt, hy, tget?_tput_ne (fun hi => hp (congrArg _ hi)), Drive.recAt]
  | media sb g => rw [Drive.recAt, Drive.sb, h.sbs, Drive.recAt, Drive.sb]

theorem Drive.ShelfNumbered.recAt_next {d : Drive} (h : d.ShelfNumbered) : d.recAt (.shelf d.kv.shelfNext) = none := by
  rw [Drive.recAt, tget?_eq_none fun p hp => Nat.ne_of_lt (h p hp)]
  rfl

/-- An entry of another key than the record's agrees with its own record as before. -/
theorem Drive.Writes.confirms_other {a b : Drive} {x : Rec} {dir : List DirEnt} (h : a.Writes x dir b) (hn : a.ShelfNumbered) {e : DirEnt}
    (he : ¬(e.ns = x.ns ∧ e.key = x.key)) : b.confirms e = a.confirms e := by
  by_cases hp : e.place = .shelf a.kv.shelfNext
  · have hx : (x.ns == e.ns && x.key == e.key) = false := by
      simpa using fun h1 h2 => he ⟨h1.symm, h2.symm⟩
    rw [Drive.confirms, Drive.keyMatches, Drive.confirms, Drive.keyMatches, hp, h.recAt_new, hn.recAt_next]
    dsimp only
    rw [hx, Bool.false_and, Bool.and_false]
  · exact Drive.confirms_congr (h.recAt_old hp)

/-- Every other key names what it named. -/
theorem Drive.Writes.find?_other {a b : Drive} {x : Rec} {dir : List DirEnt} (h : a.Writes x dir b) (hn : a.ShelfNumbered) {n : Nat} {k : Bytes}
    (hk : ¬(n = x.ns ∧ k = x.key)) (hdir : entriesOf n k dir = entriesOf n k a.kv.dir) : b.find? n k = a.find? n k := by
  refine Drive.find?_congr (by rw [Drive.candidates_eq, h.dir, hdir, Drive.candidates_eq]) fun e he => h.confirms_other hn ?_
  obtain ⟨-, rfl, rfl⟩ := Drive.mem_dir_of_mem_candidates he
  exact hk

/-- A key without entries names nothing. -/
theorem Drive.find?_of_no_entries {d : Drive} {n : Nat} {k : Bytes} (h : entriesOf n k d.kv.dir = []) : d.find? n k = none := by
  rw [Drive.find?, Drive.candidates_eq, h]
  rfl

/-- An entry that heads its key's candidates and agrees with its record is what the key names. -/
theorem Drive.find?_of_head {d : Drive} {n : Nat} {k : Bytes} {e : DirEnt} {l : List DirEnt} (hd : entriesOf n k d.kv.dir = e :: l)
    (hs : e.supersede = true ∨ l = []) (hc : d.confirms e = true) : d.find? n k = some e := by
  rw [Drive.find?, Drive.candidates_eq, hd]
  cases hsup : e.supersede with
  | true => rw [List.filter_cons_of_pos hsup, List.cons_append, List.find?_cons_of_pos hc]
  | false =>
    obtain rfl : l = [] := hs.resolve_left (by simp [hsup])
    rw [List.filter_cons_of_neg (by simp [hsup]), List.filter_cons_of_pos (by simp [hsup]), List.filter_nil, List.nil_append,
      List.find?_cons_of_pos hc]

/-- The entry of a write agrees with the record it shelved. -/
theorem Drive.Writes.confirms_new {a b : Drive} {x : Rec} {dir : List DirEnt} (h : a.Writes x dir b) {e : DirEnt}
    (hp : e.place = .shelf a.kv.shelfNext) (hn : e.ns = x.ns) (hk : e.key = x.key) (hv : e.version = x.version) : b.confirms e = true := by
  rw [Drive.confirms, Drive.keyMatches, hp, h.recAt_new]
  simp [hn, hk, hv]

/-! ## PUT_COMMIT of a namespace of keys -/

section
variable {a b : Drive} (hk : b.kv = a.kv) (ht : b.twin = a.twin)

include hk in
theorem Drive.ns_congr : b.ns = a.ns := by
  funext n
  rw [Drive.ns, hk, Drive.ns]

include ht in
theorem Drive.effTwin_congr : b.effTwin = a.effTwin := by rw [Drive.effTwin, ht, Drive.effTwin]

include ht in
theorem Drive.reserves_congr : b.reserves = a.reserves := by
  funext ns
  rw [Drive.reserves, Drive.effTwin_congr ht, Drive.reserves]

include hk in
theorem Drive.placeableAll_congr : b.placeableAll = a.placeableAll := by
  have hf : b.fingerprint = a.fingerprint := by
    funext n k
    rw [Drive.fingerprint, hk, Drive.fingerprint]
  funext l
  rw [Drive.placeableAll, hf, hk, Drive.placeableAll]

include hk ht in
theorem Drive.spaceFor_congr (hm : b.media = a.media) : b.spaceFor = a.spaceFor := by
  funext ns g t
  rw [Drive.spaceFor, Drive.usedTotal, Drive.capacityGranules, Drive.reserves_congr ht, hk, hm, ht, Drive.spaceFor, Drive.usedTotal,
    Drive.capacityGranules]

end

/-- An entry for a key: the directory is not full, the tenant's reservation holds one, and its bucket has a place. -/
theorem Drive.entryFor_of_place {n : Nat} {k : Bytes} {d : Drive} (hf : ¬ dirLimit ≤ d.dirCount)
    (hr : ¬ (d.reserves (d.ns n) = true ∧ d.twin.resEntries = 0)) (hp : d.placeable n k = true) : d.entryFor n k {} = (none, d) := by
  unfold Drive.entryFor
  simp only [List.length_nil, Nat.add_zero, Nat.le_zero]
  rw [if_neg hf, if_neg hr, if_neg (by simpa [Drive.placeable] using hp)]

theorem Drive.place_of_entryFor {n : Nat} {k : Bytes} {d : Drive} (h : (d.entryFor n k {}).1 = none) :
    ¬ dirLimit ≤ d.dirCount ∧ ¬ (d.reserves (d.ns n) = true ∧ d.twin.resEntries = 0) ∧ d.placeable n k = true := by
  unfold Drive.entryFor at h
  simp only [List.length_nil, Nat.add_zero, Nat.le_zero] at h
  split at h
  · exact absurd h (by simp)
  · split at h
    · exact absurd h (by simp)
    · split at h
      · exact absurd h (by simp)
      · rename_i hf hr hp
        exact ⟨hf, hr, by simpa [Drive.placeable] using hp⟩

/-- Room that there is at a drive, there is at one with the same data service, media and pair. -/
theorem Drive.roomFor_of_none {a b : Drive} (hk : b.kv = a.kv) (hm : b.media = a.media) (ht : b.twin = a.twin) {n : Nat} {k : Bytes} {g : Nat}
    {newKey : Bool} (h : (a.roomFor n k g newKey).1 = none) : b.roomFor n k g newKey = (none, b) := by
  have hentry : (a.entryFor n k {}).1 = none → b.entryFor n k {} = (none, b) := fun he => by
    obtain ⟨hf, hr, hp⟩ := Drive.place_of_entryFor he
    exact Drive.entryFor_of_place (by rw [Drive.dirCount, hk]; exact hf) (by rw [Drive.reserves_congr ht, Drive.ns_congr hk, ht]; exact hr)
      (by rw [Drive.placeable, Drive.placeableAll_congr hk]; exact hp)
  unfold Drive.roomFor at h ⊢
  rw [Drive.spaceFor_congr hk ht hm, Drive.ns_congr hk]
  dsimp only at h ⊢
  split at h
  · exact absurd h (by simp)
  · rename_i hspace
    rw [if_neg hspace]
    split at h
    · rename_i hold
      rw [if_pos hold]
    · rename_i hnew
      rw [if_neg hnew, hentry h]

/-- The record of a version that `assign` gave, put on the shelf, with a new directory. -/
theorem Drive.Writes.of_assign {a y : Drive} {x : Rec} (hlt : a.kv.lastVersion < x.version) (hkv : y.kv = { a.kv with lastVersion := x.version })
    (hs : y.media.sbs = a.media.sbs) (dir : List DirEnt) : a.Writes x dir { (y.shelve x none).2 with kv.dir := dir } where
  later := hlt
  last := by
    change y.kv.lastVersion = x.version
    rw [hkv]
  dir := rfl
  shelf := ⟨_, rfl, by
    change tput y.kv.shelfNext _ y.kv.shelf = _
    rw [hkv]⟩
  sbs := hs

/-- The deletion is kept beside the directory, and written down. -/
theorem Drive.Writes.buried {a b : Drive} {x : Rec} {dir : List DirEnt} (h : a.Writes x dir { b with kv.dir := dir }) (tombs : List Tomb)
    (y : Delta) : a.Writes x dir (Drive.delta y { b with kv.dir := dir, kv.tombs := tombs }) := h.trans ⟨rfl, rfl, rfl, rfl⟩

/-- The namespace counts a write, and the directory is watched. -/
theorem Drive.Writes.counted {a b : Drive} {x : Rec} {dir : List DirEnt} (h : a.Writes x dir b) (n : Nat) (f : Ns → Ns) :
    a.Writes x dir (b.modNs n f).dirWatch := by
  have hns : b.SameStore (b.modNs n f) := ⟨rfl, rfl, rfl, rfl⟩
  exact (h.trans hns).trans (Drive.dirWatch_sameStore _)

theorem Drive.Writes.drawReservation {a b : Drive} {x : Rec} {dir : List DirEnt} (h : a.Writes x dir b) (ns : Ns) (g entries : Nat) :
    a.Writes x dir (b.drawReservation ns g entries) := h.trans (.framed (Drive.drawReservation_frame ns g entries b) rfl rfl)

theorem Drive.Writes.awaitNeeds {a b : Drive} {x : Rec} {dir : List DirEnt} (h : a.Writes x dir b) (r : Req) (v : Nat) (rep : OpHdr)
    (body : Bytes) (recs : List Rec) (key : Option (Nat × Bytes)) (release : Nat) :
    a.Writes x dir (b.awaitNeeds r v rep body recs key release) := h.trans (Drive.awaitNeeds_sameStore ..)

theorem Drive.shelve_eq (x : Rec) (op : Option Nat) (d : Drive) : d.shelve x op = (d.kv.shelfNext, (d.shelve x op).2) := rfl

/-- The drive that looks a condition's entry up: a mismatch may have been noted (R44). -/
theorem Drive.noteMismatch_if {d z : Drive} {p : Prop} [Decidable p] {n : Nat} {k : Bytes} (h : (if p then d else d.noteMismatch n k) = z) :
    z.kv = d.kv ∧ z.media = d.media ∧ z.twin = d.twin ∧ z.time = d.time ∧ z.find? = d.find? := by
  subst h
  split
  · exact ⟨rfl, rfl, rfl, rfl, rfl⟩
  · exact ⟨d.noteMismatch_kv n k, d.noteMismatch_media n k, (d.noteMismatch_frame n k).twin rfl, (d.noteMismatch_frame n k).time rfl,
      d.noteMismatch_find? n k⟩

theorem Drive.canAssign_congr {a b : Drive} (hk : b.kv = a.kv) (hm : b.media = a.media) (ht : b.twin = a.twin) (hc : b.time = a.time) :
    b.canAssign = a.canAssign := by
  rw [Drive.canAssign, Drive.canDelta, Drive.undrained, Drive.tick, hk, hm, ht, hc, Drive.canAssign, Drive.canDelta, Drive.undrained, Drive.tick]

theorem Drive.mirrorRoom_congr {a b : Drive} (ht : b.twin = a.twin) : b.mirrorRoom = a.mirrorRoom := by
  funext o ns
  unfold Drive.mirrorRoom Drive.mirrors Drive.twinRoom
  rw [Drive.effTwin_congr ht, ht]

/-- A sealed PUT to a keyed namespace that may take effect now. -/
structure Drive.Commits (d : Drive) (o : Origin) (r : Req) : Prop where
  req : d.req? o = some r
  sealed : r.phase = .sealed
  unheld : d.held r.hdr.ns r.key = false
  first : d.earlierWrite r = false
  still : (d.ns r.hdr.ns).state ≠ 0x22
  stays : (d.ns r.hdr.ns).cutover = false
  keyed : (d.ns r.hdr.ns).located = false
  inTime : passed d.nowUs r.tag.deadline = false
  opens : (d.slotOfSerial (d.originTenant r) r.serial).isSome = true
  unfenced : d.effTwin ≠ 5
  writable : d.media.wearReadOnly = false
  here : d.route (d.ns r.hdr.ns) (d.isHome r.hdr.ns r.key) true = .here
  versions : d.versionsSpent r.input = false
  owned : d.nsOwned r.hdr.ns (d.originTenant r) = true
  cond : condOutcome 0x02 (condOf r.hdr.flags) r.hdr.condVersion ((d.find? r.hdr.ns r.key).map (·.version)) = none
  room : (d.roomFor r.hdr.ns r.key (granules r.key.length r.hdr.valueLen) (d.find? r.hdr.ns r.key).isNone).1 = none
  assigns : d.canAssign = true
  mirrors : d.mirrorRoom o (d.ns r.hdr.ns) = true

/-- A PUT that commits writes its record and its entry; an unconditional one leaves the key's older entries to confirmation (R44, R169). -/
theorem putCommit_writes {d : Drive} {o : Origin} {r : Req} (h : d.Commits o r) : ∃ (x : Rec) (e : DirEnt) (l : List DirEnt),
    d.Writes x (e :: l) (putCommit o d) ∧ x.ns = r.hdr.ns ∧ x.key = r.key ∧ x.value = r.value ∧ e.ns = r.hdr.ns ∧ e.key = r.key ∧
      e.version = x.version ∧ e.place = .shelf d.kv.shelfNext ∧
      (e.supersede = true ∧ l = d.kv.dir ∨ l = withoutKey r.hdr.ns r.key d.kv.dir) := by
  obtain ⟨z, hz⟩ : ∃ z, (if condOf r.hdr.flags = 0 then d else d.noteMismatch r.hdr.ns r.key) = z := ⟨_, rfl⟩
  obtain ⟨hkv, hmedia, htwin, htime, hfind⟩ := Drive.noteMismatch_if hz
  have hcond := h.cond
  have hroom := Drive.roomFor_of_none hkv hmedia htwin h.room
  obtain ⟨v, y, hassigned, hlt, hset, hsbs⟩ := Drive.assign_eq r.input z
  rw [hkv] at hlt hset
  rw [hmedia] at hsbs
  rw [← hfind] at hcond hroom
  rw [putCommit, Drive.withPhase_of h.req (by simp [h.sealed])]
  obtain ⟨outcome, houtcome⟩ : ∃ f, condOutcome = f := ⟨_, rfl⟩
  obtain ⟨room, hroomFor⟩ : ∃ f, Drive.roomFor = f := ⟨_, rfl⟩
  obtain ⟨assign, hassign⟩ : ∃ f, Drive.assign = f := ⟨_, rfl⟩
  rw [houtcome] at hcond ⊢
  rw [hroomFor] at hroom ⊢
  rw [hassign] at hassigned ⊢
  dsimp only
  rw [if_neg (by simp [h.unheld]), if_neg (by simp [h.first, h.still, h.stays]), if_neg (by simp [h.inTime]),
    if_neg (by simpa [Option.isSome_iff_ne_none] using h.opens), if_neg h.unfenced, if_neg (by simp [h.writable]),
    if_neg (by simp [h.here]), if_neg (by simp [h.here]), if_neg (by simp [h.versions]), if_neg (by simp [h.owned])]
  simp only [hz, h.keyed, Bool.false_eq_true, if_false, hcond, hroom]
  rw [if_neg (by simp [Drive.canAssign_congr hkv hmedia htwin htime, Drive.mirrorRoom_congr htwin, h.assigns, h.mirrors])]
  rw [hassigned]
  dsimp only
  rw [Drive.shelve_eq]
  dsimp only
  have hwrites := Drive.Writes.of_assign (a := d) (y := y) (x := y.putRecord r (d.ns r.hdr.ns) v (d.originTenant r)) hlt hset hsbs
  refine ⟨_, _, _, (((hwrites _).counted ..).drawReservation ..).awaitNeeds .., rfl, rfl, rfl, rfl, rfl, rfl, ?_, ?_⟩
  · exact congrArg Place.shelf (congrArg Kv.shelfNext hset :)
  · have hdir : y.kv.dir = d.kv.dir := (congrArg Kv.dir hset :)
    by_cases hu : (condOf r.hdr.flags == 0 && ((z.find? r.hdr.ns r.key).isNone || z.placeable r.hdr.ns r.key)) = true
    · exact .inl ⟨hu, (if_pos hu).trans hdir⟩
    · exact .inr ((if_neg hu).trans (congrArg (withoutKey r.hdr.ns r.key) hdir))

/-- The key then names the record; every other key names what it named. -/
theorem putCommit_names {d : Drive} {o : Origin} {r : Req} (h : d.Commits o r) (hn : d.ShelfNumbered) : ∃ e x,
    (putCommit o d).find? r.hdr.ns r.key = some e ∧ (putCommit o d).recAt e.place = some x ∧ d.kv.lastVersion < e.version ∧
      (putCommit o d).kv.lastVersion = e.version ∧ x.version = e.version ∧ x.key = r.key ∧ x.value = r.value ∧
      ∀ n k, ¬(n = r.hdr.ns ∧ k = r.key) → (putCommit o d).find? n k = d.find? n k := by
  obtain ⟨x, e, l, hw, hxn, hxk, hxv, hen, hek, hev, hep, hl⟩ := putCommit_writes h
  refine ⟨e, x, ?_, ?_, hev ▸ hw.later, hw.last.trans hev.symm, hev.symm, hxk, hxv, fun n k hne => ?_⟩
  · refine Drive.find?_of_head (by rw [hw.dir, entriesOf_cons_of hen hek]) ?_
      (hw.confirms_new hep (hen.trans hxn.symm) (hek.trans hxk.symm) hev)
    rcases hl with ⟨hs, -⟩ | rfl
    · exact .inl hs
    · exact .inr (entriesOf_withoutKey_same ..)
  · rw [hep]
    exact hw.recAt_new
  · refine hw.find?_other hn (by rw [hxn, hxk]; exact hne) ?_
    rw [entriesOf_cons_ne (by rw [hen, hek]; exact fun hx => hne ⟨hx.1.symm, hx.2.symm⟩)]
    rcases hl with ⟨-, rfl⟩ | rfl
    · rfl
    · exact entriesOf_withoutKey_ne hne _

/-! ## DELETE -/

/-- A DELETE that is served here and may take effect now. -/
structure Drive.Deletes (d : Drive) (o : Origin) (r : Req) (i : Nat) : Prop where
  serves : d.Serves o 0x03 true r
  first : d.earlierWrite r = false
  versions : d.versionsSpent r.input = false
  assigns : d.canAssign = true
  shelves : d.canShelve = true
  mirrors : d.mirrorRoom o (d.ns r.hdr.ns) = true
  cond : condOutcome 0x03 (condOf r.hdr.flags) r.hdr.condVersion ((d.find? r.hdr.ns r.key).map (·.version)) = none
  slot : d.slotIn (d.originTenant r) 0x39 = some i
  nonce : (d.stslot i).nonce + 1 < d.nonceEnd

/-- A DELETE writes a record of the deletion and takes the key's entries away (R50). -/
theorem deleteRequest_writes {d : Drive} {o : Origin} {r : Req} {i : Nat} (h : d.Deletes o r i) : ∃ x : Rec,
    d.Writes x (withoutKey r.hdr.ns r.key d.kv.dir) (deleteRequest o d) ∧ x.ns = r.hdr.ns ∧ x.key = r.key := by
  obtain ⟨z, hz⟩ : ∃ z, d.noteMismatch r.hdr.ns r.key = z := ⟨_, rfl⟩
  have hkv : z.kv = d.kv := by rw [← hz, Drive.noteMismatch_kv]
  have hmedia : z.media = d.media := by rw [← hz, Drive.noteMismatch_media]
  have htwin : z.twin = d.twin := by rw [← hz]; exact (Drive.noteMismatch_frame ..).twin rfl
  have htime : z.time = d.time := by rw [← hz]; exact (Drive.noteMismatch_frame ..).time rfl
  have hstorage : z.keys.storage = d.keys.storage := by rw [← hz, Drive.noteMismatch_storage]
  have hcond := h.cond
  rw [show d.find? = z.find? by rw [← hz, Drive.noteMismatch_find?]] at hcond
  have hcan : z.canShelve = d.canShelve := by rw [Drive.canShelve, Drive.shelfUsed, hkv, hmedia, Drive.canShelve, Drive.shelfUsed]
  obtain ⟨e, hdrawn, -, hekv, hesbs⟩ := Drive.drawNonce_of (d := z) (t := d.originTenant r) (by rw [Drive.slotIn_congr hstorage, h.slot])
    (by rw [Drive.stslot_congr hstorage, Drive.nonceEnd, Drive.roleBit, htwin]; exact h.nonce)
  obtain ⟨v, y, hassigned, hlt, hset, hsbs⟩ := Drive.assign_eq r.input e
  have hcheck := orElse_of_none h.serves.early h.serves.late
  have hserves := h.serves
  rw [deleteRequest, Drive.withReq_of hserves.req hserves.active (by simp [hserves.opcode]) (Drive.sequenced_data (by simp [hserves.opcode]) d)]
  obtain ⟨checks, hchecks⟩ : ∃ f, d.checks69 = f := ⟨_, rfl⟩
  obtain ⟨outcome, houtcome⟩ : ∃ f, condOutcome = f := ⟨_, rfl⟩
  obtain ⟨draw, hdraw⟩ : ∃ f, Drive.drawNonce = f := ⟨_, rfl⟩
  obtain ⟨assign, hassign⟩ : ∃ f, Drive.assign = f := ⟨_, rfl⟩
  rw [hchecks] at hcheck ⊢
  rw [houtcome] at hcond ⊢
  rw [hdraw] at hdrawn ⊢
  rw [hassign] at hassigned ⊢
  simp only [hcheck, hserves.here, hz, hcond, hdrawn, hassigned]
  rw [if_neg hserves.still, if_neg (by simp [hserves.unheld]), if_neg (by simp [h.first, hserves.stays]),
    if_neg (by simp [hserves.holly, h.versions]),
    if_neg (by simp [Drive.canAssign_congr hkv hmedia htwin htime, Drive.mirrorRoom_congr htwin, hcan, h.assigns, h.mirrors, h.shelves])]
  rw [hekv, hkv] at hlt hset
  rw [hesbs, hmedia] at hsbs
  have hwrites := Drive.Writes.of_assign (a := d) (y := y)
    (x := { ns := r.hdr.ns, tenant := d.originTenant r, key := r.key, value := [], version := v, gen := (d.ns r.hdr.ns).gen,
            serial := (z.stslot i).serial, nonce := (z.stslot i).nonce,
            sealedBy := y.nsKey (d.originTenant r) (z.stslot i).serial r.hdr.ns (d.ns r.hdr.ns).gen, deletion := true })
    hlt hset hsbs (withoutKey r.hdr.ns r.key y.kv.dir)
  have hdir : y.kv.dir = d.kv.dir := (congrArg Kv.dir hset :)
  rw [← hdir]
  exact ⟨_, ((hwrites.buried ..).counted ..).awaitNeeds .., rfl, rfl⟩

/-- The key then names nothing; every other key names what it named. -/
theorem deleteRequest_names {d : Drive} {o : Origin} {r : Req} {i : Nat} (h : d.Deletes o r i) (hn : d.ShelfNumbered) :
    (deleteRequest o d).find? r.hdr.ns r.key = none ∧ d.kv.lastVersion < (deleteRequest o d).kv.lastVersion ∧
      ∀ n k, ¬(n = r.hdr.ns ∧ k = r.key) → (deleteRequest o d).find? n k = d.find? n k := by
  obtain ⟨x, hw, hxn, hxk⟩ := deleteRequest_writes h
  refine ⟨Drive.find?_of_no_entries ?_, hw.last.symm ▸ hw.later, fun n k hne => hw.find?_other hn ?_ (entriesOf_withoutKey_ne hne _)⟩
  · rw [hw.dir]
    exact entriesOf_withoutKey_same ..
  · rw [hxn, hxk]
    exact hne

/-- Settles O13: the nonce and the sealed request by `putRequest_seals`; the lookups from what `Drive.Writes` says of the store. -/
theorem writesTakeEffect : Obligations.WritesTakeEffect := by
  unfold Obligations.WritesTakeEffect
  refine ⟨fun s o r i h hs hd hi hn => completes_onMain rfl h.live (putRequest_seals h hs hd hi hn), ?_, ?_⟩
  · intro s o r hlive hreq hsealed hheld hfirst hstill hstays hkeyed hpassed hopens htwin hwear hroute hspent howned hcond hroom hassign hmirror hn
    exact completes_onMain rfl hlive (putCommit_names ⟨hreq, hsealed, hheld, hfirst, hstill, hstays, hkeyed, hpassed, hopens, htwin, hwear,
      hroute, hspent, howned, hcond, hroom, hassign, hmirror⟩ hn)
  · intro s o r i hserves hfirst hspent hassign hshelve hmirror hcond hslot hnonce hn
    exact completes_onMain rfl hserves.live (deleteRequest_names ⟨hserves, hfirst, hspent, hassign, hshelve, hmirror, hcond, hslot, hnonce⟩ hn)

end Sys2Proof.Machine
end

-- Proofs of transactions and ordering: cross-home batches, the participant's and the coordinator's part (R129 to R136).
section
namespace Sys2Proof.Machine
open Sys2Proof

/-! ## Messages of a twin that speaks -/

/-- The drive that takes a twin's message: awake, the frame's buffers back on the free list (R513, R753). -/
def Drive.heard (d : Drive) : Drive := d.awaken.takeRing 2 1

@[simp] theorem Drive.heard_kv (d : Drive) : d.heard.kv = d.kv := by simp [Drive.heard]

@[simp] theorem Drive.heard_twin (d : Drive) : d.heard.twin = d.twin := by simp [Drive.heard]

theorem Drive.TwinSpeaks.fromTwinAwake {d : Drive} (h : d.TwinSpeaks) (f : Drive → Drive) : d.fromTwinAwake f = f d.heard := by
  rw [Drive.fromTwinAwake, Drive.fromTwin, if_pos (by simp [h.up, h.authentic, h.paired]), Drive.heard]

/-- A message with a new op_id is applied (R300, R301). -/
theorem Drive.onceTwin_of_new {d : Drive} {opId : Nat} (hs : d.twinSeen? opId = none) (hr : d.req? (.twin opId) = none)
    (f : Drive → Drive) : d.onceTwin opId f = f d := by
  rw [Drive.onceTwin, hs]
  simp [hr]

theorem Drive.isHome_congr {a b : Drive} (hk : b.kv = a.kv) (ht : b.twin = a.twin) : b.isHome = a.isHome := by
  funext n k
  rw [Drive.isHome, Drive.fingerprint, Drive.roleBit, hk, ht, Drive.isHome, Drive.fingerprint, Drive.roleBit]

theorem Drive.held_congr {a b : Drive} (hk : b.kv = a.kv) : b.held = a.held := by
  funext n k
  rw [Drive.held, hk, Drive.held]

theorem Drive.installsHere_congr {a b : Drive} (hk : b.kv = a.kv) (ht : b.twin = a.twin) : b.installsHere = a.installsHere := by
  funext m
  rw [Drive.installsHere, Drive.isHome_congr hk ht, Drive.ns_congr hk, Drive.installsHere]

/-! ## What a check for room leaves behind (R174) -/

/-- Of the data service only what a refusal for a full directory records differs. -/
def Drive.RoomNoted (a b : Drive) : Prop :=
  ∃ armed1 armed2 fails, b.kv = { a.kv with dirFullArmed1 := armed1, dirFullArmed2 := armed2, dirPlaceFail := fails }

theorem Drive.RoomNoted.refl (d : Drive) : d.RoomNoted d := ⟨_, _, _, rfl⟩

theorem Drive.RoomNoted.trans {a b c : Drive} (h : a.RoomNoted b) (k : b.RoomNoted c) : a.RoomNoted c := by
  obtain ⟨_, _, _, h⟩ := h
  obtain ⟨x, y, z, k⟩ := k
  exact ⟨x, y, z, by rw [k, h]⟩

theorem Drive.RoomNoted.reqs {a b : Drive} (h : a.RoomNoted b) : b.kv.reqs = a.kv.reqs := by
  obtain ⟨_, _, _, h⟩ := h
  rw [h]

theorem Drive.RoomNoted.holds {a b : Drive} (h : a.RoomNoted b) : b.kv.holds = a.kv.holds := by
  obtain ⟨_, _, _, h⟩ := h
  rw [h]

theorem Drive.entryFor_roomNoted (n : Nat) (k : Bytes) (t : Taken) (d : Drive) : d.RoomNoted (d.entryFor n k t).2 := by
  unfold Drive.entryFor
  split
  · dsimp only
    split
    · exact ⟨_, _, _, Drive.event_kv ..⟩
    · exact .refl d
  · split
    · dsimp only
      split
      · exact ⟨_, _, _, Drive.event_kv ..⟩
      · exact .refl d
    · split
      · exact ⟨_, _, _, rfl⟩
      · exact .refl d

/-- Where there is room for an entry, nothing is recorded. -/
theorem Drive.entryFor_of_none {n : Nat} {k : Bytes} {t : Taken} {d : Drive} (h : (d.entryFor n k t).1 = none) : (d.entryFor n k t).2 = d := by
  unfold Drive.entryFor at h ⊢
  split at h
  · simp at h
  · split at h
    · simp at h
    · split at h
      · simp at h
      · rename_i hfull hreserved hplace
        rw [if_neg hfull, if_neg hreserved, if_neg hplace]

/-- A check of members in order: each adds its status, and one that passes leaves the drive as it is. -/
structure ChecksInOrder {α : Type} (f : List (Option Nat) × Drive → α → List (Option Nat) × Drive) : Prop where
  noted : ∀ (acc : List (Option Nat) × Drive) (x : α), acc.2.RoomNoted (f acc x).2
  adds : ∀ (acc : List (Option Nat) × Drive) (x : α), ∃ st, (f acc x).1 = acc.1 ++ [st] ∧ (st = none → (f acc x).2 = acc.2)

theorem ChecksInOrder.foldl_noted {α : Type} {f : List (Option Nat) × Drive → α → List (Option Nat) × Drive} (hf : ChecksInOrder f)
    (l : List α) (acc : List (Option Nat) × Drive) : acc.2.RoomNoted (l.foldl f acc).2 := by
  induction l generalizing acc with
  | nil => exact .refl _
  | cons x l ih => exact (hf.noted acc x).trans (ih _)

/-- When every member passes, the drive is as it was. -/
theorem ChecksInOrder.foldl_same {α : Type} {f : List (Option Nat) × Drive → α → List (Option Nat) × Drive} (hf : ChecksInOrder f)
    (l : List α) (acc : List (Option Nat) × Drive) :
    (∃ sts, (l.foldl f acc).1 = acc.1 ++ sts) ∧ ((l.foldl f acc).1.any Option.isSome = false → (l.foldl f acc).2 = acc.2) := by
  induction l generalizing acc with
  | nil => exact ⟨⟨[], by simp⟩, fun _ => rfl⟩
  | cons x l ih =>
    obtain ⟨st, hadd, hsame⟩ := hf.adds acc x
    obtain ⟨⟨sts, hsts⟩, hrest⟩ := ih (f acc x)
    rw [List.foldl_cons]
    refine ⟨⟨st :: sts, by rw [hsts, hadd]; simp⟩, fun hany => ?_⟩
    rw [hrest hany]
    refine hsame ?_
    rw [hsts, hadd] at hany
    simp only [List.any_append, List.any_cons, Bool.or_eq_false_iff] at hany
    simpa using hany.1.2.1

/-- Orders 13 and 14 on all members: what a refusal records, and nothing where there is room for all. -/
theorem roomForAll_noted (ms : List Member) (d : Drive) :
    d.RoomNoted (roomForAll ms d).2 ∧ ((roomForAll ms d).1 = none → (roomForAll ms d).2 = d) := by
  unfold roomForAll
  extract_lets puts news takenBefore space
  have hchecks : ChecksInOrder (fun (acc : List (Option Nat) × Drive) (p : (Member × Bool) × Nat) =>
      if p.1.1.op = 0x02 ∧ p.1.2 = true then
        ((acc.1 ++ [(acc.2.entryFor p.1.1.ns p.1.1.key (takenBefore p.2)).1], (acc.2.entryFor p.1.1.ns p.1.1.key (takenBefore p.2)).2))
      else (acc.1 ++ [none], acc.2)) := by
    constructor
    · intro acc x
      split
      · exact Drive.entryFor_roomNoted ..
      · exact .refl _
    · intro acc x
      split
      · exact ⟨_, rfl, Drive.entryFor_of_none⟩
      · exact ⟨_, rfl, fun _ => rfl⟩
  have hnoted := hchecks.foldl_noted (ms.zip news).zipIdx ([], d)
  have hsame := (hchecks.foldl_same (ms.zip news).zipIdx ([], d)).2
  split
  · exact ⟨.refl d, by simp⟩
  · dsimp only
    split
    · exact ⟨hnoted, by simp⟩
    · rename_i hpass
      exact ⟨hnoted, fun _ => hsame (by simpa using hpass)⟩

theorem Drive.ownOutcomes_noted (r : Req) (tenant : Nat) (ms : List Member) (mine : Member → Bool) (d : Drive) :
    d.RoomNoted (d.ownOutcomes r tenant ms mine).2 := by
  unfold Drive.ownOutcomes
  dsimp only
  split
  · exact .refl d
  · exact (roomForAll_noted ..).1

/-! ## The participant of a cross-home batch -/

/-- PREPARE of a batch none of whose keys is held: its keys are held and its members kept, before PREPARED leaves (R129). -/
theorem prepareMsg_of_free {d : Drive} (hd : d.TwinSpeaks) {opId : Nat} (hs : d.twinSeen? opId = none) (hr : d.req? (.twin opId) = none)
    {body : Bytes} (hfree : (parseMembers body).any (fun m => d.isHome m.ns m.key && d.held m.ns m.key) = false)
    (txn : Nat) (tag : WorkTag) (h : OpHdr) (seals : List (Nat × Nat)) :
    (∃ p ∈ (prepareMsg opId txn tag h body seals d).kv.prepared, p.txn = txn ∧ p.members = parseMembers body) ∧
      (prepareMsg opId txn tag h body seals d).kv.holds =
        d.kv.holds ++ ((parseMembers body).filter (fun m => d.isHome m.ns m.key)).map (fun m => Hold.mk m.ns m.key txn false) := by
  rw [prepareMsg, hd.fromTwinAwake, Drive.onceTwin_of_new (by simpa [Drive.twinSeen?] using hs) (by simpa [Drive.req?] using hr)]
  dsimp only
  rw [Drive.isHome_congr d.heard_kv d.heard_twin, Drive.held_congr d.heard_kv, if_neg (by simp [hfree])]
  have hnoted := Drive.ownOutcomes_noted { origin := .twin opId, hdr := h, body := body, tag := tag } tag.tenant (parseMembers body)
    (fun m => d.isHome m.ns m.key) d.heard
  have hholds := hnoted.holds
  generalize d.heard.ownOutcomes _ _ _ _ = own at hholds ⊢
  constructor
  · simp
  · simp [hholds]

/-- A key that a batch holds is held. -/
theorem Drive.held_of_mem {d : Drive} {h : Hold} (hm : h ∈ d.kv.holds) : d.held h.ns h.key = true :=
  List.any_eq_true.mpr ⟨h, hm, by simp⟩

/-- A transaction's keys are released on one side alone (R134). -/
theorem Drive.mem_holds_release {d : Drive} {txn : Nat} {side : Bool} {h : Hold} (hm : h ∈ (d.release txn side).kv.holds)
    (ht : h.txn = txn) : h.coordinator ≠ side := by
  have := (List.mem_filter.mp hm).2
  simpa [ht] using this

theorem Drive.applyRec_last (x : Rec) (pending : Bool) (op : Option Nat) (d : Drive) :
    (d.applyRec x pending op).2.kv.lastVersion = d.kv.lastVersion := by
  unfold Drive.applyRec
  dsimp only
  split <;> exact (Drive.dirWatch_sameStore _).last

theorem Drive.raiseTick_last (v : Nat) (d : Drive) : (d.raiseTick v).kv.lastVersion = max d.kv.lastVersion v := by
  rw [Drive.raiseTick, Drive.reserveTicks_kv]

/-- After an install no version up to the record's is assigned again (R298). -/
theorem Drive.installRec_last (x : Rec) (op : Option Nat) (d : Drive) :
    (d.installRec x op).kv.lastVersion = max d.kv.lastVersion x.version := by
  unfold Drive.installRec
  extract_lets raised same marked
  have hraised : raised.kv.lastVersion = max d.kv.lastVersion x.version := Drive.raiseTick_last ..
  clear_value raised
  split
  · exact hraised
  · dsimp only
    split <;> exact (Drive.applyRec_last ..).trans hraised

theorem installAll_last (op : Option Nat) (recs : List Rec) (d : Drive) :
    d.kv.lastVersion ≤ (installAll op recs d).kv.lastVersion ∧ ∀ x ∈ recs, x.version ≤ (installAll op recs d).kv.lastVersion := by
  induction recs generalizing d with
  | nil => exact ⟨le_rfl, by simp⟩
  | cons y recs ih =>
    obtain ⟨hle, hall⟩ := ih (d.installRec y op)
    rw [Drive.installRec_last] at hle
    rw [installAll]
    refine ⟨(le_max_left ..).trans hle, fun x hx => ?_⟩
    rcases List.mem_cons.mp hx with rfl | hx
    · exact (le_max_right ..).trans hle
    · exact hall x hx

/-- COMMIT installs the records of the prepared members, and ends what was prepared (R134, R298). -/
theorem Drive.installPrepared_ends (p : Prepared) (v : Nat) (d : Drive) :
    (∀ q ∈ (d.installPrepared p v).kv.prepared, q.txn ≠ p.txn) ∧
      ((∃ m ∈ p.members.zip p.seals, d.installsHere m.1 = true ∧ m.1.ns ∉ p.dead) → v ≤ (d.installPrepared p v).kv.lastVersion) ∧
      ∀ h ∈ (d.installPrepared p v).kv.holds, h.txn = p.txn → h.coordinator = true := by
  unfold Drive.installPrepared
  extract_lets recs drawn
  refine ⟨fun q hq => by simpa using (List.mem_filter.mp hq).2, ?_, fun h hh ht => by simpa using Drive.mem_holds_release hh ht⟩
  rintro ⟨m, hm, hhere, hlive⟩
  have hmem : memberRec d p.tag.tenant v m.1 m.2 ∈ recs := List.mem_map_of_mem (List.mem_filter.mpr ⟨hm, by simp [hhere, hlive]⟩)
  exact (installAll_last ..).2 _ hmem

/-! ## The coordinator of a cross-home batch -/

theorem Drive.coordinating_spec {d : Drive} {txn : Nat} {p : ReqPhase} {r : Req} (h : d.coordinating txn p = some r) :
    r ∈ d.kv.reqs ∧ r.hdr.opcode = 0x10 ∧ r.replyHdr.txn = txn := by
  have := List.find?_some h
  simp only [decide_eq_true_eq] at this
  exact ⟨List.mem_of_find?_eq_some h, this.2⟩

theorem Drive.coordinating_congr {a b : Drive} (hk : b.kv = a.kv) : b.coordinating = a.coordinating := by
  funext txn p
  rw [Drive.coordinating, hk, Drive.coordinating]

/-- A request that stands in the table, put again, is found by its origin. -/
theorem Drive.req?_putReq_of_mem {d : Drive} {r q : Req} (hr : r ∈ d.kv.reqs) (ho : q.origin = r.origin) : (d.putReq q).req? r.origin = some q := by
  obtain ⟨r0, hr0⟩ : ∃ r0, d.req? r.origin = some r0 :=
    Option.isSome_iff_exists.mp (List.find?_isSome.mpr ⟨r, hr, by simp⟩)
  exact Drive.req?_putReq hr0 ho

theorem Drive.req?_twinOp (o : Origin) (op : TwinOp) (d : Drive) : (d.twinOp op).req? o = d.req? o := by
  rw [Drive.req?, Drive.twinOp_kv, Drive.req?]

theorem Drive.reply_holds (o : Origin) (h : OpHdr) (b : Bytes) (d : Drive) : (d.reply o h b).kv.holds = d.kv.holds := by
  rcases Drive.reply_kv o h b d with hk | ⟨o', hk⟩ <;> rw [hk] <;> rfl

/-- An aborted batch is answered with a status, none of its members applied, and holds no key (R113, R130, R134). -/
theorem Drive.abortTxn_answers {r : Req} (hop : r.hdr.opcode = 0x10) (st : Nat) (d : Drive) :
    let z := d.abortTxn r (fun d => d.batchWhole r st)
    z.time = d.time ∧ z.req? r.origin = none ∧ (∀ h ∈ z.kv.holds, h.txn = r.replyHdr.txn → h.coordinator = false) ∧
      ∃ h rs, Out.reply r.origin h (resultsBytes rs) ∈ z.out ∧ h.status = st ∧ h.offset = 0xFF * 2 ^ 32 ∧
        rs.length = (parseMembers r.body).length ∧ ∀ x ∈ rs, x.applied = false := by
  intro z
  have hz : z = d.abortTxn r (fun d => d.batchWhole r st) := rfl
  rw [Drive.abortTxn, Drive.batchWhole, if_pos hop] at hz
  rw [hz]
  refine ⟨by simp [Drive.release], Drive.reply_req? .., fun h hh ht => ?_, _, _, Drive.reply_mem .., rfl, rfl, by simp, fun x hx => ?_⟩
  · rw [Drive.reply_holds, Drive.twinSend_kv, Drive.twinDone_kv] at hh
    simpa using Drive.mem_holds_release hh ht
  · obtain ⟨m, -, rfl⟩ := List.mem_map.mp hx
    rfl

/-- Where no member has a failing status, none is the first to fail. -/
theorem lowestOrder_of_zero {l : List Nat} (h : ∀ x ∈ l, x = 0) : (lowestOrder l).any (· ≠ 0) = false := by
  unfold lowestOrder
  extract_lets k
  simp only [List.any_map, List.any_eq_false]
  intro x hx
  simp [h x hx]

/-- Of members whose own checks pass, and for whom there is room, every outcome is good. -/
theorem Drive.ownOutcomes_of_good {r : Req} {tenant : Nat} {ms : List Member} {mine : Member → Bool} {d e : Drive}
    (hcond : ∀ m ∈ ms, mine m = true → d.memberCheck r tenant m 12 = none)
    (hroom : roomForAll (ms.map (fun m => if mine m then m else { m with op := 0x04 })) d = (none, e)) :
    d.ownOutcomes r tenant ms mine = (ms.map (fun _ => none), d) := by
  have hsame : e = d := by simpa [hroom] using (roomForAll_noted (ms.map (fun m => if mine m then m else { m with op := 0x04 })) d).2
  have hpass : (ms.map (fun m => if mine m then d.memberCheck r tenant m 12 else none)).any Option.isSome = false := by
    simp only [List.any_map, List.any_eq_false]
    intro m hm
    by_cases hmine : mine m = true
    · simp [hmine, hcond m hm]
    · simp [hmine]
  rw [Drive.ownOutcomes]
  dsimp only
  rw [if_neg (by simp [hpass]), hroom, hsame]
  rfl

/-- With every member's outcome good the batch is decided, at a version greater than every earlier one (R123, R134). -/
theorem decideTxn_of_good {d e : Drive} {r : Req} {outcomes : List MemberResult} (hmem : r ∈ d.kv.reqs)
    (hcond : ∀ m ∈ parseMembers r.body, d.isHome m.ns m.key = true → d.memberCheck r (d.originTenant r) m 12 = none)
    (hout : ∀ p ∈ (parseMembers r.body).zip outcomes, d.isHome p.1.ns p.1.key = false → p.2.status = 0)
    (hroom : roomForAll ((parseMembers r.body).map (fun m => if d.isHome m.ns m.key then m else { m with op := 0x04 })) d = (none, e))
    (hdue : passed d.nowUs r.tag.deadline = false) (hspent : d.versionsSpent 2 = false) (hassign : d.canAssign = true) :
    ∃ q, (decideTxn r outcomes d).req? r.origin = some q ∧ q.phase = .decided ∧ d.kv.lastVersion < q.version ∧
      (decideTxn r outcomes d).kv.lastVersion = q.version := by
  obtain ⟨v, z, hv, hlt, hkv, -⟩ := Drive.assign_eq 2 d
  rw [decideTxn]
  dsimp only
  rw [Drive.ownOutcomes_of_good hcond hroom]
  dsimp only
  have hgood : (lowestOrder ((((parseMembers r.body).zip outcomes).zip ((parseMembers r.body).map (fun _ => (none : Option Nat)))).map
      (fun p => if d.isHome p.1.1.ns p.1.1.key then p.2.getD 0 else p.1.2.status))).any (· ≠ 0) = false := by
    refine lowestOrder_of_zero fun x hx => ?_
    obtain ⟨p, hp, rfl⟩ := List.mem_map.mp hx
    obtain ⟨hm, hn⟩ := List.of_mem_zip hp
    obtain ⟨-, -, hnone⟩ := List.mem_map.mp hn
    split
    · rw [← hnone]
      rfl
    · rename_i haway
      exact hout _ hm (by simpa using haway)
  rw [if_neg (by simp [hdue]), if_neg (by rw [hgood]; simp), if_neg (by simp [hspent]), if_neg (by simp [hassign]), hv]
  dsimp only
  have hreqs : r ∈ (z.twinDone r.opId).kv.reqs := by
    rw [Drive.twinDone_kv, hkv]
    exact hmem
  refine ⟨_, (Drive.req?_twinOp ..).trans (Drive.req?_putReq_of_mem hreqs rfl), rfl, hlt, ?_⟩
  rw [Drive.twinOp_kv]
  exact (congrArg Kv.lastVersion hkv :)

theorem Drive.settle_holds (o : Origin) (d : Drive) : (d.settle o).kv.holds = d.kv.holds := by
  unfold Drive.settle
  split
  · rfl
  · split
    · rfl
    · dsimp only
      split
      · rename_i r _ _ _
        rw [Drive.twinSeen_kv]
        exact (congrArg Kv.holds ((Drive.meterReply_frame r (d.modNs r.hdr.ns _)).kv rfl) :)
      · exact Drive.reply_holds ..

/-- The coordinator of a decided batch gives its keys free as it installs its members (R134). -/
theorem Drive.finishTxn_frees {r : Req} {h : Hold} {d : Drive} (hh : h ∈ (d.finishTxn r).kv.holds) (ht : h.txn = r.replyHdr.txn) :
    h.coordinator = false := by
  unfold Drive.finishTxn at hh
  extract_lets ms paired recs theirs installed noted released done at hh
  rw [Drive.settle_holds] at hh
  have hdone : done.kv = released.kv := by
    by_cases he : released.effTwin = 4
    · exact congrArg Drive.kv (if_pos he)
    · exact (congrArg Drive.kv (if_neg he) :)
  have hrel : h ∈ released.kv.holds := by
    rw [← hdone]
    exact hh
  simpa using Drive.mem_holds_release hrel ht

/-- Settles O24: each message is taken by `TwinSpeaks.fromTwinAwake`; the participant's part by `prepareMsg_of_free` and
`installPrepared_ends`, the coordinator's by `decideTxn_of_good`, `finishTxn_frees` and `abortTxn_answers`. -/
theorem twinBatches : Obligations.TwinBatches := by
  unfold Obligations.TwinBatches
  refine ⟨⟨?prepare, ?commit, ?abort⟩, ?prepared, ?committed, ?refused, ?timeout⟩
  case prepare =>
    intro s opId txn tag h body seals hd hs hr hfree
    obtain ⟨hprepared, hholds⟩ := prepareMsg_of_free hd hs hr hfree txn tag h seals
    refine completes_onMain rfl hd.live ⟨hprepared, fun m hm hhome => ?_⟩
    have hmem : Hold.mk m.ns m.key txn false ∈ (prepareMsg opId txn tag h body seals s.dev).kv.holds := by
      rw [hholds]
      exact List.mem_append_right _ (List.mem_map.mpr ⟨m, List.mem_filter.mpr ⟨hm, hhome⟩, rfl⟩)
    exact Drive.held_of_mem hmem
  case commit =>
    intro s opId txn version p hd hp
    have htxn : p.txn = txn := by simpa using List.find?_some hp
    obtain ⟨hgone, hversion, hfree⟩ := Drive.installPrepared_ends p version s.dev.heard
    refine completes_onMain (f := commitMsg opId txn version) rfl hd.live ?_
    rw [commitMsg, hd.fromTwinAwake, Drive.heard_kv, hp]
    dsimp only
    rw [Drive.twinSend_kv, ← htxn]
    rw [Drive.installsHere_congr s.dev.heard_kv s.dev.heard_twin] at hversion
    exact ⟨hgone, hversion, hfree⟩
  case abort =>
    intro s txn hd
    refine completes_onMain (f := abortMsg txn) rfl hd.live ?_
    rw [abortMsg, hd.fromTwinAwake]
    exact ⟨fun q hq => by simpa using (List.mem_filter.mp hq).2, fun h hh ht => by simpa using Drive.mem_holds_release hh ht⟩
  case prepared =>
    intro s txn outcomes r d1 d2 hd hr hd1 hcond hout hroom hdue hspent hassign
    have hd1 : d1 = s.dev.heard := hd1
    subst hd1
    have hsame : d2 = s.dev.heard := by simpa [hroom] using (roomForAll_noted ((parseMembers r.body).map
      (fun m => if s.dev.heard.isHome m.ns m.key then m else { m with op := 0x04 })) s.dev.heard).2
    rw [hsame] at hspent hassign
    refine completes_onMain (f := preparedMsg txn outcomes) rfl hd.live ?_
    rw [preparedMsg, hd.fromTwinAwake, Drive.coordinating_congr s.dev.heard_kv, hr]
    simpa using decideTxn_of_good (by simpa using (Drive.coordinating_spec hr).1) hcond hout hroom hdue hspent hassign
  case committed =>
    intro s txn r hd hr
    obtain ⟨-, -, htxn⟩ := Drive.coordinating_spec hr
    refine completes_onMain (f := committedMsg txn) rfl hd.live ?_
    rw [committedMsg, hd.fromTwinAwake, Drive.coordinating_congr s.dev.heard_kv, hr]
    exact fun h hh ht => Drive.finishTxn_frees hh (ht.trans htxn.symm)
  case refused =>
    intro s txn r hd hr
    obtain ⟨-, hop, htxn⟩ := Drive.coordinating_spec hr
    obtain ⟨-, hanswer⟩ := Drive.abortTxn_answers hop St.txnConflict s.dev.heard
    refine completes_onMain (f := refusedMsg txn) rfl hd.live ?_
    rw [refusedMsg, hd.fromTwinAwake, Drive.coordinating_congr s.dev.heard_kv, hr, ← htxn]
    exact hanswer
  case timeout =>
    intro s txn r hlive hr htwin hres
    obtain ⟨-, hop, htxn⟩ := Drive.coordinating_spec hr
    obtain ⟨htime, hanswer⟩ := Drive.abortTxn_answers hop St.txnConflict ((s.dev.advanceTo (r.prepareAt + 1000000)).event 0x509 Sev.warning [])
    refine completes_onMain (f := prepareTimeout txn) rfl hlive ?_
    rw [prepareTimeout, hr]
    dsimp only
    rw [if_neg (by rcases htwin with he | he <;> simp [he, hres]), ← htxn]
    refine ⟨?_, hanswer⟩
    rw [Drive.now_congr htime, Drive.now_congr (Drive.event_time ..), Drive.advanceTo_now]
    exact le_max_right ..

end Sys2Proof.Machine
end

-- Proofs of transactions and ordering: a BATCH in execution, its results and its writes (R117 to R121).
section
namespace Sys2Proof.Machine
open Sys2Proof

/-! ## What executing a member leaves of the data service -/

theorem Drive.drawNonce_kv {t : Nat} {d e : Drive} {x : Nat × Nat} (h : d.drawNonce t = some (x, e)) : e.kv = d.kv :=
  (Drive.drawNonce_frame t d h).kv rfl

theorem Drive.roomFor_noted (n : Nat) (k : Bytes) (g : Nat) (newKey : Bool) (d : Drive) : d.RoomNoted (d.roomFor n k g newKey).2 := by
  unfold Drive.roomFor
  dsimp only
  split
  · exact .refl d
  · split
    · exact .refl d
    · exact Drive.entryFor_roomNoted ..

theorem drawAll_kv (ms : List Member) (d : Drive) : (drawAll ms d).kv = d.kv := by
  induction ms generalizing d with
  | nil => rfl
  | cons m ms ih =>
    rw [drawAll, ih]
    split
    · exact (Drive.drawReservation_frame ..).kv rfl
    · rfl

theorem Drive.mirror_kv (r : Req) (recs : List Rec) (key : Option (Nat × Bytes)) (dur : Nat) (d : Drive) :
    (d.mirror r recs key dur).2.kv = d.kv := by
  unfold Drive.mirror
  dsimp only
  rw [Drive.twinOp_kv]
  split <;> rfl

theorem Drive.noteChanges_kv (recs : List Rec) (d : Drive) : (d.noteChanges recs).kv = d.kv := by
  unfold Drive.noteChanges
  dsimp only
  split <;> rfl

/-! ## A record that a key names -/

/-- The directory has one entry for the record's key; it names the record, which stands in the write shelf. -/
structure Drive.Names (d : Drive) (x : Rec) (e : DirEnt) (i : Nat) : Prop where
  entries : entriesOf x.ns x.key d.kv.dir = [e]
  version : e.version = x.version
  place : e.place = .shelf i
  shelved : ∃ y : ShelfRec, y.rec_ = x ∧ tget? i d.kv.shelf = some y

theorem Drive.Names.recAt {d : Drive} {x : Rec} {e : DirEnt} {i : Nat} (h : d.Names x e i) : d.recAt e.place = some x := by
  obtain ⟨y, rfl, hy⟩ := h.shelved
  rw [h.place, Drive.recAt, hy]
  rfl

/-- What a key's only entry names is what a lookup ends at. -/
theorem Drive.Names.find? {d : Drive} {x : Rec} {e : DirEnt} {i : Nat} (h : d.Names x e i) : d.find? x.ns x.key = some e := by
  have hmem : e ∈ entriesOf x.ns x.key d.kv.dir := by rw [h.entries]; exact List.mem_singleton_self e
  obtain ⟨hn, hk⟩ : e.ns = x.ns ∧ e.key = x.key := by simpa using (List.mem_filter.mp hmem).2
  refine Drive.find?_of_head h.entries (.inr rfl) ?_
  rw [Drive.confirms, Drive.keyMatches, h.recAt]
  simp [hn, hk, h.version]

/-- Names rest on the directory and the shelf. -/
theorem Drive.Names.congr {a b : Drive} {x : Rec} {e : DirEnt} {i : Nat} (h : a.Names x e i) (hd : b.kv.dir = a.kv.dir)
    (hs : b.kv.shelf = a.kv.shelf) : b.Names x e i := by
  refine ⟨?_, h.version, h.place, ?_⟩
  · rw [hd]; exact h.entries
  · rw [hs]; exact h.shelved

theorem Drive.dirWatch_shelfNext (d : Drive) : d.dirWatch.kv.shelfNext = d.kv.shelfNext ∧ d.dirWatch.kv.reqs = d.kv.reqs := by
  unfold Drive.dirWatch
  dsimp only
  split
  · rw [Drive.event_kv]
    exact ⟨rfl, rfl⟩
  · split <;> exact ⟨rfl, rfl⟩

/-- A record applied is put on the shelf under the next number; the entries of its key go, and that of a record that is no deletion
is the first. -/
theorem Drive.applyRec_store (x : Rec) (pending : Bool) (op : Option Nat) (d : Drive) :
    let b := (d.applyRec x pending op).2
    b.kv.reqs = d.kv.reqs ∧ b.kv.shelfNext = d.kv.shelfNext + 1 ∧
      (∃ y : ShelfRec, y.rec_ = x ∧ b.kv.shelf = tput d.kv.shelfNext y d.kv.shelf) ∧
      ((x.deletion = true ∧ b.kv.dir = withoutKey x.ns x.key d.kv.dir) ∨
        ∃ e : DirEnt, e.ns = x.ns ∧ e.key = x.key ∧ e.version = x.version ∧ e.place = .shelf d.kv.shelfNext ∧
          b.kv.dir = e :: withoutKey x.ns x.key d.kv.dir) := by
  unfold Drive.applyRec
  dsimp only
  split
  · rename_i hdel
    have hw := Drive.dirWatch_sameStore
    rw [(Drive.dirWatch_shelfNext _).1, (Drive.dirWatch_shelfNext _).2, (hw _).shelf, (hw _).dir]
    exact ⟨rfl, rfl, ⟨_, rfl, rfl⟩, .inl ⟨hdel, rfl⟩⟩
  · have hw := Drive.dirWatch_sameStore
    rw [(Drive.dirWatch_shelfNext _).1, (Drive.dirWatch_shelfNext _).2, (hw _).shelf, (hw _).dir]
    exact ⟨rfl, rfl, ⟨_, rfl, rfl⟩, .inr ⟨_, rfl, rfl, rfl, rfl, rfl⟩⟩

/-- The key of a record applied names it, unless it is a deletion. -/
theorem Drive.applyRec_names {x : Rec} (hx : x.deletion = false) (pending : Bool) (op : Option Nat) (d : Drive) :
    ∃ e, (d.applyRec x pending op).2.Names x e d.kv.shelfNext := by
  obtain ⟨-, -, ⟨y, hy, hshelf⟩, hdir⟩ := Drive.applyRec_store x pending op d
  obtain ⟨e, hn, hk, hv, hp, hdir⟩ := hdir.resolve_left (by simp [hx])
  refine ⟨e, ⟨?_, hv, hp, y, hy, by rw [hshelf, tget?_tput_same]⟩⟩
  rw [hdir, entriesOf_cons_of hn hk, entriesOf_withoutKey_same]

/-- A record of another key leaves what a key names. -/
theorem Drive.Names.applyRec {d : Drive} {x y : Rec} {e : DirEnt} {i : Nat} (h : d.Names x e i) (hi : i < d.kv.shelfNext)
    (hne : ¬(x.ns = y.ns ∧ x.key = y.key)) (pending : Bool) (op : Option Nat) : (d.applyRec y pending op).2.Names x e i := by
  obtain ⟨-, -, ⟨z, -, hshelf⟩, hdir⟩ := Drive.applyRec_store y pending op d
  refine ⟨?_, h.version, h.place, ?_⟩
  · rcases hdir with ⟨-, hdir⟩ | ⟨e', hn, hk, -, -, hdir⟩
    · rw [hdir, entriesOf_withoutKey_ne hne]
      exact h.entries
    · rw [hdir, entriesOf_cons_ne (by rw [hn, hk]; exact fun hc => hne ⟨hc.1.symm, hc.2.symm⟩), entriesOf_withoutKey_ne hne]
      exact h.entries
  · rw [hshelf, tget?_tput_ne (Nat.ne_of_lt hi)]
    exact h.shelved

/-! ## A BATCH in execution -/

/-- A BATCH of these members is in execution: it has a result for each of the first members at most, and what is at the twin has one. -/
structure Drive.Executes (d : Drive) (o : Origin) (ms : List Member) (r : Req) : Prop where
  req : d.req? o = some r
  members : parseMembers r.body = ms
  active : r.phase = .active
  answers : r.silent = false
  count : r.results.length ≤ ms.length
  parts : ∀ p ∈ r.parts, p.2 < r.results.length

/-- What R121 lets a BATCH be afterwards: in execution, waiting with all its results, or answered with them. -/
def Drive.BatchStands (d : Drive) (o : Origin) (ms : List Member) : Prop := ∃ rs : List MemberResult, rs.length ≤ ms.length ∧
  ((∃ q, d.req? o = some q ∧ q.results = rs ∧ (q.phase = .active ∨ (q.phase = .waiting ∧ rs.length = ms.length))) ∨
    (rs.length = ms.length ∧ ∃ h, h.status = St.ok ∧ Out.reply o h (resultsBytes rs) ∈ d.out))

theorem Drive.Executes.stands {d : Drive} {o : Origin} {ms : List Member} {r : Req} (h : d.Executes o ms r) : d.BatchStands o ms :=
  ⟨r.results, h.count, .inl ⟨r, h.req, rfl, .inl h.active⟩⟩

/-- The member to execute next follows those that have results, or is one of them. -/
theorem Drive.Executes.nextMember_le {d : Drive} {o : Origin} {ms : List Member} {r : Req} (h : d.Executes o ms r) :
    d.nextMember r ≤ r.results.length := by
  unfold Drive.nextMember
  dsimp only
  split
  · rename_i p hp
    exact (h.parts p (List.mem_of_find?_eq_some hp)).le
  · exact le_rfl

/-- A member gets a result, and the batch goes on in execution. -/
theorem Drive.Executes.next {d z : Drive} {o : Origin} {ms : List Member} {r q : Req} {i : Nat} {x : MemberResult} (h : d.Executes o ms r)
    (hz : z.kv.reqs = d.kv.reqs) (ho : q.origin = r.origin) (hb : q.body = r.body) (hp : q.phase = r.phase) (hs : q.silent = r.silent)
    (hi : i < ms.length) (hle : i ≤ r.results.length) (hres : q.results = (r.setResult i x).results)
    (hparts : ∀ p ∈ q.parts, p ∈ r.parts ∨ p.2 = i) : (z.putReq q).Executes o ms q := by
  have hlen : r.results.length ≤ q.results.length ∧ i < q.results.length ∧ q.results.length ≤ ms.length := by
    have hcount := h.count
    rw [hres, Req.setResult]
    dsimp only
    split
    · simp only [List.length_set]
      omega
    · simp only [List.length_append, List.length_singleton]
      omega
  obtain ⟨hgrow, hgot, hcount⟩ := hlen
  refine ⟨?_, by rw [hb, h.members], by rw [hp, h.active], by rw [hs, h.answers], hcount, fun p hp => ?_⟩
  · exact Drive.req?_putReq (r0 := r) (by rw [Drive.req?, hz]; exact h.req) (ho.trans (Drive.req?_origin h.req))
  · rcases hparts p hp with hp | hp
    · exact (h.parts p hp).trans_le hgrow
    · rw [hp]
      exact hgot

/-- What counting a namespace's use and sending a mirror leaves of the data service. -/
theorem Drive.mirrorIf_keeps (p : Bool) (r : Req) (recs : List Rec) (key : Option (Nat × Bytes)) (dur n : Nat) (f : Ns → Ns) (d : Drive) :
    let b := (if p then (d.modNs n f).mirror r recs key dur else (0, d.modNs n f)).2
    b.kv.reqs = d.kv.reqs ∧ b.kv.lastVersion = d.kv.lastVersion ∧ b.kv.dir = d.kv.dir ∧ b.kv.shelf = d.kv.shelf := by
  have hkv : (if p then (d.modNs n f).mirror r recs key dur else (0, d.modNs n f)).2.kv = (d.modNs n f).kv := by
    split
    · exact Drive.mirror_kv ..
    · rfl
  dsimp only
  rw [hkv]
  exact ⟨rfl, rfl, rfl, rfl⟩

/-- A write member gets a version greater than every one before, which its record carries; a PUT's key then names the record (R118). -/
theorem Drive.writeMember_writes (r : Req) (tenant : Nat) (m : Member) (i : Nat) (sl : Nat × Nat) (d : Drive) :
    ∃ (z : Drive) (q : Req) (res : MemberResult) (x : Rec), d.writeMember r tenant m i sl = z.putReq q ∧
      (q.origin = r.origin ∧ q.body = r.body ∧ q.phase = r.phase ∧ q.silent = r.silent) ∧
      q.results = (r.setResult i res).results ∧ (∀ p ∈ q.parts, p ∈ r.parts ∨ p.2 = i) ∧ res.applied = true ∧
      z.kv.reqs = d.kv.reqs ∧ d.kv.lastVersion < x.version ∧ z.kv.lastVersion = x.version ∧ x.ns = m.ns ∧ x.key = m.key ∧
      x.value = m.value ∧ (m.op ≠ 0x03 → ∃ e i, z.Names x e i) := by
  obtain ⟨v, y, hassigned, hlt, hset, -⟩ := Drive.assign_eq r.input (drawAll [m] d)
  rw [drawAll_kv] at hlt hset
  have hreqs : y.kv.reqs = d.kv.reqs := (congrArg Kv.reqs hset :)
  have hlast : y.kv.lastVersion = v := (congrArg Kv.lastVersion hset :)
  unfold Drive.writeMember
  dsimp only
  rw [hassigned]
  dsimp only
  obtain ⟨x, hx⟩ : ∃ x, memberRec y tenant v m sl = x := ⟨_, rfl⟩
  have hstore := Drive.applyRec_store x (y.mirrors (d.ns m.ns)) none y
  have hkeeps := Drive.applyRec_last x (y.mirrors (d.ns m.ns)) none y
  have hnames : m.op ≠ 0x03 → ∃ e, (y.applyRec x (y.mirrors (d.ns m.ns)) none).2.Names x e y.kv.shelfNext := fun hop =>
    Drive.applyRec_names (by rw [← hx]; simpa [memberRec] using hop) _ _ _
  rw [hx]
  generalize Drive.applyRec x _ none y = applied at hstore hkeeps hnames ⊢
  obtain ⟨hareqs, -⟩ := hstore
  have hkeep := Drive.mirrorIf_keeps (y.mirrors (d.ns m.ns)) { r with origin := .session 0 0 } [x] (some (m.ns, m.key))
    ((applied.2.modNs m.ns (fun n => { n with used := n.used - applied.1 })).durFor r) m.ns (fun n => { n with used := n.used - applied.1 })
    applied.2
  generalize (if y.mirrors (d.ns m.ns) = true then _ else _ : Nat × Drive) = sent at hkeep ⊢
  obtain ⟨hsreqs, hslast, hsdir, hsshelf⟩ := hkeep
  refine ⟨_, _, { twinHomed := _, applied := true, version := v }, x, rfl, ⟨rfl, rfl, rfl, rfl⟩, rfl, fun p hp => ?_, rfl, ?_, ?_, ?_,
    by rw [← hx]; rfl, by rw [← hx]; rfl, by rw [← hx]; rfl, fun hop => ?_⟩
  · have hset : ∀ p ∈ (r.setResult i { twinHomed := sent.2.twinHomed m, applied := true, version := v }).parts, p ∈ r.parts :=
      fun p hp => (List.mem_filter.mp hp).1
    dsimp only at hp
    split at hp
    · rcases List.mem_append.mp hp with hp | hp
      · exact .inl (hset p hp)
      · rw [List.mem_singleton.mp hp]
        exact .inr rfl
    · exact .inl (hset p hp)
  · rw [Drive.noteChanges_kv]
    exact (hsreqs.trans hareqs).trans hreqs
  · rw [← hx]
    exact hlt
  · rw [Drive.noteChanges_kv, ← hx]
    exact (hslast.trans hkeeps).trans hlast
  · obtain ⟨e, he⟩ := hnames hop
    exact ⟨e, _, he.congr (by rw [Drive.noteChanges_kv]; exact hsdir) (by rw [Drive.noteChanges_kv]; exact hsshelf)⟩

/-- A member forwarded has a result that stands for the twin's. -/
theorem Drive.forwardMember_writes (r : Req) (m : Member) (i : Nat) (d : Drive) :
    ∃ (z : Drive) (q : Req) (res : MemberResult), d.forwardMember r m i = z.putReq q ∧
      (q.origin = r.origin ∧ q.body = r.body ∧ q.phase = r.phase ∧ q.silent = r.silent) ∧
      q.results = (r.setResult i res).results ∧ (∀ p ∈ q.parts, p ∈ r.parts ∨ p.2 = i) ∧ z.kv.reqs = d.kv.reqs := by
  refine ⟨_, _, { twinHomed := true }, rfl, ⟨rfl, rfl, rfl, rfl⟩, rfl, fun p hp => ?_, ?_⟩
  · rcases List.mem_append.mp hp with hp | hp
    · exact .inl (List.mem_filter.mp hp).1
    · rw [List.mem_singleton.mp hp]
      exact .inr rfl
  · rw [Drive.twinOp_kv]

/-- Execution keeps R121: at every step the BATCH has at most one result for each member. -/
theorem batchRun_stands {o : Origin} {ms : List Member} (n : Nat) {d : Drive} {r : Req} (h : d.Executes o ms r) :
    (batchRun o n d).BatchStands o ms := by
  induction n generalizing d r with
  | zero => exact h.stands
  | succ n ih =>
    obtain ⟨i, hi⟩ : ∃ i, d.nextMember r = i := ⟨_, rfl⟩
    have hle : i ≤ r.results.length := hi ▸ h.nextMember_le
    have hkept : ∀ p ∈ r.parts.filter (fun p => p.2 ≠ i), p ∈ r.parts := fun p hp => (List.mem_filter.mp hp).1
    obtain ⟨q, hq⟩ : ∃ q : Req, q = { r with parts := r.parts.filter (fun p => p.2 ≠ i) } := ⟨_, rfl⟩
    have hstep : i < ms.length → ∀ (z : Drive) (w : Req) (x : MemberResult), z.kv.reqs = d.kv.reqs →
        (w.origin = q.origin ∧ w.body = q.body ∧ w.phase = q.phase ∧ w.silent = q.silent) → w.results = (q.setResult i x).results →
        (∀ p ∈ w.parts, p ∈ q.parts ∨ p.2 = i) → (batchRun o n (z.putReq w)).BatchStands o ms := by
      rintro hlt z w x hz ⟨ho, hb, hp, hs⟩ hres hparts
      subst hq
      exact ih (h.next hz ho hb hp hs hlt hle hres fun p hp => (hparts p hp).imp_left (hkept p))
    have hput : i < ms.length → ∀ (z : Drive) (x : MemberResult), z.kv.reqs = d.kv.reqs →
        (batchRun o n (z.putReq (q.setResult i x))).BatchStands o ms := fun hlt z x hz =>
      hstep hlt z _ x hz ⟨rfl, rfl, rfl, rfl⟩ rfl fun p hp => .inl (List.mem_filter.mp hp).1
    rw [batchRun, h.req]
    dsimp only
    simp only [hi, h.members, ← hq]
    split
    case h_1 hnone =>
      have hres : q.results = r.results := by rw [hq]
      have hlen : r.results.length = ms.length := by
        have := List.getElem?_eq_none_iff.mp hnone
        have := h.count
        omega
      have ho : q.origin = o := by rw [hq]; exact (Drive.req?_origin h.req : r.origin = o)
      have hs : q.silent = false := by rw [hq]; exact h.answers
      refine ⟨q.results, by rw [hres]; exact h.count, ?_⟩
      rcases (Drive.endBatch_cases (by rw [h.req]; rfl) ho hs).2 with ⟨w, hw, hphase, hwres⟩ | ⟨hd, hok, hout⟩
      · exact .inl ⟨w, hw, hwres, .inr ⟨hphase, by rw [hres, hlen]⟩⟩
      · exact .inr ⟨by rw [hres, hlen], hd, hok, hout⟩
    case h_2 m hm =>
      have hlt := (List.getElem?_eq_some_iff.mp hm).1
      have hroom : ∀ g k, (if m.op = 0x02 then d.roomFor m.ns m.key g k else (none, d)).2.kv.reqs = d.kv.reqs := fun g k => by
        split
        · exact (Drive.roomFor_noted ..).reqs
        · rfl
      split
      · exact hput hlt d _ rfl
      split
      · exact hput hlt d _ rfl
      split
      · exact hput hlt d _ rfl
      split
      · exact h.stands
      split
      · split
        · exact h.stands
        · obtain ⟨z, w, x, heq, hfields, hres, hparts, hz⟩ := Drive.forwardMember_writes q m i d
          rw [heq]
          exact hstep hlt z w x hz hfields hres hparts
      split
      · exact hput hlt d _ rfl
      split
      · exact hput hlt d _ rfl
      split
      · exact hput hlt d _ rfl
      have hkeep := hroom (granules m.key.length m.valueLen) (d.find? m.ns m.key).isNone
      split
      · rename_i hz
        rw [hz] at hkeep
        exact hput hlt _ _ hkeep
      · rename_i e hz
        rw [hz] at hkeep
        split
        · exact hput hlt _ _ hkeep
        · rename_i sl y hy
          obtain ⟨z, w, x, _, heq, hfields, hres, hparts, -, hz, -⟩ := Drive.writeMember_writes q (d.originTenant r) m i sl y
          rw [heq]
          exact hstep hlt z w x ((hz.trans (congrArg Kv.reqs (Drive.drawNonce_kv hy))).trans hkeep) hfields hres hparts

/-- A BATCH that passes the checks of the whole has at most one result for each member afterwards (R117 to R121). -/
theorem batchRequest_stands {d : Drive} {o : Origin} {r : Req} (h : d.Asks o 0x11 r) (hs : r.silent = false)
    (hc : d.batchChecks r false = none) (hres : r.results = []) (hparts : r.parts = []) :
    (batchRequest o d).BatchStands o (parseMembers r.body) := by
  rw [batchRequest, Drive.withReq_of h.req h.active (by simp [h.opcode]) h.turn, hc]
  exact batchRun_stands _ ⟨h.req, rfl, h.active, hs, by simp [hres], by simp [hparts]⟩

/-! ## A BATCH of one PUT -/

/-- What answering leaves of the store. -/
theorem Drive.reply_sameStored (o : Origin) (h : OpHdr) (body : Bytes) (d : Drive) :
    (d.reply o h body).kv.dir = d.kv.dir ∧ (d.reply o h body).kv.shelf = d.kv.shelf ∧ (d.reply o h body).kv.lastVersion = d.kv.lastVersion := by
  rcases Drive.reply_kv o h body d with hk | ⟨o', hk⟩ <;> rw [hk] <;> exact ⟨rfl, rfl, rfl⟩

theorem Drive.settle_sameStored (o : Origin) (d : Drive) :
    (d.settle o).kv.dir = d.kv.dir ∧ (d.settle o).kv.shelf = d.kv.shelf ∧ (d.settle o).kv.lastVersion = d.kv.lastVersion := by
  unfold Drive.settle
  split
  · exact ⟨rfl, rfl, rfl⟩
  · split
    · exact ⟨rfl, rfl, rfl⟩
    · dsimp only
      split
      · rw [Drive.twinSeen_kv, Drive.dropReq, (Drive.meterReply_frame ..).kv rfl]
        exact ⟨rfl, rfl, rfl⟩
      · exact Drive.reply_sameStored ..

/-- One PUT member is all of the BATCH, and nothing keeps it from being executed here. -/
structure Drive.ExecutesPut (d : Drive) (o : Origin) (m : Member) (i : Nat) (r : Req) : Prop where
  executes : d.Executes o [m] r
  fresh : r.results = []
  whole : r.parts = []
  put : m.op = 0x02
  checks : ∀ k, d.memberCheck r (d.originTenant r) m k = none
  proceeds : d.memberWaits r [m] m = false
  here : d.route (d.ns m.ns) (d.isHome m.ns m.key) true = .here
  unspent : d.versionsSpent r.input = false
  holly : d.hollyUp = true
  room : (d.roomFor m.ns m.key (granules m.key.length m.valueLen) (d.find? m.ns m.key).isNone).1 = none
  slot : d.slotIn (d.originTenant r) 0x39 = some i
  nonce : (d.stslot i).nonce + 1 < d.nonceEnd

/-- The member is written, with a seal of its tenant's. -/
theorem Drive.ExecutesPut.batchRun {d : Drive} {o : Origin} {m : Member} {i : Nat} {r : Req} (h : d.ExecutesPut o m i r) (n : Nat) :
    ∃ (y : Drive) (sl : Nat × Nat), y.kv = d.kv ∧ Machine.batchRun o (n + 1) d = Machine.batchRun o n (y.writeMember r (d.originTenant r) m 0 sl) := by
  obtain ⟨sl, e, he, hkv⟩ : ∃ sl e, d.drawNonce (d.originTenant r) = some (sl, e) ∧ e.kv = d.kv := by
    obtain ⟨e, he, -, hkv, -⟩ := Drive.drawNonce_of h.slot h.nonce
    exact ⟨_, e, he, hkv⟩
  have hkeep : ({ r with parts := r.parts.filter (fun p => p.2 ≠ 0) } : Req) = r := by
    have hnil : r.parts.filter (fun p => p.2 ≠ 0) = r.parts := by rw [h.whole]; rfl
    rw [hnil]
  have hroom := Drive.roomFor_of_none rfl rfl rfl h.room
  have hheld : d.held m.ns m.key = false := by
    have hwaits := h.proceeds
    simp only [Drive.memberWaits, Bool.or_eq_false_iff] at hwaits
    tauto
  have hnext : d.nextMember r = 0 := by rw [Drive.nextMember_of_noParts h.whole, h.fresh]; rfl
  have hnone : (List.range 7).findSome? (fun k => d.memberCheck r (d.originTenant r) m (k + 5)) = none := by
    rw [List.findSome?_eq_none_iff]
    exact fun k _ => h.checks _
  have hlast := h.checks 12
  refine ⟨e, sl, hkv, ?_⟩
  rw [Machine.batchRun, h.executes.req]
  dsimp only
  simp only [hnext, h.executes.members, hkeep, List.getElem?_cons_zero]
  rw [if_neg (by simp [h.fresh]), hnone]
  dsimp only
  rw [if_neg (by simp [hheld]), if_neg (by simp [h.proceeds]), if_neg (by simp [h.put, h.here]), hlast]
  dsimp only
  rw [if_neg (by simp [h.put]), if_neg (by simp [h.unspent, h.holly]), if_pos h.put, hroom]
  dsimp only
  rw [he]

/-- After its only member the batch ends: what the key names stays. -/
theorem batchRun_ends {o : Origin} {d : Drive} {m : Member} {q : Req} {res : MemberResult} (hq : d.Executes o [m] q) (hres : q.results = [res])
    (happ : res.applied = true) (n : Nat) : (batchRun o (n + 1) d).kv.dir = d.kv.dir ∧ (batchRun o (n + 1) d).kv.shelf = d.kv.shelf ∧
      (batchRun o (n + 1) d).kv.lastVersion = d.kv.lastVersion := by
  have hnext : d.nextMember q = 1 := by
    rw [Drive.nextMember, List.find?_eq_none.mpr fun p hp => by
      have hfirst : p.2 = 0 := by simpa [hres] using hq.parts p hp
      simp [hfirst, hres, happ]]
    simp [hres]
  rw [batchRun, hq.req]
  dsimp only
  simp only [hnext, hq.members]
  unfold Drive.endBatch
  exact Drive.settle_sameStored ..

/-- Of a batch with one PUT member that is executed here, the key names a record of the member's value, at a version greater than every one
before (R118). -/
theorem Drive.ExecutesPut.names {d : Drive} {o : Origin} {m : Member} {i : Nat} {r : Req} (h : d.ExecutesPut o m i r) (n : Nat) :
    ∃ e rec_, (Machine.batchRun o (n + 2) d).find? m.ns m.key = some e ∧ (Machine.batchRun o (n + 2) d).recAt e.place = some rec_ ∧
      d.kv.lastVersion < e.version ∧ (Machine.batchRun o (n + 2) d).kv.lastVersion = e.version ∧ rec_.version = e.version ∧
      rec_.value = m.value := by
  obtain ⟨y, sl, hy, hrun⟩ := h.batchRun (n + 1)
  obtain ⟨z, q, res, x, hwrite, ⟨ho, hb, hp, hs⟩, hres, hparts, happ, hz, hlt, hlast, hns, hkey, hvalue, hnames⟩ :=
    Drive.writeMember_writes r (d.originTenant r) m 0 sl y
  obtain ⟨e, j, hnames⟩ := hnames (by rw [h.put]; decide)
  have hnext := h.executes.next (hz.trans (congrArg Kv.reqs hy)) ho hb hp hs Nat.one_pos (Nat.zero_le _) hres hparts
  obtain ⟨hdir, hshelf, hkept⟩ := batchRun_ends hnext (by rw [hres]; simp [Req.setResult, h.fresh]) happ n
  rw [hrun, hwrite]
  have hat := hnames.congr (b := Machine.batchRun o (n + 1) (z.putReq q)) hdir hshelf
  refine ⟨e, x, by rw [← hns, ← hkey]; exact hat.find?, hat.recAt, ?_, ?_, hat.version.symm, hvalue⟩
  · rw [hat.version, ← hy]
    exact hlt
  · rw [hkept, hat.version]
    exact hlast

end Sys2Proof.Machine
end

-- Proofs of transactions and ordering: a BATCH_ATOMIC of one home (R122, R123, R128).
section
namespace Sys2Proof.Machine
open Sys2Proof

/-! ## The keys of a BATCH_ATOMIC -/

/-- Two members name different keys. -/
def membersApart (m q : Member) : Prop := ¬(m.ns = q.ns ∧ m.key = q.key)

theorem firstFail_eq_none {l : List (Bool × Nat)} : firstFail l = none ↔ ∀ p ∈ l, p.1 = true := by
  induction l with
  | nil => simp [firstFail]
  | cons p l ih => rw [firstFail_cons_eq_none, ih, List.forall_mem_cons]

theorem pairwise_of_zipIdx {α : Type} {R : α → α → Prop} (l : List α) (h : ∀ p ∈ l.zipIdx, ∀ q ∈ l.zipIdx, p.2 < q.2 → R p.1 q.1) :
    l.Pairwise R := by
  rw [List.pairwise_iff_getElem]
  intro i j hi hj hij
  exact h (l[i], i) (by simp [List.mk_mem_zipIdx_iff_getElem?]) (l[j], j) (by simp [List.mk_mem_zipIdx_iff_getElem?]) hij

/-- No two members of a BATCH_ATOMIC that passes the checks of the whole name one key (Table 2.5). -/
theorem Drive.members_apart {d : Drive} {r : Req} (h : d.batchChecks r true = none) : (parseMembers r.body).Pairwise membersApart := by
  unfold Drive.batchChecks at h
  extract_lets tenant n ms puts dup at h
  have hall := firstFail_eq_none.mp h
  simp only [List.forall_mem_cons] at hall
  obtain ⟨-, hform, hcount, -, -⟩ := hall
  have hms : parseMembers r.body = ms := by
    have hle : n ≤ 64 := of_decide_eq_true (Bool.and_eq_true_iff.mp hcount).1
    have hn : min (memberCount r.body) 65 = n := Nat.min_eq_left (by omega)
    simp [parseMembers, hn, ms]
  have hdup : dup = false := by simpa using (Bool.and_eq_true_iff.mp hform).2
  rw [hms]
  refine pairwise_of_zipIdx ms fun p hp q hq hlt hsame => ?_
  have hany : dup = true := by
    simp only [dup, List.any_eq_true]
    exact ⟨p, hp, q, hq, by simp [hlt, hsame.1, hsame.2]⟩
  rw [hdup] at hany
  exact absurd hany (by decide)

/-- No order of a range fails where none of its two parts does (R111). -/
theorem batchOrder_add_eq_none {d : Drive} {r : Req} {tenant : Nat} {ms : List Member} (n j k : Nat) :
    batchOrder d r tenant ms (n + j) k = none ↔ batchOrder d r tenant ms n k = none ∧ batchOrder d r tenant ms j (k + n) = none := by
  induction n generalizing k with
  | zero => simp [batchOrder]
  | succ n ih =>
    rw [Nat.succ_add, batchOrder, batchOrder]
    split
    · simp
    · rw [ih, Nat.add_assoc, Nat.add_comm 1 n]

/-! ## The seals of a BATCH_ATOMIC -/

theorem drawSeals_keeps {tenant : Nat} {ms : List Member} {d e : Drive} {seals : List (Nat × Nat)}
    (h : drawSeals tenant ms d = some (seals, e)) : seals.length = ms.length ∧ e.kv = d.kv := by
  induction ms generalizing d seals with
  | nil =>
    obtain ⟨rfl, rfl⟩ : [] = seals ∧ d = e := by simpa [drawSeals] using h
    exact ⟨rfl, rfl⟩
  | cons m ms ih =>
    rw [drawSeals] at h
    split at h
    · obtain ⟨⟨l, z⟩, hl, heq⟩ := Option.map_eq_some_iff.mp h
      obtain ⟨rfl, rfl⟩ : (0, 0) :: l = seals ∧ z = e := by simpa using heq
      exact ⟨by rw [List.length_cons, List.length_cons, (ih hl).1], (ih hl).2⟩
    · split at h
      · exact absurd h (by simp)
      · rename_i sl z hz
        obtain ⟨⟨l, w⟩, hl, heq⟩ := Option.map_eq_some_iff.mp h
        obtain ⟨rfl, rfl⟩ : sl :: l = seals ∧ w = e := by simpa using heq
        exact ⟨by rw [List.length_cons, List.length_cons, (ih hl).1], (ih hl).2.trans (Drive.drawNonce_kv hz)⟩

/-! ## Records of different keys, applied at once -/

/-- Two records are of different keys. -/
def recsApart (x y : Rec) : Prop := ¬(x.ns = y.ns ∧ x.key = y.key)

theorem applyAll_last (pending : Bool) (op : Option Nat) (recs : List Rec) (d : Drive) :
    (applyAll pending op recs d).kv.lastVersion = d.kv.lastVersion := by
  induction recs generalizing d with
  | nil => rfl
  | cons x recs ih =>
    rw [applyAll, ih]
    exact Drive.applyRec_last x _ op d

/-- Records of other keys leave what a key names. -/
theorem Drive.Names.applyAll {x : Rec} {e : DirEnt} {i : Nat} (pending : Bool) (op : Option Nat) {recs : List Rec} (hne : ∀ y ∈ recs, recsApart x y)
    {d : Drive} (h : d.Names x e i) (hi : i < d.kv.shelfNext) : (Machine.applyAll pending op recs d).Names x e i := by
  induction recs generalizing d with
  | nil => exact h
  | cons y recs ih =>
    obtain ⟨hy, hrest⟩ := List.forall_mem_cons.mp hne
    rw [Machine.applyAll]
    refine ih hrest ((h.applyRec hi hy _ op).congr rfl rfl) ?_
    have hnext := (Drive.applyRec_store y (pending && d.mirrors (d.ns y.ns)) op d).2.1
    exact (Nat.lt_succ_of_lt hi).trans_eq hnext.symm

/-- The key of each record applied names it, unless it is a deletion. -/
theorem applyAll_names (pending : Bool) (op : Option Nat) {recs : List Rec} (hpair : recs.Pairwise recsApart) {x : Rec} (hx : x ∈ recs)
    (hdel : x.deletion = false) (d : Drive) : ∃ e i, (applyAll pending op recs d).Names x e i := by
  induction recs generalizing d with
  | nil => exact absurd hx List.not_mem_nil
  | cons y recs ih =>
    obtain ⟨hy, hrest⟩ := List.pairwise_cons.mp hpair
    rw [applyAll]
    rcases List.mem_cons.mp hx with rfl | hx
    · obtain ⟨e, he⟩ := Drive.applyRec_names hdel (pending && d.mirrors (d.ns x.ns)) op d
      refine ⟨e, _, Drive.Names.applyAll pending op hy (he.congr rfl rfl) ?_⟩
      have hnext := (Drive.applyRec_store x (pending && d.mirrors (d.ns x.ns)) op d).2.1
      exact (Nat.lt_succ_self _).trans_eq hnext.symm
    · exact ih hrest hx _

/-- What sending a mirror, if there is one, leaves of the data service. -/
theorem commit_kv (p : Bool) (r : Req) (id : Nat) (o : Option Origin) (recs : List Rec) (dur : Nat) (d : Drive) :
    let b := if p then (id, d) else d.mirror r recs none dur
    (if p then b.2 else { b.2 with twin.out := b.2.twin.out.map (fun (x : TwinOp) => if x.opId = b.1 then { x with origin := o } else x) }).kv = d.kv := by
  cases p
  · exact Drive.mirror_kv ..
  · rfl

/-- The records of the write members: of different keys, and one for every PUT member. -/
theorem writeRecs_apart {ms : List Member} (hms : ms.Pairwise membersApart) {seals : List (Nat × Nat)} (hlen : seals.length = ms.length)
    (tenant v : Nat) (d : Drive) :
    let recs := ((ms.zip seals).filter (fun p => p.1.op != 0x04)).map (fun p => memberRec d tenant v p.1 p.2)
    recs.Pairwise recsApart ∧ ∀ m ∈ ms, m.op = 0x02 → ∃ x ∈ recs, x.ns = m.ns ∧ x.key = m.key ∧ x.version = v ∧ x.deletion = false := by
  have hfst : (ms.zip seals).map Prod.fst = ms := List.map_fst_zip hlen.symm.le
  rw [← hfst, List.pairwise_map] at hms
  refine ⟨List.pairwise_map.mpr (hms.filter _), fun m hm hop => ?_⟩
  rw [← hfst] at hm
  obtain ⟨⟨q, sl⟩, hmem, rfl⟩ := List.mem_map.mp hm
  have hput : q.op = 0x02 := hop
  exact ⟨memberRec d tenant v q sl, List.mem_map.mpr ⟨(q, sl), List.mem_filter.mpr ⟨hmem, by simp [hput]⟩, rfl⟩, rfl, rfl, rfl,
    by simp [memberRec, hput]⟩

/-- A BATCH_ATOMIC of one home is committed at one version greater than every one before, and the key of every PUT member names a record of
that version (R123, R128). -/
theorem commitAtomic_names (r : Req) (tenant : Nat) {ms : List Member} (hms : ms.Pairwise membersApart) {d : Drive}
    (hseals : (drawSeals tenant ms d).isSome = true) : d.kv.lastVersion < (commitAtomic r tenant ms d).kv.lastVersion ∧
      ∀ m ∈ ms, m.op = 0x02 → ∃ e, (commitAtomic r tenant ms d).find? m.ns m.key = some e ∧
        e.version = (commitAtomic r tenant ms d).kv.lastVersion := by
  obtain ⟨⟨seals, z⟩, hz⟩ := Option.isSome_iff_exists.mp hseals
  obtain ⟨hlen, hkv⟩ := drawSeals_keeps hz
  obtain ⟨v, y, hassigned, hlt, hset, -⟩ := Drive.assign_eq r.input (drawAll ms z)
  rw [drawAll_kv, hkv] at hlt
  have hlast : y.kv.lastVersion = v := (congrArg Kv.lastVersion hset :)
  obtain ⟨hapart, hrec⟩ := writeRecs_apart hms hlen tenant v y
  unfold commitAtomic
  rw [hz]
  dsimp only
  rw [hassigned]
  dsimp only
  generalize ((ms.zip seals).filter (fun p => p.1.op != 0x04)).map (fun p => memberRec y tenant v p.1 p.2) = recs at hapart hrec ⊢
  have hends : ∀ (b : Drive) (q : Req), b.kv = ((applyAll true none recs y).noteChanges recs).kv →
      d.kv.lastVersion < (b.putReq q).kv.lastVersion ∧
        ∀ m ∈ ms, m.op = 0x02 → ∃ e, (b.putReq q).find? m.ns m.key = some e ∧ e.version = (b.putReq q).kv.lastVersion := by
    intro b q hb
    rw [Drive.noteChanges_kv] at hb
    have hversion : (b.putReq q).kv.lastVersion = v := by
      have := congrArg Kv.lastVersion hb
      rw [applyAll_last, hlast] at this
      exact this
    refine ⟨by rw [hversion]; exact hlt, fun m hm hop => ?_⟩
    obtain ⟨x, hx, hns, hkey, hat, hdel⟩ := hrec m hm hop
    obtain ⟨e, i, hnames⟩ := applyAll_names true none hapart hx hdel y
    have hnames := hnames.congr (b := b.putReq q) (congrArg Kv.dir hb :) (congrArg Kv.shelf hb :)
    exact ⟨e, by rw [← hns, ← hkey]; exact hnames.find?, by rw [hnames.version, hat, hversion]⟩
  exact hends _ _ (commit_kv ..)

/-- At an unpaired drive every key is its own. -/
theorem Drive.route_unpaired {d : Drive} (h : d.effTwin = 0) (ns : Ns) (home write : Bool) : d.route ns home write = .here := by
  simp only [Drive.route, h]

/-- Nothing keeps this BATCH_ATOMIC at an unpaired drive from being committed: no member fails a check, none waits, and there is room. -/
structure Drive.CommitsBatch (d : Drive) (o : Origin) (r : Req) : Prop where
  asks : d.Asks o 0x10 r
  unpaired : d.effTwin = 0
  whole : d.batchChecks r true = none
  checks : batchOrder d r (d.originTenant r) (parseMembers r.body) 8 5 = none
  proceeds : ∀ m ∈ parseMembers r.body, d.earlierOn r m.ns m.key = false ∧ d.held m.ns m.key = false ∧
    (m.op = 0x02 → (d.ns m.ns).state ≠ 0x22) ∧ (d.ns m.ns).cutover = false ∧ (m.op = 0x04 → d.hidden m.ns m.key = false) ∧
    (m.op ≠ 0x04 → d.mirrorRoom (.session 0 0) (d.ns m.ns) = true)
  holly : d.hollyUp = true
  unspent : d.versionsSpent r.input = false
  assign : d.canAssign = true
  shelve : d.canShelve = true
  room : (roomForAll (parseMembers r.body) d).1 = none

theorem batchAtomicRequest_commits {d : Drive} {o : Origin} {r : Req} (h : d.CommitsBatch o r) :
    batchAtomicRequest o d = commitAtomic r (d.originTenant r) (parseMembers r.body) d := by
  obtain ⟨hearly, hlate⟩ := (batchOrder_add_eq_none 7 1 5).mp h.checks
  have hroom : roomForAll (parseMembers r.body) d = (none, d) := Prod.ext h.room ((roomForAll_noted ..).2 h.room)
  have helse : ∀ m, d.elsewhere m = false := fun m => by rw [Drive.elsewhere, Drive.route_unpaired h.unpaired]; rfl
  have hnone : ∀ f : Member → Bool, (∀ m ∈ parseMembers r.body, f m = false) → ¬((parseMembers r.body).any f = true) := fun f hf hany => by
    obtain ⟨m, hm, hfm⟩ := List.any_eq_true.mp hany
    rw [hf m hm] at hfm
    exact absurd hfm (by decide)
  rw [batchAtomicRequest, Drive.withReq_of h.asks.req h.asks.active (by simp [h.asks.opcode]) h.asks.turn, h.whole]
  dsimp only
  rw [hearly]
  dsimp only
  rw [if_neg (hnone _ fun m hm => (h.proceeds m hm).1), if_neg (by split <;> simp [helse]), if_neg (hnone _ ?stays), if_neg (hnone _ ?free),
    if_neg (by simp [h.holly, h.unspent]), if_neg (by simp [h.assign, h.shelve]), if_neg (by simp [helse]), if_neg (hnone _ ?mirrored),
    if_neg (hnone _ ?shown), hlate, hroom]
  case free => exact fun m hm => (h.proceeds m hm).2.1
  all_goals
    intro m hm
    obtain ⟨-, -, hput, hcut, hshown, hmirror⟩ := h.proceeds m hm
  case stays => simpa [hcut] using fun hstate hop => hput hop hstate
  case mirrored => simpa using hmirror
  case shown => simpa using hshown

/-- Settles O17. -/
theorem batchesAnswer : Obligations.BatchesAnswer := by
  unfold Obligations.BatchesAnswer
  refine ⟨fun s o r h hs hc hres hparts => completes_onMain rfl h.live (batchRequest_stands h hs hc hres hparts), ?_, ?_⟩
  · intro s o r m i h hs hc hres hparts hms hop hchecks hwaits hhere hspent hholly hroom hslot hnonce
    refine completes_onMain rfl h.live ?_
    rw [batchRequest, Drive.withReq_of h.req h.active (by simp [h.opcode]) h.turn, hc]
    have hexec : s.dev.Executes o [m] r := ⟨h.req, hms, h.active, hs, by simp [hres], by simp [hparts]⟩
    exact Drive.ExecutesPut.names ⟨hexec, hres, hparts, hop, hchecks, hwaits, hhere, hspent, hholly, hroom, hslot, hnonce⟩ _
  · intro s o r h htwin hc horder hstill hholly hspent hassign hshelve hroom hseals
    refine completes_onMain rfl h.live ?_
    rw [batchAtomicRequest_commits ⟨h, htwin, hc, horder, hstill, hholly, hspent, hassign, hshelve, hroom⟩]
    exact commitAtomic_names r _ (Drive.members_apart hc) hseals

end Sys2Proof.Machine
end

-- Proofs of transactions and ordering: what zeroisation and the versions rest on.
section
namespace Sys2Proof.Machine
open Sys2Proof

/-! ## What zeroisation and the versions rest on -/

/-- The version last assigned, the ZEROISED fuse, the state of chapter 12, the root key and the storage keys. -/
structure Fixed where
  last : Nat
  fuse : Bool
  state : Nat
  root : Bool
  storage : Tbl StorageSlot

/-- The version last assigned and the ZEROISED fuse. -/
def Fixed.kept (f : Fixed) : Nat × Bool := (f.last, f.fuse)

@[simp] theorem Fixed.kept_mk (last : Nat) (fuse : Bool) (state : Nat) (root : Bool) (storage : Tbl StorageSlot) :
    (Fixed.mk last fuse state root storage).kept = (last, fuse) := (rfl)

/-- What a function of the model leaves as it is unless it is about versions, zeroisation or keys. -/
def Drive.fixed (d : Drive) : Fixed := ⟨d.kv.lastVersion, d.sec.zeroFuse, d.sec.state, d.keys.root, d.keys.storage⟩

theorem Drive.fixed_of_eq {a b : Drive} (hk : b.kv = a.kv) (hs : b.sec = a.sec) (hr : b.keys = a.keys) : b.fixed = a.fixed := by
  rw [Drive.fixed, hk, hs, hr, Drive.fixed]

theorem Drive.kept_of_eq {a b : Drive} (hl : b.kv.lastVersion = a.kv.lastVersion) (hs : b.sec = a.sec) : b.fixed.kept = a.fixed.kept := by
  simp only [Drive.fixed, hl, hs, Fixed.kept]

theorem Drive.changesOnly.fixed {ps : List Part} {a b : Drive} (h : a.changesOnly ps b) (hk : ps.contains Part.kv = false)
    (hs : ps.contains Part.sec = false) (hr : ps.contains Part.keys = false) : b.fixed = a.fixed :=
  Drive.fixed_of_eq (h.kv hk) (h.sec hs) (h.keys hr)

theorem Drive.changesOnly.kept {ps : List Part} {a b : Drive} (h : a.changesOnly ps b) (hk : ps.contains Part.kv = false)
    (hs : ps.contains Part.sec = false) : b.fixed.kept = a.fixed.kept :=
  Drive.kept_of_eq (congrArg Kv.lastVersion (h.kv hk)) (h.sec hs)

theorem Drive.last_of_fixed {a b : Drive} (h : b.fixed = a.fixed) : b.kv.lastVersion = a.kv.lastVersion := congrArg Fixed.last h

theorem Drive.keys_of_fixed {a b : Drive} (h : b.fixed = a.fixed) : b.keys.root = a.keys.root ∧ b.keys.storage = a.keys.storage :=
  ⟨congrArg Fixed.root h, congrArg Fixed.storage h⟩

@[simp] theorem Drive.fixed_mk (kv media twin ring keys holly xp time sec mod port privet rec_ meter power therm health flag optf jobs chans
    healthSaved ident out free) :
    Drive.fixed (Drive.mk kv media twin ring keys holly xp time sec mod port privet rec_ meter power therm health flag optf jobs chans
      healthSaved ident out free) = ⟨kv.lastVersion, sec.zeroFuse, sec.state, keys.root, keys.storage⟩ := (rfl)

@[simp] theorem Drive.kept_eta (d : Drive) : (d.kv.lastVersion, d.sec.zeroFuse) = d.fixed.kept := (rfl)

@[simp] theorem Drive.fixed_eta (d : Drive) :
    Fixed.mk d.kv.lastVersion d.sec.zeroFuse d.sec.state d.keys.root d.keys.storage = d.fixed := (rfl)

@[simp] theorem Drive.fixed_ite (c : Prop) [Decidable c] (a b : Drive) : (if c then a else b).fixed = if c then a.fixed else b.fixed :=
  apply_ite Drive.fixed c a b

@[simp] theorem Fixed.kept_ite (c : Prop) [Decidable c] (a b : Fixed) : (if c then a else b).kept = if c then a.kept else b.kept :=
  apply_ite Fixed.kept c a b

@[simp] theorem snd_ite_fixed {α : Type} (c : Prop) [Decidable c] (a b : α × Drive) :
    (if c then a else b).2.fixed = if c then a.2.fixed else b.2.fixed :=
  apply_ite (fun p : α × Drive => p.2.fixed) c a b

@[simp] theorem Wr.dev_ite_fixed (c : Prop) [Decidable c] (a b : Wr) : (if c then a else b).dev.fixed = if c then a.dev.fixed else b.dev.fixed :=
  apply_ite (fun w : Wr => w.dev.fixed) c a b

@[simp] theorem Wr.ok_dev (d : Drive) : (Wr.ok d).dev = d := rfl
@[simp] theorem Wr.bad_dev (st : Nat) (d : Drive) : (Wr.bad st d).dev = d := rfl
@[simp] theorem Wr.conflict_dev (code page : Nat) (d : Drive) : (Wr.conflict code page d).dev = d := rfl

@[simp] theorem foldl_kept {α : Type} {f : Drive → α → Drive} (hf : ∀ d x, (f d x).fixed.kept = d.fixed.kept) (l : List α) (d : Drive) :
    (l.foldl f d).fixed.kept = d.fixed.kept := by
  induction l generalizing d with
  | nil => rfl
  | cons x l ih => exact (ih _).trans (hf d x)

@[simp] theorem foldl_fixed {α : Type} {f : Drive → α → Drive} (hf : ∀ d x, (f d x).fixed = d.fixed) (l : List α) (d : Drive) :
    (l.foldl f d).fixed = d.fixed := by
  induction l generalizing d with
  | nil => rfl
  | cons x l ih => exact (ih _).trans (hf d x)

@[simp] theorem map_getD_kept {α : Type} {o : Option (α × Drive)} {d : Drive} (h : ∀ p, o = some p → p.2.fixed.kept = d.fixed.kept) :
    ((o.map (·.2)).getD d).fixed.kept = d.fixed.kept := by
  cases o with
  | none => rfl
  | some p => exact h p rfl

@[simp] theorem getD_kept {o : Option Drive} {d : Drive} (h : ∀ z, o = some z → z.fixed.kept = d.fixed.kept) :
    (o.getD d).fixed.kept = d.fixed.kept := by
  cases o with
  | none => rfl
  | some z => exact h z rfl

theorem orElse_some {α : Type} {a b : Option α} {x : α} (h : (a.orElse fun _ => b) = some x) : a = some x ∨ b = some x := by
  cases a
  · exact .inr h
  · exact .inl h

end Sys2Proof.Machine
end

-- Proofs of transactions and ordering: what each function of the model leaves of it as it is.
section
namespace Sys2Proof.Machine
open Sys2Proof

/-! One lemma for each function of the model that a step can call and that assigns no version and blows no fuse, in the order of the
definitions: `_fixed` where it leaves versions, zeroisation and keys as they are, `_kept` where it leaves the version last assigned and the
fuse. Of a function that takes a function, provided that one does so. Most follow by unfolding, the lemmas before and a split. -/

@[simp] theorem Drive.advanceTo_fixed (t) (d : Drive) : (Drive.advanceTo t d).fixed = d.fixed := (Drive.advanceTo_frame ..).fixed rfl rfl rfl

@[simp] theorem Drive.emit_fixed (o) (d : Drive) : (Drive.emit o d).fixed = d.fixed := (Drive.emit_frame ..).fixed rfl rfl rfl

@[simp] theorem Drive.fresh_fixed (d : Drive) : (Drive.fresh d).2.fixed = d.fixed := (Drive.fresh_frame ..).fixed rfl rfl rfl

@[simp] theorem Drive.draw_fixed (d : Drive) : (Drive.draw d).2.fixed = d.fixed := rfl

@[simp] theorem Drive.draw_keys (d : Drive) :
    (Drive.draw d).2.keys.root = d.keys.root ∧ (Drive.draw d).2.keys.storage = d.keys.storage := Drive.keys_of_fixed (Drive.draw_fixed ..)

@[simp] theorem Drive.modAcc_fixed (t) (f) (d : Drive) : (Drive.modAcc t f d).fixed = d.fixed := (Drive.modAcc_frame ..).fixed rfl rfl rfl

@[simp] theorem Drive.meterOps_fixed (t) (cls) (d : Drive) : (Drive.meterOps t cls d).fixed = d.fixed := (Drive.meterOps_frame ..).fixed rfl rfl rfl

@[simp] theorem Drive.meterIn_kept (t) (n) (d : Drive) : (Drive.meterIn t n d).fixed.kept = d.fixed.kept := (Drive.meterIn_frame ..).kept rfl rfl

@[simp] theorem Drive.meterOut_fixed (t) (n) (d : Drive) : (Drive.meterOut t n d).fixed = d.fixed := (Drive.meterOut_frame ..).fixed rfl rfl rfl

@[simp] theorem Drive.meterReply_fixed (r) (d : Drive) : (Drive.meterReply r d).fixed = d.fixed := (Drive.meterReply_frame ..).fixed rfl rfl rfl

@[simp] theorem Drive.setSess_fixed (sid) (s) (d : Drive) : (Drive.setSess sid s d).fixed = d.fixed := (Drive.setSess_frame ..).fixed rfl rfl rfl

@[simp] theorem Drive.modSess_fixed (sid) (f) (d : Drive) : (Drive.modSess sid f d).fixed = d.fixed := (Drive.modSess_frame ..).fixed rfl rfl rfl

@[simp] theorem Drive.setSslot_fixed (sid) (s) (d : Drive) : (Drive.setSslot sid s d).fixed = d.fixed := rfl

@[simp] theorem Drive.modPort_fixed (p) (f) (d : Drive) : (Drive.modPort p f d).fixed = d.fixed := (Drive.modPort_frame ..).fixed rfl rfl rfl

@[simp] theorem Drive.portCount_fixed (p) (k) (n) (d : Drive) :
    (Drive.portCount p k n d).fixed = d.fixed := (Drive.portCount_frame ..).fixed rfl rfl rfl

@[simp] theorem Drive.portTx_fixed (p) (len) (cast) (tagged) (fw) (o) (d : Drive) :
    (Drive.portTx p len cast tagged fw o d).fixed = d.fixed := (Drive.portTx_frame ..).fixed rfl rfl rfl

@[simp] theorem Drive.takeRing_fixed (p) (ring) (d : Drive) : (Drive.takeRing p ring d).fixed = d.fixed := (Drive.takeRing_frame ..).fixed rfl rfl rfl

@[simp] theorem Drive.markSent_fixed (sid) (p) (phase) (w) (f) (d : Drive) : (Drive.markSent sid p phase w f d).fixed = d.fixed := rfl

@[simp] theorem pumpFrames_fixed (sid) (n) (d : Drive) : (pumpFrames sid n d).fixed = d.fixed := by
  induction n generalizing d with
  | zero => rfl
  | succ n ih =>
    rw [pumpFrames]
    dsimp only
    split
    · rfl
    split
    · rfl
    split
    · rfl
    split
    · rfl
    · rw [ih]
      split <;> simp

@[simp] theorem Drive.pump_fixed (sid) (d : Drive) : (Drive.pump sid d).fixed = d.fixed := by
  unfold Drive.pump
  simp

@[simp] theorem Drive.sendPart_fixed (sid) (rid) (path) (first) (last) (op) (payload) (d : Drive) :
    (Drive.sendPart sid rid path first last op payload d).fixed = d.fixed := by
  unfold Drive.sendPart
  simp

@[simp] theorem Drive.sendAck_kept (sid) (path) (d : Drive) :
    (Drive.sendAck sid path d).fixed.kept = d.fixed.kept := (Drive.sendAck_frame ..).kept rfl rfl

@[simp] theorem Drive.inBand_fixed (d : Drive) : (Drive.inBand d).fixed = d.fixed := (Drive.inBand_frame ..).fixed rfl rfl rfl

@[simp] theorem Drive.raiseAlert_fixed (d : Drive) : (Drive.raiseAlert d).fixed = d.fixed := (Drive.raiseAlert_frame ..).fixed rfl rfl rfl

@[simp] theorem Drive.raiseWear_fixed (d : Drive) : (Drive.raiseWear d).fixed = d.fixed := (Drive.raiseWear_frame ..).fixed rfl rfl rfl

@[simp] theorem Drive.raiseFwd_fixed (d : Drive) : (Drive.raiseFwd d).fixed = d.fixed := (Drive.raiseFwd_frame ..).fixed rfl rfl rfl

@[simp] theorem Drive.dropEvent_fixed (src) (sev) (d : Drive) :
    (Drive.dropEvent src sev d).fixed = d.fixed := (Drive.dropEvent_frame ..).fixed rfl rfl rfl

@[simp] theorem Drive.enter_fixed (src) (sev) (payload) (d : Drive) :
    (Drive.enter src sev payload d).2.fixed = d.fixed := (Drive.enter_frame ..).fixed rfl rfl rfl

@[simp] theorem Drive.startFlush_fixed (d : Drive) : (Drive.startFlush d).fixed = d.fixed := (Drive.startFlush_frame ..).fixed rfl rfl rfl

@[simp] theorem Drive.queueWith_fixed {lost : Nat → Drive → Drive} (hf : ∀ n d, (lost n d).fixed = d.fixed) (sid) (n) (d : Drive) :
    (d.queueWith lost sid n).fixed = d.fixed := by
  unfold Drive.queueWith
  dsimp only
  simp [hf]

@[simp] theorem sendNotices_fixed (sid) (n) (d : Drive) : (sendNotices sid n d).fixed = d.fixed := by
  induction n generalizing d with
  | zero => rfl
  | succ n ih =>
    rw [sendNotices]
    dsimp only
    split
    · rfl
    split
    · split
      · simp [ih]
      · rfl
    · rw [ih]
      split <;> simp

@[simp] theorem Drive.noticeWith_fixed {lost : Nat → Drive → Drive} (hf : ∀ n d, (lost n d).fixed = d.fixed) (sid) (n) (d : Drive) :
    (d.noticeWith lost sid n).fixed = d.fixed := by
  unfold Drive.noticeWith
  simp [Drive.queueWith_fixed hf]

@[simp] theorem Drive.eventNoticeLost_fixed (sid) (d : Drive) :
    (Drive.eventNoticeLost sid d).fixed = d.fixed := (Drive.eventNoticeLost_frame ..).fixed rfl rfl rfl

@[simp] theorem Drive.event_fixed (src) (sev) (words) (d : Drive) (tag) : (Drive.event src sev words d tag).fixed = d.fixed := by
  unfold Drive.event
  have h := Drive.enter_fixed src sev (eventPayload tag words) d
  split <;> rename_i heq <;> rw [heq] at h
  · exact h
  · have hn := Drive.noticeWith_fixed (fun n d => Drive.eventNoticeLost_fixed n d)
    dsimp only
    split <;> split <;> simp_all

@[simp] theorem Drive.event_keys (src) (sev) (words) (d : Drive) (tag) :
    (Drive.event src sev words d tag).keys.root = d.keys.root ∧ (Drive.event src sev words d tag).keys.storage = d.keys.storage :=
  Drive.keys_of_fixed (Drive.event_fixed ..)

@[simp] theorem Drive.noticeLost_fixed (sid) (d : Drive) : (Drive.noticeLost sid d).fixed = d.fixed := by
  unfold Drive.noticeLost
  simp

@[simp] theorem Drive.notice_fixed (sid) (n) (d : Drive) : (Drive.notice sid n d).fixed = d.fixed := by
  unfold Drive.notice
  refine Drive.noticeWith_fixed (fun r d => ?_) ..
  simp

@[simp] theorem Drive.putReq_fixed (r) (d : Drive) : (Drive.putReq r d).fixed = d.fixed := rfl

@[simp] theorem Drive.putReq_last (r) (d : Drive) :
    (Drive.putReq r d).kv.lastVersion = d.kv.lastVersion := Drive.last_of_fixed (Drive.putReq_fixed ..)

@[simp] theorem Drive.addReq_fixed (r) (d : Drive) : (Drive.addReq r d).fixed = d.fixed := rfl

@[simp] theorem Drive.dropReq_fixed (o) (d : Drive) : (Drive.dropReq o d).fixed = d.fixed := rfl

@[simp] theorem Drive.withReq_kept {f : Req → Drive → Drive} (hf : ∀ r d, (f r d).fixed.kept = d.fixed.kept) (o) (ops) (d : Drive) :
    (d.withReq o ops f).fixed.kept = d.fixed.kept := by
  unfold Drive.withReq
  split
  · split
    · exact hf ..
    · rfl
  · rfl

@[simp] theorem Drive.twinSend_fixed (m) (d : Drive) : (Drive.twinSend m d).fixed = d.fixed := (Drive.twinSend_frame ..).fixed rfl rfl rfl

@[simp] theorem Drive.newOpId_fixed (d : Drive) : (Drive.newOpId d).2.fixed = d.fixed := (Drive.newOpId_frame ..).fixed rfl rfl rfl

@[simp] theorem Drive.twinOp_fixed (op) (d : Drive) : (Drive.twinOp op d).fixed = d.fixed := (Drive.twinOp_frame ..).fixed rfl rfl rfl

@[simp] theorem Drive.twinDone_fixed (opId) (d : Drive) : (Drive.twinDone opId d).fixed = d.fixed := (Drive.twinDone_frame ..).fixed rfl rfl rfl

@[simp] theorem Drive.twinSeen_fixed (opId) (reply) (d : Drive) :
    (Drive.twinSeen opId reply d).fixed = d.fixed := (Drive.twinSeen_frame ..).fixed rfl rfl rfl

@[simp] theorem ringTx_fixed (east) (o) (d : Drive) : (ringTx east o d).fixed = d.fixed := (ringTx_frame ..).fixed rfl rfl rfl

@[simp] theorem Drive.takeRingSide_fixed (d : Drive) : (Drive.takeRingSide d).fixed = d.fixed := (Drive.takeRingSide_frame ..).fixed rfl rfl rfl

@[simp] theorem Drive.ringSend_fixed (code) (dest) (cls) (args) (body) (d : Drive) :
    (Drive.ringSend code dest cls args body d).fixed = d.fixed := (Drive.ringSend_frame ..).fixed rfl rfl rfl

@[simp] theorem Drive.fromRing_kept {k : Drive → Drive} (hf : ∀ d, (k d).fixed.kept = d.fixed.kept) (src) (seq) (d : Drive) :
    (d.fromRing src seq k).fixed.kept = d.fixed.kept := by
  unfold Drive.fromRing
  dsimp only
  split <;> simp [hf]

@[simp] theorem Drive.chargeReply_fixed (t) (n) (d : Drive) :
    (Drive.chargeReply t n d).fixed = d.fixed := (Drive.chargeReply_frame ..).fixed rfl rfl rfl

@[simp] theorem Drive.replyFrames_fixed (sid) (rid) (first) (last) (h) (body) (d : Drive) :
    (Drive.replyFrames sid rid first last h body d).fixed = d.fixed := by
  unfold Drive.replyFrames
  simp

@[simp] theorem Drive.answer_fixed (o) (h) (body) (d : Drive) : (Drive.answer o h body d).fixed = d.fixed := by
  unfold Drive.answer
  dsimp only
  repeat' split
  all_goals simp

@[simp] theorem Drive.lastReply_fixed (sid) (late) (d : Drive) : (Drive.lastReply sid late d).fixed = d.fixed := by
  unfold Drive.lastReply
  dsimp only
  split
  · simp
  split <;> simp

@[simp] theorem Drive.reply_fixed (o) (h) (body) (d : Drive) : (Drive.reply o h body d).fixed = d.fixed := by
  unfold Drive.reply
  split <;> simp

@[simp] theorem Drive.refuse_fixed (r) (status) (d : Drive) (version) (offset) : (Drive.refuse r status d version offset).fixed = d.fixed := by
  unfold Drive.refuse
  simp

@[simp] theorem Drive.conflict_kept (r) (code) (page) (d : Drive) : (Drive.conflict r code page d).fixed.kept = d.fixed.kept := by
  unfold Drive.conflict
  simp

@[simp] theorem Drive.setPower_fixed (st) (d : Drive) : (Drive.setPower st d).fixed = d.fixed := by
  unfold Drive.setPower
  simp

@[simp] theorem Drive.beginWake_fixed (d : Drive) : (Drive.beginWake d).fixed = d.fixed := (Drive.beginWake_frame ..).fixed rfl rfl rfl

@[simp] theorem Drive.awaken_fixed (d : Drive) : (Drive.awaken d).fixed = d.fixed := by
  unfold Drive.awaken
  dsimp only
  split <;> simp

@[simp] theorem Drive.awaken_keys (d : Drive) :
    (Drive.awaken d).keys.root = d.keys.root ∧ (Drive.awaken d).keys.storage = d.keys.storage := Drive.keys_of_fixed (Drive.awaken_fixed ..)

@[simp] theorem Drive.wasBusy_kept (d : Drive) : (Drive.wasBusy d).fixed.kept = d.fixed.kept := (Drive.wasBusy_frame ..).kept rfl rfl

@[simp] theorem Wr.ok_fixed (d : Drive) : (Wr.ok d).dev.fixed = d.fixed := by
  unfold Wr.ok
  simp

@[simp] theorem Wr.bad_fixed (status) (d : Drive) : (Wr.bad status d).dev.fixed = d.fixed := by
  unfold Wr.bad
  simp

@[simp] theorem Wr.conflict_fixed (code) (page) (d : Drive) : (Wr.conflict code page d).dev.fixed = d.fixed := by
  unfold Wr.conflict
  simp

@[simp] theorem Drive.unheld_fixed (ch) (addr) (d : Drive) : (Drive.unheld ch addr d).fixed = d.fixed := (Drive.unheld_frame ..).fixed rfl rfl rfl

@[simp] theorem attrCmd_fixed {w : Drive → Wr} (hf : ∀ d, (w d).dev.fixed = d.fixed) (ch) (addr) (d : Drive) :
    (attrCmd ch addr w d).fixed = d.fixed := by
  unfold attrCmd
  simp [hf]

@[simp] theorem attrCmd_kept {w : Drive → Wr} (hf : ∀ d, (w d).dev.fixed.kept = d.fixed.kept) (ch) (addr) (d : Drive) :
    (attrCmd ch addr w d).fixed.kept = d.fixed.kept := by
  unfold attrCmd
  simp [hf]

@[simp] theorem Drive.delta_fixed (x) (d : Drive) : (Drive.delta x d).fixed = d.fixed := (Drive.delta_frame ..).fixed rfl rfl rfl

@[simp] theorem Drive.fwdRemoved_kept (l) (d : Drive) : (Drive.fwdRemoved l d).fixed.kept = d.fixed.kept := (Drive.fwdRemoved_frame ..).kept rfl rfl

@[simp] theorem Drive.tickTo_fixed (t) (d : Drive) : (Drive.tickTo t d).fixed = d.fixed := (Drive.tickTo_frame ..).fixed rfl rfl rfl

@[simp] theorem Drive.reserveTicks_fixed (d : Drive) : (Drive.reserveTicks d).fixed = d.fixed := (Drive.reserveTicks_frame ..).fixed rfl rfl rfl

@[simp] theorem Drive.putJob_kept (j) (d : Drive) : (Drive.putJob j d).fixed.kept = d.fixed.kept := (Drive.putJob_frame ..).kept rfl rfl

@[simp] theorem Drive.dequeue_kept (d : Drive) : (Drive.dequeue d).fixed.kept = d.fixed.kept := (Drive.dequeue_frame ..).kept rfl rfl

theorem Drive.startJob_kept {j} {own} {d : Drive} {y} {z : Drive} (h : (Drive.startJob j own d) = some (y, z)) :
    z.fixed.kept = d.fixed.kept := (Drive.startJob_frame (hr := h) ..).kept rfl rfl

@[simp] theorem Drive.endJob_kept (j) (status) (d : Drive) :
    (Drive.endJob j status d).fixed.kept = d.fixed.kept := (Drive.endJob_frame ..).kept rfl rfl

@[simp] theorem Drive.ownJob_kept (kind) (p0) (d : Drive) : (Drive.ownJob kind p0 d).fixed.kept = d.fixed.kept := (Drive.ownJob_frame ..).kept rfl rfl

@[simp] theorem Drive.endKind_kept (kind) (status) (d : Drive) :
    (Drive.endKind kind status d).fixed.kept = d.fixed.kept := (Drive.endKind_frame ..).kept rfl rfl

@[simp] theorem Drive.storeWatch_fixed (d : Drive) : (Drive.storeWatch d).fixed = d.fixed := by
  unfold Drive.storeWatch
  simp

@[simp] theorem Drive.putRec_fixed (r) (key) (prev) (d : Drive) : (Drive.putRec r key prev d).fixed = d.fixed := by
  unfold Drive.putRec
  simp

@[simp] theorem Drive.sealRec_fixed (r) (d : Drive) : (Drive.sealRec r d).fixed = d.fixed := by
  unfold Drive.sealRec
  split <;> simp

@[simp] theorem Drive.meterKeyChanged_kept (d : Drive) : (Drive.meterKeyChanged d).fixed.kept = d.fixed.kept := by
  unfold Drive.meterKeyChanged
  split <;> simp

@[simp] theorem writeRecs_fixed (flags) (l) (d : Drive) : (writeRecs flags l d).fixed = d.fixed := by
  induction l generalizing d with
  | nil => rfl
  | cons x l ih => simp [writeRecs, ih]

@[simp] theorem Drive.openInterval_fixed (d : Drive) : (Drive.openInterval d).fixed = d.fixed := by
  unfold Drive.openInterval
  simp

@[simp] theorem Drive.closeInterval_fixed (flags) (d : Drive) : (Drive.closeInterval flags d).fixed = d.fixed := by
  unfold Drive.closeInterval
  simp

@[simp] theorem Drive.meterStep_fixed (back) (before) (d : Drive) : (Drive.meterStep back before d).fixed = d.fixed := by
  unfold Drive.meterStep
  simp

@[simp] theorem Drive.addEnergy_kept (t) (uj) (d : Drive) : (Drive.addEnergy t uj d).fixed.kept = d.fixed.kept := by
  unfold Drive.addEnergy
  simp

@[simp] theorem apportion_kept (e) (total) (l) (d : Drive) : (apportion e total l d).fixed.kept = d.fixed.kept := by
  induction l generalizing d with
  | nil => rfl
  | cons x l ih => simp [apportion, ih]

@[simp] theorem Drive.shareEnergy_kept (n) (e) (acts) (d : Drive) : (Drive.shareEnergy n e acts d).fixed.kept = d.fixed.kept := by
  unfold Drive.shareEnergy
  simp

@[simp] theorem tickTenants_kept (n) (l) (d : Drive) : (tickTenants n l d).fixed.kept = d.fixed.kept := by
  induction l generalizing d with
  | nil => rfl
  | cons x l ih => simp [tickTenants, ih]

@[simp] theorem Drive.account_kept (n) (e) (acts) (d : Drive) : (Drive.account n e acts d).fixed.kept = d.fixed.kept := by
  unfold Drive.account
  simp

@[simp] theorem meterTick_kept (e) (acts) (d : Drive) : (meterTick e acts d).fixed.kept = d.fixed.kept := by
  unfold meterTick
  simp

@[simp] theorem meterExtendedEnd_kept (d : Drive) : (meterExtendedEnd d).fixed.kept = d.fixed.kept := by
  unfold meterExtendedEnd
  simp

@[simp] theorem meterIntervalWrite_fixed (v) (d : Drive) : (meterIntervalWrite v d).dev.fixed = d.fixed := by
  unfold meterIntervalWrite
  simp

@[simp] theorem weightRecalibrate_kept (die) (holly) (net) (laurel) (d : Drive) :
    (weightRecalibrate die holly net laurel d).fixed.kept = d.fixed.kept := by
  unfold weightRecalibrate
  simp

@[simp] theorem meterRead_kept (o) (d : Drive) : (meterRead o d).fixed.kept = d.fixed.kept := by
  unfold meterRead
  refine Drive.withReq_kept (fun r d => ?_) ..
  simp

@[simp] theorem meterAck_kept (o) (d : Drive) : (meterAck o d).fixed.kept = d.fixed.kept := by
  unfold meterAck
  refine Drive.withReq_kept (fun r d => ?_) ..
  simp

@[simp] theorem Drive.meterLoss_fixed (d : Drive) : (Drive.meterLoss d).fixed = d.fixed := by
  unfold Drive.meterLoss
  simp

@[simp] theorem Drive.setSb_fixed (n) (s) (d : Drive) : (Drive.setSb n s d).fixed = d.fixed := (Drive.setSb_frame ..).fixed rfl rfl rfl

@[simp] theorem Drive.modSb_fixed (n) (f) (d : Drive) : (Drive.modSb n f d).fixed = d.fixed := (Drive.modSb_frame ..).fixed rfl rfl rfl

@[simp] theorem Drive.nextSbSeq_fixed (d : Drive) : (Drive.nextSbSeq d).2.fixed = d.fixed := (Drive.nextSbSeq_frame ..).fixed rfl rfl rfl

theorem Drive.openSb_kept {stream} {slc} {d : Drive} {y} {z : Drive} (h : (Drive.openSb stream slc d) = some (y, z)) :
    z.fixed.kept = d.fixed.kept := (Drive.openSb_frame (hr := h) ..).kept rfl rfl

theorem Drive.allocate_kept {stream} {slc} {g} {d : Drive} {y} {z : Drive} (h : (Drive.allocate stream slc g d) = some (y, z)) :
    z.fixed.kept = d.fixed.kept := (Drive.allocate_frame (hr := h) ..).kept rfl rfl

@[simp] theorem Drive.placeRec_kept (sb) (gran) (r) (d : Drive) :
    (Drive.placeRec sb gran r d).fixed.kept = d.fixed.kept := (Drive.placeRec_frame ..).kept rfl rfl

@[simp] theorem Drive.authFail_kept (p) (tag) (d : Drive) :
    (Drive.authFail p tag d).fixed.kept = d.fixed.kept := (Drive.authFail_frame ..).kept rfl rfl

@[simp] theorem Drive.reconRoll_fixed (d : Drive) : (Drive.reconRoll d).fixed = d.fixed := (Drive.reconRoll_frame ..).fixed rfl rfl rfl

@[simp] theorem Drive.reconCount_kept (n) (d : Drive) : (Drive.reconCount n d).fixed.kept = d.fixed.kept := (Drive.reconCount_frame ..).kept rfl rfl

@[simp] theorem Drive.countEcc_kept (e) (d : Drive) : (Drive.countEcc e d).fixed.kept = d.fixed.kept := (Drive.countEcc_frame ..).kept rfl rfl

@[simp] theorem Drive.setDie_kept (n) (o) (d : Drive) : (Drive.setDie n o d).fixed.kept = d.fixed.kept := (Drive.setDie_frame ..).kept rfl rfl

@[simp] theorem Drive.beginBusy_kept (n) (o) (d : Drive) :
    (Drive.beginBusy n o d).fixed.kept = d.fixed.kept := (Drive.beginBusy_frame ..).kept rfl rfl

@[simp] theorem Drive.resumeDie_kept (n) (d : Drive) : (Drive.resumeDie n d).fixed.kept = d.fixed.kept := (Drive.resumeDie_frame ..).kept rfl rfl

@[simp] theorem Drive.releaseHeld_kept (n) (d : Drive) :
    (Drive.releaseHeld n d).fixed.kept = d.fixed.kept := (Drive.releaseHeld_frame ..).kept rfl rfl

@[simp] theorem Drive.startReads_kept (n) (d : Drive) : (Drive.startReads n d).fixed.kept = d.fixed.kept := (Drive.startReads_frame ..).kept rfl rfl

@[simp] theorem startAll_kept (l) (d : Drive) : (startAll l d).fixed.kept = d.fixed.kept := (startAll_frame ..).kept rfl rfl

@[simp] theorem Drive.queueRead_kept (j) (d : Drive) : (Drive.queueRead j d).fixed.kept = d.fixed.kept := (Drive.queueRead_frame ..).kept rfl rfl

@[simp] theorem Drive.serveWaiting_kept (n) (d : Drive) :
    (Drive.serveWaiting n d).fixed.kept = d.fixed.kept := (Drive.serveWaiting_frame ..).kept rfl rfl

@[simp] theorem Drive.beginRebuild_kept (why) (j) (d : Drive) :
    (Drive.beginRebuild why j d).fixed.kept = d.fixed.kept := (Drive.beginRebuild_frame ..).kept rfl rfl

@[simp] theorem Drive.cancelReads_kept (o) (d : Drive) :
    (Drive.cancelReads o d).fixed.kept = d.fixed.kept := (Drive.cancelReads_frame ..).kept rfl rfl

@[simp] theorem Drive.setNs_fixed (n) (x) (d : Drive) : (Drive.setNs n x d).fixed = d.fixed := rfl

@[simp] theorem Drive.modNs_fixed (n) (f) (d : Drive) : (Drive.modNs n f d).fixed = d.fixed := rfl

@[simp] theorem Drive.modNs_last (n) (f) (d : Drive) :
    (Drive.modNs n f d).kv.lastVersion = d.kv.lastVersion := Drive.last_of_fixed (Drive.modNs_fixed ..)

@[simp] theorem Drive.noteMismatch_kept (ns) (key) (d : Drive) :
    (Drive.noteMismatch ns key d).fixed.kept = d.fixed.kept := (Drive.noteMismatch_frame ..).kept rfl rfl

@[simp] theorem Drive.dirWatch_fixed (d : Drive) : (Drive.dirWatch d).fixed = d.fixed := by
  unfold Drive.dirWatch
  simp

@[simp] theorem Drive.setStslot_kept (i) (s) (d : Drive) :
    (Drive.setStslot i s d).fixed.kept = d.fixed.kept := (Drive.setStslot_frame ..).kept rfl rfl

theorem Drive.drawNonce_kept {t} {d : Drive} {y} {z : Drive} (h : (Drive.drawNonce t d) = some (y, z)) :
    z.fixed.kept = d.fixed.kept := (Drive.drawNonce_frame (hr := h) ..).kept rfl rfl

@[simp] theorem Drive.useKey_kept (slot) (ns) (gen) (d : Drive) :
    (Drive.useKey slot ns gen d).fixed.kept = d.fixed.kept := (Drive.useKey_frame ..).kept rfl rfl

@[simp] theorem Drive.entryFor_fixed (nsId) (key) (t) (d : Drive) : (Drive.entryFor nsId key t d).2.fixed = d.fixed := by
  unfold Drive.entryFor
  dsimp only
  split
  · simp
  split <;> simp

@[simp] theorem Drive.roomFor_fixed (nsId) (key) (g) (newKey) (d : Drive) : (Drive.roomFor nsId key g newKey d).2.fixed = d.fixed := by
  unfold Drive.roomFor
  simp

@[simp] theorem Drive.askReservation_fixed (d : Drive) : (Drive.askReservation d).fixed = d.fixed := (Drive.askReservation_frame ..).fixed rfl rfl rfl

@[simp] theorem Drive.drawReservation_fixed (ns) (g) (entries) (d : Drive) :
    (Drive.drawReservation ns g entries d).fixed = d.fixed := (Drive.drawReservation_frame ..).fixed rfl rfl rfl

@[simp] theorem Drive.shelve_fixed (r) (mirrorOp) (d : Drive) : (Drive.shelve r mirrorOp d).2.fixed = d.fixed := by
  unfold Drive.shelve
  simp

@[simp] theorem Drive.settle_fixed (o) (d : Drive) : (Drive.settle o d).fixed = d.fixed := by
  unfold Drive.settle
  split <;> simp

@[simp] theorem Drive.forward_fixed (r) (write) (d : Drive) : (Drive.forward r write d).fixed = d.fixed := by
  unfold Drive.forward
  simp

@[simp] theorem Drive.mirror_fixed (r) (recs) (key) (dur) (d : Drive) : (Drive.mirror r recs key dur d).2.fixed = d.fixed := by
  unfold Drive.mirror
  dsimp only
  split <;> simp

@[simp] theorem Drive.noteChanges_fixed (recs) (d : Drive) : (Drive.noteChanges recs d).fixed = d.fixed := by
  unfold Drive.noteChanges
  simp

@[simp] theorem Drive.awaitNeeds_kept (r) (v) (h) (body) (recs) (key) (release) (d : Drive) :
    (Drive.awaitNeeds r v h body recs key release d).fixed.kept = d.fixed.kept := by
  unfold Drive.awaitNeeds
  simp

@[simp] theorem Drive.refuseAt_kept (r) (st) (d : Drive) : (Drive.refuseAt r st d).fixed.kept = d.fixed.kept := by
  unfold Drive.refuseAt
  simp

@[simp] theorem putRequest_kept (o) (d : Drive) : (putRequest o d).fixed.kept = d.fixed.kept := by
  unfold putRequest
  refine Drive.withReq_kept (fun r d => ?_) ..
  obtain ⟨checks, hchecks⟩ : ∃ f, Drive.checks69 = f := ⟨_, rfl⟩
  rw [hchecks]
  extract_lets +onlyGivenNames tenant
  split
  · simp
  split
  · simp
  extract_lets +onlyGivenNames ns
  split
  · simp
  · simp
  split
  · rfl
  split
  · simp
  split
  · rfl
  split
  · simp
  · rename_i h
    simp [Drive.drawNonce_kept h]

@[simp] theorem Drive.readHeader_kept (o) (h) (total) (d : Drive) : (Drive.readHeader o h total d).fixed.kept = d.fixed.kept := by
  unfold Drive.readHeader
  split <;> simp

@[simp] theorem Drive.readChunk_kept (o) (i) (bytes) (d : Drive) : (Drive.readChunk o i bytes d).fixed.kept = d.fixed.kept := by
  unfold Drive.readChunk
  split <;> simp

@[simp] theorem Drive.readTrailer_kept (o) (status) (recon) (rep) (chunk) (total) (d : Drive) :
    (Drive.readTrailer o status recon rep chunk total d).fixed.kept = d.fixed.kept := by
  unfold Drive.readTrailer
  dsimp only
  repeat' split
  all_goals simp

@[simp] theorem sendChunks_kept (o) (value) (lo) (hi) (n) (n') (d : Drive) : (sendChunks o value lo hi n n' d).fixed.kept = d.fixed.kept := by
  induction n generalizing n' d with
  | zero => rfl
  | succ n ih => simp [sendChunks, ih]

@[simp] theorem issueReads_kept (l) (d : Drive) : (issueReads l d).fixed.kept = d.fixed.kept := (issueReads_frame ..).kept rfl rfl

@[simp] theorem Drive.putStream_kept (s) (d : Drive) : (Drive.putStream s d).fixed.kept = d.fixed.kept := by
  unfold Drive.putStream
  simp

@[simp] theorem Drive.issueChunk_kept (s) (d : Drive) : (Drive.issueChunk s d).fixed.kept = d.fixed.kept := by
  unfold Drive.issueChunk
  simp

@[simp] theorem reissue_kept (place) (l) (d : Drive) : (reissue place l d).fixed.kept = d.fixed.kept := by
  induction l generalizing d with
  | nil => rfl
  | cons x l ih => simp [reissue, ih]

@[simp] theorem Drive.dropStream_kept (o) (d : Drive) : (Drive.dropStream o d).fixed.kept = d.fixed.kept := by
  unfold Drive.dropStream
  split <;> simp

@[simp] theorem Drive.refuseRead_kept (r) (status) (d : Drive) (version) : (Drive.refuseRead r status d version).fixed.kept = d.fixed.kept := by
  unfold Drive.refuseRead
  simp

@[simp] theorem Drive.endRead_kept (s) (status) (chunk) (d : Drive) : (Drive.endRead s status chunk d).fixed.kept = d.fixed.kept := by
  unfold Drive.endRead
  simp

@[simp] theorem Drive.beginRead_kept (r) (rec_) (place) (lo) (hi) (h) (d : Drive) :
    (Drive.beginRead r rec_ place lo hi h d).fixed.kept = d.fixed.kept := by
  unfold Drive.beginRead
  simp
  split <;> simp

@[simp] theorem Drive.purgeTombs_fixed (d : Drive) : (Drive.purgeTombs d).fixed = d.fixed := by
  unfold Drive.purgeTombs
  simp

@[simp] theorem keyedRead_kept (o) (opcode) (d : Drive) : (keyedRead o opcode d).fixed.kept = d.fixed.kept := by
  unfold keyedRead
  refine Drive.withReq_kept (fun r d => ?_) ..
  dsimp only
  repeat' split
  all_goals simp

@[simp] theorem getRequest_kept (o) (d : Drive) : (getRequest o d).fixed.kept = d.fixed.kept := by
  unfold getRequest
  simp

@[simp] theorem getRangeRequest_kept (o) (d : Drive) : (getRangeRequest o d).fixed.kept = d.fixed.kept := by
  unfold getRangeRequest
  simp

@[simp] theorem existsRequest_kept (o) (d : Drive) : (existsRequest o d).fixed.kept = d.fixed.kept := by
  unfold existsRequest
  simp

@[simp] theorem Drive.endList_kept (r) (items) (cut) (d : Drive) : (Drive.endList r items cut d).fixed.kept = d.fixed.kept := by
  unfold Drive.endList
  simp

@[simp] theorem listNext_kept (r) (n) (c) (d : Drive) : (listNext r n c d).fixed.kept = d.fixed.kept := by
  induction n generalizing c d with
  | zero => rfl
  | succ n ih =>
    rw [listNext]
    split
    · simp
    split
    · simp
    split
    · exact ih ..
    split
    · exact ih ..
    · simp [ih]
    · simp

@[simp] theorem listRequest_kept (o) (d : Drive) : (listRequest o d).fixed.kept = d.fixed.kept := by
  unfold listRequest
  refine Drive.withReq_kept (fun r d => ?_) ..
  dsimp only
  repeat' split
  all_goals simp

@[simp] theorem settleAll_kept (l) (d : Drive) : (settleAll l d).fixed.kept = d.fixed.kept := by
  induction l generalizing d with
  | nil => rfl
  | cons x l ih => simp [settleAll, ih]

@[simp] theorem commitWaitExpiry_kept (version) (d : Drive) : (commitWaitExpiry version d).fixed.kept = d.fixed.kept := by
  unfold commitWaitExpiry
  simp

@[simp] theorem supersedeConfirm_kept (nsId) (key) (d : Drive) : (supersedeConfirm nsId key d).fixed.kept = d.fixed.kept := by
  unfold supersedeConfirm
  split <;> simp

@[simp] theorem pingRequest_kept (o) (d : Drive) : (pingRequest o d).fixed.kept = d.fixed.kept := by
  unfold pingRequest
  refine Drive.withReq_kept (fun r d => ?_) ..
  simp
  split <;> simp

@[simp] theorem Drive.fwdWatch_kept (d : Drive) : (Drive.fwdWatch d).fixed.kept = d.fixed.kept := by
  unfold Drive.fwdWatch
  simp

@[simp] theorem Drive.markValue_kept (p) (r) (d : Drive) : (Drive.markValue p r d).fixed.kept = d.fixed.kept := by
  unfold Drive.markValue
  split <;> simp

@[simp] theorem locChecked_kept {serve : Req → Token → Drive → Drive} (hf : ∀ r t d, (serve r t d).fixed.kept = d.fixed.kept) (o) (op) (d : Drive) :
    (locChecked o op serve d).fixed.kept = d.fixed.kept := by
  unfold locChecked
  refine Drive.withReq_kept (fun r d => ?_) ..
  dsimp only
  split
  · simp
  · simp [hf]

@[simp] theorem Drive.mapLookup_kept (sb) (gran) (d : Drive) : (Drive.mapLookup sb gran d).fixed.kept = d.fixed.kept := by
  unfold Drive.mapLookup
  simp

@[simp] theorem locGetRequest_kept (o) (d : Drive) : (locGetRequest o d).fixed.kept = d.fixed.kept := by
  unfold locGetRequest
  refine locChecked_kept (fun r x d => ?_) ..
  dsimp only
  repeat' split
  all_goals simp

@[simp] theorem relocAckRequest_kept (o) (d : Drive) : (relocAckRequest o d).fixed.kept = d.fixed.kept := by
  unfold relocAckRequest
  refine Drive.withReq_kept (fun r d => ?_) ..
  dsimp only
  split <;> simp

@[simp] theorem roomForAll_fixed (ms) (d : Drive) : (roomForAll ms d).2.fixed = d.fixed := by
  unfold roomForAll
  dsimp only
  split
  · rfl
  · generalize hl : (List.zipIdx _ : List ((Member × Bool) × Nat)) = l
    have hkept : ∀ (f : List (Option Nat) × Drive → (Member × Bool) × Nat → List (Option Nat) × Drive),
        (∀ a p, (f a p).2.fixed = a.2.fixed) → ∀ a, (l.foldl f a).2.fixed = a.2.fixed := by
      intro f hf
      clear hl
      induction l with
      | nil => exact fun _ => rfl
      | cons p l ih => exact fun a => (ih _).trans (hf a p)
    split <;> (refine hkept _ (fun a p => ?_) _; split <;> simp)

@[simp] theorem Drive.applyRec_fixed (r) (pending) (mirrorOp) (d : Drive) : (Drive.applyRec r pending mirrorOp d).2.fixed = d.fixed := by
  unfold Drive.applyRec
  simp

@[simp] theorem applyAll_fixed (pending) (mirrorOp) (l) (d : Drive) : (applyAll pending mirrorOp l d).fixed = d.fixed := by
  induction l generalizing d with
  | nil => rfl
  | cons x l ih => simp [applyAll, ih]

@[simp] theorem drawAll_fixed (l) (d : Drive) : (drawAll l d).fixed = d.fixed := by
  induction l generalizing d with
  | nil => rfl
  | cons x l ih => simp [drawAll, ih]

@[simp] theorem Drive.nextTxn_kept (d : Drive) : (Drive.nextTxn d).2.fixed.kept = d.fixed.kept := by
  unfold Drive.nextTxn
  simp

@[simp] theorem Drive.batchFail_fixed (r) (rs) (d : Drive) : (Drive.batchFail r rs d).fixed = d.fixed := by
  unfold Drive.batchFail
  simp

@[simp] theorem Drive.batchRefuse_fixed (r) (st) (d : Drive) : (Drive.batchRefuse r st d).fixed = d.fixed := by
  unfold Drive.batchRefuse
  simp

@[simp] theorem Drive.batchWhole_fixed (r) (st) (d : Drive) (detail) : (Drive.batchWhole r st d detail).fixed = d.fixed := by
  unfold Drive.batchWhole
  simp

@[simp] theorem Drive.refuseAny_fixed (r) (st) (d : Drive) (detail) : (Drive.refuseAny r st d detail).fixed = d.fixed := by
  unfold Drive.refuseAny
  simp

@[simp] theorem Drive.forwardMember_fixed (r) (m) (i) (d : Drive) : (Drive.forwardMember r m i d).fixed = d.fixed := by
  unfold Drive.forwardMember
  simp

@[simp] theorem Drive.endBatch_fixed (r) (d : Drive) : (Drive.endBatch r d).fixed = d.fixed := by
  unfold Drive.endBatch
  simp

@[simp] theorem Drive.unwrapEvent_kept (st) (d : Drive) : (Drive.unwrapEvent st d).fixed.kept = d.fixed.kept := by
  unfold Drive.unwrapEvent
  simp

@[simp] theorem closeReplies_kept (l) (d : Drive) : (closeReplies l d).fixed.kept = d.fixed.kept := by
  induction l generalizing d with
  | nil => rfl
  | cons o l ih =>
    rw [closeReplies, ih]
    split <;> simp

@[simp] theorem Drive.endSession_kept (sid) (cause) (d : Drive) : (Drive.endSession sid cause d).fixed.kept = d.fixed.kept := by
  unfold Drive.endSession
  simp
  split <;> simp

@[simp] theorem noticeAll_kept (sid) (l) (d : Drive) : (noticeAll sid l d).fixed.kept = d.fixed.kept := by
  induction l generalizing d with
  | nil => rfl
  | cons x l ih => simp [noticeAll, ih]

@[simp] theorem Drive.repostRelocations_kept (sid) (tenant) (d : Drive) : (Drive.repostRelocations sid tenant d).fixed.kept = d.fixed.kept := by
  unfold Drive.repostRelocations
  simp

@[simp] theorem Drive.openSession_kept (sid) (tenant) (rid) (b) (p) (d : Drive) :
    (Drive.openSession sid tenant rid b p d).2.fixed.kept = d.fixed.kept := by
  unfold Drive.openSession
  simp

@[simp] theorem Drive.countType_kept (d : Drive) : (Drive.countType d).fixed.kept = d.fixed.kept := by
  unfold Drive.countType
  simp

@[simp] theorem Drive.countAuth_kept (d : Drive) : (Drive.countAuth d).fixed.kept = d.fixed.kept := by
  unfold Drive.countAuth
  simp

@[simp] theorem openFrame_kept (f) (b) (p) (d : Drive) : (openFrame f b p d).fixed.kept = d.fixed.kept := by
  unfold openFrame
  simp
  split <;> simp

@[simp] theorem sessionOpenRequest_kept (o) (b) (p) (d : Drive) : (sessionOpenRequest o b p d).fixed.kept = d.fixed.kept := by
  unfold sessionOpenRequest
  refine Drive.withReq_kept (fun r d => ?_) ..
  dsimp only
  repeat' split
  all_goals simp

@[simp] theorem sessionCloseRequest_kept (o) (d : Drive) : (sessionCloseRequest o d).fixed.kept = d.fixed.kept := by
  unfold sessionCloseRequest
  refine Drive.withReq_kept (fun r d => ?_) ..
  simp

@[simp] theorem sessionRekeyRequest_kept (o) (b) (d : Drive) : (sessionRekeyRequest o b d).fixed.kept = d.fixed.kept := by
  unfold sessionRekeyRequest
  refine Drive.withReq_kept (fun r d => ?_) ..
  simp
  split <;> simp

@[simp] theorem Drive.pathVerified_kept (sid) (p) (source) (d : Drive) : (Drive.pathVerified sid p source d).fixed.kept = d.fixed.kept := by
  unfold Drive.pathVerified
  simp

@[simp] theorem Drive.pathDown_fixed (sid) (p) (d : Drive) : (Drive.pathDown sid p d).fixed = d.fixed := by
  unfold Drive.pathDown
  simp

@[simp] theorem Drive.throttle_kept (r) (reason) (hint) (d : Drive) : (Drive.throttle r reason hint d).fixed.kept = d.fixed.kept := by
  unfold Drive.throttle
  simp

@[simp] theorem Drive.enterRequest_kept (r) (d : Drive) : (Drive.enterRequest r d).fixed.kept = d.fixed.kept := by
  unfold Drive.enterRequest
  dsimp only
  split
  · simp
  split <;> simp

@[simp] theorem Drive.acceptRequest_kept (sid) (a) (d : Drive) : (Drive.acceptRequest sid a d).fixed.kept = d.fixed.kept := by
  unfold Drive.acceptRequest
  dsimp only
  split <;> simp

@[simp] theorem Drive.deliver_kept (sid) (f) (d : Drive) : (Drive.deliver sid f d).fixed.kept = d.fixed.kept := by
  unfold Drive.deliver
  simp
  split <;> simp

@[simp] theorem deliverRun_kept (sid) (n) (c) (d : Drive) : (deliverRun sid n c d).fixed.kept = d.fixed.kept := by
  induction n generalizing c d with
  | zero => rfl
  | succ n ih =>
    rw [deliverRun]
    split
    · simp [ih]
    · simp

@[simp] theorem Drive.takeAck_kept (f) (d : Drive) : (Drive.takeAck f d).fixed.kept = d.fixed.kept := by
  unfold Drive.takeAck
  simp

@[simp] theorem Drive.arriving_kept {k : Drive → Drive} (hf : ∀ d, (k d).fixed.kept = d.fixed.kept) (f) (t) (d : Drive) :
    (d.arriving f t k).fixed.kept = d.fixed.kept := by
  unfold Drive.arriving
  dsimp only
  simp [hf]

@[simp] theorem dataFrame_kept (f) (d : Drive) : (dataFrame f d).fixed.kept = d.fixed.kept := by
  unfold dataFrame
  rw [Drive.arriving_kept (fun d => ?_), Drive.awaken_fixed]
  dsimp only
  simp

@[simp] theorem Drive.reopenWindow_kept (sid) (d : Drive) : (Drive.reopenWindow sid d).fixed.kept = d.fixed.kept := by
  unfold Drive.reopenWindow
  simp

@[simp] theorem ackFrame_kept (f) (d : Drive) : (ackFrame f d).fixed.kept = d.fixed.kept := by
  unfold ackFrame
  refine Drive.arriving_kept (fun d => ?_) ..
  simp

@[simp] theorem Drive.onSession_kept {f : Session → Drive → Drive} (hf : ∀ s d, (f s d).fixed.kept = d.fixed.kept) (sid) (states) (d : Drive) :
    (d.onSession sid states f).fixed.kept = d.fixed.kept := by
  unfold Drive.onSession
  simp [hf]

@[simp] theorem ackDelayExpiry_kept (sid) (d : Drive) : (ackDelayExpiry sid d).fixed.kept = d.fixed.kept := by
  unfold ackDelayExpiry
  refine Drive.onSession_kept (fun r d => ?_) ..
  split <;> simp

@[simp] theorem retransmissionTimeout_kept (sid) (p) (d : Drive) : (retransmissionTimeout sid p d).fixed.kept = d.fixed.kept := by
  unfold retransmissionTimeout
  refine Drive.onSession_kept (fun r d => ?_) ..
  split <;> simp

@[simp] theorem keepAlive_kept (sid) (p) (d : Drive) : (keepAlive sid p d).fixed.kept = d.fixed.kept := by
  unfold keepAlive
  refine Drive.onSession_kept (fun r d => ?_) ..
  simp

@[simp] theorem idleTimeout_kept (sid) (d : Drive) : (idleTimeout sid d).fixed.kept = d.fixed.kept := by
  unfold idleTimeout
  refine Drive.onSession_kept (fun r d => ?_) ..
  simp

@[simp] theorem openingTimeout_kept (sid) (d : Drive) : (openingTimeout sid d).fixed.kept = d.fixed.kept := by
  unfold openingTimeout
  refine Drive.onSession_kept (fun r d => ?_) ..
  simp

@[simp] theorem drainComplete_kept (sid) (d : Drive) : (drainComplete sid d).fixed.kept = d.fixed.kept := by
  unfold drainComplete
  refine Drive.onSession_kept (fun r d => ?_) ..
  simp

@[simp] theorem drainingTimeout_kept (sid) (d : Drive) : (drainingTimeout sid d).fixed.kept = d.fixed.kept := by
  unfold drainingTimeout
  refine Drive.onSession_kept (fun r d => ?_) ..
  simp

@[simp] theorem windowReopenAck_kept (sid) (d : Drive) : (windowReopenAck sid d).fixed.kept = d.fixed.kept := by
  unfold windowReopenAck
  refine Drive.onSession_kept (fun r d => ?_) ..
  simp

@[simp] theorem pathSilence_kept (sid) (p) (d : Drive) : (pathSilence sid p d).fixed.kept = d.fixed.kept := by
  unfold pathSilence
  refine Drive.onSession_kept (fun r d => ?_) ..
  simp

@[simp] theorem rekeyRequired_kept (sid) (inbound) (d : Drive) : (rekeyRequired sid inbound d).fixed.kept = d.fixed.kept := by
  unfold rekeyRequired
  simp

@[simp] theorem sessionExhausted_kept (sid) (inbound) (d : Drive) : (sessionExhausted sid inbound d).fixed.kept = d.fixed.kept := by
  unfold sessionExhausted
  simp

@[simp] theorem keyPhaseRetire_kept (sid) (d : Drive) : (keyPhaseRetire sid d).fixed.kept = d.fixed.kept := by
  unfold keyPhaseRetire
  simp

@[simp] theorem Drive.sendChange_kept (c) (d : Drive) : (Drive.sendChange c d).2.fixed.kept = d.fixed.kept := by
  unfold Drive.sendChange
  simp

@[simp] theorem Drive.pendChange_kept (r) (c) (h) (body) (d : Drive) : (Drive.pendChange r c h body d).fixed.kept = d.fixed.kept := by
  unfold Drive.pendChange
  simp

@[simp] theorem completeChanges_fixed (l) (d : Drive) : (completeChanges l d).fixed = d.fixed := by
  induction l generalizing d with
  | nil => rfl
  | cons x l ih => simp [completeChanges, ih]

@[simp] theorem Drive.finishChanges_fixed (d : Drive) : (Drive.finishChanges d).fixed = d.fixed := by
  unfold Drive.finishChanges
  simp

@[simp] theorem Drive.vaultDone_kept (o) (d : Drive) : (Drive.vaultDone o d).fixed.kept = d.fixed.kept := by
  unfold Drive.vaultDone
  simp

@[simp] theorem Drive.optfStart_fixed (x) (d : Drive) : (Drive.optfStart x d).fixed = d.fixed := by
  unfold Drive.optfStart
  simp

@[simp] theorem Drive.optfWrite_fixed (x) (d : Drive) : (Drive.optfWrite x d).fixed = d.fixed := by
  unfold Drive.optfWrite
  split <;> simp

@[simp] theorem Drive.bankRead_fixed (bank) (d : Drive) : (Drive.bankRead bank d).fixed = d.fixed := by
  unfold Drive.bankRead
  simp

@[simp] theorem Drive.emitAll_kept (l) (d : Drive) : (Drive.emitAll l d).fixed.kept = d.fixed.kept := by
  unfold Drive.emitAll
  simp

@[simp] theorem Drive.optfRead_kept (bank) (bytes) (o) (d : Drive) : (Drive.optfRead bank bytes o d).fixed.kept = d.fixed.kept := by
  unfold Drive.optfRead
  split <;> simp

@[simp] theorem Drive.vaultPlace_kept (d : Drive) : (Drive.vaultPlace d).fixed.kept = d.fixed.kept := by
  unfold Drive.vaultPlace
  simp

@[simp] theorem Drive.vaultPut_kept (id) (k) (d : Drive) : (Drive.vaultPut id k d).fixed.kept = d.fixed.kept := by
  unfold Drive.vaultPut
  simp

@[simp] theorem Drive.vaultDel_kept (id) (d : Drive) : (Drive.vaultDel id d).fixed.kept = d.fixed.kept := by
  unfold Drive.vaultDel
  simp

@[simp] theorem Drive.vaultThen_kept (r) (h) (d : Drive) : (Drive.vaultThen r h d).fixed.kept = d.fixed.kept := by
  unfold Drive.vaultThen
  simp

@[simp] theorem Drive.pendLoad_kept (r) (c) (h) (d : Drive) : (Drive.pendLoad r c h d).fixed.kept = d.fixed.kept := by
  unfold Drive.pendLoad
  simp

@[simp] theorem revokeStreams_kept (p) (l) (d : Drive) : (revokeStreams p l d).fixed.kept = d.fixed.kept := by
  induction l generalizing d with
  | nil => rfl
  | cons s l ih =>
    rw [revokeStreams, ih]
    split
    · split <;> simp
    · rfl

@[simp] theorem revokeWrites_kept (p) (l) (d : Drive) : (revokeWrites p l d).fixed.kept = d.fixed.kept := by
  induction l generalizing d with
  | nil => rfl
  | cons x l ih => simp [revokeWrites, ih]

@[simp] theorem revokeBatches_kept (p) (l) (d : Drive) : (revokeBatches p l d).fixed.kept = d.fixed.kept := by
  induction l generalizing d with
  | nil => rfl
  | cons x l ih => simp [revokeBatches, ih]

@[simp] theorem Drive.stopHolly_kept (slot) (d : Drive) : (Drive.stopHolly slot d).fixed.kept = d.fixed.kept := by
  unfold Drive.stopHolly
  simp

@[simp] theorem Drive.dropCache_kept (p) (d : Drive) : (Drive.dropCache p d).fixed.kept = d.fixed.kept := by
  unfold Drive.dropCache
  simp

@[simp] theorem Drive.eraseStorage_kept (i) (d : Drive) : (Drive.eraseStorage i d).fixed.kept = d.fixed.kept := by
  unfold Drive.eraseStorage
  simp

@[simp] theorem Drive.eraseIn_kept (t) (states) (d : Drive) : (Drive.eraseIn t states d).2.fixed.kept = d.fixed.kept := by
  unfold Drive.eraseIn
  split <;> simp

@[simp] theorem Drive.eraseWrap_kept (t) (d : Drive) : (Drive.eraseWrap t d).2.fixed.kept = d.fixed.kept := by
  unfold Drive.eraseWrap
  split <;> simp

@[simp] theorem Drive.eraseBoth_kept (t) (d : Drive) : (Drive.eraseBoth t d).2.fixed.kept = d.fixed.kept := by
  unfold Drive.eraseBoth
  simp

@[simp] theorem endSessions_kept (cause) (l) (d : Drive) : (endSessions cause l d).fixed.kept = d.fixed.kept := by
  induction l generalizing d with
  | nil => rfl
  | cons x l ih => simp [endSessions, ih]

@[simp] theorem Drive.eraseBy_kept (sel) (t) (d : Drive) : (Drive.eraseBy sel t d).2.fixed.kept = d.fixed.kept := by
  unfold Drive.eraseBy
  split <;> simp

@[simp] theorem keyErase_kept (sel) (o) (d : Drive) : (keyErase sel o d).fixed.kept = d.fixed.kept := by
  unfold keyErase
  refine Drive.withReq_kept (fun r d => ?_) ..
  simp

@[simp] theorem Drive.setSys_fixed (n) (s) (d : Drive) : (Drive.setSys n s d).fixed = d.fixed := by
  unfold Drive.setSys
  simp

@[simp] theorem Drive.ownSlots_fixed (d : Drive) : (Drive.ownSlots d).fixed = d.fixed := by
  unfold Drive.ownSlots
  simp

@[simp] theorem Drive.ringSlots_kept (d : Drive) : (Drive.ringSlots d).fixed.kept = d.fixed.kept := by
  unfold Drive.ringSlots
  simp

@[simp] theorem keyEraseSystem_kept (o) (d : Drive) : (keyEraseSystem o d).fixed.kept = d.fixed.kept := by
  unfold keyEraseSystem
  refine Drive.withReq_kept (fun r d => ?_) ..
  simp

@[simp] theorem Drive.storeKey_kept (t) (i) (serial) (k) (d : Drive) : (Drive.storeKey t i serial k d).fixed.kept = d.fixed.kept := by
  unfold Drive.storeKey
  simp

@[simp] theorem Drive.doStorageLoad_kept (r) (b) (i) (d : Drive) : (Drive.doStorageLoad r b i d).fixed.kept = d.fixed.kept := by
  unfold Drive.doStorageLoad
  simp

@[simp] theorem keyLoad_kept (o) (b) (d : Drive) : (keyLoad o b d).fixed.kept = d.fixed.kept := by
  unfold keyLoad
  refine Drive.withReq_kept (fun r d => ?_) ..
  simp
  split <;> simp

@[simp] theorem storageLoadResume_kept (slot) (d : Drive) : (storageLoadResume slot d).fixed.kept = d.fixed.kept := by
  unfold storageLoadResume
  dsimp only
  split
  · simp
  split
  · simp
  split <;> simp

@[simp] theorem slotBufferRelease_kept (slot) (d : Drive) : (slotBufferRelease slot d).fixed.kept = d.fixed.kept := by
  unfold slotBufferRelease
  simp

@[simp] theorem Drive.someFailure_kept (d : Drive) : (Drive.someFailure d).2.fixed.kept = d.fixed.kept := by
  unfold Drive.someFailure
  simp

@[simp] theorem kekImport_kept (session) (index) (pkHash) (signatureOk) (b) (d : Drive) :
    (kekImport session index pkHash signatureOk b d).fixed.kept = d.fixed.kept := by
  unfold kekImport
  simp

@[simp] theorem Drive.revokeNs_kept (n) (d : Drive) : (Drive.revokeNs n d).fixed.kept = d.fixed.kept := by
  unfold Drive.revokeNs
  simp

@[simp] theorem Drive.dropFwd_kept (n) (d : Drive) : (Drive.dropFwd n d).fixed.kept = d.fixed.kept := by
  unfold Drive.dropFwd
  simp

@[simp] theorem Drive.dropDir_kept (p) (d : Drive) : (Drive.dropDir p d).fixed.kept = d.fixed.kept := by
  unfold Drive.dropDir
  rw [Drive.dirWatch_fixed]
  exact foldl_kept (fun _ _ => congrArg Fixed.kept (Drive.modNs_fixed ..)) ..

@[simp] theorem Drive.dropEntries_kept (n) (d : Drive) : (Drive.dropEntries n d).fixed.kept = d.fixed.kept := by
  unfold Drive.dropEntries
  simp

@[simp] theorem Drive.raiseGen_kept (n) (gen) (floor) (d : Drive) : (Drive.raiseGen n gen floor d).fixed.kept = d.fixed.kept := by
  unfold Drive.raiseGen
  simp

@[simp] theorem Drive.applyChange_kept (c) (d : Drive) : (Drive.applyChange c d).fixed.kept = d.fixed.kept := by
  unfold Drive.applyChange
  dsimp only
  repeat' split
  all_goals simp

@[simp] theorem Drive.change_kept (r) (c) (h) (b) (d : Drive) : (d.change r c h b).fixed.kept = d.fixed.kept := by
  unfold Drive.change
  simp

@[simp] theorem operatorOnly_kept {f : Req → Drive → Drive} (hf : ∀ r d, (f r d).fixed.kept = d.fixed.kept) (o) (op) (d : Drive) :
    (operatorOnly o op f d).fixed.kept = d.fixed.kept := by
  unfold operatorOnly
  refine Drive.withReq_kept (fun r d => ?_) ..
  simp [hf]

@[simp] theorem tenantCreate_kept (o) (d : Drive) : (tenantCreate o d).fixed.kept = d.fixed.kept := by
  unfold tenantCreate
  refine operatorOnly_kept (fun r d => ?_) ..
  simp

@[simp] theorem tenantDelete_kept (o) (d : Drive) : (tenantDelete o d).fixed.kept = d.fixed.kept := by
  unfold tenantDelete
  refine operatorOnly_kept (fun r d => ?_) ..
  simp

@[simp] theorem nsCreate_kept (o) (d : Drive) : (nsCreate o d).fixed.kept = d.fixed.kept := by
  unfold nsCreate
  refine operatorOnly_kept (fun r d => ?_) ..
  simp
  split <;> simp

@[simp] theorem stateAnswer_kept {k : Drive → Drive} (hf : ∀ d, (k d).fixed.kept = d.fixed.kept) (r) (st) (d : Drive) :
    (stateAnswer r st d k).fixed.kept = d.fixed.kept := by
  unfold stateAnswer
  simp [hf]

@[simp] theorem nsDelete_kept (o) (d : Drive) : (nsDelete o d).fixed.kept = d.fixed.kept := by
  unfold nsDelete
  refine operatorOnly_kept (fun r d => ?_) ..
  simp

@[simp] theorem nsModify_kept (b) (o) (d : Drive) : (nsModify b o d).fixed.kept = d.fixed.kept := by
  unfold nsModify
  refine operatorOnly_kept (fun r d => ?_) ..
  simp

@[simp] theorem nsInfo_kept (o) (d : Drive) : (nsInfo o d).fixed.kept = d.fixed.kept := by
  unfold nsInfo
  refine Drive.withReq_kept (fun r d => ?_) ..
  simp

@[simp] theorem sweepComplete_kept (n) (d : Drive) : (sweepComplete n d).fixed.kept = d.fixed.kept := by
  unfold sweepComplete
  simp

@[simp] theorem Drive.fromTwin_kept {k : Drive → Drive} (hf : ∀ d, (k d).fixed.kept = d.fixed.kept) (d : Drive) :
    (d.fromTwin k).fixed.kept = d.fixed.kept := by
  unfold Drive.fromTwin
  simp [hf]

@[simp] theorem Drive.fromTwinAwake_kept {k : Drive → Drive} (hf : ∀ d, (k d).fixed.kept = d.fixed.kept) (d : Drive) :
    (d.fromTwinAwake k).fixed.kept = d.fixed.kept := by
  unfold Drive.fromTwinAwake
  simp [Drive.fromTwin_kept hf]

@[simp] theorem Drive.addForward_kept (opId) (aux) (tag) (h) (body) (d : Drive) :
    (Drive.addForward opId aux tag h body d).fixed.kept = d.fixed.kept := by
  unfold Drive.addForward
  simp

@[simp] theorem Drive.onceTwin_kept {k : Drive → Drive} (hf : ∀ d, (k d).fixed.kept = d.fixed.kept) (op) (d : Drive) :
    (d.onceTwin op k).fixed.kept = d.fixed.kept := by
  unfold Drive.onceTwin
  split <;> simp [hf]

@[simp] theorem fwdRead_kept (opId) (aux) (tag) (h) (body) (d : Drive) : (fwdRead opId aux tag h body d).fixed.kept = d.fixed.kept := by
  unfold fwdRead
  refine Drive.fromTwinAwake_kept (fun d => Drive.onceTwin_kept (fun d => ?_) ..) _
  dsimp only
  repeat' split
  all_goals simp

@[simp] theorem fwdData_kept (opId) (chunk) (bytes) (d : Drive) : (fwdData opId chunk bytes d).fixed.kept = d.fixed.kept := by
  unfold fwdData
  refine Drive.fromTwinAwake_kept (fun d => ?_) ..
  split <;> simp

@[simp] theorem Drive.grantUsed_kept (recs) (d : Drive) : (Drive.grantUsed recs d).fixed.kept = d.fixed.kept := by
  unfold Drive.grantUsed
  simp

@[simp] theorem Drive.clearPending_kept (recs) (d : Drive) : (Drive.clearPending recs d).fixed.kept = d.fixed.kept := by
  unfold Drive.clearPending
  simp

@[simp] theorem Drive.clearAllPending_fixed (d : Drive) : (Drive.clearAllPending d).fixed = d.fixed := by
  unfold Drive.clearAllPending
  simp

@[simp] theorem Drive.release_fixed (txn) (coordinator) (d : Drive) : (Drive.release txn coordinator d).fixed = d.fixed := by
  unfold Drive.release
  simp

@[simp] theorem Drive.ownOutcomes_kept (r) (tenant) (ms) (mine) (d : Drive) : (Drive.ownOutcomes r tenant ms mine d).2.fixed.kept = d.fixed.kept := by
  unfold Drive.ownOutcomes
  simp

@[simp] theorem prepareMsg_kept (opId) (txn) (tag) (h) (body) (seals) (d : Drive) :
    (prepareMsg opId txn tag h body seals d).fixed.kept = d.fixed.kept := by
  unfold prepareMsg
  refine Drive.fromTwinAwake_kept (fun d => ?_) ..
  simp

@[simp] theorem Drive.abortTxn_kept {k : Drive → Drive} (hf : ∀ d, (k d).fixed.kept = d.fixed.kept) (r) (d : Drive) :
    (d.abortTxn r k).fixed.kept = d.fixed.kept := by
  unfold Drive.abortTxn
  simp [hf]

@[simp] theorem Drive.unknownTxn_kept (txn) (d : Drive) : (Drive.unknownTxn txn d).fixed.kept = d.fixed.kept := by
  unfold Drive.unknownTxn
  split <;> simp

@[simp] theorem refusedMsg_kept (txn) (d : Drive) : (refusedMsg txn d).fixed.kept = d.fixed.kept := by
  unfold refusedMsg
  refine Drive.fromTwinAwake_kept (fun d => ?_) ..
  split <;> simp

@[simp] theorem Drive.drawOwn_fixed (ms) (d : Drive) : (Drive.drawOwn ms d).fixed = d.fixed := by
  unfold Drive.drawOwn
  simp

@[simp] theorem abortMsg_kept (txn) (d : Drive) : (abortMsg txn d).fixed.kept = d.fixed.kept := by
  unfold abortMsg
  refine Drive.fromTwinAwake_kept (fun d => ?_) ..
  simp

@[simp] theorem Drive.finishTxn_fixed (r) (d : Drive) : (Drive.finishTxn r d).fixed = d.fixed := by
  unfold Drive.finishTxn
  simp

@[simp] theorem committedMsg_kept (txn) (d : Drive) : (committedMsg txn d).fixed.kept = d.fixed.kept := by
  unfold committedMsg
  refine Drive.fromTwinAwake_kept (fun d => ?_) ..
  split <;> simp

@[simp] theorem prepareTimeout_kept (txn) (d : Drive) : (prepareTimeout txn d).fixed.kept = d.fixed.kept := by
  unfold prepareTimeout
  split <;> simp

@[simp] theorem refuseAll_fixed (p) (st) (l) (d : Drive) : (refuseAll p st l d).fixed = d.fixed := by
  induction l generalizing d with
  | nil => rfl
  | cons x l ih => simp [refuseAll, ih]

@[simp] theorem noLease_fixed (l) (d : Drive) : (noLease l d).fixed = d.fixed := by
  induction l generalizing d with
  | nil => rfl
  | cons x l ih => simp [noLease, ih]

@[simp] theorem Drive.seekLease_kept (d : Drive) : (Drive.seekLease d).fixed.kept = d.fixed.kept := by
  unfold Drive.seekLease
  simp

@[simp] theorem Drive.leaveJoining_kept (d : Drive) : (Drive.leaveJoining d).fixed.kept = d.fixed.kept := by
  unfold Drive.leaveJoining
  simp

@[simp] theorem joiningTimeout_kept (d : Drive) : (joiningTimeout d).fixed.kept = d.fixed.kept := by
  unfold joiningTimeout
  simp

@[simp] theorem Drive.steer_kept (offset) (d : Drive) : (Drive.steer offset d).fixed.kept = d.fixed.kept := by
  unfold Drive.steer
  simp

@[simp] theorem heartbeatMsg_kept (seq) (tick) (lastSeq) (lOwn) (offset) (d : Drive) :
    (heartbeatMsg seq tick lastSeq lOwn offset d).fixed.kept = d.fixed.kept := by
  unfold heartbeatMsg
  refine Drive.fromTwin_kept (fun d => ?_) ..
  simp

@[simp] theorem Drive.dropPrepared_fixed (d : Drive) : (Drive.dropPrepared d).fixed = d.fixed := by
  unfold Drive.dropPrepared
  simp

@[simp] theorem Drive.fencedOutcomes_fixed (d : Drive) : (Drive.fencedOutcomes d).fixed = d.fixed := by
  unfold Drive.fencedOutcomes
  simp

@[simp] theorem Drive.becomeFenced_fixed (d : Drive) : (Drive.becomeFenced d).fixed = d.fixed := by
  unfold Drive.becomeFenced
  simp

@[simp] theorem resendAll_kept (l) (d : Drive) : (resendAll l d).fixed.kept = d.fixed.kept := by
  induction l generalizing d with
  | nil => rfl
  | cons x l ih => simp [resendAll, ih]

@[simp] theorem resendErases_kept (l) (d : Drive) : (resendErases l d).fixed.kept = d.fixed.kept := by
  induction l generalizing d with
  | nil => rfl
  | cons o l ih =>
    rw [resendErases, ih]
    split <;> simp

@[simp] theorem twinLinkUp_kept (serial) (authOk) (unpaired) (empty) (secret) (d : Drive) :
    (twinLinkUp serial authOk unpaired empty secret d).fixed.kept = d.fixed.kept := by
  unfold twinLinkUp
  simp

@[simp] theorem takeCounts_kept (l) (d : Drive) : (takeCounts l d).fixed.kept = d.fixed.kept := by
  induction l generalizing d with
  | nil => rfl
  | cons c l ih =>
    rw [takeCounts, ih]
    split <;> simp

@[simp] theorem Drive.askTwinRoll_kept (d : Drive) : (Drive.askTwinRoll d).fixed.kept = d.fixed.kept := by
  unfold Drive.askTwinRoll
  simp

@[simp] theorem Drive.enterPaired_kept (d : Drive) : (Drive.enterPaired d).fixed.kept = d.fixed.kept := by
  unfold Drive.enterPaired
  simp

@[simp] theorem Drive.beginResync_kept (d : Drive) : (Drive.beginResync d).fixed.kept = d.fixed.kept := by
  unfold Drive.beginResync
  dsimp only
  split <;> simp

@[simp] theorem tellPrepared_kept (l) (d : Drive) : (tellPrepared l d).fixed.kept = d.fixed.kept := by
  induction l generalizing d with
  | nil => rfl
  | cons p l ih =>
    rw [tellPrepared, ih]
    split <;> simp

@[simp] theorem finishDecided_kept (l) (d : Drive) : (finishDecided l d).fixed.kept = d.fixed.kept := by
  induction l generalizing d with
  | nil => rfl
  | cons x l ih => simp [finishDecided, ih]

@[simp] theorem helloMsg_kept (h) (lacks) (d : Drive) : (helloMsg h lacks d).fixed.kept = d.fixed.kept := by
  unfold helloMsg
  refine Drive.fromTwinAwake_kept (fun d => ?_) ..
  simp

@[simp] theorem takeRow_kept (d : Drive) (x) : (takeRow d x).fixed.kept = d.fixed.kept := by
  unfold takeRow
  simp

@[simp] theorem dropRow_kept (d : Drive) (n) : (dropRow d n).fixed.kept = d.fixed.kept := by
  unfold dropRow
  simp

@[simp] theorem Drive.takeTables_kept (t) (d : Drive) : (Drive.takeTables t d).fixed.kept = d.fixed.kept := by
  unfold Drive.takeTables
  simp

@[simp] theorem raiseNonce_kept (d : Drive) (p) : (raiseNonce d p).fixed.kept = d.fixed.kept := by
  unfold raiseNonce
  simp

@[simp] theorem raiseCounter_kept (d : Drive) (p) : (raiseCounter d p).fixed.kept = d.fixed.kept := by
  unfold raiseCounter
  simp

@[simp] theorem Drive.discardChange_kept (d : Drive) (c) : (Drive.discardChange d c).fixed.kept = d.fixed.kept := by
  unfold Drive.discardChange
  dsimp only
  split <;> simp

@[simp] theorem Drive.enterRange_kept (d : Drive) : (Drive.enterRange d).fixed.kept = d.fixed.kept := by
  unfold Drive.enterRange
  simp

@[simp] theorem tellZero_kept (l) (d : Drive) : (tellZero l d).fixed.kept = d.fixed.kept := by
  induction l generalizing d with
  | nil => rfl
  | cons x l ih => simp [tellZero, ih]

@[simp] theorem Drive.sendFetch_kept (s) (d : Drive) : (Drive.sendFetch s d).fixed.kept = d.fixed.kept := by
  unfold Drive.sendFetch
  simp

@[simp] theorem sendFetches_kept (l) (d : Drive) : (sendFetches l d).fixed.kept = d.fixed.kept := by
  induction l generalizing d with
  | nil => rfl
  | cons x l ih => simp [sendFetches, ih]

@[simp] theorem reserveReq_kept (granulesWanted) (entriesWanted) (d : Drive) :
    (reserveReq granulesWanted entriesWanted d).fixed.kept = d.fixed.kept := by
  unfold reserveReq
  refine Drive.fromTwinAwake_kept (fun d => ?_) ..
  simp

@[simp] theorem reserveGrant_kept (g) (e) (d : Drive) : (reserveGrant g e d).fixed.kept = d.fixed.kept := by
  unfold reserveGrant
  refine Drive.fromTwinAwake_kept (fun d => ?_) ..
  simp

@[simp] theorem chunkFetch_kept (opId) (ns) (tag) (version) (chunk) (verifies) (d : Drive) :
    (chunkFetch opId ns tag version chunk verifies d).fixed.kept = d.fixed.kept := by
  unfold chunkFetch
  refine Drive.fromTwinAwake_kept (fun d => ?_) ..
  simp

@[simp] theorem Drive.sanitiseHere_kept (n) (d : Drive) : (Drive.sanitiseHere n d).fixed.kept = d.fixed.kept := by
  unfold Drive.sanitiseHere
  exact map_getD_kept fun p hp => Drive.startJob_kept hp

@[simp] theorem tableChangeMsg_kept (opId) (seq) (c) (d : Drive) : (tableChangeMsg opId seq c d).fixed.kept = d.fixed.kept := by
  unfold tableChangeMsg
  refine Drive.fromTwinAwake_kept (fun d => ?_) _
  split
  · simp
  · cases sanitised c d <;> simp

@[simp] theorem tableAckMsg_kept (opId) (seq) (d : Drive) : (tableAckMsg opId seq d).fixed.kept = d.fixed.kept := by
  unfold tableAckMsg
  refine Drive.fromTwinAwake_kept (fun d => ?_) ..
  simp

@[simp] theorem Drive.newPairKeys_kept (d : Drive) : (Drive.newPairKeys d).fixed.kept = d.fixed.kept := by
  unfold Drive.newPairKeys
  simp

@[simp] theorem adoptTwin_kept (o) (d : Drive) : (adoptTwin o d).fixed.kept = d.fixed.kept := by
  unfold adoptTwin
  refine Drive.withReq_kept (fun r d => ?_) ..
  simp

@[simp] theorem Drive.adopted_kept (a) (d : Drive) : (Drive.adopted a d).fixed.kept = d.fixed.kept := by
  unfold Drive.adopted
  simp

@[simp] theorem twinAdopt_kept (o) (items) (d : Drive) : (twinAdopt o items d).fixed.kept = d.fixed.kept := by
  unfold twinAdopt
  split <;> simp

@[simp] theorem Drive.setServed_kept (pos) (w) (d : Drive) : (Drive.setServed pos w d).fixed.kept = d.fixed.kept := by
  unfold Drive.setServed
  simp

@[simp] theorem Drive.denyAlive_kept (pos) (d : Drive) : (Drive.denyAlive pos d).fixed.kept = d.fixed.kept := by
  unfold Drive.denyAlive
  simp

@[simp] theorem leaseReq_kept (src) (seq) (epoch) (d : Drive) : (leaseReq src seq epoch d).fixed.kept = d.fixed.kept := by
  unfold leaseReq
  refine Drive.fromRing_kept (fun d => ?_) ..
  simp

@[simp] theorem probeMsg_kept (src) (seq) (d : Drive) : (probeMsg src seq d).fixed.kept = d.fixed.kept := by
  unfold probeMsg
  refine Drive.fromRing_kept (fun d => ?_) ..
  simp

@[simp] theorem probeAnswer_kept (src) (seq) (d : Drive) : (probeAnswer src seq d).fixed.kept = d.fixed.kept := by
  unfold probeAnswer
  refine Drive.fromRing_kept (fun d => ?_) ..
  simp

@[simp] theorem witnessProbeTick_kept (pair) (d : Drive) : (witnessProbeTick pair d).fixed.kept = d.fixed.kept := by
  unfold witnessProbeTick
  split <;> simp

@[simp] theorem witnessGrantHold_kept (pos) (d : Drive) : (witnessGrantHold pos d).fixed.kept = d.fixed.kept := by
  unfold witnessGrantHold
  dsimp only
  split <;> simp

@[simp] theorem witnessFreezeEnd_kept (d : Drive) : (witnessFreezeEnd d).fixed.kept = d.fixed.kept := by
  unfold witnessFreezeEnd
  simp

@[simp] theorem clearMsg_kept (src) (seq) (d : Drive) : (clearMsg src seq d).fixed.kept = d.fixed.kept := by
  unfold clearMsg
  refine Drive.fromRing_kept (fun d => ?_) ..
  simp

@[simp] theorem leaseAssert_kept (src) (seq) (epoch) (d : Drive) : (leaseAssert src seq epoch d).fixed.kept = d.fixed.kept := by
  unfold leaseAssert
  refine Drive.fromRing_kept (fun d => ?_) ..
  simp

@[simp] theorem leaseRelease_kept (src) (seq) (d : Drive) : (leaseRelease src seq d).fixed.kept = d.fixed.kept := by
  unfold leaseRelease
  refine Drive.fromRing_kept (fun d => ?_) ..
  simp

@[simp] theorem leaseDeny_kept (src) (seq) (reason) (d : Drive) : (leaseDeny src seq reason d).fixed.kept = d.fixed.kept := by
  unfold leaseDeny
  refine Drive.fromRing_kept (fun d => ?_) ..
  simp

@[simp] theorem fencedNotice_kept (src) (seq) (d : Drive) : (fencedNotice src seq d).fixed.kept = d.fixed.kept := by
  unfold fencedNotice
  refine Drive.fromRing_kept (fun d => ?_) ..
  simp

@[simp] theorem leaseReqResend_kept (d : Drive) : (leaseReqResend d).fixed.kept = d.fixed.kept := by
  unfold leaseReqResend
  simp

@[simp] theorem clearSend_kept (d : Drive) : (clearSend d).fixed.kept = d.fixed.kept := by
  unfold clearSend
  simp

@[simp] theorem cleared_kept (src) (seq) (d : Drive) : (cleared src seq d).fixed.kept = d.fixed.kept := by
  unfold cleared
  refine Drive.fromRing_kept (fun d => ?_) ..
  simp

@[simp] theorem clearanceLapse_kept (d : Drive) : (clearanceLapse d).fixed.kept = d.fixed.kept := by
  unfold clearanceLapse
  simp

@[simp] theorem leaseAssertSend_kept (d : Drive) : (leaseAssertSend d).fixed.kept = d.fixed.kept := by
  unfold leaseAssertSend
  simp

@[simp] theorem witnessWrite_fixed (v) (d : Drive) : (witnessWrite v d).dev.fixed = d.fixed := by
  unfold witnessWrite
  simp

@[simp] theorem ringHello_kept (src) (east) (direct) (keyHash) (serial) (cycles) (random) (reach) (d : Drive) :
    (ringHello src east direct keyHash serial cycles random reach d).fixed.kept = d.fixed.kept := by
  unfold ringHello
  simp

/-- What a RING_HELLO does once its time has come: of the model's function all but the passing of time, whose literal the kernel would
count out where it checks the unfolded body. -/
def Drive.sayHello (d : Drive) : Drive :=
  let d := { d with ring.helloSent := d.now }
  let hello : Out := .ring 0x01 none 0
    [tgetD 32 0 d.ring.seqOut, d.mod.slotId, d.ident.serial, d.time.powerCycles, d.keys.ringRandom, d.operatorKeyHash, d.ringMap] []
  let d := { d with ring.seqOut := tmod 32 0 (· + 1) d.ring.seqOut }
  let d := if (d.prt 3).localUse = .used then ringTx true hello d else d
  if (d.prt 4).localUse = .used then ringTx false hello d else d

theorem ringHelloSend_eq (d : Drive) :
    ringHelloSend d = if !d.ringKeyed then d else (d.advanceTo (d.ring.helloSent + 1000000)).sayHello := rfl

theorem Drive.sayHello_fixed (d : Drive) : d.sayHello.fixed = d.fixed := by
  unfold Drive.sayHello
  simp

@[simp] theorem ringHelloSend_kept (d : Drive) : (ringHelloSend d).fixed.kept = d.fixed.kept := by
  rw [ringHelloSend_eq]
  split
  · rfl
  · rw [Drive.sayHello_fixed, Drive.advanceTo_fixed]

@[simp] theorem ringLinkLoss_kept (east) (d : Drive) : (ringLinkLoss east d).fixed.kept = d.fixed.kept := by
  unfold ringLinkLoss
  simp

@[simp] theorem forwardFrame_kept (f) (d : Drive) : (forwardFrame f d).fixed.kept = d.fixed.kept := by
  unfold forwardFrame
  simp
  split <;> simp

@[simp] theorem ringForward_kept (fs) (d : Drive) : (ringForward fs d).fixed.kept = d.fixed.kept := by
  unfold ringForward
  simp

@[simp] theorem shearsAdmit_kept (port) (d : Drive) : (shearsAdmit port d).fixed.kept = d.fixed.kept := by
  unfold shearsAdmit
  dsimp only
  split
  · simp
  split <;> simp

@[simp] theorem Drive.setPair_kept (p) (x) (d : Drive) : (Drive.setPair p x d).fixed.kept = d.fixed.kept := by
  unfold Drive.setPair
  simp

@[simp] theorem Drive.failInternal_kept (o) (d : Drive) : (Drive.failInternal o d).fixed.kept = d.fixed.kept := by
  unfold Drive.failInternal
  split <;> simp

@[simp] theorem hollyFail_kept (q) (d : Drive) : (hollyFail q d).fixed.kept = d.fixed.kept := by
  unfold hollyFail
  dsimp only
  repeat' split
  all_goals simp

@[simp] theorem hollyMismatch_kept (p) (q) (d : Drive) : (hollyMismatch p q d).fixed.kept = d.fixed.kept := by
  unfold hollyMismatch
  simp

@[simp] theorem giveHolly_kept (n) (d : Drive) : (giveHolly n d).fixed.kept = d.fixed.kept := by
  induction n generalizing d with
  | zero => rfl
  | succ n ih =>
    rw [giveHolly]
    split
    · rfl
    dsimp only
    split
    · simp [ih]
    split
    · rfl
    · exact ih _

@[simp] theorem hollyDispatch_kept (arrivals) (freed) (mismatch) (d : Drive) :
    (hollyDispatch arrivals freed mismatch d).fixed.kept = d.fixed.kept := by
  unfold hollyDispatch
  dsimp only
  split <;> simp

@[simp] theorem compatSuspend_kept (blocks) (d : Drive) : (compatSuspend blocks d).fixed.kept = d.fixed.kept := by
  unfold compatSuspend
  split <;> simp

@[simp] theorem compatResume_kept (resumeId) (unwraps) (tag) (d : Drive) : (compatResume resumeId unwraps tag d).fixed.kept = d.fixed.kept := by
  unfold compatResume
  simp

@[simp] theorem suspendComplete_kept (die) (d : Drive) : (suspendComplete die d).fixed.kept = d.fixed.kept := by
  unfold suspendComplete
  split <;> simp

@[simp] theorem busyWindowEntry_kept (die) (d : Drive) : (busyWindowEntry die d).fixed.kept = d.fixed.kept := by
  unfold busyWindowEntry
  split
  · simp
  split <;> simp

@[simp] theorem eraseWindowEnd_kept (die) (d : Drive) : (eraseWindowEnd die d).fixed.kept = d.fixed.kept := by
  unfold eraseWindowEnd
  split <;> simp

@[simp] theorem starvationGuardTrip_kept (die) (d : Drive) : (starvationGuardTrip die d).fixed.kept = d.fixed.kept := by
  unfold starvationGuardTrip
  split <;> simp

@[simp] theorem reconInterval_kept (d : Drive) : (reconInterval d).fixed.kept = d.fixed.kept := by
  unfold reconInterval
  simp

theorem Drive.issueProgram_kept {job} {sb} {gran} {d : Drive} {z : Drive} (h : (Drive.issueProgram job sb gran d) = some z) :
    z.fixed.kept = d.fixed.kept := (Drive.issueProgram_frame (h := h) ..).kept rfl rfl

@[simp] theorem Drive.sbState_kept (sb) (state) (d : Drive) : (Drive.sbState sb state d).fixed.kept = d.fixed.kept := by
  unfold Drive.sbState
  simp

@[simp] theorem eraseBlocks_kept (sb) (l) (d : Drive) : (eraseBlocks sb l d).fixed.kept = d.fixed.kept := by
  induction l generalizing d with
  | nil => rfl
  | cons x l ih => simp [eraseBlocks, ih]

@[simp] theorem advanceErases_kept (l) (d : Drive) : (advanceErases l d).fixed.kept = d.fixed.kept := by
  induction l generalizing d with
  | nil => rfl
  | cons x l ih => simp [advanceErases, ih]

@[simp] theorem Drive.finishClip_kept (sb) (d : Drive) : (Drive.finishClip sb d).fixed.kept = d.fixed.kept := by
  unfold Drive.finishClip
  split
  · rfl
  split
  · rfl
  · exact (Drive.sbState_kept ..).trans (foldl_kept (fun _ _ => congrArg Fixed.kept (Drive.modNs_fixed ..)) ..)

@[simp] theorem advanceClip_kept (sb) (n) (d : Drive) : (advanceClip sb n d).fixed.kept = d.fixed.kept := by
  induction n generalizing d with
  | zero => simp [advanceClip]
  | succ n ih =>
    rw [advanceClip]
    split
    · rfl
    dsimp only
    split
    · simp
    split
    · simp [ih]
    split
    · rfl
    split
    · rfl
    · rename_i ha
      split
      · rfl
      · rename_i hi
        simp [ih, Drive.issueProgram_kept hi, Drive.allocate_kept ha]

@[simp] theorem advanceRepairs_kept (l) (d : Drive) : (advanceRepairs l d).fixed.kept = d.fixed.kept := by
  induction l generalizing d with
  | nil => rfl
  | cons x l ih =>
    obtain ⟨r, sb, gran⟩ := x
    rw [advanceRepairs, ih]
    dsimp only
    split
    · simp
    split
    · rfl
    split
    · rfl
    · rename_i ha
      split
      · rfl
      · rename_i hi
        simp [Drive.issueProgram_kept hi, Drive.allocate_kept ha]

@[simp] theorem Drive.advanceMedia_kept (d : Drive) : (Drive.advanceMedia d).fixed.kept = d.fixed.kept := by
  unfold Drive.advanceMedia
  simp

@[simp] theorem Drive.moveRec_kept (sb) (gran) (sb1) (gran1) (r) (d : Drive) : (Drive.moveRec sb gran sb1 gran1 r d).fixed.kept = d.fixed.kept := by
  unfold Drive.moveRec
  simp

@[simp] theorem programmedReqs_kept (v) (l) (d : Drive) : (programmedReqs v l d).fixed.kept = d.fixed.kept := by
  induction l generalizing d with
  | nil => rfl
  | cons x l ih => simp [programmedReqs, ih]

@[simp] theorem Drive.shelfDone_kept (idx) (sb) (gran) (d : Drive) : (Drive.shelfDone idx sb gran d).fixed.kept = d.fixed.kept := by
  unfold Drive.shelfDone
  dsimp only
  repeat' split
  all_goals simp

@[simp] theorem shelfDrain_kept (d : Drive) : (shelfDrain d).fixed.kept = d.fixed.kept := by
  unfold shelfDrain
  obtain ⟨full, hfull⟩ : ∃ b, decide (d.media.shelfLimitMiB * 2 ^ 20 ≤ 2 * d.shelfUsed) = b := ⟨_, rfl⟩
  rw [hfull]
  extract_lets +onlyGivenNames busy
  split
  · rfl
  extract_lets +onlyGivenNames g
  split
  · exact getD_kept fun z hz => Drive.issueProgram_kept hz
  extract_lets +onlyGivenNames full' burst qlc
  have hburst : ∀ p z, burst = some (p, z) → z.fixed.kept = d.fixed.kept := fun p z hz => by
    rcases ite_eq_iff.mp hz with ⟨-, hz⟩ | ⟨-, hz⟩
    · exact Drive.allocate_kept hz
    · exact absurd hz (by simp)
  have hqlc : ∀ p z, qlc = some (p, z) → z.fixed.kept = d.fixed.kept := fun p z hz => by
    rcases ite_eq_iff.mp hz with ⟨-, hz⟩ | ⟨-, hz⟩
    · exact absurd hz (by simp)
    · exact Drive.allocate_kept hz
  have hroom : ∀ p z, burst.orElse (fun _ => qlc) = some (p, z) → z.fixed.kept = d.fixed.kept := fun p z hz => by
    rcases orElse_some hz with hz | hz
    · exact hburst _ _ hz
    · exact hqlc _ _ hz
  clear_value burst qlc
  split
  · rfl
  · rename_i ha
    split
    · rfl
    · rename_i hi
      exact (Drive.kept_of_eq rfl rfl).trans ((Drive.issueProgram_kept hi).trans (hroom _ _ ha))

@[simp] theorem programDone_kept (job) (sb) (gran) (d : Drive) : (programDone job sb gran d).fixed.kept = d.fixed.kept := by
  unfold programDone
  split <;> simp

@[simp] theorem runVerified_kept (l) (d : Drive) : (runVerified l d).fixed.kept = d.fixed.kept := by
  induction l generalizing d with
  | nil => rfl
  | cons x l ih => simp [runVerified, ih]

@[simp] theorem programComplete_kept (die) (d : Drive) : (programComplete die d).fixed.kept = d.fixed.kept := by
  unfold programComplete
  dsimp only
  split
  · simp
  split
  · simp
  split <;> simp

@[simp] theorem Drive.blockErased_kept (sb) (d : Drive) : (Drive.blockErased sb d).fixed.kept = d.fixed.kept := by
  unfold Drive.blockErased
  simp

@[simp] theorem eraseComplete_kept (die) (d : Drive) : (eraseComplete die d).fixed.kept = d.fixed.kept := by
  unfold eraseComplete
  split <;> simp

@[simp] theorem Drive.shrinkBurst_kept (d : Drive) : (Drive.shrinkBurst d).fixed.kept = d.fixed.kept := by
  unfold Drive.shrinkBurst
  simp

@[simp] theorem Drive.spareWatch_kept (d : Drive) : (Drive.spareWatch d).fixed.kept = d.fixed.kept := by
  unfold Drive.spareWatch
  simp

theorem Drive.takeSubstitute_kept {sb} {d : Drive} {y} {z : Drive} (h : (Drive.takeSubstitute sb d) = some (y, z)) : z.fixed.kept = d.fixed.kept := by
  unfold Drive.takeSubstitute at h
  dsimp only at h
  split at h
  · obtain ⟨-, rfl⟩ : _ ∧ _ = z := by simpa using h
    simp
  split at h
  · simp at h
  · obtain ⟨p, -, heq⟩ := Option.map_eq_some_iff.mp h
    obtain ⟨-, rfl⟩ : _ ∧ _ = z := by simpa using heq
    simp

theorem Drive.retireBlock_kept {sb} {channel} {d : Drive} {y} {z : Drive} (h : (Drive.retireBlock sb channel d) = some (y, z)) :
    z.fixed.kept = d.fixed.kept := by
  unfold Drive.retireBlock at h
  obtain ⟨⟨p, w⟩, hw, heq⟩ := Option.map_eq_some_iff.mp h
  obtain ⟨-, rfl⟩ : _ ∧ _ = z := by simpa using heq
  simp [Drive.takeSubstitute_kept hw]

@[simp] theorem programFail_kept (die) (d : Drive) : (programFail die d).fixed.kept = d.fixed.kept := by
  unfold programFail
  split
  · rfl
  split
  · rfl
  split
  · rfl
  · rename_i h
    dsimp only
    split
    · simp [Drive.retireBlock_kept h]
    · split <;> simp [Drive.retireBlock_kept h]

@[simp] theorem eraseFail_kept (die) (d : Drive) : (eraseFail die d).fixed.kept = d.fixed.kept := by
  unfold eraseFail
  split
  · rfl
  split
  · rfl
  split
  · rfl
  · rename_i h
    simp [Drive.retireBlock_kept h]

@[simp] theorem markBad_kept (sb) (l) (d : Drive) : (markBad sb l d).fixed.kept = d.fixed.kept := by
  induction l generalizing d with
  | nil => rfl
  | cons x l ih => simp [markBad, ih]

@[simp] theorem Drive.beginClip_kept (sb) (fold) (bad) (d : Drive) : (Drive.beginClip sb fold bad d).fixed.kept = d.fixed.kept := by
  unfold Drive.beginClip
  simp

@[simp] theorem clipVictimSelect_kept (bad) (d : Drive) : (clipVictimSelect bad d).fixed.kept = d.fixed.kept := by
  unfold clipVictimSelect
  split <;> simp

@[simp] theorem folding_kept (bad) (d : Drive) : (folding bad d).fixed.kept = d.fixed.kept := by
  unfold folding
  dsimp only
  split <;> simp

@[simp] theorem recalibrate_kept (sb) (l) (d : Drive) : (recalibrate sb l d).fixed.kept = d.fixed.kept := by
  induction l generalizing d with
  | nil => rfl
  | cons x l ih => simp [recalibrate, ih]

@[simp] theorem patrolVisit_kept (sb) (cws) (d : Drive) : (patrolVisit sb cws d).fixed.kept = d.fixed.kept := by
  unfold patrolVisit
  simp

@[simp] theorem patrolLate_kept (sb) (d : Drive) : (patrolLate sb d).fixed.kept = d.fixed.kept := by
  unfold patrolLate
  simp

@[simp] theorem healthWearUpdate_kept (d : Drive) : (healthWearUpdate d).fixed.kept = d.fixed.kept := by
  unfold healthWearUpdate
  obtain ⟨f, hf⟩ : ∃ f, Drive.advanceTo = f := ⟨_, rfl⟩
  have h := Drive.advanceTo_fixed ((d.now / 60000000000 + 1) * 60000000000) d
  rw [hf] at h ⊢
  simp [h]

@[simp] theorem Drive.rerunRead_kept (r) (d : Drive) : (Drive.rerunRead r d).fixed.kept = d.fixed.kept := by
  unfold Drive.rerunRead
  split <;> simp

@[simp] theorem listRead_kept (r) (s) (unreadable) (d : Drive) : (listRead r s unreadable d).fixed.kept = d.fixed.kept := by
  unfold listRead
  dsimp only
  split
  · simp
  split <;> simp

@[simp] theorem Drive.ifCurrent_kept {k : Drive → Drive} (hf : ∀ d, (k d).fixed.kept = d.fixed.kept) (s) (r) (d : Drive) :
    (d.ifCurrent s r k).fixed.kept = d.fixed.kept := by
  unfold Drive.ifCurrent
  simp [hf]

@[simp] theorem headerGood_kept (s) (d : Drive) : (headerGood s d).fixed.kept = d.fixed.kept := by
  unfold headerGood
  split
  · simp
  split
  · simp
  · refine Drive.ifCurrent_kept (fun d => ?_) ..
    split <;> simp

@[simp] theorem releaseChunk_kept (s) (d : Drive) : (releaseChunk s d).fixed.kept = d.fixed.kept := by
  unfold releaseChunk
  simp

@[simp] theorem chunkGood_kept (s) (d : Drive) : (chunkGood s d).fixed.kept = d.fixed.kept := by
  unfold chunkGood
  simp
  split <;> simp

@[simp] theorem Drive.writeRepair_kept (s) (d : Drive) : (Drive.writeRepair s d).fixed.kept = d.fixed.kept := by
  unfold Drive.writeRepair
  split <;> simp

@[simp] theorem ladderEnds_kept {out : Stream → Drive → Drive} (hf : ∀ s d, (out s d).fixed.kept = d.fixed.kept) (s) (d : Drive) :
    (ladderEnds s out d).fixed.kept = d.fixed.kept := by
  unfold ladderEnds
  refine foldl_kept (fun d x => ?_) ..
  simp [hf]

@[simp] theorem ladderOk_kept (s) (d : Drive) : (ladderOk s d).fixed.kept = d.fixed.kept := by
  unfold ladderOk
  simp

@[simp] theorem endAuthFail_kept (s) (d : Drive) : (endAuthFail s d).fixed.kept = d.fixed.kept := by
  unfold endAuthFail
  split <;> simp

@[simp] theorem Drive.markCurrent_kept (s) (d : Drive) : (Drive.markCurrent s d).fixed.kept = d.fixed.kept := by
  unfold Drive.markCurrent
  dsimp only
  split <;> simp

@[simp] theorem ladderFail_kept (s) (d : Drive) : (ladderFail s d).fixed.kept = d.fixed.kept := by
  unfold ladderFail
  rw [ladderEnds_kept (fun s d => endAuthFail_kept s d)]
  simp

@[simp] theorem ladderFetch_kept (s) (d : Drive) : (ladderFetch s d).fixed.kept = d.fixed.kept := by
  unfold ladderFetch
  simp

@[simp] theorem ladderNext_kept (s) (d : Drive) : (ladderNext s d).fixed.kept = d.fixed.kept := by
  unfold ladderNext
  split <;> simp

@[simp] theorem pageDone_kept (o) (good) (recon) (verified) (d : Drive) : (pageDone o good recon verified d).fixed.kept = d.fixed.kept := by
  unfold pageDone
  split <;> simp

@[simp] theorem rebuildDone_kept (j) (verified) (d : Drive) : (rebuildDone j verified d).fixed.kept = d.fixed.kept := by
  unfold rebuildDone
  split <;> simp

@[simp] theorem sourceDone_kept (s) (bad) (verified) (d : Drive) : (sourceDone s bad verified d).fixed.kept = d.fixed.kept := by
  unfold sourceDone
  split <;> simp

@[simp] theorem arrayReadComplete_kept (o) (chunk) (gran) (src) (cws) (verified) (d : Drive) :
    (arrayReadComplete o chunk gran src cws verified d).fixed.kept = d.fixed.kept := by
  unfold arrayReadComplete
  split <;> simp

@[simp] theorem chunkData_kept (opId) (body) (verifies) (d : Drive) : (chunkData opId body verifies d).fixed.kept = d.fixed.kept := by
  unfold chunkData
  refine Drive.fromTwin_kept (fun d => ?_) ..
  dsimp only
  split <;> simp

@[simp] theorem chunkFetchTimeout_kept (opId) (d : Drive) : (chunkFetchTimeout opId d).fixed.kept = d.fixed.kept := by
  unfold chunkFetchTimeout
  split <;> simp

@[simp] theorem loseDie_kept (l) (d : Drive) : (loseDie l d).fixed.kept = d.fixed.kept := by
  induction l generalizing d with
  | nil => rfl
  | cons x l ih => simp [loseDie, ih]

@[simp] theorem Drive.snapshot_kept (d : Drive) : (Drive.snapshot d).fixed.kept = d.fixed.kept := by
  unfold Drive.snapshot
  simp

@[simp] theorem sendAcks_kept (l) (d : Drive) : (sendAcks l d).fixed.kept = d.fixed.kept := by
  induction l generalizing d with
  | nil => rfl
  | cons x l ih => simp [sendAcks, ih]

@[simp] theorem Drive.openRoot_fixed (n) (d : Drive) : (Drive.openRoot n d).fixed = d.fixed := by
  unfold Drive.openRoot
  simp

@[simp] theorem Drive.writeRoot_fixed (clean) (d : Drive) : (Drive.writeRoot clean d).fixed = d.fixed := by
  unfold Drive.writeRoot
  simp

@[simp] theorem growMaps_kept (n) (d : Drive) : (growMaps n d).fixed.kept = d.fixed.kept := by
  induction n generalizing d with
  | zero => rfl
  | succ n ih =>
    rw [growMaps]
    split
    · rfl
    split
    · rfl
    · rename_i h
      simp [ih, Drive.openSb_kept h]

@[simp] theorem dropMaps_kept (n) (d : Drive) : (dropMaps n d).fixed.kept = d.fixed.kept := by
  induction n generalizing d with
  | zero => rfl
  | succ n ih =>
    rw [dropMaps]
    split
    · rfl
    split
    · rfl
    · simp [ih]

@[simp] theorem Drive.writeMaps_kept (d : Drive) : (Drive.writeMaps d).fixed.kept = d.fixed.kept := by
  unfold Drive.writeMaps
  simp

@[simp] theorem checkpoint_kept (d : Drive) : (checkpoint d).fixed.kept = d.fixed.kept := by
  unfold checkpoint
  simp

@[simp] theorem Drive.holdup_fixed (mj) (temp) (first) (d : Drive) : (Drive.holdup mj temp first d).fixed = d.fixed := by
  unfold Drive.holdup
  simp

@[simp] theorem holdupMeasure_kept (mj) (temp) (d : Drive) : (holdupMeasure mj temp d).fixed.kept = d.fixed.kept := by
  unfold holdupMeasure
  simp

@[simp] theorem Drive.police_kept (n) (len) (d : Drive) : (Drive.police n len d).2.fixed.kept = d.fixed.kept := by
  unfold Drive.police
  simp

@[simp] theorem Drive.privetCopy_kept (f) (c) (d : Drive) : (Drive.privetCopy f c d).fixed.kept = d.fixed.kept := by
  unfold Drive.privetCopy
  simp

@[simp] theorem Drive.applyAction_kept (f) (cls) (idx) (a) (c) (d : Drive) : (Drive.applyAction f cls idx a c d).2.fixed.kept = d.fixed.kept := by
  unfold Drive.applyAction
  simp

@[simp] theorem Drive.classify_kept (f) (d : Drive) : (Drive.classify f d).2.fixed.kept = d.fixed.kept := by
  unfold Drive.classify
  dsimp only
  split <;> simp

@[simp] theorem Drive.modPchan_fixed (ch) (f) (d : Drive) : (Drive.modPchan ch f d).fixed = d.fixed := by
  unfold Drive.modPchan
  simp

@[simp] theorem Drive.setPentry_fixed (sel) (e) (d : Drive) : (Drive.setPentry sel e d).fixed = d.fixed := by
  unfold Drive.setPentry
  dsimp only
  simp

@[simp] theorem Drive.tableChanged_fixed (cmd) (sel) (ch) (d : Drive) : (Drive.tableChanged cmd sel ch d).fixed = d.fixed := by
  unfold Drive.tableChanged
  simp

@[simp] theorem entryRead_fixed (ch) (d : Drive) : (entryRead ch d).dev.fixed = d.fixed := by
  unfold entryRead
  dsimp only
  repeat' split
  all_goals simp

@[simp] theorem entryWrite_fixed (ch) (d : Drive) : (entryWrite ch d).dev.fixed = d.fixed := by
  unfold entryWrite
  dsimp only
  split
  · simp
  split <;> simp

@[simp] theorem entryInvalidate_fixed (ch) (d : Drive) : (entryInvalidate ch d).dev.fixed = d.fixed := by
  unfold entryInvalidate
  dsimp only
  repeat' split
  all_goals simp

@[simp] theorem entryMove_fixed (ch) (d : Drive) : (entryMove ch d).dev.fixed = d.fixed := by
  unfold entryMove
  dsimp only
  split
  · simp
  split <;> simp

@[simp] theorem Drive.setAction_fixed (i) (a) (d : Drive) : (Drive.setAction i a d).fixed = d.fixed := by
  unfold Drive.setAction
  simp

@[simp] theorem actionRead_fixed (ch) (d : Drive) : (actionRead ch d).dev.fixed = d.fixed := by
  unfold actionRead
  simp

@[simp] theorem actionWrite_fixed (ch) (d : Drive) : (actionWrite ch d).dev.fixed = d.fixed := by
  unfold actionWrite
  simp

@[simp] theorem bankWidthWrite_fixed (v) (d : Drive) : (bankWidthWrite v d).dev.fixed = d.fixed := by
  unfold bankWidthWrite
  split <;> simp

@[simp] theorem Drive.setDefault_fixed (port) (a) (d : Drive) : (Drive.setDefault port a d).fixed = d.fixed := by
  unfold Drive.setDefault
  simp

@[simp] theorem defaultActionWrite_fixed (port) (a) (d : Drive) : (defaultActionWrite port a d).dev.fixed = d.fixed := by
  unfold defaultActionWrite
  simp

@[simp] theorem Drive.probeFound_fixed (ch) (hit) (multiple) (tie) (d : Drive) : (Drive.probeFound ch hit multiple tie d).fixed = d.fixed := by
  unfold Drive.probeFound
  simp

@[simp] theorem probeFirst_fixed (ch) (d : Drive) : (probeFirst ch d).dev.fixed = d.fixed := by
  unfold probeFirst
  dsimp only
  split <;> simp

@[simp] theorem probeNext_fixed (ch) (d : Drive) : (probeNext ch d).dev.fixed = d.fixed := by
  unfold probeNext
  dsimp only
  split <;> simp

@[simp] theorem scrubEntries_kept (l) (d : Drive) : (scrubEntries l d).fixed.kept = d.fixed.kept := by
  induction l generalizing d with
  | nil => rfl
  | cons x l ih => simp [scrubEntries, ih]

@[simp] theorem scrubActions_kept (l) (d : Drive) : (scrubActions l d).fixed.kept = d.fixed.kept := by
  induction l generalizing d with
  | nil => rfl
  | cons x l ih => simp [scrubActions, ih]

@[simp] theorem scrubDefault_kept (port) (d : Drive) : (scrubDefault port d).fixed.kept = d.fixed.kept := by
  unfold scrubDefault
  simp

@[simp] theorem loseEntries_kept (l) (d : Drive) : (loseEntries l d).fixed.kept = d.fixed.kept := by
  induction l generalizing d with
  | nil => rfl
  | cons x l ih => simp [loseEntries, ih]

@[simp] theorem loseActions_kept (l) (d : Drive) : (loseActions l d).fixed.kept = d.fixed.kept := by
  induction l generalizing d with
  | nil => rfl
  | cons x l ih => simp [loseActions, ih]

@[simp] theorem privetScrub_kept (upsets) (actionUpsets) (lost) (lostActions) (d : Drive) :
    (privetScrub upsets actionUpsets lost lostActions d).fixed.kept = d.fixed.kept := by
  unfold privetScrub
  simp

@[simp] theorem Drive.negotiate_fixed (p) (d : Drive) : (Drive.negotiate p d).fixed = d.fixed := by
  unfold Drive.negotiate
  simp

@[simp] theorem pathsDown_fixed (p) (l) (d : Drive) : (pathsDown p l d).fixed = d.fixed := by
  induction l generalizing d with
  | nil => rfl
  | cons x l ih => simp [pathsDown, ih]

@[simp] theorem Drive.linkLost_fixed (p) (d : Drive) : (Drive.linkLost p d).fixed = d.fixed := by
  unfold Drive.linkLost
  simp

@[simp] theorem autonegComplete_kept (p) (partner) (d : Drive) : (autonegComplete p partner d).fixed.kept = d.fixed.kept := by
  unfold autonegComplete
  simp
  split <;> simp

@[simp] theorem trainingComplete_kept (p) (trained) (d : Drive) : (trainingComplete p trained d).fixed.kept = d.fixed.kept := by
  unfold trainingComplete
  simp
  split <;> simp

@[simp] theorem linkDown_kept (p) (cause) (hiSer) (d : Drive) : (linkDown p cause hiSer d).fixed.kept = d.fixed.kept := by
  unfold linkDown
  simp
  split <;> simp

@[simp] theorem holdoffExpiry_kept (p) (d : Drive) : (holdoffExpiry p d).fixed.kept = d.fixed.kept := by
  unfold holdoffExpiry
  simp

@[simp] theorem trainingFail_kept (p) (trained) (d : Drive) : (trainingFail p trained d).fixed.kept = d.fixed.kept := by
  unfold trainingFail
  simp
  split <;> simp

@[simp] theorem Drive.retrain_fixed (p) (requester) (d : Drive) : (Drive.retrain p requester d).fixed = d.fixed := by
  unfold Drive.retrain
  simp

@[simp] theorem speedFallbackExpiry_kept (p) (speed) (d : Drive) : (speedFallbackExpiry p speed d).fixed.kept = d.fixed.kept := by
  unfold speedFallbackExpiry
  split <;> simp

@[simp] theorem portCtl_fixed (ch) (p) (v) (d : Drive) : (portCtl ch p v d).dev.fixed = d.fixed := by
  unfold portCtl
  simp

@[simp] theorem portRetrain_kept (ch) (p) (d : Drive) : (portRetrain ch p d).dev.fixed.kept = d.fixed.kept := by
  unfold portRetrain
  simp

@[simp] theorem portEnableWrite_kept (ch) (p) (on) (d : Drive) : (portEnableWrite ch p on d).dev.fixed.kept = d.fixed.kept := by
  unfold portEnableWrite
  simp

@[simp] theorem Drive.modIface_fixed (p) (vid) (f) (d : Drive) : (Drive.modIface p vid f d).fixed = d.fixed := by
  unfold Drive.modIface
  simp

@[simp] theorem Drive.fwSend_fixed (p) (vid) (proto) (what) (cast) (args) (len) (d : Drive) :
    (Drive.fwSend p vid proto what cast args len d).fixed = d.fixed := by
  unfold Drive.fwSend
  simp

@[simp] theorem beginDetection_fixed (p) (vid) (v6) (a) (d : Drive) : (beginDetection p vid v6 a d).fixed = d.fixed := by
  unfold beginDetection
  simp

@[simp] theorem linkUp_kept (p) (d : Drive) : (linkUp p d).fixed.kept = d.fixed.kept := by
  unfold linkUp
  simp

@[simp] theorem ifaceWrite_fixed (p) (vid) (n) (d : Drive) : (ifaceWrite p vid n d).fixed = d.fixed := by
  unfold ifaceWrite
  simp

@[simp] theorem addressClear_kept (p) (vid) (v6) (a) (d : Drive) : (addressClear p vid v6 a d).fixed.kept = d.fixed.kept := by
  unfold addressClear
  simp

@[simp] theorem Drive.addressConflict_kept (p) (vid) (v6) (a) (d : Drive) : (Drive.addressConflict p vid v6 a d).fixed.kept = d.fixed.kept := by
  unfold Drive.addressConflict
  simp

@[simp] theorem Drive.overflow_kept (p) (ring) (mid) (d : Drive) : (Drive.overflow p ring mid d).fixed.kept = d.fixed.kept := by
  unfold Drive.overflow
  simp

@[simp] theorem Drive.toRing_kept (p) (ring) (c) (d : Drive) : (Drive.toRing p ring c d).2.fixed.kept = d.fixed.kept := by
  unfold Drive.toRing
  simp

@[simp] theorem Drive.protoToken_kept (p) (k) (d : Drive) : (Drive.protoToken p k d).2.fixed.kept = d.fixed.kept := by
  unfold Drive.protoToken
  simp

@[simp] theorem Drive.truncCaptured_kept (f) (d : Drive) : (Drive.truncCaptured f d).fixed.kept = d.fixed.kept := by
  unfold Drive.truncCaptured
  simp

@[simp] theorem Drive.delivered_kept (f) (ring) (d : Drive) : (Drive.delivered f ring d).fixed.kept = d.fixed.kept := by
  unfold Drive.delivered
  simp

@[simp] theorem Drive.unserved_kept (p) (ring) (cls) (d : Drive) : (Drive.unserved p ring cls d).fixed.kept = d.fixed.kept := by
  unfold Drive.unserved
  simp

@[simp] theorem Drive.fecCount_kept (p) (e) (d : Drive) : (Drive.fecCount p e d).fixed.kept = d.fixed.kept := by
  unfold Drive.fecCount
  simp

@[simp] theorem frameReceive_kept (f) (d : Drive) : (frameReceive f d).fixed.kept = d.fixed.kept := by
  unfold frameReceive
  dsimp only
  repeat' split
  all_goals simp

@[simp] theorem arpFrame_kept (f) (d : Drive) : (arpFrame f d).fixed.kept = d.fixed.kept := by
  unfold arpFrame
  simp

@[simp] theorem ndFrame_kept (f) (d : Drive) : (ndFrame f d).fixed.kept = d.fixed.kept := by
  unfold ndFrame
  simp
  split <;> simp

@[simp] theorem icmpEcho_kept (p) (vid) (v6) (source) (payload) (d : Drive) : (icmpEcho p vid v6 source payload d).fixed.kept = d.fixed.kept := by
  unfold icmpEcho
  simp

@[simp] theorem dhcpMessage_kept (m) (d : Drive) : (dhcpMessage m d).fixed.kept = d.fixed.kept := by
  unfold dhcpMessage
  simp

@[simp] theorem dhcpLeaseLost_kept (p) (vid) (v6) (d : Drive) : (dhcpLeaseLost p vid v6 d).fixed.kept = d.fixed.kept := by
  unfold dhcpLeaseLost
  split <;> simp

@[simp] theorem lldpFrame_kept (p) (chassisKind) (portKind) (chassis) (portId) (d : Drive) :
    (lldpFrame p chassisKind portKind chassis portId d).fixed.kept = d.fixed.kept := by
  unfold lldpFrame
  simp

@[simp] theorem Drive.lldpSend_kept (p) (d : Drive) : (Drive.lldpSend p d).fixed.kept = d.fixed.kept := by
  unfold Drive.lldpSend
  simp

@[simp] theorem lldpTransmit_kept (d : Drive) : (lldpTransmit d).fixed.kept = d.fixed.kept := by
  unfold lldpTransmit
  simp

@[simp] theorem Drive.txStamp_kept (p) (vid) (kind) (seq) (d : Drive) : (Drive.txStamp p vid kind seq d).fixed.kept = d.fixed.kept := by
  unfold Drive.txStamp
  simp

@[simp] theorem txtsRead_kept (p) (d : Drive) : (txtsRead p d).fixed.kept = d.fixed.kept := by
  unfold txtsRead
  simp
  split <;> simp

@[simp] theorem statsModeWrite_fixed (p) (v) (d : Drive) : (statsModeWrite p v d).dev.fixed = d.fixed := by
  unfold statsModeWrite
  simp

@[simp] theorem Drive.withTrust_fixed {k : Drive → Drive} (hf : ∀ d, (k d).fixed = d.fixed) (d : Drive) : (d.withTrust k).fixed = d.fixed := by
  unfold Drive.withTrust
  dsimp only
  simp [hf]

@[simp] theorem Drive.stepWall_fixed (theta) (d : Drive) : (Drive.stepWall theta d).fixed = d.fixed := by
  unfold Drive.stepWall
  simp

@[simp] theorem Drive.slew_fixed (d : Drive) : (Drive.slew d).fixed = d.fixed := by
  unfold Drive.slew
  simp

@[simp] theorem Drive.measure_kept (theta) (d : Drive) : (Drive.measure theta d).fixed.kept = d.fixed.kept := by
  unfold Drive.measure
  simp

@[simp] theorem Drive.follow_fixed (src) (d : Drive) : (Drive.follow src d).fixed = d.fixed := by
  unfold Drive.follow
  refine Drive.withTrust_fixed (fun d => ?_) ..
  simp

@[simp] theorem Drive.qualify_kept (src) (d : Drive) : (Drive.qualify src d).fixed.kept = d.fixed.kept := by
  unfold Drive.qualify
  simp

@[simp] theorem Drive.enterHoldover_fixed (d : Drive) : (Drive.enterHoldover d).fixed = d.fixed := by
  unfold Drive.enterHoldover
  simp

@[simp] theorem Drive.loseSource_kept (src) (d : Drive) : (Drive.loseSource src d).fixed.kept = d.fixed.kept := by
  unfold Drive.loseSource
  simp
  split <;> simp

@[simp] theorem Drive.settleHoldover_fixed (d : Drive) : (Drive.settleHoldover d).fixed = d.fixed := by
  unfold Drive.settleHoldover
  simp

@[simp] theorem Drive.reselect_fixed (d : Drive) : (Drive.reselect d).fixed = d.fixed := by
  unfold Drive.reselect
  split
  · split <;> simp
  split
  · rfl
  · split <;> simp

@[simp] theorem sourceLost_kept (src) (d : Drive) : (sourceLost src d).fixed.kept = d.fixed.kept := by
  unfold sourceLost
  simp

@[simp] theorem sourceChange_kept (src) (d : Drive) : (sourceChange src d).fixed.kept = d.fixed.kept := by
  unfold sourceChange
  split <;> simp

@[simp] theorem holdoverTrustLost_kept (d : Drive) : (holdoverTrustLost d).fixed.kept = d.fixed.kept := by
  unfold holdoverTrustLost
  simp

@[simp] theorem wallSet_fixed (seconds) (ns) (d : Drive) : (wallSet seconds ns d).dev.fixed = d.fixed := by
  unfold wallSet
  simp

@[simp] theorem optimeReservation_kept (d : Drive) : (optimeReservation d).fixed.kept = d.fixed.kept := by
  unfold optimeReservation
  simp

@[simp] theorem Drive.takeUtc_kept (utc) (leap61) (leap59) (d : Drive) : (Drive.takeUtc utc leap61 leap59 d).fixed.kept = d.fixed.kept := by
  unfold Drive.takeUtc
  simp

@[simp] theorem Drive.todUtc_kept (m) (d : Drive) : (Drive.todUtc m d).fixed.kept = d.fixed.kept := by
  unfold Drive.todUtc
  simp

@[simp] theorem todMessage_kept (msg) (d : Drive) : (todMessage msg d).fixed.kept = d.fixed.kept := by
  unfold todMessage
  split <;> simp

@[simp] theorem ppsInEdge_kept (opNs) (d : Drive) : (ppsInEdge opNs d).fixed.kept = d.fixed.kept := by
  unfold ppsInEdge
  obtain ⟨f, hf⟩ : ∃ f, Drive.advanceTo = f := ⟨_, rfl⟩
  have h := Drive.advanceTo_fixed opNs d
  rw [hf] at h ⊢
  extract_lets +onlyGivenNames d1 spaced agrees named src d2 d3 d4
  have h2 : d2.fixed = d.fixed := h
  have h3 : d3.fixed = d2.fixed := by
    dsimp only [d3]
    split
    · simp
    · rfl
  have h4 : d4.fixed.kept = d3.fixed.kept := by
    dsimp only [d4]
    split
    · simp
    · rfl
  clear_value d4 d3 d2 agrees spaced named
  split
  · rw [Drive.loseSource_kept, h3, h2]
  · split
    · split
      · rw [Drive.measure_kept, Drive.todUtc_kept, h4, h3, h2]
      · rw [h4, h3, h2]
    · rw [h4, h3, h2]

@[simp] theorem ppsOutEdge_kept (d : Drive) : (ppsOutEdge d).fixed.kept = d.fixed.kept := by
  unfold ppsOutEdge
  simp

@[simp] theorem leapSecond_kept (d : Drive) : (leapSecond d).fixed.kept = d.fixed.kept := by
  unfold leapSecond
  simp

@[simp] theorem Drive.modPtp_kept (p) (f) (d : Drive) : (Drive.modPtp p f d).fixed.kept = d.fixed.kept := by
  unfold Drive.modPtp
  simp

@[simp] theorem Drive.ptpSend_kept (p) (vid) (kind) (seq) (args) (d : Drive) : (Drive.ptpSend p vid kind seq args d).fixed.kept = d.fixed.kept := by
  unfold Drive.ptpSend
  simp

@[simp] theorem ptpSendAll_kept (p) (kind) (seq) (args) (l) (d : Drive) : (ptpSendAll p kind seq args l d).fixed.kept = d.fixed.kept := by
  induction l generalizing d with
  | nil => rfl
  | cons x l ih => simp [ptpSendAll, ih]

@[simp] theorem ptpMessage_kept (m) (d : Drive) : (ptpMessage m d).fixed.kept = d.fixed.kept := by
  unfold ptpMessage
  dsimp only
  repeat' split
  all_goals simp

@[simp] theorem ptpIntervalTransmit_kept (p) (kind) (d : Drive) : (ptpIntervalTransmit p kind d).fixed.kept = d.fixed.kept := by
  unfold ptpIntervalTransmit
  simp

@[simp] theorem Drive.closeEpisode_fixed (d : Drive) : (Drive.closeEpisode d).fixed = d.fixed := by
  unfold Drive.closeEpisode
  split
  · rfl
  dsimp only
  split
  · rfl
  · split
    · split <;> simp
    · simp

@[simp] theorem Drive.groupWritten_kept (d : Drive) : (Drive.groupWritten d).fixed.kept = d.fixed.kept := by
  unfold Drive.groupWritten
  simp

@[simp] theorem logGroupWritten_kept (d : Drive) : (logGroupWritten d).fixed.kept = d.fixed.kept := by
  unfold logGroupWritten
  simp

@[simp] theorem stagingFlush_kept (d : Drive) : (stagingFlush d).fixed.kept = d.fixed.kept := by
  unfold stagingFlush
  split <;> simp

@[simp] theorem flushAll_kept (n) (d : Drive) : (flushAll n d).fixed.kept = d.fixed.kept := by
  induction n generalizing d with
  | zero => rfl
  | succ n ih => simp [flushAll, ih]

@[simp] theorem logFreeze_kept (o) (d : Drive) : (logFreeze o d).fixed.kept = d.fixed.kept := by
  unfold logFreeze
  refine Drive.withReq_kept (fun r d => ?_) ..
  simp
  split <;> simp

@[simp] theorem Drive.thaw_kept (cause) (d : Drive) : (Drive.thaw cause d).fixed.kept = d.fixed.kept := by
  unfold Drive.thaw
  simp

@[simp] theorem logThaw_kept (o) (d : Drive) : (logThaw o d).fixed.kept = d.fixed.kept := by
  unfold logThaw
  refine Drive.withReq_kept (fun r d => ?_) ..
  simp

@[simp] theorem logFreezeTimeout_kept (d : Drive) : (logFreezeTimeout d).fixed.kept = d.fixed.kept := by
  unfold logFreezeTimeout
  simp

@[simp] theorem logCtl_fixed (v) (d : Drive) : (logCtl v d).dev.fixed = d.fixed := by
  unfold logCtl
  simp

@[simp] theorem Drive.setLogChan_fixed (ch) (x) (d : Drive) : (Drive.setLogChan ch x d).fixed = d.fixed := by
  unfold Drive.setLogChan
  simp

@[simp] theorem windowLoad_fixed (ch) (hi) (lo) (d : Drive) : (windowLoad ch hi lo d).dev.fixed = d.fixed := by
  unfold windowLoad
  simp

@[simp] theorem Drive.dropHeld_fixed (ch) (d : Drive) : (Drive.dropHeld ch d).fixed = d.fixed := by
  unfold Drive.dropHeld
  simp

@[simp] theorem logWindowLoad_kept (ch) (hi) (d : Drive) : (logWindowLoad ch hi d).dev.fixed.kept = d.fixed.kept := by
  unfold logWindowLoad
  simp

@[simp] theorem eventEnableWrite_fixed (i) (v) (d : Drive) : (eventEnableWrite i v d).dev.fixed = d.fixed := by
  unfold eventEnableWrite
  simp

@[simp] theorem healthSave_kept (d : Drive) : (healthSave d).fixed.kept = d.fixed.kept := by
  have hsaved : ∀ z : Drive, ({ ({ z with health.savedAt := z.now } : Drive) with
    healthSaved := ({ z with health.savedAt := z.now } : Drive).health } : Drive).fixed = z.fixed := fun _ => rfl
  exact congrArg Fixed.kept ((hsaved _).trans (Drive.advanceTo_fixed (d.health.savedAt + 600000000000) d))

@[simp] theorem tempBinMinute_kept (d : Drive) : (tempBinMinute d).fixed.kept = d.fixed.kept := by
  unfold tempBinMinute
  simp

@[simp] theorem Drive.approvedWatch_fixed (d : Drive) : (Drive.approvedWatch d).fixed = d.fixed := by
  unfold Drive.approvedWatch
  simp

@[simp] theorem drainShelf_kept (n) (d : Drive) : (drainShelf n d).fixed.kept = d.fixed.kept := by
  induction n generalizing d with
  | zero => rfl
  | succ n ih =>
    rw [drainShelf]
    split
    · rfl
    extract_lets +onlyGivenNames spot
    have hspot : ∀ p z, spot = some (p, z) → z.fixed.kept = d.fixed.kept := by
      intro p z hz
      dsimp only [spot] at hz
      split at hz
      · obtain ⟨-, rfl⟩ : _ ∧ d = z := by simpa using hz
        rfl
      · rcases orElse_some hz with hz | hz <;> exact Drive.allocate_kept hz
    clear_value spot
    split
    · rw [ih, Drive.shelfDone_kept, hspot _ _ rfl]
    · rfl

@[simp] theorem Drive.stopClips_fixed (d : Drive) : (Drive.stopClips d).fixed = d.fixed := by
  unfold Drive.stopClips
  simp

@[simp] theorem Drive.tearSector_fixed (sector) (d : Drive) : (Drive.tearSector sector d).fixed = d.fixed := by
  unfold Drive.tearSector
  simp

@[simp] theorem Drive.tearWrites_fixed (d : Drive) : (Drive.tearWrites d).fixed = d.fixed := by
  unfold Drive.tearWrites
  simp

@[simp] theorem Drive.settleRecords_kept (d : Drive) : (Drive.settleRecords d).fixed.kept = d.fixed.kept := by
  unfold Drive.settleRecords
  simp

@[simp] theorem Drive.keepBatches_fixed (d : Drive) : (Drive.keepBatches d).fixed = d.fixed := by
  unfold Drive.keepBatches
  simp

@[simp] theorem Drive.loseBatches_fixed (d : Drive) : (Drive.loseBatches d).fixed = d.fixed := by
  unfold Drive.loseBatches
  simp

@[simp] theorem Drive.quiesce_fixed (d : Drive) : (Drive.quiesce d).fixed = d.fixed := by
  unfold Drive.quiesce
  simp

@[simp] theorem Drive.sidebandOff_fixed (d : Drive) : (Drive.sidebandOff d).fixed = d.fixed := by
  unfold Drive.sidebandOff
  simp

@[simp] theorem Drive.islandsOff_fixed (d : Drive) : (Drive.islandsOff d).fixed = d.fixed := by
  unfold Drive.islandsOff
  simp

@[simp] theorem Drive.railsOff_fixed (d : Drive) : (Drive.railsOff d).fixed = d.fixed := by
  unfold Drive.railsOff
  simp

@[simp] theorem Drive.dropPower_fixed (d : Drive) : (Drive.dropPower d).fixed = d.fixed := by
  unfold Drive.dropPower
  simp

@[simp] theorem Drive.endMaint_fixed (cause) (d : Drive) : (Drive.endMaint cause d).fixed = d.fixed := by
  unfold Drive.endMaint
  simp

@[simp] theorem Drive.leaveRecord_fixed (d : Drive) : (Drive.leaveRecord d).fixed = d.fixed := by
  unfold Drive.leaveRecord
  simp

@[simp] theorem Drive.beginFlush_fixed (d : Drive) : (Drive.beginFlush d).fixed = d.fixed := by
  unfold Drive.beginFlush
  simp

@[simp] theorem Drive.openReserve_fixed (d : Drive) : (Drive.openReserve d).fixed = d.fixed := by
  unfold Drive.openReserve
  simp

@[simp] theorem Drive.resetReserve_fixed (d : Drive) : (Drive.resetReserve d).fixed = d.fixed := by
  unfold Drive.resetReserve
  simp

@[simp] theorem Drive.endFlush_fixed (d : Drive) : (Drive.endFlush d).fixed = d.fixed := by
  unfold Drive.endFlush
  simp

@[simp] theorem Drive.mainReset_fixed (d : Drive) : (Drive.mainReset d).fixed = d.fixed := by
  unfold Drive.mainReset
  simp

@[simp] theorem Drive.zeroiseNext_kept (d : Drive) : (Drive.zeroiseNext d).fixed.kept = d.fixed.kept := by
  unfold Drive.zeroiseNext
  simp

@[simp] theorem zeroiseEraseComplete_kept (d : Drive) : (zeroiseEraseComplete d).fixed.kept = d.fixed.kept := by
  unfold zeroiseEraseComplete
  simp

@[simp] theorem zeroizeArmExpiry_kept (d : Drive) : (zeroizeArmExpiry d).fixed.kept = d.fixed.kept := by
  unfold zeroizeArmExpiry
  split <;> simp

@[simp] theorem maintEnableWrite_fixed (v) (d : Drive) : (maintEnableWrite v d).dev.fixed = d.fixed := by
  unfold maintEnableWrite
  simp

@[simp] theorem maintFuseWrite_fixed (ch) (v) (d : Drive) : (maintFuseWrite ch v d).dev.fixed = d.fixed := by
  unfold maintFuseWrite
  simp

@[simp] theorem maintFuseArmExpiry_kept (d : Drive) : (maintFuseArmExpiry d).fixed.kept = d.fixed.kept := by
  unfold maintFuseArmExpiry
  split <;> simp

@[simp] theorem Drive.newChallenge_kept (d : Drive) : (Drive.newChallenge d).fixed.kept = d.fixed.kept := by
  unfold Drive.newChallenge
  simp

@[simp] theorem Drive.bootRecord_kept (f) (d : Drive) : (Drive.bootRecord f d).fixed.kept = d.fixed.kept := by
  unfold Drive.bootRecord
  simp

@[simp] theorem maintToken_kept (session) (services) (serial) (challenge) (duration) (keyOk) (signatureOk) (d : Drive) :
    (maintToken session services serial challenge duration keyOk signatureOk d).fixed.kept = d.fixed.kept := by
  unfold maintToken
  simp
  split <;> simp

@[simp] theorem maintExit_kept (session) (d : Drive) : (maintExit session d).fixed.kept = d.fixed.kept := by
  unfold maintExit
  split <;> simp

@[simp] theorem maintDurationExpiry_kept (d : Drive) : (maintDurationExpiry d).fixed.kept = d.fixed.kept := by
  unfold maintDurationExpiry
  split <;> simp

@[simp] theorem svnRaise_kept (d : Drive) : (svnRaise d).fixed.kept = d.fixed.kept := by
  unfold svnRaise
  split <;> simp

@[simp] theorem Drive.endSpdm_fixed (session) (d : Drive) : (Drive.endSpdm session d).fixed = d.fixed := by
  unfold Drive.endSpdm
  dsimp only
  split <;> simp

@[simp] theorem endAllSpdm_fixed (l) (d : Drive) : (endAllSpdm l d).fixed = d.fixed := by
  induction l generalizing d with
  | nil => rfl
  | cons x l ih => simp [endAllSpdm, ih]

@[simp] theorem Drive.dropStale_kept (d : Drive) : (Drive.dropStale d).fixed.kept = d.fixed.kept := by
  unfold Drive.dropStale
  simp

@[simp] theorem spdmSay_kept (session) (code) (args) (d : Drive) : (spdmSay session code args d).fixed.kept = d.fixed.kept := by
  unfold spdmSay
  simp

@[simp] theorem spdmError_kept (session) (code) (d : Drive) : (spdmError session code d).fixed.kept = d.fixed.kept := by
  unfold spdmError
  simp

@[simp] theorem Drive.negotiated_kept {k : Drive → Drive} (hf : ∀ d, (k d).fixed.kept = d.fixed.kept) (s) (n) (d : Drive) :
    (d.negotiated s n k).fixed.kept = d.fixed.kept := by
  unfold Drive.negotiated
  simp [hf]

@[simp] theorem getVersion_kept (d : Drive) : (getVersion d).fixed.kept = d.fixed.kept := by
  unfold getVersion
  simp

@[simp] theorem getCapabilities_kept (ok) (d : Drive) : (getCapabilities ok d).fixed.kept = d.fixed.kept := by
  unfold getCapabilities
  refine Drive.negotiated_kept (fun d => ?_) ..
  simp

@[simp] theorem negotiateAlgorithms_kept (offered) (d : Drive) : (negotiateAlgorithms offered d).fixed.kept = d.fixed.kept := by
  unfold negotiateAlgorithms
  refine Drive.negotiated_kept (fun d => ?_) ..
  simp

@[simp] theorem getDigests_kept (session) (d : Drive) : (getDigests session d).fixed.kept = d.fixed.kept := by
  unfold getDigests
  refine Drive.negotiated_kept (fun d => ?_) ..
  simp

@[simp] theorem getCertificate_kept (session) (slot) (d : Drive) : (getCertificate session slot d).fixed.kept = d.fixed.kept := by
  unfold getCertificate
  refine Drive.negotiated_kept (fun d => ?_) ..
  split <;> simp

@[simp] theorem challengeMsg_kept (slot) (d : Drive) : (challengeMsg slot d).fixed.kept = d.fixed.kept := by
  unfold challengeMsg
  refine Drive.negotiated_kept (fun d => ?_) ..
  simp

@[simp] theorem getMeasurements_kept (session) (index) (d : Drive) : (getMeasurements session index d).fixed.kept = d.fixed.kept := by
  unfold getMeasurements
  refine Drive.negotiated_kept (fun d => ?_) ..
  simp
  split <;> simp

@[simp] theorem keyExchange_kept (d : Drive) : (keyExchange d).fixed.kept = d.fixed.kept := by
  unfold keyExchange
  refine Drive.negotiated_kept (fun d => ?_) ..
  simp

@[simp] theorem finishMsg_kept (session) (eid) (requester) (ok) (d : Drive) : (finishMsg session eid requester ok d).fixed.kept = d.fixed.kept := by
  unfold finishMsg
  split <;> simp

@[simp] theorem Drive.inSpdm_kept {f : SpdmSession → Drive → Drive} (hf : ∀ s d, (f s d).fixed.kept = d.fixed.kept) (s) (d : Drive) :
    (d.inSpdm s f).fixed.kept = d.fixed.kept := by
  unfold Drive.inSpdm
  split
  · split <;> simp [hf]
  · simp

@[simp] theorem spdmHeartbeat_kept (session) (d : Drive) : (spdmHeartbeat session d).fixed.kept = d.fixed.kept := by
  unfold spdmHeartbeat
  refine Drive.inSpdm_kept (fun r d => ?_) ..
  simp

@[simp] theorem keyUpdate_kept (session) (d : Drive) : (keyUpdate session d).fixed.kept = d.fixed.kept := by
  unfold keyUpdate
  refine Drive.inSpdm_kept (fun r d => ?_) ..
  simp

@[simp] theorem endSessionMsg_kept (session) (d : Drive) : (endSessionMsg session d).fixed.kept = d.fixed.kept := by
  unfold endSessionMsg
  refine Drive.inSpdm_kept (fun r d => ?_) ..
  simp

@[simp] theorem getCsr_kept (session) (d : Drive) : (getCsr session d).fixed.kept = d.fixed.kept := by
  unfold getCsr
  refine Drive.inSpdm_kept (fun r d => ?_) ..
  simp

@[simp] theorem setCertificate_kept (session) (slot) (sameKey) (chain) (d : Drive) :
    (setCertificate session slot sameKey chain d).fixed.kept = d.fixed.kept := by
  unfold setCertificate
  refine Drive.inSpdm_kept (fun r d => ?_) ..
  simp

@[simp] theorem Drive.onPage_kept {k : Drive → Drive} (hf : ∀ d, (k d).fixed.kept = d.fixed.kept) (s) (sb) (c) (i) (d : Drive) :
    (d.onPage s sb c i k).fixed.kept = d.fixed.kept := by
  unfold Drive.onPage
  simp [hf]

@[simp] theorem vendorFree_kept (session) (d : Drive) : (vendorFree session d).fixed.kept = d.fixed.kept := by
  unfold vendorFree
  simp

@[simp] theorem Drive.rawRead_kept (session) (sb) (channel) (index) (d : Drive) :
    (Drive.rawRead session sb channel index d).fixed.kept = d.fixed.kept := by
  unfold Drive.rawRead
  refine Drive.onPage_kept (fun d => ?_) ..
  dsimp only
  split <;> simp

@[simp] theorem vendorDefined_kept (session) (what) (d : Drive) : (vendorDefined session what d).fixed.kept = d.fixed.kept := by
  unfold vendorDefined
  refine Drive.negotiated_kept (fun d => ?_) ..
  split <;> simp

@[simp] theorem Drive.defaultRead_fixed (d : Drive) : (Drive.defaultRead d).fixed = d.fixed := by
  unfold Drive.defaultRead
  simp

@[simp] theorem Drive.readArea_fixed (ok) (d : Drive) : (Drive.readArea ok d).2.fixed = d.fixed := by
  unfold Drive.readArea
  split <;> simp

@[simp] theorem xipRelease_fixed (d : Drive) : (xipRelease d).dev.fixed = d.fixed := by
  unfold xipRelease
  simp

@[simp] theorem tcmLoadComplete_kept (d : Drive) : (tcmLoadComplete d).fixed.kept = d.fixed.kept := by
  unfold tcmLoadComplete
  simp

@[simp] theorem Drive.xipBack_fixed (d : Drive) : (Drive.xipBack d).dev.fixed = d.fixed := by
  unfold Drive.xipBack
  dsimp only
  split <;> simp

@[simp] theorem xipResume_fixed (ch) (d : Drive) : (xipResume ch d).2.dev.fixed = d.fixed := by
  unfold xipResume
  dsimp only
  split
  · simp
  split <;> simp

@[simp] theorem xipResumeCmd_kept (ch) (d : Drive) : (xipResumeCmd ch d).fixed.kept = d.fixed.kept := by
  unfold xipResumeCmd
  have h := xipResume_fixed ch d.awaken
  rw [Drive.awaken_fixed] at h
  split <;> rename_i heq <;> rw [heq] at h <;> simpa using congrArg Fixed.kept h

@[simp] theorem xipAutoResume_kept (d : Drive) : (xipAutoResume d).fixed.kept = d.fixed.kept := by
  unfold xipAutoResume
  simp

@[simp] theorem Drive.countErase_kept (sector) (d : Drive) : (Drive.countErase sector d).fixed.kept = d.fixed.kept := by
  unfold Drive.countErase
  simp

@[simp] theorem optfOperationComplete_kept (d : Drive) : (optfOperationComplete d).fixed.kept = d.fixed.kept := by
  unfold optfOperationComplete
  split
  · rfl
  split
  · rfl
  generalize List.partition _ _ = parts
  obtain ⟨mine, others⟩ := parts
  extract_lets +onlyGivenNames src
  split
  rename_i mine others
  extract_lets +onlyGivenNames d1 d2
  have h2 : d2.fixed.kept = d.fixed.kept := by
    dsimp only [d2]
    split
    · rfl
    · simp [d1]
  clear_value d2
  extract_lets +onlyGivenNames src3 d3
  have h3 : d3.fixed.kept = d2.fixed.kept := by
    dsimp only [d3]
    split
    · rfl
    · simp
  clear_value d3
  extract_lets +onlyGivenNames src4 d4
  have h4 : d4.fixed.kept = d3.fixed.kept := by
    dsimp only [d4]
    split <;> rfl
  clear_value d4
  extract_lets +onlyGivenNames d5
  have h5 : d5.fixed.kept = d4.fixed.kept := by
    dsimp only [d5]
    split <;> simp
  clear_value d5
  extract_lets +onlyGivenNames src5 d6 d7
  have h7 : d7.fixed.kept = d5.fixed.kept := by
    have h6 : d6.fixed.kept = d5.fixed.kept := by
      dsimp only [d6]
      split <;> rfl
    exact (Drive.emitAll_kept ..).trans h6
  clear_value d7
  extract_lets +onlyGivenNames d8
  have h8 : d8.fixed.kept = d.fixed.kept := by
    rw [← h2, ← h3, ← h4, ← h5, ← h7]
    dsimp only [d8]
    split
    · split
      · simp
      · split <;> simp
    · rfl
  clear_value d8
  rw [← h8]
  split
  · split
    · simp
    · rfl
  · rfl

@[simp] theorem supplyLow_kept (mv) (d : Drive) : (supplyLow mv d).fixed.kept = d.fixed.kept := by
  unfold supplyLow
  simp

@[simp] theorem supplyHigh_kept (mv) (d : Drive) : (supplyHigh mv d).fixed.kept = d.fixed.kept := by
  unfold supplyHigh
  simp

@[simp] theorem auxLost_kept (d : Drive) : (auxLost d).fixed.kept = d.fixed.kept := by
  unfold auxLost
  simp

@[simp] theorem auxRestored_kept (d : Drive) : (auxRestored d).fixed.kept = d.fixed.kept := by
  unfold auxRestored
  simp

@[simp] theorem mrst_kept (d : Drive) : (mrst d).fixed.kept = d.fixed.kept := by
  unfold mrst
  simp

@[simp] theorem slotIdChange_kept (straps) (d : Drive) : (slotIdChange straps d).fixed.kept = d.fixed.kept := by
  unfold slotIdChange
  simp

@[simp] theorem twinPrsntChange_kept (present) (d : Drive) : (twinPrsntChange present d).fixed.kept = d.fixed.kept := by
  unfold twinPrsntChange
  simp

@[simp] theorem i3cAddress_fixed (a) (byEntdaa) (d : Drive) : (i3cAddress a byEntdaa d).fixed = d.fixed := by
  unfold i3cAddress
  simp

@[simp] theorem i3cReset_fixed (d : Drive) : (i3cReset d).fixed = d.fixed := by
  unfold i3cReset
  simp

@[simp] theorem locateExpiry_kept (d : Drive) : (locateExpiry d).fixed.kept = d.fixed.kept := by
  unfold locateExpiry
  simp

@[simp] theorem Drive.fuseCheck_kept (d : Drive) : (Drive.fuseCheck d).fixed.kept = d.fixed.kept := by
  unfold Drive.fuseCheck
  simp

@[simp] theorem idleDwell_kept (st) (d : Drive) : (idleDwell st d).fixed.kept = d.fixed.kept := by
  unfold idleDwell
  simp

@[simp] theorem wakeComplete_kept (d : Drive) : (wakeComplete d).fixed.kept = d.fixed.kept := by
  unfold wakeComplete
  split <;> simp

@[simp] theorem toleranceWindowExpiry_kept (d : Drive) : (toleranceWindowExpiry d).fixed.kept = d.fixed.kept := by
  unfold toleranceWindowExpiry
  split <;> simp

@[simp] theorem lockedOut_fixed {w : Drive → Wr} (hf : ∀ d, (w d).dev.fixed = d.fixed) (ch) (d : Drive) : (lockedOut ch w d).dev.fixed = d.fixed := by
  unfold lockedOut
  split <;> simp [hf]

@[simp] theorem stateLimitWrite_fixed (ch) (v) (d : Drive) : (stateLimitWrite ch v d).dev.fixed = d.fixed := by
  unfold stateLimitWrite
  refine lockedOut_fixed (fun d => ?_) ..
  simp

@[simp] theorem Drive.applyLimits_fixed (d : Drive) : (Drive.applyLimits d).fixed = d.fixed := by
  unfold Drive.applyLimits
  simp

@[simp] theorem capWrite_fixed (ch) (v) (d : Drive) : (capWrite ch v d).dev.fixed = d.fixed := by
  unfold capWrite
  refine lockedOut_fixed (fun d => ?_) ..
  simp

@[simp] theorem governor1_kept (mw) (d : Drive) : (governor1 mw d).fixed.kept = d.fixed.kept := by
  unfold governor1
  simp

@[simp] theorem governor100_kept (mw) (d : Drive) : (governor100 mw d).fixed.kept = d.fixed.kept := by
  unfold governor100
  obtain ⟨f, hf⟩ : ∃ f, Drive.advanceTo = f := ⟨_, rfl⟩
  have h := Drive.advanceTo_fixed ((d.now / 100000000 + 1) * 100000000) d
  rw [hf] at h ⊢
  simp [h]

@[simp] theorem Drive.setStage_kept (st) (sensor) (d : Drive) : (Drive.setStage st sensor d).fixed.kept = d.fixed.kept := by
  unfold Drive.setStage
  simp

@[simp] theorem Drive.sensorLost_kept (s) (d : Drive) : (Drive.sensorLost s d).fixed.kept = d.fixed.kept := by
  unfold Drive.sensorLost
  simp

@[simp] theorem takeReadings_kept (l) (d : Drive) : (takeReadings l d).fixed.kept = d.fixed.kept := by
  induction l generalizing d with
  | nil => rfl
  | cons x l ih => simp [takeReadings, ih]

@[simp] theorem thermalStageExit_kept (d : Drive) : (thermalStageExit d).fixed.kept = d.fixed.kept := by
  unfold thermalStageExit
  dsimp only
  split <;> simp

@[simp] theorem thermalShutdownTimeout_kept (d : Drive) : (thermalShutdownTimeout d).fixed.kept = d.fixed.kept := by
  unfold thermalShutdownTimeout
  split <;> simp

@[simp] theorem sensorFault_kept (s) (d : Drive) : (sensorFault s d).fixed.kept = d.fixed.kept := by
  unfold sensorFault
  obtain ⟨f, hf⟩ : ∃ f, Drive.advanceTo = f := ⟨_, rfl⟩
  have h := Drive.advanceTo_fixed (tgetD s d.mod.startedAt d.therm.heardAt + 100000000) d
  rw [hf] at h ⊢
  split
  · rfl
  · simp [h]

@[simp] theorem Drive.modChan_fixed (ch) (f) (d : Drive) : (Drive.modChan ch f d).fixed = d.fixed := by
  unfold Drive.modChan
  simp

@[simp] theorem clearCounter_fixed (ch) (base) (d : Drive) : (clearCounter ch base d).fixed = d.fixed := by
  unfold clearCounter
  split <;> simp

@[simp] theorem latchAll_fixed (ch) (l) (d : Drive) : (latchAll ch l d).fixed = d.fixed := by
  induction l generalizing d with
  | nil => rfl
  | cons x l ih => simp [latchAll, ih]

@[simp] theorem readWord_fixed (ch) (addr) (d : Drive) : (readWord ch addr d).2.fixed = d.fixed := by
  unfold readWord
  dsimp only
  repeat' split
  all_goals simp

@[simp] theorem readWords_fixed (ch) (addr) (n) (d : Drive) : (readWords ch addr n d).2.fixed = d.fixed := by
  induction n generalizing addr d with
  | zero => rfl
  | succ n ih => simp [readWords, ih]

@[simp] theorem flagClear_fixed (v) (occur) (d : Drive) : (flagClear v occur d).fixed = d.fixed := by
  unfold flagClear
  simp

@[simp] theorem w1cWrite_fixed (addr) (v) (occur) (d : Drive) : (w1cWrite addr v occur d).dev.fixed = d.fixed := by
  unfold w1cWrite
  split <;> simp

@[simp] theorem Drive.portReset_fixed (p) (d : Drive) : (Drive.portReset p d).fixed = d.fixed := by
  unfold Drive.portReset
  simp

@[simp] theorem devReset_fixed (ch) (v) (d : Drive) : (devReset ch v d).dev.fixed = d.fixed := by
  unfold devReset
  refine lockedOut_fixed (fun d => ?_) ..
  simp
  split <;> simp

@[simp] theorem within_fixed {k : Drive → Drive} (hf : ∀ d, (k d).fixed = d.fixed) (lo) (hi) (v) (d : Drive) :
    (within lo hi v k d).dev.fixed = d.fixed := by
  unfold within
  split <;> simp [hf]

@[simp] theorem portSet_fixed (ch) (p) (off) (v) (d : Drive) : (portSet ch p off v d).dev.fixed = d.fixed := by
  unfold portSet
  split <;> simp

@[simp] theorem privetSet_fixed (ch) (base) (v) (d : Drive) : (privetSet ch base v d).dev.fixed = d.fixed := by
  unfold privetSet
  split <;> simp

@[simp] theorem Drive.modShaper_fixed (t) (f) (d : Drive) : (Drive.modShaper t f d).fixed = d.fixed := by
  unfold Drive.modShaper
  simp

@[simp] theorem xportSet_fixed (ch) (base) (v) (d : Drive) : (xportSet ch base v d).dev.fixed = d.fixed := by
  unfold xportSet
  split <;> simp

@[simp] theorem wordSet_fixed (ch) (addr) (v) (d : Drive) : (wordSet ch addr v d).dev.fixed = d.fixed := by
  unfold wordSet
  split <;> simp

@[simp] theorem relayOr_kept {k : Drive → Drive} (hf : ∀ d, (k d).fixed.kept = d.fixed.kept) (r) (d : Drive) :
    (relayOr r k d).fixed.kept = d.fixed.kept := by
  unfold relayOr
  dsimp only
  simp [hf]

@[simp] theorem attrReadOp_kept (r) (d : Drive) : (attrReadOp r d).fixed.kept = d.fixed.kept := by
  unfold attrReadOp
  simp

@[simp] theorem attrBulkOp_kept (r) (d : Drive) : (attrBulkOp r d).fixed.kept = d.fixed.kept := by
  unfold attrBulkOp
  simp
  split <;> simp

@[simp] theorem attrRead_kept (o) (d : Drive) : (attrRead o d).fixed.kept = d.fixed.kept := by
  unfold attrRead
  refine Drive.withReq_kept (fun r d => ?_) ..
  simp

@[simp] theorem attrBulkRead_kept (o) (d : Drive) : (attrBulkRead o d).fixed.kept = d.fixed.kept := by
  unfold attrBulkRead
  refine Drive.withReq_kept (fun r d => ?_) ..
  simp

@[simp] theorem mgmtReply_kept (src) (seq) (h) (body) (d : Drive) : (mgmtReply src seq h body d).fixed.kept = d.fixed.kept := by
  unfold mgmtReply
  rw [Drive.fromRing_kept (fun d => ?_), Drive.awaken_fixed]
  split
  · simp
  · rfl

@[simp] theorem placeEntries_fixed (b) (n) (n') (l) (d : Drive) : (placeEntries b n n' l d).fixed = d.fixed := by
  induction l generalizing n' d with
  | nil => rfl
  | cons e l ih => simp [placeEntries, ih]

@[simp] theorem Drive.applyCutting_fixed (d : Drive) (c) : (Drive.applyCutting d c).fixed = d.fixed := by
  unfold Drive.applyCutting
  split <;> simp

@[simp] theorem Drive.wakeUp_kept (u) (d : Drive) : (Drive.wakeUp u d).fixed.kept = d.fixed.kept := by
  unfold Drive.wakeUp
  simp

@[simp] theorem Drive.halt_kept (test) (pair) (d : Drive) : (Drive.halt test pair d).fixed.kept = d.fixed.kept := by
  unfold Drive.halt
  simp

@[simp] theorem Drive.recoveryBoot_kept (u) (cause) (d : Drive) : (Drive.recoveryBoot u cause d).fixed.kept = d.fixed.kept := by
  unfold Drive.recoveryBoot
  simp

@[simp] theorem failPairs_kept (l) (d : Drive) : (failPairs l d).fixed.kept = d.fixed.kept := by
  induction l generalizing d with
  | nil => rfl
  | cons x l ih => simp [failPairs, ih]

@[simp] theorem Drive.selfTests_kept (u) (d : Drive) : (Drive.selfTests u d).fixed.kept = d.fixed.kept := by
  unfold Drive.selfTests
  split <;> simp

@[simp] theorem Drive.loseVault_kept (id) (d : Drive) : (Drive.loseVault id d).fixed.kept = d.fixed.kept := by
  unfold Drive.loseVault
  split <;> simp

@[simp] theorem loadVault_kept (u) (l) (d : Drive) : (loadVault u l d).fixed.kept = d.fixed.kept := by
  induction l generalizing d with
  | nil => rfl
  | cons id l ih =>
    rw [loadVault, ih]
    split
    · split <;> split <;> simp
    · split <;> simp

@[simp] theorem Drive.beginFirst_fixed (d : Drive) : (Drive.beginFirst d).fixed = d.fixed := by
  unfold Drive.beginFirst
  simp

@[simp] theorem Drive.recount_fixed (d : Drive) : (Drive.recount d).fixed = d.fixed := by
  unfold Drive.recount
  simp

@[simp] theorem skipNonces_kept (last) (l) (d : Drive) : (skipNonces last l d).fixed.kept = d.fixed.kept := by
  induction l generalizing d with
  | nil => rfl
  | cons i l ih =>
    rw [skipNonces, ih]
    split <;> simp

@[simp] theorem Drive.resumeTick_fixed (lost) (d : Drive) : (Drive.resumeTick lost d).fixed = d.fixed := by
  unfold Drive.resumeTick
  simp

@[simp] theorem Drive.openLog_fixed (lost) (d : Drive) : (Drive.openLog lost d).fixed = d.fixed := by
  unfold Drive.openLog
  simp

@[simp] theorem endAtRestart_fixed (l) (d : Drive) : (endAtRestart l d).fixed = d.fixed := by
  induction l generalizing d with
  | nil => rfl
  | cons x l ih => simp [endAtRestart, ih]

@[simp] theorem Drive.beginJoin_fixed (d : Drive) : (Drive.beginJoin d).fixed = d.fixed := by
  unfold Drive.beginJoin
  simp

@[simp] theorem Drive.revokeCodeKey_kept (index) (signedUnder) (d : Drive) : (Drive.revokeCodeKey index signedUnder d).fixed.kept = d.fixed.kept := by
  unfold Drive.revokeCodeKey
  simp

@[simp] theorem Drive.imageReady_kept (i) (d : Drive) : (Drive.imageReady i d).fixed.kept = d.fixed.kept := by
  unfold Drive.imageReady
  extract_lets +onlyGivenNames d0 src d1
  have h1 : d1.fixed.kept = d.fixed.kept := by
    dsimp only [d1]
    split
    · rfl
    · refine (Drive.kept_of_eq rfl rfl).trans (foldl_kept (fun d c => ?_) i.cuttings d)
      split <;> simp
  clear_value d1
  rw [← h1]
  split
  · simp
  · rfl

@[simp] theorem deviceReady_kept (d : Drive) : (deviceReady d).fixed.kept = d.fixed.kept := by
  unfold deviceReady
  simp
  split <;> simp

@[simp] theorem Drive.startFails_kept (d : Drive) : (Drive.startFails d).fixed.kept = d.fixed.kept := by
  unfold Drive.startFails
  simp

@[simp] theorem startTimeout_kept (d : Drive) : (startTimeout d).fixed.kept = d.fixed.kept := by
  unfold startTimeout
  simp

@[simp] theorem jobStart_kept (kind) (o) (d : Drive) : (jobStart kind o d).fixed.kept = d.fixed.kept := by
  unfold jobStart
  refine Drive.withReq_kept (fun r d => ?_) ..
  extract_lets +onlyGivenNames k keyed
  split
  · simp
  split
  · rfl
  split
  · simp
  extract_lets +onlyGivenNames params
  clear_value params
  split
  · simp
  split
  · simp
  extract_lets +onlyGivenNames j
  split
  · simp
  split
  · simp
  split
  · simp
  split
  · simp
  split
  · simp
  split
  · simp
  · rename_i h
    simp [Drive.startJob_kept h]

@[simp] theorem dieUnresponsive_kept (die) (d : Drive) : (dieUnresponsive die d).fixed.kept = d.fixed.kept := by
  unfold dieUnresponsive
  split
  · rfl
  dsimp only
  split
  · simp
  split
  · rename_i h
    simp [Drive.startJob_kept h]
  · simp

@[simp] theorem Drive.jobConflict_kept (r) (code) (j) (d : Drive) : (Drive.jobConflict r code j d).fixed.kept = d.fixed.kept := by
  unfold Drive.jobConflict
  simp

@[simp] theorem jobOp_kept {f : Req → Job → Drive → Drive} (hf : ∀ r j d, (f r j d).fixed.kept = d.fixed.kept) (op) (o) (d : Drive) :
    (jobOp op o f d).fixed.kept = d.fixed.kept := by
  unfold jobOp
  refine Drive.withReq_kept (fun r d => ?_) ..
  dsimp only
  split
  · simp
  split <;> simp [hf]

@[simp] theorem Drive.jobReply_kept (r) (j) (d : Drive) : (Drive.jobReply r j d).fixed.kept = d.fixed.kept := by
  unfold Drive.jobReply
  simp

@[simp] theorem Drive.suspended_kept (j) (d : Drive) : (Drive.suspended j d).fixed.kept = d.fixed.kept := by
  unfold Drive.suspended
  simp

@[simp] theorem jobSuspend_kept (o) (d : Drive) : (jobSuspend o d).fixed.kept = d.fixed.kept := by
  unfold jobSuspend
  refine jobOp_kept (fun r x d => ?_) ..
  simp

@[simp] theorem jobResume_kept (o) (d : Drive) : (jobResume o d).fixed.kept = d.fixed.kept := by
  unfold jobResume
  refine jobOp_kept (fun r x d => ?_) ..
  simp

@[simp] theorem jobCancel_kept (o) (d : Drive) : (jobCancel o d).fixed.kept = d.fixed.kept := by
  unfold jobCancel
  refine jobOp_kept (fun r x d => ?_) ..
  simp

@[simp] theorem jobStatus_kept (o) (d : Drive) : (jobStatus o d).fixed.kept = d.fixed.kept := by
  unfold jobStatus
  refine Drive.withReq_kept (fun r d => ?_) ..
  simp
  split <;> simp

@[simp] theorem jobEntryExpiry_kept (id) (d : Drive) : (jobEntryExpiry id d).fixed.kept = d.fixed.kept := by
  unfold jobEntryExpiry
  dsimp only
  split
  · simp
  split <;> simp

@[simp] theorem jobSuspendedLong_kept (id) (d : Drive) : (jobSuspendedLong id d).fixed.kept = d.fixed.kept := by
  unfold jobSuspendedLong
  split <;> simp

@[simp] theorem Drive.enterRec_kept (r) (d : Drive) : (Drive.enterRec r d).fixed.kept = d.fixed.kept := by
  unfold Drive.enterRec
  simp

@[simp] theorem Drive.sendMigrateCtl_kept (dest) (ns) (job) (c) (d : Drive) : (Drive.sendMigrateCtl dest ns job c d).fixed.kept = d.fixed.kept := by
  unfold Drive.sendMigrateCtl
  simp

@[simp] theorem Drive.putMigration_kept (m) (d : Drive) : (Drive.putMigration m d).fixed.kept = d.fixed.kept := by
  unfold Drive.putMigration
  simp

@[simp] theorem Drive.dropMigration_kept (m) (d : Drive) : (Drive.dropMigration m d).fixed.kept = d.fixed.kept := by
  unfold Drive.dropMigration
  simp

@[simp] theorem Drive.sendRecord_kept (m) (r) (d : Drive) : (Drive.sendRecord m r d).fixed.kept = d.fixed.kept := by
  unfold Drive.sendRecord
  simp

@[simp] theorem Drive.deletePair_kept (ns) (d : Drive) : (Drive.deletePair ns d).fixed.kept = d.fixed.kept := by
  unfold Drive.deletePair
  simp

@[simp] theorem migrateStep_kept (j) (d : Drive) : (migrateStep j d).2.2.fixed.kept = d.fixed.kept := by
  unfold migrateStep
  dsimp only
  repeat' split
  all_goals simp

@[simp] theorem migrateCancel_kept (j) (d : Drive) : (migrateCancel j d).fixed.kept = d.fixed.kept := by
  unfold migrateCancel
  split <;> simp

@[simp] theorem Drive.endMigration_kept (m) (d : Drive) : (Drive.endMigration m d).fixed.kept = d.fixed.kept := by
  unfold Drive.endMigration
  simp
  split <;> simp

@[simp] theorem migrateStart_kept (src) (ns) (job) (owner) (quota) (solo) (soloWrites) (serial) (younger) (d : Drive) :
    (migrateStart src ns job owner quota solo soloWrites serial younger d).fixed.kept = d.fixed.kept := by
  unfold migrateStart
  simp
  split <;> simp

@[simp] theorem migrateCtl_kept (src) (seq) (ns) (job) (c) (d : Drive) : (migrateCtl src seq ns job c d).fixed.kept = d.fixed.kept := by
  unfold migrateCtl
  refine Drive.fromRing_kept (fun d => ?_) ..
  dsimp only
  repeat' split
  all_goals simp

@[simp] theorem clipCancel_kept (j) (d : Drive) : (clipCancel j d).fixed.kept = d.fixed.kept := by
  unfold clipCancel
  split <;> simp

@[simp] theorem Drive.mirrorOwn_kept (r) (d : Drive) : (Drive.mirrorOwn r d).fixed.kept = d.fixed.kept := by
  unfold Drive.mirrorOwn
  simp

@[simp] theorem resyncCancel_kept (d : Drive) : (resyncCancel d).fixed.kept = d.fixed.kept := by
  unfold resyncCancel
  simp

@[simp] theorem kindCancel_kept (j) (d : Drive) : (kindCancel j d).fixed.kept = d.fixed.kept := by
  unfold kindCancel
  split <;> simp

@[simp] theorem Drive.putImage_kept (c) (slot) (i) (d : Drive) : (Drive.putImage c slot i d).fixed.kept = d.fixed.kept := by
  unfold Drive.putImage
  split <;> simp

@[simp] theorem Drive.writeImage_kept (c) (off) (stop) (waiter) (h) (d : Drive) :
    (Drive.writeImage c off stop waiter h d).fixed.kept = d.fixed.kept := by
  unfold Drive.writeImage
  obtain ⟨-, bank, first⟩ := d.targetOf c
  exact foldl_kept (fun d x => congrArg Fixed.kept (Drive.optfWrite_fixed x d)) _ d

@[simp] theorem Drive.verifyDownload_kept (c) (img) (d : Drive) : (Drive.verifyDownload c img d).dev.fixed.kept = d.fixed.kept := by
  unfold Drive.verifyDownload
  simp

@[simp] theorem Drive.chunk_kept (ch) (c) (off) (len) (last) (img) (d : Drive) :
    (Drive.chunk ch c off len last img d).dev.fixed.kept = d.fixed.kept := by
  unfold Drive.chunk
  dsimp only
  split <;> simp

@[simp] theorem fwDownload_kept (o) (img) (d : Drive) : (fwDownload o img d).fixed.kept = d.fixed.kept := by
  unfold fwDownload
  refine Drive.withReq_kept (fun r d => ?_) ..
  dsimp only
  split
  · simp
  split <;> simp

@[simp] theorem downloadIdleTimeout_kept (d : Drive) : (downloadIdleTimeout d).fixed.kept = d.fixed.kept := by
  unfold downloadIdleTimeout
  simp

theorem Drive.startRoll_kept {starter} {both} {d : Drive} {y} {z : Drive} (h : (Drive.startRoll starter both d) = some (y, z)) :
    z.fixed.kept = d.fixed.kept := by
  unfold Drive.startRoll at h
  obtain ⟨⟨id, w⟩, hw, heq⟩ := Option.map_eq_some_iff.mp h
  have hz := Drive.startJob_kept hw
  obtain ⟨-, rfl⟩ : _ ∧ _ = z := by simpa using heq
  exact (Drive.kept_of_eq rfl rfl).trans hz

@[simp] theorem activate_kept {f : Req → Bool → Drive → Drive} (hf : ∀ r b d, (f r b d).fixed.kept = d.fixed.kept) (re) (o) (t) (g) (d : Drive) :
    (activate re o t g f d).fixed.kept = d.fixed.kept := by
  unfold activate
  refine Drive.withReq_kept (fun r d => ?_) ..
  dsimp only
  split
  · rfl
  split
  · simp
  split
  · simp
  split <;> simp [hf]

@[simp] theorem twinAsksRoll_kept (d : Drive) : (twinAsksRoll d).fixed.kept = d.fixed.kept := by
  unfold twinAsksRoll
  split
  · rfl
  split
  · rfl
  · exact map_getD_kept fun p hp => Drive.startRoll_kept hp

@[simp] theorem fwActivate_kept (o) (twinDl) (twinDigest) (d : Drive) : (fwActivate o twinDl twinDigest d).fixed.kept = d.fixed.kept := by
  unfold fwActivate
  split
  · simp
  · refine activate_kept (fun r both d => ?_) ..
    split
    · rename_i h
      simp [Drive.startRoll_kept h]
    · simp

@[simp] theorem Drive.selectSlot_kept (slot) (d : Drive) : (Drive.selectSlot slot d).fixed.kept = d.fixed.kept := by
  unfold Drive.selectSlot
  simp

@[simp] theorem fwRollStep_kept (ok) (d : Drive) : (fwRollStep ok d).fixed.kept = d.fixed.kept := by
  unfold fwRollStep
  dsimp only
  split
  · simp
  split <;> simp

@[simp] theorem fwRollFailed_kept (cluster) (d : Drive) : (fwRollFailed cluster d).fixed.kept = d.fixed.kept := by
  unfold fwRollFailed
  split <;> simp

@[simp] theorem pldmSay_kept (session) (kind) (ok) (args) (d : Drive) : (pldmSay session kind ok args d).fixed.kept = d.fixed.kept := by
  unfold pldmSay
  simp

@[simp] theorem areaUpdate_kept (session) (off) (len) (last) (img) (d : Drive) :
    (areaUpdate session off len last img d).fixed.kept = d.fixed.kept := by
  unfold areaUpdate
  simp

@[simp] theorem pldmUpdate_kept (session) (c) (off) (len) (last) (img) (d : Drive) :
    (pldmUpdate session c off len last img d).fixed.kept = d.fixed.kept := by
  unfold pldmUpdate
  dsimp only
  split
  · simp
  split
  · simp
  split <;> simp

@[simp] theorem activateFirmware_kept (session) (d : Drive) : (activateFirmware session d).fixed.kept = d.fixed.kept := by
  unfold activateFirmware
  split
  · simp
  split
  · simp
  split
  · simp
  split
  · split
    · simp
    split
    · rename_i h
      simp [Drive.startRoll_kept h]
    · simp
  · simp

@[simp] theorem opAnswer_fixed (session) (exchange) (h) (st) (d : Drive) : (opAnswer session exchange h st d).fixed = d.fixed := by
  unfold opAnswer
  simp

@[simp] theorem opMessage_kept (session) (exchange) (h) (body) (d : Drive) : (opMessage session exchange h body d).fixed.kept = d.fixed.kept := by
  unfold opMessage
  simp
  split <;> simp

@[simp] theorem statusRead_fixed (session) (exchange) (h) (d : Drive) : (statusRead session exchange h d).fixed = d.fixed := by
  unfold statusRead
  simp

@[simp] theorem getSensorReading_kept (session) (id) (d : Drive) : (getSensorReading session id d).fixed.kept = d.fixed.kept := by
  unfold getSensorReading
  simp
  split <;> simp

@[simp] theorem getStateSensorReadings_kept (session) (id) (d : Drive) : (getStateSensorReadings session id d).fixed.kept = d.fixed.kept := by
  unfold getStateSensorReadings
  simp

@[simp] theorem mctpControl_fixed (command) (arg) (d : Drive) : (mctpControl command arg d).fixed = d.fixed := by
  unfold mctpControl
  split <;> simp

end Sys2Proof.Machine
end

-- Proofs of transactions and ordering: versions only grow (R83).
section
namespace Sys2Proof.Machine
open Sys2Proof

/-- At least version `m.1` was assigned, and the ZEROISED fuse stands as `m.2` says. -/
def Above (m k : Nat × Bool) : Prop := m.1 ≤ k.1 ∧ k.2 = m.2

@[simp] theorem Above.refl (m : Nat × Bool) : Above m m := ⟨Nat.le_refl _, rfl⟩

theorem Above.of_kept {m k : Nat × Bool} (h : k = m) : Above m k := h ▸ .refl _

@[simp] theorem above_ite (m : Nat × Bool) (c : Prop) [Decidable c] (a b : Nat × Bool) :
    Above m (if c then a else b) ↔ if c then Above m a else Above m b := by
  split <;> rfl

theorem Above.ite {m : Nat × Bool} {c : Prop} [Decidable c] {x y : Drive} (hx : Above m x.fixed.kept) (hy : Above m y.fixed.kept) :
    Above m (if c then x else y).fixed.kept := by
  split
  · exact hx
  · exact hy

end Sys2Proof.Machine
end

-- Proofs of transactions and ordering: writes that take versions and draw no keys.
section
namespace Sys2Proof.Machine
open Sys2Proof

/-- No version is taken back, no key comes, and zeroisation stands as it stood. -/
structure Grows (b f : Fixed) : Prop where
  last : b.last ≤ f.last
  fuse : f.fuse = b.fuse
  state : f.state = b.state
  root : f.root = b.root
  storage : b.storage = [] → f.storage = []

theorem Grows.refl (b : Fixed) : Grows b b := ⟨Nat.le_refl _, rfl, rfl, rfl, id⟩

theorem Grows.trans {a b c : Fixed} (h : Grows a b) (h' : Grows b c) : Grows a c :=
  ⟨h.last.trans h'.last, h'.fuse.trans h.fuse, h'.state.trans h.state, h'.root.trans h.root, fun hs => h'.storage (h.storage hs)⟩

theorem Grows.above {a b : Fixed} {m : Nat × Bool} (h : Grows a b) (ha : Above m a.kept) : Above m b.kept :=
  ⟨ha.1.trans h.last, h.fuse.trans ha.2⟩

theorem Grows.of_kept {a b : Fixed} (h : b.kept = a.kept) (hstate : b.state = a.state) (hroot : b.root = a.root)
    (hstorage : a.storage = [] → b.storage = []) : Grows a b :=
  ⟨(congrArg Prod.fst h).ge, congrArg Prod.snd h, hstate, hroot, hstorage⟩

@[simp] theorem grows_ite (b : Fixed) (c : Prop) [Decidable c] (x y : Fixed) :
    Grows b (if c then x else y) ↔ if c then Grows b x else Grows b y := by
  split <;> rfl

@[simp] theorem Drive.assign_grows {b} (input) {d : Drive} (hb : Grows b d.fixed) : Grows b (d.assign input).2.fixed := by
  have hframe := Drive.assign_frame input d
  obtain ⟨v, e, heq, hlt, hkv, -⟩ := Drive.assign_eq input d
  rw [heq] at hframe ⊢
  have hsec : e.sec = d.sec := hframe.sec rfl
  have hkeys : e.keys = d.keys := hframe.keys rfl
  refine hb.trans ⟨?_, congrArg Sec.zeroFuse hsec, congrArg Sec.state hsec, congrArg Keys.root hkeys, fun h => (congrArg Keys.storage hkeys).trans h⟩
  exact hlt.le.trans_eq (congrArg Kv.lastVersion hkv).symm

theorem Drive.drawNonce_none {t : Nat} {d : Drive} (h : d.keys.storage = []) : d.drawNonce t = none := by
  have hslot : ∀ i, (d.stslot i).state = 0x38 := fun i => by rw [Drive.stslot, h]; rfl
  simp [Drive.drawNonce, Drive.slotIn, hslot]

theorem Drive.drawNonce_root {t : Nat} {d z : Drive} {y : Nat × Nat} (h : d.drawNonce t = some (y, z)) : z.keys.root = d.keys.root := by
  unfold Drive.drawNonce at h
  split at h
  · cases h
  · dsimp only at h
    split at h
    · cases h
    · obtain ⟨-, rfl⟩ := Prod.mk.inj (Option.some.inj h)
      split <;> split <;> simp [Drive.setStslot]

theorem Drive.drawNonce_grows {b t} {d : Drive} {y} {z : Drive} (h : d.drawNonce t = some (y, z)) (hb : Grows b d.fixed) : Grows b z.fixed :=
  hb.trans (.of_kept (Drive.drawNonce_kept h) (congrArg Sec.state ((Drive.drawNonce_frame (hr := h) ..).sec rfl)) (Drive.drawNonce_root h)
    fun hs => by simp [Drive.drawNonce_none hs] at h)

theorem drawSeals_grows {b tenant ms} {d : Drive} {y} {z : Drive} (h : drawSeals tenant ms d = some (y, z)) (hb : Grows b d.fixed) :
    Grows b z.fixed := by
  induction ms generalizing d y with
  | nil =>
    obtain ⟨-, rfl⟩ : [] = y ∧ d = z := by simpa [drawSeals] using h
    exact hb
  | cons m ms ih =>
    rw [drawSeals] at h
    split at h
    · obtain ⟨⟨l, w⟩, hl, heq⟩ := Option.map_eq_some_iff.mp h
      obtain ⟨-, rfl⟩ : _ ∧ w = z := by simpa using heq
      exact ih hl hb
    split at h
    · cases h
    · rename_i hdraw
      obtain ⟨⟨l, w⟩, hl, heq⟩ := Option.map_eq_some_iff.mp h
      obtain ⟨-, rfl⟩ : _ ∧ w = z := by simpa using heq
      exact ih hl (Drive.drawNonce_grows hdraw hb)

@[simp] theorem Drive.writeMember_grows {b} (r) (tenant) (m) (i) (sl) {d : Drive} (hb : Grows b d.fixed) :
    Grows b (Drive.writeMember r tenant m i sl d).fixed := by
  unfold Drive.writeMember
  simp [hb]

theorem if_room_fixed {c : Prop} [Decidable c] {p : Option Nat × Drive} {d e : Drive} {st : Option Nat} (hp : p.2.fixed = d.fixed)
    (h : (if c then p else (none, d)) = (st, e)) : e.fixed = d.fixed := by
  split at h
  · rwa [h] at hp
  · exact congrArg (·.2.fixed) h.symm

@[simp] theorem batchRun_grows {b} (o) (n) {d : Drive} (hb : Grows b d.fixed) : Grows b (batchRun o n d).fixed := by
  induction n generalizing d with
  | zero => exact hb
  | succ n ih =>
    rw [batchRun]
    split
    · exact hb
    dsimp only
    split
    · simp [hb]
    split
    · exact ih (by simp [hb])
    split
    · exact ih (by simp [hb])
    split
    · exact ih (by simp [hb])
    split
    · exact hb
    split
    · split
      · exact hb
      · exact ih (by simp [hb])
    split
    · exact ih (by simp [hb])
    split
    · exact ih (by simp [hb])
    split
    · exact ih (by simp [hb])
    split <;> rename_i hroom
    · exact ih (by simpa [if_room_fixed (Drive.roomFor_fixed ..) hroom] using hb)
    · have hkept := if_room_fixed (Drive.roomFor_fixed ..) hroom
      split
      · exact ih (by simpa [hkept] using hb)
      · rename_i hdraw
        exact ih (Drive.writeMember_grows _ _ _ _ _ (Drive.drawNonce_grows hdraw (by simpa [hkept] using hb)))

@[simp] theorem commitAtomic_grows {b} (r) (tenant) (ms) {d : Drive} (hb : Grows b d.fixed) : Grows b (commitAtomic r tenant ms d).fixed := by
  unfold commitAtomic
  split
  · simp [hb]
  · rename_i h
    simp [drawSeals_grows h hb]

@[simp] theorem prepareTxn_grows {b} (r) (tenant) (ms) {d : Drive} (hb : Grows b d.fixed) : Grows b (prepareTxn r tenant ms d).fixed := by
  unfold prepareTxn
  split
  · simp [hb]
  · rename_i h
    simp [drawSeals_grows h hb]

theorem Drive.withReq_grows {b} {f : Req → Drive → Drive} (o) (ops) {d : Drive} (hb : Grows b d.fixed) (hf : ∀ r, Grows b (f r d).fixed) :
    Grows b (d.withReq o ops f).fixed := by
  unfold Drive.withReq
  split
  · split
    · exact hf _
    · exact hb
  · exact hb

@[simp] theorem batchAtomicRequest_grows {b} (o) {d : Drive} (hb : Grows b d.fixed) : Grows b (batchAtomicRequest o d).fixed := by
  unfold batchAtomicRequest
  refine Drive.withReq_grows _ _ hb fun r => ?_
  extract_lets +onlyGivenNames tenant
  split
  · simp [hb]
  extract_lets +onlyGivenNames ms
  split
  · simp [hb]
  extract_lets +onlyGivenNames away cross
  clear_value away cross
  split
  · exact hb
  split
  · simp [hb]
  split
  · exact hb
  split
  · simp [hb]
  split
  · simp [hb]
  split
  · exact hb
  split
  · simp [hb]
  split
  · exact hb
  split
  · exact hb
  split
  · simp [hb]
  have hroom := roomForAll_fixed ms d
  split <;> rename_i heq <;> rw [heq] at hroom <;> simp [hroom, hb]

@[simp] theorem Drive.batchAlone_grows {b} (r) {d : Drive} (hb : Grows b d.fixed) : Grows b (Drive.batchAlone r d).fixed := by
  unfold Drive.batchAlone
  simp [hb]

@[simp] theorem rerunAlone_grows {b} (rs) {d : Drive} (hb : Grows b d.fixed) : Grows b (rerunAlone rs d).fixed := by
  induction rs generalizing d with
  | nil => exact hb
  | cons r rs ih =>
    rw [rerunAlone]
    exact ih (by simp [hb])

@[simp] theorem Drive.aloneNow_grows {b} {d : Drive} (hb : Grows b d.fixed) : Grows b (Drive.aloneNow d).fixed := by
  unfold Drive.aloneNow
  simp [hb]

@[simp] theorem Drive.becomeHolder_grows {b} (epoch) {d : Drive} (hb : Grows b d.fixed) : Grows b (Drive.becomeHolder epoch d).fixed := by
  unfold Drive.becomeHolder
  simp [hb]

@[simp] theorem witnessCtl_grows {b} (ch) (v) {d : Drive} (hb : Grows b d.fixed) : Grows b (witnessCtl ch v d).dev.fixed := by
  unfold witnessCtl
  simp [hb]

end Sys2Proof.Machine
end

-- Proofs of transactions and ordering: the functions that assign or install versions.
section
namespace Sys2Proof.Machine
open Sys2Proof

@[simp] theorem Drive.withReq_above {b} {f : Req → Drive → Drive} (hf : ∀ r d, Above b d.fixed.kept → Above b (f r d).fixed.kept) (o)
    (ops) {d : Drive} (hb : Above b d.fixed.kept) :
    Above b (d.withReq o ops f).fixed.kept := by
  unfold Drive.withReq
  split
  · split
    · exact hf _ _ hb
    · exact hb
  · exact hb

@[simp] theorem Drive.withPhase_above {b} {f : Req → Drive → Drive} (hf : ∀ r d, Above b d.fixed.kept → Above b (f r d).fixed.kept) (o)
    (ps) {d : Drive} (hb : Above b d.fixed.kept) :
    Above b (d.withPhase o ps f).fixed.kept := by
  unfold Drive.withPhase
  split
  · split
    · exact hf _ _ hb
    · exact hb
  · exact hb

@[simp] theorem Drive.fromRing_above {b} {k : Drive → Drive} (hf : ∀ d, Above b d.fixed.kept → Above b (k d).fixed.kept) (src) (seq) {d : Drive}
    (hb : Above b d.fixed.kept) :
    Above b (d.fromRing src seq k).fixed.kept := by
  unfold Drive.fromRing
  dsimp only
  split
  · simp [hb]
  · exact hf _ (by simp [hb])

@[simp] theorem Drive.assign_above {b} (input) {d : Drive} (hb : Above b d.fixed.kept) :
    Above b (Drive.assign input d).2.fixed.kept := (Drive.assign_grows _ (.refl _)).above hb

@[simp] theorem Drive.raiseTick_above {b} (v) {d : Drive} (hb : Above b d.fixed.kept) :
    Above b (Drive.raiseTick v d).fixed.kept := ⟨hb.1.trans ((Nat.le_max_left ..).trans_eq (Drive.raiseTick_last v d).symm),
    (congrArg Sec.zeroFuse (Drive.raiseTick_sec v d)).trans hb.2⟩

@[simp] theorem commitLocated_above {b} (r) (ns) (tenant) (g) {d : Drive} (hb : Above b d.fixed.kept) :
    Above b (commitLocated r ns tenant g d).fixed.kept := by
  unfold commitLocated
  split
  · simp [hb]
  split
  · exact hb
  split
  · exact hb
  · rename_i ha
    simp [Drive.allocate_kept ha, hb]

@[simp] theorem putCommit_above {b} (o) {d : Drive} (hb : Above b d.fixed.kept) : Above b (putCommit o d).fixed.kept := by
  unfold putCommit
  refine Drive.withPhase_above (fun r d hb => ?_) _ _ hb
  extract_lets +onlyGivenNames tenant ns key g
  refine .ite (.ite (by simp [hb]) (.ite (by simp [hb]) hb)) (.ite hb (.ite (by simp [hb]) (.ite (by simp [hb]) (.ite (by simp [hb])
    (.ite (by simp [hb]) (.ite (by simp [hb]) (.ite (by simp [hb]) (.ite (by simp [hb]) (.ite (by simp [hb]) ?_)))))))))
  extract_lets +onlyGivenNames noted cur
  have hn : Above b noted.fixed.kept := by
    dsimp only [noted]
    split <;> simp [hb]
  clear_value noted cur
  split
  · simp [hn]
  · have hroom := Drive.roomFor_fixed r.hdr.ns key g cur.isNone noted
    split <;> rename_i heq <;> rw [heq] at hroom <;> replace hroom := congrArg Fixed.kept hroom <;> dsimp only at hroom
    · simp [hroom, hn]
    · refine .ite (by simp [hroom, hn]) (.ite (by simpa [hroom] using hn) ?_)
      simp [hroom, hn]

@[simp] theorem deleteRequest_above {b} (o) {d : Drive} (hb : Above b d.fixed.kept) : Above b (deleteRequest o d).fixed.kept := by
  unfold deleteRequest
  refine Drive.withReq_above (fun r d hb => ?_) _ _ hb
  dsimp only
  split
  · simp [hb]
  split
  · simp [hb]
  · split
    · exact hb
    · simp [hb]
  split
  · simp [hb]
  split
  · split <;> simp [hb]
  split
  · exact hb
  split
  · simp [hb]
  split
  · simp [hb]
  split
  · simp [hb]
  split
  · simp [hb]
  · rename_i hdraw
    have hkept := Drive.drawNonce_kept hdraw
    simp_all

@[simp] theorem locChecked_above {b} {serve : Req → Token → Drive → Drive} (hf : ∀ r t d, Above b d.fixed.kept → Above b (serve r t d).fixed.kept)
    (o) (op) {d : Drive} (hb : Above b d.fixed.kept) :
    Above b (locChecked o op serve d).fixed.kept := by
  unfold locChecked
  refine Drive.withReq_above (fun r d hb => ?_) _ _ hb
  dsimp only
  split
  · simp [hb]
  · simp [hf, hb]

@[simp] theorem locDeleteRequest_above {b} (o) {d : Drive} (hb : Above b d.fixed.kept) : Above b (locDeleteRequest o d).fixed.kept := by
  unfold locDeleteRequest
  refine locChecked_above (fun r t d hb => ?_) _ _ hb
  dsimp only
  split
  · simp [hb]
  split
  · simp [hb]
  split
  · simp [hb]
  split
  · simp [hb]
  · rename_i hdraw
    simp [Drive.drawNonce_kept hdraw, hb]

@[simp] theorem batchRun_above {b} (o) (n) {d : Drive} (hb : Above b d.fixed.kept) :
    Above b (batchRun o n d).fixed.kept := (batchRun_grows _ _ (.refl _)).above hb

@[simp] theorem batchRequest_above {b} (o) {d : Drive} (hb : Above b d.fixed.kept) : Above b (batchRequest o d).fixed.kept := by
  unfold batchRequest
  refine Drive.withReq_above (fun r d hb => ?_) _ _ hb
  split <;> simp [hb]

@[simp] theorem batchAtomicRequest_above {b} (o) {d : Drive} (hb : Above b d.fixed.kept) :
    Above b (batchAtomicRequest o d).fixed.kept := (batchAtomicRequest_grows _ (.refl _)).above hb

@[simp] theorem deadlineMissed_above {b} (o) {d : Drive} (hb : Above b d.fixed.kept) : Above b (deadlineMissed o d).fixed.kept := by
  unfold deadlineMissed
  split <;> simp [hb]

@[simp] theorem Drive.fromTwin_above {b} {k : Drive → Drive} (hf : ∀ d, Above b d.fixed.kept → Above b (k d).fixed.kept) {d : Drive}
    (hb : Above b d.fixed.kept) :
    Above b (d.fromTwin k).fixed.kept := by
  unfold Drive.fromTwin
  split
  · exact hf _ (by simp [hb])
  · exact hb

@[simp] theorem Drive.fromTwinAwake_above {b} {k : Drive → Drive} (hf : ∀ d, Above b d.fixed.kept → Above b (k d).fixed.kept) {d : Drive}
    (hb : Above b d.fixed.kept) :
    Above b (d.fromTwinAwake k).fixed.kept := by
  unfold Drive.fromTwinAwake
  exact Drive.fromTwin_above hf (by simp [hb])

@[simp] theorem Drive.onceTwin_above {b} {k : Drive → Drive} (hf : ∀ d, Above b d.fixed.kept → Above b (k d).fixed.kept) (op) {d : Drive}
    (hb : Above b d.fixed.kept) :
    Above b (d.onceTwin op k).fixed.kept := by
  unfold Drive.onceTwin
  split <;> simp [hf, hb]

@[simp] theorem fwdWrite_above {b} (opId) (aux) (tag) (h) (body) {d : Drive} (hb : Above b d.fixed.kept) :
    Above b (fwdWrite opId aux tag h body d).fixed.kept := by
  unfold fwdWrite
  refine Drive.fromTwinAwake_above (fun d hb => Drive.onceTwin_above (fun d hb => ?_) _ hb) hb
  dsimp only
  split
  · simp [hb]
  · simp [hb]
  · simp [hb]
  · simp [hb]
  · split <;> simp [hb]

@[simp] theorem Drive.partDone_above {b} (o) (opId) (x) {d : Drive} (hb : Above b d.fixed.kept) : Above b (Drive.partDone o opId x d).fixed.kept := by
  unfold Drive.partDone
  split
  · exact hb
  split
  · exact hb
  have hput : ∀ r, Above b (d.putReq r).fixed.kept := fun r => by simp [hb]
  dsimp only
  split
  · exact batchRun_above _ _ (hput _)
  · rw [Drive.settle_fixed]
    exact hput _

@[simp] theorem fwdReply_above {b} (opId) (h) (body) {d : Drive} (hb : Above b d.fixed.kept) : Above b (fwdReply opId h body d).fixed.kept := by
  unfold fwdReply
  refine Drive.fromTwinAwake_above (fun d hb => ?_) hb
  dsimp only
  repeat' split
  all_goals simp [hb]

@[simp] theorem Drive.installRec_above {b} (r) (mirrorOp) {d : Drive} (hb : Above b d.fixed.kept) :
    Above b (Drive.installRec r mirrorOp d).fixed.kept := by
  unfold Drive.installRec
  simp [hb]

@[simp] theorem installAll_above {b} (mirrorOp) (l) {d : Drive} (hb : Above b d.fixed.kept) : Above b (installAll mirrorOp l d).fixed.kept := by
  induction l generalizing d with
  | nil => exact hb
  | cons x l ih => exact ih (Drive.installRec_above _ _ hb)

@[simp] theorem mirrorMsg_above {b} (opId) (flags) (version) (aux) (final) (bytes) (recs) {d : Drive} (hb : Above b d.fixed.kept) :
    Above b (mirrorMsg opId flags version aux final bytes recs d).fixed.kept := by
  unfold mirrorMsg
  refine Drive.fromTwinAwake_above (fun d hb => ?_) hb
  dsimp only
  repeat' split
  all_goals simp [hb]

@[simp] theorem mirrorAck_above {b} (opId) (programmed) {d : Drive} (hb : Above b d.fixed.kept) :
    Above b (mirrorAck opId programmed d).fixed.kept := by
  unfold mirrorAck
  refine Drive.fromTwinAwake_above (fun d hb => ?_) hb
  dsimp only
  repeat' split
  all_goals simp [hb]

@[simp] theorem decideTxn_above {b} (r) (outcomes) {d : Drive} (hb : Above b d.fixed.kept) : Above b (decideTxn r outcomes d).fixed.kept := by
  unfold decideTxn
  simp [hb]

@[simp] theorem decideWaiting_above {b} (l) {d : Drive} (hb : Above b d.fixed.kept) : Above b (decideWaiting l d).fixed.kept := by
  induction l generalizing d with
  | nil => exact hb
  | cons r rs ih =>
    rw [decideWaiting]
    refine ih ?_
    split
    · exact decideTxn_above _ _ hb
    · exact hb

@[simp] theorem preparedMsg_above {b} (txn) (outcomes) {d : Drive} (hb : Above b d.fixed.kept) : Above b (preparedMsg txn outcomes d).fixed.kept := by
  unfold preparedMsg
  refine Drive.fromTwinAwake_above (fun d hb => ?_) hb
  split <;> simp [hb]

@[simp] theorem Drive.installPrepared_above {b} (p) (v) {d : Drive} (hb : Above b d.fixed.kept) :
    Above b (Drive.installPrepared p v d).fixed.kept := by
  unfold Drive.installPrepared
  simp [hb]

@[simp] theorem commitMsg_above {b} (opId) (txn) (version) {d : Drive} (hb : Above b d.fixed.kept) :
    Above b (commitMsg opId txn version d).fixed.kept := by
  unfold commitMsg
  refine Drive.fromTwinAwake_above (fun d hb => ?_) hb
  split <;> simp [hb]

@[simp] theorem endForwardedParts_above {b} (o) (l) {d : Drive} (hb : Above b d.fixed.kept) : Above b (endForwardedParts o l d).fixed.kept := by
  induction l generalizing d with
  | nil => exact hb
  | cons p ps ih =>
    rw [endForwardedParts]
    refine ih ?_
    split
    · exact Drive.partDone_above _ _ _ (by simp [hb])
    · exact hb

@[simp] theorem endForwardedReads_above {b} (l) {d : Drive} (hb : Above b d.fixed.kept) : Above b (endForwardedReads l d).fixed.kept := by
  induction l generalizing d with
  | nil => exact hb
  | cons r rs ih =>
    rw [endForwardedReads]
    refine ih (.ite (endForwardedParts_above _ _ hb) (.ite ?_ (.ite ?_ hb)))
    · simp [hb]
    · simp [hb]

@[simp] theorem Drive.twinLost_above {b} {d : Drive} (hb : Above b d.fixed.kept) : Above b (Drive.twinLost d).fixed.kept := by
  unfold Drive.twinLost
  simp [hb]

@[simp] theorem twinLinkDownTimeout_above {b} {d : Drive} (hb : Above b d.fixed.kept) : Above b (twinLinkDownTimeout d).fixed.kept := by
  unfold twinLinkDownTimeout
  simp [hb]

@[simp] theorem heartbeatSilence_above {b} {d : Drive} (hb : Above b d.fixed.kept) : Above b (heartbeatSilence d).fixed.kept := by
  unfold heartbeatSilence
  simp [hb]

@[simp] theorem Drive.aloneNow_above {b} {d : Drive} (hb : Above b d.fixed.kept) :
    Above b (Drive.aloneNow d).fixed.kept := (Drive.aloneNow_grows (.refl _)).above hb

@[simp] theorem Drive.becomeHolder_above {b} (epoch) {d : Drive} (hb : Above b d.fixed.kept) :
    Above b (Drive.becomeHolder epoch d).fixed.kept := (Drive.becomeHolder_grows _ (.refl _)).above hb

@[simp] theorem resyncData_above {b} (recs) (live) (tables) (counters) (aux) {d : Drive} (hb : Above b d.fixed.kept) :
    Above b (resyncData recs live tables counters aux d).fixed.kept := by
  unfold resyncData
  refine Drive.fromTwinAwake_above (fun d hb => .ite hb ?_) hb
  extract_lets +onlyGivenNames wins found lost d1 src d2 absent d3 d4
  have h1 : Above b d1.fixed.kept := by
    dsimp only [d1]
    split
    · exact hb
    · rw [Drive.event_fixed, foldl_kept (fun d c => Drive.discardChange_kept d c)]
      exact hb
  have h2 : Above b d2.fixed.kept := by
    dsimp only [d2]
    refine installAll_above _ _ ?_
    split <;> simp [h1]
  have h3 : Above b d3.fixed.kept := by simp [d3, h2]
  have h4 : Above b d4.fixed.kept := by
    dsimp only [d4]
    split
    · split <;> simp [h3]
    · exact h3
  clear_value d4
  simp [h4]

@[simp] theorem homeReturn_above {b} (version) {d : Drive} (hb : Above b d.fixed.kept) : Above b (homeReturn version d).fixed.kept := by
  unfold homeReturn
  refine Drive.fromTwinAwake_above (fun d hb => ?_) hb
  dsimp only
  repeat' split
  all_goals simp [hb]

@[simp] theorem heartbeatSend_above {b} {d : Drive} (hb : Above b d.fixed.kept) : Above b (heartbeatSend d).fixed.kept := by
  unfold heartbeatSend
  simp [hb]

@[simp] theorem twinRelease_above {b} (o) {d : Drive} (hb : Above b d.fixed.kept) : Above b (twinRelease o d).fixed.kept := by
  unfold twinRelease
  refine Drive.withReq_above (fun r d hb => ?_) _ _ hb
  simp [hb]

@[simp] theorem leaseGrant_above {b} (src) (seq) (epoch) {d : Drive} (hb : Above b d.fixed.kept) :
    Above b (leaseGrant src seq epoch d).fixed.kept := by
  unfold leaseGrant
  refine Drive.fromRing_above (fun d hb => ?_) _ _ hb
  split <;> simp [hb]

@[simp] theorem shelfAdmit_above {b} (o) {d : Drive} (hb : Above b d.fixed.kept) : Above b (shelfAdmit o d).fixed.kept := by
  unfold shelfAdmit
  split <;> simp [hb]

@[simp] theorem deltaDrain_above {b} {d : Drive} (hb : Above b d.fixed.kept) : Above b (deltaDrain d).fixed.kept := by
  unfold deltaDrain
  simp [hb]

@[simp] theorem Drive.cleanShutdown_above {b} {d : Drive} (hb : Above b d.fixed.kept) : Above b (Drive.cleanShutdown d).fixed.kept := by
  unfold Drive.cleanShutdown
  simp [hb]

@[simp] theorem Drive.shutDown_above {b} {d : Drive} (hb : Above b d.fixed.kept) : Above b (Drive.shutDown d).fixed.kept := by
  unfold Drive.shutDown
  simp [hb]

@[simp] theorem Drive.enterError_above {b} (test) (pair) {d : Drive} (hb : Above b d.fixed.kept) :
    Above b (Drive.enterError test pair d).fixed.kept := by
  unfold Drive.enterError
  simp [hb]

@[simp] theorem pwrdisAssert_above {b} (how) {d : Drive} (hb : Above b d.fixed.kept) : Above b (pwrdisAssert how d).fixed.kept := by
  unfold pwrdisAssert
  dsimp only
  repeat' split
  all_goals simp [hb]

@[simp] theorem Drive.thermalProtect_above {b} (c) (sensor) (completes) {d : Drive} (hb : Above b d.fixed.kept) :
    Above b (Drive.thermalProtect c sensor completes d).fixed.kept := by
  unfold Drive.thermalProtect
  simp [hb]

@[simp] theorem tempSample_above {b} (readings) (completes) {d : Drive} (hb : Above b d.fixed.kept) :
    Above b (tempSample readings completes d).fixed.kept := by
  unfold tempSample
  simp [hb]

@[simp] theorem Drive.bringIn_above {b} (ns) (x) {d : Drive} (hb : Above b d.fixed.kept) : Above b (Drive.bringIn ns x d).2.fixed.kept := by
  unfold Drive.bringIn
  extract_lets +onlyGivenNames n
  have hin : ∀ {st e}, (if x.deletion = true then (none, d) else
      d.roomFor ns x.key (recGranules x) ((d.find? ns x.key).isNone)) = (st, e) → Above b e.fixed.kept := fun h => by
    split at h
    · obtain ⟨-, rfl⟩ := Prod.mk.inj h
      exact hb
    · have hroom := Drive.roomFor_fixed ns x.key (recGranules x) (d.find? ns x.key).isNone d
      rw [h] at hroom
      exact (congrArg Fixed.kept hroom).symm ▸ hb
  split <;> rename_i heq
  · exact hin heq
  · split
    · exact hin heq
    · rename_i hdraw
      have := hin heq
      simp [Drive.drawNonce_kept hdraw, this]

@[simp] theorem Drive.writeOwn_above {b} (ns) (key) (value) {d : Drive} (hb : Above b d.fixed.kept) :
    Above b (Drive.writeOwn ns key value d).2.fixed.kept := by
  unfold Drive.writeOwn
  dsimp only
  have hroom := Drive.roomFor_fixed ns key (granules key.length value.length) ((d.find? ns key).isNone) d
  split <;> rename_i heq <;> rw [heq] at hroom <;> replace hroom := congrArg Fixed.kept hroom <;> dsimp only at hroom
  · simp [hroom, hb]
  split
  · simp [hroom, hb]
  · simp [hroom, hb]
  split
  · simp [hroom, hb]
  · rename_i hdraw
    simp [Drive.drawNonce_kept hdraw, hroom, hb]

@[simp] theorem migrateRecs_above {b} (src) (ns) (job) (l) {d : Drive} (hb : Above b d.fixed.kept) :
    Above b (migrateRecs src ns job l d).fixed.kept := by
  induction l generalizing d with
  | nil => exact hb
  | cons r rs ih =>
    rw [migrateRecs]
    have hin := Drive.bringIn_above ns r hb
    split <;> rename_i heq <;> rw [heq] at hin
    · exact ih hin
    · simpa using hin

@[simp] theorem migrateData_above {b} (src) (seq) (ns) (job) (recs) {d : Drive} (hb : Above b d.fixed.kept) :
    Above b (migrateData src seq ns job recs d).fixed.kept := by
  unfold migrateData
  refine Drive.fromRing_above (fun d hb => ?_) _ _ hb
  split <;> simp [hb]

@[simp] theorem StepOut.kept_ite (c : Prop) [Decidable c] (x y : StepOut) :
    (if c then x else y).2.2.fixed.kept = if c then x.2.2.fixed.kept else y.2.2.fixed.kept := by
  split <;> rfl

@[simp] theorem clipStep_kept (j) (x) (d : Drive) : (clipStep j x d).2.2.fixed.kept = d.fixed.kept := by
  unfold clipStep
  extract_lets +onlyGivenNames clip next
  have hclip : ∀ n, (clip n d).2.2.fixed.kept = d.fixed.kept := fun n => Drive.beginClip_kept ..
  have hnext : (next d).2.2.fixed.kept = d.fixed.kept := by
    dsimp only [next]
    split
    · split
      · exact hclip _
      · rfl
    split
    · rfl
    split
    · exact hclip _
    · rfl
  clear_value next
  split
  · simp [hnext]
  · exact hnext

@[simp] theorem patrolStep_kept (j) (x) (d : Drive) : (patrolStep j x d).2.2.fixed.kept = d.fixed.kept := by
  unfold patrolStep
  dsimp only
  split <;> simp

@[simp] theorem sanitizeStep_kept (j) (x) (d : Drive) : (sanitizeStep j x d).2.2.fixed.kept = d.fixed.kept := by
  unfold sanitizeStep
  dsimp only
  split
  · split <;> simp
  split
  · rfl
  split
  · rfl
  split <;> simp

@[simp] theorem rekeyStep_kept (j) (x) (d : Drive) : (rekeyStep j x d).2.2.fixed.kept = d.fixed.kept := by
  unfold rekeyStep
  dsimp only
  split
  · rfl
  split
  · rfl
  split
  · rfl
  split
  · rfl
  split
  · split
    · rfl
    · rename_i h
      simp [Drive.drawNonce_kept h]
  · split
    · simp
    split
    · rfl
    · rename_i ha
      split
      · rfl
      · rename_i h
        simp [Drive.drawNonce_kept h, Drive.allocate_kept ha]

@[simp] theorem retireStep_kept (j) (d : Drive) : (retireStep j d).2.2.fixed.kept = d.fixed.kept := by
  unfold retireStep
  dsimp only
  split
  · simp
  split
  · rfl
  split
  · simp
  split
  · rfl
  · rename_i h
    simp [Drive.takeSubstitute_kept h]

@[simp] theorem resyncStep_kept (j) (d : Drive) : (resyncStep j d).2.2.fixed.kept = d.fixed.kept := by
  unfold resyncStep
  simp

theorem exportStep_above {b} (j) (x) {d : Drive} (hb : Above b d.fixed.kept) : Above b (exportStep j x d).2.2.fixed.kept := by
  unfold exportStep
  split
  · exact hb
  split
  · exact hb
  extract_lets +onlyGivenNames live total j part
  have hpart : ∀ n, Above b (part n).2.2.fixed.kept := fun n => by
    have hown := Drive.writeOwn_above j.p0 (partKey j.id j.parts) (sealPart (d.partSeal j.id) j.parts (j.pack.take n)) hb
    dsimp only [part]
    split <;> rename_i heq <;> rwa [heq] at hown
  clear_value part
  split
  · exact hpart _
  split
  · split
    · exact hb
    · exact hpart _
  dsimp only
  split
  · exact hb
  · split <;> exact hb

theorem importStep_above {b} (j) (x) {d : Drive} (hb : Above b d.fixed.kept) : Above b (importStep j x d).2.2.fixed.kept := by
  unfold importStep
  split
  · simp [hb]
  split
  · exact hb
  split
  · exact hb
  split
  · exact hb
  · rename_i r _ _
    have hin := Drive.bringIn_above j.ns { r with deletion := false } hb
    split <;> rename_i heq <;> rwa [heq] at hin

theorem selftestStep_above {b} (j) (x) {d : Drive} (hb : Above b d.fixed.kept) : Above b (selftestStep j x d).2.2.fixed.kept := by
  unfold selftestStep
  dsimp only
  split
  · split <;> simp [hb]
  split
  · split
    · simp [hb]
    · split <;> simp [hb]
  · simp [hb]

@[simp] theorem kindStep_above {b} (j) (x) {d : Drive} (hb : Above b d.fixed.kept) : Above b (kindStep j x d).2.2.fixed.kept := by
  unfold kindStep
  split
  · simp [hb]
  · simp [hb]
  · simp [hb]
  · simp [hb]
  · simp [hb]
  · simp [hb]
  · simp [hb]
  · exact exportStep_above j x hb
  · exact importStep_above j x hb
  · exact selftestStep_above j x hb
  · exact hb

@[simp] theorem jobStep_above {b} (id) (x) {d : Drive} (hb : Above b d.fixed.kept) : Above b (jobStep id x d).fixed.kept := by
  unfold jobStep
  split
  · exact hb
  · rename_i j _
    have hkind := kindStep_above j x hb
    split
    · simp [hb]
    split
    · split <;> rename_i heq <;> rw [heq] at hkind <;> dsimp only at hkind
      · simp [hkind]
      · split <;> simp [hkind]
    split
    · split <;> rename_i heq <;> rw [heq] at hkind <;> dsimp only at hkind
      · simp [hb]
      · simp [hkind]
    · exact hb

@[simp] theorem Drive.stopForStart_above {b} {d : Drive} (hb : Above b d.fixed.kept) : Above b (Drive.stopForStart d).fixed.kept := by
  unfold Drive.stopForStart
  simp [hb]

@[simp] theorem fwActivateRestart_above {b} (o) (twinDl) (twinDigest) {d : Drive} (hb : Above b d.fixed.kept) :
    Above b (fwActivateRestart o twinDl twinDigest d).fixed.kept := by
  unfold fwActivateRestart
  refine Drive.withReq_above (fun r d hb => ?_) _ _ hb
  dsimp only
  repeat' split
  all_goals simp [hb]

end Sys2Proof.Machine
end

-- Proofs of transactions and ordering: zeroisation (R641) and the writes of registers that can begin it.
section
namespace Sys2Proof.Machine
open Sys2Proof

/-- A blown fuse leaves the drive in ZEROISING or ZEROISED, without the root and without a storage key. -/
def Fixed.Zeroed (f : Fixed) : Prop := f.fuse = true → (f.state = 0xA3 ∨ f.state = 0xA4) ∧ f.root = false ∧ f.storage = []

theorem Drive.zeroed_iff (d : Drive) : d.Zeroed ↔ d.fixed.Zeroed :=
  ⟨fun h hf => ⟨h.state hf, h.keys hf⟩, fun h => ⟨fun hf => (h hf).1, fun hf => (h hf).2⟩⟩

/-- No version is taken back, a blown fuse stays blown, and a zeroised drive stays zeroised and without keys. -/
structure Keeps (b f : Fixed) : Prop where
  last : b.last ≤ f.last
  blown : b.fuse = true → f.fuse = true
  zeroed : b.Zeroed → f.Zeroed

@[simp] theorem Keeps.refl (b : Fixed) : Keeps b b := ⟨Nat.le_refl _, id, id⟩

theorem Keeps.trans {a b c : Fixed} (h : Keeps a b) (h' : Keeps b c) : Keeps a c :=
  ⟨h.last.trans h'.last, fun hf => h'.blown (h.blown hf), fun hz => h'.zeroed (h.zeroed hz)⟩

theorem Grows.zeroed {a b : Fixed} (h : Grows a b) (hz : a.Zeroed) : b.Zeroed := fun hf => by
  obtain ⟨hstate, hroot, hstorage⟩ := hz (h.fuse.symm.trans hf)
  exact ⟨h.state.symm ▸ hstate, h.root.trans hroot, h.storage hstorage⟩

theorem Grows.keeps {a b : Fixed} (h : Grows a b) : Keeps a b := ⟨h.last, fun hf => h.fuse.trans hf, h.zeroed⟩

/-- While the fuse is not blown, there is nothing to keep but that and the versions. -/
theorem Above.keeps {a b : Fixed} (h : Above a.kept b.kept) (hf : a.fuse = false) : Keeps a b :=
  ⟨h.1, fun ht => absurd (ht.symm.trans hf) (by decide), fun _ ht => absurd (ht.symm.trans (h.2.trans hf)) (by decide)⟩

theorem Keeps.of_kept {a b : Fixed} (h : b.kept = a.kept) (hz : a.Zeroed → b.Zeroed) : Keeps a b :=
  ⟨(congrArg Prod.fst h).ge, fun hf => (congrArg Prod.snd h).trans hf, hz⟩

@[simp] theorem keeps_ite (b : Fixed) (c : Prop) [Decidable c] (x y : Fixed) :
    Keeps b (if c then x else y) ↔ if c then Keeps b x else Keeps b y := by
  split <;> rfl

/-! ## Zeroisation -/

theorem Drive.zeroiseNext_zeroed {d : Drive} (hs : d.sec.state = 0xA3) (hr : d.keys.root = false) (hk : d.keys.storage = []) :
    d.zeroiseNext.fixed.Zeroed := by
  have herase : d.fixed.Zeroed := fun _ => ⟨.inl hs, hr, hk⟩
  have hdone : ({ d with sec.state := 0xA4, mod.devState := 0xD9 } : Drive).fixed.Zeroed := fun _ => ⟨.inr rfl, hr, hk⟩
  unfold Drive.zeroiseNext
  split
  · rwa [Drive.optfWrite_fixed]
  split
  · rwa [Drive.optfWrite_fixed]
  split
  · rwa [Drive.optfWrite_fixed]
  split
  · rwa [Drive.optfWrite_fixed]
  · rwa [Drive.event_fixed]

theorem Drive.fuseCheck_zeroed {d : Drive} (h : d.sec.zeroFuse = true → d.keys.root = false ∧ d.keys.storage = []) :
    d.fuseCheck.fixed.Zeroed := by
  unfold Drive.fuseCheck
  split
  · rename_i hf
    exact fun ht => by simp [show d.sec.zeroFuse = true from ht] at hf
  · rename_i hf
    obtain ⟨hr, hk⟩ := h (by simpa using hf)
    exact Drive.zeroiseNext_zeroed rfl hr hk

/-- Zeroisation on a drive that is rid of its keys, with or without the power that a flush drew on. -/
theorem Drive.zeroised_keeps {d e : Drive} (flushed : Bool) (hl : e.kv.lastVersion = d.kv.lastVersion) (hf : e.sec.zeroFuse = true)
    (hs : e.sec.state = 0xA3) (hr : e.keys.root = false) (hk : e.keys.storage = []) :
    Keeps d.fixed ((if flushed then e.dropPower else e).zeroiseNext.approvedWatch).fixed := by
  have hfixed : (if flushed then e.dropPower else e).fixed = e.fixed := by
    split
    · exact Drive.dropPower_fixed e
    · rfl
  generalize (if flushed then e.dropPower else e) = z at hfixed ⊢
  have hkept : z.zeroiseNext.fixed.kept = e.fixed.kept := by rw [Drive.zeroiseNext_kept, hfixed]
  rw [Drive.approvedWatch_fixed]
  refine ⟨?_, fun _ => (congrArg Prod.snd hkept).trans hf, fun _ => ?_⟩
  · exact (hl.symm.trans (congrArg Prod.fst hkept).symm).le
  · exact Drive.zeroiseNext_zeroed ((congrArg Fixed.state hfixed).trans hs) ((congrArg Fixed.root hfixed).trans hr)
      ((congrArg Fixed.storage hfixed).trans hk)

theorem Drive.zeroise_keeps (cause : Nat) (d : Drive) : Keeps d.fixed (d.zeroise cause).fixed := by
  unfold Drive.zeroise
  split
  · exact .refl _
  · refine Drive.zeroised_keeps _ ?_ rfl rfl rfl rfl
    exact Drive.last_of_fixed (b := ((d.event 0x440 Sev.critical [cause]).event 0x441 Sev.critical []).quiesce) (by simp)

@[simp] theorem Drive.zeroise_keeps_from {b} (cause) {d : Drive} (hb : Keeps b d.fixed) : Keeps b (d.zeroise cause).fixed :=
  hb.trans (Drive.zeroise_keeps cause d)

theorem zeroiseEraseComplete_keeps (d : Drive) : Keeps d.fixed (zeroiseEraseComplete d).fixed := by
  refine .of_kept (zeroiseEraseComplete_kept d) fun hz hf => ?_
  obtain ⟨-, hr, hk⟩ := hz ((congrArg Prod.snd (zeroiseEraseComplete_kept d)).symm.trans hf)
  revert hf
  unfold zeroiseEraseComplete
  split
  · exact fun hf => hz hf
  · rename_i hs
    dsimp only
    have hs : d.sec.state = 0xA3 := by simpa using hs
    split
    · exact Drive.zeroiseNext_zeroed hs hr hk
    split
    · exact Drive.zeroiseNext_zeroed hs hr hk
    split
    · exact Drive.zeroiseNext_zeroed hs hr hk
    · exact Drive.zeroiseNext_zeroed hs hr hk

@[simp] theorem tamperLoopSample_keeps {b} (isOpen) {d : Drive} (hb : Keeps b d.fixed) : Keeps b (tamperLoopSample isOpen d).fixed := by
  unfold tamperLoopSample
  simp [hb]

@[simp] theorem zeroizeWrite_keeps {b} (ch) (v) {d : Drive} (hb : Keeps b d.fixed) : Keeps b (zeroizeWrite ch v d).dev.fixed := by
  unfold zeroizeWrite
  simp [hb]

/-! ## Writes of registers -/

@[simp] theorem witnessCtl_keeps {b} (ch) (v) {d : Drive} (hb : Keeps b d.fixed) : Keeps b (witnessCtl ch v d).dev.fixed :=
  hb.trans (witnessCtl_grows ch v (.refl _)).keeps

@[simp] theorem attrSet_keeps {b} (ch) (base) (v) (ws) {d : Drive} (hb : Keeps b d.fixed) : Keeps b (attrSet ch base v ws d).dev.fixed := by
  unfold attrSet
  split
  · simp [hb]
  · split <;> simp [hb]

@[simp] theorem writeWord_keeps {b} (ch) (addr) (v) {d : Drive} (hb : Keeps b d.fixed) : Keeps b (writeWord ch addr v d).dev.fixed := by
  unfold writeWord
  split
  · simp [hb]
  · dsimp only
    split
    · simp [hb]
    split
    · simp [hb]
    split
    · simp [hb]
    split
    · simp [hb]
    · simp [hb]

@[simp] theorem writeWords_keeps {b} (ch) (vs) {addr n} {d : Drive} (hb : Keeps b d.fixed) : Keeps b (writeWords ch addr vs n d).2.dev.fixed := by
  induction vs generalizing addr n d with
  | nil => exact hb
  | cons v vs ih =>
    rw [writeWords]
    split
    · exact writeWord_keeps _ _ _ hb
    · exact ih (writeWord_keeps _ _ _ hb)

@[simp] theorem tryWrites_keeps {b} (l) {d : Drive} (hb : Keeps b d.fixed) : Keeps b (tryWrites l d).2.fixed := by
  induction l generalizing d with
  | nil => exact hb
  | cons p l ih =>
    rw [tryWrites]
    split
    · exact hb
    · exact ih (writeWord_keeps _ _ _ hb)

@[simp] theorem attrWriteOp_keeps {b} (r) {d : Drive} (hb : Keeps b d.fixed) : Keeps b (attrWriteOp r d).fixed := by
  unfold attrWriteOp
  dsimp only
  split
  · simp [hb]
  split
  · simp [hb]
  split
  · simp [hb]
  split
  · simp [hb]
  · split <;> simp [hb]

@[simp] theorem Drive.applyImage_keeps {b} (i) {d : Drive} (hb : Keeps b d.fixed) : Keeps b (Drive.applyImage i d).fixed := by
  have hcuttings : ∀ (lo hi : Nat) (d : Drive), ((List.range (hi + 1 - lo)).foldl (fun (d : Drive) k =>
      (i.cuttings.filter (fun c => Cutting.rank c = lo + k)).foldl Drive.applyCutting d) d).fixed = d.fixed := fun lo hi d =>
    foldl_fixed (fun d k => foldl_fixed Drive.applyCutting_fixed _ d) _ d
  unfold Drive.applyImage
  refine tryWrites_keeps _ ?_
  rw [hcuttings, foldl_fixed (fun d k => placeEntries_fixed ..), hcuttings, hcuttings]
  exact hb

end Sys2Proof.Machine
end

-- Proofs of transactions and ordering: a start, and the fuse found blown (R643).
section
namespace Sys2Proof.Machine
open Sys2Proof

/-! ## A start -/

theorem skipNonces_rest (last) (l) (d : Drive) :
    (skipNonces last l d).fixed.state = d.fixed.state ∧ (skipNonces last l d).fixed.root = d.fixed.root := by
  induction l generalizing d with
  | nil => exact ⟨rfl, rfl⟩
  | cons i l ih =>
    rw [skipNonces, (ih _).1, (ih _).2]
    split
    · rw [Drive.event_fixed]
      exact ⟨rfl, rfl⟩
    · exact ⟨rfl, rfl⟩

theorem skipNonces_grows {b} (last) {d e : Drive} (he : e.fixed = d.fixed) (hb : Grows b e.fixed) :
    Grows b (skipNonces last (d.keys.storage.map (·.1)) e).fixed := by
  obtain ⟨hstate, hroot⟩ := skipNonces_rest last (d.keys.storage.map (·.1)) e
  refine hb.trans (.of_kept (skipNonces_kept ..) hstate hroot fun hs => ?_)
  rw [show d.keys.storage = [] from (congrArg Fixed.storage he).symm.trans hs]
  exact hs

@[simp] theorem Drive.rebuild_grows {b} (u) {d : Drive} (hb : Grows b d.fixed) : Grows b (Drive.rebuild u d).fixed := by
  unfold Drive.rebuild
  dsimp only
  rw [Drive.writeRoot_fixed]
  refine skipNonces_grows _ (Drive.recount_fixed _) ?_
  rw [Drive.recount_fixed]
  split <;> simp [hb]

@[simp] theorem Drive.flushWasLost_grows {b} {d : Drive} (hb : Grows b d.fixed) : Grows b (Drive.flushWasLost d).fixed := by
  unfold Drive.flushWasLost
  dsimp only
  exact skipNonces_grows _ (Drive.recount_fixed _) (by simp [hb])

@[simp] theorem Drive.restore_grows {b} (u) {d : Drive} (hb : Grows b d.fixed) : Grows b (Drive.restore u d).fixed := by
  unfold Drive.restore
  extract_lets +onlyGivenNames m d1 unclean lost med m' hlth d2 d3 d4 d5 d6 d7 kv med' keys
  have h3 : d3.fixed = d.fixed := by
    have h2 : d2.fixed = d.fixed := by
      dsimp only [d2]
      split <;> rfl
    simpa [d3] using h2
  have h4 : Grows b d4.fixed := by
    dsimp only [d4]
    split <;> simp [h3, hb]
  have h5 : Grows b d5.fixed := by
    dsimp only [d5]
    split
    · exact Drive.flushWasLost_grows h4
    · exact h4
  have h6 : Grows b d6.fixed := by
    dsimp only [d6]
    split
    · exact h5
    · exact Drive.rebuild_grows u h5
  have h7 : Grows b d7.fixed := by simpa [d7] using h6
  extract_lets +onlyGivenNames d8 d9
  have h8 : Grows b d8.fixed := h7.trans ⟨Nat.le_refl _, rfl, rfl, rfl, fun hs => congrArg (List.map _) hs⟩
  have h9 : Grows b d9.fixed := by
    dsimp only [d9]
    split
    · rwa [Drive.meterLoss_fixed]
    · exact h8
  rwa [Drive.openLog_fixed, endAtRestart_fixed]

/-- Steps 4 to 6 of a start, which the fuse lets begin: an option image may zeroise the drive. -/
theorem Drive.startOn_keeps {b : Fixed} (u) {d : Drive} (hf : b.fuse = false) (hb : Above b.kept d.fixed.kept) :
    Keeps b (Drive.startOn u d).fixed := by
  unfold Drive.startOn
  extract_lets +onlyGivenNames d1
  have h1 : Above b.kept d1.fixed.kept := by simpa [d1] using hb
  split
  · exact h1.keeps hf
  extract_lets +onlyGivenNames m d2
  have h2 : Above b.kept d2.fixed.kept := by
    dsimp only [d2]
    split
    · simpa using h1
    · exact h1
  clear_value d2
  have hdraw := Drive.draw_fixed d2
  split
  rename_i ring e heq
  rw [heq] at hdraw
  extract_lets +onlyGivenNames r keys d3 ids n keys' d4 d5 d6 d7
  have h4 : Above b.kept d4.fixed.kept := by
    dsimp only at hdraw
    simpa [d4, d3, hdraw] using h2
  clear_value d4
  have h5 : Keeps b d5.fixed := by
    dsimp only [d5]
    split
    · exact Drive.applyImage_keeps _ (h4.keeps hf)
    · exact h4.keeps hf
  have h7 : Keeps b d7.fixed := by
    rw [Drive.holdup_fixed, foldl_fixed fun d p => ?_]
    · exact h5
    · split
      · exact Drive.negotiate_fixed ..
      · rfl
  clear_value d7
  rw [Drive.beginJoin_fixed, Drive.ownSlots_fixed]
  refine Keeps.trans ?_ (Drive.restore_grows u (.refl _)).keeps
  rw [Drive.openInterval_fixed]
  exact h7

theorem Drive.resumeStart_keeps {b : Fixed} {d : Drive} (hf : b.fuse = false) (hb : Above b.kept d.fixed.kept) : Keeps b d.resumeStart.fixed := by
  unfold Drive.resumeStart
  split
  · split
    · exact Drive.startOn_keeps _ hf hb
    · exact hb.keeps hf
  · exact hb.keeps hf

theorem tempSampled_keeps {b : Fixed} (readings completes) {d : Drive} (hf : b.fuse = false) (hb : Above b.kept d.fixed.kept) :
    Keeps b (tempSampled readings completes d).fixed :=
  Drive.resumeStart_keeps hf (tempSample_above _ _ hb)

/-- What a start leaves of the keys before the self-tests. -/
theorem Drive.wakeUp_keys (u) (d : Drive) : (d.wakeUp u).keys.root = d.keys.root ∧ (d.wakeUp u).keys.storage = d.keys.storage := by
  unfold Drive.wakeUp
  dsimp only
  split <;> split <;> simp

theorem Drive.pickImages_kept {u} {d z : Drive} (h : d.pickImages u = .inr z) : z.fixed.kept = d.fixed.kept := by
  unfold Drive.pickImages at h
  extract_lets +onlyGivenNames bt s at h
  clear_value s
  split at h
  · cases h
  split at h
  · cases h
  extract_lets +onlyGivenNames n opt at h
  split at h
  · cases h
  extract_lets +onlyGivenNames o fell d1 d2 d3 at h
  have h3 : d3.fixed.kept = d.fixed.kept := by
    have h1 : d1.fixed.kept = d.fixed.kept := by simp [d1]
    have h2 : d2.fixed.kept = d1.fixed.kept := by
      dsimp only [d2]
      split
      · simp
      · rfl
    rw [← h1, ← h2]
    dsimp only [d3]
    split
    · simp
    · rfl
  clear_value d3
  obtain rfl := Sum.inr.inj h
  rw [← h3]
  split
  · simp
  · rfl

theorem startUp_keeps (u) (d : Drive) : Keeps d.fixed (startUp u d).fixed := by
  unfold startUp
  split
  · exact .refl _
  extract_lets +onlyGivenNames d1
  have h1 : d1.fixed.kept = d.fixed.kept := Drive.wakeUp_kept u d
  split
  · refine .of_kept ((Drive.fuseCheck_kept _).trans h1) fun hz => Drive.fuseCheck_zeroed fun hf => ?_
    obtain ⟨-, hr, hk⟩ := hz ((congrArg Prod.snd h1).symm.trans hf)
    exact ⟨(Drive.wakeUp_keys u d).1.trans hr, (Drive.wakeUp_keys u d).2.trans hk⟩
  · rename_i hblown
    have hf : d.fixed.fuse = false := (congrArg Prod.snd h1).symm.trans (Bool.eq_false_of_not_eq_true hblown)
    have habove : ∀ {z : Drive}, z.fixed.kept = d.fixed.kept → Keeps d.fixed z.fixed := fun h => Above.keeps (h ▸ .refl _) hf
    have hread := Drive.readArea_fixed u.areaOk d1
    split
    rename_i accepted e heq
    rw [heq] at hread
    extract_lets +onlyGivenNames d2 one
    have h2 : d2.fixed.kept = d.fixed.kept := by
      rw [← h1, ← hread]
      dsimp only [d2]
      split <;> simp
    clear_value d2 one
    split
    · exact habove (by simpa using h2)
    split
    · exact habove (by simpa using h2)
    split
    · exact habove (by simpa using h2)
    · rename_i hpick
      have hz := (Drive.pickImages_kept hpick).trans (show _ = d.fixed.kept from h2)
      split
      · exact habove hz
      · exact Drive.startOn_keeps u hf (show Above _ _ from hz ▸ .refl _)

end Sys2Proof.Machine
end

-- Proofs of transactions and ordering: what gates a command, and the commands that do more than one thing.
section
namespace Sys2Proof.Machine
open Sys2Proof

/-! ## One step -/

theorem Drive.unblown_of_state {d : Drive} (hz : d.fixed.Zeroed) (h : ¬(d.sec.state = 0xA3 ∨ d.sec.state = 0xA4)) : d.fixed.fuse = false := by
  by_contra hf
  exact h (hz (Bool.eq_true_of_not_eq_false hf)).1

theorem Drive.unblown_of_live {d : Drive} (hz : d.fixed.Zeroed) (h : d.live = true) : d.fixed.fuse = false :=
  Drive.unblown_of_state hz fun hs => by rcases hs with hs | hs <;> simp [Drive.live, hs] at h

theorem Drive.unblown_of_rails {d : Drive} (hz : d.fixed.Zeroed) (h : d.railsUp = true) : d.fixed.fuse = false :=
  Drive.unblown_of_state hz fun hs => by rcases hs with hs | hs <;> simp [Drive.railsUp, hs] at h

theorem Drive.unblown_of_spdm {d : Drive} (hz : d.fixed.Zeroed) (h : d.spdmUp = true) : d.fixed.fuse = false :=
  Drive.unblown_of_state hz fun hs => by rcases hs with hs | hs <;> simp [Drive.spdmUp, hs] at h

theorem Drive.unblown_of_pldm {d : Drive} (hz : d.fixed.Zeroed) (h : d.pldmUp = true) : d.fixed.fuse = false :=
  Drive.unblown_of_state hz fun hs => by rcases hs with hs | hs <;> simp [Drive.pldmUp, hs] at h

/-- What is done to the drive only while `c` holds, which takes an unblown fuse. -/
theorem keeps_gated {s t : State} {c : Bool} {z : Drive} (hc : c = true → Keeps s.dev.fixed z.fixed)
    (h : (.next { s with dev := if c then z else s.dev } : Host.Outcome State Fault Refusal) = .next t) : Keeps s.dev.fixed t.dev.fixed := by
  obtain rfl := Host.Outcome.next.inj h
  dsimp only
  split
  · exact hc ‹_›
  · exact .refl _

section
variable {s t : State} {f : Drive → Drive} (hz : s.dev.fixed.Zeroed)
include hz

theorem onMain_keeps (hf : s.dev.fixed.fuse = false → Keeps s.dev.fixed (f s.dev).fixed) (h : s.onMain f = .next t) :
    Keeps s.dev.fixed t.dev.fixed :=
  keeps_gated (fun hl => hf (Drive.unblown_of_live hz hl)) h

theorem onMain_above (hf : Above s.dev.fixed.kept (f s.dev).fixed.kept) (h : s.onMain f = .next t) : Keeps s.dev.fixed t.dev.fixed :=
  onMain_keeps hz hf.keeps h

theorem onRails_keeps (hf : s.dev.fixed.fuse = false → Keeps s.dev.fixed (f s.dev).fixed) (h : s.onRails f = .next t) :
    Keeps s.dev.fixed t.dev.fixed :=
  keeps_gated (fun hl => hf (Drive.unblown_of_rails hz hl)) h

theorem onRails_above (hf : Above s.dev.fixed.kept (f s.dev).fixed.kept) (h : s.onRails f = .next t) : Keeps s.dev.fixed t.dev.fixed :=
  onRails_keeps hz hf.keeps h

theorem onRailsEnd_above (hf : Above s.dev.fixed.kept (f s.dev).fixed.kept) (h : s.onRailsEnd f = .next t) :
    Keeps s.dev.fixed t.dev.fixed := by
  obtain rfl := Host.Outcome.next.inj h
  dsimp only
  split
  · exact hf.keeps (Drive.unblown_of_rails hz ‹_›)
  split
  · rw [Drive.dropPower_fixed]
    exact .refl _
  · exact .refl _

theorem onSpdm_above (hf : ∀ d, Above s.dev.fixed.kept d.fixed.kept → Above s.dev.fixed.kept (f d).fixed.kept) (h : s.onSpdm f = .next t) :
    Keeps s.dev.fixed t.dev.fixed :=
  keeps_gated (fun hu => (hf _ (by rw [Drive.dropStale_kept]; exact .refl _)).keeps (Drive.unblown_of_spdm hz hu)) h

theorem onPldm_above (hf : ∀ d, Above s.dev.fixed.kept d.fixed.kept → Above s.dev.fixed.kept (f d).fixed.kept) (h : s.onPldm f = .next t) :
    Keeps s.dev.fixed t.dev.fixed :=
  keeps_gated (fun hu => (hf _ (by rw [Drive.dropStale_kept]; exact .refl _)).keeps (Drive.unblown_of_pldm hz hu)) h

end

theorem onSideband_keeps {s t : State} {f : Drive → Drive} (hf : Keeps s.dev.fixed (f s.dev).fixed) (h : s.onSideband f = .next t) :
    Keeps s.dev.fixed t.dev.fixed :=
  keeps_gated (fun _ => hf) h

theorem Keeps.of_fixed {d e : Drive} (h : e.fixed = d.fixed) : Keeps d.fixed e.fixed := h ▸ .refl _

/-! ### Commands that do more than one thing -/

section
variable {s t : State} (hz : s.dev.fixed.Zeroed)
include hz

theorem execOpen_keeps {f b p} (h : execOpen f b p s = .next t) : Keeps s.dev.fixed t.dev.fixed := by
  unfold execOpen at h
  refine onMain_above hz ?_ h
  exact .ite (.refl _) (.of_kept (by simp))

theorem execDataFrame_keeps {f} (h : execDataFrame f s = .next t) : Keeps s.dev.fixed t.dev.fixed := by
  unfold execDataFrame at h
  refine onMain_above hz ?_ h
  exact .ite (.refl _) (.of_kept (by simp))

theorem execAckFrame_keeps {f} (h : execAckFrame f s = .next t) : Keeps s.dev.fixed t.dev.fixed := by
  unfold execAckFrame at h
  refine onMain_above hz ?_ h
  exact .ite (.refl _) (.of_kept (by simp))

theorem execProgramComplete_keeps {die} (h : execProgramComplete die s = .next t) : Keeps s.dev.fixed t.dev.fixed := by
  unfold execProgramComplete at h
  refine onMain_above hz ?_ h
  exact .ite (.refl _) (.of_kept (by simp))

theorem execEraseComplete_keeps {die} (h : execEraseComplete die s = .next t) : Keeps s.dev.fixed t.dev.fixed := by
  unfold execEraseComplete at h
  refine onMain_above hz ?_ h
  exact .ite (.refl _) (.of_kept (by simp))

theorem execDeltaDrain_keeps (h : execDeltaDrain s = .next t) : Keeps s.dev.fixed t.dev.fixed := by
  unfold execDeltaDrain at h
  refine onMain_above hz ?_ h
  simp

theorem execJobDequeue_keeps (h : execJobDequeue s = .next t) : Keeps s.dev.fixed t.dev.fixed := by
  unfold execJobDequeue at h
  refine onMain_above hz ?_ h
  exact .of_kept (by simp)

theorem execContinuousTestFail_keeps {test} (h : execContinuousTestFail test s = .next t) : Keeps s.dev.fixed t.dev.fixed := by
  unfold execContinuousTestFail at h
  refine onMain_above hz ?_ h
  exact .ite (Drive.enterError_above _ _ (.refl _)) (.refl _)

theorem execDrbgError_keeps (h : execDrbgError s = .next t) : Keeps s.dev.fixed t.dev.fixed := by
  unfold execDrbgError at h
  refine onMain_above hz ?_ h
  dsimp only
  refine Drive.enterError_above _ _ (.of_kept ?_)
  exact (Drive.kept_of_eq rfl rfl).trans (foldl_kept (fun d q => hollyFail_kept q d) _ _)

theorem execKekImport_keeps {session index pkHash signatureOk b} (h : execKekImport session index pkHash signatureOk b s = .next t) :
    Keeps s.dev.fixed t.dev.fixed := by
  unfold execKekImport at h
  refine onSpdm_above hz (fun d hb => ?_) h
  exact .ite (by simpa using hb) (by simpa using hb)

theorem execSupplyHigh_keeps {mv} (h : execSupplyHigh mv s = .next t) : Keeps s.dev.fixed t.dev.fixed := by
  unfold execSupplyHigh at h
  split at h
  · obtain rfl := Host.Outcome.next.inj h
    exact .refl _
  · exact onRailsEnd_above hz (.of_kept (by simp)) h

theorem execOpMessage_keeps {session exchange hdr body} (h : execOpMessage session exchange hdr body s = .next t) :
    Keeps s.dev.fixed t.dev.fixed := by
  unfold execOpMessage at h
  split at h
  · refine onMain_above hz ?_ h
    exact .of_kept (by simp)
  · exact onSideband_keeps (.of_fixed (statusRead_fixed ..)) h

/-- SEC.ZEROIZE, SEC.MAINT_FUSE and their like: what the write keeps, the command keeps. -/
theorem execAttrCmd_keeps {ch addr} {w : Drive → Wr} (hw : ∀ {b d}, Keeps b d.fixed → Keeps b (w d).dev.fixed)
    (h : s.onMain (attrCmd ch addr w) = .next t) : Keeps s.dev.fixed t.dev.fixed := by
  refine onMain_keeps hz (fun _ => ?_) h
  unfold attrCmd
  rw [Drive.emit_fixed]
  exact hw (by simp)

theorem execAttrWrite_keeps {o} (h : execAttrWrite o s = .next t) : Keeps s.dev.fixed t.dev.fixed := by
  unfold execAttrWrite at h
  refine onMain_keeps hz (fun hf => ?_) h
  unfold attrWrite Drive.withReq
  split
  · split
    · unfold relayOr
      beta_reduce
      split
      · exact attrWriteOp_keeps _ (.refl _)
      split
      · simp
      dsimp only
      split
      · exact (Above.of_kept (by simp)).keeps hf
      split
      · exact attrWriteOp_keeps _ (.refl _)
      · exact (Above.of_kept (by simp)).keeps hf
    · exact .refl _
  · exact .refl _

theorem execMgmtReq_keeps {src seq hdr body} (h : execMgmtReq src seq hdr body s = .next t) : Keeps s.dev.fixed t.dev.fixed := by
  unfold execMgmtReq at h
  refine onMain_keeps hz (fun hf => ?_) h
  unfold mgmtReq Drive.fromRing
  dsimp only
  split
  · exact .of_fixed (by simp)
  split
  · exact (Above.of_kept (by simp)).keeps hf
  split
  · exact attrWriteOp_keeps _ (.of_fixed (by simp))
  split
  · exact (Above.of_kept (by simp)).keeps hf
  · exact .of_fixed (by simp)

theorem execTempSample_keeps {readings completes} (h : execTempSample readings completes s = .next t) : Keeps s.dev.fixed t.dev.fixed :=
  onRails_keeps hz (fun hf => tempSampled_keeps _ _ hf (.refl _)) h

end

theorem Drive.fuseCheck_keeps {b} {d : Drive} (hb : Keeps b d.fixed) : Keeps b d.fuseCheck.fixed :=
  hb.trans <| .of_kept (Drive.fuseCheck_kept d) fun hz => Drive.fuseCheck_zeroed fun hf => (hz hf).2

theorem auxPowerApplied_keeps (isOpen) (d : Drive) : Keeps d.fixed (auxPowerApplied isOpen d).fixed := by
  unfold auxPowerApplied
  split
  · exact .refl _
  have hread := Drive.readArea_fixed true d
  split
  rename_i e heq
  rw [heq] at hread
  exact tamperLoopSample_keeps _ (Drive.fuseCheck_keeps (.of_fixed hread))

theorem auxPowerRemoved_keeps (d : Drive) : Keeps d.fixed (auxPowerRemoved d).fixed := by
  unfold auxPowerRemoved
  split
  · exact .refl _
  · exact .of_fixed (by simp)

theorem execStart_keeps {u} {s t : State} (h : execStart u s = .next t) : Keeps s.dev.fixed t.dev.fixed := by
  obtain rfl := Host.Outcome.next.inj h
  exact startUp_keeps u s.dev

end Sys2Proof.Machine
end

-- Proofs of transactions and ordering: every step keeps versions, fuse and keys (R83, R641, R643).
section
namespace Sys2Proof.Machine
open Sys2Proof

theorem Above.of_fixed {a b : Fixed} (h : b = a) : Above a.kept b.kept := .of_kept (congrArg Fixed.kept h)

theorem next_keeps {s t : State} {z : Drive} (hk : Keeps s.dev.fixed z.fixed)
    (h : (.next { s with dev := z } : Host.Outcome State Fault Refusal) = .next t) : Keeps s.dev.fixed t.dev.fixed := by
  obtain rfl := Host.Outcome.next.inj h
  exact hk

theorem onSpdm_kept {s t : State} {f : Drive → Drive} (hz : s.dev.fixed.Zeroed) (hf : ∀ d, (f d).fixed.kept = d.fixed.kept)
    (h : s.onSpdm f = .next t) : Keeps s.dev.fixed t.dev.fixed :=
  onSpdm_above hz (fun d hb => (hf d).symm ▸ hb) h

theorem onPldm_kept {s t : State} {f : Drive → Drive} (hz : s.dev.fixed.Zeroed) (hf : ∀ d, (f d).fixed.kept = d.fixed.kept)
    (h : s.onPldm f = .next t) : Keeps s.dev.fixed t.dev.fixed :=
  onPldm_above hz (fun d hb => (hf d).symm ▸ hb) h

/-- Each command, by what the function that gives it its meaning leaves as it is. -/
theorem exec_keeps {i : Instr} {s t : State} (hz : s.dev.fixed.Zeroed) (h : exec i s = .next t) : Keeps s.dev.fixed t.dev.fixed := by
  cases i with
  | put _ => exact onMain_above hz (.of_kept (putRequest_kept ..)) h
  | putCommit _ => exact onMain_above hz (putCommit_above _ (.refl _)) h
  | delete _ => exact onMain_above hz (deleteRequest_above _ (.refl _)) h
  | get _ => exact onMain_above hz (.of_kept (getRequest_kept ..)) h
  | getRange _ => exact onMain_above hz (.of_kept (getRangeRequest_kept ..)) h
  | existsKey _ => exact onMain_above hz (.of_kept (existsRequest_kept ..)) h
  | list _ => exact onMain_above hz (.of_kept (listRequest_kept ..)) h
  | batch _ => exact onMain_above hz (batchRequest_above _ (.refl _)) h
  | batchAtomic _ => exact onMain_above hz (batchAtomicRequest_above _ (.refl _)) h
  | locGet _ => exact onMain_above hz (.of_kept (locGetRequest_kept ..)) h
  | locDelete _ => exact onMain_above hz (locDeleteRequest_above _ (.refl _)) h
  | relocAck _ => exact onMain_above hz (.of_kept (relocAckRequest_kept ..)) h
  | ping _ => exact onMain_above hz (.of_kept (pingRequest_kept ..)) h
  | deadlineMissed _ => exact onMain_above hz (deadlineMissed_above _ (.refl _)) h
  | commitWaitExpiry _ => exact onMain_above hz (.of_kept (commitWaitExpiry_kept ..)) h
  | supersedeConfirm _ _ => exact onMain_above hz (.of_kept (supersedeConfirm_kept ..)) h
  | openFrame _ _ _ => exact execOpen_keeps hz h
  | sessionOpen _ _ _ => exact onMain_above hz (.of_kept (sessionOpenRequest_kept ..)) h
  | sessionClose _ => exact onMain_above hz (.of_kept (sessionCloseRequest_kept ..)) h
  | sessionRekey _ _ => exact onMain_above hz (.of_kept (sessionRekeyRequest_kept ..)) h
  | dataFrame _ => exact execDataFrame_keeps hz h
  | ackFrame _ => exact execAckFrame_keeps hz h
  | ackDelayExpiry _ => exact onMain_above hz (.of_kept (ackDelayExpiry_kept ..)) h
  | retransmissionTimeout _ _ => exact onMain_above hz (.of_kept (retransmissionTimeout_kept ..)) h
  | keepAlive _ _ => exact onMain_above hz (.of_kept (keepAlive_kept ..)) h
  | idleTimeout _ => exact onMain_above hz (.of_kept (idleTimeout_kept ..)) h
  | openingTimeout _ => exact onMain_above hz (.of_kept (openingTimeout_kept ..)) h
  | drainComplete _ => exact onMain_above hz (.of_kept (drainComplete_kept ..)) h
  | drainingTimeout _ => exact onMain_above hz (.of_kept (drainingTimeout_kept ..)) h
  | windowReopenAck _ => exact onMain_above hz (.of_kept (windowReopenAck_kept ..)) h
  | pathSilence _ _ => exact onMain_above hz (.of_kept (pathSilence_kept ..)) h
  | rekeyRequired _ _ => exact onMain_above hz (.of_kept (rekeyRequired_kept ..)) h
  | sessionExhausted _ _ => exact onMain_above hz (.of_kept (sessionExhausted_kept ..)) h
  | keyPhaseRetire _ => exact onMain_above hz (.of_kept (keyPhaseRetire_kept ..)) h
  | shearsAdmit _ => exact onMain_above hz (.of_kept (shearsAdmit_kept ..)) h
  | fwdWrite _ _ _ _ _ => exact onMain_above hz (fwdWrite_above _ _ _ _ _ (.refl _)) h
  | fwdRead _ _ _ _ _ => exact onMain_above hz (.of_kept (fwdRead_kept ..)) h
  | fwdReply _ _ _ => exact onMain_above hz (fwdReply_above _ _ _ (.refl _)) h
  | fwdData _ _ _ => exact onMain_above hz (.of_kept (fwdData_kept ..)) h
  | mirror _ _ _ _ _ _ _ => exact onMain_above hz (mirrorMsg_above _ _ _ _ _ _ _ (.refl _)) h
  | mirrorAck _ _ => exact onMain_above hz (mirrorAck_above _ _ (.refl _)) h
  | prepare _ _ _ _ _ _ => exact onMain_above hz (.of_kept (prepareMsg_kept ..)) h
  | prepared _ _ => exact onMain_above hz (preparedMsg_above _ _ (.refl _)) h
  | refused _ => exact onMain_above hz (.of_kept (refusedMsg_kept ..)) h
  | commit _ _ _ => exact onMain_above hz (commitMsg_above _ _ _ (.refl _)) h
  | abort _ => exact onMain_above hz (.of_kept (abortMsg_kept ..)) h
  | committed _ => exact onMain_above hz (.of_kept (committedMsg_kept ..)) h
  | prepareTimeout _ => exact onMain_above hz (.of_kept (prepareTimeout_kept ..)) h
  | heartbeat _ _ _ _ _ => exact onMain_above hz (.of_kept (heartbeatMsg_kept ..)) h
  | heartbeatSend => exact onMain_above hz (heartbeatSend_above (.refl _)) h
  | reserveReq _ _ => exact onMain_above hz (.of_kept (reserveReq_kept ..)) h
  | reserveGrant _ _ => exact onMain_above hz (.of_kept (reserveGrant_kept ..)) h
  | chunkFetch _ _ _ _ _ _ => exact onMain_above hz (.of_kept (chunkFetch_kept ..)) h
  | chunkData _ _ _ => exact onMain_above hz (.of_kept (chunkData_kept ..)) h
  | chunkFetchTimeout _ => exact onMain_above hz (.of_kept (chunkFetchTimeout_kept ..)) h
  | tableChange _ _ _ => exact onMain_above hz (.of_kept (tableChangeMsg_kept ..)) h
  | tableAck _ _ => exact onMain_above hz (.of_kept (tableAckMsg_kept ..)) h
  | hello _ _ => exact onMain_above hz (.of_kept (helloMsg_kept ..)) h
  | resyncData _ _ _ _ _ => exact onMain_above hz (resyncData_above _ _ _ _ _ (.refl _)) h
  | homeReturn _ => exact onMain_above hz (homeReturn_above _ (.refl _)) h
  | twinLinkUp _ _ _ _ _ => exact onMain_above hz (.of_kept (twinLinkUp_kept ..)) h
  | twinLinkDownTimeout => exact onMain_above hz (twinLinkDownTimeout_above (.refl _)) h
  | heartbeatSilence => exact onMain_above hz (heartbeatSilence_above (.refl _)) h
  | joiningTimeout => exact onMain_above hz (.of_kept (joiningTimeout_kept ..)) h
  | leaseReq _ _ _ => exact onMain_above hz (.of_kept (leaseReq_kept ..)) h
  | leaseReqResend => exact onMain_above hz (.of_kept (leaseReqResend_kept ..)) h
  | probe _ _ => exact onMain_above hz (.of_kept (probeMsg_kept ..)) h
  | probeAnswer _ _ => exact onMain_above hz (.of_kept (probeAnswer_kept ..)) h
  | witnessProbeTick _ => exact onMain_above hz (.of_kept (witnessProbeTick_kept ..)) h
  | witnessGrantHold _ => exact onMain_above hz (.of_kept (witnessGrantHold_kept ..)) h
  | leaseGrant _ _ _ => exact onMain_above hz (leaseGrant_above _ _ _ (.refl _)) h
  | leaseDeny _ _ _ => exact onMain_above hz (.of_kept (leaseDeny_kept ..)) h
  | fencedNotice _ _ => exact onMain_above hz (.of_kept (fencedNotice_kept ..)) h
  | clear _ _ => exact onMain_above hz (.of_kept (clearMsg_kept ..)) h
  | clearSend => exact onMain_above hz (.of_kept (clearSend_kept ..)) h
  | cleared _ _ => exact onMain_above hz (.of_kept (cleared_kept ..)) h
  | clearanceLapse => exact onMain_above hz (.of_kept (clearanceLapse_kept ..)) h
  | leaseAssert _ _ _ => exact onMain_above hz (.of_kept (leaseAssert_kept ..)) h
  | leaseAssertSend => exact onMain_above hz (.of_kept (leaseAssertSend_kept ..)) h
  | leaseRelease _ _ => exact onMain_above hz (.of_kept (leaseRelease_kept ..)) h
  | witnessFreezeEnd => exact onMain_above hz (.of_kept (witnessFreezeEnd_kept ..)) h
  | witnessGrant _ => exact execAttrCmd_keeps hz (witnessCtl_keeps _ _) h
  | witnessFence _ => exact execAttrCmd_keeps hz (witnessCtl_keeps _ _) h
  | witnessClear _ => exact execAttrCmd_keeps hz (witnessCtl_keeps _ _) h
  | witnessWrite _ _ => exact onMain_above hz (.of_fixed (attrCmd_fixed (fun _ => witnessWrite_fixed ..) ..)) h
  | twinAdopt _ _ => exact onMain_above hz (.of_kept (twinAdopt_kept ..)) h
  | twinRelease _ => exact onMain_above hz (twinRelease_above _ (.refl _)) h
  | ringHello _ _ _ _ _ _ _ _ => exact onMain_above hz (.of_kept (ringHello_kept ..)) h
  | ringHelloSend => exact onMain_above hz (.of_kept (ringHelloSend_kept ..)) h
  | ringLinkLoss _ => exact onMain_above hz (.of_kept (ringLinkLoss_kept ..)) h
  | ringFrameForward _ => exact onMain_above hz (.of_kept (ringForward_kept ..)) h
  | mgmtReq _ _ _ _ => exact execMgmtReq_keeps hz h
  | mgmtReply _ _ _ _ => exact onMain_above hz (.of_kept (mgmtReply_kept ..)) h
  | migrateData _ _ _ _ _ => exact onMain_above hz (migrateData_above _ _ _ _ _ (.refl _)) h
  | migrateCtl _ _ _ _ _ => exact onMain_above hz (.of_kept (migrateCtl_kept ..)) h
  | ptpMessage _ => exact onMain_above hz (.of_kept (ptpMessage_kept ..)) h
  | tenantCreate _ => exact onMain_above hz (.of_kept (tenantCreate_kept ..)) h
  | tenantDelete _ => exact onMain_above hz (.of_kept (tenantDelete_kept ..)) h
  | nsCreate _ => exact onMain_above hz (.of_kept (nsCreate_kept ..)) h
  | nsDelete _ => exact onMain_above hz (.of_kept (nsDelete_kept ..)) h
  | nsSetQuota _ => exact onMain_above hz (.of_kept (nsModify_kept ..)) h
  | nsRaiseGen _ => exact onMain_above hz (.of_kept (nsModify_kept ..)) h
  | nsSetSoloWrites _ => exact onMain_above hz (.of_kept (nsModify_kept ..)) h
  | nsInfo _ => exact onMain_above hz (.of_kept (nsInfo_kept ..)) h
  | sweepComplete _ => exact onMain_above hz (.of_kept (sweepComplete_kept ..)) h
  | arrayReadComplete _ _ _ _ _ _ => exact onMain_above hz (.of_kept (arrayReadComplete_kept ..)) h
  | suspendComplete _ => exact onMain_above hz (.of_kept (suspendComplete_kept ..)) h
  | busyWindowEntry _ => exact onMain_above hz (.of_kept (busyWindowEntry_kept ..)) h
  | starvationGuardTrip _ => exact onMain_above hz (.of_kept (starvationGuardTrip_kept ..)) h
  | reconInterval => exact onMain_above hz (.of_kept (reconInterval_kept ..)) h
  | programComplete _ => exact execProgramComplete_keeps hz h
  | eraseComplete _ => exact execEraseComplete_keeps hz h
  | programFail _ => exact onMain_above hz (.of_kept (programFail_kept ..)) h
  | eraseFail _ => exact onMain_above hz (.of_kept (eraseFail_kept ..)) h
  | shelfDrain => exact onMain_above hz (.of_kept (shelfDrain_kept ..)) h
  | shelfAdmit _ => exact onMain_above hz (shelfAdmit_above _ (.refl _)) h
  | folding _ => exact onMain_above hz (.of_kept (folding_kept ..)) h
  | clipVictimSelect _ => exact onMain_above hz (.of_kept (clipVictimSelect_kept ..)) h
  | patrolVisit _ _ => exact onMain_above hz (.of_kept (patrolVisit_kept ..)) h
  | patrolLate _ => exact onMain_above hz (.of_kept (patrolLate_kept ..)) h
  | healthWearUpdate => exact onMain_above hz (.of_kept (healthWearUpdate_kept ..)) h
  | deltaDrain => exact execDeltaDrain_keeps hz h
  | checkpoint => exact onMain_above hz (.of_kept (checkpoint_kept ..)) h
  | powerFail => exact onRailsEnd_above hz (.of_fixed (Drive.beginFlush_fixed ..)) h
  | flushComplete => exact next_keeps (.of_fixed (Drive.endFlush_fixed _)) h
  | holdupMeasure _ _ => exact onMain_above hz (.of_kept (holdupMeasure_kept ..)) h
  | kekImport _ _ _ _ _ => exact execKekImport_keeps hz h
  | tenantKeyLoad _ _ => exact onMain_above hz (.of_kept (keyLoad_kept ..)) h
  | keyEraseWrapping _ => exact onMain_above hz (.of_kept (keyErase_kept ..)) h
  | keyErasePrevious _ => exact onMain_above hz (.of_kept (keyErase_kept ..)) h
  | keyEraseCurrent _ => exact onMain_above hz (.of_kept (keyErase_kept ..)) h
  | keyEraseTenant _ => exact onMain_above hz (.of_kept (keyErase_kept ..)) h
  | keyEraseSystem _ => exact onMain_above hz (.of_kept (keyEraseSystem_kept ..)) h
  | slotBufferRelease _ => exact onMain_above hz (.of_kept (slotBufferRelease_kept ..)) h
  | storageLoadResume _ => exact onMain_above hz (.of_kept (storageLoadResume_kept ..)) h
  | hollyDispatch _ _ _ => exact onMain_above hz (.of_kept (hollyDispatch_kept ..)) h
  | compatSuspend _ => exact onMain_above hz (.of_kept (compatSuspend_kept ..)) h
  | compatResume _ _ _ => exact onMain_above hz (.of_kept (compatResume_kept ..)) h
  | drbgError => exact execDrbgError_keeps hz h
  | autonegComplete _ _ => exact onMain_above hz (.of_kept (autonegComplete_kept ..)) h
  | trainingComplete _ _ => exact onMain_above hz (.of_kept (trainingComplete_kept ..)) h
  | linkUp _ => exact onMain_above hz (.of_kept (linkUp_kept ..)) h
  | linkDown _ _ _ => exact onMain_above hz (.of_kept (linkDown_kept ..)) h
  | holdoffExpiry _ => exact onMain_above hz (.of_kept (holdoffExpiry_kept ..)) h
  | trainingFail _ _ => exact onMain_above hz (.of_kept (trainingFail_kept ..)) h
  | speedFallbackExpiry _ _ => exact onMain_above hz (.of_kept (speedFallbackExpiry_kept ..)) h
  | portRetrain _ _ => exact onMain_above hz (.of_kept (attrCmd_kept (fun _ => portRetrain_kept ..) ..)) h
  | portEnableWrite _ _ _ => exact onMain_above hz (.of_kept (attrCmd_kept (fun _ => portEnableWrite_kept ..) ..)) h
  | frameReceive _ => exact onMain_above hz (.of_kept (frameReceive_kept ..)) h
  | arpFrame _ => exact onMain_above hz (.of_kept (arpFrame_kept ..)) h
  | ndFrame _ => exact onMain_above hz (.of_kept (ndFrame_kept ..)) h
  | icmpEcho _ _ _ _ _ => exact onMain_above hz (.of_kept (icmpEcho_kept ..)) h
  | dhcpMessage _ => exact onMain_above hz (.of_kept (dhcpMessage_kept ..)) h
  | dhcpLeaseLost _ _ _ => exact onMain_above hz (.of_kept (dhcpLeaseLost_kept ..)) h
  | lldpFrame _ _ _ _ _ => exact onMain_above hz (.of_kept (lldpFrame_kept ..)) h
  | lldpTransmit => exact onMain_above hz (.of_kept (lldpTransmit_kept ..)) h
  | txtsRead _ => exact onMain_above hz (.of_kept (txtsRead_kept ..)) h
  | statsModeWrite _ _ _ => exact onMain_above hz (.of_fixed (attrCmd_fixed (fun _ => statsModeWrite_fixed ..) ..)) h
  | w1cWrite _ _ _ _ => exact onMain_above hz (.of_fixed (attrCmd_fixed (fun _ => w1cWrite_fixed ..) ..)) h
  | entryRead _ => exact onMain_above hz (.of_fixed (attrCmd_fixed (fun _ => entryRead_fixed ..) ..)) h
  | entryWrite _ => exact onMain_above hz (.of_fixed (attrCmd_fixed (fun _ => entryWrite_fixed ..) ..)) h
  | entryInvalidate _ => exact onMain_above hz (.of_fixed (attrCmd_fixed (fun _ => entryInvalidate_fixed ..) ..)) h
  | entryMove _ => exact onMain_above hz (.of_fixed (attrCmd_fixed (fun _ => entryMove_fixed ..) ..)) h
  | actionRead _ => exact onMain_above hz (.of_fixed (attrCmd_fixed (fun _ => actionRead_fixed ..) ..)) h
  | actionWrite _ => exact onMain_above hz (.of_fixed (attrCmd_fixed (fun _ => actionWrite_fixed ..) ..)) h
  | bankWidthWrite _ _ => exact onMain_above hz (.of_fixed (attrCmd_fixed (fun _ => bankWidthWrite_fixed ..) ..)) h
  | defaultActionWrite _ _ _ => exact onMain_above hz (.of_fixed (attrCmd_fixed (fun _ => defaultActionWrite_fixed ..) ..)) h
  | probeFirst _ => exact onMain_above hz (.of_fixed (attrCmd_fixed (fun _ => probeFirst_fixed ..) ..)) h
  | probeNext _ => exact onMain_above hz (.of_fixed (attrCmd_fixed (fun _ => probeNext_fixed ..) ..)) h
  | privetScrub _ _ _ _ => exact onMain_above hz (.of_kept (privetScrub_kept ..)) h
  | ppsInEdge _ => exact onMain_above hz (.of_kept (ppsInEdge_kept ..)) h
  | todMessage _ => exact onMain_above hz (.of_kept (todMessage_kept ..)) h
  | sourceLost _ => exact onMain_above hz (.of_kept (sourceLost_kept ..)) h
  | sourceChange _ => exact onMain_above hz (.of_kept (sourceChange_kept ..)) h
  | holdoverTrustLost => exact onMain_above hz (.of_kept (holdoverTrustLost_kept ..)) h
  | wallSet _ _ _ => exact onMain_above hz (.of_fixed (attrCmd_fixed (fun _ => wallSet_fixed ..) ..)) h
  | optimeReservation => exact onMain_above hz (.of_kept (optimeReservation_kept ..)) h
  | ppsOutEdge => exact onMain_above hz (.of_kept (ppsOutEdge_kept ..)) h
  | leapSecond => exact onMain_above hz (.of_kept (leapSecond_kept ..)) h
  | meterTick _ _ => exact onMain_above hz (.of_kept (meterTick_kept ..)) h
  | meterExtendedEnd => exact onMain_above hz (.of_kept (meterExtendedEnd_kept ..)) h
  | meterIntervalWrite _ _ => exact onMain_above hz (.of_fixed (attrCmd_fixed (fun _ => meterIntervalWrite_fixed ..) ..)) h
  | weightRecalibrate _ _ _ _ => exact onMain_above hz (.of_kept (weightRecalibrate_kept ..)) h
  | meterRead _ => exact onMain_above hz (.of_kept (meterRead_kept ..)) h
  | meterAck _ => exact onMain_above hz (.of_kept (meterAck_kept ..)) h
  | zeroizePin => exact onSideband_keeps (Drive.zeroise_keeps 1 _) h
  | tamperLoopSample _ => exact onSideband_keeps (tamperLoopSample_keeps _ (.refl _)) h
  | zeroizeArm _ => exact execAttrCmd_keeps hz (zeroizeWrite_keeps _ _) h
  | zeroizeConfirm _ => exact execAttrCmd_keeps hz (zeroizeWrite_keeps _ _) h
  | zeroizeArmExpiry => exact onMain_above hz (.of_kept (zeroizeArmExpiry_kept ..)) h
  | zeroiseEraseComplete => exact onSideband_keeps (zeroiseEraseComplete_keeps _) h
  | maintEnableWrite _ _ => exact onMain_above hz (.of_fixed (attrCmd_fixed (fun _ => maintEnableWrite_fixed ..) ..)) h
  | maintFuseArm _ => exact onMain_above hz (.of_fixed (attrCmd_fixed (fun _ => maintFuseWrite_fixed ..) ..)) h
  | maintFuseConfirm _ => exact onMain_above hz (.of_fixed (attrCmd_fixed (fun _ => maintFuseWrite_fixed ..) ..)) h
  | maintToken _ _ _ _ _ _ _ => exact onSpdm_kept hz (fun _ => maintToken_kept ..) h
  | maintExit _ => exact onSpdm_kept hz (fun _ => maintExit_kept ..) h
  | maintDurationExpiry => exact onSpdm_kept hz (fun _ => maintDurationExpiry_kept ..) h
  | svnRaise => exact onMain_above hz (.of_kept (svnRaise_kept ..)) h
  | continuousTestFail _ => exact execContinuousTestFail_keeps hz h
  | getVersion => exact onSpdm_kept hz (fun _ => getVersion_kept ..) h
  | getCapabilities _ => exact onSpdm_kept hz (fun _ => getCapabilities_kept ..) h
  | negotiateAlgorithms _ => exact onSpdm_kept hz (fun _ => negotiateAlgorithms_kept ..) h
  | getDigests _ => exact onSpdm_kept hz (fun _ => getDigests_kept ..) h
  | getCertificate _ _ => exact onSpdm_kept hz (fun _ => getCertificate_kept ..) h
  | challenge _ => exact onSpdm_kept hz (fun _ => challengeMsg_kept ..) h
  | getMeasurements _ _ => exact onSpdm_kept hz (fun _ => getMeasurements_kept ..) h
  | keyExchange => exact onSpdm_kept hz (fun _ => keyExchange_kept ..) h
  | finish _ _ _ _ => exact onSpdm_kept hz (fun _ => finishMsg_kept ..) h
  | spdmHeartbeat _ => exact onSpdm_kept hz (fun _ => spdmHeartbeat_kept ..) h
  | keyUpdate _ => exact onSpdm_kept hz (fun _ => keyUpdate_kept ..) h
  | endSession _ => exact onSpdm_kept hz (fun _ => endSessionMsg_kept ..) h
  | getCsr _ => exact onSpdm_kept hz (fun _ => getCsr_kept ..) h
  | setCertificate _ _ _ _ => exact onSpdm_kept hz (fun _ => setCertificate_kept ..) h
  | vendorDefinedRequest _ _ => exact onSpdm_kept hz (fun _ => vendorDefined_kept ..) h
  | supplyLow _ => exact onRails_above hz (.of_kept (supplyLow_kept ..)) h
  | supplyHigh _ => exact execSupplyHigh_keeps hz h
  | auxLost => exact onRails_above hz (.of_kept (auxLost_kept ..)) h
  | auxRestored => exact onRails_above hz (.of_kept (auxRestored_kept ..)) h
  | pwrdisAssert _ => exact onRailsEnd_above hz (pwrdisAssert_above _ (.refl _)) h
  | mrstN => exact onRails_above hz (.of_kept (mrst_kept ..)) h
  | slotIdChange _ => exact onRails_above hz (.of_kept (slotIdChange_kept ..)) h
  | twinPrsntChange _ => exact onRails_above hz (.of_kept (twinPrsntChange_kept ..)) h
  | i3cDynamicAddress _ _ => exact onSideband_keeps (.of_fixed (i3cAddress_fixed ..)) h
  | i3cRstdaa => exact onSideband_keeps (.of_fixed (i3cReset_fixed ..)) h
  | locateExpiry => exact onRails_above hz (.of_kept (locateExpiry_kept ..)) h
  | start _ => exact execStart_keeps h
  | deviceReady => exact onMain_above hz (.of_kept (deviceReady_kept ..)) h
  | startTimeout => exact onRails_above hz (.of_kept (startTimeout_kept ..)) h
  | clusterFault => exact onRails_above hz (.of_kept (Drive.startFails_kept ..)) h
  | xipRelease _ => exact onMain_above hz (.of_fixed (attrCmd_fixed (fun _ => xipRelease_fixed ..) ..)) h
  | tcmLoadComplete => exact onRails_above hz (.of_kept (tcmLoadComplete_kept ..)) h
  | xipResume _ => exact onMain_above hz (.of_kept (xipResumeCmd_kept ..)) h
  | xipAutoResume => exact onRails_above hz (.of_kept (xipAutoResume_kept ..)) h
  | optfOperationComplete => exact onRails_above hz (.of_kept (optfOperationComplete_kept ..)) h
  | activateFirmware _ => exact onPldm_kept hz (fun _ => activateFirmware_kept ..) h
  | idleDwell _ => exact onMain_above hz (.of_kept (idleDwell_kept ..)) h
  | wakeComplete => exact onMain_above hz (.of_kept (wakeComplete_kept ..)) h
  | toleranceWindowExpiry => exact onMain_above hz (.of_kept (toleranceWindowExpiry_kept ..)) h
  | stateLimitWrite _ _ => exact onMain_above hz (.of_fixed (attrCmd_fixed (fun _ => stateLimitWrite_fixed ..) ..)) h
  | capWrite _ _ => exact onMain_above hz (.of_fixed (attrCmd_fixed (fun _ => capWrite_fixed ..) ..)) h
  | governor1ms _ => exact onMain_above hz (.of_kept (governor1_kept ..)) h
  | governor100ms _ => exact onMain_above hz (.of_kept (governor100_kept ..)) h
  | tempSample _ _ => exact execTempSample_keeps hz h
  | thermalStageExit => exact onRails_above hz (.of_kept (thermalStageExit_kept ..)) h
  | thermalShutdownTimeout => exact onRails_above hz (.of_kept (thermalShutdownTimeout_kept ..)) h
  | sensorFault _ => exact onRails_above hz (.of_kept (sensorFault_kept ..)) h
  | stagingFlush => exact onMain_above hz (.of_kept (stagingFlush_kept ..)) h
  | logGroupWritten => exact onMain_above hz (.of_kept (logGroupWritten_kept ..)) h
  | logFreeze _ => exact onMain_above hz (.of_kept (logFreeze_kept ..)) h
  | logThaw _ => exact onMain_above hz (.of_kept (logThaw_kept ..)) h
  | logFreezeTimeout => exact onMain_above hz (.of_kept (logFreezeTimeout_kept ..)) h
  | clearPinned _ => exact onMain_above hz (.of_fixed (attrCmd_fixed (fun _ => logCtl_fixed ..) ..)) h
  | clearAll _ => exact onMain_above hz (.of_fixed (attrCmd_fixed (fun _ => logCtl_fixed ..) ..)) h
  | logWindowLoad _ _ => exact onMain_above hz (.of_kept (attrCmd_kept (fun _ => logWindowLoad_kept ..) ..)) h
  | healthSave => exact onMain_above hz (.of_kept (healthSave_kept ..)) h
  | tempBinMinute => exact onMain_above hz (.of_kept (tempBinMinute_kept ..)) h
  | eventEnableWrite _ _ _ => exact onMain_above hz (.of_fixed (attrCmd_fixed (fun _ => eventEnableWrite_fixed ..) ..)) h
  | attrRead _ => exact onMain_above hz (.of_kept (attrRead_kept ..)) h
  | attrWrite _ => exact execAttrWrite_keeps hz h
  | attrBulkRead _ => exact onMain_above hz (.of_kept (attrBulkRead_kept ..)) h
  | clipForce _ => exact onMain_above hz (.of_kept (jobStart_kept ..)) h
  | patrolFull _ => exact onMain_above hz (.of_kept (jobStart_kept ..)) h
  | nsSanitize _ => exact onMain_above hz (.of_kept (jobStart_kept ..)) h
  | nsRekey _ => exact onMain_above hz (.of_kept (jobStart_kept ..)) h
  | dieRetire _ => exact onMain_above hz (.of_kept (jobStart_kept ..)) h
  | dieUnresponsive _ => exact onMain_above hz (.of_kept (dieUnresponsive_kept ..)) h
  | twinResync _ => exact onMain_above hz (.of_kept (jobStart_kept ..)) h
  | nsMigrate _ => exact onMain_above hz (.of_kept (jobStart_kept ..)) h
  | nsExport _ => exact onMain_above hz (.of_kept (jobStart_kept ..)) h
  | nsImport _ => exact onMain_above hz (.of_kept (jobStart_kept ..)) h
  | selftestExt _ => exact onMain_above hz (.of_kept (jobStart_kept ..)) h
  | jobSuspend _ => exact onMain_above hz (.of_kept (jobSuspend_kept ..)) h
  | jobResume _ => exact onMain_above hz (.of_kept (jobResume_kept ..)) h
  | jobCancel _ => exact onMain_above hz (.of_kept (jobCancel_kept ..)) h
  | jobStatus _ => exact onMain_above hz (.of_kept (jobStatus_kept ..)) h
  | jobStep _ _ => exact onMain_above hz (jobStep_above _ _ (.refl _)) h
  | jobDequeue => exact execJobDequeue_keeps hz h
  | jobEntryExpiry _ => exact onMain_above hz (.of_kept (jobEntryExpiry_kept ..)) h
  | jobSuspendedLong _ => exact onMain_above hz (.of_kept (jobSuspendedLong_kept ..)) h
  | fwDownload _ _ => exact onMain_above hz (.of_kept (fwDownload_kept ..)) h
  | downloadIdleTimeout => exact onMain_above hz (.of_kept (downloadIdleTimeout_kept ..)) h
  | fwActivate _ _ _ => exact onMain_above hz (.of_kept (fwActivate_kept ..)) h
  | fwActivateRestart _ _ _ => exact onMain_above hz (fwActivateRestart_above _ _ _ (.refl _)) h
  | fwRollStep _ => exact onMain_above hz (.of_kept (fwRollStep_kept ..)) h
  | fwRollFailed _ => exact onMain_above hz (.of_kept (fwRollFailed_kept ..)) h
  | clusterReset _ _ => exact onMain_above hz (.of_fixed (attrCmd_fixed (fun _ => devReset_fixed ..) ..)) h
  | portReset _ _ => exact onMain_above hz (.of_fixed (attrCmd_fixed (fun _ => devReset_fixed ..) ..)) h
  | twinPortReset _ => exact onMain_above hz (.of_fixed (attrCmd_fixed (fun _ => devReset_fixed ..) ..)) h
  | hedgerowPortReset _ _ => exact onMain_above hz (.of_fixed (attrCmd_fixed (fun _ => devReset_fixed ..) ..)) h
  | driveReset _ => exact onMain_above hz (.of_fixed (attrCmd_fixed (fun _ => devReset_fixed ..) ..)) h
  | sidebandLockWrite _ _ => exact execAttrCmd_keeps hz (attrSet_keeps _ _ _ _) h
  | opMessage _ _ _ _ => exact execOpMessage_keeps hz h
  | getSensorReading _ _ => exact onMain_above hz (.of_kept (getSensorReading_kept ..)) h
  | getStateSensorReadings _ _ => exact onMain_above hz (.of_kept (getStateSensorReadings_kept ..)) h
  | pldmFwUpdate _ _ _ _ _ _ => exact onPldm_kept hz (fun _ => pldmUpdate_kept ..) h
  | mctpControl _ _ => exact onSideband_keeps (.of_fixed (mctpControl_fixed ..)) h
  | eraseWindowEnd _ => exact onMain_above hz (.of_kept (eraseWindowEnd_kept ..)) h
  | auxPowerApplied _ => exact next_keeps (auxPowerApplied_keeps _ _) h
  | auxPowerRemoved => exact next_keeps (auxPowerRemoved_keeps _) h
  | ptpIntervalTransmit _ _ => exact onMain_above hz (.of_kept (ptpIntervalTransmit_kept ..)) h
  | duplicateAddressDetection _ _ _ _ => exact onMain_above hz (.of_kept (addressClear_kept ..)) h
  | maintFuseArmExpiry => exact onMain_above hz (.of_kept (maintFuseArmExpiry_kept ..)) h

theorem State.idle_fixed (s : State) : s.idle.dev.fixed = s.dev.fixed := by
  unfold State.idle
  dsimp only
  split
  · exact Drive.advanceTo_fixed ..
  · rfl

theorem step_keeps {s t : State} (hz : s.dev.fixed.Zeroed) (h : step s = .next t) : Keeps s.dev.fixed t.dev.fixed := by
  unfold step at h
  split at h
  · obtain rfl := Host.Outcome.next.inj h
    exact .of_fixed (State.idle_fixed s)
  · rename_i c queue _
    exact exec_keeps (s := { s with pending := queue }) hz h

/-- Settles O7: the fuse, the keys and the versions are followed through every command (R83, R641, R643). -/
theorem zeroisationIsFinal : Obligations.ZeroisationIsFinal := fun s t hz h => by
  obtain ⟨hlast, hblown, hzeroed⟩ := step_keeps ((Drive.zeroed_iff _).mp hz) h
  exact ⟨(Drive.zeroed_iff _).mpr (hzeroed ((Drive.zeroed_iff _).mp hz)), hblown, hlast⟩

end Sys2Proof.Machine
end

-- Proofs of namespaces and the directory: what a command leaves of the tables.
section
namespace Sys2Proof.Machine
open Sys2Proof

/-! ## Tables -/

/-- Tenants, namespaces, the directory, the forwarding table, the located live maps and the last version assigned. -/
structure Tables where
  tenants : List Nat
  nss : Tbl Ns
  dir : List DirEnt
  fwd : List FwdEnt
  live : List (Nat × Nat)
  last : Nat

/-- What requests, replies and the media leave as it is. -/
def Drive.tables (d : Drive) : Tables := ⟨d.kv.tenants, d.kv.nss, d.kv.dir, d.kv.fwd, d.kv.live, d.kv.lastVersion⟩

theorem Drive.tables_congr {a b : Drive} (h : b.kv = a.kv) : b.tables = a.tables := by rw [Drive.tables, h, Drive.tables]

theorem Drive.changesOnly.tables {ps : List Part} {a b : Drive} (h : a.changesOnly ps b) (hk : ps.contains Part.kv = false) :
    b.tables = a.tables := Drive.tables_congr (h.kv hk)

/-- A namespace is read from the tables. -/
theorem Drive.ns_of_tables {a b : Drive} (h : b.tables = a.tables) (n : Nat) : b.ns n = a.ns n :=
  congrArg (fun l => tgetD n ({} : Ns) l) (congrArg Tables.nss h :)

theorem Drive.tenants_of_tables {a b : Drive} (h : b.tables = a.tables) : b.kv.tenants = a.kv.tenants := congrArg Tables.tenants h

@[simp] theorem Drive.ns_setNs (n : Nat) (x : Ns) (d : Drive) : (d.setNs n x).ns n = x := tgetD_tput_same ..

@[simp] theorem Drive.ns_modNs (n : Nat) (f : Ns → Ns) (d : Drive) : (d.modNs n f).ns n = f (d.ns n) := Drive.ns_setNs ..

/-! ## Requests and replies -/

@[simp] theorem Drive.dropReq_tables (o : Origin) (d : Drive) : (d.dropReq o).tables = d.tables := rfl

@[simp] theorem Drive.putReq_tables (r : Req) (d : Drive) : (d.putReq r).tables = d.tables := rfl

@[simp] theorem Drive.event_tables (src sev : Nat) (words : List Nat) (d : Drive) (tag : Option WorkTag) :
    (d.event src sev words tag).tables = d.tables := Drive.tables_congr (Drive.event_kv ..)

@[simp] theorem Drive.reply_tables (o : Origin) (h : OpHdr) (b : Bytes) (d : Drive) : (d.reply o h b).tables = d.tables := by
  rcases Drive.reply_kv o h b d with hk | ⟨o', hk⟩ <;> rw [Drive.tables_congr hk] <;> rfl

@[simp] theorem Drive.refuse_tables (r : Req) (st v off : Nat) (d : Drive) : (d.refuse r st v off).tables = d.tables :=
  Drive.reply_tables ..

@[simp] theorem Drive.batchWhole_tables (r : Req) (st : Nat) (d : Drive) (detail : Nat) : (d.batchWhole r st detail).tables = d.tables := by
  unfold Drive.batchWhole
  dsimp only
  split <;> exact Drive.reply_tables ..

@[simp] theorem Drive.lastReply_tables (sid : Nat) (late : Bool) (d : Drive) : (d.lastReply sid late).tables = d.tables := by
  unfold Drive.lastReply
  dsimp only
  split
  · rfl
  · split
    · rfl
    · split
      · rw [Drive.tables_congr (Drive.modSess_kv ..), Drive.tables_congr (Drive.answer_kv ..), Drive.dropReq_tables]
      · rfl

theorem Drive.StreamsOnly.tables {a b : Drive} (h : a.StreamsOnly b) : b.tables = a.tables := by
  obtain ⟨l, hl⟩ := h
  rw [Drive.tables, hl, Drive.tables]

@[simp] theorem Drive.readTrailer_tables (o : Origin) (st : Nat) (recon rep : Bool) (chunk total : Nat) (d : Drive) :
    (d.readTrailer o st recon rep chunk total).tables = d.tables := by
  unfold Drive.readTrailer
  extract_lets z z'
  have hz : z.tables = d.tables := by
    dsimp only [z]
    split
    · exact Drive.tables_congr (Drive.meterReply_kv ..)
    · rfl
  replace hz : z'.tables = d.tables := hz
  clear_value z'
  split
  · rw [Drive.lastReply_tables, Drive.tables_congr (Drive.replyFrames_kv ..), Drive.tables_congr (Drive.modSess_kv ..), hz]
  · rw [Drive.tables_congr (Drive.twinSend_kv ..), Drive.tables_congr (Drive.twinSeen_kv ..), hz]
  · exact hz

/-- The reply to a read of a record in DRAM leaves the tables alone. -/
theorem Drive.beginRead_shelf_tables (r : Req) (x : Rec) (i lo hi : Nat) (h : OpHdr) (d : Drive) :
    (d.beginRead r x (.shelf i) lo hi h).tables = d.tables := by
  unfold Drive.beginRead
  dsimp only
  split
  · exact Drive.reply_tables ..
  · rw [Drive.readTrailer_tables, Drive.tables_congr (sendChunks_kv ..), Drive.tables_congr (Drive.readHeader_kv ..)]

@[simp] theorem Drive.endRead_tables (s : Stream) (st chunk : Nat) (d : Drive) : (d.endRead s st chunk).tables = d.tables :=
  (Drive.readTrailer_tables ..).trans (Drive.dropStream_streamsOnly ..).tables

@[simp] theorem Drive.refuseRead_tables (r : Req) (st : Nat) (d : Drive) (v : Nat) : (d.refuseRead r st v).tables = d.tables :=
  (Drive.refuse_tables ..).trans (Drive.dropStream_streamsOnly ..).tables

/-! ## Work that is revoked -/

@[simp] theorem revokeStreams_tables (p : Stream → Bool) (l : List Stream) (d : Drive) : (revokeStreams p l d).tables = d.tables := by
  induction l generalizing d with
  | nil => rfl
  | cons s l ih =>
    rw [revokeStreams, ih]
    split
    · split
      · exact Drive.refuseRead_tables ..
      · exact Drive.endRead_tables ..
    · rfl

@[simp] theorem revokeWrites_tables (p : Req → Bool) (l : List Req) (d : Drive) : (revokeWrites p l d).tables = d.tables := by
  induction l generalizing d with
  | nil => rfl
  | cons r l ih =>
    rw [revokeWrites, ih]
    split
    · exact Drive.refuse_tables ..
    · rfl

@[simp] theorem revokeBatches_tables (p : Req → Bool) (l : List Req) (d : Drive) : (revokeBatches p l d).tables = d.tables := by
  induction l generalizing d with
  | nil => rfl
  | cons r l ih =>
    rw [revokeBatches, ih]
    split
    · rw [Drive.batchWhole_tables, Drive.tables_congr (Drive.twinSend_kv ..), Drive.tables_congr (Drive.twinDone_kv ..)]
      rfl
    · rfl

/-- Revoking the work of a namespace ends requests, and leaves the tables. -/
@[simp] theorem Drive.revokeNs_tables (n : Nat) (d : Drive) : (d.revokeNs n).tables = d.tables := by
  unfold Drive.revokeNs
  extract_lets a b c e
  calc e.tables = c.tables := revokeBatches_tables ..
    _ = b.tables := revokeWrites_tables ..
    _ = a.tables := revokeStreams_tables ..

/-! ## Entries that leave the tables -/

@[simp] theorem Drive.dirWatch_tables (d : Drive) : d.dirWatch.tables = d.tables := by
  unfold Drive.dirWatch
  dsimp only
  split
  · exact Drive.event_tables ..
  · split <;> rfl

@[simp] theorem Drive.fwdWatch_tables (d : Drive) : d.fwdWatch.tables = d.tables := by
  unfold Drive.fwdWatch
  extract_lets +onlyGivenNames n kv a
  have ha : a.tables = d.tables := by
    dsimp only [a]
    split
    · exact Drive.event_tables ..
    · split <;> rfl
  clear_value a
  rw [← ha]
  split
  · rw [Drive.event_tables, Drive.tables_congr (Drive.raiseFwd_kv ..)]
    rfl
  · split
    · exact Drive.event_tables ..
    · rfl

@[simp] theorem Drive.fwdRemoved_tables (l : List FwdEnt) (d : Drive) : (d.fwdRemoved l).tables = d.tables :=
  (Drive.fwdRemoved_frame l d).tables rfl

@[simp] theorem Drive.dropFwd_tables (n : Nat) (d : Drive) :
    (d.dropFwd n).tables = { d.tables with fwd := d.kv.fwd.filter (fun e => e.ns ≠ n) } := by
  rw [Drive.dropFwd, Drive.fwdWatch_tables, Drive.fwdRemoved_tables]
  rfl

@[simp] theorem Drive.dropEntries_tables (n : Nat) (d : Drive) :
    (d.dropEntries n).tables = { d.tables with dir := d.kv.dir.filter (fun e => e.ns ≠ n), fwd := d.kv.fwd.filter (fun e => e.ns ≠ n) } := by
  rw [Drive.dropEntries, Drive.dirWatch_tables, Drive.dropFwd_tables]
  rfl

theorem Drive.dropEntries_dir (n : Nat) (d : Drive) : (d.dropEntries n).kv.dir = d.kv.dir.filter (fun e => e.ns ≠ n) :=
  congrArg Tables.dir (Drive.dropEntries_tables n d)

theorem Drive.dropFwd_ns (m n : Nat) (d : Drive) : (d.dropFwd m).ns n = d.ns n :=
  congrArg (fun t => tgetD n ({} : Ns) (Tables.nss t)) (Drive.dropFwd_tables m d)

theorem Drive.dropEntries_ns (m n : Nat) (d : Drive) : (d.dropEntries m).ns n = d.ns n :=
  congrArg (fun t => tgetD n ({} : Ns) (Tables.nss t)) (Drive.dropEntries_tables m d)

end Sys2Proof.Machine
end

-- Proofs of namespaces and the directory: tenants, namespaces and their changes (R138 to R156).
section
namespace Sys2Proof.Machine
open Sys2Proof

/-! ## Changes that wait for both drives -/

theorem Drive.sendChange_kv (c : TableChange) (d : Drive) : (d.sendChange c).2.kv = { d.kv with tableSeq := d.kv.tableSeq + 1 } := by
  unfold Drive.sendChange
  dsimp only
  split
  · rfl
  · rw [Drive.twinOp_kv, Drive.newOpId_kv]

@[simp] theorem Drive.sendChange_tables (c : TableChange) (d : Drive) : (d.sendChange c).2.tables = d.tables := by
  rw [Drive.tables, Drive.sendChange_kv]
  rfl

@[simp] theorem Drive.pendChange_tables (r : Req) (c : TableChange) (h : OpHdr) (b : Bytes) (d : Drive) :
    (d.pendChange r c h b).tables = d.tables := Drive.sendChange_tables c d

/-- What waits until both drives hold a change: its request, in the table. -/
theorem Drive.pendChange_req? {d : Drive} {r r0 : Req} (hr : d.req? r.origin = some r0) (c : TableChange) (h : OpHdr) (b : Bytes) :
    (d.pendChange r c h b).req? r.origin = some { r with phase := .table } := by
  have hsent : (d.sendChange c).2.req? r.origin = some r0 := by rwa [Drive.req?, Drive.sendChange_kv]
  exact Drive.req?_putReq (d := (d.sendChange c).2.delta { kind := 0, ns := r.hdr.ns, version := (d.sendChange c).1 }) hsent rfl

/-- A change that the pair can hold and be told is applied, and waits (R140). -/
theorem Drive.change_of {d : Drive} (hc : d.canChange = true) (ht : d.canTell = true) (r : Req) (c : TableChange) (h : OpHdr)
    (bodyOf : Drive → Bytes) : d.change r c h bodyOf =
      (d.applyChange c).pendChange r c { h with valueLen := (bodyOf (d.applyChange c)).length } (bodyOf (d.applyChange c)) := by
  rw [Drive.change, if_neg (by simp [hc]), if_neg (by simp [ht])]

theorem Drive.change_tables {d : Drive} (hc : d.canChange = true) (ht : d.canTell = true) (r : Req) (c : TableChange) (h : OpHdr)
    (bodyOf : Drive → Bytes) : (d.change r c h bodyOf).tables = (d.applyChange c).tables := by
  rw [Drive.change_of hc ht, Drive.pendChange_tables]

theorem Drive.change_ns {d : Drive} (hc : d.canChange = true) (ht : d.canTell = true) (r : Req) (c : TableChange) (h : OpHdr)
    (bodyOf : Drive → Bytes) (n : Nat) : (d.change r c h bodyOf).ns n = (d.applyChange c).ns n :=
  Drive.ns_of_tables (Drive.change_tables hc ht r c h bodyOf) n

/-- The operator's request, when its turn has come. -/
theorem operatorOnly_of {d : Drive} {o : Origin} {op : Nat} {r : Req} (h : d.Asks o op r) (ht : d.originTenant r = 0)
    (f : Req → Drive → Drive) : operatorOnly o op f d = f r d := by
  rw [operatorOnly, Drive.withReq_of h.req h.active (by simp [h.opcode]) h.turn, if_neg (not_not_intro ht)]

theorem stateAnswer_of {st : Nat} (h : st ∈ [0x21, 0x22]) (r : Req) (d : Drive) (k : Drive → Drive) : stateAnswer r st d k = k d := by
  rw [stateAnswer]
  rcases List.mem_pair.mp h with rfl | rfl <;> rfl

/-! ## Tenants -/

/-- A tenant that is not there is created (R141), and its creation waits (R140). -/
theorem tenantCreate_of {d : Drive} {o : Origin} {r : Req} (h : d.Asks o 0x68 r) (ht : d.originTenant r = 0) (h0 : r.hdr.tenant ≠ 0)
    (hnew : d.tenantExists r.hdr.tenant = false) (hc : d.canChange = true) (hd : d.canTell = true) :
    r.hdr.tenant ∈ (tenantCreate o d).kv.tenants ∧ ∃ q, (tenantCreate o d).req? o = some q ∧ q.phase = .table := by
  have ho := Drive.req?_origin h.req
  have hfree : ¬d.kv.tenants.contains r.hdr.tenant = true := by simpa [Drive.tenantExists, h0] using hnew
  have happly : d.applyChange (.tenantCreate r.hdr.tenant) = { d with kv.tenants := d.kv.tenants ++ [r.hdr.tenant] } := if_neg hfree
  rw [tenantCreate, operatorOnly_of h ht]
  dsimp only
  rw [if_neg (by simp [h0, hnew])]
  constructor
  · rw [Drive.tenants_of_tables (Drive.change_tables hc hd ..), happly]
    exact List.mem_append_right _ (List.mem_singleton_self _)
  · subst ho
    have hreq : (d.applyChange (.tenantCreate r.hdr.tenant)).req? r.origin = some r := by
      rw [happly]
      exact h.req
    rw [Drive.change_of hc hd]
    exact ⟨_, Drive.pendChange_req? hreq .., rfl⟩

/-- A tenant that is there and not in use is deleted (R141, R142). -/
theorem tenantDelete_of {d : Drive} {o : Origin} {r : Req} (h : d.Asks o 0x69 r) (ht : d.originTenant r = 0) (h0 : r.hdr.tenant ≠ 0)
    (hthere : d.tenantExists r.hdr.tenant = true) (hidle : d.tenantState r.hdr.tenant ≠ 0x12) (hc : d.canChange = true)
    (hd : d.canTell = true) : r.hdr.tenant ∉ (tenantDelete o d).kv.tenants := by
  rw [tenantDelete, operatorOnly_of h ht]
  dsimp only
  rw [if_neg h0, if_neg (by simp [hthere]), if_neg hidle]
  rw [Drive.tenants_of_tables (Drive.change_tables hc hd ..)]
  exact fun hmem => by simpa using (List.mem_filter.mp hmem).2

/-! ## Namespaces -/

/-- A namespace is created above every generation that its number has had (R147). -/
theorem Drive.applyChange_nsCreate (d : Drive) (n owner : Nat) (located solo sw : Bool) (quota : Nat) :
    (d.applyChange (.nsCreate n owner located solo sw (max (d.ns n).gen (d.ns n).topGen + 1) quota)).ns n =
      { state := 0x21, located, solo, soloWrites := sw, owner, gen := max (d.ns n).gen (d.ns n).topGen + 1,
        topGen := max (d.ns n).gen (d.ns n).topGen + 1, quota, floor := (d.ns n).floor } := by
  have hgen : ¬max (d.ns n).gen (d.ns n).topGen + 1 ≤ (d.ns n).gen := by omega
  exact (congrArg (fun z : Drive => z.ns n) (if_neg hgen)).trans (Drive.ns_setNs ..)

/-- An ACTIVE or SWEEPING namespace that is deleted is DELETING (R155). -/
theorem Drive.applyChange_nsDelete {d : Drive} {n : Nat} (h : (d.ns n).state ∈ [0x21, 0x22]) :
    ((d.applyChange (.nsDelete n)).ns n).state = 0x23 := by
  have hstate : ¬((d.ns n).state ≠ 0x21 ∧ (d.ns n).state ≠ 0x22) := by simpa [or_iff_not_imp_left] using h
  have happly : d.applyChange (.nsDelete n) = (d.modNs n (fun x => { x with state := 0x23, used := 0, count := 0 })).revokeNs n :=
    if_neg hstate
  rw [happly, Drive.ns_of_tables (Drive.revokeNs_tables ..), Drive.ns_modNs]

/-- A request for a namespace that NS_CREATE accepts (R143, R144). -/
structure Drive.Creates (d : Drive) (o : Origin) (r : Req) (x : NsDesc) : Prop where
  asks : d.Asks o 0x60 r
  operator : d.originTenant r = 0
  value : r.hdr.valueLen = 48
  body : r.body.length = 48
  number : r.hdr.ns ≤ 16383
  desc : x = parseNsDesc r.body
  kind : x.kind = 1 ∨ (x.kind = 2 ∧ x.quota ≠ 0 ∧ x.solo = true)
  apart : (x.soloWrites && x.solo) = false
  owner : d.tenantExists r.hdr.tenant = true
  free : (d.ns r.hdr.ns).state = 0x20

theorem nsCreate_of {d : Drive} {o : Origin} {r : Req} {x : NsDesc} (h : d.Creates o r x) :
    nsCreate o d = d.change r (.nsCreate r.hdr.ns r.hdr.tenant (x.kind == 2) x.solo x.soloWrites
      (max (d.ns r.hdr.ns).gen (d.ns r.hdr.ns).topGen + 1) x.quota) (echo r.hdr) (fun d => d.descriptor r.hdr.ns) := by
  rw [nsCreate, operatorOnly_of h.asks h.operator]
  dsimp only
  rw [← h.desc]
  rw [firstFail_eq_none.mpr]
  · dsimp only
    rw [if_neg (by simp [h.free])]
  · have hkind := h.kind
    simp only [List.forall_mem_cons, h.value, h.body, h.number, h.apart, h.owner, h.free]
    rcases hkind with hk | ⟨hk, hq, hs⟩ <;> simp [*]

theorem nsDelete_of {d : Drive} {o : Origin} {r : Req} (h : d.Asks o 0x61 r) (ht : d.originTenant r = 0)
    (hs : (d.ns r.hdr.ns).state ∈ [0x21, 0x22]) : nsDelete o d = d.change r (.nsDelete r.hdr.ns) (echo r.hdr) (fun _ => []) := by
  rw [nsDelete, operatorOnly_of h ht]
  exact stateAnswer_of hs ..

/-- Settles O32: each change as it is applied, and read back from the tables that a pending change leaves. -/
theorem tenantsAndNamespaces : Obligations.TenantsAndNamespaces := by
  unfold Obligations.TenantsAndNamespaces
  refine ⟨fun s o r h ht h0 hnew hc hd => completes_onMain rfl h.live (tenantCreate_of h ht h0 hnew hc hd),
    fun s o r h ht h0 hthere hidle hc hd => completes_onMain rfl h.live (tenantDelete_of h ht h0 hthere hidle hc hd), ?_, ?_⟩
  · intro s o r x h ht hvalue hbody hn hx hkind hapart howner hfree hc hd
    refine completes_onMain rfl h.live ?_
    rw [nsCreate_of ⟨h, ht, hvalue, hbody, hn, hx, hkind, hapart, howner, hfree⟩, Drive.change_ns hc hd, Drive.applyChange_nsCreate]
    exact ⟨rfl, rfl, rfl, rfl, rfl⟩
  · intro s o r h ht hs hc hd
    refine completes_onMain rfl h.live ?_
    rw [nsDelete_of h ht hs, Drive.change_ns hc hd]
    exact Drive.applyChange_nsDelete hs

/-! ## A generation is raised -/

/-- Of a namespace whose generation is raised (R151): its generation, nothing used, and what it is otherwise but for its state. -/
theorem Drive.raiseGen_ns (n gen floor : Nat) (d : Drive) : let x := (d.raiseGen n gen floor).ns n
    x.gen = gen ∧ x.used = 0 ∧ x.quota = (d.ns n).quota ∧ x.soloWrites = (d.ns n).soloWrites := by
  unfold Drive.raiseGen
  extract_lets f a b x
  have hb : b.ns n = a.ns n := Drive.ns_of_tables (Drive.revokeNs_tables ..) n
  have ha : a.ns n = { d.ns n with gen := gen, topGen := max (d.ns n).topGen gen, used := 0, count := 0,
                                   floor := if (d.ns n).located then f else (d.ns n).floor } := Drive.ns_modNs ..
  rw [ha] at hb
  clear_value b
  dsimp only [x]
  split
  · rw [Drive.ns_modNs, Drive.dropEntries_ns, hb]
    exact ⟨rfl, rfl, rfl, rfl⟩
  · split
    · rw [Drive.dropFwd_ns, hb]
      exact ⟨rfl, rfl, rfl, rfl⟩
    · rw [Drive.ns_modNs, hb]
      exact ⟨rfl, rfl, rfl, rfl⟩

/-- What NS_MODIFY's quota and solo writes make of a namespace, where it names them (R150, R154). -/
def Ns.amended (q : Option Nat) (sw : Option Bool) (x : Ns) : Ns := { x with quota := q.getD x.quota, soloWrites := sw.getD x.soloWrites }

/-- NS_MODIFY's three changes, joined (R150, R151, R154). -/
theorem Drive.applyChange_nsModify (n : Nat) (q : Option Nat) (sw : Option Bool) (raise : Bool) (floor : Nat) (d : Drive) :
    let y := (d.applyChange (.nsModify n q sw (if raise then some ((d.ns n).gen + 1) else none) floor)).ns n
    y.quota = q.getD (d.ns n).quota ∧ y.soloWrites = sw.getD (d.ns n).soloWrites ∧
      (raise = true → y.gen = (d.ns n).gen + 1 ∧ y.used = 0) := by
  have hz : (d.modNs n (Ns.amended q sw)).ns n = (d.ns n).amended q sw := Drive.ns_modNs ..
  cases raise with
  | false =>
    have happly : d.applyChange (.nsModify n q sw none floor) = d.modNs n (Ns.amended q sw) := rfl
    simp only [Bool.false_eq_true, if_false, happly, hz]
    exact ⟨rfl, rfl, nofun⟩
  | true =>
    have happly : d.applyChange (.nsModify n q sw (some ((d.ns n).gen + 1)) floor) =
        (d.modNs n (Ns.amended q sw)).raiseGen n ((d.ns n).gen + 1) floor :=
      if_neg (by rw [Drive.ns_modNs]; exact Nat.not_succ_le_self _)
    obtain ⟨hgen, hused, hquota, hsolo⟩ := Drive.raiseGen_ns n ((d.ns n).gen + 1) floor (d.modNs n (Ns.amended q sw))
    rw [hz] at hquota hsolo
    simp only [if_true, happly]
    exact ⟨hquota, hsolo, fun _ => ⟨hgen, hused⟩⟩

/-- A request for changes of a namespace that NS_MODIFY accepts (R144, R148, R150). -/
structure Drive.Modifies (d : Drive) (o : Origin) (r : Req) (x : NsDesc) : Prop where
  asks : d.Asks o 0x62 r
  operator : d.originTenant r = 0
  desc : x = parseNsDesc r.body
  value : r.hdr.valueLen = 48
  body : r.body.length = 48
  active : (d.ns r.hdr.ns).state = 0x21
  fits : ((bit 2 r.hdr.flags && x.soloWrites && (d.ns r.hdr.ns).solo) || (bit 0 r.hdr.flags && (d.ns r.hdr.ns).located && x.quota == 0)) = false
  changes : d.canChange = true
  tells : d.canTell = true

/-- Whichever of its commands runs it, NS_MODIFY makes every change that its flags name. -/
theorem nsModify_ns {d : Drive} {o : Origin} {r : Req} {x : NsDesc} (h : d.Modifies o r x) {b : Nat} (hb : bit b r.hdr.flags = true) :
    let y := (nsModify b o d).ns r.hdr.ns
    (bit 0 r.hdr.flags = true → y.quota = x.quota) ∧
      (bit 1 r.hdr.flags = true → y.gen = (d.ns r.hdr.ns).gen + 1 ∧ y.used = 0) ∧
      (bit 2 r.hdr.flags = true → y.soloWrites = x.soloWrites) := by
  have hrun : nsModify b o d = d.change r (.nsModify r.hdr.ns (if bit 0 r.hdr.flags then some x.quota else none)
      (if bit 2 r.hdr.flags then some x.soloWrites else none) (if bit 1 r.hdr.flags then some ((d.ns r.hdr.ns).gen + 1) else none)
      d.pairVersion) (echo r.hdr) (fun d => d.descriptor r.hdr.ns) := by
    rw [nsModify, operatorOnly_of h.asks h.operator]
    dsimp only
    rw [← h.desc, if_neg (by simp [hb]), if_neg (by simp [h.value, h.body]), stateAnswer_of (by simp [h.active]), if_neg (by simp [h.active]),
      if_neg (by simp [h.fits])]
  obtain ⟨hquota, hsolo, hraise⟩ := Drive.applyChange_nsModify r.hdr.ns (if bit 0 r.hdr.flags then some x.quota else none)
    (if bit 2 r.hdr.flags then some x.soloWrites else none) (bit 1 r.hdr.flags) d.pairVersion d
  intro y
  dsimp only [y]
  rw [hrun, Drive.change_ns h.changes h.tells]
  refine ⟨fun h0 => ?_, hraise, fun h2 => ?_⟩
  · rw [hquota, if_pos h0, Option.getD_some]
  · rw [hsolo, if_pos h2, Option.getD_some]

/-! ## NS_INFO, and the end of a sweep -/

theorem nsInfo_of {d : Drive} {o : Origin} {r : Req} (h : d.Asks o 0x63 r) (hs : (d.ns r.hdr.ns).state ≠ 0x20)
    (ht : d.originTenant r = 0 ∨ ((d.ns r.hdr.ns).state ≠ 0x24 ∧ (d.ns r.hdr.ns).owner = d.originTenant r)) :
    nsInfo o d = d.reply o { echo r.hdr with valueLen := (d.descriptor r.hdr.ns).length } (d.descriptor r.hdr.ns) := by
  rw [nsInfo, Drive.withReq_of h.req h.active (by simp [h.opcode]) h.turn]
  dsimp only
  rw [if_neg ?_, if_neg hs]
  rintro ⟨hne, hrefused⟩
  obtain ⟨hretired, howner⟩ := ht.resolve_left hne
  rcases hrefused with h20 | h24 | hother
  · exact hs h20
  · exact hretired h24
  · exact hother howner

theorem sweepComplete_of {d : Drive} {n : Nat} (h : (d.ns n).state ∈ [0x22, 0x23]) : (∀ e ∈ (sweepComplete n d).kv.dir, e.ns ≠ n) ∧
    ((sweepComplete n d).ns n).state = if (d.ns n).state = 0x22 then 0x21 else if (d.ns n).topGen = 2 ^ 32 - 2 then 0x24 else 0x20 := by
  have hdir : ∀ e ∈ (d.dropEntries n).kv.dir, e.ns ≠ n := fun e he => by
    rw [Drive.dropEntries_dir] at he
    simpa using (List.mem_filter.mp he).2
  unfold sweepComplete
  dsimp only
  rcases List.mem_pair.mp h with hs | hs
  · rw [if_pos hs, if_pos hs, Drive.ns_modNs]
    exact ⟨hdir, rfl⟩
  · have hne : ¬(d.ns n).state = 0x22 := by simp [hs]
    rw [if_neg hne, if_pos hs, if_neg hne, Drive.ns_setNs]
    exact ⟨hdir, rfl⟩

/-- Settles O33: the three changes by `nsModify_ns`, the descriptor as a reply, and the sweep's end. -/
theorem namespacesChange : Obligations.NamespacesChange := by
  unfold Obligations.NamespacesChange
  refine ⟨?_, ?_, fun s n hlive hs => completes_onMain rfl hlive (sweepComplete_of hs)⟩
  · rintro s o r x n h ht rfl hx hvalue hbody hactive hfits hc hd
    have hm : s.dev.Modifies o r x := ⟨h, ht, hx, hvalue, hbody, hactive, hfits, hc, hd⟩
    refine ⟨fun h0 => completes_onMain rfl h.live ?_, fun h1 => completes_onMain rfl h.live ?_, fun h2 => completes_onMain rfl h.live ?_⟩
    · exact (nsModify_ns hm h0).1 h0
    · exact (nsModify_ns hm h1).2.1 h1
    · exact (nsModify_ns hm h2).2.2 h2
  · rintro s o r n h rfl hs ht
    refine completes_onMain rfl h.live ?_
    rw [nsInfo_of h hs ht]
    exact ⟨Drive.reply_req? .., Drive.reply_mem ..⟩

end Sys2Proof.Machine
end

-- Proofs of namespaces and the directory: located operations (R177 to R196).
section
namespace Sys2Proof.Machine
open Sys2Proof

/-! ## Tokens that are served here -/

/-- A request with a token that passes the checks of Table 1.6, is served at this home, and names a record (R179, R182). -/
structure Drive.ServesToken (d : Drive) (o : Origin) (op : Nat) (r : Req) (sb gran : Nat) (rec_ : Rec) : Prop where
  asks : d.Asks o op r
  early : d.checks14 r = none
  late : d.checks69 r (d.originTenant r) (op == 0x21) = none
  home : d.effTwin = 0 ∨ (op = 0x20 ∧ (parseToken r.body).home = d.roleBit)
  holly : d.hollyUp = true
  names : d.tokenRecord r (d.originTenant r) (parseToken r.body) = some (sb, gran, rec_)

theorem locChecked_of {d : Drive} {o : Origin} {op : Nat} {r : Req} {sb gran : Nat} {rec_ : Rec} (h : d.ServesToken o op r sb gran rec_)
    (serve : Req → Token → Drive → Drive) : locChecked o op serve d = serve r (parseToken r.body) d := by
  rw [locChecked, Drive.withReq_of h.asks.req h.asks.active (by simp [h.asks.opcode]) h.asks.turn]
  dsimp only
  rw [orElse_of_none h.early h.late]
  dsimp only
  rw [if_neg, if_neg (by simp [h.holly]), if_neg]
  · rintro ⟨hop, hroute⟩
    have hunpaired := h.home.resolve_right fun hget => absurd (hop.symm.trans hget.1) (by decide)
    rw [Drive.route_unpaired hunpaired] at hroute
    cases hroute
  · rintro ⟨hpaired, hother⟩
    exact hother (h.home.resolve_left hpaired).2

/-- A lookup in a live map changes its cache, and what is counted of the media (R196). -/
theorem Drive.mapLookup_eq (sb gran : Nat) (d : Drive) :
    ∃ cache health, d.mapLookup sb gran = { d with kv.mapCache := cache, health := health } := by
  unfold Drive.mapLookup
  dsimp only
  split
  · exact ⟨_, _, rfl⟩
  · exact ⟨_, _, rfl⟩

/-! ## LOC_GET -/

/-- A reply that is read from flash streams, once its request says so (R53, R180). -/
theorem Drive.beginRead_media {d : Drive} {r : Req} (hr : d.req? r.origin = some r) (x : Rec) (sb gran lo hi : Nat) (h : OpHdr) :
    (d.beginRead r x (.media sb gran) lo hi h).tables = d.tables ∧
      (d.beginRead r x (.media sb gran) lo hi h).req? r.origin = some { r with phase := .streaming, replyHdr := h } := by
  have hput : (d.putReq { r with phase := .streaming, replyHdr := h }).req? r.origin = some { r with phase := .streaming, replyHdr := h } :=
    Drive.req?_putReq hr rfl
  unfold Drive.beginRead
  extract_lets total first stop s z
  have hissue := Drive.issueChunk_streamsOnly s { z with kv.streams := z.kv.streams ++ [s] }
  exact ⟨hissue.tables, (hissue.req? r.origin).trans hput⟩

/-- LOC_GET of a record that is sound and opens begins its reply, with the clamped range and the record's version (R180, R182). -/
theorem locGetRequest_begins {d : Drive} {o : Origin} {r : Req} {sb gran : Nat} {rec_ : Rec} (h : d.ServesToken o 0x20 r sb gran rec_)
    (hsound : d.locMark sb gran = false) (hopens : (d.slotOfSerial (d.originTenant r) rec_.serial).isSome = true) :
    ∃ z : Drive, z.tables = d.tables ∧ z.kv.reqs = d.kv.reqs ∧
      locGetRequest o d = z.beginRead r rec_ (d.locPlace sb gran) (readRange r.hdr rec_.value.length).1 (readRange r.hdr rec_.value.length).2
        { echo r.hdr with
          valueLen := (readRange r.hdr rec_.value.length).2 - (readRange r.hdr rec_.value.length).1
          offset := r.hdr.offset, condVersion := rec_.version } := by
  obtain ⟨i, hi⟩ := Option.isSome_iff_exists.mp hopens
  obtain ⟨cache, health, hz⟩ := d.mapLookup_eq sb gran
  have hmark : (d.mapLookup sb gran).locMark sb gran = false := by rw [hz]; exact hsound
  have hslot : (d.mapLookup sb gran).slotOfSerial (d.originTenant r) rec_.serial = some i := by rw [hz]; exact hi
  refine ⟨(d.mapLookup sb gran).useKey (65536 + i) rec_.ns rec_.gen, ?_, ?_, ?_⟩
  · rw [Drive.tables_congr (Drive.useKey_kv ..), hz]
    rfl
  · rw [Drive.useKey_kv, hz]
  · rw [locGetRequest, locChecked_of h]
    dsimp only
    rw [h.names]
    dsimp only
    rw [if_neg (by simp [hmark]), hslot, hz]
    rfl

/-! ## LOC_DELETE -/

@[simp] theorem Drive.awaitNeeds_tables (r : Req) (v : Nat) (h : OpHdr) (body : Bytes) (recs : List Rec) (key : Option (Nat × Bytes))
    (release : Nat) (d : Drive) : (d.awaitNeeds r v h body recs key release).tables = d.tables := by
  unfold Drive.awaitNeeds
  dsimp only
  rw [Drive.putReq_tables, Drive.tables_congr (Drive.noteChanges_kv ..)]
  split
  · exact Drive.tables_congr (Drive.mirror_kv ..)
  · rfl

/-- What follows a located deletion leaves the live maps and the versions: entries that go, the namespace's count, the reply that waits. -/
theorem Drive.locDeleted_keeps {b w : Drive} {gone : List FwdEnt} {n : Nat} {f : Ns → Ns} {r : Req} {v : Nat} {h : OpHdr} {release : Nat}
    (hb : b = ((w.fwdRemoved gone).fwdWatch.modNs n f).awaitNeeds r v h [] [] none release) :
    b.kv.live = w.kv.live ∧ b.kv.lastVersion = w.kv.lastVersion := by
  have hwatched : (w.fwdRemoved gone).fwdWatch.tables = w.tables := (Drive.fwdWatch_tables _).trans (Drive.fwdRemoved_tables ..)
  have hwaits := Drive.awaitNeeds_tables r v h [] [] none release ((w.fwdRemoved gone).fwdWatch.modNs n f)
  subst hb
  exact ⟨(congrArg Tables.live hwaits).trans (congrArg Tables.live hwatched :),
    (congrArg Tables.last hwaits).trans (congrArg Tables.last hwatched :)⟩

/-- A LOC_DELETE that may take effect now. -/
structure Drive.DeletesToken (d : Drive) (o : Origin) (r : Req) (sb gran i : Nat) (rec_ : Rec) : Prop where
  serves : d.ServesToken o 0x21 r sb gran rec_
  versions : d.versionsSpent r.input = false
  assigns : d.canAssign = true
  shelves : d.canShelve = true
  slot : d.slotIn (d.originTenant r) 0x39 = some i
  nonce : (d.stslot i).nonce + 1 < d.nonceEnd

/-- LOC_DELETE clears the record's bit in the live map, at a version greater than every one before (R184). -/
theorem locDeleteRequest_clears {d : Drive} {o : Origin} {r : Req} {sb gran i : Nat} {rec_ : Rec} (h : d.DeletesToken o r sb gran i rec_) :
    (locDeleteRequest o d).kv.live = d.kv.live.filter (· ≠ (sb, gran)) ∧ d.kv.lastVersion < (locDeleteRequest o d).kv.lastVersion := by
  obtain ⟨cache, health, hz⟩ := d.mapLookup_eq sb gran
  obtain ⟨z, hzdef⟩ : ∃ z, d.mapLookup sb gran = z := ⟨_, rfl⟩
  rw [hzdef] at hz
  have hspent : z.versionsSpent r.input = false := by rw [hz]; exact h.versions
  have hassign : z.canAssign = true := by rw [hz]; exact h.assigns
  have hshelve : z.canShelve = true := by rw [hz]; exact h.shelves
  obtain ⟨e, hdrawn, -, hekv, -⟩ := Drive.drawNonce_of (d := z) (t := d.originTenant r) (i := i) (by rw [hz]; exact h.slot)
    (by rw [hz]; exact h.nonce)
  obtain ⟨v, y, hassigned, hlt, hset, -⟩ := Drive.assign_eq r.input e
  rw [hekv] at hlt hset
  have hlive : y.kv.live = d.kv.live := by rw [hset, hz]
  have hlast : y.kv.lastVersion = v := by rw [hset]
  rw [hz] at hlt
  rw [locDeleteRequest, locChecked_of h.serves]
  dsimp only
  rw [h.serves.names]
  dsimp only
  rw [hzdef, if_neg (by simp [hspent]), if_neg (by simp [hassign, hshelve]), hdrawn]
  dsimp only
  rw [hassigned]
  dsimp only
  generalize hb : Drive.awaitNeeds _ _ _ _ _ _ _ _ = b
  obtain ⟨hkept, hversion⟩ := Drive.locDeleted_keeps hb.symm
  rw [hkept, hversion]
  exact ⟨congrArg (fun l : List (Nat × Nat) => l.filter (· ≠ (sb, gran))) hlive, hlast.symm ▸ hlt⟩

/-! ## RELOC_ACK -/

/-- What an entry keeps when the entries it leads to are spliced out: the old place that it is found by, its home and its namespace. -/
def FwdEnt.source (e : FwdEnt) : (Nat × Nat × Nat) × Nat × Nat := ((e.oldSb, e.oldGran, e.oldEpoch), e.homeBit, e.ns)

theorem FwdEnt.source_eq {x e : FwdEnt} (h : x.source = e.source) :
    x.oldSb = e.oldSb ∧ x.oldGran = e.oldGran ∧ x.oldEpoch = e.oldEpoch ∧ x.homeBit = e.homeBit ∧ x.ns = e.ns := by
  simpa [FwdEnt.source, and_assoc] using h

/-- Splicing an entry out takes what is found at its place, and nothing else. -/
theorem spliceFwd_sources (sb gran epoch : Nat) (l : List FwdEnt) :
    (spliceFwd sb gran epoch l).map FwdEnt.source = (l.map FwdEnt.source).filter (fun p => p.1 ≠ (sb, gran, epoch)) := by
  unfold spliceFwd
  split
  · rename_i hnone
    rw [List.find?_eq_none] at hnone
    refine (List.filter_eq_self.mpr fun p hp => ?_).symm
    obtain ⟨x, hx, rfl⟩ := List.mem_map.mp hp
    have hother := hnone x hx
    simpa [FwdEnt.source, imp_iff_not_or] using hother
  · rename_i e he
    rw [List.map_map, List.filter_map, List.map_congr_left (g := FwdEnt.source) fun x _ => ?same]
    case same =>
      simp only [Function.comp_apply]
      split <;> rfl
    congr 1
    refine List.filter_congr fun x _ => ?_
    simp [FwdEnt.source, Bool.or_assoc, beq_eq_decide]

/-- The forwarding table once the entries of a list have been spliced out of it. -/
def spliceAll (named l : List FwdEnt) : List FwdEnt :=
  named.foldl (fun (l : List FwdEnt) (e : FwdEnt) => spliceFwd e.oldSb e.oldGran e.oldEpoch l) l

theorem spliceAll_sources (named l : List FwdEnt) :
    (spliceAll named l).map FwdEnt.source = (l.map FwdEnt.source).filter (fun p => named.all (fun e => p.1 ≠ e.source.1)) := by
  induction named generalizing l with
  | nil => simp [spliceAll]
  | cons e named ih =>
    calc (spliceAll (e :: named) l).map FwdEnt.source
        = ((spliceFwd e.oldSb e.oldGran e.oldEpoch l).map FwdEnt.source).filter (fun p => named.all (fun e => p.1 ≠ e.source.1)) := ih _
      _ = _ := by
        rw [spliceFwd_sources, List.filter_filter]
        refine List.filter_congr fun p _ => ?_
        rw [List.all_cons, Bool.and_comm]
        rfl

/-- Sources that are left are those at whose places no entry was spliced out. -/
theorem mem_spliceAll_sources {named l : List FwdEnt} {p : (Nat × Nat × Nat) × Nat × Nat} :
    p ∈ (spliceAll named l).map FwdEnt.source ↔ (∃ x ∈ l, x.source = p) ∧ ∀ e ∈ named, p.1 ≠ e.source.1 := by
  rw [spliceAll_sources, List.mem_filter, List.mem_map, List.all_eq_true]
  simp

/-- A request with tokens of relocated records that RELOC_ACK accepts (R188). -/
structure Drive.Acknowledges (d : Drive) (o : Origin) (r : Req) (n : Nat) : Prop where
  asks : d.Asks o 0x22 r
  value : r.hdr.valueLen = 16 * n
  named : 1 ≤ n
  few : n ≤ 256
  body : r.body.length = r.hdr.valueLen
  owner : (d.originTenant r = 0 ∧ ((d.ns r.hdr.ns).state = 0x21 ∨ (d.ns r.hdr.ns).state = 0x22)) ∨ d.nsOwned r.hdr.ns (d.originTenant r) = true

/-- The entries that a request's tokens name (R188). -/
def Drive.fwdNamed (d : Drive) (r : Req) : List FwdEnt :=
  d.kv.fwd.filter (fun e => e.ns == r.hdr.ns && (tokensOf 256 r.body).any (fun t =>
    t.sb == e.oldSb && t.gran == e.oldGran && t.epoch == e.oldEpoch && t.home == e.homeBit && t.ns == e.ns))

theorem Drive.mem_fwdNamed {d : Drive} {r : Req} {e : FwdEnt} : e ∈ d.fwdNamed r ↔ e ∈ d.kv.fwd ∧ e.ns = r.hdr.ns ∧
    ∃ t ∈ tokensOf 256 r.body, t.sb = e.oldSb ∧ t.gran = e.oldGran ∧ t.epoch = e.oldEpoch ∧ t.home = e.homeBit ∧ t.ns = e.ns := by
  simp [Drive.fwdNamed, and_assoc]

/-- RELOC_ACK splices out the entries that are named, and answers how many they are. -/
theorem relocAckRequest_of {d : Drive} {o : Origin} {r : Req} {n : Nat} (h : d.Acknowledges o r n) :
    (relocAckRequest o d).kv.fwd = spliceAll (d.fwdNamed r) d.kv.fwd ∧
      Out.reply o { echo r.hdr with offset := (d.fwdNamed r).length } [] ∈ (relocAckRequest o d).out := by
  have hrun : relocAckRequest o d = ((Drive.fwdRemoved (d.fwdNamed r)
      { d with kv.fwd := spliceAll (d.fwdNamed r) d.kv.fwd }).fwdWatch).reply o { echo r.hdr with offset := (d.fwdNamed r).length } [] := by
    have hvalue := h.value
    have hsome := h.named
    have hfew := h.few
    rw [relocAckRequest, Drive.withReq_of h.asks.req h.asks.active (by simp [h.asks.opcode]) h.asks.turn]
    dsimp only
    rw [firstFail_eq_none.mpr]
    · rfl
    · have howner : ((d.originTenant r == 0 && ((d.ns r.hdr.ns).state == 0x21 || (d.ns r.hdr.ns).state == 0x22)) ||
          d.nsOwned r.hdr.ns (d.originTenant r)) = true := by simpa using h.owner
      simp [howner, h.body]
      omega
  rw [hrun]
  constructor
  · exact congrArg Tables.fwd (((Drive.reply_tables ..).trans (Drive.fwdWatch_tables _)).trans (Drive.fwdRemoved_tables ..) :)
  · exact Drive.reply_mem ..

/-- What a RELOC_ACK leaves: no named entry, no new one, and every one at whose old place no token points (R188, R189). -/
theorem relocAckRequest_acknowledges {d : Drive} {o : Origin} {r : Req} {n : Nat} (h : d.Acknowledges o r n) {named : FwdEnt → Bool}
    (hnamed : ∀ e, named e = true ↔ e.ns = r.hdr.ns ∧
      ∃ t ∈ tokensOf 256 r.body, t.sb = e.oldSb ∧ t.gran = e.oldGran ∧ t.epoch = e.oldEpoch ∧ t.home = e.homeBit ∧ t.ns = e.ns) :
    let z := relocAckRequest o d
    (∀ e ∈ z.kv.fwd, named e = false) ∧ (∀ e ∈ z.kv.fwd, ∃ x ∈ d.kv.fwd, x.source = e.source) ∧
      (∀ x ∈ d.kv.fwd, (∀ t ∈ tokensOf 256 r.body, ¬(t.sb = x.oldSb ∧ t.gran = x.oldGran ∧ t.epoch = x.oldEpoch)) →
        ∃ e ∈ z.kv.fwd, x.source = e.source) ∧
      Out.reply o { echo r.hdr with offset := (d.kv.fwd.filter named).length } [] ∈ z.out := by
  intro z
  obtain ⟨hfwd, hreply⟩ := relocAckRequest_of h
  have hfilter : d.fwdNamed r = d.kv.fwd.filter named := List.filter_congr fun e _ => by
    rw [Bool.eq_iff_iff, hnamed]
    simp [and_assoc]
  have hleft : ∀ e ∈ z.kv.fwd, (∃ x ∈ d.kv.fwd, x.source = e.source) ∧ ∀ y ∈ d.fwdNamed r, e.source.1 ≠ y.source.1 :=
    fun e he => mem_spliceAll_sources.mp (List.mem_map_of_mem (hfwd ▸ he))
  refine ⟨fun e he => ?_, fun e he => (hleft e he).1, fun x hx hfree => ?_, hfilter ▸ hreply⟩
  · obtain ⟨⟨x, hx, hsource⟩, hother⟩ := hleft e he
    obtain ⟨hsb, hgran, hepoch, hhome, hns⟩ := FwdEnt.source_eq hsource
    refine Bool.eq_false_iff.mpr fun hne => hother x ?_ (congrArg Prod.fst hsource).symm
    rw [hnamed, ← hsb, ← hgran, ← hepoch, ← hhome, ← hns] at hne
    exact Drive.mem_fwdNamed.mpr ⟨hx, hne⟩
  · have hstays : x.source ∈ (spliceAll (d.fwdNamed r) d.kv.fwd).map FwdEnt.source := by
      refine mem_spliceAll_sources.mpr ⟨⟨x, hx, rfl⟩, fun y hy hplace => ?_⟩
      obtain ⟨-, -, t, ht, hsb, hgran, hepoch, -⟩ := Drive.mem_fwdNamed.mp hy
      obtain ⟨hxsb, hxgran, hxepoch⟩ : x.oldSb = y.oldSb ∧ x.oldGran = y.oldGran ∧ x.oldEpoch = y.oldEpoch := by
        simpa [FwdEnt.source] using hplace
      exact hfree t ht ⟨hsb.trans hxsb.symm, hgran.trans hxgran.symm, hepoch.trans hxepoch.symm⟩
    obtain ⟨e, he, hsource⟩ := List.mem_map.mp hstays
    exact ⟨e, hfwd.symm ▸ he, hsource.symm⟩

/-- Settles O18: a LOC_GET by the reply it begins, a LOC_DELETE by `locDeleteRequest_clears`, a RELOC_ACK by the sources of the entries left. -/
theorem locatedOperations : Obligations.LocatedOperations := by
  unfold Obligations.LocatedOperations
  refine ⟨?_, ?_, ?_⟩
  · rintro s o r sb gran rec_ _ h hearly hlate hhome hholly htoken hsound hopens rfl
    refine completes_onMain rfl h.live ?_
    have ho := Drive.req?_origin h.req
    have hhere : s.dev.effTwin = 0 ∨ ((0x20 : Nat) = 0x20 ∧ (parseToken r.body).home = s.dev.roleBit) := hhome.imp_right fun hr => ⟨rfl, hr⟩
    obtain ⟨z, htables, hreqs, hbegin⟩ := locGetRequest_begins ⟨h, hearly, hlate, hhere, hholly, htoken⟩ hsound hopens
    rw [hbegin]
    have hlive : z.kv.live = s.dev.kv.live := congrArg Tables.live htables
    have hreq : z.req? r.origin = some r := by
      rw [Drive.req?, hreqs, ho]
      exact h.req
    cases hplace : s.dev.locPlace sb gran with
    | shelf x =>
      refine ⟨(congrArg Tables.live (Drive.beginRead_shelf_tables ..)).trans hlive, fun _ => ?_, nofun⟩
      rw [← ho]
      exact (Drive.beginRead_shelf ..).2
    | media sb' gran' =>
      refine ⟨(congrArg Tables.live (Drive.beginRead_media hreq ..).1).trans hlive, nofun,
        fun _ => ⟨{ r with phase := .streaming, replyHdr := _ }, ?_, rfl, rfl⟩⟩
      rw [← ho]
      exact (Drive.beginRead_media hreq ..).2
  · intro s o r sb gran i rec_ h hearly hlate hunpaired hholly htoken hspent hassign hshelve hslot hnonce
    exact completes_onMain rfl h.live
      (locDeleteRequest_clears ⟨⟨h, hearly, hlate, .inl hunpaired, hholly, htoken⟩, hspent, hassign, hshelve, hslot, hnonce⟩)
  · intro s o r n named h hvalue hsome hfew hbody howner hnamed
    obtain ⟨hgone, hold, hstays, hreply⟩ := relocAckRequest_acknowledges ⟨h, hvalue, hsome, hfew, hbody, howner⟩ hnamed
    refine completes_onMain rfl h.live ⟨hgone, fun e he => ?_, fun x hx hfree => ?_, hreply⟩
    · exact (hold e he).imp fun x hx => hx.imp_right FwdEnt.source_eq
    · exact (hstays x hx hfree).imp fun e he => he.imp_right FwdEnt.source_eq

end Sys2Proof.Machine
end

-- Proofs of the flash array: where granules lie, and how dies take turns (R199, R200, R212 to R217, R220).
section
namespace Sys2Proof.Machine
open Sys2Proof

/-! ## Stripes -/

theorem dataPageOf_lt (g : Nat) : dataPageOf g < 31 := by
  have hmod : g % 1984 < 31 * 64 := Nat.mod_lt g (by decide)
  exact Nat.div_lt_of_lt_mul (by omega)

/-- Steps of less than a whole turn from one channel of 32 lead to different channels. -/
theorem channel_step_inj {p i j : Nat} (hi : i < 32) (hj : j < 32) (h : (p + i) % 32 = (p + j) % 32) : i = j := by omega

/-- Settles O12: data page d lies d + 1 channels after the parity page, and d + 1 is neither 0 nor the step of another of the 31 pages. -/
theorem stripesSpreadOverChannels : Obligations.StripesSpreadOverChannels := by
  unfold Obligations.StripesSpreadOverChannels
  refine ⟨fun g => ⟨rfl, rfl, rfl, rfl, rfl⟩, fun g h hstripe hpage hch => hpage ?_, fun g hch => ?_⟩
  · have hg := dataPageOf_lt g
    have hh := dataPageOf_lt h
    unfold channelOf at hch
    rw [hstripe, Nat.add_assoc, Nat.add_assoc] at hch
    have := channel_step_inj (by omega) (by omega) hch
    omega
  · have hg := dataPageOf_lt g
    have hp : parityChannel (stripeOf g) % 32 = parityChannel (stripeOf g) := Nat.mod_mod ..
    have hstep : (parityChannel (stripeOf g) + (1 + dataPageOf g)) % 32 = (parityChannel (stripeOf g) + 0) % 32 := by
      rw [← Nat.add_assoc]
      exact hch.trans hp.symm
    have := channel_step_inj (by omega) (by decide) hstep
    omega

/-! ## Dies and their reads -/

theorem Drive.die_setDie (n : Nat) (o : DieOp) (d : Drive) : (d.setDie n o).die n = some o := tget?_tput_same ..

theorem Drive.die_setDie_ne {m n : Nat} (h : n ≠ m) (o : DieOp) (d : Drive) : (d.setDie m o).die n = d.die n := tget?_tput_ne h ..

theorem Drive.die_of_media {a b : Drive} (h : b.media = a.media) (n : Nat) : b.die n = a.die n := by rw [Drive.die, h, Drive.die]

theorem Drive.groupBusy_of_dies {a b : Drive} (h : b.media.dies = a.media.dies) (n : Nat) : b.groupBusy n = a.groupBusy n := by
  simp only [Drive.groupBusy, Drive.dieBusy, Drive.die, h]

/-- Where a busy interval of die `n` does not wait for another of its group, it begins; else the operation is held. -/
theorem Drive.die_beginBusy (n : Nat) (o : DieOp) (d : Drive) : (d.beginBusy n o).die n = some (
    if d.groupBusy n then { o with held := true }
    else if o.guardDue d.now then { o.resumed d.now with held := false, guarded := true }
    else { o with held := false, window := true, startedAt := d.now }) := by
  unfold Drive.beginBusy
  split
  · exact d.die_setDie ..
  · split <;> exact d.die_setDie ..

theorem Drive.die_beginBusy_ne {m n : Nat} (h : n ≠ m) (o : DieOp) (d : Drive) : (d.beginBusy m o).die n = d.die n := by
  unfold Drive.beginBusy
  split
  · exact d.die_setDie_ne h _
  · split <;> exact d.die_setDie_ne h _

theorem Drive.reads_beginBusy (n : Nat) (o : DieOp) (d : Drive) : (d.beginBusy n o).media.reads = d.media.reads := by
  unfold Drive.beginBusy
  split
  · rfl
  · split <;> rfl

/-- The end of a busy interval lets an operation go on that was held for it, and no other. -/
theorem Drive.die_releaseHeld {m n : Nat} {o : DieOp} {d : Drive} (h : d.die n = some o) (hheld : o.held = false) : (d.releaseHeld m).die n = some o := by
  unfold Drive.releaseHeld
  split
  · exact h
  · split
    · exact h
    · rename_i k hk
      have hgo : d.canGoOn k = true := List.find?_some hk
      have hne : n ≠ k := fun hnk => by simp [Drive.canGoOn, ← hnk, h, hheld] at hgo
      split
      · exact h
      · rw [d.die_beginBusy_ne hne, h]

theorem Drive.die_startReads (m n : Nat) (d : Drive) : (d.startReads m).die n = d.die n := by
  unfold Drive.startReads
  split <;> rfl

/-- A suspension leaves the window and the place of an operation as they are. -/
theorem suspendDie_window_sb (now : Nat) (o : DieOp) : (suspendDie now o).window = o.window ∧ (suspendDie now o).sb = o.sb := by
  unfold suspendDie
  split <;> exact ⟨rfl, rfl⟩

/-- Serving the queued reads of die `n` does no more to its operation than suspend it. -/
theorem Drive.die_serveDie {n : Nat} {o : DieOp} {d : Drive} (h : d.die n = some o) :
    (d.serveDie n).die n = some o ∨ (d.serveDie n).die n = some (suspendDie d.now o) := by
  unfold Drive.serveDie
  rw [Drive.die_startReads, h]
  dsimp only
  split
  · exact .inr (d.die_setDie ..)
  · exact .inl h

theorem Drive.die_serveWaiting {n : Nat} {o : DieOp} {d : Drive} (h : d.die n = some o) :
    (d.serveWaiting n).die n = some o ∨ (d.serveWaiting n).die n = some (suspendDie d.now o) := by
  unfold Drive.serveWaiting
  split
  · exact .inl h
  · exact Drive.die_serveDie h

/-- A read that starts goes on from being queued for its die to running on it. -/
theorem startGroup_readsFor (n : Nat) (planes : List Nat) (l : List ReadJob) :
    (startGroup n planes l).any (fun r => (r.mode = 0 ∨ r.mode = 3) ∧ r.die = n) = l.any (fun r => (r.mode = 0 ∨ r.mode = 3) ∧ r.die = n) := by
  induction l generalizing planes with
  | nil => rfl
  | cons j l ih =>
    unfold startGroup
    split <;> rename_i h
    · simp [h.1, h.2.1]
    · rw [List.any_cons, List.any_cons, ih]

/-- The first of a die's queued reads starts. -/
theorem startGroup_reading {n : Nat} {l : List ReadJob} (h : l.any (fun r => r.mode = 3 ∧ r.die = n) = true) :
    (startGroup n [] l).any (fun r => r.mode = 0 ∧ r.die = n) = true := by
  induction l with
  | nil => cases h
  | cons j l ih =>
    unfold startGroup
    split <;> rename_i hj
    · simp [hj.1]
    · rw [List.any_cons, ih, Bool.or_true]
      have hne : ¬(j.mode = 3 ∧ j.die = n) := fun hm => hj ⟨hm.2, hm.1, List.not_mem_nil⟩
      simpa [hne] using h

theorem Drive.readsFor_startReads (n : Nat) (d : Drive) : (d.startReads n).readsFor n = d.readsFor n := by
  unfold Drive.startReads
  split
  · exact startGroup_readsFor ..
  · rfl

/-- While reads run on a die or are queued for it, what they suspended does not resume (R212). -/
theorem Drive.resumeDie_of_readsFor {n : Nat} {d : Drive} (h : d.readsFor n = true) : d.resumeDie n = d := by
  unfold Drive.resumeDie
  split
  · rfl
  · rw [if_pos (.inr (.inr h))]

/-- A die that can read, and for which reads are queued, reads; so does one that is reading already. -/
theorem Drive.reading_startReads {n : Nat} {d : Drive} (hq : d.media.reads.any (fun r => r.mode = 3 ∧ r.die = n) = true)
    (h : d.reading n = false → d.canRead n = true) : (d.startReads n).reading n = true := by
  unfold Drive.startReads
  split <;> rename_i hc
  · exact startGroup_reading hq
  · by_contra hr
    exact hc (h (Bool.eq_false_of_not_eq_true hr))

theorem Drive.now_of_time {a b : Drive} (h : b.time = a.time) : b.now = a.now := congrArg Sprig.opNs h

@[simp] theorem Drive.now_setDie (n : Nat) (o : DieOp) (d : Drive) : (d.setDie n o).now = d.now := rfl

theorem Drive.withinPool_of_eq {a b : Drive} (hm : b.media = a.media) (hp : b.power = a.power) : b.withinPool = a.withinPool := by
  have hused : b.tokensUsed = a.tokensUsed := by
    unfold Drive.tokensUsed Drive.die
    rw [hm]
  rw [Drive.withinPool, hused, hp, Drive.withinPool]

/-- A die reads under the token of its operation, which is suspended and ready, while the guard does not end the suspension (R211, R213). -/
theorem Drive.canRead_of_ready {n : Nat} {o : DieOp} {d : Drive} (h : d.die n = some o) (hs : o.suspended = true) (hr : o.ready = true)
    (hidle : d.reading n = false) (hgone : d.dieGone n = false) (hissue : d.mayIssue = true) (hpool : d.withinPool = true)
    (hspent : o.held = true ∨ o.spent d.now = false) : d.canRead n = true := by
  unfold Drive.canRead
  rw [h]
  rcases hspent with hspent | hspent <;> simp [hs, hr, hidle, hgone, hissue, hpool, hspent]

/-- An operation whose reads have ended resumes to the guard's protection where that is due (R213). -/
theorem Drive.resumeDie_of_guardDue {n : Nat} {o : DieOp} {d : Drive} (h : d.die n = some o) (hs : o.suspended = true) (hr : o.ready = true)
    (hreads : d.readsFor n = false) (hdue : o.guardDue d.now = true) : d.resumeDie n = d.beginBusy n o := by
  unfold Drive.resumeDie
  rw [h]
  simp [hs, hr, hreads, hdue]

/-- The 10 ms interval of now stands, with a count and a capacity of its own where it is new (R220). -/
theorem Drive.reconRoll_interval (d : Drive) : d.reconRoll.media.reconInterval = d.now / 10000000 ∧
    (d.media.reconInterval ≠ d.now / 10000000 → d.reconRoll.media.reconUsed = 0 ∧
      d.reconRoll.media.reconCapacity = d.power.tokens * 160000 / 36) := by
  unfold Drive.reconRoll
  dsimp only
  split <;> rename_i hi
  · exact ⟨hi.symm, fun hne => absurd hi.symm hne⟩
  · exact ⟨rfl, fun _ => ⟨rfl, rfl⟩⟩

/-- What is queued for a die waits for it. -/
def Drive.stopQueue (n : Nat) (d : Drive) : Drive :=
  { d with media.reads := d.media.reads.map (fun (r : ReadJob) => if r.mode = 3 ∧ r.die = n then { r with mode := 2 } else r) }

theorem Drive.mode_stopQueue (n : Nat) (d : Drive) : ∀ j ∈ (d.stopQueue n).media.reads, j.die = n → j.mode ≠ 3 := by
  intro j hj hdie hmode
  obtain ⟨r, -, rfl⟩ := List.mem_map.mp hj
  by_cases hr : r.mode = 3 ∧ r.die = n
  · simp [hr] at hmode
  · rw [if_neg hr] at hdie hmode
    exact hr ⟨hmode, hdie⟩

/-- Once nothing is queued for a die, its reads are those that run. -/
theorem Drive.readsFor_stopQueue (n : Nat) (d : Drive) : (d.stopQueue n).readsFor n = d.reading n := by
  unfold Drive.readsFor Drive.stopQueue Drive.reading
  rw [List.any_map]
  refine List.any_congr rfl fun r => ?_
  by_cases hr : r.mode = 3 ∧ r.die = n
  · simp [hr]
  · simp only [Function.comp_apply, if_neg hr]
    congr 1
    exact propext ⟨fun h => h.1.elim (⟨·, h.2⟩) fun hq => absurd ⟨hq, h.2⟩ hr, fun h => ⟨.inl h.1, h.2⟩⟩

/-! ## The commands of the dies -/

/-- SUSPEND_COMPLETE, where reads keep the operation suspended: it is ready after its latency, and queued reads start. -/
theorem suspendComplete_of {n : Nat} {o : DieOp} {d : Drive} (h : d.die n = some o) (hs : o.suspended = true) (hr : o.ready = false)
    (hreads : d.readsFor n = true) : suspendComplete n d =
      ((d.advanceTo (o.suspendedAt + suspendLatency o)).setDie n { o with ready := true }).startReads n := by
  unfold suspendComplete
  rw [h]
  dsimp only
  rw [if_pos ⟨hs, hr⟩]
  refine Drive.resumeDie_of_readsFor ?_
  rw [Drive.readsFor_startReads]
  simpa [Drive.readsFor, Drive.setDie] using hreads

/-- SUSPEND_COMPLETE keeps the operation, ready now; its reads start where the die can read (R212). -/
theorem suspendComplete_ready {n : Nat} {o : DieOp} {d : Drive} (h : d.die n = some o) (hs : o.suspended = true) (hr : o.ready = false)
    (hreads : d.readsFor n = true) : (suspendComplete n d).die n = some { o with ready := true } ∧
      o.suspendedAt + suspendLatency o ≤ (suspendComplete n d).now ∧
      (d.media.reads.any (fun r => r.mode = 3 ∧ r.die = n) = true → d.dieGone n = false → d.mayIssue = true →
        (d.setDie n { o with ready := true }).withinPool = true →
        o.held = true ∨ o.spent (suspendComplete n d).now = false → (suspendComplete n d).reading n = true) := by
  rw [suspendComplete_of h hs hr hreads, Drive.die_startReads, Drive.die_setDie,
    Drive.now_of_time ((Drive.startReads_frame ..).time rfl), Drive.now_setDie, Drive.advanceTo_now]
  refine ⟨rfl, le_max_right .., fun hq hgone hissue hpool hspent =>
    Drive.reading_startReads (by simpa [Drive.setDie] using hq) fun hidle => Drive.canRead_of_ready (Drive.die_setDie ..) hs rfl hidle ?_ ?_ ?_ ?_⟩
  · simpa [Drive.dieGone, Drive.setDie] using hgone
  · have hfrom : d.power.issueFrom ≤ d.now := of_decide_eq_true hissue
    refine decide_eq_true ?_
    rw [Drive.now_setDie, Drive.advanceTo_now, (Drive.setDie_frame ..).power rfl, Drive.advanceTo_power]
    exact le_max_of_le_left hfrom
  · exact (Drive.withinPool_of_eq (by simp [Drive.setDie]) (by simp [Drive.setDie])).trans hpool
  · rwa [Drive.now_setDie, Drive.advanceTo_now]

/-- BUSY_WINDOW_ENTRY: a program that runs enters its last window, or is held for another of its group (R214, R215). -/
theorem busyWindowEntry_begins {n : Nat} {o : DieOp} {d : Drive} (h : d.die n = some o) (hkind : o.kind = 1) (hs : o.suspended = false)
    (hwindow : o.window = false) (hguarded : o.guarded = false) (hheld : o.held = false) (hdue : o.guardDue d.now = false) :
    (busyWindowEntry n d).die n = some (if d.groupBusy n then { o with held := true } else { o with
      window := true
      startedAt := d.now }) := by
  unfold busyWindowEntry
  rw [h]
  dsimp only
  rw [if_pos (by simp [hkind, hs, hheld, DieOp.busy, hwindow, hguarded]), Drive.die_beginBusy, hdue]
  obtain ⟨⟩ := o
  subst hheld
  rfl

/-- The end of an erase's first window leaves it where it is, out of the window, whatever goes on in its group (R214, R217). -/
theorem eraseWindowEnd_ends {n : Nat} {o : DieOp} {d : Drive} (h : d.die n = some o) (hkind : o.kind = 2) (hwindow : o.window = true)
    (hheld : o.held = false) : (∃ o', (eraseWindowEnd n d).die n = some o' ∧ o'.window = false ∧ o'.sb = o.sb) ∧
      o.startedAt + 400000 ≤ (eraseWindowEnd n d).now := by
  unfold eraseWindowEnd
  rw [h]
  dsimp only
  rw [if_pos ⟨hkind, hwindow⟩]
  constructor
  · have hset := Drive.die_setDie n { o with window := false } (d.advanceTo (o.startedAt + 400000))
    rcases Drive.die_serveWaiting (Drive.die_releaseHeld (m := n) hset hheld) with hdie | hdie
    · exact ⟨_, hdie, rfl, rfl⟩
    · exact ⟨_, hdie, (suspendDie_window_sb ..).1, (suspendDie_window_sb ..).2⟩
  · rw [Drive.now_of_time ((Drive.serveWaiting_frame ..).time rfl), Drive.now_of_time ((Drive.releaseHeld_frame ..).time rfl),
      Drive.now_setDie, Drive.advanceTo_now]
    exact le_max_right ..

/-- Time has come to where the suspensions of an operation add up to 40 ms, or the present one is its 32nd (R213). -/
theorem guardDue_of_trip {o : DieOp} {d : Drive} (hs : o.suspended = true) :
    o.guardDue (if 32 ≤ o.suspensions then d else d.advanceTo (o.suspendedAt + (40000000 - o.suspendedNs))).now = true := by
  unfold DieOp.guardDue
  split
  · rename_i hmany
    rw [decide_eq_true hmany, Bool.true_or]
  · have hstopped : 40000000 ≤ o.stopped (d.advanceTo (o.suspendedAt + (40000000 - o.suspendedNs))).now := by
      rw [Drive.advanceTo_now, DieOp.stopped, if_pos hs]
      omega
    rw [DieOp.spent, decide_eq_true hstopped, Bool.or_true]

/-- STARVATION_GUARD_TRIP: the suspension ends, what is queued waiting (R213 to R215). -/
theorem starvationGuardTrip_ends {n : Nat} {o : DieOp} {d : Drive} (h : d.die n = some o) (hs : o.suspended = true) (hr : o.ready = true)
    (hheld : o.held = false) (hidle : d.reading n = false) :
    (∃ o', (starvationGuardTrip n d).die n = some o' ∧ (d.groupBusy n = false → o'.suspended = false ∧ o'.guarded = true) ∧
      (d.groupBusy n = true → o'.held = true)) ∧ ∀ j ∈ (starvationGuardTrip n d).media.reads, j.die = n → j.mode ≠ 3 := by
  unfold starvationGuardTrip
  rw [h]
  dsimp only
  rw [if_neg (by simp [hs, hheld])]
  have hdue := guardDue_of_trip (d := d) hs
  have hmedia : (if 32 ≤ o.suspensions then d else d.advanceTo (o.suspendedAt + (40000000 - o.suspendedNs))).media = d.media := by
    split
    · rfl
    · exact Drive.advanceTo_media ..
  generalize (if 32 ≤ o.suspensions then d else d.advanceTo (o.suspendedAt + (40000000 - o.suspendedNs))) = e at hdue hmedia ⊢
  have hreads : (e.stopQueue n).readsFor n = false := (Drive.readsFor_stopQueue ..).trans (by rwa [Drive.reading, hmedia])
  have hdie : (e.stopQueue n).die n = some o := (Drive.die_of_media hmedia n).trans h
  have hbusy : (e.stopQueue n).groupBusy n = d.groupBusy n := Drive.groupBusy_of_dies (congrArg Media.dies hmedia) n
  change (∃ o', ((e.stopQueue n).resumeDie n).die n = some o' ∧ _) ∧ ∀ j ∈ ((e.stopQueue n).resumeDie n).media.reads, _
  rw [Drive.resumeDie_of_guardDue hdie hs hr hreads hdue, Drive.die_beginBusy, Drive.reads_beginBusy, hbusy]
  refine ⟨⟨_, rfl, fun hfree => ?_, fun hbusy => ?_⟩, Drive.mode_stopQueue n e⟩
  · rw [hfree, show (e.stopQueue n).now = e.now from rfl, hdue]
    exact ⟨rfl, rfl⟩
  · rw [hbusy]
    rfl

/-- RECON_INTERVAL: the next interval begins, with a count and a capacity of its own (R220). -/
theorem reconInterval_begins (d : Drive) : (reconInterval d).now = (d.now / 10000000 + 1) * 10000000 ∧
    (reconInterval d).media.reconInterval = d.now / 10000000 + 1 ∧ (d.media.reconInterval ≠ d.now / 10000000 + 1 →
      (reconInterval d).media.reconUsed = 0 ∧ (reconInterval d).media.reconCapacity = d.power.tokens * 160000 / 36) := by
  have hnow : (d.advanceTo ((d.now / 10000000 + 1) * 10000000)).now = (d.now / 10000000 + 1) * 10000000 := by
    rw [Drive.advanceTo_now]
    omega
  have hroll := Drive.reconRoll_interval (d.advanceTo ((d.now / 10000000 + 1) * 10000000))
  rw [hnow, Nat.mul_div_cancel _ (by decide), Drive.advanceTo_media, Drive.advanceTo_power] at hroll
  exact ⟨(Drive.now_of_time ((Drive.reconRoll_frame _).time rfl)).trans hnow, hroll⟩

/-- Settles O51: each command of the dies by what it leaves of the operation and of the reads. -/
theorem diesTakeTurns : Obligations.DiesTakeTurns := by
  unfold Obligations.DiesTakeTurns
  refine ⟨fun s n o hlive h => ⟨fun hs hr hreads => ?_, fun hkind hs hwindow hguarded hheld hdue => ?_, fun hkind hwindow hheld => ?_,
    fun hs hr hheld hidle => ?_⟩, fun s hlive => ?_⟩
  · exact completes_onMain rfl hlive (suspendComplete_ready h hs hr hreads)
  · exact completes_onMain rfl hlive (busyWindowEntry_begins h hkind hs hwindow hguarded hheld hdue)
  · exact completes_onMain rfl hlive (eraseWindowEnd_ends h hkind hwindow hheld)
  · exact completes_onMain rfl hlive (starvationGuardTrip_ends h hs hr hheld hidle)
  · exact completes_onMain rfl hlive (reconInterval_begins s.dev)

end Sys2Proof.Machine
end

-- Proofs of the flash array: the form of the tables, and what stands of it (R198, R828).
section
namespace Sys2Proof.Machine
open Sys2Proof

/-! ## The form of the tables -/

/-- The job table holds no more than its 256 entries (R828). -/
def Fits (table : List Job) : Prop := table.length ≤ 256

/-- The indices of the superblocks rise strictly. -/
def Rising (sbs : Tbl Superblock) : Prop := Tbl.ordered sbs

/-- The numbers of the shelf's records lie below the next one. -/
def Numbered (shelf : Tbl ShelfRec) (next : Nat) : Prop := ∀ p ∈ shelf, p.1 < next

/-- Which of the tables have their form. -/
structure TableForm where
  jobs : Prop
  sbs : Prop
  shelf : Prop

/-- Which of a drive's tables have their form. -/
def Drive.form (d : Drive) : TableForm := ⟨Fits d.jobs.table, Rising d.media.sbs, Numbered d.kv.shelf d.kv.shelfNext⟩

theorem Drive.form_of_eq {a b : Drive} (hk : b.kv = a.kv) (hm : b.media = a.media) (hj : b.jobs = a.jobs) : b.form = a.form := by
  rw [Drive.form, hk, hm, hj, Drive.form]

theorem Drive.changesOnly.form {ps : List Part} {a b : Drive} (h : a.changesOnly ps b) (hk : ps.contains Part.kv = false)
    (hm : ps.contains Part.media = false) (hj : ps.contains Part.jobs = false) : b.form = a.form :=
  Drive.form_of_eq (h.kv hk) (h.media hm) (h.jobs hj)

@[simp] theorem Drive.form_mk (kv media twin ring keys holly xp time sec mod port privet rec_ meter power therm health flag optf jobs chans
    healthSaved ident out free) :
    Drive.form (Drive.mk kv media twin ring keys holly xp time sec mod port privet rec_ meter power therm health flag optf jobs chans
      healthSaved ident out free) = ⟨Fits jobs.table, Rising media.sbs, Numbered kv.shelf kv.shelfNext⟩ := (rfl)

@[simp] theorem Drive.form_eta (d : Drive) :
    TableForm.mk (Fits d.jobs.table) (Rising d.media.sbs) (Numbered d.kv.shelf d.kv.shelfNext) = d.form := (rfl)

@[simp] theorem Drive.form_ite (c : Prop) [Decidable c] (a b : Drive) : (if c then a else b).form = if c then a.form else b.form :=
  apply_ite Drive.form c a b

@[simp] theorem snd_ite_form {α : Type} (c : Prop) [Decidable c] (a b : α × Drive) :
    (if c then a else b).2.form = if c then a.2.form else b.2.form :=
  apply_ite (fun p : α × Drive => p.2.form) c a b

@[simp] theorem Wr.dev_ite_form (c : Prop) [Decidable c] (a b : Wr) : (if c then a else b).dev.form = if c then a.dev.form else b.dev.form :=
  apply_ite (fun w : Wr => w.dev.form) c a b

@[simp] theorem StepOut.form_ite (c : Prop) [Decidable c] (x y : StepOut) :
    (if c then x else y).2.2.form = if c then x.2.2.form else y.2.2.form :=
  apply_ite (fun o : StepOut => o.2.2.form) c x y

@[simp] theorem foldl_form {α : Type} {f : Drive → α → Drive} (hf : ∀ d x, (f d x).form = d.form) (l : List α) (d : Drive) :
    (l.foldl f d).form = d.form := by
  induction l generalizing d with
  | nil => rfl
  | cons x l ih => exact (ih _).trans (hf d x)

@[simp] theorem getD_form {o : Option Drive} {d : Drive} (h : ∀ z, o = some z → z.form = d.form) : (o.getD d).form = d.form := by
  cases o with
  | none => rfl
  | some z => exact h z rfl

/-! ## Tables -/

theorem mem_keys_tput {α : Type} {i k : Nat} {a : α} {t : Tbl α} : i ∈ (tput k a t).map Prod.fst ↔ i = k ∨ i ∈ t.map Prod.fst := by
  induction t with
  | nil => simp [tput]
  | cons p t ih =>
    rw [tput]
    split
    · rename_i hp
      simp [hp]
    split
    · simp
    · rw [List.map_cons, List.mem_cons, ih, List.map_cons, List.mem_cons, or_left_comm]

/-- An entry is put at its place among rising indices, and mends none that do not rise. -/
theorem ordered_tput {α : Type} (k : Nat) (a : α) (t : Tbl α) : Tbl.ordered (tput k a t) ↔ Tbl.ordered t := by
  induction t with
  | nil => simp [tput, Tbl.ordered]
  | cons p t ih =>
    rw [tput]
    split
    · rename_i hp
      simp [Tbl.ordered, hp]
    split
    · rename_i hlt
      rw [Tbl.ordered, List.map_cons, List.pairwise_cons]
      refine and_iff_right_of_imp fun h i hi => ?_
      rcases List.mem_cons.mp hi with rfl | hi
      · exact hlt
      · exact hlt.trans (List.rel_of_pairwise_cons h hi)
    · rename_i hne hlt
      have hk : p.1 < k := by omega
      rw [Tbl.ordered, List.map_cons, List.pairwise_cons, Tbl.ordered, List.map_cons, List.pairwise_cons]
      refine and_congr ⟨fun h i hi => h i (mem_keys_tput.mpr (.inr hi)), fun h i hi => ?_⟩ ih
      rcases mem_keys_tput.mp hi with rfl | hi
      · exact hk
      · exact h i hi

@[simp] theorem rising_tput (k : Nat) (s : Superblock) (t : Tbl Superblock) : Rising (tput k s t) = Rising t :=
  propext (ordered_tput k s t)

/-- A change of the entries of a table that leaves the indices as they are. -/
theorem rising_map {f : Nat × Superblock → Nat × Superblock} (hf : ∀ p, (f p).1 = p.1) (t : Tbl Superblock) : Rising (t.map f) = Rising t := by
  rw [Rising, Tbl.ordered, List.map_map, Rising, funext (f := Prod.fst ∘ f) hf]

@[simp] theorem rising_map_snd (f : Nat × Superblock → Superblock) (t : Tbl Superblock) : Rising (t.map fun p => (p.1, f p)) = Rising t :=
  rising_map (f := fun p => (p.1, f p)) (fun _ => rfl) t

@[simp] theorem fits_map (f : Job → Job) (l : List Job) : Fits (l.map f) = Fits l := by rw [Fits, List.length_map, Fits]

theorem numbered_iff_keys (t : Tbl ShelfRec) (n : Nat) : Numbered t n ↔ ∀ i ∈ t.map Prod.fst, i < n :=
  (List.forall_mem_map (P := (· < n))).symm

/-- A change of the shelf's records that leaves their numbers as they are. -/
theorem numbered_map {f : Nat × ShelfRec → Nat × ShelfRec} (hf : ∀ p, (f p).1 = p.1) (t : Tbl ShelfRec) (n : Nat) :
    Numbered (t.map f) n = Numbered t n := by
  rw [propext (numbered_iff_keys ..), List.map_map, propext (numbered_iff_keys ..), funext (f := Prod.fst ∘ f) hf]

@[simp] theorem numbered_map_snd (f : Nat × ShelfRec → ShelfRec) (t : Tbl ShelfRec) (n : Nat) :
    Numbered (t.map fun p => (p.1, f p)) n = Numbered t n :=
  numbered_map (f := fun p => (p.1, f p)) (fun _ => rfl) t n

theorem numbered_tput {k n : Nat} {x : ShelfRec} {t : Tbl ShelfRec} : Numbered (tput k x t) n ↔ k < n ∧ Numbered t n := by
  simp only [numbered_iff_keys, mem_keys_tput, forall_eq_or_imp]

/-- A record takes the place of one with its number. -/
theorem numbered_tput_of_mem {k n : Nat} {x : ShelfRec} {t : Tbl ShelfRec} (h : k ∈ t.map Prod.fst) : Numbered (tput k x t) n = Numbered t n :=
  propext (numbered_tput.trans (and_iff_right_of_imp fun ht => (numbered_iff_keys ..).mp ht k h))

/-- What the spare block count at `p` per cent leads to (R263, R266). -/
def Drive.spareAt (p : Nat) (d : Drive) : Drive :=
  let d := if p < 10 ∧ d.media.spareLow = false then ({ d with media.spareLow := true }).event 0x132 Sev.warning []
    else if 10 ≤ p then { d with media.spareLow := false } else d
  if p < 2 then
    (if d.media.wearReadOnly then d else ({ d with media.wearReadOnly := true }).event 0x131 Sev.critical []).raiseWear
  else { d with media.wearReadOnly := false }

/-- The per cent are kept out of the terms that the proofs compare, where they would be computed with. -/
theorem Drive.spareWatch_eq (d : Drive) : d.spareWatch = d.shrinkBurst.spareAt d.shrinkBurst.sparePct := rfl

end Sys2Proof.Machine
end

-- Proofs of the flash array: what leaves the form of the tables as it is, in the operations that the parts share.
section
namespace Sys2Proof.Machine
open Sys2Proof

@[simp] theorem Drive.advanceTo_form (t) (d : Drive) : (Drive.advanceTo t d).form = d.form := (Drive.advanceTo_frame ..).form rfl rfl rfl

@[simp] theorem Drive.emit_form (o) (d : Drive) : (Drive.emit o d).form = d.form := (Drive.emit_frame ..).form rfl rfl rfl

@[simp] theorem Drive.fresh_form (d : Drive) : (Drive.fresh d).2.form = d.form := (Drive.fresh_frame ..).form rfl rfl rfl

@[simp] theorem Drive.draw_form (d : Drive) : (Drive.draw d).2.form = d.form := rfl

@[simp] theorem Drive.modAcc_form (t) (f) (d : Drive) : (Drive.modAcc t f d).form = d.form := (Drive.modAcc_frame ..).form rfl rfl rfl

@[simp] theorem Drive.meterIn_form (t) (n) (d : Drive) : (Drive.meterIn t n d).form = d.form := (Drive.meterIn_frame ..).form rfl rfl rfl

@[simp] theorem Drive.meterOut_form (t) (n) (d : Drive) : (Drive.meterOut t n d).form = d.form := (Drive.meterOut_frame ..).form rfl rfl rfl

@[simp] theorem Drive.meterReply_form (r) (d : Drive) : (Drive.meterReply r d).form = d.form := (Drive.meterReply_frame ..).form rfl rfl rfl

@[simp] theorem Drive.setSess_form (sid) (s) (d : Drive) : (Drive.setSess sid s d).form = d.form := (Drive.setSess_frame ..).form rfl rfl rfl

@[simp] theorem Drive.modSess_form (sid) (f) (d : Drive) : (Drive.modSess sid f d).form = d.form := (Drive.modSess_frame ..).form rfl rfl rfl

@[simp] theorem Drive.setSslot_form (sid) (s) (d : Drive) : (Drive.setSslot sid s d).form = d.form := rfl

@[simp] theorem Drive.modPort_form (p) (f) (d : Drive) : (Drive.modPort p f d).form = d.form := (Drive.modPort_frame ..).form rfl rfl rfl

@[simp] theorem Drive.portCount_form (p) (k) (n) (d : Drive) :
    (Drive.portCount p k n d).form = d.form := (Drive.portCount_frame ..).form rfl rfl rfl

@[simp] theorem Drive.portTx_form (p) (len) (cast) (tagged) (fw) (o) (d : Drive) :
    (Drive.portTx p len cast tagged fw o d).form = d.form := (Drive.portTx_frame ..).form rfl rfl rfl

@[simp] theorem Drive.takeRing_form (p) (ring) (d : Drive) : (Drive.takeRing p ring d).form = d.form := (Drive.takeRing_frame ..).form rfl rfl rfl

@[simp] theorem pumpFrames_form (sid) (n) (d : Drive) : (pumpFrames sid n d).form = d.form := (pumpFrames_frame ..).form rfl rfl rfl

@[simp] theorem Drive.pump_form (sid) (d : Drive) : (Drive.pump sid d).form = d.form := (Drive.pump_frame ..).form rfl rfl rfl

@[simp] theorem Drive.sendPart_form (sid) (rid) (path) (first) (last) (op) (payload) (d : Drive) :
    (Drive.sendPart sid rid path first last op payload d).form = d.form := (Drive.sendPart_frame ..).form rfl rfl rfl

@[simp] theorem Drive.sendAck_form (sid) (path) (d : Drive) :
    (Drive.sendAck sid path d).form = d.form := (Drive.sendAck_frame ..).form rfl rfl rfl

@[simp] theorem Drive.inBand_form (d : Drive) : (Drive.inBand d).form = d.form := (Drive.inBand_frame ..).form rfl rfl rfl

@[simp] theorem Drive.raiseAlert_form (d : Drive) : (Drive.raiseAlert d).form = d.form := (Drive.raiseAlert_frame ..).form rfl rfl rfl

@[simp] theorem Drive.raiseWear_form (d : Drive) : (Drive.raiseWear d).form = d.form := (Drive.raiseWear_frame ..).form rfl rfl rfl

@[simp] theorem Drive.raiseFwd_form (d : Drive) : (Drive.raiseFwd d).form = d.form := (Drive.raiseFwd_frame ..).form rfl rfl rfl

@[simp] theorem Drive.enter_form (src) (sev) (payload) (d : Drive) :
    (Drive.enter src sev payload d).2.form = d.form := (Drive.enter_frame ..).form rfl rfl rfl

@[simp] theorem Drive.startFlush_form (d : Drive) : (Drive.startFlush d).form = d.form := (Drive.startFlush_frame ..).form rfl rfl rfl

@[simp] theorem Drive.queueWith_form {lost : Nat → Drive → Drive} (hf : ∀ n d, (lost n d).form = d.form) (sid) (n) (d : Drive) :
    (d.queueWith lost sid n).form = d.form := by
  unfold Drive.queueWith
  dsimp only
  simp [hf]

@[simp] theorem sendNotices_form (sid) (n) (d : Drive) : (sendNotices sid n d).form = d.form := (sendNotices_frame ..).form rfl rfl rfl

@[simp] theorem Drive.noticeWith_form {lost : Nat → Drive → Drive} (hf : ∀ n d, (lost n d).form = d.form) (sid) (n) (d : Drive) :
    (d.noticeWith lost sid n).form = d.form := by
  unfold Drive.noticeWith
  simp [Drive.queueWith_form hf]

@[simp] theorem Drive.eventNoticeLost_form (sid) (d : Drive) :
    (Drive.eventNoticeLost sid d).form = d.form := (Drive.eventNoticeLost_frame ..).form rfl rfl rfl

@[simp] theorem Drive.event_form (src) (sev) (words) (d : Drive) (tag) : (Drive.event src sev words d tag).form = d.form :=
  (Drive.event_frame ..).form rfl rfl rfl

@[simp] theorem Drive.noticeLost_form (sid) (d : Drive) : (Drive.noticeLost sid d).form = d.form := (Drive.noticeLost_frame ..).form rfl rfl rfl

@[simp] theorem Drive.notice_form (sid) (n) (d : Drive) : (Drive.notice sid n d).form = d.form := (Drive.notice_frame ..).form rfl rfl rfl

@[simp] theorem Drive.putReq_form (r) (d : Drive) : (Drive.putReq r d).form = d.form := rfl

@[simp] theorem Drive.putReq_shelf (r) (d : Drive) : (Drive.putReq r d).kv.shelf = d.kv.shelf := rfl

@[simp] theorem Drive.putReq_shelfNext (r) (d : Drive) : (Drive.putReq r d).kv.shelfNext = d.kv.shelfNext := rfl

@[simp] theorem Drive.addReq_form (r) (d : Drive) : (Drive.addReq r d).form = d.form := rfl

@[simp] theorem Drive.dropReq_form (o) (d : Drive) : (Drive.dropReq o d).form = d.form := rfl

@[simp] theorem Drive.withReq_form {f : Req → Drive → Drive} (hf : ∀ r d, (f r d).form = d.form) (o) (ops) (d : Drive) :
    (d.withReq o ops f).form = d.form := by
  unfold Drive.withReq
  split
  · split
    · exact hf ..
    · rfl
  · rfl

@[simp] theorem Drive.twinSend_form (m) (d : Drive) : (Drive.twinSend m d).form = d.form := (Drive.twinSend_frame ..).form rfl rfl rfl

@[simp] theorem Drive.newOpId_form (d : Drive) : (Drive.newOpId d).2.form = d.form := (Drive.newOpId_frame ..).form rfl rfl rfl

@[simp] theorem Drive.twinOp_form (op) (d : Drive) : (Drive.twinOp op d).form = d.form := (Drive.twinOp_frame ..).form rfl rfl rfl

@[simp] theorem Drive.twinDone_form (opId) (d : Drive) : (Drive.twinDone opId d).form = d.form := (Drive.twinDone_frame ..).form rfl rfl rfl

@[simp] theorem Drive.twinSeen_form (opId) (reply) (d : Drive) :
    (Drive.twinSeen opId reply d).form = d.form := (Drive.twinSeen_frame ..).form rfl rfl rfl

@[simp] theorem ringTx_form (east) (o) (d : Drive) : (ringTx east o d).form = d.form := (ringTx_frame ..).form rfl rfl rfl

@[simp] theorem Drive.takeRingSide_form (d : Drive) : (Drive.takeRingSide d).form = d.form := (Drive.takeRingSide_frame ..).form rfl rfl rfl

@[simp] theorem Drive.ringSend_form (code) (dest) (cls) (args) (body) (d : Drive) :
    (Drive.ringSend code dest cls args body d).form = d.form := (Drive.ringSend_frame ..).form rfl rfl rfl

@[simp] theorem Drive.fromRing_form {k : Drive → Drive} (hf : ∀ d, (k d).form = d.form) (src) (seq) (d : Drive) :
    (d.fromRing src seq k).form = d.form := by
  unfold Drive.fromRing
  dsimp only
  split <;> simp [hf]

@[simp] theorem Drive.chargeReply_form (t) (n) (d : Drive) :
    (Drive.chargeReply t n d).form = d.form := (Drive.chargeReply_frame ..).form rfl rfl rfl

@[simp] theorem Drive.replyFrames_form (sid) (rid) (first) (last) (h) (body) (d : Drive) :
    (Drive.replyFrames sid rid first last h body d).form = d.form := (Drive.replyFrames_frame ..).form rfl rfl rfl

@[simp] theorem Drive.answer_form (o) (h) (body) (d : Drive) : (Drive.answer o h body d).form = d.form := by
  unfold Drive.answer
  dsimp only
  repeat' split
  all_goals simp

@[simp] theorem Drive.lastReply_form (sid) (late) (d : Drive) : (Drive.lastReply sid late d).form = d.form := by
  unfold Drive.lastReply
  dsimp only
  split
  · simp
  split <;> simp

@[simp] theorem Drive.reply_form (o) (h) (body) (d : Drive) : (Drive.reply o h body d).form = d.form := by
  unfold Drive.reply
  split <;> simp

@[simp] theorem Drive.refuse_form (r) (status) (d : Drive) (version) (offset) : (Drive.refuse r status d version offset).form = d.form := by
  unfold Drive.refuse
  simp

@[simp] theorem Drive.conflict_form (r) (code) (page) (d : Drive) : (Drive.conflict r code page d).form = d.form := by
  unfold Drive.conflict
  simp

@[simp] theorem Drive.setPower_form (st) (d : Drive) : (Drive.setPower st d).form = d.form := (Drive.setPower_frame ..).form rfl rfl rfl

@[simp] theorem Drive.beginWake_form (d : Drive) : (Drive.beginWake d).form = d.form := (Drive.beginWake_frame ..).form rfl rfl rfl

@[simp] theorem Drive.awaken_form (d : Drive) : (Drive.awaken d).form = d.form := (Drive.awaken_frame ..).form rfl rfl rfl

@[simp] theorem Drive.wasBusy_form (d : Drive) : (Drive.wasBusy d).form = d.form := (Drive.wasBusy_frame ..).form rfl rfl rfl

@[simp] theorem Drive.unheld_form (ch) (addr) (d : Drive) : (Drive.unheld ch addr d).form = d.form := (Drive.unheld_frame ..).form rfl rfl rfl

@[simp] theorem attrCmd_form {w : Drive → Wr} (hf : ∀ d, (w d).dev.form = d.form) (ch) (addr) (d : Drive) :
    (attrCmd ch addr w d).form = d.form := by
  unfold attrCmd
  simp [hf]

@[simp] theorem Drive.delta_form (x) (d : Drive) : (Drive.delta x d).form = d.form := rfl

@[simp] theorem Drive.fwdRemoved_form (l) (d : Drive) : (Drive.fwdRemoved l d).form = d.form := by
  refine foldl_form (fun d e => ?_) l d
  exact Drive.delta_form ..

@[simp] theorem Drive.tickTo_form (t) (d : Drive) : (Drive.tickTo t d).form = d.form := (Drive.tickTo_frame ..).form rfl rfl rfl

@[simp] theorem Drive.reserveTicks_form (d : Drive) : (Drive.reserveTicks d).form = d.form := by
  unfold Drive.reserveTicks
  simp

@[simp] theorem Drive.assign_form (input) (d : Drive) : (Drive.assign input d).2.form = d.form := by
  unfold Drive.assign
  exact (Drive.reserveTicks_form _).trans (by simp)

@[simp] theorem Drive.raiseTick_form (v) (d : Drive) : (Drive.raiseTick v d).form = d.form := by
  unfold Drive.raiseTick
  simp

@[simp] theorem Drive.putJob_form (j) (d : Drive) : (Drive.putJob j d).form = d.form := by
  unfold Drive.putJob
  simp

@[simp] theorem Drive.dequeue_form (d : Drive) : (Drive.dequeue d).form = d.form := by
  unfold Drive.dequeue
  split
  · rfl
  split <;> simp

@[simp] theorem Drive.endJob_form (j) (status) (d : Drive) : (Drive.endJob j status d).form = d.form := by
  unfold Drive.endJob
  simp

@[simp] theorem Drive.endKind_form (kind) (status) (d : Drive) : (Drive.endKind kind status d).form = d.form := by
  unfold Drive.endKind
  split <;> simp

@[simp] theorem Drive.storeWatch_form (d : Drive) : (Drive.storeWatch d).form = d.form := by
  unfold Drive.storeWatch
  simp

@[simp] theorem Drive.putRec_form (r) (key) (prev) (d : Drive) : (Drive.putRec r key prev d).form = d.form := by
  unfold Drive.putRec
  simp

@[simp] theorem Drive.sealRec_form (r) (d : Drive) : (Drive.sealRec r d).form = d.form := by
  unfold Drive.sealRec
  split <;> simp

@[simp] theorem Drive.meterKeyChanged_form (d : Drive) : (Drive.meterKeyChanged d).form = d.form := by
  unfold Drive.meterKeyChanged
  split <;> simp

@[simp] theorem writeRecs_form (flags) (l) (d : Drive) : (writeRecs flags l d).form = d.form := by
  induction l generalizing d with
  | nil => rfl
  | cons x l ih => simp [writeRecs, ih]

@[simp] theorem Drive.openInterval_form (d : Drive) : (Drive.openInterval d).form = d.form := by
  unfold Drive.openInterval
  simp

@[simp] theorem Drive.closeInterval_form (flags) (d : Drive) : (Drive.closeInterval flags d).form = d.form := by
  unfold Drive.closeInterval
  simp

@[simp] theorem Drive.meterStep_form (back) (before) (d : Drive) : (Drive.meterStep back before d).form = d.form := by
  unfold Drive.meterStep
  simp

@[simp] theorem Drive.addEnergy_form (t) (uj) (d : Drive) : (Drive.addEnergy t uj d).form = d.form := by
  unfold Drive.addEnergy
  simp

@[simp] theorem apportion_form (e) (total) (l) (d : Drive) : (apportion e total l d).form = d.form := by
  induction l generalizing d with
  | nil => rfl
  | cons x l ih => simp [apportion, ih]

@[simp] theorem Drive.shareEnergy_form (n) (e) (acts) (d : Drive) : (Drive.shareEnergy n e acts d).form = d.form := by
  unfold Drive.shareEnergy
  simp

@[simp] theorem tickTenants_form (n) (l) (d : Drive) : (tickTenants n l d).form = d.form := by
  induction l generalizing d with
  | nil => rfl
  | cons x l ih => simp [tickTenants, ih]

@[simp] theorem Drive.account_form (n) (e) (acts) (d : Drive) : (Drive.account n e acts d).form = d.form := by
  unfold Drive.account
  simp

@[simp] theorem meterTick_form (e) (acts) (d : Drive) : (meterTick e acts d).form = d.form := by
  unfold meterTick
  simp

@[simp] theorem meterExtendedEnd_form (d : Drive) : (meterExtendedEnd d).form = d.form := by
  unfold meterExtendedEnd
  simp

@[simp] theorem meterIntervalWrite_form (v) (d : Drive) : (meterIntervalWrite v d).dev.form = d.form := by
  unfold meterIntervalWrite
  simp

@[simp] theorem weightRecalibrate_form (die) (holly) (net) (laurel) (d : Drive) :
    (weightRecalibrate die holly net laurel d).form = d.form := by
  unfold weightRecalibrate
  simp

@[simp] theorem meterRead_form (o) (d : Drive) : (meterRead o d).form = d.form := by
  unfold meterRead
  refine Drive.withReq_form (fun r d => ?_) ..
  simp

@[simp] theorem meterAck_form (o) (d : Drive) : (meterAck o d).form = d.form := by
  unfold meterAck
  refine Drive.withReq_form (fun r d => ?_) ..
  simp

@[simp] theorem Drive.meterLoss_form (d : Drive) : (Drive.meterLoss d).form = d.form := by
  unfold Drive.meterLoss
  simp

@[simp] theorem Drive.setSb_form (n) (s) (d : Drive) : (Drive.setSb n s d).form = d.form := by
  unfold Drive.setSb
  simp

@[simp] theorem Drive.modSb_form (n) (f) (d : Drive) : (Drive.modSb n f d).form = d.form := Drive.setSb_form ..

@[simp] theorem Drive.modSb_rising (n) (f) (d : Drive) : Rising (Drive.modSb n f d).media.sbs = Rising d.media.sbs :=
  congrArg TableForm.sbs (Drive.modSb_form ..)

@[simp] theorem Drive.nextSbSeq_form (d : Drive) : (Drive.nextSbSeq d).2.form = d.form := by
  unfold Drive.nextSbSeq
  simp

@[simp] theorem Drive.closeFull_form (stream) (slc) (g) (d : Drive) : (Drive.closeFull stream slc g d).form = d.form := by
  refine (TableForm.mk.injEq ..).mpr ⟨rfl, rising_map (fun p => ?_) d.media.sbs, rfl⟩
  dsimp only
  split <;> rfl

theorem Drive.openSb_form {stream} {slc} {d : Drive} {y} {z : Drive} (h : (Drive.openSb stream slc d) = some (y, z)) :
    z.form = d.form := by
  unfold Drive.openSb at h
  split at h
  · cases h
  · obtain ⟨n, -, heq⟩ := Option.map_eq_some_iff.mp h
    obtain ⟨-, rfl⟩ := Prod.mk.inj heq
    simp

theorem Drive.allocate_form {stream} {slc} {g} {d : Drive} {y} {z : Drive} (h : (Drive.allocate stream slc g d) = some (y, z)) :
    z.form = d.form := by
  unfold Drive.allocate at h
  split at h
  · obtain ⟨-, rfl⟩ := Prod.mk.inj (Option.some.inj h)
    simp
  · obtain ⟨⟨n, w⟩, hopen, heq⟩ := Option.map_eq_some_iff.mp h
    obtain ⟨-, rfl⟩ := Prod.mk.inj heq
    simp [Drive.openSb_form hopen]

@[simp] theorem Drive.placeRec_form (sb) (gran) (r) (d : Drive) : (Drive.placeRec sb gran r d).form = d.form := Drive.modSb_form ..

@[simp] theorem Drive.placeRec_rising (sb) (gran) (r) (d : Drive) : Rising (Drive.placeRec sb gran r d).media.sbs = Rising d.media.sbs :=
  congrArg TableForm.sbs (Drive.placeRec_form ..)

@[simp] theorem Drive.authFail_form (p) (tag) (d : Drive) :
    (Drive.authFail p tag d).form = d.form := (Drive.authFail_frame ..).form rfl rfl rfl

@[simp] theorem Drive.reconRoll_form (d : Drive) : (Drive.reconRoll d).form = d.form := by
  unfold Drive.reconRoll
  simp

@[simp] theorem Drive.reconCount_form (n) (d : Drive) : (Drive.reconCount n d).form = d.form := by
  unfold Drive.reconCount
  simp

@[simp] theorem Drive.countEcc_form (e) (d : Drive) : (Drive.countEcc e d).form = d.form := (Drive.countEcc_frame ..).form rfl rfl rfl

@[simp] theorem Drive.setDie_form (n) (o) (d : Drive) : (Drive.setDie n o d).form = d.form := rfl

@[simp] theorem Drive.beginBusy_form (n) (o) (d : Drive) : (Drive.beginBusy n o d).form = d.form := by
  unfold Drive.beginBusy
  simp

@[simp] theorem Drive.resumeDie_form (n) (d : Drive) : (Drive.resumeDie n d).form = d.form := by
  unfold Drive.resumeDie
  split <;> simp

@[simp] theorem Drive.releaseHeld_form (n) (d : Drive) : (Drive.releaseHeld n d).form = d.form := by
  unfold Drive.releaseHeld
  split
  · rfl
  split
  · rfl
  split <;> simp

@[simp] theorem Drive.startReads_form (n) (d : Drive) : (Drive.startReads n d).form = d.form := by
  unfold Drive.startReads
  simp

@[simp] theorem Drive.serveDie_form (n) (d : Drive) : (Drive.serveDie n d).form = d.form := by
  unfold Drive.serveDie
  split <;> simp

@[simp] theorem startAll_form (l) (d : Drive) : (startAll l d).form = d.form := by
  induction l generalizing d with
  | nil => rfl
  | cons x l ih => simp [startAll, ih]

@[simp] theorem Drive.queueRead_form (j) (d : Drive) : (Drive.queueRead j d).form = d.form := by
  unfold Drive.queueRead
  simp

@[simp] theorem Drive.serveWaiting_form (n) (d : Drive) : (Drive.serveWaiting n d).form = d.form := by
  unfold Drive.serveWaiting
  simp

@[simp] theorem Drive.beginRebuild_form (why) (j) (d : Drive) : (Drive.beginRebuild why j d).form = d.form := by
  unfold Drive.beginRebuild
  simp

@[simp] theorem Drive.issueRead_form (j) (d : Drive) : (Drive.issueRead j d).form = d.form := by
  unfold Drive.issueRead
  simp

@[simp] theorem Drive.cancelReads_form (o) (d : Drive) : (Drive.cancelReads o d).form = d.form := by
  unfold Drive.cancelReads
  simp

@[simp] theorem Drive.setNs_form (n) (x) (d : Drive) : (Drive.setNs n x d).form = d.form := rfl

@[simp] theorem Drive.modNs_form (n) (f) (d : Drive) : (Drive.modNs n f d).form = d.form := rfl

@[simp] theorem Drive.noteMismatch_form (ns) (key) (d : Drive) :
    (Drive.noteMismatch ns key d).form = d.form := (Drive.noteMismatch_frame ..).form rfl rfl rfl

@[simp] theorem Drive.dirWatch_form (d : Drive) : (Drive.dirWatch d).form = d.form := by
  unfold Drive.dirWatch
  simp

@[simp] theorem Drive.setStslot_form (i) (s) (d : Drive) :
    (Drive.setStslot i s d).form = d.form := (Drive.setStslot_frame ..).form rfl rfl rfl

theorem Drive.drawNonce_form {t} {d : Drive} {y} {z : Drive} (h : (Drive.drawNonce t d) = some (y, z)) : z.form = d.form := by
  unfold Drive.drawNonce at h
  split at h
  · cases h
  dsimp only at h
  split at h
  · cases h
  · obtain ⟨-, rfl⟩ := Prod.mk.inj (Option.some.inj h)
    simp

@[simp] theorem Drive.useKey_form (slot) (ns) (gen) (d : Drive) :
    (Drive.useKey slot ns gen d).form = d.form := (Drive.useKey_frame ..).form rfl rfl rfl

@[simp] theorem Drive.entryFor_form (nsId) (key) (t) (d : Drive) : (Drive.entryFor nsId key t d).2.form = d.form := by
  unfold Drive.entryFor
  dsimp only
  split
  · simp
  split <;> simp

@[simp] theorem Drive.roomFor_form (nsId) (key) (g) (newKey) (d : Drive) : (Drive.roomFor nsId key g newKey d).2.form = d.form := by
  unfold Drive.roomFor
  simp

theorem if_room_form {c : Prop} [Decidable c] {p : Option Nat × Drive} {d e : Drive} {st : Option Nat} (hp : p.2.form = d.form)
    (h : (if c then p else (none, d)) = (st, e)) : e.form = d.form := by
  split at h
  · rwa [h] at hp
  · exact congrArg (·.2.form) h.symm

@[simp] theorem Drive.askReservation_form (d : Drive) : (Drive.askReservation d).form = d.form := (Drive.askReservation_frame ..).form rfl rfl rfl

@[simp] theorem Drive.drawReservation_form (ns) (g) (entries) (d : Drive) :
    (Drive.drawReservation ns g entries d).form = d.form := (Drive.drawReservation_frame ..).form rfl rfl rfl

end Sys2Proof.Machine
end

-- Proofs of the flash array: what leaves the form of the tables as it is, in the key-value service, sessions, keys and namespaces.
section
namespace Sys2Proof.Machine
open Sys2Proof

@[simp] theorem Drive.settle_form (o) (d : Drive) : (Drive.settle o d).form = d.form := by
  unfold Drive.settle
  split <;> simp

@[simp] theorem Drive.forward_form (r) (write) (d : Drive) : (Drive.forward r write d).form = d.form := by
  unfold Drive.forward
  simp

@[simp] theorem Drive.mirror_form (r) (recs) (key) (dur) (d : Drive) : (Drive.mirror r recs key dur d).2.form = d.form := by
  unfold Drive.mirror
  dsimp only
  split <;> simp

@[simp] theorem Drive.noteChanges_form (recs) (d : Drive) : (Drive.noteChanges recs d).form = d.form := by
  unfold Drive.noteChanges
  simp

@[simp] theorem Drive.awaitNeeds_form (r) (v) (h) (body) (recs) (key) (release) (d : Drive) :
    (Drive.awaitNeeds r v h body recs key release d).form = d.form := by
  unfold Drive.awaitNeeds
  simp

@[simp] theorem Drive.refuseAt_form (r) (st) (d : Drive) : (Drive.refuseAt r st d).form = d.form := by
  unfold Drive.refuseAt
  simp

@[simp] theorem putRequest_form (o) (d : Drive) : (putRequest o d).form = d.form := by
  unfold putRequest
  refine Drive.withReq_form (fun r d => ?_) ..
  obtain ⟨checks, hchecks⟩ : ∃ f, Drive.checks69 = f := ⟨_, rfl⟩
  rw [hchecks]
  extract_lets +onlyGivenNames tenant
  split
  · simp
  split
  · simp
  extract_lets +onlyGivenNames ns
  split
  · simp
  · simp
  split
  · rfl
  split
  · simp
  split
  · rfl
  split
  · simp
  · rename_i h
    simp [Drive.drawNonce_form h]

@[simp] theorem Drive.readHeader_form (o) (h) (total) (d : Drive) : (Drive.readHeader o h total d).form = d.form := by
  unfold Drive.readHeader
  split <;> simp

@[simp] theorem Drive.readChunk_form (o) (i) (bytes) (d : Drive) : (Drive.readChunk o i bytes d).form = d.form := by
  unfold Drive.readChunk
  split <;> simp

@[simp] theorem Drive.readTrailer_form (o) (status) (recon) (rep) (chunk) (total) (d : Drive) :
    (Drive.readTrailer o status recon rep chunk total d).form = d.form := by
  unfold Drive.readTrailer
  dsimp only
  repeat' split
  all_goals simp

@[simp] theorem sendChunks_form (o) (value) (lo) (hi) (n) (n') (d : Drive) : (sendChunks o value lo hi n n' d).form = d.form := by
  induction n generalizing n' d with
  | zero => rfl
  | succ n ih => simp [sendChunks, ih]

@[simp] theorem issueReads_form (l) (d : Drive) : (issueReads l d).form = d.form := by
  induction l generalizing d with
  | nil => rfl
  | cons x l ih => simp [issueReads, ih]

@[simp] theorem Drive.putStream_form (s) (d : Drive) : (Drive.putStream s d).form = d.form := by
  unfold Drive.putStream
  simp

@[simp] theorem Drive.issueChunk_form (s) (d : Drive) : (Drive.issueChunk s d).form = d.form := by
  unfold Drive.issueChunk
  simp

@[simp] theorem reissue_form (place) (l) (d : Drive) : (reissue place l d).form = d.form := by
  induction l generalizing d with
  | nil => rfl
  | cons x l ih => simp [reissue, ih]

@[simp] theorem Drive.dropStream_form (o) (d : Drive) : (Drive.dropStream o d).form = d.form := by
  unfold Drive.dropStream
  split <;> simp

@[simp] theorem Drive.refuseRead_form (r) (status) (d : Drive) (version) : (Drive.refuseRead r status d version).form = d.form := by
  unfold Drive.refuseRead
  simp

@[simp] theorem Drive.endRead_form (s) (status) (chunk) (d : Drive) : (Drive.endRead s status chunk d).form = d.form := by
  unfold Drive.endRead
  simp

@[simp] theorem Drive.beginRead_form (r) (rec_) (place) (lo) (hi) (h) (d : Drive) :
    (Drive.beginRead r rec_ place lo hi h d).form = d.form := by
  unfold Drive.beginRead
  dsimp only
  split
  · simp
  · exact (Drive.issueChunk_form ..).trans rfl

@[simp] theorem Drive.purgeTombs_form (d : Drive) : (Drive.purgeTombs d).form = d.form := by
  unfold Drive.purgeTombs
  simp

@[simp] theorem keyedRead_form (o) (opcode) (d : Drive) : (keyedRead o opcode d).form = d.form := by
  unfold keyedRead
  refine Drive.withReq_form (fun r d => ?_) ..
  dsimp only
  repeat' split
  all_goals simp

@[simp] theorem getRequest_form (o) (d : Drive) : (getRequest o d).form = d.form := by
  unfold getRequest
  simp

@[simp] theorem getRangeRequest_form (o) (d : Drive) : (getRangeRequest o d).form = d.form := by
  unfold getRangeRequest
  simp

@[simp] theorem existsRequest_form (o) (d : Drive) : (existsRequest o d).form = d.form := by
  unfold existsRequest
  simp

@[simp] theorem Drive.endList_form (r) (items) (cut) (d : Drive) : (Drive.endList r items cut d).form = d.form := by
  unfold Drive.endList
  simp

@[simp] theorem listNext_form (r) (n) (c) (d : Drive) : (listNext r n c d).form = d.form := by
  induction n generalizing c d with
  | zero => rfl
  | succ n ih =>
    rw [listNext]
    split
    · simp
    split
    · simp
    split
    · exact ih ..
    split
    · exact ih ..
    · simp [ih]
    · simp

@[simp] theorem listRequest_form (o) (d : Drive) : (listRequest o d).form = d.form := by
  unfold listRequest
  refine Drive.withReq_form (fun r d => ?_) ..
  dsimp only
  repeat' split
  all_goals simp

@[simp] theorem settleAll_form (l) (d : Drive) : (settleAll l d).form = d.form := by
  induction l generalizing d with
  | nil => rfl
  | cons x l ih => simp [settleAll, ih]

@[simp] theorem commitWaitExpiry_form (version) (d : Drive) : (commitWaitExpiry version d).form = d.form := by
  unfold commitWaitExpiry
  simp

@[simp] theorem supersedeConfirm_form (nsId) (key) (d : Drive) : (supersedeConfirm nsId key d).form = d.form := by
  unfold supersedeConfirm
  split <;> simp

@[simp] theorem pingRequest_form (o) (d : Drive) : (pingRequest o d).form = d.form := by
  unfold pingRequest
  refine Drive.withReq_form (fun r d => ?_) ..
  simp
  split <;> simp

@[simp] theorem Drive.fwdWatch_form (d : Drive) : (Drive.fwdWatch d).form = d.form := by
  unfold Drive.fwdWatch
  simp

@[simp] theorem Drive.markValue_form (p) (r) (d : Drive) : (Drive.markValue p r d).form = d.form := by
  unfold Drive.markValue
  split <;> simp

@[simp] theorem locChecked_form {serve : Req → Token → Drive → Drive} (hf : ∀ r t d, (serve r t d).form = d.form) (o) (op) (d : Drive) :
    (locChecked o op serve d).form = d.form := by
  unfold locChecked
  refine Drive.withReq_form (fun r d => ?_) ..
  dsimp only
  split
  · simp
  · simp [hf]

@[simp] theorem Drive.mapLookup_form (sb) (gran) (d : Drive) : (Drive.mapLookup sb gran d).form = d.form := by
  unfold Drive.mapLookup
  simp

@[simp] theorem locGetRequest_form (o) (d : Drive) : (locGetRequest o d).form = d.form := by
  unfold locGetRequest
  refine locChecked_form (fun r x d => ?_) ..
  dsimp only
  repeat' split
  all_goals simp

@[simp] theorem relocAckRequest_form (o) (d : Drive) : (relocAckRequest o d).form = d.form := by
  unfold relocAckRequest
  refine Drive.withReq_form (fun r d => ?_) ..
  dsimp only
  split <;> simp

@[simp] theorem roomForAll_form (ms) (d : Drive) : (roomForAll ms d).2.form = d.form := by
  unfold roomForAll
  dsimp only
  split
  · rfl
  · generalize hl : (List.zipIdx _ : List ((Member × Bool) × Nat)) = l
    have hkept : ∀ (f : List (Option Nat) × Drive → (Member × Bool) × Nat → List (Option Nat) × Drive),
        (∀ a p, (f a p).2.form = a.2.form) → ∀ a, (l.foldl f a).2.form = a.2.form := by
      intro f hf
      clear hl
      induction l with
      | nil => exact fun _ => rfl
      | cons p l ih => exact fun a => (ih _).trans (hf a p)
    split <;> (refine hkept _ (fun a p => ?_) _; split <;> simp)

theorem drawSeals_form {tenant ms} {d : Drive} {y} {z : Drive} (h : drawSeals tenant ms d = some (y, z)) : z.form = d.form := by
  induction ms generalizing d y with
  | nil =>
    obtain ⟨-, rfl⟩ : [] = y ∧ d = z := by simpa [drawSeals] using h
    rfl
  | cons m ms ih =>
    rw [drawSeals] at h
    split at h
    · obtain ⟨⟨l, w⟩, hl, heq⟩ := Option.map_eq_some_iff.mp h
      obtain ⟨-, rfl⟩ : _ ∧ w = z := by simpa using heq
      exact ih hl
    split at h
    · cases h
    · rename_i hdraw
      obtain ⟨⟨l, w⟩, hl, heq⟩ := Option.map_eq_some_iff.mp h
      obtain ⟨-, rfl⟩ : _ ∧ w = z := by simpa using heq
      exact (ih hl).trans (Drive.drawNonce_form hdraw)

@[simp] theorem drawAll_form (l) (d : Drive) : (drawAll l d).form = d.form := by
  induction l generalizing d with
  | nil => rfl
  | cons x l ih => simp [drawAll, ih]

@[simp] theorem Drive.nextTxn_form (d : Drive) : (Drive.nextTxn d).2.form = d.form := by
  unfold Drive.nextTxn
  simp

@[simp] theorem Drive.batchFail_form (r) (rs) (d : Drive) : (Drive.batchFail r rs d).form = d.form := by
  unfold Drive.batchFail
  simp

@[simp] theorem Drive.batchRefuse_form (r) (st) (d : Drive) : (Drive.batchRefuse r st d).form = d.form := by
  unfold Drive.batchRefuse
  simp

@[simp] theorem Drive.batchWhole_form (r) (st) (d : Drive) (detail) : (Drive.batchWhole r st d detail).form = d.form := by
  unfold Drive.batchWhole
  simp

@[simp] theorem Drive.refuseAny_form (r) (st) (d : Drive) (detail) : (Drive.refuseAny r st d detail).form = d.form := by
  unfold Drive.refuseAny
  simp

@[simp] theorem Drive.forwardMember_form (r) (m) (i) (d : Drive) : (Drive.forwardMember r m i d).form = d.form := by
  unfold Drive.forwardMember
  simp

@[simp] theorem Drive.endBatch_form (r) (d : Drive) : (Drive.endBatch r d).form = d.form := by
  unfold Drive.endBatch
  simp

@[simp] theorem prepareTxn_form (r) (tenant) (ms) (d : Drive) : (prepareTxn r tenant ms d).form = d.form := by
  unfold prepareTxn
  split
  · simp
  · rename_i h
    simp [drawSeals_form h]

@[simp] theorem Drive.unwrapEvent_form (st) (d : Drive) : (Drive.unwrapEvent st d).form = d.form := by
  unfold Drive.unwrapEvent
  simp

@[simp] theorem closeReplies_form (l) (d : Drive) : (closeReplies l d).form = d.form := by
  induction l generalizing d with
  | nil => rfl
  | cons o l ih =>
    rw [closeReplies, ih]
    split <;> simp

@[simp] theorem Drive.endSession_form (sid) (cause) (d : Drive) : (Drive.endSession sid cause d).form = d.form := by
  unfold Drive.endSession
  simp
  split <;> simp

@[simp] theorem noticeAll_form (sid) (l) (d : Drive) : (noticeAll sid l d).form = d.form := by
  induction l generalizing d with
  | nil => rfl
  | cons x l ih => simp [noticeAll, ih]

@[simp] theorem Drive.repostRelocations_form (sid) (tenant) (d : Drive) : (Drive.repostRelocations sid tenant d).form = d.form := by
  unfold Drive.repostRelocations
  simp

@[simp] theorem Drive.openSession_form (sid) (tenant) (rid) (b) (p) (d : Drive) :
    (Drive.openSession sid tenant rid b p d).2.form = d.form := by
  unfold Drive.openSession
  simp

@[simp] theorem Drive.countType_form (d : Drive) : (Drive.countType d).form = d.form := by
  unfold Drive.countType
  simp

@[simp] theorem Drive.countAuth_form (d : Drive) : (Drive.countAuth d).form = d.form := by
  unfold Drive.countAuth
  simp

@[simp] theorem openFrame_form (f) (b) (p) (d : Drive) : (openFrame f b p d).form = d.form := by
  unfold openFrame
  simp
  split <;> simp

@[simp] theorem sessionOpenRequest_form (o) (b) (p) (d : Drive) : (sessionOpenRequest o b p d).form = d.form := by
  unfold sessionOpenRequest
  refine Drive.withReq_form (fun r d => ?_) ..
  dsimp only
  repeat' split
  all_goals simp

@[simp] theorem sessionCloseRequest_form (o) (d : Drive) : (sessionCloseRequest o d).form = d.form := by
  unfold sessionCloseRequest
  refine Drive.withReq_form (fun r d => ?_) ..
  simp

@[simp] theorem sessionRekeyRequest_form (o) (b) (d : Drive) : (sessionRekeyRequest o b d).form = d.form := by
  unfold sessionRekeyRequest
  refine Drive.withReq_form (fun r d => ?_) ..
  simp
  split <;> simp

@[simp] theorem Drive.pathVerified_form (sid) (p) (source) (d : Drive) : (Drive.pathVerified sid p source d).form = d.form := by
  unfold Drive.pathVerified
  simp

@[simp] theorem Drive.pathDown_form (sid) (p) (d : Drive) : (Drive.pathDown sid p d).form = d.form := by
  unfold Drive.pathDown
  simp

@[simp] theorem Drive.throttle_form (r) (reason) (hint) (d : Drive) : (Drive.throttle r reason hint d).form = d.form := by
  unfold Drive.throttle
  simp

@[simp] theorem Drive.enterRequest_form (r) (d : Drive) : (Drive.enterRequest r d).form = d.form := by
  unfold Drive.enterRequest
  dsimp only
  split
  · simp
  split <;> simp

@[simp] theorem Drive.acceptRequest_form (sid) (a) (d : Drive) : (Drive.acceptRequest sid a d).form = d.form := by
  unfold Drive.acceptRequest
  dsimp only
  split <;> simp

@[simp] theorem Drive.deliver_form (sid) (f) (d : Drive) : (Drive.deliver sid f d).form = d.form := by
  unfold Drive.deliver
  simp
  split <;> simp

@[simp] theorem deliverRun_form (sid) (n) (c) (d : Drive) : (deliverRun sid n c d).form = d.form := by
  induction n generalizing c d with
  | zero => rfl
  | succ n ih =>
    rw [deliverRun]
    split
    · simp [ih]
    · simp

@[simp] theorem Drive.takeAck_form (f) (d : Drive) : (Drive.takeAck f d).form = d.form := by
  unfold Drive.takeAck
  simp

@[simp] theorem Drive.arriving_form {k : Drive → Drive} (hf : ∀ d, (k d).form = d.form) (f) (t) (d : Drive) :
    (d.arriving f t k).form = d.form := by
  unfold Drive.arriving
  dsimp only
  simp [hf]

@[simp] theorem dataFrame_form (f) (d : Drive) : (dataFrame f d).form = d.form := by
  unfold dataFrame
  rw [Drive.arriving_form (fun d => ?_), Drive.awaken_form]
  dsimp only
  simp

@[simp] theorem Drive.reopenWindow_form (sid) (d : Drive) : (Drive.reopenWindow sid d).form = d.form := by
  unfold Drive.reopenWindow
  simp

@[simp] theorem ackFrame_form (f) (d : Drive) : (ackFrame f d).form = d.form := by
  unfold ackFrame
  refine Drive.arriving_form (fun d => ?_) ..
  simp

@[simp] theorem Drive.onSession_form {f : Session → Drive → Drive} (hf : ∀ s d, (f s d).form = d.form) (sid) (states) (d : Drive) :
    (d.onSession sid states f).form = d.form := by
  unfold Drive.onSession
  simp [hf]

@[simp] theorem ackDelayExpiry_form (sid) (d : Drive) : (ackDelayExpiry sid d).form = d.form := by
  unfold ackDelayExpiry
  refine Drive.onSession_form (fun r d => ?_) ..
  split <;> simp

@[simp] theorem retransmissionTimeout_form (sid) (p) (d : Drive) : (retransmissionTimeout sid p d).form = d.form := by
  unfold retransmissionTimeout
  refine Drive.onSession_form (fun r d => ?_) ..
  split <;> simp

@[simp] theorem keepAlive_form (sid) (p) (d : Drive) : (keepAlive sid p d).form = d.form := by
  unfold keepAlive
  refine Drive.onSession_form (fun r d => ?_) ..
  simp

@[simp] theorem idleTimeout_form (sid) (d : Drive) : (idleTimeout sid d).form = d.form := by
  unfold idleTimeout
  refine Drive.onSession_form (fun r d => ?_) ..
  simp

@[simp] theorem openingTimeout_form (sid) (d : Drive) : (openingTimeout sid d).form = d.form := by
  unfold openingTimeout
  refine Drive.onSession_form (fun r d => ?_) ..
  simp

@[simp] theorem drainComplete_form (sid) (d : Drive) : (drainComplete sid d).form = d.form := by
  unfold drainComplete
  refine Drive.onSession_form (fun r d => ?_) ..
  simp

@[simp] theorem drainingTimeout_form (sid) (d : Drive) : (drainingTimeout sid d).form = d.form := by
  unfold drainingTimeout
  refine Drive.onSession_form (fun r d => ?_) ..
  simp

@[simp] theorem windowReopenAck_form (sid) (d : Drive) : (windowReopenAck sid d).form = d.form := by
  unfold windowReopenAck
  refine Drive.onSession_form (fun r d => ?_) ..
  simp

@[simp] theorem pathSilence_form (sid) (p) (d : Drive) : (pathSilence sid p d).form = d.form := by
  unfold pathSilence
  refine Drive.onSession_form (fun r d => ?_) ..
  simp

@[simp] theorem rekeyRequired_form (sid) (inbound) (d : Drive) : (rekeyRequired sid inbound d).form = d.form := by
  unfold rekeyRequired
  simp

@[simp] theorem sessionExhausted_form (sid) (inbound) (d : Drive) : (sessionExhausted sid inbound d).form = d.form := by
  unfold sessionExhausted
  simp

@[simp] theorem keyPhaseRetire_form (sid) (d : Drive) : (keyPhaseRetire sid d).form = d.form := by
  unfold keyPhaseRetire
  simp

@[simp] theorem Drive.sendChange_form (c) (d : Drive) : (Drive.sendChange c d).2.form = d.form := by
  unfold Drive.sendChange
  simp

@[simp] theorem Drive.pendChange_form (r) (c) (h) (body) (d : Drive) : (Drive.pendChange r c h body d).form = d.form :=
  (Drive.sendChange_form c d).trans rfl

@[simp] theorem completeChanges_form (l) (d : Drive) : (completeChanges l d).form = d.form := by
  induction l generalizing d with
  | nil => rfl
  | cons x l ih => simp [completeChanges, ih]

@[simp] theorem Drive.finishChanges_form (d : Drive) : (Drive.finishChanges d).form = d.form := by
  unfold Drive.finishChanges
  simp

@[simp] theorem Drive.vaultDone_form (o) (d : Drive) : (Drive.vaultDone o d).form = d.form := by
  unfold Drive.vaultDone
  simp

@[simp] theorem Drive.optfStart_form (x) (d : Drive) : (Drive.optfStart x d).form = d.form := by
  unfold Drive.optfStart
  simp

@[simp] theorem Drive.optfWrite_form (x) (d : Drive) : (Drive.optfWrite x d).form = d.form := by
  unfold Drive.optfWrite
  split <;> simp

@[simp] theorem Drive.bankRead_form (bank) (d : Drive) : (Drive.bankRead bank d).form = d.form := by
  unfold Drive.bankRead
  simp

@[simp] theorem Drive.emitAll_form (l) (d : Drive) : (Drive.emitAll l d).form = d.form := by
  unfold Drive.emitAll
  simp

@[simp] theorem Drive.optfRead_form (bank) (bytes) (o) (d : Drive) : (Drive.optfRead bank bytes o d).form = d.form := by
  unfold Drive.optfRead
  split <;> simp

@[simp] theorem Drive.vaultPlace_form (d : Drive) : (Drive.vaultPlace d).form = d.form := by
  unfold Drive.vaultPlace
  simp

@[simp] theorem Drive.vaultPut_form (id) (k) (d : Drive) : (Drive.vaultPut id k d).form = d.form := by
  unfold Drive.vaultPut
  simp

@[simp] theorem Drive.vaultDel_form (id) (d : Drive) : (Drive.vaultDel id d).form = d.form := by
  unfold Drive.vaultDel
  simp

@[simp] theorem Drive.vaultThen_form (r) (h) (d : Drive) : (Drive.vaultThen r h d).form = d.form := by
  unfold Drive.vaultThen
  simp

@[simp] theorem Drive.pendLoad_form (r) (c) (h) (d : Drive) : (Drive.pendLoad r c h d).form = d.form := by
  unfold Drive.pendLoad
  simp

@[simp] theorem revokeStreams_form (p) (l) (d : Drive) : (revokeStreams p l d).form = d.form := by
  induction l generalizing d with
  | nil => rfl
  | cons s l ih =>
    rw [revokeStreams, ih]
    split
    · split <;> simp
    · rfl

@[simp] theorem revokeWrites_form (p) (l) (d : Drive) : (revokeWrites p l d).form = d.form := by
  induction l generalizing d with
  | nil => rfl
  | cons x l ih => simp [revokeWrites, ih]

@[simp] theorem revokeBatches_form (p) (l) (d : Drive) : (revokeBatches p l d).form = d.form := by
  induction l generalizing d with
  | nil => rfl
  | cons x l ih => simp [revokeBatches, ih]

@[simp] theorem Drive.stopHolly_form (slot) (d : Drive) : (Drive.stopHolly slot d).form = d.form := by
  unfold Drive.stopHolly
  simp

@[simp] theorem Drive.dropCache_form (p) (d : Drive) : (Drive.dropCache p d).form = d.form := by
  unfold Drive.dropCache
  simp

@[simp] theorem Drive.eraseStorage_form (i) (d : Drive) : (Drive.eraseStorage i d).form = d.form := by
  unfold Drive.eraseStorage
  simp

@[simp] theorem Drive.eraseIn_form (t) (states) (d : Drive) : (Drive.eraseIn t states d).2.form = d.form := by
  unfold Drive.eraseIn
  split <;> simp

@[simp] theorem Drive.eraseWrap_form (t) (d : Drive) : (Drive.eraseWrap t d).2.form = d.form := by
  unfold Drive.eraseWrap
  split <;> simp

@[simp] theorem Drive.eraseBoth_form (t) (d : Drive) : (Drive.eraseBoth t d).2.form = d.form := by
  unfold Drive.eraseBoth
  simp

@[simp] theorem endSessions_form (cause) (l) (d : Drive) : (endSessions cause l d).form = d.form := by
  induction l generalizing d with
  | nil => rfl
  | cons x l ih => simp [endSessions, ih]

@[simp] theorem Drive.eraseBy_form (sel) (t) (d : Drive) : (Drive.eraseBy sel t d).2.form = d.form := by
  unfold Drive.eraseBy
  split <;> simp

@[simp] theorem keyErase_form (sel) (o) (d : Drive) : (keyErase sel o d).form = d.form := by
  unfold keyErase
  refine Drive.withReq_form (fun r d => ?_) ..
  simp

@[simp] theorem Drive.setSys_form (n) (s) (d : Drive) : (Drive.setSys n s d).form = d.form := by
  unfold Drive.setSys
  simp

@[simp] theorem Drive.ownSlots_form (d : Drive) : (Drive.ownSlots d).form = d.form := by
  unfold Drive.ownSlots
  simp

@[simp] theorem Drive.ringSlots_form (d : Drive) : (Drive.ringSlots d).form = d.form := by
  unfold Drive.ringSlots
  simp

@[simp] theorem keyEraseSystem_form (o) (d : Drive) : (keyEraseSystem o d).form = d.form := by
  unfold keyEraseSystem
  refine Drive.withReq_form (fun r d => ?_) ..
  simp

@[simp] theorem Drive.storeKey_form (t) (i) (serial) (k) (d : Drive) : (Drive.storeKey t i serial k d).form = d.form := by
  unfold Drive.storeKey
  simp

@[simp] theorem Drive.doStorageLoad_form (r) (b) (i) (d : Drive) : (Drive.doStorageLoad r b i d).form = d.form := by
  unfold Drive.doStorageLoad
  simp

@[simp] theorem keyLoad_form (o) (b) (d : Drive) : (keyLoad o b d).form = d.form := by
  unfold keyLoad
  refine Drive.withReq_form (fun r d => ?_) ..
  simp
  split <;> simp

@[simp] theorem storageLoadResume_form (slot) (d : Drive) : (storageLoadResume slot d).form = d.form := by
  unfold storageLoadResume
  dsimp only
  split
  · simp
  split
  · simp
  split <;> simp

@[simp] theorem slotBufferRelease_form (slot) (d : Drive) : (slotBufferRelease slot d).form = d.form := by
  unfold slotBufferRelease
  simp

@[simp] theorem Drive.someFailure_form (d : Drive) : (Drive.someFailure d).2.form = d.form := by
  unfold Drive.someFailure
  simp

@[simp] theorem kekImport_form (session) (index) (pkHash) (signatureOk) (b) (d : Drive) :
    (kekImport session index pkHash signatureOk b d).form = d.form := by
  unfold kekImport
  simp

@[simp] theorem Drive.revokeNs_form (n) (d : Drive) : (Drive.revokeNs n d).form = d.form := by
  unfold Drive.revokeNs
  simp

@[simp] theorem Drive.dropFwd_form (n) (d : Drive) : (Drive.dropFwd n d).form = d.form := by
  unfold Drive.dropFwd
  simp

@[simp] theorem Drive.dropDir_form (p) (d : Drive) : (Drive.dropDir p d).form = d.form := by
  unfold Drive.dropDir
  rw [Drive.dirWatch_form]
  exact foldl_form (fun _ _ => Drive.modNs_form ..) ..

@[simp] theorem Drive.dropEntries_form (n) (d : Drive) : (Drive.dropEntries n d).form = d.form := by
  unfold Drive.dropEntries
  simp

@[simp] theorem Drive.raiseGen_form (n) (gen) (floor) (d : Drive) : (Drive.raiseGen n gen floor d).form = d.form := by
  unfold Drive.raiseGen
  simp

@[simp] theorem Drive.applyChange_form (c) (d : Drive) : (Drive.applyChange c d).form = d.form := by
  unfold Drive.applyChange
  dsimp only
  repeat' split
  all_goals simp

@[simp] theorem Drive.change_form (r) (c) (h) (b) (d : Drive) : (d.change r c h b).form = d.form := by
  unfold Drive.change
  simp

@[simp] theorem operatorOnly_form {f : Req → Drive → Drive} (hf : ∀ r d, (f r d).form = d.form) (o) (op) (d : Drive) :
    (operatorOnly o op f d).form = d.form := by
  unfold operatorOnly
  refine Drive.withReq_form (fun r d => ?_) ..
  simp [hf]

@[simp] theorem tenantCreate_form (o) (d : Drive) : (tenantCreate o d).form = d.form := by
  unfold tenantCreate
  refine operatorOnly_form (fun r d => ?_) ..
  simp

@[simp] theorem tenantDelete_form (o) (d : Drive) : (tenantDelete o d).form = d.form := by
  unfold tenantDelete
  refine operatorOnly_form (fun r d => ?_) ..
  simp

@[simp] theorem nsCreate_form (o) (d : Drive) : (nsCreate o d).form = d.form := by
  unfold nsCreate
  refine operatorOnly_form (fun r d => ?_) ..
  simp
  split <;> simp

@[simp] theorem stateAnswer_form {k : Drive → Drive} (hf : ∀ d, (k d).form = d.form) (r) (st) (d : Drive) :
    (stateAnswer r st d k).form = d.form := by
  unfold stateAnswer
  simp [hf]

@[simp] theorem nsDelete_form (o) (d : Drive) : (nsDelete o d).form = d.form := by
  unfold nsDelete
  refine operatorOnly_form (fun r d => ?_) ..
  simp

@[simp] theorem nsModify_form (b) (o) (d : Drive) : (nsModify b o d).form = d.form := by
  unfold nsModify
  refine operatorOnly_form (fun r d => ?_) ..
  simp

@[simp] theorem nsInfo_form (o) (d : Drive) : (nsInfo o d).form = d.form := by
  unfold nsInfo
  refine Drive.withReq_form (fun r d => ?_) ..
  simp

@[simp] theorem sweepComplete_form (n) (d : Drive) : (sweepComplete n d).form = d.form := by
  unfold sweepComplete
  simp

end Sys2Proof.Machine
end

-- Proofs of the flash array: what leaves the form of the tables as it is, in the twin, the Hedgerow and the cipher engine.
section
namespace Sys2Proof.Machine
open Sys2Proof

@[simp] theorem Drive.fromTwin_form {k : Drive → Drive} (hf : ∀ d, (k d).form = d.form) (d : Drive) :
    (d.fromTwin k).form = d.form := by
  unfold Drive.fromTwin
  simp [hf]

@[simp] theorem Drive.fromTwinAwake_form {k : Drive → Drive} (hf : ∀ d, (k d).form = d.form) (d : Drive) :
    (d.fromTwinAwake k).form = d.form := by
  unfold Drive.fromTwinAwake
  simp [Drive.fromTwin_form hf]

@[simp] theorem Drive.addForward_form (opId) (aux) (tag) (h) (body) (d : Drive) :
    (Drive.addForward opId aux tag h body d).form = d.form := by
  unfold Drive.addForward
  simp

@[simp] theorem Drive.onceTwin_form {k : Drive → Drive} (hf : ∀ d, (k d).form = d.form) (op) (d : Drive) :
    (d.onceTwin op k).form = d.form := by
  unfold Drive.onceTwin
  split <;> simp [hf]

@[simp] theorem fwdRead_form (opId) (aux) (tag) (h) (body) (d : Drive) : (fwdRead opId aux tag h body d).form = d.form := by
  unfold fwdRead
  refine Drive.fromTwinAwake_form (fun d => Drive.onceTwin_form (fun d => ?_) ..) _
  dsimp only
  repeat' split
  all_goals simp

@[simp] theorem fwdData_form (opId) (chunk) (bytes) (d : Drive) : (fwdData opId chunk bytes d).form = d.form := by
  unfold fwdData
  refine Drive.fromTwinAwake_form (fun d => ?_) ..
  split <;> simp

@[simp] theorem Drive.grantUsed_form (recs) (d : Drive) : (Drive.grantUsed recs d).form = d.form := by
  unfold Drive.grantUsed
  simp

@[simp] theorem Drive.clearPending_form (recs) (d : Drive) : (Drive.clearPending recs d).form = d.form := by
  unfold Drive.clearPending
  simp

@[simp] theorem Drive.clearAllPending_form (d : Drive) : (Drive.clearAllPending d).form = d.form := by
  unfold Drive.clearAllPending
  simp

@[simp] theorem Drive.release_form (txn) (coordinator) (d : Drive) : (Drive.release txn coordinator d).form = d.form := by
  unfold Drive.release
  simp

@[simp] theorem Drive.ownOutcomes_form (r) (tenant) (ms) (mine) (d : Drive) : (Drive.ownOutcomes r tenant ms mine d).2.form = d.form := by
  unfold Drive.ownOutcomes
  simp

@[simp] theorem prepareMsg_form (opId) (txn) (tag) (h) (body) (seals) (d : Drive) :
    (prepareMsg opId txn tag h body seals d).form = d.form := by
  unfold prepareMsg
  refine Drive.fromTwinAwake_form (fun d => ?_) ..
  simp

@[simp] theorem Drive.abortTxn_form {k : Drive → Drive} (hf : ∀ d, (k d).form = d.form) (r) (d : Drive) :
    (d.abortTxn r k).form = d.form := by
  unfold Drive.abortTxn
  simp [hf]

@[simp] theorem Drive.unknownTxn_form (txn) (d : Drive) : (Drive.unknownTxn txn d).form = d.form := by
  unfold Drive.unknownTxn
  split <;> simp

@[simp] theorem decideTxn_form (r) (outcomes) (d : Drive) : (decideTxn r outcomes d).form = d.form := by
  unfold decideTxn
  simp

@[simp] theorem decideWaiting_form (l) (d : Drive) : (decideWaiting l d).form = d.form := by
  induction l generalizing d with
  | nil => rfl
  | cons r rs ih =>
    rw [decideWaiting, ih]
    split <;> simp

@[simp] theorem preparedMsg_form (txn) (outcomes) (d : Drive) : (preparedMsg txn outcomes d).form = d.form := by
  unfold preparedMsg
  refine Drive.fromTwinAwake_form (fun d => ?_) ..
  split <;> simp

@[simp] theorem refusedMsg_form (txn) (d : Drive) : (refusedMsg txn d).form = d.form := by
  unfold refusedMsg
  refine Drive.fromTwinAwake_form (fun d => ?_) ..
  split <;> simp

@[simp] theorem Drive.drawOwn_form (ms) (d : Drive) : (Drive.drawOwn ms d).form = d.form := by
  unfold Drive.drawOwn
  simp

@[simp] theorem abortMsg_form (txn) (d : Drive) : (abortMsg txn d).form = d.form := by
  unfold abortMsg
  refine Drive.fromTwinAwake_form (fun d => ?_) ..
  simp

@[simp] theorem prepareTimeout_form (txn) (d : Drive) : (prepareTimeout txn d).form = d.form := by
  unfold prepareTimeout
  split <;> simp

@[simp] theorem refuseAll_form (p) (st) (l) (d : Drive) : (refuseAll p st l d).form = d.form := by
  induction l generalizing d with
  | nil => rfl
  | cons x l ih => simp [refuseAll, ih]

@[simp] theorem noLease_form (l) (d : Drive) : (noLease l d).form = d.form := by
  induction l generalizing d with
  | nil => rfl
  | cons x l ih => simp [noLease, ih]

@[simp] theorem Drive.seekLease_form (d : Drive) : (Drive.seekLease d).form = d.form := by
  unfold Drive.seekLease
  simp

@[simp] theorem Drive.leaveJoining_form (d : Drive) : (Drive.leaveJoining d).form = d.form := by
  unfold Drive.leaveJoining
  simp

@[simp] theorem joiningTimeout_form (d : Drive) : (joiningTimeout d).form = d.form := by
  unfold joiningTimeout
  simp

@[simp] theorem Drive.steer_form (offset) (d : Drive) : (Drive.steer offset d).form = d.form := by
  unfold Drive.steer
  simp

@[simp] theorem heartbeatMsg_form (seq) (tick) (lastSeq) (lOwn) (offset) (d : Drive) :
    (heartbeatMsg seq tick lastSeq lOwn offset d).form = d.form := by
  unfold heartbeatMsg
  refine Drive.fromTwin_form (fun d => ?_) ..
  simp

@[simp] theorem Drive.dropPrepared_form (d : Drive) : (Drive.dropPrepared d).form = d.form := by
  unfold Drive.dropPrepared
  simp

@[simp] theorem Drive.fencedOutcomes_form (d : Drive) : (Drive.fencedOutcomes d).form = d.form := by
  unfold Drive.fencedOutcomes
  simp

@[simp] theorem Drive.becomeFenced_form (d : Drive) : (Drive.becomeFenced d).form = d.form := by
  unfold Drive.becomeFenced
  simp

@[simp] theorem resendAll_form (l) (d : Drive) : (resendAll l d).form = d.form := by
  induction l generalizing d with
  | nil => rfl
  | cons x l ih => simp [resendAll, ih]

@[simp] theorem resendErases_form (l) (d : Drive) : (resendErases l d).form = d.form := by
  induction l generalizing d with
  | nil => rfl
  | cons o l ih =>
    rw [resendErases, ih]
    split <;> simp

@[simp] theorem twinLinkUp_form (serial) (authOk) (unpaired) (empty) (secret) (d : Drive) :
    (twinLinkUp serial authOk unpaired empty secret d).form = d.form := by
  unfold twinLinkUp
  simp

@[simp] theorem takeCounts_form (l) (d : Drive) : (takeCounts l d).form = d.form := by
  induction l generalizing d with
  | nil => rfl
  | cons c l ih =>
    rw [takeCounts, ih]
    split <;> simp

@[simp] theorem Drive.askTwinRoll_form (d : Drive) : (Drive.askTwinRoll d).form = d.form := by
  unfold Drive.askTwinRoll
  simp

@[simp] theorem Drive.enterPaired_form (d : Drive) : (Drive.enterPaired d).form = d.form := by
  unfold Drive.enterPaired
  simp

@[simp] theorem tellPrepared_form (l) (d : Drive) : (tellPrepared l d).form = d.form := by
  induction l generalizing d with
  | nil => rfl
  | cons p l ih =>
    rw [tellPrepared, ih]
    split <;> simp

@[simp] theorem takeRow_form (d : Drive) (x) : (takeRow d x).form = d.form := by
  unfold takeRow
  simp

@[simp] theorem dropRow_form (d : Drive) (n) : (dropRow d n).form = d.form := by
  unfold dropRow
  simp

@[simp] theorem Drive.takeTables_form (t) (d : Drive) : (Drive.takeTables t d).form = d.form := by
  unfold Drive.takeTables
  simp

@[simp] theorem raiseNonce_form (d : Drive) (p) : (raiseNonce d p).form = d.form := by
  unfold raiseNonce
  simp

@[simp] theorem raiseCounter_form (d : Drive) (p) : (raiseCounter d p).form = d.form := by
  unfold raiseCounter
  simp

@[simp] theorem Drive.enterRange_form (d : Drive) : (Drive.enterRange d).form = d.form := by
  unfold Drive.enterRange
  simp

@[simp] theorem homeReturn_form (version) (d : Drive) : (homeReturn version d).form = d.form := by
  unfold homeReturn
  refine Drive.fromTwinAwake_form (fun d => ?_) ..
  dsimp only
  repeat' split
  all_goals simp

@[simp] theorem tellZero_form (l) (d : Drive) : (tellZero l d).form = d.form := by
  induction l generalizing d with
  | nil => rfl
  | cons x l ih => simp [tellZero, ih]

@[simp] theorem Drive.sendFetch_form (s) (d : Drive) : (Drive.sendFetch s d).form = d.form := by
  unfold Drive.sendFetch
  simp

@[simp] theorem sendFetches_form (l) (d : Drive) : (sendFetches l d).form = d.form := by
  induction l generalizing d with
  | nil => rfl
  | cons x l ih => simp [sendFetches, ih]

@[simp] theorem reserveReq_form (granulesWanted) (entriesWanted) (d : Drive) :
    (reserveReq granulesWanted entriesWanted d).form = d.form := by
  unfold reserveReq
  refine Drive.fromTwinAwake_form (fun d => ?_) ..
  simp

@[simp] theorem reserveGrant_form (g) (e) (d : Drive) : (reserveGrant g e d).form = d.form := by
  unfold reserveGrant
  refine Drive.fromTwinAwake_form (fun d => ?_) ..
  simp

@[simp] theorem chunkFetch_form (opId) (ns) (tag) (version) (chunk) (verifies) (d : Drive) :
    (chunkFetch opId ns tag version chunk verifies d).form = d.form := by
  unfold chunkFetch
  refine Drive.fromTwinAwake_form (fun d => ?_) ..
  simp

@[simp] theorem tableAckMsg_form (opId) (seq) (d : Drive) : (tableAckMsg opId seq d).form = d.form := by
  unfold tableAckMsg
  refine Drive.fromTwinAwake_form (fun d => ?_) ..
  simp

@[simp] theorem Drive.newPairKeys_form (d : Drive) : (Drive.newPairKeys d).form = d.form := by
  unfold Drive.newPairKeys
  simp

@[simp] theorem adoptTwin_form (o) (d : Drive) : (adoptTwin o d).form = d.form := by
  unfold adoptTwin
  refine Drive.withReq_form (fun r d => ?_) ..
  simp

@[simp] theorem Drive.setServed_form (pos) (w) (d : Drive) : (Drive.setServed pos w d).form = d.form := by
  unfold Drive.setServed
  simp

@[simp] theorem Drive.denyAlive_form (pos) (d : Drive) : (Drive.denyAlive pos d).form = d.form := by
  unfold Drive.denyAlive
  simp

@[simp] theorem leaseReq_form (src) (seq) (epoch) (d : Drive) : (leaseReq src seq epoch d).form = d.form := by
  unfold leaseReq
  refine Drive.fromRing_form (fun d => ?_) ..
  simp

@[simp] theorem probeMsg_form (src) (seq) (d : Drive) : (probeMsg src seq d).form = d.form := by
  unfold probeMsg
  refine Drive.fromRing_form (fun d => ?_) ..
  simp

@[simp] theorem probeAnswer_form (src) (seq) (d : Drive) : (probeAnswer src seq d).form = d.form := by
  unfold probeAnswer
  refine Drive.fromRing_form (fun d => ?_) ..
  simp

@[simp] theorem witnessProbeTick_form (pair) (d : Drive) : (witnessProbeTick pair d).form = d.form := by
  unfold witnessProbeTick
  split <;> simp

@[simp] theorem witnessGrantHold_form (pos) (d : Drive) : (witnessGrantHold pos d).form = d.form := by
  unfold witnessGrantHold
  dsimp only
  split <;> simp

@[simp] theorem witnessFreezeEnd_form (d : Drive) : (witnessFreezeEnd d).form = d.form := by
  unfold witnessFreezeEnd
  simp

@[simp] theorem clearMsg_form (src) (seq) (d : Drive) : (clearMsg src seq d).form = d.form := by
  unfold clearMsg
  refine Drive.fromRing_form (fun d => ?_) ..
  simp

@[simp] theorem leaseAssert_form (src) (seq) (epoch) (d : Drive) : (leaseAssert src seq epoch d).form = d.form := by
  unfold leaseAssert
  refine Drive.fromRing_form (fun d => ?_) ..
  simp

@[simp] theorem leaseRelease_form (src) (seq) (d : Drive) : (leaseRelease src seq d).form = d.form := by
  unfold leaseRelease
  refine Drive.fromRing_form (fun d => ?_) ..
  simp

@[simp] theorem leaseDeny_form (src) (seq) (reason) (d : Drive) : (leaseDeny src seq reason d).form = d.form := by
  unfold leaseDeny
  refine Drive.fromRing_form (fun d => ?_) ..
  simp

@[simp] theorem fencedNotice_form (src) (seq) (d : Drive) : (fencedNotice src seq d).form = d.form := by
  unfold fencedNotice
  refine Drive.fromRing_form (fun d => ?_) ..
  simp

@[simp] theorem leaseReqResend_form (d : Drive) : (leaseReqResend d).form = d.form := by
  unfold leaseReqResend
  simp

@[simp] theorem clearSend_form (d : Drive) : (clearSend d).form = d.form := by
  unfold clearSend
  simp

@[simp] theorem cleared_form (src) (seq) (d : Drive) : (cleared src seq d).form = d.form := by
  unfold cleared
  refine Drive.fromRing_form (fun d => ?_) ..
  simp

@[simp] theorem clearanceLapse_form (d : Drive) : (clearanceLapse d).form = d.form := by
  unfold clearanceLapse
  simp

@[simp] theorem leaseAssertSend_form (d : Drive) : (leaseAssertSend d).form = d.form := by
  unfold leaseAssertSend
  simp

@[simp] theorem witnessWrite_form (v) (d : Drive) : (witnessWrite v d).dev.form = d.form := by
  unfold witnessWrite
  simp

@[simp] theorem ringHello_form (src) (east) (direct) (keyHash) (serial) (cycles) (random) (reach) (d : Drive) :
    (ringHello src east direct keyHash serial cycles random reach d).form = d.form := by
  unfold ringHello
  simp

theorem Drive.sayHello_form (d : Drive) : d.sayHello.form = d.form := by
  unfold Drive.sayHello
  simp

@[simp] theorem ringHelloSend_form (d : Drive) : (ringHelloSend d).form = d.form := by
  rw [ringHelloSend_eq]
  split
  · rfl
  · rw [Drive.sayHello_form, Drive.advanceTo_form]

@[simp] theorem ringLinkLoss_form (east) (d : Drive) : (ringLinkLoss east d).form = d.form := by
  unfold ringLinkLoss
  simp

@[simp] theorem forwardFrame_form (f) (d : Drive) : (forwardFrame f d).form = d.form := by
  unfold forwardFrame
  simp
  split <;> simp

@[simp] theorem ringForward_form (fs) (d : Drive) : (ringForward fs d).form = d.form := by
  unfold ringForward
  simp

@[simp] theorem shearsAdmit_form (port) (d : Drive) : (shearsAdmit port d).form = d.form := by
  unfold shearsAdmit
  dsimp only
  split
  · simp
  split <;> simp

@[simp] theorem Drive.setPair_form (p) (x) (d : Drive) : (Drive.setPair p x d).form = d.form := by
  unfold Drive.setPair
  simp

@[simp] theorem Drive.failInternal_form (o) (d : Drive) : (Drive.failInternal o d).form = d.form := by
  unfold Drive.failInternal
  split <;> simp

@[simp] theorem hollyFail_form (q) (d : Drive) : (hollyFail q d).form = d.form := by
  unfold hollyFail
  dsimp only
  repeat' split
  all_goals simp

@[simp] theorem hollyMismatch_form (p) (q) (d : Drive) : (hollyMismatch p q d).form = d.form := by
  unfold hollyMismatch
  simp

@[simp] theorem giveHolly_form (n) (d : Drive) : (giveHolly n d).form = d.form := by
  induction n generalizing d with
  | zero => rfl
  | succ n ih =>
    rw [giveHolly]
    split
    · rfl
    dsimp only
    split
    · simp [ih]
    split
    · rfl
    · exact ih _

@[simp] theorem hollyDispatch_form (arrivals) (freed) (mismatch) (d : Drive) :
    (hollyDispatch arrivals freed mismatch d).form = d.form := by
  unfold hollyDispatch
  dsimp only
  split <;> simp

@[simp] theorem compatSuspend_form (blocks) (d : Drive) : (compatSuspend blocks d).form = d.form := by
  unfold compatSuspend
  split <;> simp

@[simp] theorem compatResume_form (resumeId) (unwraps) (tag) (d : Drive) : (compatResume resumeId unwraps tag d).form = d.form := by
  unfold compatResume
  simp

end Sys2Proof.Machine
end

-- Proofs of the flash array: what leaves the form of the tables as it is, in the media, the classifier, the ports, time and the recorder.
section
namespace Sys2Proof.Machine
open Sys2Proof

@[simp] theorem suspendComplete_form (die) (d : Drive) : (suspendComplete die d).form = d.form := by
  unfold suspendComplete
  split <;> simp

@[simp] theorem busyWindowEntry_form (die) (d : Drive) : (busyWindowEntry die d).form = d.form := by
  unfold busyWindowEntry
  split
  · simp
  split <;> simp

@[simp] theorem eraseWindowEnd_form (die) (d : Drive) : (eraseWindowEnd die d).form = d.form := by
  unfold eraseWindowEnd
  split <;> simp

@[simp] theorem starvationGuardTrip_form (die) (d : Drive) : (starvationGuardTrip die d).form = d.form := by
  unfold starvationGuardTrip
  split <;> simp

@[simp] theorem reconInterval_form (d : Drive) : (reconInterval d).form = d.form := by
  unfold reconInterval
  simp

theorem Drive.issueProgram_form {job} {sb} {gran} {d : Drive} {z : Drive} (h : (Drive.issueProgram job sb gran d) = some z) :
    z.form = d.form := by
  unfold Drive.issueProgram at h
  dsimp only at h
  split at h
  · obtain rfl := Option.some.inj h
    rfl
  · cases h

@[simp] theorem Drive.sbState_form (sb) (state) (d : Drive) : (Drive.sbState sb state d).form = d.form := by
  unfold Drive.sbState
  simp

@[simp] theorem eraseBlocks_form (sb) (l) (d : Drive) : (eraseBlocks sb l d).form = d.form := by
  induction l generalizing d with
  | nil => rfl
  | cons x l ih => simp [eraseBlocks, ih]

@[simp] theorem advanceErases_form (l) (d : Drive) : (advanceErases l d).form = d.form := by
  induction l generalizing d with
  | nil => rfl
  | cons x l ih => simp [advanceErases, ih]

@[simp] theorem Drive.finishClip_form (sb) (d : Drive) : (Drive.finishClip sb d).form = d.form := by
  unfold Drive.finishClip
  split
  · rfl
  split
  · rfl
  · exact (Drive.sbState_form ..).trans (foldl_form (fun _ _ => Drive.modNs_form ..) ..)

@[simp] theorem advanceClip_form (sb) (n) (d : Drive) : (advanceClip sb n d).form = d.form := by
  induction n generalizing d with
  | zero => simp [advanceClip]
  | succ n ih =>
    rw [advanceClip]
    split
    · rfl
    dsimp only
    split
    · simp
    split
    · simp [ih]
    split
    · rfl
    split
    · rfl
    · rename_i ha
      split
      · rfl
      · rename_i hi
        simp [ih, Drive.issueProgram_form hi, Drive.allocate_form ha]

@[simp] theorem advanceRepairs_form (l) (d : Drive) : (advanceRepairs l d).form = d.form := by
  induction l generalizing d with
  | nil => rfl
  | cons x l ih =>
    obtain ⟨r, sb, gran⟩ := x
    rw [advanceRepairs, ih]
    dsimp only
    split
    · simp
    split
    · rfl
    split
    · rfl
    · rename_i ha
      split
      · rfl
      · rename_i hi
        simp [Drive.issueProgram_form hi, Drive.allocate_form ha]

@[simp] theorem Drive.advanceMedia_form (d : Drive) : (Drive.advanceMedia d).form = d.form := by
  unfold Drive.advanceMedia
  simp

@[simp] theorem Drive.moveRec_form (sb) (gran) (sb1) (gran1) (r) (d : Drive) : (Drive.moveRec sb gran sb1 gran1 r d).form = d.form := by
  unfold Drive.moveRec
  simp

@[simp] theorem programmedReqs_form (v) (l) (d : Drive) : (programmedReqs v l d).form = d.form := by
  induction l generalizing d with
  | nil => rfl
  | cons x l ih => simp [programmedReqs, ih]

@[simp] theorem shelfDrain_form (d : Drive) : (shelfDrain d).form = d.form := by
  unfold shelfDrain
  obtain ⟨full, hfull⟩ : ∃ b, decide (d.media.shelfLimitMiB * 2 ^ 20 ≤ 2 * d.shelfUsed) = b := ⟨_, rfl⟩
  rw [hfull]
  extract_lets +onlyGivenNames busy
  split
  · rfl
  rename_i idx x hfind
  extract_lets +onlyGivenNames g
  split
  · exact getD_form fun z hz => Drive.issueProgram_form hz
  extract_lets +onlyGivenNames full' burst qlc
  have hspot : ∀ {slc p z}, d.allocate 0x01 slc g = some (p, z) → z.form = d.form ∧ z.kv = d.kv := fun hz =>
    ⟨Drive.allocate_form hz, (Drive.allocate_frame (hr := hz) ..).kv rfl⟩
  have hroom : ∀ p z, burst.orElse (fun _ => qlc) = some (p, z) → z.form = d.form ∧ z.kv = d.kv := fun p z hz => by
    rcases orElse_some hz with hz | hz
    · rcases ite_eq_iff.mp hz with ⟨-, hz⟩ | ⟨-, hz⟩
      · exact hspot hz
      · exact absurd hz (by simp)
    · rcases ite_eq_iff.mp hz with ⟨-, hz⟩ | ⟨-, hz⟩
      · exact absurd hz (by simp)
      · exact hspot hz
  clear_value burst qlc
  split
  · rfl
  · rename_i ha
    obtain ⟨hform, hkv⟩ := hroom _ _ ha
    split
    · rfl
    · rename_i z hi
      have hkeep : z.kv.shelf = d.kv.shelf := congrArg Kv.shelf (((Drive.issueProgram_frame hi).kv rfl).trans hkv)
      have hmem : idx ∈ z.kv.shelf.map Prod.fst := hkeep ▸ List.mem_map_of_mem (List.mem_of_find?_eq_some hfind)
      refine Eq.trans ?_ ((Drive.issueProgram_form hi).trans hform)
      exact (TableForm.mk.injEq ..).mpr ⟨rfl, rfl, numbered_tput_of_mem hmem⟩

@[simp] theorem Drive.blockErased_form (sb) (d : Drive) : (Drive.blockErased sb d).form = d.form := by
  unfold Drive.blockErased
  simp

@[simp] theorem eraseComplete_form (die) (d : Drive) : (eraseComplete die d).form = d.form := by
  unfold eraseComplete
  split <;> simp

@[simp] theorem Drive.shrinkBurst_form (d : Drive) : (Drive.shrinkBurst d).form = d.form := by
  unfold Drive.shrinkBurst
  split
  · rfl
  · refine foldl_form (fun d n => ?_) _ d
    exact Drive.setSb_form n (d.sb n) d

@[simp] theorem Drive.spareAt_form (p) (d : Drive) : (Drive.spareAt p d).form = d.form := by
  unfold Drive.spareAt
  simp

@[simp] theorem Drive.spareWatch_form (d : Drive) : (Drive.spareWatch d).form = d.form :=
  d.spareWatch_eq ▸ (Drive.spareAt_form ..).trans (Drive.shrinkBurst_form d)

theorem Drive.takeSubstitute_form {sb} {d : Drive} {y} {z : Drive} (h : (Drive.takeSubstitute sb d) = some (y, z)) : z.form = d.form := by
  unfold Drive.takeSubstitute at h
  dsimp only at h
  split at h
  · obtain ⟨-, rfl⟩ : _ ∧ _ = z := by simpa using h
    simp
  split at h
  · simp at h
  · obtain ⟨p, -, heq⟩ := Option.map_eq_some_iff.mp h
    obtain ⟨-, rfl⟩ : _ ∧ _ = z := by simpa using heq
    simp

theorem Drive.retireBlock_form {sb} {channel} {d : Drive} {y} {z : Drive} (h : (Drive.retireBlock sb channel d) = some (y, z)) :
    z.form = d.form := by
  unfold Drive.retireBlock at h
  obtain ⟨⟨p, w⟩, hw, heq⟩ := Option.map_eq_some_iff.mp h
  obtain ⟨-, rfl⟩ : _ ∧ _ = z := by simpa using heq
  simp [Drive.takeSubstitute_form hw]

@[simp] theorem programFail_form (die) (d : Drive) : (programFail die d).form = d.form := by
  unfold programFail
  split
  · rfl
  split
  · rfl
  split
  · rfl
  · rename_i h
    dsimp only
    split
    · simp [Drive.retireBlock_form h]
    · split <;> simp [Drive.retireBlock_form h]

@[simp] theorem eraseFail_form (die) (d : Drive) : (eraseFail die d).form = d.form := by
  unfold eraseFail
  split
  · rfl
  split
  · rfl
  split
  · rfl
  · rename_i h
    simp [Drive.retireBlock_form h]

@[simp] theorem markBad_form (sb) (l) (d : Drive) : (markBad sb l d).form = d.form := by
  induction l generalizing d with
  | nil => rfl
  | cons x l ih => simp [markBad, ih]

@[simp] theorem Drive.beginClip_form (sb) (fold) (bad) (d : Drive) : (Drive.beginClip sb fold bad d).form = d.form := by
  unfold Drive.beginClip
  simp

@[simp] theorem clipVictimSelect_form (bad) (d : Drive) : (clipVictimSelect bad d).form = d.form := by
  unfold clipVictimSelect
  split <;> simp

@[simp] theorem folding_form (bad) (d : Drive) : (folding bad d).form = d.form := by
  unfold folding
  dsimp only
  split <;> simp

@[simp] theorem recalibrate_form (sb) (l) (d : Drive) : (recalibrate sb l d).form = d.form := by
  induction l generalizing d with
  | nil => rfl
  | cons x l ih => simp [recalibrate, ih]

@[simp] theorem patrolVisit_form (sb) (cws) (d : Drive) : (patrolVisit sb cws d).form = d.form := by
  unfold patrolVisit
  extract_lets +onlyGivenNames s
  split
  · rfl
  extract_lets +onlyGivenNames d1 d2 d3 d4 src d5
  have h5 : d5.form = d.form := by
    refine Eq.trans (b := d4.form) rfl ?_
    simp [d4, d3, d2, d1]
  clear_value d5
  split
  · extract_lets +onlyGivenNames d6 src' d7
    refine (Drive.event_form ..).trans (Eq.trans (b := d6.form) rfl ?_)
    simp [d6, h5]
  · exact h5

@[simp] theorem patrolLate_form (sb) (d : Drive) : (patrolLate sb d).form = d.form := by
  unfold patrolLate
  simp

@[simp] theorem healthWearUpdate_form (d : Drive) : (healthWearUpdate d).form = d.form := by
  unfold healthWearUpdate
  obtain ⟨f, hf⟩ : ∃ f, Drive.advanceTo = f := ⟨_, rfl⟩
  have h := Drive.advanceTo_form ((d.now / 60000000000 + 1) * 60000000000) d
  rw [hf] at h ⊢
  simp [h]

@[simp] theorem Drive.rerunRead_form (r) (d : Drive) : (Drive.rerunRead r d).form = d.form := by
  unfold Drive.rerunRead
  split <;> simp

@[simp] theorem listRead_form (r) (s) (unreadable) (d : Drive) : (listRead r s unreadable d).form = d.form := by
  unfold listRead
  dsimp only
  split
  · simp
  split <;> simp

@[simp] theorem Drive.ifCurrent_form {k : Drive → Drive} (hf : ∀ d, (k d).form = d.form) (s) (r) (d : Drive) :
    (d.ifCurrent s r k).form = d.form := by
  unfold Drive.ifCurrent
  simp [hf]

@[simp] theorem headerGood_form (s) (d : Drive) : (headerGood s d).form = d.form := by
  unfold headerGood
  split
  · simp
  split
  · simp
  · refine Drive.ifCurrent_form (fun d => ?_) ..
    split <;> simp

@[simp] theorem releaseChunk_form (s) (d : Drive) : (releaseChunk s d).form = d.form := by
  unfold releaseChunk
  simp

@[simp] theorem chunkGood_form (s) (d : Drive) : (chunkGood s d).form = d.form := by
  unfold chunkGood
  simp
  split <;> simp

@[simp] theorem Drive.writeRepair_form (s) (d : Drive) : (Drive.writeRepair s d).form = d.form := by
  unfold Drive.writeRepair
  split <;> simp

@[simp] theorem ladderEnds_form {out : Stream → Drive → Drive} (hf : ∀ s d, (out s d).form = d.form) (s) (d : Drive) :
    (ladderEnds s out d).form = d.form := by
  unfold ladderEnds
  refine foldl_form (fun d x => ?_) ..
  simp [hf]

@[simp] theorem ladderOk_form (s) (d : Drive) : (ladderOk s d).form = d.form := by
  unfold ladderOk
  simp

@[simp] theorem endAuthFail_form (s) (d : Drive) : (endAuthFail s d).form = d.form := by
  unfold endAuthFail
  split <;> simp

@[simp] theorem Drive.markCurrent_form (s) (d : Drive) : (Drive.markCurrent s d).form = d.form := by
  unfold Drive.markCurrent
  dsimp only
  split <;> simp

@[simp] theorem ladderFail_form (s) (d : Drive) : (ladderFail s d).form = d.form := by
  unfold ladderFail
  rw [ladderEnds_form (fun s d => endAuthFail_form s d)]
  simp

@[simp] theorem ladderFetch_form (s) (d : Drive) : (ladderFetch s d).form = d.form := by
  unfold ladderFetch
  simp

@[simp] theorem ladderNext_form (s) (d : Drive) : (ladderNext s d).form = d.form := by
  unfold ladderNext
  split <;> simp

@[simp] theorem pageDone_form (o) (good) (recon) (verified) (d : Drive) : (pageDone o good recon verified d).form = d.form := by
  unfold pageDone
  split <;> simp

@[simp] theorem rebuildDone_form (j) (verified) (d : Drive) : (rebuildDone j verified d).form = d.form := by
  unfold rebuildDone
  split <;> simp

@[simp] theorem sourceDone_form (s) (bad) (verified) (d : Drive) : (sourceDone s bad verified d).form = d.form := by
  unfold sourceDone
  split <;> simp

@[simp] theorem arrayReadComplete_form (o) (chunk) (gran) (src) (cws) (verified) (d : Drive) :
    (arrayReadComplete o chunk gran src cws verified d).form = d.form := by
  unfold arrayReadComplete
  split <;> simp

@[simp] theorem chunkData_form (opId) (body) (verifies) (d : Drive) : (chunkData opId body verifies d).form = d.form := by
  unfold chunkData
  refine Drive.fromTwin_form (fun d => ?_) ..
  dsimp only
  split <;> simp

@[simp] theorem chunkFetchTimeout_form (opId) (d : Drive) : (chunkFetchTimeout opId d).form = d.form := by
  unfold chunkFetchTimeout
  split <;> simp

@[simp] theorem loseDie_form (l) (d : Drive) : (loseDie l d).form = d.form := by
  induction l generalizing d with
  | nil => rfl
  | cons x l ih => simp [loseDie, ih]

@[simp] theorem Drive.snapshot_form (d : Drive) : (Drive.snapshot d).form = d.form := by
  unfold Drive.snapshot
  simp

@[simp] theorem sendAcks_form (l) (d : Drive) : (sendAcks l d).form = d.form := by
  induction l generalizing d with
  | nil => rfl
  | cons x l ih => simp [sendAcks, ih]

@[simp] theorem Drive.openRoot_form (n) (d : Drive) : (Drive.openRoot n d).form = d.form := by
  unfold Drive.openRoot
  simp

@[simp] theorem Drive.writeRoot_form (clean) (d : Drive) : (Drive.writeRoot clean d).form = d.form := by
  unfold Drive.writeRoot
  simp

@[simp] theorem growMaps_form (n) (d : Drive) : (growMaps n d).form = d.form := by
  induction n generalizing d with
  | zero => rfl
  | succ n ih =>
    rw [growMaps]
    split
    · rfl
    split
    · rfl
    · rename_i h
      simp [ih, Drive.openSb_form h]

@[simp] theorem dropMaps_form (n) (d : Drive) : (dropMaps n d).form = d.form := by
  induction n generalizing d with
  | zero => rfl
  | succ n ih =>
    rw [dropMaps]
    split
    · rfl
    split
    · rfl
    · simp [ih]

@[simp] theorem Drive.writeMaps_form (d : Drive) : (Drive.writeMaps d).form = d.form := by
  unfold Drive.writeMaps
  simp

@[simp] theorem checkpoint_form (d : Drive) : (checkpoint d).form = d.form := by
  unfold checkpoint
  simp

@[simp] theorem Drive.holdup_form (mj) (temp) (first) (d : Drive) : (Drive.holdup mj temp first d).form = d.form := by
  unfold Drive.holdup
  simp

@[simp] theorem holdupMeasure_form (mj) (temp) (d : Drive) : (holdupMeasure mj temp d).form = d.form := by
  unfold holdupMeasure
  simp

@[simp] theorem Drive.police_form (n) (len) (d : Drive) : (Drive.police n len d).2.form = d.form := by
  unfold Drive.police
  simp

@[simp] theorem Drive.privetCopy_form (f) (c) (d : Drive) : (Drive.privetCopy f c d).form = d.form := by
  unfold Drive.privetCopy
  simp

@[simp] theorem Drive.applyAction_form (f) (cls) (idx) (a) (c) (d : Drive) : (Drive.applyAction f cls idx a c d).2.form = d.form := by
  unfold Drive.applyAction
  simp

@[simp] theorem Drive.classify_form (f) (d : Drive) : (Drive.classify f d).2.form = d.form := by
  unfold Drive.classify
  dsimp only
  split <;> simp

@[simp] theorem Drive.modPchan_form (ch) (f) (d : Drive) : (Drive.modPchan ch f d).form = d.form := by
  unfold Drive.modPchan
  simp

@[simp] theorem Drive.setPentry_form (sel) (e) (d : Drive) : (Drive.setPentry sel e d).form = d.form := by
  unfold Drive.setPentry
  dsimp only
  simp

@[simp] theorem Drive.tableChanged_form (cmd) (sel) (ch) (d : Drive) : (Drive.tableChanged cmd sel ch d).form = d.form := by
  unfold Drive.tableChanged
  simp

@[simp] theorem entryRead_form (ch) (d : Drive) : (entryRead ch d).dev.form = d.form := by
  unfold entryRead
  dsimp only
  repeat' split
  all_goals simp

@[simp] theorem entryWrite_form (ch) (d : Drive) : (entryWrite ch d).dev.form = d.form := by
  unfold entryWrite
  dsimp only
  split
  · simp
  split <;> simp

@[simp] theorem entryInvalidate_form (ch) (d : Drive) : (entryInvalidate ch d).dev.form = d.form := by
  unfold entryInvalidate
  dsimp only
  repeat' split
  all_goals simp

@[simp] theorem entryMove_form (ch) (d : Drive) : (entryMove ch d).dev.form = d.form := by
  unfold entryMove
  dsimp only
  split
  · simp
  split <;> simp

@[simp] theorem Drive.setAction_form (i) (a) (d : Drive) : (Drive.setAction i a d).form = d.form := by
  unfold Drive.setAction
  simp

@[simp] theorem actionRead_form (ch) (d : Drive) : (actionRead ch d).dev.form = d.form := by
  unfold actionRead
  simp

@[simp] theorem actionWrite_form (ch) (d : Drive) : (actionWrite ch d).dev.form = d.form := by
  unfold actionWrite
  simp

@[simp] theorem bankWidthWrite_form (v) (d : Drive) : (bankWidthWrite v d).dev.form = d.form := by
  unfold bankWidthWrite
  split <;> simp

@[simp] theorem Drive.setDefault_form (port) (a) (d : Drive) : (Drive.setDefault port a d).form = d.form := by
  unfold Drive.setDefault
  simp

@[simp] theorem defaultActionWrite_form (port) (a) (d : Drive) : (defaultActionWrite port a d).dev.form = d.form := by
  unfold defaultActionWrite
  simp

@[simp] theorem Drive.probeFound_form (ch) (hit) (multiple) (tie) (d : Drive) : (Drive.probeFound ch hit multiple tie d).form = d.form := by
  unfold Drive.probeFound
  simp

@[simp] theorem probeFirst_form (ch) (d : Drive) : (probeFirst ch d).dev.form = d.form := by
  unfold probeFirst
  dsimp only
  split <;> simp

@[simp] theorem probeNext_form (ch) (d : Drive) : (probeNext ch d).dev.form = d.form := by
  unfold probeNext
  dsimp only
  split <;> simp

@[simp] theorem scrubEntries_form (l) (d : Drive) : (scrubEntries l d).form = d.form := by
  induction l generalizing d with
  | nil => rfl
  | cons x l ih => simp [scrubEntries, ih]

@[simp] theorem scrubActions_form (l) (d : Drive) : (scrubActions l d).form = d.form := by
  induction l generalizing d with
  | nil => rfl
  | cons x l ih => simp [scrubActions, ih]

@[simp] theorem scrubDefault_form (port) (d : Drive) : (scrubDefault port d).form = d.form := by
  unfold scrubDefault
  simp

@[simp] theorem loseEntries_form (l) (d : Drive) : (loseEntries l d).form = d.form := by
  induction l generalizing d with
  | nil => rfl
  | cons x l ih => simp [loseEntries, ih]

@[simp] theorem loseActions_form (l) (d : Drive) : (loseActions l d).form = d.form := by
  induction l generalizing d with
  | nil => rfl
  | cons x l ih => simp [loseActions, ih]

@[simp] theorem privetScrub_form (upsets) (actionUpsets) (lost) (lostActions) (d : Drive) :
    (privetScrub upsets actionUpsets lost lostActions d).form = d.form := by
  unfold privetScrub
  simp

@[simp] theorem Drive.negotiate_form (p) (d : Drive) : (Drive.negotiate p d).form = d.form := by
  unfold Drive.negotiate
  simp

@[simp] theorem pathsDown_form (p) (l) (d : Drive) : (pathsDown p l d).form = d.form := by
  induction l generalizing d with
  | nil => rfl
  | cons x l ih => simp [pathsDown, ih]

@[simp] theorem Drive.linkLost_form (p) (d : Drive) : (Drive.linkLost p d).form = d.form := by
  unfold Drive.linkLost
  simp

@[simp] theorem autonegComplete_form (p) (partner) (d : Drive) : (autonegComplete p partner d).form = d.form := by
  unfold autonegComplete
  simp
  split <;> simp

@[simp] theorem trainingComplete_form (p) (trained) (d : Drive) : (trainingComplete p trained d).form = d.form := by
  unfold trainingComplete
  simp
  split <;> simp

@[simp] theorem linkDown_form (p) (cause) (hiSer) (d : Drive) : (linkDown p cause hiSer d).form = d.form := by
  unfold linkDown
  simp
  split <;> simp

@[simp] theorem holdoffExpiry_form (p) (d : Drive) : (holdoffExpiry p d).form = d.form := by
  unfold holdoffExpiry
  simp

@[simp] theorem trainingFail_form (p) (trained) (d : Drive) : (trainingFail p trained d).form = d.form := by
  unfold trainingFail
  simp
  split <;> simp

@[simp] theorem Drive.retrain_form (p) (requester) (d : Drive) : (Drive.retrain p requester d).form = d.form := by
  unfold Drive.retrain
  simp

@[simp] theorem speedFallbackExpiry_form (p) (speed) (d : Drive) : (speedFallbackExpiry p speed d).form = d.form := by
  unfold speedFallbackExpiry
  split <;> simp

@[simp] theorem portCtl_form (ch) (p) (v) (d : Drive) : (portCtl ch p v d).dev.form = d.form := by
  unfold portCtl
  simp

@[simp] theorem portRetrain_form (ch) (p) (d : Drive) : (portRetrain ch p d).dev.form = d.form := by
  unfold portRetrain
  simp

@[simp] theorem portEnableWrite_form (ch) (p) (on) (d : Drive) : (portEnableWrite ch p on d).dev.form = d.form := by
  unfold portEnableWrite
  simp

@[simp] theorem Drive.modIface_form (p) (vid) (f) (d : Drive) : (Drive.modIface p vid f d).form = d.form := by
  unfold Drive.modIface
  simp

@[simp] theorem Drive.fwSend_form (p) (vid) (proto) (what) (cast) (args) (len) (d : Drive) :
    (Drive.fwSend p vid proto what cast args len d).form = d.form := by
  unfold Drive.fwSend
  simp

@[simp] theorem beginDetection_form (p) (vid) (v6) (a) (d : Drive) : (beginDetection p vid v6 a d).form = d.form := by
  unfold beginDetection
  simp

@[simp] theorem linkUp_form (p) (d : Drive) : (linkUp p d).form = d.form := by
  unfold linkUp
  simp

@[simp] theorem ifaceWrite_form (p) (vid) (n) (d : Drive) : (ifaceWrite p vid n d).form = d.form := by
  unfold ifaceWrite
  simp

@[simp] theorem addressClear_form (p) (vid) (v6) (a) (d : Drive) : (addressClear p vid v6 a d).form = d.form := by
  unfold addressClear
  simp

@[simp] theorem Drive.addressConflict_form (p) (vid) (v6) (a) (d : Drive) : (Drive.addressConflict p vid v6 a d).form = d.form := by
  unfold Drive.addressConflict
  simp

@[simp] theorem Drive.overflow_form (p) (ring) (mid) (d : Drive) : (Drive.overflow p ring mid d).form = d.form := by
  unfold Drive.overflow
  simp

@[simp] theorem Drive.toRing_form (p) (ring) (c) (d : Drive) : (Drive.toRing p ring c d).2.form = d.form := by
  unfold Drive.toRing
  simp

@[simp] theorem Drive.protoToken_form (p) (k) (d : Drive) : (Drive.protoToken p k d).2.form = d.form := by
  unfold Drive.protoToken
  simp

@[simp] theorem Drive.truncCaptured_form (f) (d : Drive) : (Drive.truncCaptured f d).form = d.form := by
  unfold Drive.truncCaptured
  simp

@[simp] theorem Drive.delivered_form (f) (ring) (d : Drive) : (Drive.delivered f ring d).form = d.form := by
  unfold Drive.delivered
  simp

@[simp] theorem Drive.unserved_form (p) (ring) (cls) (d : Drive) : (Drive.unserved p ring cls d).form = d.form := by
  unfold Drive.unserved
  simp

@[simp] theorem Drive.fecCount_form (p) (e) (d : Drive) : (Drive.fecCount p e d).form = d.form := by
  unfold Drive.fecCount
  simp

@[simp] theorem frameReceive_form (f) (d : Drive) : (frameReceive f d).form = d.form := by
  unfold frameReceive
  dsimp only
  repeat' split
  all_goals simp

@[simp] theorem arpFrame_form (f) (d : Drive) : (arpFrame f d).form = d.form := by
  unfold arpFrame
  simp

@[simp] theorem ndFrame_form (f) (d : Drive) : (ndFrame f d).form = d.form := by
  unfold ndFrame
  simp
  split <;> simp

@[simp] theorem icmpEcho_form (p) (vid) (v6) (source) (payload) (d : Drive) : (icmpEcho p vid v6 source payload d).form = d.form := by
  unfold icmpEcho
  simp

@[simp] theorem dhcpMessage_form (m) (d : Drive) : (dhcpMessage m d).form = d.form := by
  unfold dhcpMessage
  simp

@[simp] theorem dhcpLeaseLost_form (p) (vid) (v6) (d : Drive) : (dhcpLeaseLost p vid v6 d).form = d.form := by
  unfold dhcpLeaseLost
  split <;> simp

@[simp] theorem lldpFrame_form (p) (chassisKind) (portKind) (chassis) (portId) (d : Drive) :
    (lldpFrame p chassisKind portKind chassis portId d).form = d.form := by
  unfold lldpFrame
  simp

@[simp] theorem Drive.lldpSend_form (p) (d : Drive) : (Drive.lldpSend p d).form = d.form := by
  unfold Drive.lldpSend
  simp

@[simp] theorem lldpTransmit_form (d : Drive) : (lldpTransmit d).form = d.form := by
  unfold lldpTransmit
  simp

@[simp] theorem Drive.txStamp_form (p) (vid) (kind) (seq) (d : Drive) : (Drive.txStamp p vid kind seq d).form = d.form := by
  unfold Drive.txStamp
  simp

@[simp] theorem txtsRead_form (p) (d : Drive) : (txtsRead p d).form = d.form := by
  unfold txtsRead
  simp
  split <;> simp

@[simp] theorem statsModeWrite_form (p) (v) (d : Drive) : (statsModeWrite p v d).dev.form = d.form := by
  unfold statsModeWrite
  simp

@[simp] theorem Drive.withTrust_form {k : Drive → Drive} (hf : ∀ d, (k d).form = d.form) (d : Drive) : (d.withTrust k).form = d.form := by
  unfold Drive.withTrust
  dsimp only
  simp [hf]

@[simp] theorem Drive.stepWall_form (theta) (d : Drive) : (Drive.stepWall theta d).form = d.form := by
  unfold Drive.stepWall
  simp

@[simp] theorem Drive.slew_form (d : Drive) : (Drive.slew d).form = d.form := by
  unfold Drive.slew
  simp

@[simp] theorem Drive.measure_form (theta) (d : Drive) : (Drive.measure theta d).form = d.form := by
  unfold Drive.measure
  simp

@[simp] theorem Drive.follow_form (src) (d : Drive) : (Drive.follow src d).form = d.form := by
  unfold Drive.follow
  refine Drive.withTrust_form (fun d => ?_) ..
  simp

@[simp] theorem Drive.qualify_form (src) (d : Drive) : (Drive.qualify src d).form = d.form := by
  unfold Drive.qualify
  simp

@[simp] theorem Drive.enterHoldover_form (d : Drive) : (Drive.enterHoldover d).form = d.form := by
  unfold Drive.enterHoldover
  simp

@[simp] theorem Drive.loseSource_form (src) (d : Drive) : (Drive.loseSource src d).form = d.form := by
  unfold Drive.loseSource
  simp
  split <;> simp

@[simp] theorem Drive.settleHoldover_form (d : Drive) : (Drive.settleHoldover d).form = d.form := by
  unfold Drive.settleHoldover
  simp

@[simp] theorem Drive.reselect_form (d : Drive) : (Drive.reselect d).form = d.form := by
  unfold Drive.reselect
  split
  · split <;> simp
  split
  · rfl
  · split <;> simp

@[simp] theorem sourceLost_form (src) (d : Drive) : (sourceLost src d).form = d.form := by
  unfold sourceLost
  simp

@[simp] theorem sourceChange_form (src) (d : Drive) : (sourceChange src d).form = d.form := by
  unfold sourceChange
  split <;> simp

@[simp] theorem holdoverTrustLost_form (d : Drive) : (holdoverTrustLost d).form = d.form := by
  unfold holdoverTrustLost
  simp

@[simp] theorem wallSet_form (seconds) (ns) (d : Drive) : (wallSet seconds ns d).dev.form = d.form := by
  unfold wallSet
  simp

@[simp] theorem optimeReservation_form (d : Drive) : (optimeReservation d).form = d.form := by
  unfold optimeReservation
  simp

@[simp] theorem Drive.takeUtc_form (utc) (leap61) (leap59) (d : Drive) : (Drive.takeUtc utc leap61 leap59 d).form = d.form := by
  unfold Drive.takeUtc
  simp

@[simp] theorem Drive.todUtc_form (m) (d : Drive) : (Drive.todUtc m d).form = d.form := by
  unfold Drive.todUtc
  simp

@[simp] theorem todMessage_form (msg) (d : Drive) : (todMessage msg d).form = d.form := by
  unfold todMessage
  split <;> simp

@[simp] theorem ppsInEdge_form (opNs) (d : Drive) : (ppsInEdge opNs d).form = d.form := by
  unfold ppsInEdge
  obtain ⟨f, hf⟩ : ∃ f, Drive.advanceTo = f := ⟨_, rfl⟩
  have h := Drive.advanceTo_form opNs d
  rw [hf] at h ⊢
  extract_lets +onlyGivenNames d1 spaced agrees named src d2 d3 d4
  have h2 : d2.form = d.form := h
  have h3 : d3.form = d2.form := by
    dsimp only [d3]
    split
    · simp
    · rfl
  have h4 : d4.form = d3.form := by
    dsimp only [d4]
    split
    · simp
    · rfl
  clear_value d4 d3 d2 agrees spaced named
  split
  · rw [Drive.loseSource_form, h3, h2]
  · split
    · split
      · rw [Drive.measure_form, Drive.todUtc_form, h4, h3, h2]
      · rw [h4, h3, h2]
    · rw [h4, h3, h2]

@[simp] theorem ppsOutEdge_form (d : Drive) : (ppsOutEdge d).form = d.form := by
  unfold ppsOutEdge
  simp

@[simp] theorem leapSecond_form (d : Drive) : (leapSecond d).form = d.form := by
  unfold leapSecond
  simp

@[simp] theorem Drive.modPtp_form (p) (f) (d : Drive) : (Drive.modPtp p f d).form = d.form := by
  unfold Drive.modPtp
  simp

@[simp] theorem Drive.ptpSend_form (p) (vid) (kind) (seq) (args) (d : Drive) : (Drive.ptpSend p vid kind seq args d).form = d.form := by
  unfold Drive.ptpSend
  simp

@[simp] theorem ptpSendAll_form (p) (kind) (seq) (args) (l) (d : Drive) : (ptpSendAll p kind seq args l d).form = d.form := by
  induction l generalizing d with
  | nil => rfl
  | cons x l ih => simp [ptpSendAll, ih]

@[simp] theorem ptpMessage_form (m) (d : Drive) : (ptpMessage m d).form = d.form := by
  unfold ptpMessage
  dsimp only
  repeat' split
  all_goals simp

@[simp] theorem ptpIntervalTransmit_form (p) (kind) (d : Drive) : (ptpIntervalTransmit p kind d).form = d.form := by
  unfold ptpIntervalTransmit
  simp

@[simp] theorem Drive.closeEpisode_form (d : Drive) : (Drive.closeEpisode d).form = d.form := by
  unfold Drive.closeEpisode
  split
  · rfl
  dsimp only
  split
  · rfl
  · split
    · split <;> simp
    · simp

@[simp] theorem Drive.groupWritten_form (d : Drive) : (Drive.groupWritten d).form = d.form := by
  unfold Drive.groupWritten
  simp

@[simp] theorem logGroupWritten_form (d : Drive) : (logGroupWritten d).form = d.form := by
  unfold logGroupWritten
  simp

@[simp] theorem stagingFlush_form (d : Drive) : (stagingFlush d).form = d.form := by
  unfold stagingFlush
  split <;> simp

@[simp] theorem flushAll_form (n) (d : Drive) : (flushAll n d).form = d.form := by
  induction n generalizing d with
  | zero => rfl
  | succ n ih => simp [flushAll, ih]

@[simp] theorem logFreeze_form (o) (d : Drive) : (logFreeze o d).form = d.form := by
  unfold logFreeze
  refine Drive.withReq_form (fun r d => ?_) ..
  simp
  split <;> simp

@[simp] theorem Drive.thaw_form (cause) (d : Drive) : (Drive.thaw cause d).form = d.form := by
  unfold Drive.thaw
  simp

@[simp] theorem logThaw_form (o) (d : Drive) : (logThaw o d).form = d.form := by
  unfold logThaw
  refine Drive.withReq_form (fun r d => ?_) ..
  simp

@[simp] theorem logFreezeTimeout_form (d : Drive) : (logFreezeTimeout d).form = d.form := by
  unfold logFreezeTimeout
  simp

@[simp] theorem logCtl_form (v) (d : Drive) : (logCtl v d).dev.form = d.form := by
  unfold logCtl
  simp

@[simp] theorem Drive.setLogChan_form (ch) (x) (d : Drive) : (Drive.setLogChan ch x d).form = d.form := by
  unfold Drive.setLogChan
  simp

@[simp] theorem windowLoad_form (ch) (hi) (lo) (d : Drive) : (windowLoad ch hi lo d).dev.form = d.form := by
  unfold windowLoad
  simp

@[simp] theorem Drive.dropHeld_form (ch) (d : Drive) : (Drive.dropHeld ch d).form = d.form := by
  unfold Drive.dropHeld
  simp

@[simp] theorem logWindowLoad_form (ch) (hi) (d : Drive) : (logWindowLoad ch hi d).dev.form = d.form := by
  unfold logWindowLoad
  simp

@[simp] theorem eventEnableWrite_form (i) (v) (d : Drive) : (eventEnableWrite i v d).dev.form = d.form := by
  unfold eventEnableWrite
  simp

@[simp] theorem healthSave_form (d : Drive) : (healthSave d).form = d.form := by
  have hsaved : ∀ z : Drive, ({ ({ z with health.savedAt := z.now } : Drive) with
    healthSaved := ({ z with health.savedAt := z.now } : Drive).health } : Drive).form = z.form := fun _ => rfl
  exact (hsaved _).trans (Drive.advanceTo_form (d.health.savedAt + 600000000000) d)

@[simp] theorem tempBinMinute_form (d : Drive) : (tempBinMinute d).form = d.form := by
  unfold tempBinMinute
  simp

end Sys2Proof.Machine
end

-- Proofs of the flash array: what leaves the form of the tables as it is, in supplies, security, start-up, attributes, jobs and firmware.
section
namespace Sys2Proof.Machine
open Sys2Proof

@[simp] theorem Drive.approvedWatch_form (d : Drive) : (Drive.approvedWatch d).form = d.form := by
  unfold Drive.approvedWatch
  simp

@[simp] theorem Drive.stopClips_form (d : Drive) : (Drive.stopClips d).form = d.form := by
  unfold Drive.stopClips
  simp

@[simp] theorem Drive.tearSector_form (sector) (d : Drive) : (Drive.tearSector sector d).form = d.form := by
  unfold Drive.tearSector
  simp

@[simp] theorem Drive.tearWrites_form (d : Drive) : (Drive.tearWrites d).form = d.form := by
  unfold Drive.tearWrites
  simp

@[simp] theorem Drive.settleRecords_form (d : Drive) : (Drive.settleRecords d).form = d.form := by
  unfold Drive.settleRecords
  simp

@[simp] theorem Drive.keepBatches_form (d : Drive) : (Drive.keepBatches d).form = d.form := by
  unfold Drive.keepBatches
  simp

@[simp] theorem Drive.loseBatches_form (d : Drive) : (Drive.loseBatches d).form = d.form := by
  unfold Drive.loseBatches
  simp

@[simp] theorem Drive.quiesce_form (d : Drive) : (Drive.quiesce d).form = d.form := by
  unfold Drive.quiesce
  simp

@[simp] theorem Drive.sidebandOff_form (d : Drive) : (Drive.sidebandOff d).form = d.form := by
  unfold Drive.sidebandOff
  simp

@[simp] theorem Drive.islandsOff_form (d : Drive) : (Drive.islandsOff d).form = d.form := by
  unfold Drive.islandsOff
  simp

@[simp] theorem Drive.railsOff_form (d : Drive) : (Drive.railsOff d).form = d.form := by
  unfold Drive.railsOff
  simp

@[simp] theorem Drive.dropPower_form (d : Drive) : (Drive.dropPower d).form = d.form := by
  unfold Drive.dropPower
  simp

@[simp] theorem Drive.endMaint_form (cause) (d : Drive) : (Drive.endMaint cause d).form = d.form := by
  unfold Drive.endMaint
  simp

@[simp] theorem Drive.leaveRecord_form (d : Drive) : (Drive.leaveRecord d).form = d.form := by
  unfold Drive.leaveRecord
  simp

@[simp] theorem Drive.beginFlush_form (d : Drive) : (Drive.beginFlush d).form = d.form := by
  unfold Drive.beginFlush
  simp

@[simp] theorem Drive.openReserve_form (d : Drive) : (Drive.openReserve d).form = d.form := by
  unfold Drive.openReserve
  simp

@[simp] theorem Drive.resetReserve_form (d : Drive) : (Drive.resetReserve d).form = d.form := by
  unfold Drive.resetReserve
  simp

@[simp] theorem Drive.endFlush_form (d : Drive) : (Drive.endFlush d).form = d.form := by
  unfold Drive.endFlush
  simp

@[simp] theorem Drive.mainReset_form (d : Drive) : (Drive.mainReset d).form = d.form := by
  unfold Drive.mainReset
  simp

@[simp] theorem Drive.zeroiseNext_form (d : Drive) : (Drive.zeroiseNext d).form = d.form := by
  unfold Drive.zeroiseNext
  simp

@[simp] theorem Drive.zeroise_form (cause) (d : Drive) : (Drive.zeroise cause d).form = d.form := by
  unfold Drive.zeroise
  simp

@[simp] theorem zeroiseEraseComplete_form (d : Drive) : (zeroiseEraseComplete d).form = d.form := by
  unfold zeroiseEraseComplete
  simp

@[simp] theorem tamperLoopSample_form (isOpen) (d : Drive) : (tamperLoopSample isOpen d).form = d.form := by
  unfold tamperLoopSample
  simp

@[simp] theorem zeroizeWrite_form (ch) (v) (d : Drive) : (zeroizeWrite ch v d).dev.form = d.form := by
  unfold zeroizeWrite
  simp

@[simp] theorem zeroizeArmExpiry_form (d : Drive) : (zeroizeArmExpiry d).form = d.form := by
  unfold zeroizeArmExpiry
  split <;> simp

@[simp] theorem maintEnableWrite_form (v) (d : Drive) : (maintEnableWrite v d).dev.form = d.form := by
  unfold maintEnableWrite
  simp

@[simp] theorem maintFuseWrite_form (ch) (v) (d : Drive) : (maintFuseWrite ch v d).dev.form = d.form := by
  unfold maintFuseWrite
  simp

@[simp] theorem maintFuseArmExpiry_form (d : Drive) : (maintFuseArmExpiry d).form = d.form := by
  unfold maintFuseArmExpiry
  split <;> simp

@[simp] theorem Drive.newChallenge_form (d : Drive) : (Drive.newChallenge d).form = d.form := by
  unfold Drive.newChallenge
  simp

@[simp] theorem Drive.bootRecord_form (f) (d : Drive) : (Drive.bootRecord f d).form = d.form := by
  unfold Drive.bootRecord
  simp

@[simp] theorem maintToken_form (session) (services) (serial) (challenge) (duration) (keyOk) (signatureOk) (d : Drive) :
    (maintToken session services serial challenge duration keyOk signatureOk d).form = d.form := by
  unfold maintToken
  simp
  split <;> simp

@[simp] theorem maintExit_form (session) (d : Drive) : (maintExit session d).form = d.form := by
  unfold maintExit
  split <;> simp

@[simp] theorem maintDurationExpiry_form (d : Drive) : (maintDurationExpiry d).form = d.form := by
  unfold maintDurationExpiry
  split <;> simp

@[simp] theorem svnRaise_form (d : Drive) : (svnRaise d).form = d.form := by
  unfold svnRaise
  split <;> simp

@[simp] theorem Drive.endSpdm_form (session) (d : Drive) : (Drive.endSpdm session d).form = d.form := by
  unfold Drive.endSpdm
  dsimp only
  split <;> simp

@[simp] theorem endAllSpdm_form (l) (d : Drive) : (endAllSpdm l d).form = d.form := by
  induction l generalizing d with
  | nil => rfl
  | cons x l ih => simp [endAllSpdm, ih]

@[simp] theorem Drive.dropStale_form (d : Drive) : (Drive.dropStale d).form = d.form := by
  unfold Drive.dropStale
  simp

@[simp] theorem spdmSay_form (session) (code) (args) (d : Drive) : (spdmSay session code args d).form = d.form := by
  unfold spdmSay
  simp

@[simp] theorem spdmError_form (session) (code) (d : Drive) : (spdmError session code d).form = d.form := by
  unfold spdmError
  simp

@[simp] theorem Drive.negotiated_form {k : Drive → Drive} (hf : ∀ d, (k d).form = d.form) (s) (n) (d : Drive) :
    (d.negotiated s n k).form = d.form := by
  unfold Drive.negotiated
  simp [hf]

@[simp] theorem getVersion_form (d : Drive) : (getVersion d).form = d.form := by
  unfold getVersion
  simp

@[simp] theorem getCapabilities_form (ok) (d : Drive) : (getCapabilities ok d).form = d.form := by
  unfold getCapabilities
  refine Drive.negotiated_form (fun d => ?_) ..
  simp

@[simp] theorem negotiateAlgorithms_form (offered) (d : Drive) : (negotiateAlgorithms offered d).form = d.form := by
  unfold negotiateAlgorithms
  refine Drive.negotiated_form (fun d => ?_) ..
  simp

@[simp] theorem getDigests_form (session) (d : Drive) : (getDigests session d).form = d.form := by
  unfold getDigests
  refine Drive.negotiated_form (fun d => ?_) ..
  simp

@[simp] theorem getCertificate_form (session) (slot) (d : Drive) : (getCertificate session slot d).form = d.form := by
  unfold getCertificate
  refine Drive.negotiated_form (fun d => ?_) ..
  split <;> simp

@[simp] theorem challengeMsg_form (slot) (d : Drive) : (challengeMsg slot d).form = d.form := by
  unfold challengeMsg
  refine Drive.negotiated_form (fun d => ?_) ..
  simp

@[simp] theorem getMeasurements_form (session) (index) (d : Drive) : (getMeasurements session index d).form = d.form := by
  unfold getMeasurements
  refine Drive.negotiated_form (fun d => ?_) ..
  simp
  split <;> simp

@[simp] theorem keyExchange_form (d : Drive) : (keyExchange d).form = d.form := by
  unfold keyExchange
  refine Drive.negotiated_form (fun d => ?_) ..
  simp

@[simp] theorem finishMsg_form (session) (eid) (requester) (ok) (d : Drive) : (finishMsg session eid requester ok d).form = d.form := by
  unfold finishMsg
  split <;> simp

@[simp] theorem Drive.inSpdm_form {f : SpdmSession → Drive → Drive} (hf : ∀ s d, (f s d).form = d.form) (s) (d : Drive) :
    (d.inSpdm s f).form = d.form := by
  unfold Drive.inSpdm
  split
  · split <;> simp [hf]
  · simp

@[simp] theorem spdmHeartbeat_form (session) (d : Drive) : (spdmHeartbeat session d).form = d.form := by
  unfold spdmHeartbeat
  refine Drive.inSpdm_form (fun r d => ?_) ..
  simp

@[simp] theorem keyUpdate_form (session) (d : Drive) : (keyUpdate session d).form = d.form := by
  unfold keyUpdate
  refine Drive.inSpdm_form (fun r d => ?_) ..
  simp

@[simp] theorem endSessionMsg_form (session) (d : Drive) : (endSessionMsg session d).form = d.form := by
  unfold endSessionMsg
  refine Drive.inSpdm_form (fun r d => ?_) ..
  simp

@[simp] theorem getCsr_form (session) (d : Drive) : (getCsr session d).form = d.form := by
  unfold getCsr
  refine Drive.inSpdm_form (fun r d => ?_) ..
  simp

@[simp] theorem setCertificate_form (session) (slot) (sameKey) (chain) (d : Drive) :
    (setCertificate session slot sameKey chain d).form = d.form := by
  unfold setCertificate
  refine Drive.inSpdm_form (fun r d => ?_) ..
  simp

@[simp] theorem Drive.onPage_form {k : Drive → Drive} (hf : ∀ d, (k d).form = d.form) (s) (sb) (c) (i) (d : Drive) :
    (d.onPage s sb c i k).form = d.form := by
  unfold Drive.onPage
  simp [hf]

@[simp] theorem vendorFree_form (session) (d : Drive) : (vendorFree session d).form = d.form := by
  unfold vendorFree
  simp

@[simp] theorem Drive.rawRead_form (session) (sb) (channel) (index) (d : Drive) :
    (Drive.rawRead session sb channel index d).form = d.form := by
  unfold Drive.rawRead
  refine Drive.onPage_form (fun d => ?_) ..
  dsimp only
  split <;> simp

@[simp] theorem vendorDefined_form (session) (what) (d : Drive) : (vendorDefined session what d).form = d.form := by
  unfold vendorDefined
  refine Drive.negotiated_form (fun d => ?_) ..
  split <;> simp

@[simp] theorem Drive.defaultRead_form (d : Drive) : (Drive.defaultRead d).form = d.form := by
  unfold Drive.defaultRead
  simp

@[simp] theorem Drive.readArea_form (ok) (d : Drive) : (Drive.readArea ok d).2.form = d.form := by
  unfold Drive.readArea
  split <;> simp

@[simp] theorem xipRelease_form (d : Drive) : (xipRelease d).dev.form = d.form := by
  unfold xipRelease
  simp

@[simp] theorem tcmLoadComplete_form (d : Drive) : (tcmLoadComplete d).form = d.form := by
  unfold tcmLoadComplete
  simp

@[simp] theorem Drive.xipBack_form (d : Drive) : (Drive.xipBack d).dev.form = d.form := by
  unfold Drive.xipBack
  dsimp only
  split <;> simp

@[simp] theorem xipResume_form (ch) (d : Drive) : (xipResume ch d).2.dev.form = d.form := by
  unfold xipResume
  dsimp only
  split
  · simp
  split <;> simp

@[simp] theorem xipResumeCmd_form (ch) (d : Drive) : (xipResumeCmd ch d).form = d.form := by
  unfold xipResumeCmd
  have h := xipResume_form ch d.awaken
  rw [Drive.awaken_form] at h
  split <;> rename_i heq <;> rw [heq] at h <;> simpa using h

@[simp] theorem xipAutoResume_form (d : Drive) : (xipAutoResume d).form = d.form := by
  unfold xipAutoResume
  simp

@[simp] theorem Drive.countErase_form (sector) (d : Drive) : (Drive.countErase sector d).form = d.form := by
  unfold Drive.countErase
  simp

@[simp] theorem optfOperationComplete_form (d : Drive) : (optfOperationComplete d).form = d.form := by
  unfold optfOperationComplete
  split
  · rfl
  split
  · rfl
  generalize List.partition _ _ = parts
  obtain ⟨mine, others⟩ := parts
  extract_lets +onlyGivenNames src
  split
  rename_i mine others
  extract_lets +onlyGivenNames d1 d2
  have h2 : d2.form = d.form := by
    dsimp only [d2]
    split
    · rfl
    · simp [d1]
  clear_value d2
  extract_lets +onlyGivenNames src3 d3
  have h3 : d3.form = d2.form := by
    dsimp only [d3]
    split
    · rfl
    · simp
  clear_value d3
  extract_lets +onlyGivenNames src4 d4
  have h4 : d4.form = d3.form := by
    dsimp only [d4]
    split <;> rfl
  clear_value d4
  extract_lets +onlyGivenNames d5
  have h5 : d5.form = d4.form := by
    dsimp only [d5]
    split <;> simp
  clear_value d5
  extract_lets +onlyGivenNames src5 d6 d7
  have h7 : d7.form = d5.form := by
    have h6 : d6.form = d5.form := by
      dsimp only [d6]
      split <;> rfl
    exact (Drive.emitAll_form ..).trans h6
  clear_value d7
  extract_lets +onlyGivenNames d8
  have h8 : d8.form = d.form := by
    rw [← h2, ← h3, ← h4, ← h5, ← h7]
    dsimp only [d8]
    split
    · split
      · simp
      · split <;> simp
    · rfl
  clear_value d8
  rw [← h8]
  split
  · split
    · simp
    · rfl
  · rfl

@[simp] theorem supplyLow_form (mv) (d : Drive) : (supplyLow mv d).form = d.form := by
  unfold supplyLow
  simp

@[simp] theorem supplyHigh_form (mv) (d : Drive) : (supplyHigh mv d).form = d.form := by
  unfold supplyHigh
  simp

@[simp] theorem auxLost_form (d : Drive) : (auxLost d).form = d.form := by
  unfold auxLost
  simp

@[simp] theorem auxRestored_form (d : Drive) : (auxRestored d).form = d.form := by
  unfold auxRestored
  simp

@[simp] theorem mrst_form (d : Drive) : (mrst d).form = d.form := by
  unfold mrst
  simp

@[simp] theorem slotIdChange_form (straps) (d : Drive) : (slotIdChange straps d).form = d.form := by
  unfold slotIdChange
  simp

@[simp] theorem twinPrsntChange_form (present) (d : Drive) : (twinPrsntChange present d).form = d.form := by
  unfold twinPrsntChange
  simp

@[simp] theorem i3cAddress_form (a) (byEntdaa) (d : Drive) : (i3cAddress a byEntdaa d).form = d.form := by
  unfold i3cAddress
  simp

@[simp] theorem i3cReset_form (d : Drive) : (i3cReset d).form = d.form := by
  unfold i3cReset
  simp

@[simp] theorem locateExpiry_form (d : Drive) : (locateExpiry d).form = d.form := by
  unfold locateExpiry
  simp

@[simp] theorem Drive.fuseCheck_form (d : Drive) : (Drive.fuseCheck d).form = d.form := by
  unfold Drive.fuseCheck
  simp

@[simp] theorem idleDwell_form (st) (d : Drive) : (idleDwell st d).form = d.form := by
  unfold idleDwell
  simp

@[simp] theorem wakeComplete_form (d : Drive) : (wakeComplete d).form = d.form := by
  unfold wakeComplete
  split <;> simp

@[simp] theorem toleranceWindowExpiry_form (d : Drive) : (toleranceWindowExpiry d).form = d.form := by
  unfold toleranceWindowExpiry
  split <;> simp

@[simp] theorem lockedOut_form {w : Drive → Wr} (hf : ∀ d, (w d).dev.form = d.form) (ch) (d : Drive) : (lockedOut ch w d).dev.form = d.form := by
  unfold lockedOut
  split <;> simp [hf]

@[simp] theorem stateLimitWrite_form (ch) (v) (d : Drive) : (stateLimitWrite ch v d).dev.form = d.form := by
  unfold stateLimitWrite
  refine lockedOut_form (fun d => ?_) ..
  simp

@[simp] theorem Drive.applyLimits_form (d : Drive) : (Drive.applyLimits d).form = d.form := by
  unfold Drive.applyLimits
  simp

@[simp] theorem capWrite_form (ch) (v) (d : Drive) : (capWrite ch v d).dev.form = d.form := by
  unfold capWrite
  refine lockedOut_form (fun d => ?_) ..
  simp

@[simp] theorem governor1_form (mw) (d : Drive) : (governor1 mw d).form = d.form := by
  unfold governor1
  simp

@[simp] theorem governor100_form (mw) (d : Drive) : (governor100 mw d).form = d.form := by
  unfold governor100
  obtain ⟨f, hf⟩ : ∃ f, Drive.advanceTo = f := ⟨_, rfl⟩
  have h := Drive.advanceTo_form ((d.now / 100000000 + 1) * 100000000) d
  rw [hf] at h ⊢
  simp [h]

@[simp] theorem Drive.setStage_form (st) (sensor) (d : Drive) : (Drive.setStage st sensor d).form = d.form := by
  unfold Drive.setStage
  simp

@[simp] theorem Drive.sensorLost_form (s) (d : Drive) : (Drive.sensorLost s d).form = d.form := by
  unfold Drive.sensorLost
  simp

@[simp] theorem takeReadings_form (l) (d : Drive) : (takeReadings l d).form = d.form := by
  induction l generalizing d with
  | nil => rfl
  | cons x l ih => simp [takeReadings, ih]

@[simp] theorem thermalStageExit_form (d : Drive) : (thermalStageExit d).form = d.form := by
  unfold thermalStageExit
  dsimp only
  split <;> simp

@[simp] theorem thermalShutdownTimeout_form (d : Drive) : (thermalShutdownTimeout d).form = d.form := by
  unfold thermalShutdownTimeout
  split <;> simp

@[simp] theorem sensorFault_form (s) (d : Drive) : (sensorFault s d).form = d.form := by
  unfold sensorFault
  obtain ⟨f, hf⟩ : ∃ f, Drive.advanceTo = f := ⟨_, rfl⟩
  have h := Drive.advanceTo_form (tgetD s d.mod.startedAt d.therm.heardAt + 100000000) d
  rw [hf] at h ⊢
  split
  · rfl
  · simp [h]

@[simp] theorem Drive.modChan_form (ch) (f) (d : Drive) : (Drive.modChan ch f d).form = d.form := by
  unfold Drive.modChan
  simp

@[simp] theorem clearCounter_form (ch) (base) (d : Drive) : (clearCounter ch base d).form = d.form := by
  unfold clearCounter
  split <;> simp

@[simp] theorem latchAll_form (ch) (l) (d : Drive) : (latchAll ch l d).form = d.form := by
  induction l generalizing d with
  | nil => rfl
  | cons x l ih => simp [latchAll, ih]

@[simp] theorem readWord_form (ch) (addr) (d : Drive) : (readWord ch addr d).2.form = d.form := by
  unfold readWord
  dsimp only
  repeat' split
  all_goals simp

@[simp] theorem readWords_form (ch) (addr) (n) (d : Drive) : (readWords ch addr n d).2.form = d.form := by
  induction n generalizing addr d with
  | zero => rfl
  | succ n ih => simp [readWords, ih]

@[simp] theorem flagClear_form (v) (occur) (d : Drive) : (flagClear v occur d).form = d.form := by
  unfold flagClear
  simp

@[simp] theorem w1cWrite_form (addr) (v) (occur) (d : Drive) : (w1cWrite addr v occur d).dev.form = d.form := by
  unfold w1cWrite
  split <;> simp

@[simp] theorem Drive.portReset_form (p) (d : Drive) : (Drive.portReset p d).form = d.form := by
  unfold Drive.portReset
  simp

@[simp] theorem devReset_form (ch) (v) (d : Drive) : (devReset ch v d).dev.form = d.form := by
  unfold devReset
  refine lockedOut_form (fun d => ?_) ..
  simp
  split <;> simp

@[simp] theorem within_form {k : Drive → Drive} (hf : ∀ d, (k d).form = d.form) (lo) (hi) (v) (d : Drive) :
    (within lo hi v k d).dev.form = d.form := by
  unfold within
  split <;> simp [hf]

@[simp] theorem portSet_form (ch) (p) (off) (v) (d : Drive) : (portSet ch p off v d).dev.form = d.form := by
  unfold portSet
  split <;> simp

@[simp] theorem privetSet_form (ch) (base) (v) (d : Drive) : (privetSet ch base v d).dev.form = d.form := by
  unfold privetSet
  split <;> simp

@[simp] theorem Drive.modShaper_form (t) (f) (d : Drive) : (Drive.modShaper t f d).form = d.form := by
  unfold Drive.modShaper
  simp

@[simp] theorem xportSet_form (ch) (base) (v) (d : Drive) : (xportSet ch base v d).dev.form = d.form := by
  unfold xportSet
  split <;> simp

@[simp] theorem wordSet_form (ch) (addr) (v) (d : Drive) : (wordSet ch addr v d).dev.form = d.form := by
  unfold wordSet
  split <;> simp

@[simp] theorem relayOr_form {k : Drive → Drive} (hf : ∀ d, (k d).form = d.form) (r) (d : Drive) :
    (relayOr r k d).form = d.form := by
  unfold relayOr
  dsimp only
  simp [hf]

@[simp] theorem attrReadOp_form (r) (d : Drive) : (attrReadOp r d).form = d.form := by
  unfold attrReadOp
  simp

@[simp] theorem attrBulkOp_form (r) (d : Drive) : (attrBulkOp r d).form = d.form := by
  unfold attrBulkOp
  simp
  split <;> simp

@[simp] theorem attrRead_form (o) (d : Drive) : (attrRead o d).form = d.form := by
  unfold attrRead
  refine Drive.withReq_form (fun r d => ?_) ..
  simp

@[simp] theorem attrBulkRead_form (o) (d : Drive) : (attrBulkRead o d).form = d.form := by
  unfold attrBulkRead
  refine Drive.withReq_form (fun r d => ?_) ..
  simp

@[simp] theorem mgmtReply_form (src) (seq) (h) (body) (d : Drive) : (mgmtReply src seq h body d).form = d.form := by
  unfold mgmtReply
  rw [Drive.fromRing_form (fun d => ?_), Drive.awaken_form]
  split
  · simp
  · rfl

@[simp] theorem placeEntries_form (b) (n) (n') (l) (d : Drive) : (placeEntries b n n' l d).form = d.form := by
  induction l generalizing n' d with
  | nil => rfl
  | cons e l ih => simp [placeEntries, ih]

@[simp] theorem Drive.applyCutting_form (d : Drive) (c) : (Drive.applyCutting d c).form = d.form := by
  unfold Drive.applyCutting
  split <;> simp

@[simp] theorem Drive.wakeUp_form (u) (d : Drive) : (Drive.wakeUp u d).form = d.form := by
  unfold Drive.wakeUp
  simp

@[simp] theorem Drive.halt_form (test) (pair) (d : Drive) : (Drive.halt test pair d).form = d.form := by
  unfold Drive.halt
  simp

@[simp] theorem Drive.recoveryBoot_form (u) (cause) (d : Drive) : (Drive.recoveryBoot u cause d).form = d.form := by
  unfold Drive.recoveryBoot
  simp

theorem Drive.pickImages_form {u} {d z : Drive} (h : d.pickImages u = .inr z) : z.form = d.form := by
  unfold Drive.pickImages at h
  extract_lets +onlyGivenNames bt s at h
  clear_value s
  split at h
  · cases h
  split at h
  · cases h
  extract_lets +onlyGivenNames n opt at h
  split at h
  · cases h
  extract_lets +onlyGivenNames o fell d1 d2 d3 at h
  have h3 : d3.form = d.form := by
    have h1 : d1.form = d.form := by simp [d1]
    have h2 : d2.form = d1.form := by
      dsimp only [d2]
      split
      · simp
      · rfl
    rw [← h1, ← h2]
    dsimp only [d3]
    split
    · simp
    · rfl
  clear_value d3
  obtain rfl := Sum.inr.inj h
  rw [← h3]
  split
  · simp
  · rfl

@[simp] theorem failPairs_form (l) (d : Drive) : (failPairs l d).form = d.form := by
  induction l generalizing d with
  | nil => rfl
  | cons x l ih => simp [failPairs, ih]

@[simp] theorem Drive.selfTests_form (u) (d : Drive) : (Drive.selfTests u d).form = d.form := by
  unfold Drive.selfTests
  split <;> simp

@[simp] theorem Drive.loseVault_form (id) (d : Drive) : (Drive.loseVault id d).form = d.form := by
  unfold Drive.loseVault
  split <;> simp

@[simp] theorem loadVault_form (u) (l) (d : Drive) : (loadVault u l d).form = d.form := by
  induction l generalizing d with
  | nil => rfl
  | cons id l ih =>
    rw [loadVault, ih]
    split
    · split <;> split <;> simp
    · split <;> simp

@[simp] theorem Drive.beginFirst_form (d : Drive) : (Drive.beginFirst d).form = d.form := by
  unfold Drive.beginFirst
  simp

@[simp] theorem Drive.recount_form (d : Drive) : (Drive.recount d).form = d.form := by
  unfold Drive.recount
  simp

@[simp] theorem skipNonces_form (last) (l) (d : Drive) : (skipNonces last l d).form = d.form := by
  induction l generalizing d with
  | nil => rfl
  | cons i l ih =>
    rw [skipNonces, ih]
    split <;> simp

@[simp] theorem Drive.rebuild_form (u) (d : Drive) : (Drive.rebuild u d).form = d.form := by
  unfold Drive.rebuild
  dsimp only
  rw [Drive.writeRoot_form, skipNonces_form, Drive.recount_form]
  split <;> simp

@[simp] theorem Drive.resumeTick_form (lost) (d : Drive) : (Drive.resumeTick lost d).form = d.form := by
  unfold Drive.resumeTick
  simp

@[simp] theorem Drive.openLog_form (lost) (d : Drive) : (Drive.openLog lost d).form = d.form := by
  unfold Drive.openLog
  simp

@[simp] theorem endAtRestart_form (l) (d : Drive) : (endAtRestart l d).form = d.form := by
  induction l generalizing d with
  | nil => rfl
  | cons x l ih => simp [endAtRestart, ih]

@[simp] theorem Drive.beginJoin_form (d : Drive) : (Drive.beginJoin d).form = d.form := by
  unfold Drive.beginJoin
  simp

@[simp] theorem Drive.revokeCodeKey_form (index) (signedUnder) (d : Drive) : (Drive.revokeCodeKey index signedUnder d).form = d.form := by
  unfold Drive.revokeCodeKey
  simp

@[simp] theorem Drive.imageReady_form (i) (d : Drive) : (Drive.imageReady i d).form = d.form := by
  unfold Drive.imageReady
  extract_lets +onlyGivenNames d0 src d1
  have h1 : d1.form = d.form := by
    dsimp only [d1]
    split
    · rfl
    · refine (Drive.form_of_eq rfl rfl rfl).trans (foldl_form (fun d c => ?_) i.cuttings d)
      split <;> simp
  clear_value d1
  rw [← h1]
  split
  · simp
  · rfl

@[simp] theorem deviceReady_form (d : Drive) : (deviceReady d).form = d.form := by
  unfold deviceReady
  simp
  split <;> simp

@[simp] theorem Drive.startFails_form (d : Drive) : (Drive.startFails d).form = d.form := by
  unfold Drive.startFails
  simp

@[simp] theorem startTimeout_form (d : Drive) : (startTimeout d).form = d.form := by
  unfold startTimeout
  simp

@[simp] theorem Drive.jobConflict_form (r) (code) (j) (d : Drive) : (Drive.jobConflict r code j d).form = d.form := by
  unfold Drive.jobConflict
  simp

@[simp] theorem jobOp_form {f : Req → Job → Drive → Drive} (hf : ∀ r j d, (f r j d).form = d.form) (op) (o) (d : Drive) :
    (jobOp op o f d).form = d.form := by
  unfold jobOp
  refine Drive.withReq_form (fun r d => ?_) ..
  dsimp only
  split
  · simp
  split <;> simp [hf]

@[simp] theorem Drive.jobReply_form (r) (j) (d : Drive) : (Drive.jobReply r j d).form = d.form := by
  unfold Drive.jobReply
  simp

@[simp] theorem Drive.suspended_form (j) (d : Drive) : (Drive.suspended j d).form = d.form := by
  unfold Drive.suspended
  simp

@[simp] theorem jobSuspend_form (o) (d : Drive) : (jobSuspend o d).form = d.form := by
  unfold jobSuspend
  refine jobOp_form (fun r x d => ?_) ..
  simp

@[simp] theorem jobResume_form (o) (d : Drive) : (jobResume o d).form = d.form := by
  unfold jobResume
  refine jobOp_form (fun r x d => ?_) ..
  simp

@[simp] theorem jobCancel_form (o) (d : Drive) : (jobCancel o d).form = d.form := by
  unfold jobCancel
  refine jobOp_form (fun r x d => ?_) ..
  simp

@[simp] theorem jobStatus_form (o) (d : Drive) : (jobStatus o d).form = d.form := by
  unfold jobStatus
  refine Drive.withReq_form (fun r d => ?_) ..
  simp
  split <;> simp

@[simp] theorem jobSuspendedLong_form (id) (d : Drive) : (jobSuspendedLong id d).form = d.form := by
  unfold jobSuspendedLong
  split <;> simp

@[simp] theorem Drive.sendMigrateCtl_form (dest) (ns) (job) (c) (d : Drive) : (Drive.sendMigrateCtl dest ns job c d).form = d.form := by
  unfold Drive.sendMigrateCtl
  simp

@[simp] theorem Drive.putMigration_form (m) (d : Drive) : (Drive.putMigration m d).form = d.form := by
  unfold Drive.putMigration
  simp

@[simp] theorem Drive.dropMigration_form (m) (d : Drive) : (Drive.dropMigration m d).form = d.form := by
  unfold Drive.dropMigration
  simp

@[simp] theorem Drive.sendRecord_form (m) (r) (d : Drive) : (Drive.sendRecord m r d).form = d.form := by
  unfold Drive.sendRecord
  simp

@[simp] theorem Drive.deletePair_form (ns) (d : Drive) : (Drive.deletePair ns d).form = d.form := by
  unfold Drive.deletePair
  simp

@[simp] theorem migrateStep_form (j) (d : Drive) : (migrateStep j d).2.2.form = d.form := by
  unfold migrateStep
  dsimp only
  repeat' split
  all_goals simp

@[simp] theorem migrateCancel_form (j) (d : Drive) : (migrateCancel j d).form = d.form := by
  unfold migrateCancel
  split <;> simp

@[simp] theorem Drive.endMigration_form (m) (d : Drive) : (Drive.endMigration m d).form = d.form := by
  unfold Drive.endMigration
  simp
  split <;> simp

@[simp] theorem migrateStart_form (src) (ns) (job) (owner) (quota) (solo) (soloWrites) (serial) (younger) (d : Drive) :
    (migrateStart src ns job owner quota solo soloWrites serial younger d).form = d.form := by
  unfold migrateStart
  simp
  split <;> simp

@[simp] theorem migrateCtl_form (src) (seq) (ns) (job) (c) (d : Drive) : (migrateCtl src seq ns job c d).form = d.form := by
  unfold migrateCtl
  refine Drive.fromRing_form (fun d => ?_) ..
  dsimp only
  repeat' split
  all_goals simp

@[simp] theorem clipStep_form (j) (x) (d : Drive) : (clipStep j x d).2.2.form = d.form := by
  unfold clipStep
  extract_lets +onlyGivenNames clip next
  have hclip : ∀ n, (clip n d).2.2.form = d.form := fun n => Drive.beginClip_form ..
  have hnext : (next d).2.2.form = d.form := by
    dsimp only [next]
    split
    · split
      · exact hclip _
      · rfl
    split
    · rfl
    split
    · exact hclip _
    · rfl
  clear_value next
  split
  · simp [hnext]
  · exact hnext

@[simp] theorem clipCancel_form (j) (d : Drive) : (clipCancel j d).form = d.form := by
  unfold clipCancel
  split <;> simp

@[simp] theorem patrolStep_form (j) (x) (d : Drive) : (patrolStep j x d).2.2.form = d.form := by
  unfold patrolStep
  dsimp only
  split <;> simp

@[simp] theorem sanitizeStep_form (j) (x) (d : Drive) : (sanitizeStep j x d).2.2.form = d.form := by
  unfold sanitizeStep
  dsimp only
  split
  · split <;> simp
  split
  · rfl
  split
  · rfl
  split <;> simp

@[simp] theorem Drive.mirrorOwn_form (r) (d : Drive) : (Drive.mirrorOwn r d).form = d.form := by
  unfold Drive.mirrorOwn
  simp

@[simp] theorem rekeyStep_form (j) (x) (d : Drive) : (rekeyStep j x d).2.2.form = d.form := by
  unfold rekeyStep
  dsimp only
  split
  · rfl
  split
  · rfl
  split
  · rfl
  split
  · rfl
  split
  · split
    · rfl
    · rename_i h
      refine (Drive.mirrorOwn_form ..).trans (Eq.trans ?_ (Drive.drawNonce_form h))
      refine (TableForm.mk.injEq ..).mpr ⟨rfl, rfl, numbered_map (fun q => ?_) _ _⟩
      split <;> rfl
  · split
    · simp
    split
    · rfl
    · rename_i ha
      split
      · rfl
      · rename_i h
        simp [Drive.drawNonce_form h, Drive.allocate_form ha]

@[simp] theorem retireStep_form (j) (d : Drive) : (retireStep j d).2.2.form = d.form := by
  unfold retireStep
  dsimp only
  split
  · simp
  split
  · rfl
  split
  · simp
  split
  · rfl
  · rename_i h
    simp [Drive.takeSubstitute_form h]

@[simp] theorem resyncStep_form (j) (d : Drive) : (resyncStep j d).2.2.form = d.form := by
  unfold resyncStep
  simp

@[simp] theorem resyncCancel_form (d : Drive) : (resyncCancel d).form = d.form := by
  unfold resyncCancel
  simp

@[simp] theorem kindCancel_form (j) (d : Drive) : (kindCancel j d).form = d.form := by
  unfold kindCancel
  split <;> simp

@[simp] theorem Drive.putImage_form (c) (slot) (i) (d : Drive) : (Drive.putImage c slot i d).form = d.form := by
  unfold Drive.putImage
  split <;> simp

@[simp] theorem Drive.writeImage_form (c) (off) (stop) (waiter) (h) (d : Drive) :
    (Drive.writeImage c off stop waiter h d).form = d.form := by
  unfold Drive.writeImage
  obtain ⟨-, bank, first⟩ := d.targetOf c
  exact foldl_form (fun d x => Drive.optfWrite_form x d) _ d

@[simp] theorem Drive.verifyDownload_form (c) (img) (d : Drive) : (Drive.verifyDownload c img d).dev.form = d.form := by
  unfold Drive.verifyDownload
  simp

@[simp] theorem Drive.chunk_form (ch) (c) (off) (len) (last) (img) (d : Drive) :
    (Drive.chunk ch c off len last img d).dev.form = d.form := by
  unfold Drive.chunk
  dsimp only
  split <;> simp

@[simp] theorem fwDownload_form (o) (img) (d : Drive) : (fwDownload o img d).form = d.form := by
  unfold fwDownload
  refine Drive.withReq_form (fun r d => ?_) ..
  dsimp only
  split
  · simp
  split <;> simp

@[simp] theorem downloadIdleTimeout_form (d : Drive) : (downloadIdleTimeout d).form = d.form := by
  unfold downloadIdleTimeout
  simp

@[simp] theorem Drive.selectSlot_form (slot) (d : Drive) : (Drive.selectSlot slot d).form = d.form := by
  unfold Drive.selectSlot
  simp

@[simp] theorem fwRollStep_form (ok) (d : Drive) : (fwRollStep ok d).form = d.form := by
  unfold fwRollStep
  dsimp only
  split
  · simp
  split <;> simp

@[simp] theorem fwRollFailed_form (cluster) (d : Drive) : (fwRollFailed cluster d).form = d.form := by
  unfold fwRollFailed
  split <;> simp

@[simp] theorem pldmSay_form (session) (kind) (ok) (args) (d : Drive) : (pldmSay session kind ok args d).form = d.form := by
  unfold pldmSay
  simp

@[simp] theorem areaUpdate_form (session) (off) (len) (last) (img) (d : Drive) :
    (areaUpdate session off len last img d).form = d.form := by
  unfold areaUpdate
  simp

@[simp] theorem pldmUpdate_form (session) (c) (off) (len) (last) (img) (d : Drive) :
    (pldmUpdate session c off len last img d).form = d.form := by
  unfold pldmUpdate
  dsimp only
  split
  · simp
  split
  · simp
  split <;> simp

@[simp] theorem opAnswer_form (session) (exchange) (h) (st) (d : Drive) : (opAnswer session exchange h st d).form = d.form := by
  unfold opAnswer
  simp

@[simp] theorem opMessage_form (session) (exchange) (h) (body) (d : Drive) : (opMessage session exchange h body d).form = d.form := by
  unfold opMessage
  simp
  split <;> simp

@[simp] theorem statusRead_form (session) (exchange) (h) (d : Drive) : (statusRead session exchange h d).form = d.form := by
  unfold statusRead
  simp

@[simp] theorem getSensorReading_form (session) (id) (d : Drive) : (getSensorReading session id d).form = d.form := by
  unfold getSensorReading
  simp
  split <;> simp

@[simp] theorem getStateSensorReadings_form (session) (id) (d : Drive) : (getStateSensorReadings session id d).form = d.form := by
  unfold getStateSensorReadings
  simp

@[simp] theorem mctpControl_form (command) (arg) (d : Drive) : (mctpControl command arg d).form = d.form := by
  unfold mctpControl
  split <;> simp

end Sys2Proof.Machine
end

-- Proofs of the flash array: the tables keep their form in records, batches and the twin.
section
namespace Sys2Proof.Machine
open Sys2Proof

/-! ## What has its form keeps it -/

/-- What of the tables has its form before has it after. -/
structure Upholds (a b : TableForm) : Prop where
  jobs : a.jobs → b.jobs
  sbs : a.sbs → b.sbs
  shelf : a.shelf → b.shelf

@[simp] theorem Upholds.refl (a : TableForm) : Upholds a a := ⟨id, id, id⟩

theorem Upholds.trans {a b c : TableForm} (h : Upholds a b) (k : Upholds b c) : Upholds a c :=
  ⟨fun hj => k.jobs (h.jobs hj), fun hs => k.sbs (h.sbs hs), fun hn => k.shelf (h.shelf hn)⟩

theorem Upholds.of_eq {a b : TableForm} (h : b = a) : Upholds a b := h ▸ .refl _

@[simp] theorem upholds_ite (b : TableForm) (c : Prop) [Decidable c] (x y : TableForm) :
    Upholds b (if c then x else y) ↔ if c then Upholds b x else Upholds b y := by
  split <;> rfl

theorem Upholds.ite {b : TableForm} {c : Prop} [Decidable c] {x y : Drive} (hx : Upholds b x.form) (hy : Upholds b y.form) :
    Upholds b (if c then x else y).form := by
  split
  · exact hx
  · exact hy

theorem oldestEnded_mem {l : List Job} {j : Job} (h : oldestEnded l = some j) : j ∈ l := by
  induction l generalizing j with
  | nil => cases h
  | cons x l ih =>
    rw [oldestEnded] at h
    split at h
    · split at h
      · cases h
      · exact Option.some.inj h ▸ List.mem_cons_self
    · rename_i k hk
      split at h
      · exact List.mem_cons_of_mem _ (Option.some.inj h ▸ ih hk)
      split at h
      · exact Option.some.inj h ▸ List.mem_cons_self
      · exact List.mem_cons_of_mem _ (Option.some.inj h ▸ ih hk)

@[simp] theorem Drive.withReq_upholds {b} {f : Req → Drive → Drive} (hf : ∀ r d, Upholds b d.form → Upholds b (f r d).form) (o)
    (ops) {d : Drive} (hb : Upholds b d.form) :
    Upholds b (d.withReq o ops f).form := by
  unfold Drive.withReq
  split
  · split
    · exact hf _ _ hb
    · exact hb
  · exact hb

theorem foldl_upholds {α : Type} {b} {f : Drive → α → Drive} (hf : ∀ d x, Upholds b d.form → Upholds b (f d x).form)
    (l : List α) {d : Drive} (hb : Upholds b d.form) : Upholds b (l.foldl f d).form := by
  induction l generalizing d with
  | nil => exact hb
  | cons x l ih => exact ih (hf d x hb)

theorem map_getD_upholds {α : Type} {b} {o : Option (α × Drive)} {d : Drive} (h : ∀ p, o = some p → Upholds b p.2.form)
    (hb : Upholds b d.form) : Upholds b ((o.map (·.2)).getD d).form := by
  cases o with
  | none => exact hb
  | some p => exact h p rfl

@[simp] theorem Drive.withPhase_upholds {b} {f : Req → Drive → Drive} (hf : ∀ r d, Upholds b d.form → Upholds b (f r d).form) (o)
    (ps) {d : Drive} (hb : Upholds b d.form) :
    Upholds b (d.withPhase o ps f).form := by
  unfold Drive.withPhase
  split
  · split
    · exact hf _ _ hb
    · exact hb
  · exact hb

@[simp] theorem Drive.fromRing_upholds {b} {k : Drive → Drive} (hf : ∀ d, Upholds b d.form → Upholds b (k d).form) (src) (seq) {d : Drive}
    (hb : Upholds b d.form) :
    Upholds b (d.fromRing src seq k).form := by
  unfold Drive.fromRing
  dsimp only
  split
  · simp [hb]
  · exact hf _ (by simp [hb])

/-- Room for one more job is found, or made, within the 256 entries (R828). -/
theorem Drive.jobRoom_length {own} {d e : Drive} (h : d.jobRoom own = some e) (hfits : Fits d.jobs.table) : e.jobs.table.length < 256 := by
  unfold Drive.jobRoom at h
  dsimp only at h
  split at h
  · rename_i hroom
    obtain rfl := Option.some.inj h
    simpa using (Bool.and_eq_true_iff.mp hroom).2
  split at h
  · rename_i j hj
    obtain rfl := Option.some.inj h
    have hmem : j ∈ d.jobs.table := by
      have := oldestEnded_mem hj
      split at this
      · exact List.mem_of_mem_filter this
      · exact this
    exact (List.length_filter_lt_length_iff_exists.mpr ⟨j, hmem, by simp⟩).trans_le hfits
  · cases h

theorem Drive.startJob_upholds {b j} {own} {d : Drive} {y} {z : Drive} (h : (Drive.startJob j own d) = some (y, z)) (hb : Upholds b d.form) :
    Upholds b z.form := by
  obtain ⟨e, he, heq⟩ := Option.map_eq_some_iff.mp h
  obtain ⟨-, rfl⟩ := Prod.mk.inj heq
  have hframe := Drive.jobRoom_frame own d he
  rw [Drive.dequeue_form, Drive.event_form, Drive.form_mk, hframe.media rfl, hframe.kv rfl]
  exact hb.trans ⟨fun hj => (List.length_append ..).trans_le (Drive.jobRoom_length he hj), id, id⟩

@[simp] theorem Drive.ownJob_upholds {b} (kind) (p0) {d : Drive} (hb : Upholds b d.form) : Upholds b (Drive.ownJob kind p0 d).form := by
  unfold Drive.ownJob
  split
  · exact Drive.startJob_upholds ‹_› hb
  · exact hb

@[simp] theorem Drive.shelve_upholds {b} (r) (mirrorOp) {d : Drive} (hb : Upholds b d.form) : Upholds b (Drive.shelve r mirrorOp d).2.form :=
  hb.trans ⟨id, id, fun h => numbered_tput.mpr ⟨Nat.lt_succ_self _, fun p hp => (h p hp).trans (Nat.lt_succ_self _)⟩⟩

/-- A record that is shelved anew under its number. -/
@[simp] theorem numbered_tput_shelve (r) (op) (x) (d : Drive) :
    Numbered (tput (Drive.shelve r op d).1 x (Drive.shelve r op d).2.kv.shelf) (Drive.shelve r op d).2.kv.shelfNext =
      Numbered (Drive.shelve r op d).2.kv.shelf (Drive.shelve r op d).2.kv.shelfNext :=
  numbered_tput_of_mem (mem_keys_tput.mpr (.inl rfl))

@[simp] theorem commitLocated_upholds {b} (r) (ns) (tenant) (g) {d : Drive} (hb : Upholds b d.form) :
    Upholds b (commitLocated r ns tenant g d).form := by
  unfold commitLocated
  split
  · simp [hb]
  split
  · exact hb
  split
  · exact hb
  · rename_i ha
    simp [Drive.allocate_form ha, hb]

@[simp] theorem putCommit_upholds {b} (o) {d : Drive} (hb : Upholds b d.form) : Upholds b (putCommit o d).form := by
  unfold putCommit
  refine Drive.withPhase_upholds (fun r d hb => ?_) _ _ hb
  extract_lets +onlyGivenNames tenant ns key g
  refine .ite (.ite (by simp [hb]) (.ite (by simp [hb]) hb)) (.ite hb (.ite (by simp [hb]) (.ite (by simp [hb]) (.ite (by simp [hb])
    (.ite (by simp [hb]) (.ite (by simp [hb]) (.ite (by simp [hb]) (.ite (by simp [hb]) (.ite (by simp [hb]) ?_)))))))))
  extract_lets +onlyGivenNames noted cur
  have hn : Upholds b noted.form := by
    dsimp only [noted]
    split <;> simp [hb]
  clear_value noted cur
  split
  · simp [hn]
  · have hroom := Drive.roomFor_form r.hdr.ns key g cur.isNone noted
    split <;> rename_i heq <;> rw [heq] at hroom <;> dsimp only at hroom
    · simp [hroom, hn]
    · refine .ite (by simp [hroom, hn]) (.ite (by simpa [hroom] using hn) ?_)
      simp [hroom, hn]

@[simp] theorem deleteRequest_upholds {b} (o) {d : Drive} (hb : Upholds b d.form) : Upholds b (deleteRequest o d).form := by
  unfold deleteRequest
  refine Drive.withReq_upholds (fun r d hb => ?_) _ _ hb
  dsimp only
  split
  · simp [hb]
  split
  · simp [hb]
  · split
    · exact hb
    · simp [hb]
  split
  · simp [hb]
  split
  · split <;> simp [hb]
  split
  · exact hb
  split
  · simp [hb]
  split
  · simp [hb]
  split
  · simp [hb]
  split
  · simp [hb]
  · rename_i hdraw
    have hkept := Drive.drawNonce_form hdraw
    simp_all

@[simp] theorem locChecked_upholds {b} {serve : Req → Token → Drive → Drive} (hf : ∀ r t d, Upholds b d.form → Upholds b (serve r t d).form)
    (o) (op) {d : Drive} (hb : Upholds b d.form) :
    Upholds b (locChecked o op serve d).form := by
  unfold locChecked
  refine Drive.withReq_upholds (fun r d hb => ?_) _ _ hb
  dsimp only
  split
  · simp [hb]
  · simp [hf, hb]

@[simp] theorem locDeleteRequest_upholds {b} (o) {d : Drive} (hb : Upholds b d.form) : Upholds b (locDeleteRequest o d).form := by
  unfold locDeleteRequest
  refine locChecked_upholds (fun r t d hb => ?_) _ _ hb
  dsimp only
  split
  · simp [hb]
  split
  · simp [hb]
  split
  · simp [hb]
  split
  · simp [hb]
  · rename_i hdraw
    simp [Drive.drawNonce_form hdraw, hb]

@[simp] theorem Drive.applyRec_upholds {b} (r) (pending) (mirrorOp) {d : Drive} (hb : Upholds b d.form) :
    Upholds b (Drive.applyRec r pending mirrorOp d).2.form := by
  unfold Drive.applyRec
  simp [hb]

@[simp] theorem applyAll_upholds {b} (pending) (mirrorOp) (l) {d : Drive} (hb : Upholds b d.form) :
    Upholds b (applyAll pending mirrorOp l d).form := by
  induction l generalizing d with
  | nil => exact hb
  | cons x l ih =>
    rw [applyAll]
    dsimp only
    refine ih ?_
    rw [Drive.modNs_form]
    exact Drive.applyRec_upholds _ _ _ hb

@[simp] theorem Drive.writeMember_upholds {b} (r) (tenant) (m) (i) (sl) {d : Drive} (hb : Upholds b d.form) :
    Upholds b (Drive.writeMember r tenant m i sl d).form := by
  unfold Drive.writeMember
  simp [hb]

@[simp] theorem batchRun_upholds {b} (o) (n) {d : Drive} (hb : Upholds b d.form) : Upholds b (batchRun o n d).form := by
  induction n generalizing d with
  | zero => exact hb
  | succ n ih =>
    rw [batchRun]
    split
    · exact hb
    dsimp only
    split
    · simp [hb]
    split
    · exact ih (by simp [hb])
    split
    · exact ih (by simp [hb])
    split
    · exact ih (by simp [hb])
    split
    · exact hb
    split
    · split
      · exact hb
      · exact ih (by simp [hb])
    split
    · exact ih (by simp [hb])
    split
    · exact ih (by simp [hb])
    split
    · exact ih (by simp [hb])
    split <;> rename_i hroom
    · exact ih (by simpa [if_room_form (Drive.roomFor_form ..) hroom] using hb)
    · have hkept := if_room_form (Drive.roomFor_form ..) hroom
      split
      · exact ih (by simpa [hkept] using hb)
      · rename_i hdraw
        exact ih (Drive.writeMember_upholds _ _ _ _ _ (by simpa [Drive.drawNonce_form hdraw, hkept] using hb))

@[simp] theorem batchRequest_upholds {b} (o) {d : Drive} (hb : Upholds b d.form) : Upholds b (batchRequest o d).form := by
  unfold batchRequest
  refine Drive.withReq_upholds (fun r d hb => ?_) _ _ hb
  split <;> simp [hb]

@[simp] theorem commitAtomic_upholds {b} (r) (tenant) (ms) {d : Drive} (hb : Upholds b d.form) : Upholds b (commitAtomic r tenant ms d).form := by
  unfold commitAtomic
  split
  · simp [hb]
  · rename_i h
    simp [drawSeals_form h, hb]

@[simp] theorem batchAtomicRequest_upholds {b} (o) {d : Drive} (hb : Upholds b d.form) : Upholds b (batchAtomicRequest o d).form := by
  unfold batchAtomicRequest
  refine Drive.withReq_upholds (fun r d hb => ?_) _ _ hb
  extract_lets +onlyGivenNames tenant
  split
  · simp [hb]
  extract_lets +onlyGivenNames ms
  split
  · simp [hb]
  extract_lets +onlyGivenNames away cross
  clear_value away cross
  split
  · exact hb
  split
  · simp [hb]
  split
  · exact hb
  split
  · simp [hb]
  split
  · simp [hb]
  split
  · exact hb
  split
  · simp [hb]
  split
  · exact hb
  split
  · exact hb
  split
  · simp [hb]
  have hroom := roomForAll_form ms d
  split <;> rename_i heq <;> rw [heq] at hroom <;> simp [hroom, hb]

@[simp] theorem deadlineMissed_upholds {b} (o) {d : Drive} (hb : Upholds b d.form) : Upholds b (deadlineMissed o d).form := by
  unfold deadlineMissed
  split <;> simp [hb]

@[simp] theorem Drive.fromTwin_upholds {b} {k : Drive → Drive} (hf : ∀ d, Upholds b d.form → Upholds b (k d).form) {d : Drive}
    (hb : Upholds b d.form) :
    Upholds b (d.fromTwin k).form := by
  unfold Drive.fromTwin
  split
  · exact hf _ (by simp [hb])
  · exact hb

@[simp] theorem Drive.fromTwinAwake_upholds {b} {k : Drive → Drive} (hf : ∀ d, Upholds b d.form → Upholds b (k d).form) {d : Drive}
    (hb : Upholds b d.form) :
    Upholds b (d.fromTwinAwake k).form := by
  unfold Drive.fromTwinAwake
  exact Drive.fromTwin_upholds hf (by simp [hb])

@[simp] theorem Drive.onceTwin_upholds {b} {k : Drive → Drive} (hf : ∀ d, Upholds b d.form → Upholds b (k d).form) (op) {d : Drive}
    (hb : Upholds b d.form) :
    Upholds b (d.onceTwin op k).form := by
  unfold Drive.onceTwin
  split <;> simp [hf, hb]

@[simp] theorem fwdWrite_upholds {b} (opId) (aux) (tag) (h) (body) {d : Drive} (hb : Upholds b d.form) :
    Upholds b (fwdWrite opId aux tag h body d).form := by
  unfold fwdWrite
  refine Drive.fromTwinAwake_upholds (fun d hb => Drive.onceTwin_upholds (fun d hb => ?_) _ hb) hb
  dsimp only
  split
  · simp [hb]
  · simp [hb]
  · simp [hb]
  · simp [hb]
  · split <;> simp [hb]

@[simp] theorem Drive.partDone_upholds {b} (o) (opId) (x) {d : Drive} (hb : Upholds b d.form) : Upholds b (Drive.partDone o opId x d).form := by
  unfold Drive.partDone
  split
  · exact hb
  split
  · exact hb
  have hput : ∀ r, Upholds b (d.putReq r).form := fun r => by simp [hb]
  dsimp only
  split
  · exact batchRun_upholds _ _ (hput _)
  · rw [Drive.settle_form]
    exact hput _

@[simp] theorem fwdReply_upholds {b} (opId) (h) (body) {d : Drive} (hb : Upholds b d.form) : Upholds b (fwdReply opId h body d).form := by
  unfold fwdReply
  refine Drive.fromTwinAwake_upholds (fun d hb => ?_) hb
  dsimp only
  repeat' split
  all_goals simp [hb]

@[simp] theorem Drive.installRec_upholds {b} (r) (mirrorOp) {d : Drive} (hb : Upholds b d.form) :
    Upholds b (Drive.installRec r mirrorOp d).form := by
  unfold Drive.installRec
  dsimp only
  have ht : Upholds b (d.raiseTick r.version).form := by simp [hb]
  generalize d.raiseTick r.version = d at ht ⊢
  have hn : Upholds b ((d.applyRec r false mirrorOp).2.modNs r.ns
      (fun n => { n with used := n.used - (d.applyRec r false mirrorOp).1 })).form := by simp [ht]
  exact .ite ht (.ite hn hn)

@[simp] theorem installAll_upholds {b} (mirrorOp) (l) {d : Drive} (hb : Upholds b d.form) : Upholds b (installAll mirrorOp l d).form := by
  induction l generalizing d with
  | nil => exact hb
  | cons x l ih => exact ih (Drive.installRec_upholds _ _ hb)

@[simp] theorem mirrorMsg_upholds {b} (opId) (flags) (version) (aux) (final) (bytes) (recs) {d : Drive} (hb : Upholds b d.form) :
    Upholds b (mirrorMsg opId flags version aux final bytes recs d).form := by
  unfold mirrorMsg
  refine Drive.fromTwinAwake_upholds (fun d hb => ?_) hb
  dsimp only
  repeat' split
  all_goals simp [hb]

@[simp] theorem mirrorAck_upholds {b} (opId) (programmed) {d : Drive} (hb : Upholds b d.form) :
    Upholds b (mirrorAck opId programmed d).form := by
  unfold mirrorAck
  refine Drive.fromTwinAwake_upholds (fun d hb => ?_) hb
  dsimp only
  repeat' split
  all_goals simp [hb]

@[simp] theorem Drive.installPrepared_upholds {b} (p) (v) {d : Drive} (hb : Upholds b d.form) :
    Upholds b (Drive.installPrepared p v d).form := by
  unfold Drive.installPrepared
  simp [hb]

@[simp] theorem commitMsg_upholds {b} (opId) (txn) (version) {d : Drive} (hb : Upholds b d.form) :
    Upholds b (commitMsg opId txn version d).form := by
  unfold commitMsg
  refine Drive.fromTwinAwake_upholds (fun d hb => ?_) hb
  split <;> simp [hb]

@[simp] theorem Drive.finishTxn_upholds {b} (r) {d : Drive} (hb : Upholds b d.form) : Upholds b (Drive.finishTxn r d).form := by
  unfold Drive.finishTxn
  simp [hb]

@[simp] theorem committedMsg_upholds {b} (txn) {d : Drive} (hb : Upholds b d.form) : Upholds b (committedMsg txn d).form := by
  unfold committedMsg
  refine Drive.fromTwinAwake_upholds (fun d hb => ?_) hb
  split <;> simp [hb]

@[simp] theorem endForwardedParts_upholds {b} (o) (l) {d : Drive} (hb : Upholds b d.form) : Upholds b (endForwardedParts o l d).form := by
  induction l generalizing d with
  | nil => exact hb
  | cons p ps ih =>
    rw [endForwardedParts]
    refine ih ?_
    split
    · exact Drive.partDone_upholds _ _ _ (by simp [hb])
    · exact hb

@[simp] theorem endForwardedReads_upholds {b} (l) {d : Drive} (hb : Upholds b d.form) : Upholds b (endForwardedReads l d).form := by
  induction l generalizing d with
  | nil => exact hb
  | cons r rs ih =>
    rw [endForwardedReads]
    refine ih (.ite (endForwardedParts_upholds _ _ hb) (.ite ?_ (.ite ?_ hb)))
    · simp [hb]
    · simp [hb]

@[simp] theorem Drive.twinLost_upholds {b} {d : Drive} (hb : Upholds b d.form) : Upholds b (Drive.twinLost d).form := by
  unfold Drive.twinLost
  simp [hb]

@[simp] theorem twinLinkDownTimeout_upholds {b} {d : Drive} (hb : Upholds b d.form) : Upholds b (twinLinkDownTimeout d).form := by
  unfold twinLinkDownTimeout
  simp [hb]

@[simp] theorem heartbeatSilence_upholds {b} {d : Drive} (hb : Upholds b d.form) : Upholds b (heartbeatSilence d).form := by
  unfold heartbeatSilence
  simp [hb]

@[simp] theorem Drive.batchAlone_upholds {b} (r) {d : Drive} (hb : Upholds b d.form) : Upholds b (Drive.batchAlone r d).form := by
  unfold Drive.batchAlone
  simp [hb]

@[simp] theorem rerunAlone_upholds {b} (rs) {d : Drive} (hb : Upholds b d.form) : Upholds b (rerunAlone rs d).form := by
  induction rs generalizing d with
  | nil => exact hb
  | cons r rs ih =>
    rw [rerunAlone]
    exact ih (by simp [hb])

@[simp] theorem Drive.aloneNow_upholds {b} {d : Drive} (hb : Upholds b d.form) : Upholds b (Drive.aloneNow d).form := by
  unfold Drive.aloneNow
  simp [hb]

@[simp] theorem Drive.becomeHolder_upholds {b} (epoch) {d : Drive} (hb : Upholds b d.form) : Upholds b (Drive.becomeHolder epoch d).form := by
  unfold Drive.becomeHolder
  simp [hb]

@[simp] theorem Drive.beginResync_upholds {b} {d : Drive} (hb : Upholds b d.form) : Upholds b (Drive.beginResync d).form := by
  unfold Drive.beginResync
  dsimp only
  split <;> simp [hb]

@[simp] theorem finishDecided_upholds {b} (l) {d : Drive} (hb : Upholds b d.form) : Upholds b (finishDecided l d).form := by
  induction l generalizing d with
  | nil => exact hb
  | cons x l ih =>
    rw [finishDecided]
    exact ih (by simp [hb])

@[simp] theorem helloMsg_upholds {b} (h) (lacks) {d : Drive} (hb : Upholds b d.form) : Upholds b (helloMsg h lacks d).form := by
  unfold helloMsg
  refine Drive.fromTwinAwake_upholds (fun d hb => ?_) hb
  simp [hb]

/-- Records that leave the shelf leave the others below the next number. -/
theorem numbered_filter {f : Nat × ShelfRec → Bool} {t : Tbl ShelfRec} {n : Nat} (h : Numbered t n) : Numbered (t.filter f) n :=
  fun p hp => h p (List.mem_of_mem_filter hp)

@[simp] theorem Drive.discardChange_upholds {b} {d : Drive} (c) (hb : Upholds b d.form) : Upholds b (Drive.discardChange d c).form := by
  unfold Drive.discardChange
  extract_lets +onlyGivenNames same dropped kv d1 older
  have hdropped : Upholds b dropped.form := by simpa [dropped] using hb
  have h1 : Upholds b d1.form := hdropped.trans ⟨id, id, numbered_filter⟩
  clear_value d1
  split
  · simp [h1]
  · exact h1

@[simp] theorem resyncData_upholds {b} (recs) (live) (tables) (counters) (aux) {d : Drive} (hb : Upholds b d.form) :
    Upholds b (resyncData recs live tables counters aux d).form := by
  unfold resyncData
  refine Drive.fromTwinAwake_upholds (fun d hb => .ite hb ?_) hb
  extract_lets +onlyGivenNames wins found lost d1 src d2 absent d3 d4
  have h1 : Upholds b d1.form := by
    dsimp only [d1]
    split
    · exact hb
    · rw [Drive.event_form]
      exact foldl_upholds (fun d c => Drive.discardChange_upholds c) _ hb
  have h2 : Upholds b d2.form := by
    dsimp only [d2]
    refine installAll_upholds _ _ ?_
    split <;> simp [h1]
  have h3 : Upholds b d3.form := by simp [d3, h2]
  have h4 : Upholds b d4.form := by
    dsimp only [d4]
    split
    · split <;> simp [h3]
    · exact h3
  clear_value d4
  simp [h4]

@[simp] theorem heartbeatSend_upholds {b} {d : Drive} (hb : Upholds b d.form) : Upholds b (heartbeatSend d).form := by
  unfold heartbeatSend
  simp [hb]

@[simp] theorem Drive.sanitiseHere_upholds {b} (n) {d : Drive} (hb : Upholds b d.form) : Upholds b (Drive.sanitiseHere n d).form :=
  map_getD_upholds (fun _ hp => Drive.startJob_upholds hp hb) hb

@[simp] theorem tableChangeMsg_upholds {b} (opId) (seq) (c) {d : Drive} (hb : Upholds b d.form) :
    Upholds b (tableChangeMsg opId seq c d).form := by
  unfold tableChangeMsg
  refine Drive.fromTwinAwake_upholds (fun d hb => ?_) hb
  split
  · simp [hb]
  · cases sanitised c d <;> simp [hb]

@[simp] theorem Drive.adopted_upholds {b} (a) {d : Drive} (hb : Upholds b d.form) : Upholds b (Drive.adopted a d).form := by
  unfold Drive.adopted
  simp [hb]

@[simp] theorem twinAdopt_upholds {b} (o) (items) {d : Drive} (hb : Upholds b d.form) : Upholds b (twinAdopt o items d).form := by
  unfold twinAdopt
  split <;> simp [hb]

@[simp] theorem twinRelease_upholds {b} (o) {d : Drive} (hb : Upholds b d.form) : Upholds b (twinRelease o d).form := by
  unfold twinRelease
  refine Drive.withReq_upholds (fun r d hb => ?_) _ _ hb
  simp [hb]

@[simp] theorem leaseGrant_upholds {b} (src) (seq) (epoch) {d : Drive} (hb : Upholds b d.form) :
    Upholds b (leaseGrant src seq epoch d).form := by
  unfold leaseGrant
  refine Drive.fromRing_upholds (fun d hb => ?_) _ _ hb
  split <;> simp [hb]

@[simp] theorem witnessCtl_upholds {b} (ch) (v) {d : Drive} (hb : Upholds b d.form) : Upholds b (witnessCtl ch v d).dev.form := by
  unfold witnessCtl
  simp [hb]

end Sys2Proof.Machine
end

-- Proofs of the flash array: the tables keep their form in media, start-up, attributes, jobs and firmware.
section
namespace Sys2Proof.Machine
open Sys2Proof

@[simp] theorem Drive.shelfDone_upholds {b} (idx) (sb) (gran) {d : Drive} (hb : Upholds b d.form) :
    Upholds b (Drive.shelfDone idx sb gran d).form := by
  unfold Drive.shelfDone
  split
  · exact hb
  extract_lets +onlyGivenNames r kv hlth d1 placed noted kv1 d2 d3
  have h1 : Upholds b d1.form := hb.trans ⟨id, id, numbered_filter⟩
  have hplaced : Upholds b placed.form := by simpa [placed] using h1
  have hnoted : Upholds b noted.form := by simpa [noted] using hplaced
  have h2 : Upholds b d2.form := .ite h1 (.ite hnoted hplaced)
  have h3 : Upholds b d3.form := by simpa [d3] using h2
  clear_value d3
  split
  · simp [h3]
  · exact h3

@[simp] theorem shelfAdmit_upholds {b} (o) {d : Drive} (hb : Upholds b d.form) : Upholds b (shelfAdmit o d).form := by
  unfold shelfAdmit
  split <;> simp [hb]

@[simp] theorem programDone_upholds {b} (job) (sb) (gran) {d : Drive} (hb : Upholds b d.form) : Upholds b (programDone job sb gran d).form := by
  unfold programDone
  split <;> simp [hb]

@[simp] theorem runVerified_upholds {b} (l) {d : Drive} (hb : Upholds b d.form) : Upholds b (runVerified l d).form := by
  induction l generalizing d with
  | nil => exact hb
  | cons x l ih =>
    rw [runVerified]
    split
    · exact ih (programDone_upholds _ _ _ hb)
    · exact hb

@[simp] theorem programComplete_upholds {b} (die) {d : Drive} (hb : Upholds b d.form) : Upholds b (programComplete die d).form := by
  unfold programComplete
  dsimp only
  split
  · exact hb
  split
  · exact hb
  split <;> simp [hb]

@[simp] theorem deltaDrain_upholds {b} {d : Drive} (hb : Upholds b d.form) : Upholds b (deltaDrain d).form := by
  unfold deltaDrain
  simp [hb]

@[simp] theorem drainShelf_upholds {b} (n) {d : Drive} (hb : Upholds b d.form) : Upholds b (drainShelf n d).form := by
  induction n generalizing d with
  | zero => exact hb
  | succ n ih =>
    rw [drainShelf]
    split
    · exact hb
    extract_lets +onlyGivenNames spot
    have hspot : ∀ p z, spot = some (p, z) → z.form = d.form := by
      intro p z hz
      dsimp only [spot] at hz
      split at hz
      · obtain ⟨-, rfl⟩ : _ ∧ d = z := by simpa using hz
        rfl
      · rcases orElse_some hz with hz | hz <;> exact Drive.allocate_form hz
    clear_value spot
    split
    · exact ih (Drive.shelfDone_upholds _ _ _ (hspot _ _ rfl ▸ hb))
    · exact hb

@[simp] theorem Drive.cleanShutdown_upholds {b} {d : Drive} (hb : Upholds b d.form) : Upholds b (Drive.cleanShutdown d).form := by
  unfold Drive.cleanShutdown
  simp [hb]

@[simp] theorem Drive.shutDown_upholds {b} {d : Drive} (hb : Upholds b d.form) : Upholds b (Drive.shutDown d).form := by
  unfold Drive.shutDown
  simp [hb]

@[simp] theorem Drive.enterError_upholds {b} (test) (pair) {d : Drive} (hb : Upholds b d.form) :
    Upholds b (Drive.enterError test pair d).form := by
  unfold Drive.enterError
  simp [hb]

@[simp] theorem pwrdisAssert_upholds {b} (how) {d : Drive} (hb : Upholds b d.form) : Upholds b (pwrdisAssert how d).form := by
  unfold pwrdisAssert
  dsimp only
  repeat' split
  all_goals simp [hb]

@[simp] theorem Drive.thermalProtect_upholds {b} (c) (sensor) (completes) {d : Drive} (hb : Upholds b d.form) :
    Upholds b (Drive.thermalProtect c sensor completes d).form := by
  unfold Drive.thermalProtect
  simp [hb]

@[simp] theorem tempSample_upholds {b} (readings) (completes) {d : Drive} (hb : Upholds b d.form) :
    Upholds b (tempSample readings completes d).form := by
  unfold tempSample
  simp [hb]

@[simp] theorem attrSet_upholds {b} (ch) (base) (v) (ws) {d : Drive} (hb : Upholds b d.form) : Upholds b (attrSet ch base v ws d).dev.form := by
  unfold attrSet
  split
  · simp [hb]
  · split <;> simp [hb]

@[simp] theorem writeWord_upholds {b} (ch) (addr) (v) {d : Drive} (hb : Upholds b d.form) : Upholds b (writeWord ch addr v d).dev.form := by
  unfold writeWord
  split
  · simp [hb]
  · dsimp only
    split
    · simp [hb]
    split
    · simp [hb]
    split
    · simp [hb]
    split
    · simp [hb]
    · simp [hb]

@[simp] theorem writeWords_upholds {b} (ch) (vs) {addr n} {d : Drive} (hb : Upholds b d.form) : Upholds b (writeWords ch addr vs n d).2.dev.form := by
  induction vs generalizing addr n d with
  | nil => exact hb
  | cons v vs ih =>
    rw [writeWords]
    split
    · exact writeWord_upholds _ _ _ hb
    · exact ih (writeWord_upholds _ _ _ hb)

@[simp] theorem attrWriteOp_upholds {b} (r) {d : Drive} (hb : Upholds b d.form) : Upholds b (attrWriteOp r d).form := by
  unfold attrWriteOp
  dsimp only
  split
  · simp [hb]
  split
  · simp [hb]
  split
  · simp [hb]
  split
  · simp [hb]
  · split <;> simp [hb]

@[simp] theorem tryWrites_upholds {b} (l) {d : Drive} (hb : Upholds b d.form) : Upholds b (tryWrites l d).2.form := by
  induction l generalizing d with
  | nil => exact hb
  | cons p l ih =>
    rw [tryWrites]
    split
    · exact hb
    · exact ih (writeWord_upholds _ _ _ hb)

@[simp] theorem Drive.applyImage_upholds {b} (i) {d : Drive} (hb : Upholds b d.form) : Upholds b (Drive.applyImage i d).form := by
  have hcuttings : ∀ (lo hi : Nat) (d : Drive), ((List.range (hi + 1 - lo)).foldl (fun (d : Drive) k =>
      (i.cuttings.filter (fun c => Cutting.rank c = lo + k)).foldl Drive.applyCutting d) d).form = d.form := fun lo hi d =>
    foldl_form (fun d k => foldl_form Drive.applyCutting_form _ d) _ d
  unfold Drive.applyImage
  refine tryWrites_upholds _ ?_
  rw [hcuttings, foldl_form (fun d k => placeEntries_form ..), hcuttings, hcuttings]
  exact hb

@[simp] theorem Drive.flushWasLost_upholds {b} {d : Drive} (hb : Upholds b d.form) : Upholds b (Drive.flushWasLost d).form := by
  unfold Drive.flushWasLost
  dsimp only
  rw [skipNonces_form, Drive.recount_form, Drive.event_form, Drive.loseBatches_form, Drive.form_mk, rising_map_snd]
  exact hb.trans ⟨id, id, fun _ p hp => nomatch hp⟩

@[simp] theorem Drive.restore_upholds {b} (u) {d : Drive} (hb : Upholds b d.form) : Upholds b (Drive.restore u d).form := by
  unfold Drive.restore
  extract_lets +onlyGivenNames m d1 unclean lost med m' hlth d2 d3 d4 d5 d6 d7 kv med' keys
  have h3 : d3.form = d.form := by
    have h2 : d2.form = d.form := by
      dsimp only [d2]
      split
      · rw [Drive.form_mk, rising_map_snd]
        rfl
      · rfl
    simpa [d3] using h2
  have h4 : Upholds b d4.form := by
    dsimp only [d4]
    split <;> simp [h3, hb]
  have h5 : Upholds b d5.form := by
    dsimp only [d5]
    split
    · exact Drive.flushWasLost_upholds h4
    · exact h4
  have h6 : Upholds b d6.form := by
    dsimp only [d6]
    split
    · exact h5
    · rwa [Drive.rebuild_form]
  have h7 : Upholds b d7.form := by simpa [d7] using h6
  extract_lets +onlyGivenNames d8 d9
  have h9 : Upholds b d9.form := by
    dsimp only [d9]
    split
    · rwa [Drive.meterLoss_form]
    · exact h7
  rwa [Drive.openLog_form, endAtRestart_form]

theorem Drive.startOn_upholds {b} (u) {d : Drive} (hb : Upholds b d.form) : Upholds b (Drive.startOn u d).form := by
  unfold Drive.startOn
  extract_lets +onlyGivenNames d1
  have h1 : Upholds b d1.form := by simpa [d1] using hb
  split
  · exact h1
  extract_lets +onlyGivenNames m d2
  have h2 : Upholds b d2.form := by
    dsimp only [d2]
    split
    · simpa using h1
    · exact h1
  clear_value d2
  have hdraw := Drive.draw_form d2
  split
  rename_i ring e heq
  rw [heq] at hdraw
  extract_lets +onlyGivenNames r keys d3 ids n keys' d4 d5 d6 d7
  have h4 : Upholds b d4.form := by
    dsimp only at hdraw
    simpa [d4, d3, hdraw] using h2
  clear_value d4
  have h5 : Upholds b d5.form := by
    dsimp only [d5]
    split
    · exact Drive.applyImage_upholds _ h4
    · exact h4
  have h7 : Upholds b d7.form := by
    rw [Drive.holdup_form, foldl_form fun d p => ?_]
    · exact h5
    · split
      · exact Drive.negotiate_form ..
      · rfl
  clear_value d7
  rw [Drive.beginJoin_form, Drive.ownSlots_form]
  refine Drive.restore_upholds u ?_
  rw [Drive.openInterval_form]
  exact h7

theorem startUp_upholds {b} (u) {d : Drive} (hb : Upholds b d.form) : Upholds b (startUp u d).form := by
  unfold startUp
  split
  · exact hb
  extract_lets +onlyGivenNames d1
  have h1 : Upholds b d1.form := by simpa [d1] using hb
  clear_value d1
  split
  · rwa [Drive.fuseCheck_form]
  · have hread := Drive.readArea_form u.areaOk d1
    split
    rename_i accepted e heq
    rw [heq] at hread
    extract_lets +onlyGivenNames d2 one
    have h2 : Upholds b d2.form := by
      dsimp only [d2]
      split <;> simpa [hread] using h1
    clear_value d2 one
    split
    · simpa using h2
    split
    · simpa using h2
    split
    · simpa using h2
    · rename_i hpick
      have hz : Upholds b _ := (Drive.pickImages_form hpick) ▸ h2
      split
      · exact hz
      · exact Drive.startOn_upholds u hz

theorem Drive.resumeStart_upholds {b} {d : Drive} (hb : Upholds b d.form) : Upholds b d.resumeStart.form := by
  unfold Drive.resumeStart
  split
  · split
    · exact Drive.startOn_upholds _ hb
    · exact hb
  · exact hb

theorem tempSampled_upholds {b} (readings completes) {d : Drive} (hb : Upholds b d.form) : Upholds b (tempSampled readings completes d).form :=
  Drive.resumeStart_upholds (tempSample_upholds _ _ hb)

@[simp] theorem jobStart_upholds {b} (kind) (o) {d : Drive} (hb : Upholds b d.form) : Upholds b (jobStart kind o d).form := by
  unfold jobStart
  refine Drive.withReq_upholds (fun r d hb => ?_) _ _ hb
  extract_lets +onlyGivenNames k keyed
  split
  · simp [hb]
  split
  · exact hb
  split
  · simp [hb]
  extract_lets +onlyGivenNames params
  clear_value params
  split
  · simp [hb]
  split
  · simp [hb]
  extract_lets +onlyGivenNames j
  split
  · simp [hb]
  split
  · simp [hb]
  split
  · simp [hb]
  split
  · simp [hb]
  split
  · simp [hb]
  split
  · simp [hb]
  · rename_i h
    simp [Drive.startJob_upholds h hb]

@[simp] theorem dieUnresponsive_upholds {b} (die) {d : Drive} (hb : Upholds b d.form) : Upholds b (dieUnresponsive die d).form := by
  unfold dieUnresponsive
  split
  · exact hb
  dsimp only
  split
  · simp [hb]
  split
  · rename_i h
    exact Drive.startJob_upholds h (by simp [hb])
  · simp [hb]

@[simp] theorem jobEntryExpiry_upholds {b} (id) {d : Drive} (hb : Upholds b d.form) : Upholds b (jobEntryExpiry id d).form := by
  unfold jobEntryExpiry
  dsimp only
  split
  · exact hb
  split
  · exact hb
  · rw [Drive.form_mk, Drive.advanceTo_jobs, Drive.advanceTo_media, Drive.advanceTo_kv]
    exact hb.trans ⟨fun h => (List.length_filter_le ..).trans h, fun hs => hs, fun hn => hn⟩

@[simp] theorem Drive.enterRec_upholds {b} (r) {d : Drive} (hb : Upholds b d.form) : Upholds b (Drive.enterRec r d).form := by
  unfold Drive.enterRec
  simp [hb]

@[simp] theorem Drive.bringIn_upholds {b} (ns) (x) {d : Drive} (hb : Upholds b d.form) : Upholds b (Drive.bringIn ns x d).2.form := by
  unfold Drive.bringIn
  extract_lets +onlyGivenNames n
  have hin : ∀ {st e}, (if x.deletion = true then (none, d) else
      d.roomFor ns x.key (recGranules x) ((d.find? ns x.key).isNone)) = (st, e) → Upholds b e.form := fun h => by
    split at h
    · obtain ⟨-, rfl⟩ := Prod.mk.inj h
      exact hb
    · have hroom := Drive.roomFor_form ns x.key (recGranules x) (d.find? ns x.key).isNone d
      rw [h] at hroom
      exact hroom ▸ hb
  split <;> rename_i heq
  · exact hin heq
  · split
    · exact hin heq
    · rename_i hdraw
      have := hin heq
      simp [Drive.drawNonce_form hdraw, this]

@[simp] theorem Drive.writeOwn_upholds {b} (ns) (key) (value) {d : Drive} (hb : Upholds b d.form) :
    Upholds b (Drive.writeOwn ns key value d).2.form := by
  unfold Drive.writeOwn
  dsimp only
  have hroom := Drive.roomFor_form ns key (granules key.length value.length) ((d.find? ns key).isNone) d
  split <;> rename_i heq <;> rw [heq] at hroom <;> dsimp only at hroom
  · simp [hroom, hb]
  split
  · simp [hroom, hb]
  · simp [hroom, hb]
  split
  · simp [hroom, hb]
  · rename_i hdraw
    simp [Drive.drawNonce_form hdraw, hroom, hb]

@[simp] theorem migrateRecs_upholds {b} (src) (ns) (job) (l) {d : Drive} (hb : Upholds b d.form) :
    Upholds b (migrateRecs src ns job l d).form := by
  induction l generalizing d with
  | nil => exact hb
  | cons r rs ih =>
    rw [migrateRecs]
    have hin := Drive.bringIn_upholds ns r hb
    split <;> rename_i heq <;> rw [heq] at hin
    · exact ih hin
    · simpa using hin

@[simp] theorem migrateData_upholds {b} (src) (seq) (ns) (job) (recs) {d : Drive} (hb : Upholds b d.form) :
    Upholds b (migrateData src seq ns job recs d).form := by
  unfold migrateData
  refine Drive.fromRing_upholds (fun d hb => ?_) _ _ hb
  split <;> simp [hb]

theorem exportStep_upholds {b} (j) (x) {d : Drive} (hb : Upholds b d.form) : Upholds b (exportStep j x d).2.2.form := by
  unfold exportStep
  split
  · exact hb
  split
  · exact hb
  extract_lets +onlyGivenNames live total j part
  have hpart : ∀ n, Upholds b (part n).2.2.form := fun n => by
    have hown := Drive.writeOwn_upholds j.p0 (partKey j.id j.parts) (sealPart (d.partSeal j.id) j.parts (j.pack.take n)) hb
    dsimp only [part]
    split <;> rename_i heq <;> rwa [heq] at hown
  clear_value part
  split
  · exact hpart _
  split
  · split
    · exact hb
    · exact hpart _
  dsimp only
  split
  · exact hb
  · split <;> exact hb

theorem importStep_upholds {b} (j) (x) {d : Drive} (hb : Upholds b d.form) : Upholds b (importStep j x d).2.2.form := by
  unfold importStep
  split
  · simp [hb]
  split
  · exact hb
  split
  · exact hb
  split
  · exact hb
  · rename_i r _ _
    have hin := Drive.bringIn_upholds j.ns { r with deletion := false } hb
    split <;> rename_i heq <;> rwa [heq] at hin

theorem selftestStep_upholds {b} (j) (x) {d : Drive} (hb : Upholds b d.form) : Upholds b (selftestStep j x d).2.2.form := by
  unfold selftestStep
  dsimp only
  split
  · split <;> simp [hb]
  split
  · split
    · simp [hb]
    · split <;> simp [hb]
  · simp [hb]

@[simp] theorem kindStep_upholds {b} (j) (x) {d : Drive} (hb : Upholds b d.form) : Upholds b (kindStep j x d).2.2.form := by
  unfold kindStep
  split
  · simp [hb]
  · simp [hb]
  · simp [hb]
  · simp [hb]
  · simp [hb]
  · simp [hb]
  · simp [hb]
  · exact exportStep_upholds j x hb
  · exact importStep_upholds j x hb
  · exact selftestStep_upholds j x hb
  · exact hb

@[simp] theorem jobStep_upholds {b} (id) (x) {d : Drive} (hb : Upholds b d.form) : Upholds b (jobStep id x d).form := by
  unfold jobStep
  split
  · exact hb
  · rename_i j _
    have hkind := kindStep_upholds j x hb
    split
    · simp [hb]
    split
    · split <;> rename_i heq <;> rw [heq] at hkind <;> dsimp only at hkind
      · simp [hkind]
      · split <;> simp [hkind]
    split
    · split <;> rename_i heq <;> rw [heq] at hkind <;> dsimp only at hkind
      · simp [hb]
      · simp [hkind]
    · exact hb

theorem Drive.startRoll_upholds {b} {starter} {both} {d : Drive} {y} {z : Drive} (h : (Drive.startRoll starter both d) = some (y, z))
    (hb : Upholds b d.form) : Upholds b z.form := by
  unfold Drive.startRoll at h
  obtain ⟨⟨id, w⟩, hw, heq⟩ := Option.map_eq_some_iff.mp h
  obtain ⟨-, rfl⟩ : _ ∧ _ = z := by simpa using heq
  have hz := Drive.startJob_upholds hw hb
  exact hz

@[simp] theorem twinAsksRoll_upholds {b} {d : Drive} (hb : Upholds b d.form) : Upholds b (twinAsksRoll d).form := by
  unfold twinAsksRoll
  split
  · exact hb
  split
  · exact hb
  · exact map_getD_upholds (fun p hp => Drive.startRoll_upholds hp hb) hb

theorem activate_upholds {b} {f : Req → Bool → Drive → Drive} (hf : ∀ r x d, Upholds b d.form → Upholds b (f r x d).form) (re) (o) (t) (g)
    {d : Drive} (hb : Upholds b d.form) : Upholds b (activate re o t g f d).form := by
  unfold activate
  refine Drive.withReq_upholds (fun r d hb => ?_) _ _ hb
  dsimp only
  split
  · exact hb
  split
  · simp [hb]
  split
  · simp [hb]
  split <;> simp [hf, hb]

@[simp] theorem fwActivate_upholds {b} (o) (twinDl) (twinDigest) {d : Drive} (hb : Upholds b d.form) :
    Upholds b (fwActivate o twinDl twinDigest d).form := by
  unfold fwActivate
  split
  · simp [hb]
  · refine activate_upholds (fun r both d hb => ?_) _ _ _ _ hb
    split
    · rename_i h
      simp [Drive.startRoll_upholds h hb]
    · simp [hb]

@[simp] theorem Drive.stopForStart_upholds {b} {d : Drive} (hb : Upholds b d.form) : Upholds b (Drive.stopForStart d).form := by
  unfold Drive.stopForStart
  simp [hb]

@[simp] theorem fwActivateRestart_upholds {b} (o) (twinDl) (twinDigest) {d : Drive} (hb : Upholds b d.form) :
    Upholds b (fwActivateRestart o twinDl twinDigest d).form := by
  unfold fwActivateRestart
  refine Drive.withReq_upholds (fun r d hb => ?_) _ _ hb
  dsimp only
  repeat' split
  all_goals simp [hb]

@[simp] theorem activateFirmware_upholds {b} (session) {d : Drive} (hb : Upholds b d.form) : Upholds b (activateFirmware session d).form := by
  unfold activateFirmware
  split
  · simp [hb]
  split
  · simp [hb]
  split
  · simp [hb]
  split
  · split
    · simp [hb]
    split
    · rename_i h
      simp [Drive.startRoll_upholds h hb]
    · simp [hb]
  · simp [hb]

end Sys2Proof.Machine
end

-- Proofs of the flash array: the tables keep their form over every step.
section
namespace Sys2Proof.Machine
open Sys2Proof

/-! ## One step -/

theorem next_upholds {s t : State} {z : Drive} (hk : Upholds s.dev.form z.form)
    (h : (.next { s with dev := z } : Host.Outcome State Fault Refusal) = .next t) : Upholds s.dev.form t.dev.form := by
  obtain rfl := Host.Outcome.next.inj h
  exact hk

section
variable {s t : State} {f : Drive → Drive}

theorem onMain_upholds (hf : Upholds s.dev.form (f s.dev).form) (h : s.onMain f = .next t) : Upholds s.dev.form t.dev.form :=
  next_upholds (.ite hf (.refl _)) h

theorem onMain_form (hf : (f s.dev).form = s.dev.form) (h : s.onMain f = .next t) : Upholds s.dev.form t.dev.form :=
  onMain_upholds (.of_eq hf) h

theorem onRails_upholds (hf : Upholds s.dev.form (f s.dev).form) (h : s.onRails f = .next t) : Upholds s.dev.form t.dev.form :=
  next_upholds (.ite hf (.refl _)) h

theorem onRails_form (hf : (f s.dev).form = s.dev.form) (h : s.onRails f = .next t) : Upholds s.dev.form t.dev.form :=
  onRails_upholds (.of_eq hf) h

theorem onRailsEnd_upholds (hf : Upholds s.dev.form (f s.dev).form) (h : s.onRailsEnd f = .next t) : Upholds s.dev.form t.dev.form :=
  next_upholds (.ite hf (.ite (.of_eq (Drive.dropPower_form _)) (.refl _))) h

theorem onSideband_form (hf : (f s.dev).form = s.dev.form) (h : s.onSideband f = .next t) : Upholds s.dev.form t.dev.form :=
  next_upholds (.ite (.of_eq hf) (.refl _)) h

theorem onSpdm_form (hf : ∀ d, (f d).form = d.form) (h : s.onSpdm f = .next t) : Upholds s.dev.form t.dev.form :=
  next_upholds (.ite (.of_eq ((hf _).trans (Drive.dropStale_form _))) (.refl _)) h

theorem onPldm_upholds (hf : ∀ d, Upholds s.dev.form d.form → Upholds s.dev.form (f d).form) (h : s.onPldm f = .next t) :
    Upholds s.dev.form t.dev.form :=
  next_upholds (.ite (hf _ (.of_eq (Drive.dropStale_form _))) (.refl _)) h

theorem onPldm_form (hf : ∀ d, (f d).form = d.form) (h : s.onPldm f = .next t) : Upholds s.dev.form t.dev.form :=
  onPldm_upholds (fun d hb => (hf d).symm ▸ hb) h

end

/-! ### Commands that do more than one thing -/

theorem attrCmd_upholds {b} {w : Drive → Wr} (hw : ∀ {d : Drive}, Upholds b d.form → Upholds b (w d).dev.form) (ch) (addr) {d : Drive}
    (hb : Upholds b d.form) : Upholds b (attrCmd ch addr w d).form := by
  unfold attrCmd
  rw [Drive.emit_form]
  exact hw (by simpa using hb)

theorem relayOr_upholds {b} {k : Drive → Drive} (hf : ∀ d, Upholds b d.form → Upholds b (k d).form) (r) {d : Drive} (hb : Upholds b d.form) :
    Upholds b (relayOr r k d).form := by
  unfold relayOr
  simp [hf, hb]

theorem attrWrite_upholds {b} (o) {d : Drive} (hb : Upholds b d.form) : Upholds b (attrWrite o d).form :=
  Drive.withReq_upholds (fun r _ hb => relayOr_upholds (fun _ hb => attrWriteOp_upholds r hb) r hb) _ _ hb

theorem mgmtReq_upholds {b} (src) (seq) (h) (body) {d : Drive} (hb : Upholds b d.form) : Upholds b (mgmtReq src seq h body d).form := by
  refine Drive.fromRing_upholds (fun d hb => ?_) _ _ (by simpa using hb)
  have hadd : ∀ r, Upholds b (d.addReq r).form := fun r => by simpa using hb
  refine .ite ?_ (.ite (attrWriteOp_upholds _ (hadd _)) (.ite ?_ ?_)) <;> simpa using hb

theorem auxPowerApplied_form (isOpen) (d : Drive) : (auxPowerApplied isOpen d).form = d.form := by
  unfold auxPowerApplied
  split
  · rfl
  have hread := Drive.readArea_form true d
  split
  rename_i e heq
  rw [heq] at hread
  simpa using hread

theorem auxPowerRemoved_form (d : Drive) : (auxPowerRemoved d).form = d.form := by
  unfold auxPowerRemoved
  simp

section
variable {s t : State}

theorem execOpen_upholds {f b p} (h : execOpen f b p s = .next t) : Upholds s.dev.form t.dev.form := by
  unfold execOpen at h
  exact onMain_form (by simp) h

theorem execDataFrame_upholds {f} (h : execDataFrame f s = .next t) : Upholds s.dev.form t.dev.form := by
  unfold execDataFrame at h
  exact onMain_form (by simp) h

theorem execAckFrame_upholds {f} (h : execAckFrame f s = .next t) : Upholds s.dev.form t.dev.form := by
  unfold execAckFrame at h
  exact onMain_form (by simp) h

theorem execProgramComplete_upholds {die} (h : execProgramComplete die s = .next t) : Upholds s.dev.form t.dev.form := by
  unfold execProgramComplete at h
  exact onMain_upholds (by simp) h

theorem execEraseComplete_upholds {die} (h : execEraseComplete die s = .next t) : Upholds s.dev.form t.dev.form := by
  unfold execEraseComplete at h
  exact onMain_form (by simp) h

theorem execDeltaDrain_upholds (h : execDeltaDrain s = .next t) : Upholds s.dev.form t.dev.form := by
  unfold execDeltaDrain at h
  exact onMain_upholds (by simp) h

theorem execJobDequeue_upholds (h : execJobDequeue s = .next t) : Upholds s.dev.form t.dev.form := by
  unfold execJobDequeue at h
  exact onMain_form (by simp) h

theorem execContinuousTestFail_upholds {test} (h : execContinuousTestFail test s = .next t) : Upholds s.dev.form t.dev.form := by
  unfold execContinuousTestFail at h
  exact onMain_upholds (by simp) h

theorem execDrbgError_upholds (h : execDrbgError s = .next t) : Upholds s.dev.form t.dev.form := by
  unfold execDrbgError at h
  exact onMain_upholds (by simp) h

theorem execKekImport_upholds {session index pkHash signatureOk b} (h : execKekImport session index pkHash signatureOk b s = .next t) :
    Upholds s.dev.form t.dev.form := by
  unfold execKekImport at h
  exact onSpdm_form (fun _ => by simp) h

theorem execSupplyHigh_upholds {mv} (h : execSupplyHigh mv s = .next t) : Upholds s.dev.form t.dev.form := by
  unfold execSupplyHigh at h
  split at h
  · obtain rfl := Host.Outcome.next.inj h
    exact .refl _
  · exact onRailsEnd_upholds (.of_eq (by simp)) h

theorem execOpMessage_upholds {session exchange hdr body} (h : execOpMessage session exchange hdr body s = .next t) :
    Upholds s.dev.form t.dev.form := by
  unfold execOpMessage at h
  split at h
  · exact onMain_form (by simp) h
  · exact onSideband_form (statusRead_form ..) h

end

/-- Each command, by what the function that gives it its meaning leaves of the tables. -/
theorem exec_upholds {i : Instr} {s t : State} (h : exec i s = .next t) : Upholds s.dev.form t.dev.form := by
  cases i with
  | put _ => exact onMain_form (putRequest_form ..) h
  | putCommit _ => exact onMain_upholds (putCommit_upholds _ (.refl _)) h
  | delete _ => exact onMain_upholds (deleteRequest_upholds _ (.refl _)) h
  | get _ => exact onMain_form (getRequest_form ..) h
  | getRange _ => exact onMain_form (getRangeRequest_form ..) h
  | existsKey _ => exact onMain_form (existsRequest_form ..) h
  | list _ => exact onMain_form (listRequest_form ..) h
  | batch _ => exact onMain_upholds (batchRequest_upholds _ (.refl _)) h
  | batchAtomic _ => exact onMain_upholds (batchAtomicRequest_upholds _ (.refl _)) h
  | locGet _ => exact onMain_form (locGetRequest_form ..) h
  | locDelete _ => exact onMain_upholds (locDeleteRequest_upholds _ (.refl _)) h
  | relocAck _ => exact onMain_form (relocAckRequest_form ..) h
  | ping _ => exact onMain_form (pingRequest_form ..) h
  | deadlineMissed _ => exact onMain_upholds (deadlineMissed_upholds _ (.refl _)) h
  | commitWaitExpiry _ => exact onMain_form (commitWaitExpiry_form ..) h
  | supersedeConfirm _ _ => exact onMain_form (supersedeConfirm_form ..) h
  | openFrame _ _ _ => exact execOpen_upholds h
  | sessionOpen _ _ _ => exact onMain_form (sessionOpenRequest_form ..) h
  | sessionClose _ => exact onMain_form (sessionCloseRequest_form ..) h
  | sessionRekey _ _ => exact onMain_form (sessionRekeyRequest_form ..) h
  | dataFrame _ => exact execDataFrame_upholds h
  | ackFrame _ => exact execAckFrame_upholds h
  | ackDelayExpiry _ => exact onMain_form (ackDelayExpiry_form ..) h
  | retransmissionTimeout _ _ => exact onMain_form (retransmissionTimeout_form ..) h
  | keepAlive _ _ => exact onMain_form (keepAlive_form ..) h
  | idleTimeout _ => exact onMain_form (idleTimeout_form ..) h
  | openingTimeout _ => exact onMain_form (openingTimeout_form ..) h
  | drainComplete _ => exact onMain_form (drainComplete_form ..) h
  | drainingTimeout _ => exact onMain_form (drainingTimeout_form ..) h
  | windowReopenAck _ => exact onMain_form (windowReopenAck_form ..) h
  | pathSilence _ _ => exact onMain_form (pathSilence_form ..) h
  | rekeyRequired _ _ => exact onMain_form (rekeyRequired_form ..) h
  | sessionExhausted _ _ => exact onMain_form (sessionExhausted_form ..) h
  | keyPhaseRetire _ => exact onMain_form (keyPhaseRetire_form ..) h
  | shearsAdmit _ => exact onMain_form (shearsAdmit_form ..) h
  | fwdWrite _ _ _ _ _ => exact onMain_upholds (fwdWrite_upholds _ _ _ _ _ (.refl _)) h
  | fwdRead _ _ _ _ _ => exact onMain_form (fwdRead_form ..) h
  | fwdReply _ _ _ => exact onMain_upholds (fwdReply_upholds _ _ _ (.refl _)) h
  | fwdData _ _ _ => exact onMain_form (fwdData_form ..) h
  | mirror _ _ _ _ _ _ _ => exact onMain_upholds (mirrorMsg_upholds _ _ _ _ _ _ _ (.refl _)) h
  | mirrorAck _ _ => exact onMain_upholds (mirrorAck_upholds _ _ (.refl _)) h
  | prepare _ _ _ _ _ _ => exact onMain_form (prepareMsg_form ..) h
  | prepared _ _ => exact onMain_form (preparedMsg_form ..) h
  | refused _ => exact onMain_form (refusedMsg_form ..) h
  | commit _ _ _ => exact onMain_upholds (commitMsg_upholds _ _ _ (.refl _)) h
  | abort _ => exact onMain_form (abortMsg_form ..) h
  | committed _ => exact onMain_upholds (committedMsg_upholds _ (.refl _)) h
  | prepareTimeout _ => exact onMain_form (prepareTimeout_form ..) h
  | heartbeat _ _ _ _ _ => exact onMain_form (heartbeatMsg_form ..) h
  | heartbeatSend => exact onMain_upholds (heartbeatSend_upholds (.refl _)) h
  | reserveReq _ _ => exact onMain_form (reserveReq_form ..) h
  | reserveGrant _ _ => exact onMain_form (reserveGrant_form ..) h
  | chunkFetch _ _ _ _ _ _ => exact onMain_form (chunkFetch_form ..) h
  | chunkData _ _ _ => exact onMain_form (chunkData_form ..) h
  | chunkFetchTimeout _ => exact onMain_form (chunkFetchTimeout_form ..) h
  | tableChange _ _ _ => exact onMain_upholds (tableChangeMsg_upholds _ _ _ (.refl _)) h
  | tableAck _ _ => exact onMain_form (tableAckMsg_form ..) h
  | hello _ _ => exact onMain_upholds (helloMsg_upholds _ _ (.refl _)) h
  | resyncData _ _ _ _ _ => exact onMain_upholds (resyncData_upholds _ _ _ _ _ (.refl _)) h
  | homeReturn _ => exact onMain_form (homeReturn_form ..) h
  | twinLinkUp _ _ _ _ _ => exact onMain_form (twinLinkUp_form ..) h
  | twinLinkDownTimeout => exact onMain_upholds (twinLinkDownTimeout_upholds (.refl _)) h
  | heartbeatSilence => exact onMain_upholds (heartbeatSilence_upholds (.refl _)) h
  | joiningTimeout => exact onMain_form (joiningTimeout_form ..) h
  | leaseReq _ _ _ => exact onMain_form (leaseReq_form ..) h
  | leaseReqResend => exact onMain_form (leaseReqResend_form ..) h
  | probe _ _ => exact onMain_form (probeMsg_form ..) h
  | probeAnswer _ _ => exact onMain_form (probeAnswer_form ..) h
  | witnessProbeTick _ => exact onMain_form (witnessProbeTick_form ..) h
  | witnessGrantHold _ => exact onMain_form (witnessGrantHold_form ..) h
  | leaseGrant _ _ _ => exact onMain_upholds (leaseGrant_upholds _ _ _ (.refl _)) h
  | leaseDeny _ _ _ => exact onMain_form (leaseDeny_form ..) h
  | fencedNotice _ _ => exact onMain_form (fencedNotice_form ..) h
  | clear _ _ => exact onMain_form (clearMsg_form ..) h
  | clearSend => exact onMain_form (clearSend_form ..) h
  | cleared _ _ => exact onMain_form (cleared_form ..) h
  | clearanceLapse => exact onMain_form (clearanceLapse_form ..) h
  | leaseAssert _ _ _ => exact onMain_form (leaseAssert_form ..) h
  | leaseAssertSend => exact onMain_form (leaseAssertSend_form ..) h
  | leaseRelease _ _ => exact onMain_form (leaseRelease_form ..) h
  | witnessFreezeEnd => exact onMain_form (witnessFreezeEnd_form ..) h
  | witnessGrant _ => exact onMain_upholds (attrCmd_upholds (fun hb => witnessCtl_upholds _ _ hb) _ _ (.refl _)) h
  | witnessFence _ => exact onMain_upholds (attrCmd_upholds (fun hb => witnessCtl_upholds _ _ hb) _ _ (.refl _)) h
  | witnessClear _ => exact onMain_upholds (attrCmd_upholds (fun hb => witnessCtl_upholds _ _ hb) _ _ (.refl _)) h
  | witnessWrite _ _ => exact onMain_form (attrCmd_form (fun _ => witnessWrite_form ..) ..) h
  | twinAdopt _ _ => exact onMain_upholds (twinAdopt_upholds _ _ (.refl _)) h
  | twinRelease _ => exact onMain_upholds (twinRelease_upholds _ (.refl _)) h
  | ringHello _ _ _ _ _ _ _ _ => exact onMain_form (ringHello_form ..) h
  | ringHelloSend => exact onMain_form (ringHelloSend_form ..) h
  | ringLinkLoss _ => exact onMain_form (ringLinkLoss_form ..) h
  | ringFrameForward _ => exact onMain_form (ringForward_form ..) h
  | mgmtReq _ _ _ _ => exact onMain_upholds (mgmtReq_upholds _ _ _ _ (.refl _)) h
  | mgmtReply _ _ _ _ => exact onMain_form (mgmtReply_form ..) h
  | migrateData _ _ _ _ _ => exact onMain_upholds (migrateData_upholds _ _ _ _ _ (.refl _)) h
  | migrateCtl _ _ _ _ _ => exact onMain_form (migrateCtl_form ..) h
  | ptpMessage _ => exact onMain_form (ptpMessage_form ..) h
  | tenantCreate _ => exact onMain_form (tenantCreate_form ..) h
  | tenantDelete _ => exact onMain_form (tenantDelete_form ..) h
  | nsCreate _ => exact onMain_form (nsCreate_form ..) h
  | nsDelete _ => exact onMain_form (nsDelete_form ..) h
  | nsSetQuota _ => exact onMain_form (nsModify_form ..) h
  | nsRaiseGen _ => exact onMain_form (nsModify_form ..) h
  | nsSetSoloWrites _ => exact onMain_form (nsModify_form ..) h
  | nsInfo _ => exact onMain_form (nsInfo_form ..) h
  | sweepComplete _ => exact onMain_form (sweepComplete_form ..) h
  | arrayReadComplete _ _ _ _ _ _ => exact onMain_form (arrayReadComplete_form ..) h
  | suspendComplete _ => exact onMain_form (suspendComplete_form ..) h
  | busyWindowEntry _ => exact onMain_form (busyWindowEntry_form ..) h
  | starvationGuardTrip _ => exact onMain_form (starvationGuardTrip_form ..) h
  | reconInterval => exact onMain_form (reconInterval_form ..) h
  | programComplete _ => exact execProgramComplete_upholds h
  | eraseComplete _ => exact execEraseComplete_upholds h
  | programFail _ => exact onMain_form (programFail_form ..) h
  | eraseFail _ => exact onMain_form (eraseFail_form ..) h
  | shelfDrain => exact onMain_form (shelfDrain_form ..) h
  | shelfAdmit _ => exact onMain_upholds (shelfAdmit_upholds _ (.refl _)) h
  | folding _ => exact onMain_form (folding_form ..) h
  | clipVictimSelect _ => exact onMain_form (clipVictimSelect_form ..) h
  | patrolVisit _ _ => exact onMain_form (patrolVisit_form ..) h
  | patrolLate _ => exact onMain_form (patrolLate_form ..) h
  | healthWearUpdate => exact onMain_form (healthWearUpdate_form ..) h
  | deltaDrain => exact execDeltaDrain_upholds h
  | checkpoint => exact onMain_form (checkpoint_form ..) h
  | powerFail => exact onRailsEnd_upholds (.of_eq (Drive.beginFlush_form ..)) h
  | flushComplete => exact next_upholds (.of_eq (Drive.endFlush_form _)) h
  | holdupMeasure _ _ => exact onMain_form (holdupMeasure_form ..) h
  | kekImport _ _ _ _ _ => exact execKekImport_upholds h
  | tenantKeyLoad _ _ => exact onMain_form (keyLoad_form ..) h
  | keyEraseWrapping _ => exact onMain_form (keyErase_form ..) h
  | keyErasePrevious _ => exact onMain_form (keyErase_form ..) h
  | keyEraseCurrent _ => exact onMain_form (keyErase_form ..) h
  | keyEraseTenant _ => exact onMain_form (keyErase_form ..) h
  | keyEraseSystem _ => exact onMain_form (keyEraseSystem_form ..) h
  | slotBufferRelease _ => exact onMain_form (slotBufferRelease_form ..) h
  | storageLoadResume _ => exact onMain_form (storageLoadResume_form ..) h
  | hollyDispatch _ _ _ => exact onMain_form (hollyDispatch_form ..) h
  | compatSuspend _ => exact onMain_form (compatSuspend_form ..) h
  | compatResume _ _ _ => exact onMain_form (compatResume_form ..) h
  | drbgError => exact execDrbgError_upholds h
  | autonegComplete _ _ => exact onMain_form (autonegComplete_form ..) h
  | trainingComplete _ _ => exact onMain_form (trainingComplete_form ..) h
  | linkUp _ => exact onMain_form (linkUp_form ..) h
  | linkDown _ _ _ => exact onMain_form (linkDown_form ..) h
  | holdoffExpiry _ => exact onMain_form (holdoffExpiry_form ..) h
  | trainingFail _ _ => exact onMain_form (trainingFail_form ..) h
  | speedFallbackExpiry _ _ => exact onMain_form (speedFallbackExpiry_form ..) h
  | portRetrain _ _ => exact onMain_form (attrCmd_form (fun _ => portRetrain_form ..) ..) h
  | portEnableWrite _ _ _ => exact onMain_form (attrCmd_form (fun _ => portEnableWrite_form ..) ..) h
  | frameReceive _ => exact onMain_form (frameReceive_form ..) h
  | arpFrame _ => exact onMain_form (arpFrame_form ..) h
  | ndFrame _ => exact onMain_form (ndFrame_form ..) h
  | icmpEcho _ _ _ _ _ => exact onMain_form (icmpEcho_form ..) h
  | dhcpMessage _ => exact onMain_form (dhcpMessage_form ..) h
  | dhcpLeaseLost _ _ _ => exact onMain_form (dhcpLeaseLost_form ..) h
  | lldpFrame _ _ _ _ _ => exact onMain_form (lldpFrame_form ..) h
  | lldpTransmit => exact onMain_form (lldpTransmit_form ..) h
  | txtsRead _ => exact onMain_form (txtsRead_form ..) h
  | statsModeWrite _ _ _ => exact onMain_form (attrCmd_form (fun _ => statsModeWrite_form ..) ..) h
  | w1cWrite _ _ _ _ => exact onMain_form (attrCmd_form (fun _ => w1cWrite_form ..) ..) h
  | entryRead _ => exact onMain_form (attrCmd_form (fun _ => entryRead_form ..) ..) h
  | entryWrite _ => exact onMain_form (attrCmd_form (fun _ => entryWrite_form ..) ..) h
  | entryInvalidate _ => exact onMain_form (attrCmd_form (fun _ => entryInvalidate_form ..) ..) h
  | entryMove _ => exact onMain_form (attrCmd_form (fun _ => entryMove_form ..) ..) h
  | actionRead _ => exact onMain_form (attrCmd_form (fun _ => actionRead_form ..) ..) h
  | actionWrite _ => exact onMain_form (attrCmd_form (fun _ => actionWrite_form ..) ..) h
  | bankWidthWrite _ _ => exact onMain_form (attrCmd_form (fun _ => bankWidthWrite_form ..) ..) h
  | defaultActionWrite _ _ _ => exact onMain_form (attrCmd_form (fun _ => defaultActionWrite_form ..) ..) h
  | probeFirst _ => exact onMain_form (attrCmd_form (fun _ => probeFirst_form ..) ..) h
  | probeNext _ => exact onMain_form (attrCmd_form (fun _ => probeNext_form ..) ..) h
  | privetScrub _ _ _ _ => exact onMain_form (privetScrub_form ..) h
  | ppsInEdge _ => exact onMain_form (ppsInEdge_form ..) h
  | todMessage _ => exact onMain_form (todMessage_form ..) h
  | sourceLost _ => exact onMain_form (sourceLost_form ..) h
  | sourceChange _ => exact onMain_form (sourceChange_form ..) h
  | holdoverTrustLost => exact onMain_form (holdoverTrustLost_form ..) h
  | wallSet _ _ _ => exact onMain_form (attrCmd_form (fun _ => wallSet_form ..) ..) h
  | optimeReservation => exact onMain_form (optimeReservation_form ..) h
  | ppsOutEdge => exact onMain_form (ppsOutEdge_form ..) h
  | leapSecond => exact onMain_form (leapSecond_form ..) h
  | meterTick _ _ => exact onMain_form (meterTick_form ..) h
  | meterExtendedEnd => exact onMain_form (meterExtendedEnd_form ..) h
  | meterIntervalWrite _ _ => exact onMain_form (attrCmd_form (fun _ => meterIntervalWrite_form ..) ..) h
  | weightRecalibrate _ _ _ _ => exact onMain_form (weightRecalibrate_form ..) h
  | meterRead _ => exact onMain_form (meterRead_form ..) h
  | meterAck _ => exact onMain_form (meterAck_form ..) h
  | zeroizePin => exact onSideband_form (Drive.zeroise_form ..) h
  | tamperLoopSample _ => exact onSideband_form (tamperLoopSample_form ..) h
  | zeroizeArm _ => exact onMain_form (attrCmd_form (fun _ => zeroizeWrite_form ..) ..) h
  | zeroizeConfirm _ => exact onMain_form (attrCmd_form (fun _ => zeroizeWrite_form ..) ..) h
  | zeroizeArmExpiry => exact onMain_form (zeroizeArmExpiry_form ..) h
  | zeroiseEraseComplete => exact onSideband_form (zeroiseEraseComplete_form ..) h
  | maintEnableWrite _ _ => exact onMain_form (attrCmd_form (fun _ => maintEnableWrite_form ..) ..) h
  | maintFuseArm _ => exact onMain_form (attrCmd_form (fun _ => maintFuseWrite_form ..) ..) h
  | maintFuseConfirm _ => exact onMain_form (attrCmd_form (fun _ => maintFuseWrite_form ..) ..) h
  | maintToken _ _ _ _ _ _ _ => exact onSpdm_form (fun _ => maintToken_form ..) h
  | maintExit _ => exact onSpdm_form (fun _ => maintExit_form ..) h
  | maintDurationExpiry => exact onSpdm_form (fun _ => maintDurationExpiry_form ..) h
  | svnRaise => exact onMain_form (svnRaise_form ..) h
  | continuousTestFail _ => exact execContinuousTestFail_upholds h
  | getVersion => exact onSpdm_form (fun _ => getVersion_form ..) h
  | getCapabilities _ => exact onSpdm_form (fun _ => getCapabilities_form ..) h
  | negotiateAlgorithms _ => exact onSpdm_form (fun _ => negotiateAlgorithms_form ..) h
  | getDigests _ => exact onSpdm_form (fun _ => getDigests_form ..) h
  | getCertificate _ _ => exact onSpdm_form (fun _ => getCertificate_form ..) h
  | challenge _ => exact onSpdm_form (fun _ => challengeMsg_form ..) h
  | getMeasurements _ _ => exact onSpdm_form (fun _ => getMeasurements_form ..) h
  | keyExchange => exact onSpdm_form (fun _ => keyExchange_form ..) h
  | finish _ _ _ _ => exact onSpdm_form (fun _ => finishMsg_form ..) h
  | spdmHeartbeat _ => exact onSpdm_form (fun _ => spdmHeartbeat_form ..) h
  | keyUpdate _ => exact onSpdm_form (fun _ => keyUpdate_form ..) h
  | endSession _ => exact onSpdm_form (fun _ => endSessionMsg_form ..) h
  | getCsr _ => exact onSpdm_form (fun _ => getCsr_form ..) h
  | setCertificate _ _ _ _ => exact onSpdm_form (fun _ => setCertificate_form ..) h
  | vendorDefinedRequest _ _ => exact onSpdm_form (fun _ => vendorDefined_form ..) h
  | supplyLow _ => exact onRails_form (supplyLow_form ..) h
  | supplyHigh _ => exact execSupplyHigh_upholds h
  | auxLost => exact onRails_form (auxLost_form ..) h
  | auxRestored => exact onRails_form (auxRestored_form ..) h
  | pwrdisAssert _ => exact onRailsEnd_upholds (pwrdisAssert_upholds _ (.refl _)) h
  | mrstN => exact onRails_form (mrst_form ..) h
  | slotIdChange _ => exact onRails_form (slotIdChange_form ..) h
  | twinPrsntChange _ => exact onRails_form (twinPrsntChange_form ..) h
  | i3cDynamicAddress _ _ => exact onSideband_form (i3cAddress_form ..) h
  | i3cRstdaa => exact onSideband_form (i3cReset_form ..) h
  | locateExpiry => exact onRails_form (locateExpiry_form ..) h
  | start _ => exact next_upholds (startUp_upholds _ (.refl _)) h
  | deviceReady => exact onMain_form (deviceReady_form ..) h
  | startTimeout => exact onRails_form (startTimeout_form ..) h
  | clusterFault => exact onRails_form (Drive.startFails_form ..) h
  | xipRelease _ => exact onMain_form (attrCmd_form (fun _ => xipRelease_form ..) ..) h
  | tcmLoadComplete => exact onRails_form (tcmLoadComplete_form ..) h
  | xipResume _ => exact onMain_form (xipResumeCmd_form ..) h
  | xipAutoResume => exact onRails_form (xipAutoResume_form ..) h
  | optfOperationComplete => exact onRails_form (optfOperationComplete_form ..) h
  | activateFirmware _ => exact onPldm_upholds (fun _ hb => activateFirmware_upholds _ hb) h
  | idleDwell _ => exact onMain_form (idleDwell_form ..) h
  | wakeComplete => exact onMain_form (wakeComplete_form ..) h
  | toleranceWindowExpiry => exact onMain_form (toleranceWindowExpiry_form ..) h
  | stateLimitWrite _ _ => exact onMain_form (attrCmd_form (fun _ => stateLimitWrite_form ..) ..) h
  | capWrite _ _ => exact onMain_form (attrCmd_form (fun _ => capWrite_form ..) ..) h
  | governor1ms _ => exact onMain_form (governor1_form ..) h
  | governor100ms _ => exact onMain_form (governor100_form ..) h
  | tempSample _ _ => exact onRails_upholds (tempSampled_upholds _ _ (.refl _)) h
  | thermalStageExit => exact onRails_form (thermalStageExit_form ..) h
  | thermalShutdownTimeout => exact onRails_form (thermalShutdownTimeout_form ..) h
  | sensorFault _ => exact onRails_form (sensorFault_form ..) h
  | stagingFlush => exact onMain_form (stagingFlush_form ..) h
  | logGroupWritten => exact onMain_form (logGroupWritten_form ..) h
  | logFreeze _ => exact onMain_form (logFreeze_form ..) h
  | logThaw _ => exact onMain_form (logThaw_form ..) h
  | logFreezeTimeout => exact onMain_form (logFreezeTimeout_form ..) h
  | clearPinned _ => exact onMain_form (attrCmd_form (fun _ => logCtl_form ..) ..) h
  | clearAll _ => exact onMain_form (attrCmd_form (fun _ => logCtl_form ..) ..) h
  | logWindowLoad _ _ => exact onMain_form (attrCmd_form (fun _ => logWindowLoad_form ..) ..) h
  | healthSave => exact onMain_form (healthSave_form ..) h
  | tempBinMinute => exact onMain_form (tempBinMinute_form ..) h
  | eventEnableWrite _ _ _ => exact onMain_form (attrCmd_form (fun _ => eventEnableWrite_form ..) ..) h
  | attrRead _ => exact onMain_form (attrRead_form ..) h
  | attrWrite _ => exact onMain_upholds (attrWrite_upholds _ (.refl _)) h
  | attrBulkRead _ => exact onMain_form (attrBulkRead_form ..) h
  | clipForce _ => exact onMain_upholds (jobStart_upholds _ _ (.refl _)) h
  | patrolFull _ => exact onMain_upholds (jobStart_upholds _ _ (.refl _)) h
  | nsSanitize _ => exact onMain_upholds (jobStart_upholds _ _ (.refl _)) h
  | nsRekey _ => exact onMain_upholds (jobStart_upholds _ _ (.refl _)) h
  | dieRetire _ => exact onMain_upholds (jobStart_upholds _ _ (.refl _)) h
  | dieUnresponsive _ => exact onMain_upholds (dieUnresponsive_upholds _ (.refl _)) h
  | twinResync _ => exact onMain_upholds (jobStart_upholds _ _ (.refl _)) h
  | nsMigrate _ => exact onMain_upholds (jobStart_upholds _ _ (.refl _)) h
  | nsExport _ => exact onMain_upholds (jobStart_upholds _ _ (.refl _)) h
  | nsImport _ => exact onMain_upholds (jobStart_upholds _ _ (.refl _)) h
  | selftestExt _ => exact onMain_upholds (jobStart_upholds _ _ (.refl _)) h
  | jobSuspend _ => exact onMain_form (jobSuspend_form ..) h
  | jobResume _ => exact onMain_form (jobResume_form ..) h
  | jobCancel _ => exact onMain_form (jobCancel_form ..) h
  | jobStatus _ => exact onMain_form (jobStatus_form ..) h
  | jobStep _ _ => exact onMain_upholds (jobStep_upholds _ _ (.refl _)) h
  | jobDequeue => exact execJobDequeue_upholds h
  | jobEntryExpiry _ => exact onMain_upholds (jobEntryExpiry_upholds _ (.refl _)) h
  | jobSuspendedLong _ => exact onMain_form (jobSuspendedLong_form ..) h
  | fwDownload _ _ => exact onMain_form (fwDownload_form ..) h
  | downloadIdleTimeout => exact onMain_form (downloadIdleTimeout_form ..) h
  | fwActivate _ _ _ => exact onMain_upholds (fwActivate_upholds _ _ _ (.refl _)) h
  | fwActivateRestart _ _ _ => exact onMain_upholds (fwActivateRestart_upholds _ _ _ (.refl _)) h
  | fwRollStep _ => exact onMain_form (fwRollStep_form ..) h
  | fwRollFailed _ => exact onMain_form (fwRollFailed_form ..) h
  | clusterReset _ _ => exact onMain_form (attrCmd_form (fun _ => devReset_form ..) ..) h
  | portReset _ _ => exact onMain_form (attrCmd_form (fun _ => devReset_form ..) ..) h
  | twinPortReset _ => exact onMain_form (attrCmd_form (fun _ => devReset_form ..) ..) h
  | hedgerowPortReset _ _ => exact onMain_form (attrCmd_form (fun _ => devReset_form ..) ..) h
  | driveReset _ => exact onMain_form (attrCmd_form (fun _ => devReset_form ..) ..) h
  | sidebandLockWrite _ _ => exact onMain_upholds (attrCmd_upholds (fun hb => attrSet_upholds _ _ _ _ hb) _ _ (.refl _)) h
  | opMessage _ _ _ _ => exact execOpMessage_upholds h
  | getSensorReading _ _ => exact onMain_form (getSensorReading_form ..) h
  | getStateSensorReadings _ _ => exact onMain_form (getStateSensorReadings_form ..) h
  | pldmFwUpdate _ _ _ _ _ _ => exact onPldm_form (fun _ => pldmUpdate_form ..) h
  | mctpControl _ _ => exact onSideband_form (mctpControl_form ..) h
  | eraseWindowEnd _ => exact onMain_form (eraseWindowEnd_form ..) h
  | auxPowerApplied _ => exact next_upholds (.of_eq (auxPowerApplied_form ..)) h
  | auxPowerRemoved => exact next_upholds (.of_eq (auxPowerRemoved_form _)) h
  | ptpIntervalTransmit _ _ => exact onMain_form (ptpIntervalTransmit_form ..) h
  | duplicateAddressDetection _ _ _ _ => exact onMain_form (addressClear_form ..) h
  | maintFuseArmExpiry => exact onMain_form (maintFuseArmExpiry_form ..) h

theorem State.idle_form (s : State) : s.idle.dev.form = s.dev.form := by
  unfold State.idle
  dsimp only
  split
  · exact Drive.advanceTo_form ..
  · rfl

theorem step_upholds {s t : State} (h : step s = .next t) : Upholds s.dev.form t.dev.form := by
  unfold step at h
  split at h
  · obtain rfl := Host.Outcome.next.inj h
    exact .of_eq (State.idle_form s)
  · rename_i c queue _
    exact exec_upholds (s := { s with pending := queue }) h

/-- Settles O5: the form of the tables is followed through every command (R198, R828). -/
theorem tablesKeepTheirForm : Obligations.TablesKeepTheirForm := fun _ _ h => by
  obtain ⟨hjobs, hsbs, hshelf⟩ := step_upholds h
  exact ⟨hjobs, hsbs, hshelf⟩

end Sys2Proof.Machine
end

-- Proofs of Flash array, stripes and the read path: programmed records over a start that the temperature held.
section
namespace Sys2Proof.Machine
open Sys2Proof

/-- A drive whose start is held at step 4 by the composite temperature (R769) after an unclean stop: superblock 9, open, holds one record at
granule 0, and the held start's scan finds that record beyond the superblock's end (R279). -/
def heldWithTorn : Drive := {
  mod := { mainOn := true, heldStart := some { torn := [(9, 0)] } }
  media := {
    unclean := true
    flushValid := true
    sbs := [(9, {
      state := 2
      recs := [(0, { ns := 1, tenant := 1, key := [], value := [], version := 0, gen := 1, serial := 0, nonce := 0 })] })] } }

theorem heldWithTorn_sampled :
    ((tempSampled [] false heldWithTorn).sb 9).erasures = 0 ∧ ((tempSampled [] false heldWithTorn).sb 9).recs = [] := by
  decide +kernel

theorem step_tempSample {readings completes d} (h : d.railsUp = true) :
    step { pending := [.tempSample readings completes], dev := d } = .next { pending := [], dev := tempSampled readings completes d } := by
  simp [step, exec, execTempSample, State.onRails, h]

/-- Refutes O10: a TEMP_SAMPLE that lets a held start go on drops what a torn end left (R279), as a start does, and is not one. -/
theorem not_programmedRecordsStay : ¬ Obligations.ProgrammedRecordsStay := by
  intro h
  have hstep := step_tempSample (readings := []) (completes := false) (d := heldWithTorn) rfl
  have hlost := heldWithTorn_sampled
  generalize tempSampled [] false heldWithTorn = z at hstep hlost
  obtain ⟨herased, hrecs⟩ := hlost
  rcases h _ _ 9 (by decide) hstep (fun u => by simp) (by decide) with hlt | hstay
  · exact Nat.not_lt_zero _ (hlt.trans_eq herased)
  · exact List.not_mem_nil (hrecs ▸ hstay _ List.mem_cons_self)

end Sys2Proof.Machine
end

-- Proofs of Clipping, wear and recovery: the operations that leave the superblocks as they are.
section
namespace Sys2Proof.Machine
open Sys2Proof

/-- The table of the superblocks. -/
def Media.array (m : Media) : Tbl Superblock := m.sbs

/-- The table of the drive's superblocks. -/
def Drive.array (d : Drive) : Tbl Superblock := d.media.array

theorem Drive.array_of_media {a b : Drive} (h : b.media = a.media) : b.array = a.array := congrArg Media.array h

theorem Drive.changesOnly.array {ps : List Part} {a b : Drive} (h : a.changesOnly ps b) (hm : ps.contains Part.media = false) :
    b.array = a.array := Drive.array_of_media (h.media hm)

@[simp] theorem Drive.array_mk (kv media twin ring keys holly xp time sec mod port privet rec_ meter power therm health flag optf jobs chans
    healthSaved ident out free) :
    Drive.array (Drive.mk kv media twin ring keys holly xp time sec mod port privet rec_ meter power therm health flag optf jobs chans
      healthSaved ident out free) = media.array := (rfl)

/-- Media with other fields changed. -/
@[simp] theorem Media.array_mk (m : Media) (waitThresholdUs reconDenied parts dies reads repairs verified reconUsed reconInterval
    reconCapacity sbSeqNext sbSeqReserved delta deltaNext deltaOldest deltaArea deltaLimitMiB drainedBytes shelfLimitMiB drainStopped
    clips roots checkpoints checkpointAt substitutes unusedSubs retiredBlocks retiredDies silentDies wearDecile spareLow wearReadOnly
    wearAvgPct wearMaxPct lateRecorded patrolFastBy levels mapSbs holdupMj holdupLow holdupFailed holdupAt flushing flushValid unclean) :
    Media.array (Media.mk
      waitThresholdUs reconDenied m.sbs parts dies reads repairs verified reconUsed reconInterval reconCapacity sbSeqNext sbSeqReserved
      delta deltaNext deltaOldest deltaArea deltaLimitMiB drainedBytes shelfLimitMiB drainStopped clips roots checkpoints checkpointAt
      substitutes unusedSubs retiredBlocks retiredDies silentDies wearDecile spareLow wearReadOnly wearAvgPct wearMaxPct lateRecorded
      patrolFastBy levels mapSbs holdupMj holdupLow holdupFailed holdupAt flushing flushValid unclean) =
      m.array := (rfl)

@[simp] theorem Drive.media_array (d : Drive) : d.media.array = d.array := (rfl)

@[simp] theorem Drive.array_ite (c : Prop) [Decidable c] (a b : Drive) : (if c then a else b).array = if c then a.array else b.array :=
  apply_ite Drive.array c a b

@[simp] theorem snd_ite_array {α : Type} (c : Prop) [Decidable c] (a b : α × Drive) :
    (if c then a else b).2.array = if c then a.2.array else b.2.array := apply_ite (fun p : α × Drive => p.2.array) c a b

@[simp] theorem Wr.dev_ite_array (c : Prop) [Decidable c] (a b : Wr) : (if c then a else b).dev.array = if c then a.dev.array else b.dev.array :=
  apply_ite (fun w : Wr => w.dev.array) c a b

@[simp] theorem StepOut.array_ite (c : Prop) [Decidable c] (x y : StepOut) :
    (if c then x else y).2.2.array = if c then x.2.2.array else y.2.2.array := apply_ite (fun o : StepOut => o.2.2.array) c x y

@[simp] theorem foldl_array {α : Type} {f : Drive → α → Drive} (hf : ∀ d x, (f d x).array = d.array) (l : List α) (d : Drive) :
    (l.foldl f d).array = d.array := by
  induction l generalizing d with
  | nil => rfl
  | cons x l ih => exact (ih _).trans (hf d x)

@[simp] theorem getD_array {o : Option Drive} {d : Drive} (h : ∀ z, o = some z → z.array = d.array) : (o.getD d).array = d.array := by
  cases o with
  | none => rfl
  | some z => exact h z rfl

@[simp] theorem map_getD_array {α : Type} {o : Option (α × Drive)} {d : Drive} (h : ∀ p, o = some p → p.2.array = d.array) :
    ((o.map (·.2)).getD d).array = d.array := by
  cases o with
  | none => rfl
  | some p => exact h p rfl

theorem if_room_array {c : Prop} [Decidable c] {p : Option Nat × Drive} {d e : Drive} {st : Option Nat} (hp : p.2.array = d.array)
    (h : (if c then p else (none, d)) = (st, e)) : e.array = d.array := by
  split at h
  · rwa [h] at hp
  · exact congrArg (·.2.array) h.symm

/-! ### Ops -/

@[simp] theorem Drive.advanceTo_array (t) (d : Drive) : (Drive.advanceTo t d).array = d.array := (Drive.advanceTo_frame ..).array rfl
@[simp] theorem Drive.emit_array (o) (d : Drive) : (Drive.emit o d).array = d.array := (Drive.emit_frame ..).array rfl
@[simp] theorem Drive.fresh_array (d : Drive) : (Drive.fresh d).2.array = d.array := (Drive.fresh_frame ..).array rfl
@[simp] theorem Drive.draw_array (d : Drive) : (Drive.draw d).2.array = d.array := (Drive.draw_frame ..).array rfl
@[simp] theorem Drive.modAcc_array (t f) (d : Drive) : (Drive.modAcc t f d).array = d.array := (Drive.modAcc_frame ..).array rfl
@[simp] theorem Drive.meterIn_array (t n) (d : Drive) : (Drive.meterIn t n d).array = d.array := (Drive.meterIn_frame ..).array rfl
@[simp] theorem Drive.meterOut_array (t n) (d : Drive) : (Drive.meterOut t n d).array = d.array := (Drive.meterOut_frame ..).array rfl
@[simp] theorem Drive.meterReply_array (r) (d : Drive) : (Drive.meterReply r d).array = d.array := (Drive.meterReply_frame ..).array rfl
@[simp] theorem Drive.setSess_array (sid s) (d : Drive) : (Drive.setSess sid s d).array = d.array := (Drive.setSess_frame ..).array rfl
@[simp] theorem Drive.modSess_array (sid f) (d : Drive) : (Drive.modSess sid f d).array = d.array := (Drive.modSess_frame ..).array rfl
@[simp] theorem Drive.setSslot_array (sid s) (d : Drive) : (Drive.setSslot sid s d).array = d.array := (Drive.setSslot_frame ..).array rfl
@[simp] theorem Drive.modPort_array (p f) (d : Drive) : (Drive.modPort p f d).array = d.array := (Drive.modPort_frame ..).array rfl

@[simp] theorem Drive.portCount_array (p k n) (d : Drive) : (Drive.portCount p k n d).array = d.array :=
    (Drive.portCount_frame ..).array rfl

@[simp] theorem Drive.portTx_array (p len cast tagged fw o) (d : Drive) : (Drive.portTx p len cast tagged fw o d).array = d.array :=
    (Drive.portTx_frame ..).array rfl

@[simp] theorem Drive.takeRing_array (p ring) (d : Drive) : (Drive.takeRing p ring d).array = d.array := (Drive.takeRing_frame ..).array rfl
@[simp] theorem Drive.pump_array (sid) (d : Drive) : (Drive.pump sid d).array = d.array := (Drive.pump_frame ..).array rfl

@[simp] theorem Drive.sendAck_array (sid path) (d : Drive) : (Drive.sendAck sid path d).array = d.array :=
    (Drive.sendAck_frame ..).array rfl

@[simp] theorem Drive.inBand_array (d : Drive) : (Drive.inBand d).array = d.array := (Drive.inBand_frame ..).array rfl
@[simp] theorem Drive.raiseAlert_array (d : Drive) : (Drive.raiseAlert d).array = d.array := (Drive.raiseAlert_frame ..).array rfl
@[simp] theorem Drive.raiseWear_array (d : Drive) : (Drive.raiseWear d).array = d.array := (Drive.raiseWear_frame ..).array rfl
@[simp] theorem Drive.raiseFwd_array (d : Drive) : (Drive.raiseFwd d).array = d.array := (Drive.raiseFwd_frame ..).array rfl

@[simp] theorem Drive.enter_array (src sev payload) (d : Drive) : (Drive.enter src sev payload d).2.array = d.array :=
    (Drive.enter_frame ..).array rfl

@[simp] theorem Drive.startFlush_array (d : Drive) : (Drive.startFlush d).array = d.array := (Drive.startFlush_frame ..).array rfl

@[simp] theorem Drive.queueWith_array {lost : Nat → Drive → Drive} (hf : ∀ n d, (lost n d).array = d.array) (sid n) (d : Drive) :
    (d.queueWith lost sid n).array = d.array := by
  unfold Drive.queueWith
  dsimp only
  simp [hf]

@[simp] theorem sendNotices_array (sid n) (d : Drive) : (sendNotices sid n d).array = d.array := (sendNotices_frame ..).array rfl

@[simp] theorem Drive.noticeWith_array {lost : Nat → Drive → Drive} (hf : ∀ n d, (lost n d).array = d.array) (sid n) (d : Drive) :
    (d.noticeWith lost sid n).array = d.array := by
  unfold Drive.noticeWith
  simp [Drive.queueWith_array hf]

@[simp] theorem Drive.eventNoticeLost_array (sid) (d : Drive) : (Drive.eventNoticeLost sid d).array = d.array :=
    (Drive.eventNoticeLost_frame ..).array rfl

@[simp] theorem Drive.event_array (src sev words) (d : Drive) (tag) : (Drive.event src sev words d tag).array = d.array :=
    (Drive.event_frame ..).array rfl

@[simp] theorem Drive.notice_array (sid n) (d : Drive) : (Drive.notice sid n d).array = d.array := (Drive.notice_frame ..).array rfl
@[simp] theorem Drive.putReq_array (r) (d : Drive) : (Drive.putReq r d).array = d.array := (Drive.putReq_frame ..).array rfl
@[simp] theorem Drive.addReq_array (r) (d : Drive) : (Drive.addReq r d).array = d.array := (Drive.addReq_frame ..).array rfl
@[simp] theorem Drive.dropReq_array (o) (d : Drive) : (Drive.dropReq o d).array = d.array := (Drive.dropReq_frame ..).array rfl

@[simp] theorem Drive.withReq_array {f : Req → Drive → Drive} (hf : ∀ r d, (f r d).array = d.array) (o ops) (d : Drive) :
    (d.withReq o ops f).array = d.array := by
  unfold Drive.withReq
  split
  · split
    · exact hf ..
    · rfl
  · rfl

@[simp] theorem Drive.twinSend_array (m) (d : Drive) : (Drive.twinSend m d).array = d.array := (Drive.twinSend_frame ..).array rfl
@[simp] theorem Drive.newOpId_array (d : Drive) : (Drive.newOpId d).2.array = d.array := (Drive.newOpId_frame ..).array rfl
@[simp] theorem Drive.twinOp_array (op) (d : Drive) : (Drive.twinOp op d).array = d.array := (Drive.twinOp_frame ..).array rfl
@[simp] theorem Drive.twinDone_array (opId) (d : Drive) : (Drive.twinDone opId d).array = d.array := (Drive.twinDone_frame ..).array rfl

@[simp] theorem Drive.twinSeen_array (opId reply) (d : Drive) : (Drive.twinSeen opId reply d).array = d.array :=
    (Drive.twinSeen_frame ..).array rfl

@[simp] theorem ringTx_array (east o) (d : Drive) : (ringTx east o d).array = d.array := (ringTx_frame ..).array rfl
@[simp] theorem Drive.takeRingSide_array (d : Drive) : (Drive.takeRingSide d).array = d.array := (Drive.takeRingSide_frame ..).array rfl

@[simp] theorem Drive.ringSend_array (code dest cls args body) (d : Drive) : (Drive.ringSend code dest cls args body d).array = d.array :=
    (Drive.ringSend_frame ..).array rfl

@[simp] theorem Drive.fromRing_array {k : Drive → Drive} (hf : ∀ d, (k d).array = d.array) (src seq) (d : Drive) :
    (d.fromRing src seq k).array = d.array := by
  unfold Drive.fromRing
  dsimp only
  split <;> simp [hf]

@[simp] theorem Drive.replyFrames_array (sid rid first last h body) (d : Drive) :
    (Drive.replyFrames sid rid first last h body d).array = d.array := (Drive.replyFrames_frame ..).array rfl

@[simp] theorem Drive.lastReply_array (sid late) (d : Drive) : (Drive.lastReply sid late d).array = d.array :=
    (Drive.lastReply_frame ..).array rfl

@[simp] theorem Drive.reply_array (o h body) (d : Drive) : (Drive.reply o h body d).array = d.array := (Drive.reply_frame ..).array rfl

@[simp] theorem Drive.refuse_array (r status) (d : Drive) (version offset) : (Drive.refuse r status d version offset).array = d.array :=
    (Drive.refuse_frame ..).array rfl

@[simp] theorem Drive.conflict_array (r code page) (d : Drive) : (Drive.conflict r code page d).array = d.array :=
    (Drive.conflict_frame ..).array rfl

@[simp] theorem Drive.setPower_array (st) (d : Drive) : (Drive.setPower st d).array = d.array := (Drive.setPower_frame ..).array rfl
@[simp] theorem Drive.beginWake_array (d : Drive) : (Drive.beginWake d).array = d.array := (Drive.beginWake_frame ..).array rfl
@[simp] theorem Drive.awaken_array (d : Drive) : (Drive.awaken d).array = d.array := (Drive.awaken_frame ..).array rfl
@[simp] theorem Drive.wasBusy_array (d : Drive) : (Drive.wasBusy d).array = d.array := (Drive.wasBusy_frame ..).array rfl
@[simp] theorem Drive.unheld_array (ch addr) (d : Drive) : (Drive.unheld ch addr d).array = d.array := (Drive.unheld_frame ..).array rfl

@[simp] theorem attrCmd_array {w : Drive → Wr} (hf : ∀ d, (w d).dev.array = d.array) (ch addr) (d : Drive) :
    (attrCmd ch addr w d).array = d.array := by
  unfold attrCmd
  simp [hf]

@[simp] theorem Drive.delta_array (x) (d : Drive) : (Drive.delta x d).array = d.array := by unfold Drive.delta; simp
@[simp] theorem Drive.fwdRemoved_array (l) (d : Drive) : (Drive.fwdRemoved l d).array = d.array := by unfold Drive.fwdRemoved; simp
@[simp] theorem Drive.tickTo_array (t) (d : Drive) : (Drive.tickTo t d).array = d.array := (Drive.tickTo_frame ..).array rfl
@[simp] theorem Drive.reserveTicks_array (d : Drive) : (Drive.reserveTicks d).array = d.array := by unfold Drive.reserveTicks; simp
@[simp] theorem Drive.assign_array (input) (d : Drive) : (Drive.assign input d).2.array = d.array := by unfold Drive.assign; simp
@[simp] theorem Drive.raiseTick_array (v) (d : Drive) : (Drive.raiseTick v d).array = d.array := by unfold Drive.raiseTick; simp

/-! ### JobTable -/

@[simp] theorem Drive.putJob_array (j) (d : Drive) : (Drive.putJob j d).array = d.array := (Drive.putJob_frame ..).array rfl
@[simp] theorem Drive.dequeue_array (d : Drive) : (Drive.dequeue d).array = d.array := (Drive.dequeue_frame ..).array rfl
@[simp] theorem Drive.endJob_array (j status) (d : Drive) : (Drive.endJob j status d).array = d.array := (Drive.endJob_frame ..).array rfl

@[simp] theorem Drive.endKind_array (kind status) (d : Drive) : (Drive.endKind kind status d).array = d.array :=
    (Drive.endKind_frame ..).array rfl

/-! ### Juniper -/

@[simp] theorem Drive.storeWatch_array (d : Drive) : (Drive.storeWatch d).array = d.array := by unfold Drive.storeWatch; simp
@[simp] theorem Drive.putRec_array (r key prev) (d : Drive) : (Drive.putRec r key prev d).array = d.array := by unfold Drive.putRec; simp

@[simp] theorem Drive.sealRec_array (r) (d : Drive) : (Drive.sealRec r d).array = d.array := by
  unfold Drive.sealRec
  split <;> simp

@[simp] theorem Drive.meterKeyChanged_array (d : Drive) : (Drive.meterKeyChanged d).array = d.array := by
  unfold Drive.meterKeyChanged
  split <;> simp

@[simp] theorem writeRecs_array (flags l) (d : Drive) : (writeRecs flags l d).array = d.array := by
  induction l generalizing d with
  | nil => rfl
  | cons x l ih => simp [writeRecs, ih]

@[simp] theorem Drive.openInterval_array (d : Drive) : (Drive.openInterval d).array = d.array := by unfold Drive.openInterval; simp

@[simp] theorem Drive.closeInterval_array (flags) (d : Drive) : (Drive.closeInterval flags d).array = d.array := by
  unfold Drive.closeInterval
  simp

@[simp] theorem Drive.meterStep_array (back before) (d : Drive) : (Drive.meterStep back before d).array = d.array := by
  unfold Drive.meterStep
  simp

@[simp] theorem Drive.addEnergy_array (t uj) (d : Drive) : (Drive.addEnergy t uj d).array = d.array := by unfold Drive.addEnergy; simp

@[simp] theorem apportion_array (e total l) (d : Drive) : (apportion e total l d).array = d.array := by
  induction l generalizing d with
  | nil => rfl
  | cons x l ih => simp [apportion, ih]

@[simp] theorem Drive.shareEnergy_array (n e acts) (d : Drive) : (Drive.shareEnergy n e acts d).array = d.array := by
  unfold Drive.shareEnergy
  simp

@[simp] theorem tickTenants_array (n l) (d : Drive) : (tickTenants n l d).array = d.array := by
  induction l generalizing d with
  | nil => rfl
  | cons x l ih => simp [tickTenants, ih]

@[simp] theorem Drive.account_array (n e acts) (d : Drive) : (Drive.account n e acts d).array = d.array := by unfold Drive.account; simp
@[simp] theorem meterTick_array (e acts) (d : Drive) : (meterTick e acts d).array = d.array := by unfold meterTick; simp
@[simp] theorem meterExtendedEnd_array (d : Drive) : (meterExtendedEnd d).array = d.array := by unfold meterExtendedEnd; simp

@[simp] theorem meterIntervalWrite_array (v) (d : Drive) : (meterIntervalWrite v d).dev.array = d.array := by
  unfold meterIntervalWrite
  simp

@[simp] theorem weightRecalibrate_array (die holly net laurel) (d : Drive) : (weightRecalibrate die holly net laurel d).array = d.array := by
  unfold weightRecalibrate
  simp

@[simp] theorem meterRead_array (o) (d : Drive) : (meterRead o d).array = d.array := by unfold meterRead; simp
@[simp] theorem meterAck_array (o) (d : Drive) : (meterAck o d).array = d.array := by unfold meterAck; simp
@[simp] theorem Drive.meterLoss_array (d : Drive) : (Drive.meterLoss d).array = d.array := by unfold Drive.meterLoss; simp

/-! ### Flash -/

@[simp] theorem Drive.nextSbSeq_array (d : Drive) : (Drive.nextSbSeq d).2.array = d.array := by unfold Drive.nextSbSeq; simp
@[simp] theorem Drive.authFail_array (p tag) (d : Drive) : (Drive.authFail p tag d).array = d.array := (Drive.authFail_frame ..).array rfl
@[simp] theorem Drive.reconRoll_array (d : Drive) : (Drive.reconRoll d).array = d.array := by unfold Drive.reconRoll; simp
@[simp] theorem Drive.reconCount_array (n) (d : Drive) : (Drive.reconCount n d).array = d.array := by unfold Drive.reconCount; simp
@[simp] theorem Drive.countEcc_array (e) (d : Drive) : (Drive.countEcc e d).array = d.array := (Drive.countEcc_frame ..).array rfl
@[simp] theorem Drive.setDie_array (n o) (d : Drive) : (Drive.setDie n o d).array = d.array := by unfold Drive.setDie; simp
@[simp] theorem Drive.beginBusy_array (n o) (d : Drive) : (Drive.beginBusy n o d).array = d.array := by unfold Drive.beginBusy; simp

@[simp] theorem Drive.resumeDie_array (n) (d : Drive) : (Drive.resumeDie n d).array = d.array := by
  unfold Drive.resumeDie
  split <;> simp

@[simp] theorem Drive.releaseHeld_array (n) (d : Drive) : (Drive.releaseHeld n d).array = d.array := by
  unfold Drive.releaseHeld
  split
  · rfl
  split
  · rfl
  split <;> simp

@[simp] theorem Drive.startReads_array (n) (d : Drive) : (Drive.startReads n d).array = d.array := by unfold Drive.startReads; simp

@[simp] theorem Drive.serveDie_array (n) (d : Drive) : (Drive.serveDie n d).array = d.array := by
  unfold Drive.serveDie
  split <;> simp

@[simp] theorem startAll_array (l) (d : Drive) : (startAll l d).array = d.array := by
  induction l generalizing d with
  | nil => rfl
  | cons x l ih => simp [startAll, ih]

@[simp] theorem Drive.queueRead_array (j) (d : Drive) : (Drive.queueRead j d).array = d.array := by unfold Drive.queueRead; simp
@[simp] theorem Drive.serveWaiting_array (n) (d : Drive) : (Drive.serveWaiting n d).array = d.array := by unfold Drive.serveWaiting; simp

@[simp] theorem Drive.beginRebuild_array (why j) (d : Drive) : (Drive.beginRebuild why j d).array = d.array := by
  unfold Drive.beginRebuild
  simp

@[simp] theorem Drive.issueRead_array (j) (d : Drive) : (Drive.issueRead j d).array = d.array := by unfold Drive.issueRead; simp
@[simp] theorem Drive.cancelReads_array (o) (d : Drive) : (Drive.cancelReads o d).array = d.array := by unfold Drive.cancelReads; simp

/-! ### Directory -/

@[simp] theorem Drive.setNs_array (n x) (d : Drive) : (Drive.setNs n x d).array = d.array := (Drive.setNs_frame ..).array rfl
@[simp] theorem Drive.modNs_array (n f) (d : Drive) : (Drive.modNs n f d).array = d.array := (Drive.modNs_frame ..).array rfl

@[simp] theorem Drive.noteMismatch_array (ns key) (d : Drive) : (Drive.noteMismatch ns key d).array = d.array :=
    (Drive.noteMismatch_frame ..).array rfl

@[simp] theorem Drive.dirWatch_array (d : Drive) : (Drive.dirWatch d).array = d.array := (Drive.dirWatch_frame ..).array rfl
@[simp] theorem Drive.setStslot_array (i s) (d : Drive) : (Drive.setStslot i s d).array = d.array := (Drive.setStslot_frame ..).array rfl

theorem Drive.drawNonce_array {t} {d : Drive} {y} {z : Drive} (h : (Drive.drawNonce t d) = some (y, z)) : z.array = d.array := by
  unfold Drive.drawNonce at h
  split at h
  · cases h
  dsimp only at h
  split at h
  · cases h
  · obtain ⟨-, rfl⟩ := Prod.mk.inj (Option.some.inj h)
    simp

@[simp] theorem Drive.useKey_array (slot ns gen) (d : Drive) : (Drive.useKey slot ns gen d).array = d.array :=
    (Drive.useKey_frame ..).array rfl

@[simp] theorem Drive.entryFor_array (nsId key t) (d : Drive) : (Drive.entryFor nsId key t d).2.array = d.array :=
    (Drive.entryFor_frame ..).array rfl

@[simp] theorem Drive.roomFor_array (nsId key g newKey) (d : Drive) : (Drive.roomFor nsId key g newKey d).2.array = d.array :=
    (Drive.roomFor_frame ..).array rfl

@[simp] theorem Drive.askReservation_array (d : Drive) : (Drive.askReservation d).array = d.array :=
    (Drive.askReservation_frame ..).array rfl

@[simp] theorem Drive.drawReservation_array (ns g entries) (d : Drive) : (Drive.drawReservation ns g entries d).array = d.array :=
    (Drive.drawReservation_frame ..).array rfl

/-! ### KeyValue -/

@[simp] theorem Drive.settle_array (o) (d : Drive) : (Drive.settle o d).array = d.array := by
  unfold Drive.settle
  split <;> simp

@[simp] theorem Drive.forward_array (r write) (d : Drive) : (Drive.forward r write d).array = d.array := by unfold Drive.forward; simp

@[simp] theorem Drive.mirror_array (r recs key dur) (d : Drive) : (Drive.mirror r recs key dur d).2.array = d.array := by
  unfold Drive.mirror
  dsimp only
  split <;> simp

@[simp] theorem Drive.noteChanges_array (recs) (d : Drive) : (Drive.noteChanges recs d).array = d.array := by unfold Drive.noteChanges; simp

@[simp] theorem Drive.awaitNeeds_array (r v h body recs key release) (d : Drive) :
    (Drive.awaitNeeds r v h body recs key release d).array = d.array := by unfold Drive.awaitNeeds; simp

@[simp] theorem Drive.refuseAt_array (r st) (d : Drive) : (Drive.refuseAt r st d).array = d.array := by unfold Drive.refuseAt; simp

@[simp] theorem putRequest_array (o) (d : Drive) : (putRequest o d).array = d.array := by
  unfold putRequest
  refine Drive.withReq_array (fun r d => ?_) ..
  obtain ⟨checks, hchecks⟩ : ∃ f, Drive.checks69 = f := ⟨_, rfl⟩
  rw [hchecks]
  extract_lets +onlyGivenNames tenant
  split
  · simp
  split
  · simp
  extract_lets +onlyGivenNames ns
  split
  · simp
  · simp
  split
  · rfl
  split
  · simp
  split
  · rfl
  split
  · simp
  · rename_i h
    simp [Drive.drawNonce_array h]

@[simp] theorem Drive.readHeader_array (o h total) (d : Drive) : (Drive.readHeader o h total d).array = d.array := by
  unfold Drive.readHeader
  split <;> simp

@[simp] theorem Drive.readChunk_array (o i bytes) (d : Drive) : (Drive.readChunk o i bytes d).array = d.array := by
  unfold Drive.readChunk
  split <;> simp

@[simp] theorem Drive.readTrailer_array (o status recon rep chunk total) (d : Drive) :
    (Drive.readTrailer o status recon rep chunk total d).array = d.array := by
  unfold Drive.readTrailer
  dsimp only
  repeat' split
  all_goals simp

@[simp] theorem sendChunks_array (o value lo hi n) (n') (d : Drive) : (sendChunks o value lo hi n n' d).array = d.array := by
  induction n generalizing n' d with
  | zero => rfl
  | succ n ih => simp [sendChunks, ih]

@[simp] theorem issueReads_array (l) (d : Drive) : (issueReads l d).array = d.array := by
  induction l generalizing d with
  | nil => rfl
  | cons x l ih => simp [issueReads, ih]

@[simp] theorem Drive.putStream_array (s) (d : Drive) : (Drive.putStream s d).array = d.array := by unfold Drive.putStream; simp
@[simp] theorem Drive.issueChunk_array (s) (d : Drive) : (Drive.issueChunk s d).array = d.array := by unfold Drive.issueChunk; simp

@[simp] theorem reissue_array (place l) (d : Drive) : (reissue place l d).array = d.array := by
  induction l generalizing d with
  | nil => rfl
  | cons x l ih => simp [reissue, ih]

@[simp] theorem Drive.dropStream_array (o) (d : Drive) : (Drive.dropStream o d).array = d.array := by
  unfold Drive.dropStream
  split <;> simp

@[simp] theorem Drive.refuseRead_array (r status) (d : Drive) (version) : (Drive.refuseRead r status d version).array = d.array := by
  unfold Drive.refuseRead
  simp

@[simp] theorem Drive.endRead_array (s status chunk) (d : Drive) : (Drive.endRead s status chunk d).array = d.array := by
  unfold Drive.endRead
  simp

@[simp] theorem Drive.beginRead_array (r rec_ place lo hi h) (d : Drive) : (Drive.beginRead r rec_ place lo hi h d).array = d.array := by
  unfold Drive.beginRead
  dsimp only
  split <;> simp

@[simp] theorem Drive.purgeTombs_array (d : Drive) : (Drive.purgeTombs d).array = d.array := by unfold Drive.purgeTombs; simp

@[simp] theorem keyedRead_array (o opcode) (d : Drive) : (keyedRead o opcode d).array = d.array := by
  unfold keyedRead
  refine Drive.withReq_array (fun r d => ?_) ..
  dsimp only
  repeat' split
  all_goals simp

@[simp] theorem getRequest_array (o) (d : Drive) : (getRequest o d).array = d.array := by unfold getRequest; simp
@[simp] theorem getRangeRequest_array (o) (d : Drive) : (getRangeRequest o d).array = d.array := by unfold getRangeRequest; simp
@[simp] theorem existsRequest_array (o) (d : Drive) : (existsRequest o d).array = d.array := by unfold existsRequest; simp

@[simp] theorem Drive.endList_array (r items cut) (d : Drive) : (Drive.endList r items cut d).array = d.array := by
  unfold Drive.endList
  simp

@[simp] theorem listNext_array (r n c) (d : Drive) : (listNext r n c d).array = d.array := by
  induction n generalizing c d with
  | zero => rfl
  | succ n ih =>
    rw [listNext]
    split
    · simp
    split
    · simp
    split
    · exact ih ..
    split
    · exact ih ..
    · simp [ih]
    · simp

@[simp] theorem listRequest_array (o) (d : Drive) : (listRequest o d).array = d.array := by
  unfold listRequest
  refine Drive.withReq_array (fun r d => ?_) ..
  dsimp only
  repeat' split
  all_goals simp

@[simp] theorem settleAll_array (l) (d : Drive) : (settleAll l d).array = d.array := by
  induction l generalizing d with
  | nil => rfl
  | cons x l ih => simp [settleAll, ih]

@[simp] theorem commitWaitExpiry_array (version) (d : Drive) : (commitWaitExpiry version d).array = d.array := by
  unfold commitWaitExpiry
  simp

@[simp] theorem supersedeConfirm_array (nsId key) (d : Drive) : (supersedeConfirm nsId key d).array = d.array := by
  unfold supersedeConfirm
  split <;> simp

@[simp] theorem pingRequest_array (o) (d : Drive) : (pingRequest o d).array = d.array := by
  unfold pingRequest
  refine Drive.withReq_array (fun r d => ?_) ..
  simp
  split <;> simp

/-! ### Located -/

@[simp] theorem Drive.fwdWatch_array (d : Drive) : (Drive.fwdWatch d).array = d.array := by unfold Drive.fwdWatch; simp

@[simp] theorem Drive.markValue_array (p r) (d : Drive) : (Drive.markValue p r d).array = d.array := by
  unfold Drive.markValue
  split <;> simp

@[simp] theorem locChecked_array {serve : Req → Token → Drive → Drive} (hf : ∀ r t d, (serve r t d).array = d.array) (o op) (d : Drive) :
    (locChecked o op serve d).array = d.array := by
  unfold locChecked
  refine Drive.withReq_array (fun r d => ?_) ..
  dsimp only
  split
  · simp
  · simp [hf]

@[simp] theorem Drive.mapLookup_array (sb gran) (d : Drive) : (Drive.mapLookup sb gran d).array = d.array := by unfold Drive.mapLookup; simp

@[simp] theorem locGetRequest_array (o) (d : Drive) : (locGetRequest o d).array = d.array := by
  unfold locGetRequest
  refine locChecked_array (fun r x d => ?_) ..
  dsimp only
  repeat' split
  all_goals simp

@[simp] theorem relocAckRequest_array (o) (d : Drive) : (relocAckRequest o d).array = d.array := by
  unfold relocAckRequest
  refine Drive.withReq_array (fun r d => ?_) ..
  dsimp only
  split <;> simp

/-! ### Batch -/

@[simp] theorem roomForAll_array (ms) (d : Drive) : (roomForAll ms d).2.array = d.array := by
  unfold roomForAll
  dsimp only
  split
  · rfl
  · generalize hl : (List.zipIdx _ : List ((Member × Bool) × Nat)) = l
    have hkept : ∀ (f : List (Option Nat) × Drive → (Member × Bool) × Nat → List (Option Nat) × Drive),
        (∀ a p, (f a p).2.array = a.2.array) → ∀ a, (l.foldl f a).2.array = a.2.array := by
      intro f hf
      clear hl
      induction l with
      | nil => exact fun _ => rfl
      | cons p l ih => exact fun a => (ih _).trans (hf a p)
    split <;> (refine hkept _ (fun a p => ?_) _; split <;> simp)

theorem drawSeals_array {tenant ms} {d : Drive} {y} {z : Drive} (h : drawSeals tenant ms d = some (y, z)) : z.array = d.array := by
  induction ms generalizing d y with
  | nil =>
    obtain ⟨-, rfl⟩ : [] = y ∧ d = z := by simpa [drawSeals] using h
    rfl
  | cons m ms ih =>
    rw [drawSeals] at h
    split at h
    · obtain ⟨⟨l, w⟩, hl, heq⟩ := Option.map_eq_some_iff.mp h
      obtain ⟨-, rfl⟩ : _ ∧ w = z := by simpa using heq
      exact ih hl
    split at h
    · cases h
    · rename_i hdraw
      obtain ⟨⟨l, w⟩, hl, heq⟩ := Option.map_eq_some_iff.mp h
      obtain ⟨-, rfl⟩ : _ ∧ w = z := by simpa using heq
      exact (ih hl).trans (Drive.drawNonce_array hdraw)

@[simp] theorem drawAll_array (l) (d : Drive) : (drawAll l d).array = d.array := by
  induction l generalizing d with
  | nil => rfl
  | cons x l ih => simp [drawAll, ih]

@[simp] theorem Drive.nextTxn_array (d : Drive) : (Drive.nextTxn d).2.array = d.array := by unfold Drive.nextTxn; simp
@[simp] theorem Drive.batchFail_array (r rs) (d : Drive) : (Drive.batchFail r rs d).array = d.array := by unfold Drive.batchFail; simp
@[simp] theorem Drive.batchRefuse_array (r st) (d : Drive) : (Drive.batchRefuse r st d).array = d.array := by unfold Drive.batchRefuse; simp

@[simp] theorem Drive.batchWhole_array (r st) (d : Drive) (detail) : (Drive.batchWhole r st d detail).array = d.array := by
  unfold Drive.batchWhole
  simp

@[simp] theorem Drive.refuseAny_array (r st) (d : Drive) (detail) : (Drive.refuseAny r st d detail).array = d.array := by
  unfold Drive.refuseAny
  simp

@[simp] theorem Drive.forwardMember_array (r m i) (d : Drive) : (Drive.forwardMember r m i d).array = d.array := by
  unfold Drive.forwardMember
  simp

@[simp] theorem Drive.endBatch_array (r) (d : Drive) : (Drive.endBatch r d).array = d.array := by unfold Drive.endBatch; simp

@[simp] theorem prepareTxn_array (r tenant ms) (d : Drive) : (prepareTxn r tenant ms d).array = d.array := by
  unfold prepareTxn
  split
  · simp
  · rename_i h
    simp [drawSeals_array h]

/-! ### Sessions -/

@[simp] theorem Drive.unwrapEvent_array (st) (d : Drive) : (Drive.unwrapEvent st d).array = d.array := by unfold Drive.unwrapEvent; simp

@[simp] theorem closeReplies_array (l) (d : Drive) : (closeReplies l d).array = d.array := by
  induction l generalizing d with
  | nil => rfl
  | cons o l ih =>
    rw [closeReplies, ih]
    split <;> simp

@[simp] theorem Drive.endSession_array (sid cause) (d : Drive) : (Drive.endSession sid cause d).array = d.array := by
  unfold Drive.endSession
  simp
  split <;> simp

@[simp] theorem noticeAll_array (sid l) (d : Drive) : (noticeAll sid l d).array = d.array := by
  induction l generalizing d with
  | nil => rfl
  | cons x l ih => simp [noticeAll, ih]

@[simp] theorem Drive.repostRelocations_array (sid tenant) (d : Drive) : (Drive.repostRelocations sid tenant d).array = d.array := by
  unfold Drive.repostRelocations
  simp

@[simp] theorem Drive.openSession_array (sid tenant rid b p) (d : Drive) : (Drive.openSession sid tenant rid b p d).2.array = d.array := by
  unfold Drive.openSession
  simp

@[simp] theorem Drive.countType_array (d : Drive) : (Drive.countType d).array = d.array := by unfold Drive.countType; simp
@[simp] theorem Drive.countAuth_array (d : Drive) : (Drive.countAuth d).array = d.array := by unfold Drive.countAuth; simp

@[simp] theorem openFrame_array (f b p) (d : Drive) : (openFrame f b p d).array = d.array := by
  unfold openFrame
  simp
  split <;> simp

@[simp] theorem sessionOpenRequest_array (o b p) (d : Drive) : (sessionOpenRequest o b p d).array = d.array := by
  unfold sessionOpenRequest
  refine Drive.withReq_array (fun r d => ?_) ..
  dsimp only
  repeat' split
  all_goals simp

@[simp] theorem sessionCloseRequest_array (o) (d : Drive) : (sessionCloseRequest o d).array = d.array := by unfold sessionCloseRequest; simp

@[simp] theorem sessionRekeyRequest_array (o b) (d : Drive) : (sessionRekeyRequest o b d).array = d.array := by
  unfold sessionRekeyRequest
  refine Drive.withReq_array (fun r d => ?_) ..
  simp
  split <;> simp

@[simp] theorem Drive.pathVerified_array (sid p source) (d : Drive) : (Drive.pathVerified sid p source d).array = d.array := by
  unfold Drive.pathVerified
  simp

@[simp] theorem Drive.pathDown_array (sid p) (d : Drive) : (Drive.pathDown sid p d).array = d.array := by unfold Drive.pathDown; simp

@[simp] theorem Drive.throttle_array (r reason hint) (d : Drive) : (Drive.throttle r reason hint d).array = d.array := by
  unfold Drive.throttle
  simp

@[simp] theorem Drive.enterRequest_array (r) (d : Drive) : (Drive.enterRequest r d).array = d.array := by
  unfold Drive.enterRequest
  dsimp only
  split
  · simp
  split <;> simp

@[simp] theorem Drive.acceptRequest_array (sid a) (d : Drive) : (Drive.acceptRequest sid a d).array = d.array := by
  unfold Drive.acceptRequest
  dsimp only
  split <;> simp

@[simp] theorem Drive.deliver_array (sid f) (d : Drive) : (Drive.deliver sid f d).array = d.array := by
  unfold Drive.deliver
  simp
  split <;> simp

@[simp] theorem deliverRun_array (sid n c) (d : Drive) : (deliverRun sid n c d).array = d.array := by
  induction n generalizing c d with
  | zero => rfl
  | succ n ih =>
    rw [deliverRun]
    split
    · simp [ih]
    · simp

@[simp] theorem Drive.takeAck_array (f) (d : Drive) : (Drive.takeAck f d).array = d.array := by unfold Drive.takeAck; simp

@[simp] theorem Drive.arriving_array {k : Drive → Drive} (hf : ∀ d, (k d).array = d.array) (f t) (d : Drive) :
    (d.arriving f t k).array = d.array := by
  unfold Drive.arriving
  dsimp only
  simp [hf]

@[simp] theorem dataFrame_array (f) (d : Drive) : (dataFrame f d).array = d.array := by unfold dataFrame; simp

@[simp] theorem Drive.reopenWindow_array (sid) (d : Drive) : (Drive.reopenWindow sid d).array = d.array := by
  unfold Drive.reopenWindow
  simp

@[simp] theorem ackFrame_array (f) (d : Drive) : (ackFrame f d).array = d.array := by unfold ackFrame; simp

@[simp] theorem Drive.onSession_array {f : Session → Drive → Drive} (hf : ∀ s d, (f s d).array = d.array) (sid states) (d : Drive) :
    (d.onSession sid states f).array = d.array := by
  unfold Drive.onSession
  simp [hf]

@[simp] theorem ackDelayExpiry_array (sid) (d : Drive) : (ackDelayExpiry sid d).array = d.array := by
  unfold ackDelayExpiry
  refine Drive.onSession_array (fun r d => ?_) ..
  split <;> simp

@[simp] theorem retransmissionTimeout_array (sid p) (d : Drive) : (retransmissionTimeout sid p d).array = d.array := by
  unfold retransmissionTimeout
  refine Drive.onSession_array (fun r d => ?_) ..
  split <;> simp

@[simp] theorem keepAlive_array (sid p) (d : Drive) : (keepAlive sid p d).array = d.array := by unfold keepAlive; simp
@[simp] theorem idleTimeout_array (sid) (d : Drive) : (idleTimeout sid d).array = d.array := by unfold idleTimeout; simp
@[simp] theorem openingTimeout_array (sid) (d : Drive) : (openingTimeout sid d).array = d.array := by unfold openingTimeout; simp
@[simp] theorem drainComplete_array (sid) (d : Drive) : (drainComplete sid d).array = d.array := by unfold drainComplete; simp
@[simp] theorem drainingTimeout_array (sid) (d : Drive) : (drainingTimeout sid d).array = d.array := by unfold drainingTimeout; simp
@[simp] theorem windowReopenAck_array (sid) (d : Drive) : (windowReopenAck sid d).array = d.array := by unfold windowReopenAck; simp
@[simp] theorem pathSilence_array (sid p) (d : Drive) : (pathSilence sid p d).array = d.array := by unfold pathSilence; simp

/-! ### Ops -/

@[simp] theorem rekeyRequired_array (sid inbound) (d : Drive) : (rekeyRequired sid inbound d).array = d.array := by
  unfold rekeyRequired
  simp

/-! ### Sessions -/

@[simp] theorem sessionExhausted_array (sid inbound) (d : Drive) : (sessionExhausted sid inbound d).array = d.array := by
  unfold sessionExhausted
  simp

@[simp] theorem keyPhaseRetire_array (sid) (d : Drive) : (keyPhaseRetire sid d).array = d.array := by unfold keyPhaseRetire; simp

/-! ### Keys -/

@[simp] theorem Drive.sendChange_array (c) (d : Drive) : (Drive.sendChange c d).2.array = d.array := by unfold Drive.sendChange; simp

@[simp] theorem Drive.pendChange_array (r c h body) (d : Drive) : (Drive.pendChange r c h body d).array = d.array := by
  unfold Drive.pendChange
  simp

@[simp] theorem completeChanges_array (l) (d : Drive) : (completeChanges l d).array = d.array := by
  induction l generalizing d with
  | nil => rfl
  | cons x l ih => simp [completeChanges, ih]

@[simp] theorem Drive.finishChanges_array (d : Drive) : (Drive.finishChanges d).array = d.array := by unfold Drive.finishChanges; simp
@[simp] theorem Drive.vaultDone_array (o) (d : Drive) : (Drive.vaultDone o d).array = d.array := by unfold Drive.vaultDone; simp
@[simp] theorem Drive.optfStart_array (x) (d : Drive) : (Drive.optfStart x d).array = d.array := by unfold Drive.optfStart; simp

@[simp] theorem Drive.optfWrite_array (x) (d : Drive) : (Drive.optfWrite x d).array = d.array := by
  unfold Drive.optfWrite
  split <;> simp

@[simp] theorem Drive.bankRead_array (bank) (d : Drive) : (Drive.bankRead bank d).array = d.array := by unfold Drive.bankRead; simp
@[simp] theorem Drive.emitAll_array (l) (d : Drive) : (Drive.emitAll l d).array = d.array := by unfold Drive.emitAll; simp

@[simp] theorem Drive.optfRead_array (bank bytes o) (d : Drive) : (Drive.optfRead bank bytes o d).array = d.array := by
  unfold Drive.optfRead
  split <;> simp

@[simp] theorem Drive.vaultPlace_array (d : Drive) : (Drive.vaultPlace d).array = d.array := by unfold Drive.vaultPlace; simp
@[simp] theorem Drive.vaultPut_array (id k) (d : Drive) : (Drive.vaultPut id k d).array = d.array := by unfold Drive.vaultPut; simp
@[simp] theorem Drive.vaultDel_array (id) (d : Drive) : (Drive.vaultDel id d).array = d.array := by unfold Drive.vaultDel; simp
@[simp] theorem Drive.vaultThen_array (r h) (d : Drive) : (Drive.vaultThen r h d).array = d.array := by unfold Drive.vaultThen; simp
@[simp] theorem Drive.pendLoad_array (r c h) (d : Drive) : (Drive.pendLoad r c h d).array = d.array := by unfold Drive.pendLoad; simp

@[simp] theorem revokeStreams_array (p l) (d : Drive) : (revokeStreams p l d).array = d.array := by
  induction l generalizing d with
  | nil => rfl
  | cons s l ih =>
    rw [revokeStreams, ih]
    split
    · split <;> simp
    · rfl

@[simp] theorem revokeWrites_array (p l) (d : Drive) : (revokeWrites p l d).array = d.array := by
  induction l generalizing d with
  | nil => rfl
  | cons x l ih => simp [revokeWrites, ih]

@[simp] theorem revokeBatches_array (p l) (d : Drive) : (revokeBatches p l d).array = d.array := by
  induction l generalizing d with
  | nil => rfl
  | cons x l ih => simp [revokeBatches, ih]

@[simp] theorem Drive.stopHolly_array (slot) (d : Drive) : (Drive.stopHolly slot d).array = d.array := by unfold Drive.stopHolly; simp
@[simp] theorem Drive.dropCache_array (p) (d : Drive) : (Drive.dropCache p d).array = d.array := by unfold Drive.dropCache; simp
@[simp] theorem Drive.eraseStorage_array (i) (d : Drive) : (Drive.eraseStorage i d).array = d.array := by unfold Drive.eraseStorage; simp

@[simp] theorem Drive.eraseIn_array (t states) (d : Drive) : (Drive.eraseIn t states d).2.array = d.array := by
  unfold Drive.eraseIn
  split <;> simp

@[simp] theorem Drive.eraseWrap_array (t) (d : Drive) : (Drive.eraseWrap t d).2.array = d.array := by
  unfold Drive.eraseWrap
  split <;> simp

@[simp] theorem Drive.eraseBoth_array (t) (d : Drive) : (Drive.eraseBoth t d).2.array = d.array := by unfold Drive.eraseBoth; simp

@[simp] theorem endSessions_array (cause l) (d : Drive) : (endSessions cause l d).array = d.array := by
  induction l generalizing d with
  | nil => rfl
  | cons x l ih => simp [endSessions, ih]

@[simp] theorem Drive.eraseBy_array (sel t) (d : Drive) : (Drive.eraseBy sel t d).2.array = d.array := by
  unfold Drive.eraseBy
  split <;> simp

@[simp] theorem keyErase_array (sel o) (d : Drive) : (keyErase sel o d).array = d.array := by unfold keyErase; simp
@[simp] theorem Drive.setSys_array (n s) (d : Drive) : (Drive.setSys n s d).array = d.array := by unfold Drive.setSys; simp
@[simp] theorem Drive.ownSlots_array (d : Drive) : (Drive.ownSlots d).array = d.array := by unfold Drive.ownSlots; simp
@[simp] theorem Drive.ringSlots_array (d : Drive) : (Drive.ringSlots d).array = d.array := by unfold Drive.ringSlots; simp
@[simp] theorem keyEraseSystem_array (o) (d : Drive) : (keyEraseSystem o d).array = d.array := by unfold keyEraseSystem; simp

@[simp] theorem Drive.storeKey_array (t i serial k) (d : Drive) : (Drive.storeKey t i serial k d).array = d.array := by
  unfold Drive.storeKey
  simp

@[simp] theorem Drive.doStorageLoad_array (r b i) (d : Drive) : (Drive.doStorageLoad r b i d).array = d.array := by
  unfold Drive.doStorageLoad
  simp

@[simp] theorem keyLoad_array (o b) (d : Drive) : (keyLoad o b d).array = d.array := by
  unfold keyLoad
  refine Drive.withReq_array (fun r d => ?_) ..
  simp
  split <;> simp

@[simp] theorem storageLoadResume_array (slot) (d : Drive) : (storageLoadResume slot d).array = d.array := by
  unfold storageLoadResume
  dsimp only
  split
  · simp
  split
  · simp
  split <;> simp

@[simp] theorem slotBufferRelease_array (slot) (d : Drive) : (slotBufferRelease slot d).array = d.array := by unfold slotBufferRelease; simp
@[simp] theorem Drive.someFailure_array (d : Drive) : (Drive.someFailure d).2.array = d.array := by unfold Drive.someFailure; simp

@[simp] theorem kekImport_array (session index pkHash signatureOk b) (d : Drive) :
    (kekImport session index pkHash signatureOk b d).array = d.array := by unfold kekImport; simp

/-! ### Namespaces -/

@[simp] theorem Drive.revokeNs_array (n) (d : Drive) : (Drive.revokeNs n d).array = d.array := by unfold Drive.revokeNs; simp
@[simp] theorem Drive.dropFwd_array (n) (d : Drive) : (Drive.dropFwd n d).array = d.array := by unfold Drive.dropFwd; simp
@[simp] theorem Drive.dropDir_array (p) (d : Drive) : (Drive.dropDir p d).array = d.array := by unfold Drive.dropDir; simp
@[simp] theorem Drive.dropEntries_array (n) (d : Drive) : (Drive.dropEntries n d).array = d.array := by unfold Drive.dropEntries; simp

@[simp] theorem Drive.raiseGen_array (n gen floor) (d : Drive) : (Drive.raiseGen n gen floor d).array = d.array := by
  unfold Drive.raiseGen
  simp

@[simp] theorem Drive.applyChange_array (c) (d : Drive) : (Drive.applyChange c d).array = d.array := by
  unfold Drive.applyChange
  dsimp only
  repeat' split
  all_goals simp

@[simp] theorem Drive.change_array (r c h b) (d : Drive) : (d.change r c h b).array = d.array := by unfold Drive.change; simp

@[simp] theorem operatorOnly_array {f : Req → Drive → Drive} (hf : ∀ r d, (f r d).array = d.array) (o op) (d : Drive) :
    (operatorOnly o op f d).array = d.array := by
  unfold operatorOnly
  refine Drive.withReq_array (fun r d => ?_) ..
  simp [hf]

@[simp] theorem tenantCreate_array (o) (d : Drive) : (tenantCreate o d).array = d.array := by unfold tenantCreate; simp
@[simp] theorem tenantDelete_array (o) (d : Drive) : (tenantDelete o d).array = d.array := by unfold tenantDelete; simp

@[simp] theorem nsCreate_array (o) (d : Drive) : (nsCreate o d).array = d.array := by
  unfold nsCreate
  refine operatorOnly_array (fun r d => ?_) ..
  simp
  split <;> simp

@[simp] theorem stateAnswer_array {k : Drive → Drive} (hf : ∀ d, (k d).array = d.array) (r st) (d : Drive) :
    (stateAnswer r st d k).array = d.array := by
  unfold stateAnswer
  simp [hf]

@[simp] theorem nsDelete_array (o) (d : Drive) : (nsDelete o d).array = d.array := by unfold nsDelete; simp
@[simp] theorem nsModify_array (b o) (d : Drive) : (nsModify b o d).array = d.array := by unfold nsModify; simp
@[simp] theorem nsInfo_array (o) (d : Drive) : (nsInfo o d).array = d.array := by unfold nsInfo; simp
@[simp] theorem sweepComplete_array (n) (d : Drive) : (sweepComplete n d).array = d.array := by unfold sweepComplete; simp

/-! ### Twin -/

@[simp] theorem Drive.fromTwin_array {k : Drive → Drive} (hf : ∀ d, (k d).array = d.array) (d : Drive) : (d.fromTwin k).array = d.array := by
  unfold Drive.fromTwin
  simp [hf]

@[simp] theorem Drive.fromTwinAwake_array {k : Drive → Drive} (hf : ∀ d, (k d).array = d.array) (d : Drive) :
    (d.fromTwinAwake k).array = d.array := by
  unfold Drive.fromTwinAwake
  simp [Drive.fromTwin_array hf]

@[simp] theorem Drive.addForward_array (opId aux tag h body) (d : Drive) : (Drive.addForward opId aux tag h body d).array = d.array := by
  unfold Drive.addForward
  simp

@[simp] theorem Drive.onceTwin_array {k : Drive → Drive} (hf : ∀ d, (k d).array = d.array) (op) (d : Drive) :
    (d.onceTwin op k).array = d.array := by
  unfold Drive.onceTwin
  split <;> simp [hf]

@[simp] theorem fwdRead_array (opId aux tag h body) (d : Drive) : (fwdRead opId aux tag h body d).array = d.array := by
  unfold fwdRead
  refine Drive.fromTwinAwake_array (fun d => Drive.onceTwin_array (fun d => ?_) ..) _
  dsimp only
  repeat' split
  all_goals simp

@[simp] theorem fwdData_array (opId chunk bytes) (d : Drive) : (fwdData opId chunk bytes d).array = d.array := by
  unfold fwdData
  refine Drive.fromTwinAwake_array (fun d => ?_) ..
  split <;> simp

@[simp] theorem Drive.grantUsed_array (recs) (d : Drive) : (Drive.grantUsed recs d).array = d.array := by unfold Drive.grantUsed; simp

@[simp] theorem Drive.clearPending_array (recs) (d : Drive) : (Drive.clearPending recs d).array = d.array := by
  unfold Drive.clearPending
  simp

@[simp] theorem Drive.clearAllPending_array (d : Drive) : (Drive.clearAllPending d).array = d.array := by unfold Drive.clearAllPending; simp

@[simp] theorem Drive.release_array (txn coordinator) (d : Drive) : (Drive.release txn coordinator d).array = d.array := by
  unfold Drive.release
  simp

@[simp] theorem Drive.ownOutcomes_array (r tenant ms mine) (d : Drive) : (Drive.ownOutcomes r tenant ms mine d).2.array = d.array := by
  unfold Drive.ownOutcomes
  simp

@[simp] theorem prepareMsg_array (opId txn tag h body seals) (d : Drive) : (prepareMsg opId txn tag h body seals d).array = d.array := by
  unfold prepareMsg
  simp

@[simp] theorem Drive.abortTxn_array {k : Drive → Drive} (hf : ∀ d, (k d).array = d.array) (r) (d : Drive) :
    (d.abortTxn r k).array = d.array := by
  unfold Drive.abortTxn
  simp [hf]

@[simp] theorem Drive.unknownTxn_array (txn) (d : Drive) : (Drive.unknownTxn txn d).array = d.array := by
  unfold Drive.unknownTxn
  split <;> simp

@[simp] theorem decideTxn_array (r outcomes) (d : Drive) : (decideTxn r outcomes d).array = d.array := by unfold decideTxn; simp

@[simp] theorem decideWaiting_array (l) (d : Drive) : (decideWaiting l d).array = d.array := by
  induction l generalizing d with
  | nil => rfl
  | cons r rs ih =>
    rw [decideWaiting, ih]
    split <;> simp

@[simp] theorem preparedMsg_array (txn outcomes) (d : Drive) : (preparedMsg txn outcomes d).array = d.array := by
  unfold preparedMsg
  refine Drive.fromTwinAwake_array (fun d => ?_) ..
  split <;> simp

@[simp] theorem refusedMsg_array (txn) (d : Drive) : (refusedMsg txn d).array = d.array := by
  unfold refusedMsg
  refine Drive.fromTwinAwake_array (fun d => ?_) ..
  split <;> simp

@[simp] theorem Drive.drawOwn_array (ms) (d : Drive) : (Drive.drawOwn ms d).array = d.array := by unfold Drive.drawOwn; simp
@[simp] theorem abortMsg_array (txn) (d : Drive) : (abortMsg txn d).array = d.array := by unfold abortMsg; simp

@[simp] theorem prepareTimeout_array (txn) (d : Drive) : (prepareTimeout txn d).array = d.array := by
  unfold prepareTimeout
  split <;> simp

@[simp] theorem refuseAll_array (p st l) (d : Drive) : (refuseAll p st l d).array = d.array := by
  induction l generalizing d with
  | nil => rfl
  | cons x l ih => simp [refuseAll, ih]

@[simp] theorem noLease_array (l) (d : Drive) : (noLease l d).array = d.array := by
  induction l generalizing d with
  | nil => rfl
  | cons x l ih => simp [noLease, ih]

@[simp] theorem Drive.seekLease_array (d : Drive) : (Drive.seekLease d).array = d.array := by unfold Drive.seekLease; simp
@[simp] theorem Drive.leaveJoining_array (d : Drive) : (Drive.leaveJoining d).array = d.array := by unfold Drive.leaveJoining; simp
@[simp] theorem joiningTimeout_array (d : Drive) : (joiningTimeout d).array = d.array := by unfold joiningTimeout; simp
@[simp] theorem Drive.steer_array (offset) (d : Drive) : (Drive.steer offset d).array = d.array := by unfold Drive.steer; simp

@[simp] theorem heartbeatMsg_array (seq tick lastSeq lOwn offset) (d : Drive) :
    (heartbeatMsg seq tick lastSeq lOwn offset d).array = d.array := by unfold heartbeatMsg; simp

@[simp] theorem Drive.dropPrepared_array (d : Drive) : (Drive.dropPrepared d).array = d.array := by unfold Drive.dropPrepared; simp
@[simp] theorem Drive.fencedOutcomes_array (d : Drive) : (Drive.fencedOutcomes d).array = d.array := by unfold Drive.fencedOutcomes; simp
@[simp] theorem Drive.becomeFenced_array (d : Drive) : (Drive.becomeFenced d).array = d.array := by unfold Drive.becomeFenced; simp

@[simp] theorem resendAll_array (l) (d : Drive) : (resendAll l d).array = d.array := by
  induction l generalizing d with
  | nil => rfl
  | cons x l ih => simp [resendAll, ih]

@[simp] theorem resendErases_array (l) (d : Drive) : (resendErases l d).array = d.array := by
  induction l generalizing d with
  | nil => rfl
  | cons o l ih =>
    rw [resendErases, ih]
    split <;> simp

@[simp] theorem twinLinkUp_array (serial authOk unpaired empty secret) (d : Drive) :
    (twinLinkUp serial authOk unpaired empty secret d).array = d.array := by unfold twinLinkUp; simp

@[simp] theorem takeCounts_array (l) (d : Drive) : (takeCounts l d).array = d.array := by
  induction l generalizing d with
  | nil => rfl
  | cons c l ih =>
    rw [takeCounts, ih]
    split <;> simp

@[simp] theorem Drive.askTwinRoll_array (d : Drive) : (Drive.askTwinRoll d).array = d.array := by unfold Drive.askTwinRoll; simp
@[simp] theorem Drive.enterPaired_array (d : Drive) : (Drive.enterPaired d).array = d.array := by unfold Drive.enterPaired; simp

@[simp] theorem tellPrepared_array (l) (d : Drive) : (tellPrepared l d).array = d.array := by
  induction l generalizing d with
  | nil => rfl
  | cons p l ih =>
    rw [tellPrepared, ih]
    split <;> simp

@[simp] theorem takeRow_array (d : Drive) (x) : (takeRow d x).array = d.array := by unfold takeRow; simp
@[simp] theorem dropRow_array (d : Drive) (n) : (dropRow d n).array = d.array := by unfold dropRow; simp
@[simp] theorem Drive.takeTables_array (t) (d : Drive) : (Drive.takeTables t d).array = d.array := by unfold Drive.takeTables; simp
@[simp] theorem raiseNonce_array (d : Drive) (p) : (raiseNonce d p).array = d.array := by unfold raiseNonce; simp
@[simp] theorem raiseCounter_array (d : Drive) (p) : (raiseCounter d p).array = d.array := by unfold raiseCounter; simp
@[simp] theorem Drive.enterRange_array (d : Drive) : (Drive.enterRange d).array = d.array := by unfold Drive.enterRange; simp
@[simp] theorem homeReturn_array (version) (d : Drive) : (homeReturn version d).array = d.array := by unfold homeReturn; simp

@[simp] theorem tellZero_array (l) (d : Drive) : (tellZero l d).array = d.array := by
  induction l generalizing d with
  | nil => rfl
  | cons x l ih => simp [tellZero, ih]

@[simp] theorem Drive.sendFetch_array (s) (d : Drive) : (Drive.sendFetch s d).array = d.array := by unfold Drive.sendFetch; simp

@[simp] theorem sendFetches_array (l) (d : Drive) : (sendFetches l d).array = d.array := by
  induction l generalizing d with
  | nil => rfl
  | cons x l ih => simp [sendFetches, ih]

@[simp] theorem reserveReq_array (granulesWanted entriesWanted) (d : Drive) : (reserveReq granulesWanted entriesWanted d).array = d.array := by
  unfold reserveReq
  simp

@[simp] theorem reserveGrant_array (g e) (d : Drive) : (reserveGrant g e d).array = d.array := by unfold reserveGrant; simp

@[simp] theorem chunkFetch_array (opId ns tag version chunk verifies) (d : Drive) :
    (chunkFetch opId ns tag version chunk verifies d).array = d.array := by unfold chunkFetch; simp

@[simp] theorem tableAckMsg_array (opId seq) (d : Drive) : (tableAckMsg opId seq d).array = d.array := by unfold tableAckMsg; simp
@[simp] theorem Drive.newPairKeys_array (d : Drive) : (Drive.newPairKeys d).array = d.array := by unfold Drive.newPairKeys; simp
@[simp] theorem adoptTwin_array (o) (d : Drive) : (adoptTwin o d).array = d.array := by unfold adoptTwin; simp

/-! ### Witness -/

@[simp] theorem Drive.setServed_array (pos w) (d : Drive) : (Drive.setServed pos w d).array = d.array := by unfold Drive.setServed; simp
@[simp] theorem Drive.denyAlive_array (pos) (d : Drive) : (Drive.denyAlive pos d).array = d.array := by unfold Drive.denyAlive; simp
@[simp] theorem leaseReq_array (src seq epoch) (d : Drive) : (leaseReq src seq epoch d).array = d.array := by unfold leaseReq; simp
@[simp] theorem probeMsg_array (src seq) (d : Drive) : (probeMsg src seq d).array = d.array := by unfold probeMsg; simp
@[simp] theorem probeAnswer_array (src seq) (d : Drive) : (probeAnswer src seq d).array = d.array := by unfold probeAnswer; simp

@[simp] theorem witnessProbeTick_array (pair) (d : Drive) : (witnessProbeTick pair d).array = d.array := by
  unfold witnessProbeTick
  split <;> simp

@[simp] theorem witnessGrantHold_array (pos) (d : Drive) : (witnessGrantHold pos d).array = d.array := by
  unfold witnessGrantHold
  dsimp only
  split <;> simp

@[simp] theorem witnessFreezeEnd_array (d : Drive) : (witnessFreezeEnd d).array = d.array := by unfold witnessFreezeEnd; simp
@[simp] theorem clearMsg_array (src seq) (d : Drive) : (clearMsg src seq d).array = d.array := by unfold clearMsg; simp
@[simp] theorem leaseAssert_array (src seq epoch) (d : Drive) : (leaseAssert src seq epoch d).array = d.array := by unfold leaseAssert; simp
@[simp] theorem leaseRelease_array (src seq) (d : Drive) : (leaseRelease src seq d).array = d.array := by unfold leaseRelease; simp
@[simp] theorem leaseDeny_array (src seq reason) (d : Drive) : (leaseDeny src seq reason d).array = d.array := by unfold leaseDeny; simp
@[simp] theorem fencedNotice_array (src seq) (d : Drive) : (fencedNotice src seq d).array = d.array := by unfold fencedNotice; simp
@[simp] theorem leaseReqResend_array (d : Drive) : (leaseReqResend d).array = d.array := by unfold leaseReqResend; simp
@[simp] theorem clearSend_array (d : Drive) : (clearSend d).array = d.array := by unfold clearSend; simp
@[simp] theorem cleared_array (src seq) (d : Drive) : (cleared src seq d).array = d.array := by unfold cleared; simp
@[simp] theorem clearanceLapse_array (d : Drive) : (clearanceLapse d).array = d.array := by unfold clearanceLapse; simp
@[simp] theorem leaseAssertSend_array (d : Drive) : (leaseAssertSend d).array = d.array := by unfold leaseAssertSend; simp
@[simp] theorem witnessWrite_array (v) (d : Drive) : (witnessWrite v d).dev.array = d.array := by unfold witnessWrite; simp

/-! ### Hedgerow -/

@[simp] theorem ringHello_array (src east direct keyHash serial cycles random reach) (d : Drive) :
    (ringHello src east direct keyHash serial cycles random reach d).array = d.array := by unfold ringHello; simp

theorem Drive.sayHello_array (d : Drive) : d.sayHello.array = d.array := by
  unfold Drive.sayHello
  simp

@[simp] theorem ringHelloSend_array (d : Drive) : (ringHelloSend d).array = d.array := by
  rw [ringHelloSend_eq]
  split
  · rfl
  · rw [Drive.sayHello_array, Drive.advanceTo_array]

@[simp] theorem ringLinkLoss_array (east) (d : Drive) : (ringLinkLoss east d).array = d.array := by unfold ringLinkLoss; simp

@[simp] theorem forwardFrame_array (f) (d : Drive) : (forwardFrame f d).array = d.array := by
  unfold forwardFrame
  simp
  split <;> simp

@[simp] theorem ringForward_array (fs) (d : Drive) : (ringForward fs d).array = d.array := by unfold ringForward; simp

/-! ### Shears -/

@[simp] theorem shearsAdmit_array (port) (d : Drive) : (shearsAdmit port d).array = d.array := by
  unfold shearsAdmit
  dsimp only
  split
  · simp
  split <;> simp

/-! ### Holly -/

@[simp] theorem Drive.setPair_array (p x) (d : Drive) : (Drive.setPair p x d).array = d.array := by unfold Drive.setPair; simp

@[simp] theorem Drive.failInternal_array (o) (d : Drive) : (Drive.failInternal o d).array = d.array := by
  unfold Drive.failInternal
  split <;> simp

@[simp] theorem hollyFail_array (q) (d : Drive) : (hollyFail q d).array = d.array := by
  unfold hollyFail
  dsimp only
  repeat' split
  all_goals simp

@[simp] theorem hollyMismatch_array (p q) (d : Drive) : (hollyMismatch p q d).array = d.array := by unfold hollyMismatch; simp

@[simp] theorem giveHolly_array (n) (d : Drive) : (giveHolly n d).array = d.array := by
  induction n generalizing d with
  | zero => rfl
  | succ n ih =>
    rw [giveHolly]
    split
    · rfl
    dsimp only
    split
    · simp [ih]
    split
    · rfl
    · exact ih _

@[simp] theorem hollyDispatch_array (arrivals freed mismatch) (d : Drive) : (hollyDispatch arrivals freed mismatch d).array = d.array := by
  unfold hollyDispatch
  dsimp only
  split <;> simp

@[simp] theorem compatSuspend_array (blocks) (d : Drive) : (compatSuspend blocks d).array = d.array := by
  unfold compatSuspend
  split <;> simp

@[simp] theorem compatResume_array (resumeId unwraps tag) (d : Drive) : (compatResume resumeId unwraps tag d).array = d.array := by
  unfold compatResume
  simp

/-! ### Media -/

@[simp] theorem suspendComplete_array (die) (d : Drive) : (suspendComplete die d).array = d.array := by
  unfold suspendComplete
  split <;> simp

@[simp] theorem busyWindowEntry_array (die) (d : Drive) : (busyWindowEntry die d).array = d.array := by
  unfold busyWindowEntry
  split <;> simp

@[simp] theorem eraseWindowEnd_array (die) (d : Drive) : (eraseWindowEnd die d).array = d.array := by
  unfold eraseWindowEnd
  split <;> simp

@[simp] theorem starvationGuardTrip_array (die) (d : Drive) : (starvationGuardTrip die d).array = d.array := by
  unfold starvationGuardTrip
  split <;> simp

@[simp] theorem reconInterval_array (d : Drive) : (reconInterval d).array = d.array := by unfold reconInterval; simp

theorem Drive.issueProgram_array {job} {sb} {gran} {d : Drive} {z : Drive} (h : (Drive.issueProgram job sb gran d) = some z) :
    z.array = d.array := by
  unfold Drive.issueProgram at h
  dsimp only at h
  split at h
  · obtain rfl := Option.some.inj h
    rfl
  · cases h

@[simp] theorem programmedReqs_array (v l) (d : Drive) : (programmedReqs v l d).array = d.array := by
  induction l generalizing d with
  | nil => rfl
  | cons x l ih => simp [programmedReqs, ih]

@[simp] theorem markBad_array (sb l) (d : Drive) : (markBad sb l d).array = d.array := by
  induction l generalizing d with
  | nil => rfl
  | cons x l ih => simp [markBad, ih]

@[simp] theorem recalibrate_array (sb l) (d : Drive) : (recalibrate sb l d).array = d.array := by
  induction l generalizing d with
  | nil => rfl
  | cons x l ih => simp [recalibrate, ih]

@[simp] theorem patrolLate_array (sb) (d : Drive) : (patrolLate sb d).array = d.array := by unfold patrolLate; simp

/-! ### Reads -/

@[simp] theorem Drive.rerunRead_array (r) (d : Drive) : (Drive.rerunRead r d).array = d.array := by
  unfold Drive.rerunRead
  split <;> simp

@[simp] theorem listRead_array (r s unreadable) (d : Drive) : (listRead r s unreadable d).array = d.array := by
  unfold listRead
  dsimp only
  split
  · simp
  split <;> simp

@[simp] theorem Drive.ifCurrent_array {k : Drive → Drive} (hf : ∀ d, (k d).array = d.array) (s r) (d : Drive) :
    (d.ifCurrent s r k).array = d.array := by
  unfold Drive.ifCurrent
  simp [hf]

@[simp] theorem headerGood_array (s) (d : Drive) : (headerGood s d).array = d.array := by
  unfold headerGood
  split
  · simp
  split
  · simp
  · refine Drive.ifCurrent_array (fun d => ?_) ..
    split <;> simp

@[simp] theorem releaseChunk_array (s) (d : Drive) : (releaseChunk s d).array = d.array := by unfold releaseChunk; simp

@[simp] theorem chunkGood_array (s) (d : Drive) : (chunkGood s d).array = d.array := by
  unfold chunkGood
  simp
  split <;> simp

@[simp] theorem ladderEnds_array {out : Stream → Drive → Drive} (hf : ∀ s d, (out s d).array = d.array) (s) (d : Drive) :
    (ladderEnds s out d).array = d.array := by
  unfold ladderEnds
  refine foldl_array (fun d x => ?_) ..
  simp [hf]

@[simp] theorem endAuthFail_array (s) (d : Drive) : (endAuthFail s d).array = d.array := by
  unfold endAuthFail
  split <;> simp

@[simp] theorem Drive.markCurrent_array (s) (d : Drive) : (Drive.markCurrent s d).array = d.array := by
  unfold Drive.markCurrent
  dsimp only
  split <;> simp

@[simp] theorem ladderFail_array (s) (d : Drive) : (ladderFail s d).array = d.array := by unfold ladderFail; simp
@[simp] theorem ladderFetch_array (s) (d : Drive) : (ladderFetch s d).array = d.array := by unfold ladderFetch; simp

@[simp] theorem ladderNext_array (s) (d : Drive) : (ladderNext s d).array = d.array := by
  unfold ladderNext
  split <;> simp

@[simp] theorem chunkFetchTimeout_array (opId) (d : Drive) : (chunkFetchTimeout opId d).array = d.array := by
  unfold chunkFetchTimeout
  split <;> simp

/-! ### Checkpoint -/

@[simp] theorem Drive.snapshot_array (d : Drive) : (Drive.snapshot d).array = d.array := by unfold Drive.snapshot; simp

@[simp] theorem sendAcks_array (l) (d : Drive) : (sendAcks l d).array = d.array := by
  induction l generalizing d with
  | nil => rfl
  | cons x l ih => simp [sendAcks, ih]

@[simp] theorem Drive.holdup_array (mj temp first) (d : Drive) : (Drive.holdup mj temp first d).array = d.array := by
  unfold Drive.holdup
  simp

@[simp] theorem holdupMeasure_array (mj temp) (d : Drive) : (holdupMeasure mj temp d).array = d.array := by unfold holdupMeasure; simp

/-! ### Privet -/

@[simp] theorem Drive.police_array (n len) (d : Drive) : (Drive.police n len d).2.array = d.array := by unfold Drive.police; simp
@[simp] theorem Drive.privetCopy_array (f c) (d : Drive) : (Drive.privetCopy f c d).array = d.array := by unfold Drive.privetCopy; simp

@[simp] theorem Drive.applyAction_array (f cls idx a c) (d : Drive) : (Drive.applyAction f cls idx a c d).2.array = d.array := by
  unfold Drive.applyAction
  simp

@[simp] theorem Drive.classify_array (f) (d : Drive) : (Drive.classify f d).2.array = d.array := by
  unfold Drive.classify
  dsimp only
  split <;> simp

@[simp] theorem Drive.modPchan_array (ch f) (d : Drive) : (Drive.modPchan ch f d).array = d.array := by unfold Drive.modPchan; simp
@[simp] theorem Drive.setPentry_array (sel e) (d : Drive) : (Drive.setPentry sel e d).array = d.array := by unfold Drive.setPentry; simp

@[simp] theorem Drive.tableChanged_array (cmd sel ch) (d : Drive) : (Drive.tableChanged cmd sel ch d).array = d.array := by
  unfold Drive.tableChanged
  simp

@[simp] theorem entryRead_array (ch) (d : Drive) : (entryRead ch d).dev.array = d.array := by unfold entryRead; simp
@[simp] theorem entryWrite_array (ch) (d : Drive) : (entryWrite ch d).dev.array = d.array := by unfold entryWrite; simp
@[simp] theorem entryInvalidate_array (ch) (d : Drive) : (entryInvalidate ch d).dev.array = d.array := by unfold entryInvalidate; simp
@[simp] theorem entryMove_array (ch) (d : Drive) : (entryMove ch d).dev.array = d.array := by unfold entryMove; simp
@[simp] theorem Drive.setAction_array (i a) (d : Drive) : (Drive.setAction i a d).array = d.array := by unfold Drive.setAction; simp
@[simp] theorem actionRead_array (ch) (d : Drive) : (actionRead ch d).dev.array = d.array := by unfold actionRead; simp
@[simp] theorem actionWrite_array (ch) (d : Drive) : (actionWrite ch d).dev.array = d.array := by unfold actionWrite; simp

@[simp] theorem bankWidthWrite_array (v) (d : Drive) : (bankWidthWrite v d).dev.array = d.array := by
  unfold bankWidthWrite
  split <;> simp

@[simp] theorem Drive.setDefault_array (port a) (d : Drive) : (Drive.setDefault port a d).array = d.array := by
  unfold Drive.setDefault
  simp

@[simp] theorem defaultActionWrite_array (port a) (d : Drive) : (defaultActionWrite port a d).dev.array = d.array := by
  unfold defaultActionWrite
  simp

@[simp] theorem Drive.probeFound_array (ch hit multiple tie) (d : Drive) : (Drive.probeFound ch hit multiple tie d).array = d.array := by
  unfold Drive.probeFound
  simp

@[simp] theorem probeFirst_array (ch) (d : Drive) : (probeFirst ch d).dev.array = d.array := by
  unfold probeFirst
  dsimp only
  split <;> simp

@[simp] theorem probeNext_array (ch) (d : Drive) : (probeNext ch d).dev.array = d.array := by
  unfold probeNext
  dsimp only
  split <;> simp

@[simp] theorem scrubEntries_array (l) (d : Drive) : (scrubEntries l d).array = d.array := by
  induction l generalizing d with
  | nil => rfl
  | cons x l ih => simp [scrubEntries, ih]

@[simp] theorem scrubActions_array (l) (d : Drive) : (scrubActions l d).array = d.array := by
  induction l generalizing d with
  | nil => rfl
  | cons x l ih => simp [scrubActions, ih]

@[simp] theorem scrubDefault_array (port) (d : Drive) : (scrubDefault port d).array = d.array := by unfold scrubDefault; simp

@[simp] theorem loseEntries_array (l) (d : Drive) : (loseEntries l d).array = d.array := by
  induction l generalizing d with
  | nil => rfl
  | cons x l ih => simp [loseEntries, ih]

@[simp] theorem loseActions_array (l) (d : Drive) : (loseActions l d).array = d.array := by
  induction l generalizing d with
  | nil => rfl
  | cons x l ih => simp [loseActions, ih]

@[simp] theorem privetScrub_array (upsets actionUpsets lost lostActions) (d : Drive) :
    (privetScrub upsets actionUpsets lost lostActions d).array = d.array := by unfold privetScrub; simp

/-! ### Ports -/

@[simp] theorem Drive.negotiate_array (p) (d : Drive) : (Drive.negotiate p d).array = d.array := by unfold Drive.negotiate; simp

@[simp] theorem pathsDown_array (p l) (d : Drive) : (pathsDown p l d).array = d.array := by
  induction l generalizing d with
  | nil => rfl
  | cons x l ih => simp [pathsDown, ih]

@[simp] theorem Drive.linkLost_array (p) (d : Drive) : (Drive.linkLost p d).array = d.array := by unfold Drive.linkLost; simp

@[simp] theorem autonegComplete_array (p partner) (d : Drive) : (autonegComplete p partner d).array = d.array := by
  unfold autonegComplete
  simp
  split <;> simp

@[simp] theorem trainingComplete_array (p trained) (d : Drive) : (trainingComplete p trained d).array = d.array := by
  unfold trainingComplete
  simp
  split <;> simp

@[simp] theorem linkDown_array (p cause hiSer) (d : Drive) : (linkDown p cause hiSer d).array = d.array := by
  unfold linkDown
  simp
  split <;> simp

@[simp] theorem holdoffExpiry_array (p) (d : Drive) : (holdoffExpiry p d).array = d.array := by unfold holdoffExpiry; simp

@[simp] theorem trainingFail_array (p trained) (d : Drive) : (trainingFail p trained d).array = d.array := by
  unfold trainingFail
  simp
  split <;> simp

@[simp] theorem Drive.retrain_array (p requester) (d : Drive) : (Drive.retrain p requester d).array = d.array := by
  unfold Drive.retrain
  simp

@[simp] theorem speedFallbackExpiry_array (p speed) (d : Drive) : (speedFallbackExpiry p speed d).array = d.array := by
  unfold speedFallbackExpiry
  split <;> simp

@[simp] theorem portCtl_array (ch p v) (d : Drive) : (portCtl ch p v d).dev.array = d.array := by unfold portCtl; simp
@[simp] theorem portRetrain_array (ch p) (d : Drive) : (portRetrain ch p d).dev.array = d.array := by unfold portRetrain; simp

@[simp] theorem portEnableWrite_array (ch p on) (d : Drive) : (portEnableWrite ch p on d).dev.array = d.array := by
  unfold portEnableWrite
  simp

@[simp] theorem Drive.modIface_array (p vid f) (d : Drive) : (Drive.modIface p vid f d).array = d.array := by unfold Drive.modIface; simp

@[simp] theorem Drive.fwSend_array (p vid proto what cast args len) (d : Drive) :
    (Drive.fwSend p vid proto what cast args len d).array = d.array := by unfold Drive.fwSend; simp

@[simp] theorem beginDetection_array (p vid v6 a) (d : Drive) : (beginDetection p vid v6 a d).array = d.array := by
  unfold beginDetection
  simp

@[simp] theorem linkUp_array (p) (d : Drive) : (linkUp p d).array = d.array := by unfold linkUp; simp
@[simp] theorem ifaceWrite_array (p vid n) (d : Drive) : (ifaceWrite p vid n d).array = d.array := by unfold ifaceWrite; simp
@[simp] theorem addressClear_array (p vid v6 a) (d : Drive) : (addressClear p vid v6 a d).array = d.array := by unfold addressClear; simp

@[simp] theorem Drive.addressConflict_array (p vid v6 a) (d : Drive) : (Drive.addressConflict p vid v6 a d).array = d.array := by
  unfold Drive.addressConflict
  simp

@[simp] theorem Drive.overflow_array (p ring mid) (d : Drive) : (Drive.overflow p ring mid d).array = d.array := by
  unfold Drive.overflow
  simp

@[simp] theorem Drive.toRing_array (p ring c) (d : Drive) : (Drive.toRing p ring c d).2.array = d.array := by unfold Drive.toRing; simp
@[simp] theorem Drive.protoToken_array (p k) (d : Drive) : (Drive.protoToken p k d).2.array = d.array := by unfold Drive.protoToken; simp
@[simp] theorem Drive.truncCaptured_array (f) (d : Drive) : (Drive.truncCaptured f d).array = d.array := by unfold Drive.truncCaptured; simp
@[simp] theorem Drive.delivered_array (f ring) (d : Drive) : (Drive.delivered f ring d).array = d.array := by unfold Drive.delivered; simp

@[simp] theorem Drive.unserved_array (p ring cls) (d : Drive) : (Drive.unserved p ring cls d).array = d.array := by
  unfold Drive.unserved
  simp

@[simp] theorem Drive.fecCount_array (p e) (d : Drive) : (Drive.fecCount p e d).array = d.array := by unfold Drive.fecCount; simp

@[simp] theorem frameReceive_array (f) (d : Drive) : (frameReceive f d).array = d.array := by
  unfold frameReceive
  dsimp only
  repeat' split
  all_goals simp

@[simp] theorem arpFrame_array (f) (d : Drive) : (arpFrame f d).array = d.array := by unfold arpFrame; simp

@[simp] theorem ndFrame_array (f) (d : Drive) : (ndFrame f d).array = d.array := by
  unfold ndFrame
  simp
  split <;> simp

@[simp] theorem icmpEcho_array (p vid v6 source payload) (d : Drive) : (icmpEcho p vid v6 source payload d).array = d.array := by
  unfold icmpEcho
  simp

@[simp] theorem dhcpMessage_array (m) (d : Drive) : (dhcpMessage m d).array = d.array := by unfold dhcpMessage; simp

@[simp] theorem dhcpLeaseLost_array (p vid v6) (d : Drive) : (dhcpLeaseLost p vid v6 d).array = d.array := by
  unfold dhcpLeaseLost
  split <;> simp

@[simp] theorem lldpFrame_array (p chassisKind portKind chassis portId) (d : Drive) :
    (lldpFrame p chassisKind portKind chassis portId d).array = d.array := by unfold lldpFrame; simp

@[simp] theorem Drive.lldpSend_array (p) (d : Drive) : (Drive.lldpSend p d).array = d.array := by unfold Drive.lldpSend; simp
@[simp] theorem lldpTransmit_array (d : Drive) : (lldpTransmit d).array = d.array := by unfold lldpTransmit; simp

@[simp] theorem Drive.txStamp_array (p vid kind seq) (d : Drive) : (Drive.txStamp p vid kind seq d).array = d.array := by
  unfold Drive.txStamp
  simp

@[simp] theorem txtsRead_array (p) (d : Drive) : (txtsRead p d).array = d.array := by
  unfold txtsRead
  simp
  split <;> simp

@[simp] theorem statsModeWrite_array (p v) (d : Drive) : (statsModeWrite p v d).dev.array = d.array := by unfold statsModeWrite; simp

/-! ### Time -/

@[simp] theorem Drive.withTrust_array {k : Drive → Drive} (hf : ∀ d, (k d).array = d.array) (d : Drive) : (d.withTrust k).array = d.array := by
  unfold Drive.withTrust
  dsimp only
  simp [hf]

@[simp] theorem Drive.stepWall_array (theta) (d : Drive) : (Drive.stepWall theta d).array = d.array := by unfold Drive.stepWall; simp
@[simp] theorem Drive.slew_array (d : Drive) : (Drive.slew d).array = d.array := by unfold Drive.slew; simp
@[simp] theorem Drive.measure_array (theta) (d : Drive) : (Drive.measure theta d).array = d.array := by unfold Drive.measure; simp
@[simp] theorem Drive.follow_array (src) (d : Drive) : (Drive.follow src d).array = d.array := by unfold Drive.follow; simp
@[simp] theorem Drive.qualify_array (src) (d : Drive) : (Drive.qualify src d).array = d.array := by unfold Drive.qualify; simp
@[simp] theorem Drive.enterHoldover_array (d : Drive) : (Drive.enterHoldover d).array = d.array := by unfold Drive.enterHoldover; simp

@[simp] theorem Drive.loseSource_array (src) (d : Drive) : (Drive.loseSource src d).array = d.array := by
  unfold Drive.loseSource
  simp
  split <;> simp

@[simp] theorem Drive.settleHoldover_array (d : Drive) : (Drive.settleHoldover d).array = d.array := by unfold Drive.settleHoldover; simp

@[simp] theorem Drive.reselect_array (d : Drive) : (Drive.reselect d).array = d.array := by
  unfold Drive.reselect
  split
  · split <;> simp
  split
  · rfl
  · split <;> simp

@[simp] theorem sourceLost_array (src) (d : Drive) : (sourceLost src d).array = d.array := by unfold sourceLost; simp

@[simp] theorem sourceChange_array (src) (d : Drive) : (sourceChange src d).array = d.array := by
  unfold sourceChange
  split <;> simp

@[simp] theorem holdoverTrustLost_array (d : Drive) : (holdoverTrustLost d).array = d.array := by unfold holdoverTrustLost; simp
@[simp] theorem wallSet_array (seconds ns) (d : Drive) : (wallSet seconds ns d).dev.array = d.array := by unfold wallSet; simp
@[simp] theorem optimeReservation_array (d : Drive) : (optimeReservation d).array = d.array := by unfold optimeReservation; simp

@[simp] theorem Drive.takeUtc_array (utc leap61 leap59) (d : Drive) : (Drive.takeUtc utc leap61 leap59 d).array = d.array := by
  unfold Drive.takeUtc
  simp

@[simp] theorem Drive.todUtc_array (m) (d : Drive) : (Drive.todUtc m d).array = d.array := by unfold Drive.todUtc; simp

@[simp] theorem todMessage_array (msg) (d : Drive) : (todMessage msg d).array = d.array := by
  unfold todMessage
  split <;> simp

@[simp] theorem ppsInEdge_array (opNs) (d : Drive) : (ppsInEdge opNs d).array = d.array := by
  unfold ppsInEdge
  obtain ⟨f, hf⟩ : ∃ f, Drive.advanceTo = f := ⟨_, rfl⟩
  have h := Drive.advanceTo_array opNs d
  rw [hf] at h ⊢
  extract_lets +onlyGivenNames d1 spaced agrees named src d2 d3 d4
  have h2 : d2.array = d.array := h
  have h3 : d3.array = d2.array := by
    dsimp only [d3]
    split
    · simp
    · rfl
  have h4 : d4.array = d3.array := by
    dsimp only [d4]
    split
    · simp
    · rfl
  clear_value d4 d3 d2 agrees spaced named
  split
  · rw [Drive.loseSource_array, h3, h2]
  · split
    · split
      · rw [Drive.measure_array, Drive.todUtc_array, h4, h3, h2]
      · rw [h4, h3, h2]
    · rw [h4, h3, h2]

@[simp] theorem ppsOutEdge_array (d : Drive) : (ppsOutEdge d).array = d.array := by unfold ppsOutEdge; simp
@[simp] theorem leapSecond_array (d : Drive) : (leapSecond d).array = d.array := by unfold leapSecond; simp
@[simp] theorem Drive.modPtp_array (p f) (d : Drive) : (Drive.modPtp p f d).array = d.array := by unfold Drive.modPtp; simp

@[simp] theorem Drive.ptpSend_array (p vid kind seq args) (d : Drive) : (Drive.ptpSend p vid kind seq args d).array = d.array := by
  unfold Drive.ptpSend
  simp

@[simp] theorem ptpSendAll_array (p kind seq args l) (d : Drive) : (ptpSendAll p kind seq args l d).array = d.array := by
  induction l generalizing d with
  | nil => rfl
  | cons x l ih => simp [ptpSendAll, ih]

@[simp] theorem ptpMessage_array (m) (d : Drive) : (ptpMessage m d).array = d.array := by
  unfold ptpMessage
  dsimp only
  repeat' split
  all_goals simp

@[simp] theorem ptpIntervalTransmit_array (p kind) (d : Drive) : (ptpIntervalTransmit p kind d).array = d.array := by
  unfold ptpIntervalTransmit
  simp

/-! ### Recorder -/

@[simp] theorem Drive.closeEpisode_array (d : Drive) : (Drive.closeEpisode d).array = d.array := by
  unfold Drive.closeEpisode
  split
  · rfl
  dsimp only
  split
  · rfl
  · split
    · split <;> simp
    · simp

@[simp] theorem Drive.groupWritten_array (d : Drive) : (Drive.groupWritten d).array = d.array := by unfold Drive.groupWritten; simp
@[simp] theorem logGroupWritten_array (d : Drive) : (logGroupWritten d).array = d.array := by unfold logGroupWritten; simp

@[simp] theorem stagingFlush_array (d : Drive) : (stagingFlush d).array = d.array := by
  unfold stagingFlush
  split <;> simp

@[simp] theorem flushAll_array (n) (d : Drive) : (flushAll n d).array = d.array := by
  induction n generalizing d with
  | zero => rfl
  | succ n ih => simp [flushAll, ih]

@[simp] theorem logFreeze_array (o) (d : Drive) : (logFreeze o d).array = d.array := by
  unfold logFreeze
  refine Drive.withReq_array (fun r d => ?_) ..
  simp
  split <;> simp

@[simp] theorem Drive.thaw_array (cause) (d : Drive) : (Drive.thaw cause d).array = d.array := by unfold Drive.thaw; simp
@[simp] theorem logThaw_array (o) (d : Drive) : (logThaw o d).array = d.array := by unfold logThaw; simp
@[simp] theorem logFreezeTimeout_array (d : Drive) : (logFreezeTimeout d).array = d.array := by unfold logFreezeTimeout; simp
@[simp] theorem logCtl_array (v) (d : Drive) : (logCtl v d).dev.array = d.array := by unfold logCtl; simp
@[simp] theorem Drive.setLogChan_array (ch x) (d : Drive) : (Drive.setLogChan ch x d).array = d.array := by unfold Drive.setLogChan; simp
@[simp] theorem windowLoad_array (ch hi lo) (d : Drive) : (windowLoad ch hi lo d).dev.array = d.array := by unfold windowLoad; simp
@[simp] theorem Drive.dropHeld_array (ch) (d : Drive) : (Drive.dropHeld ch d).array = d.array := by unfold Drive.dropHeld; simp
@[simp] theorem logWindowLoad_array (ch hi) (d : Drive) : (logWindowLoad ch hi d).dev.array = d.array := by unfold logWindowLoad; simp
@[simp] theorem eventEnableWrite_array (i v) (d : Drive) : (eventEnableWrite i v d).dev.array = d.array := by unfold eventEnableWrite; simp

@[simp] theorem healthSave_array (d : Drive) : (healthSave d).array = d.array := by
  have hsaved : ∀ z : Drive, ({ ({ z with health.savedAt := z.now } : Drive) with
    healthSaved := ({ z with health.savedAt := z.now } : Drive).health } : Drive).array = z.array := fun _ => rfl
  exact (hsaved _).trans (Drive.advanceTo_array (d.health.savedAt + 600000000000) d)

@[simp] theorem tempBinMinute_array (d : Drive) : (tempBinMinute d).array = d.array := by unfold tempBinMinute; simp

/-! ### Rails -/

@[simp] theorem Drive.approvedWatch_array (d : Drive) : (Drive.approvedWatch d).array = d.array := by unfold Drive.approvedWatch; simp

@[simp] theorem Drive.tearSector_array (sector) (d : Drive) : (Drive.tearSector sector d).array = d.array := by
  unfold Drive.tearSector
  simp

@[simp] theorem Drive.tearWrites_array (d : Drive) : (Drive.tearWrites d).array = d.array := by unfold Drive.tearWrites; simp
@[simp] theorem Drive.settleRecords_array (d : Drive) : (Drive.settleRecords d).array = d.array := by unfold Drive.settleRecords; simp
@[simp] theorem Drive.keepBatches_array (d : Drive) : (Drive.keepBatches d).array = d.array := by unfold Drive.keepBatches; simp
@[simp] theorem Drive.loseBatches_array (d : Drive) : (Drive.loseBatches d).array = d.array := by unfold Drive.loseBatches; simp
@[simp] theorem Drive.sidebandOff_array (d : Drive) : (Drive.sidebandOff d).array = d.array := by unfold Drive.sidebandOff; simp
@[simp] theorem Drive.endMaint_array (cause) (d : Drive) : (Drive.endMaint cause d).array = d.array := by unfold Drive.endMaint; simp
@[simp] theorem Drive.leaveRecord_array (d : Drive) : (Drive.leaveRecord d).array = d.array := by unfold Drive.leaveRecord; simp

/-! ### Security -/

@[simp] theorem Drive.zeroiseNext_array (d : Drive) : (Drive.zeroiseNext d).array = d.array := by unfold Drive.zeroiseNext; simp
@[simp] theorem zeroiseEraseComplete_array (d : Drive) : (zeroiseEraseComplete d).array = d.array := by unfold zeroiseEraseComplete; simp

@[simp] theorem zeroizeArmExpiry_array (d : Drive) : (zeroizeArmExpiry d).array = d.array := by
  unfold zeroizeArmExpiry
  split <;> simp

@[simp] theorem maintEnableWrite_array (v) (d : Drive) : (maintEnableWrite v d).dev.array = d.array := by unfold maintEnableWrite; simp
@[simp] theorem maintFuseWrite_array (ch v) (d : Drive) : (maintFuseWrite ch v d).dev.array = d.array := by unfold maintFuseWrite; simp

@[simp] theorem maintFuseArmExpiry_array (d : Drive) : (maintFuseArmExpiry d).array = d.array := by
  unfold maintFuseArmExpiry
  split <;> simp

@[simp] theorem Drive.newChallenge_array (d : Drive) : (Drive.newChallenge d).array = d.array := by unfold Drive.newChallenge; simp
@[simp] theorem Drive.bootRecord_array (f) (d : Drive) : (Drive.bootRecord f d).array = d.array := by unfold Drive.bootRecord; simp

@[simp] theorem maintToken_array (session services serial challenge duration keyOk signatureOk) (d : Drive) :
    (maintToken session services serial challenge duration keyOk signatureOk d).array = d.array := by
  unfold maintToken
  simp
  split <;> simp

@[simp] theorem maintExit_array (session) (d : Drive) : (maintExit session d).array = d.array := by
  unfold maintExit
  split <;> simp

@[simp] theorem maintDurationExpiry_array (d : Drive) : (maintDurationExpiry d).array = d.array := by
  unfold maintDurationExpiry
  split <;> simp

@[simp] theorem svnRaise_array (d : Drive) : (svnRaise d).array = d.array := by
  unfold svnRaise
  split <;> simp

@[simp] theorem Drive.endSpdm_array (session) (d : Drive) : (Drive.endSpdm session d).array = d.array := by
  unfold Drive.endSpdm
  dsimp only
  split <;> simp

@[simp] theorem endAllSpdm_array (l) (d : Drive) : (endAllSpdm l d).array = d.array := by
  induction l generalizing d with
  | nil => rfl
  | cons x l ih => simp [endAllSpdm, ih]

@[simp] theorem Drive.dropStale_array (d : Drive) : (Drive.dropStale d).array = d.array := by unfold Drive.dropStale; simp
@[simp] theorem spdmSay_array (session code args) (d : Drive) : (spdmSay session code args d).array = d.array := by unfold spdmSay; simp
@[simp] theorem spdmError_array (session code) (d : Drive) : (spdmError session code d).array = d.array := by unfold spdmError; simp

@[simp] theorem Drive.negotiated_array {k : Drive → Drive} (hf : ∀ d, (k d).array = d.array) (s n) (d : Drive) :
    (d.negotiated s n k).array = d.array := by
  unfold Drive.negotiated
  simp [hf]

@[simp] theorem getVersion_array (d : Drive) : (getVersion d).array = d.array := by unfold getVersion; simp
@[simp] theorem getCapabilities_array (ok) (d : Drive) : (getCapabilities ok d).array = d.array := by unfold getCapabilities; simp

@[simp] theorem negotiateAlgorithms_array (offered) (d : Drive) : (negotiateAlgorithms offered d).array = d.array := by
  unfold negotiateAlgorithms
  simp

@[simp] theorem getDigests_array (session) (d : Drive) : (getDigests session d).array = d.array := by unfold getDigests; simp

@[simp] theorem getCertificate_array (session slot) (d : Drive) : (getCertificate session slot d).array = d.array := by
  unfold getCertificate
  refine Drive.negotiated_array (fun d => ?_) ..
  split <;> simp

@[simp] theorem challengeMsg_array (slot) (d : Drive) : (challengeMsg slot d).array = d.array := by unfold challengeMsg; simp

@[simp] theorem getMeasurements_array (session index) (d : Drive) : (getMeasurements session index d).array = d.array := by
  unfold getMeasurements
  refine Drive.negotiated_array (fun d => ?_) ..
  simp
  split <;> simp

@[simp] theorem keyExchange_array (d : Drive) : (keyExchange d).array = d.array := by unfold keyExchange; simp

@[simp] theorem finishMsg_array (session eid requester ok) (d : Drive) : (finishMsg session eid requester ok d).array = d.array := by
  unfold finishMsg
  split <;> simp

@[simp] theorem Drive.inSpdm_array {f : SpdmSession → Drive → Drive} (hf : ∀ s d, (f s d).array = d.array) (s) (d : Drive) :
    (d.inSpdm s f).array = d.array := by
  unfold Drive.inSpdm
  split
  · split <;> simp [hf]
  · simp

@[simp] theorem spdmHeartbeat_array (session) (d : Drive) : (spdmHeartbeat session d).array = d.array := by unfold spdmHeartbeat; simp
@[simp] theorem keyUpdate_array (session) (d : Drive) : (keyUpdate session d).array = d.array := by unfold keyUpdate; simp
@[simp] theorem endSessionMsg_array (session) (d : Drive) : (endSessionMsg session d).array = d.array := by unfold endSessionMsg; simp
@[simp] theorem getCsr_array (session) (d : Drive) : (getCsr session d).array = d.array := by unfold getCsr; simp

@[simp] theorem setCertificate_array (session slot sameKey chain) (d : Drive) :
    (setCertificate session slot sameKey chain d).array = d.array := by unfold setCertificate; simp

@[simp] theorem Drive.onPage_array {k : Drive → Drive} (hf : ∀ d, (k d).array = d.array) (s sb c i) (d : Drive) :
    (d.onPage s sb c i k).array = d.array := by
  unfold Drive.onPage
  simp [hf]

@[simp] theorem vendorFree_array (session) (d : Drive) : (vendorFree session d).array = d.array := by unfold vendorFree; simp

@[simp] theorem Drive.rawRead_array (session sb channel index) (d : Drive) : (Drive.rawRead session sb channel index d).array = d.array := by
  unfold Drive.rawRead
  refine Drive.onPage_array (fun d => ?_) ..
  dsimp only
  split <;> simp

@[simp] theorem vendorDefined_array (session what) (d : Drive) : (vendorDefined session what d).array = d.array := by
  unfold vendorDefined
  split <;> simp

/-! ### OptionFlash -/

@[simp] theorem Drive.defaultRead_array (d : Drive) : (Drive.defaultRead d).array = d.array := by unfold Drive.defaultRead; simp

@[simp] theorem Drive.readArea_array (ok) (d : Drive) : (Drive.readArea ok d).2.array = d.array := by
  unfold Drive.readArea
  split <;> simp

@[simp] theorem xipRelease_array (d : Drive) : (xipRelease d).dev.array = d.array := by unfold xipRelease; simp
@[simp] theorem tcmLoadComplete_array (d : Drive) : (tcmLoadComplete d).array = d.array := by unfold tcmLoadComplete; simp

@[simp] theorem Drive.xipBack_array (d : Drive) : (Drive.xipBack d).dev.array = d.array := by
  unfold Drive.xipBack
  dsimp only
  split <;> simp

@[simp] theorem xipResume_array (ch) (d : Drive) : (xipResume ch d).2.dev.array = d.array := by
  unfold xipResume
  dsimp only
  split
  · simp
  split <;> simp

@[simp] theorem xipResumeCmd_array (ch) (d : Drive) : (xipResumeCmd ch d).array = d.array := by
  unfold xipResumeCmd
  have h := xipResume_array ch d.awaken
  rw [Drive.awaken_array] at h
  split <;> rename_i heq <;> rw [heq] at h <;> simpa using h

@[simp] theorem xipAutoResume_array (d : Drive) : (xipAutoResume d).array = d.array := by unfold xipAutoResume; simp

@[simp] theorem Drive.countErase_array (sector) (d : Drive) : (Drive.countErase sector d).array = d.array := by
  unfold Drive.countErase
  simp

@[simp] theorem optfOperationComplete_array (d : Drive) : (optfOperationComplete d).array = d.array := by
  unfold optfOperationComplete
  split
  · rfl
  split
  · rfl
  generalize List.partition _ _ = parts
  obtain ⟨mine, others⟩ := parts
  extract_lets +onlyGivenNames src
  split
  rename_i mine others
  extract_lets +onlyGivenNames d1 d2
  have h2 : d2.array = d.array := by
    dsimp only [d2]
    split
    · rfl
    · simp [d1]
  clear_value d2
  extract_lets +onlyGivenNames src3 d3
  have h3 : d3.array = d2.array := by
    dsimp only [d3]
    split
    · rfl
    · simp
  clear_value d3
  extract_lets +onlyGivenNames src4 d4
  have h4 : d4.array = d3.array := by
    dsimp only [d4]
    split <;> rfl
  clear_value d4
  extract_lets +onlyGivenNames d5
  have h5 : d5.array = d4.array := by
    dsimp only [d5]
    split <;> simp
  clear_value d5
  extract_lets +onlyGivenNames src5 d6 d7
  have h7 : d7.array = d5.array := by
    have h6 : d6.array = d5.array := by
      dsimp only [d6]
      split <;> rfl
    exact (Drive.emitAll_array ..).trans h6
  clear_value d7
  extract_lets +onlyGivenNames d8
  have h8 : d8.array = d.array := by
    rw [← h2, ← h3, ← h4, ← h5, ← h7]
    dsimp only [d8]
    split
    · split
      · simp
      · split <;> simp
    · rfl
  clear_value d8
  rw [← h8]
  split
  · split
    · simp
    · rfl
  · rfl

/-! ### Module -/

@[simp] theorem supplyLow_array (mv) (d : Drive) : (supplyLow mv d).array = d.array := by unfold supplyLow; simp
@[simp] theorem auxLost_array (d : Drive) : (auxLost d).array = d.array := by unfold auxLost; simp
@[simp] theorem auxRestored_array (d : Drive) : (auxRestored d).array = d.array := by unfold auxRestored; simp
@[simp] theorem slotIdChange_array (straps) (d : Drive) : (slotIdChange straps d).array = d.array := by unfold slotIdChange; simp
@[simp] theorem twinPrsntChange_array (present) (d : Drive) : (twinPrsntChange present d).array = d.array := by unfold twinPrsntChange; simp
@[simp] theorem i3cAddress_array (a byEntdaa) (d : Drive) : (i3cAddress a byEntdaa d).array = d.array := by unfold i3cAddress; simp
@[simp] theorem i3cReset_array (d : Drive) : (i3cReset d).array = d.array := by unfold i3cReset; simp
@[simp] theorem locateExpiry_array (d : Drive) : (locateExpiry d).array = d.array := by unfold locateExpiry; simp
@[simp] theorem Drive.fuseCheck_array (d : Drive) : (Drive.fuseCheck d).array = d.array := by unfold Drive.fuseCheck; simp

/-! ### Power -/

@[simp] theorem idleDwell_array (st) (d : Drive) : (idleDwell st d).array = d.array := by unfold idleDwell; simp

@[simp] theorem wakeComplete_array (d : Drive) : (wakeComplete d).array = d.array := by
  unfold wakeComplete
  split <;> simp

@[simp] theorem toleranceWindowExpiry_array (d : Drive) : (toleranceWindowExpiry d).array = d.array := by
  unfold toleranceWindowExpiry
  split <;> simp

@[simp] theorem lockedOut_array {w : Drive → Wr} (hf : ∀ d, (w d).dev.array = d.array) (ch) (d : Drive) :
    (lockedOut ch w d).dev.array = d.array := by
  unfold lockedOut
  split <;> simp [hf]

@[simp] theorem stateLimitWrite_array (ch v) (d : Drive) : (stateLimitWrite ch v d).dev.array = d.array := by unfold stateLimitWrite; simp
@[simp] theorem Drive.applyLimits_array (d : Drive) : (Drive.applyLimits d).array = d.array := by unfold Drive.applyLimits; simp
@[simp] theorem capWrite_array (ch v) (d : Drive) : (capWrite ch v d).dev.array = d.array := by unfold capWrite; simp

@[simp] theorem governor100_array (mw) (d : Drive) : (governor100 mw d).array = d.array := by
  unfold governor100
  obtain ⟨f, hf⟩ : ∃ f, Drive.advanceTo = f := ⟨_, rfl⟩
  have h := fun t => Drive.advanceTo_array t d
  rw [hf] at h ⊢
  simp [h]

@[simp] theorem Drive.setStage_array (st sensor) (d : Drive) : (Drive.setStage st sensor d).array = d.array := by
  unfold Drive.setStage
  simp

@[simp] theorem Drive.sensorLost_array (s) (d : Drive) : (Drive.sensorLost s d).array = d.array := by unfold Drive.sensorLost; simp

@[simp] theorem takeReadings_array (l) (d : Drive) : (takeReadings l d).array = d.array := by
  induction l generalizing d with
  | nil => rfl
  | cons x l ih => simp [takeReadings, ih]

@[simp] theorem thermalStageExit_array (d : Drive) : (thermalStageExit d).array = d.array := by
  unfold thermalStageExit
  dsimp only
  split <;> simp

@[simp] theorem sensorFault_array (s) (d : Drive) : (sensorFault s d).array = d.array := by
  unfold sensorFault
  obtain ⟨f, hf⟩ : ∃ f, Drive.advanceTo = f := ⟨_, rfl⟩
  have h := fun t => Drive.advanceTo_array t d
  rw [hf] at h ⊢
  simp [h]

/-! ### Attributes -/

@[simp] theorem Drive.modChan_array (ch f) (d : Drive) : (Drive.modChan ch f d).array = d.array := by unfold Drive.modChan; simp

@[simp] theorem clearCounter_array (ch base) (d : Drive) : (clearCounter ch base d).array = d.array := by
  unfold clearCounter
  split <;> simp

@[simp] theorem latchAll_array (ch l) (d : Drive) : (latchAll ch l d).array = d.array := by
  induction l generalizing d with
  | nil => rfl
  | cons x l ih => simp [latchAll, ih]

@[simp] theorem readWord_array (ch addr) (d : Drive) : (readWord ch addr d).2.array = d.array := by
  unfold readWord
  dsimp only
  repeat' split
  all_goals simp

@[simp] theorem readWords_array (ch addr n) (d : Drive) : (readWords ch addr n d).2.array = d.array := by
  induction n generalizing addr d with
  | zero => rfl
  | succ n ih => simp [readWords, ih]

@[simp] theorem flagClear_array (v occur) (d : Drive) : (flagClear v occur d).array = d.array := by unfold flagClear; simp

@[simp] theorem w1cWrite_array (addr v occur) (d : Drive) : (w1cWrite addr v occur d).dev.array = d.array := by
  unfold w1cWrite
  split <;> simp

@[simp] theorem Drive.portReset_array (p) (d : Drive) : (Drive.portReset p d).array = d.array := by unfold Drive.portReset; simp

@[simp] theorem within_array {k : Drive → Drive} (hf : ∀ d, (k d).array = d.array) (lo hi v) (d : Drive) :
    (within lo hi v k d).dev.array = d.array := by
  unfold within
  split <;> simp [hf]

@[simp] theorem portSet_array (ch p off v) (d : Drive) : (portSet ch p off v d).dev.array = d.array := by
  unfold portSet
  split <;> simp

@[simp] theorem privetSet_array (ch base v) (d : Drive) : (privetSet ch base v d).dev.array = d.array := by
  unfold privetSet
  split <;> simp

@[simp] theorem Drive.modShaper_array (t f) (d : Drive) : (Drive.modShaper t f d).array = d.array := by unfold Drive.modShaper; simp

@[simp] theorem xportSet_array (ch base v) (d : Drive) : (xportSet ch base v d).dev.array = d.array := by
  unfold xportSet
  split <;> simp

@[simp] theorem wordSet_array (ch addr v) (d : Drive) : (wordSet ch addr v d).dev.array = d.array := by
  unfold wordSet
  split <;> simp

@[simp] theorem relayOr_array {k : Drive → Drive} (hf : ∀ d, (k d).array = d.array) (r) (d : Drive) : (relayOr r k d).array = d.array := by
  unfold relayOr
  dsimp only
  simp [hf]

@[simp] theorem attrReadOp_array (r) (d : Drive) : (attrReadOp r d).array = d.array := by unfold attrReadOp; simp

@[simp] theorem attrBulkOp_array (r) (d : Drive) : (attrBulkOp r d).array = d.array := by
  unfold attrBulkOp
  simp
  split <;> simp

@[simp] theorem attrRead_array (o) (d : Drive) : (attrRead o d).array = d.array := by unfold attrRead; simp
@[simp] theorem attrBulkRead_array (o) (d : Drive) : (attrBulkRead o d).array = d.array := by unfold attrBulkRead; simp

@[simp] theorem mgmtReply_array (src seq h body) (d : Drive) : (mgmtReply src seq h body d).array = d.array := by
  unfold mgmtReply
  rw [Drive.fromRing_array (fun d => ?_), Drive.awaken_array]
  split
  · simp
  · rfl

/-! ### OptionImage -/

@[simp] theorem placeEntries_array (b n) (n') (l) (d : Drive) : (placeEntries b n n' l d).array = d.array := by
  induction l generalizing n' d with
  | nil => rfl
  | cons e l ih => simp [placeEntries, ih]

@[simp] theorem Drive.applyCutting_array (d : Drive) (c) : (Drive.applyCutting d c).array = d.array := by
  unfold Drive.applyCutting
  split <;> simp

/-! ### Startup -/

@[simp] theorem Drive.wakeUp_array (u) (d : Drive) : (Drive.wakeUp u d).array = d.array := by unfold Drive.wakeUp; simp
@[simp] theorem Drive.halt_array (test pair) (d : Drive) : (Drive.halt test pair d).array = d.array := by unfold Drive.halt; simp

@[simp] theorem Drive.recoveryBoot_array (u cause) (d : Drive) : (Drive.recoveryBoot u cause d).array = d.array := by
  unfold Drive.recoveryBoot
  simp

@[simp] theorem failPairs_array (l) (d : Drive) : (failPairs l d).array = d.array := by
  induction l generalizing d with
  | nil => rfl
  | cons x l ih => simp [failPairs, ih]

@[simp] theorem Drive.selfTests_array (u) (d : Drive) : (Drive.selfTests u d).array = d.array := by
  unfold Drive.selfTests
  split <;> simp

@[simp] theorem Drive.loseVault_array (id) (d : Drive) : (Drive.loseVault id d).array = d.array := by
  unfold Drive.loseVault
  split <;> simp

@[simp] theorem loadVault_array (u l) (d : Drive) : (loadVault u l d).array = d.array := by
  induction l generalizing d with
  | nil => rfl
  | cons id l ih =>
    rw [loadVault, ih]
    split
    · split <;> split <;> simp
    · split <;> simp

@[simp] theorem Drive.recount_array (d : Drive) : (Drive.recount d).array = d.array := by unfold Drive.recount; simp

@[simp] theorem skipNonces_array (last l) (d : Drive) : (skipNonces last l d).array = d.array := by
  induction l generalizing d with
  | nil => rfl
  | cons i l ih =>
    rw [skipNonces, ih]
    split <;> simp

@[simp] theorem Drive.resumeTick_array (lost) (d : Drive) : (Drive.resumeTick lost d).array = d.array := by unfold Drive.resumeTick; simp
@[simp] theorem Drive.openLog_array (lost) (d : Drive) : (Drive.openLog lost d).array = d.array := by unfold Drive.openLog; simp

@[simp] theorem endAtRestart_array (l) (d : Drive) : (endAtRestart l d).array = d.array := by
  induction l generalizing d with
  | nil => rfl
  | cons x l ih => simp [endAtRestart, ih]

@[simp] theorem Drive.beginJoin_array (d : Drive) : (Drive.beginJoin d).array = d.array := by unfold Drive.beginJoin; simp

@[simp] theorem Drive.revokeCodeKey_array (index signedUnder) (d : Drive) : (Drive.revokeCodeKey index signedUnder d).array = d.array := by
  unfold Drive.revokeCodeKey
  simp

@[simp] theorem Drive.imageReady_array (i) (d : Drive) : (Drive.imageReady i d).array = d.array := by
  unfold Drive.imageReady
  extract_lets +onlyGivenNames d0 src d1
  have h1 : d1.array = d.array := by
    dsimp only [d1]
    split
    · rfl
    · refine Eq.trans (b := d0.array) rfl (foldl_array (fun d c => ?_) i.cuttings d)
      split <;> simp
  clear_value d1
  rw [← h1]
  split
  · simp
  · rfl

@[simp] theorem deviceReady_array (d : Drive) : (deviceReady d).array = d.array := by
  unfold deviceReady
  simp
  split <;> simp

/-! ### Jobs -/

@[simp] theorem Drive.jobConflict_array (r code j) (d : Drive) : (Drive.jobConflict r code j d).array = d.array := by
  unfold Drive.jobConflict
  simp

@[simp] theorem jobOp_array {f : Req → Job → Drive → Drive} (hf : ∀ r j d, (f r j d).array = d.array) (op o) (d : Drive) :
    (jobOp op o f d).array = d.array := by
  unfold jobOp
  refine Drive.withReq_array (fun r d => ?_) ..
  dsimp only
  split
  · simp
  split <;> simp [hf]

@[simp] theorem Drive.jobReply_array (r j) (d : Drive) : (Drive.jobReply r j d).array = d.array := by unfold Drive.jobReply; simp
@[simp] theorem Drive.suspended_array (j) (d : Drive) : (Drive.suspended j d).array = d.array := by unfold Drive.suspended; simp
@[simp] theorem jobSuspend_array (o) (d : Drive) : (jobSuspend o d).array = d.array := by unfold jobSuspend; simp
@[simp] theorem jobResume_array (o) (d : Drive) : (jobResume o d).array = d.array := by unfold jobResume; simp
@[simp] theorem jobCancel_array (o) (d : Drive) : (jobCancel o d).array = d.array := by unfold jobCancel; simp

@[simp] theorem jobStatus_array (o) (d : Drive) : (jobStatus o d).array = d.array := by
  unfold jobStatus
  refine Drive.withReq_array (fun r d => ?_) ..
  simp
  split <;> simp

@[simp] theorem jobSuspendedLong_array (id) (d : Drive) : (jobSuspendedLong id d).array = d.array := by
  unfold jobSuspendedLong
  split <;> simp

/-! ### Migrate -/

@[simp] theorem Drive.sendMigrateCtl_array (dest ns job c) (d : Drive) : (Drive.sendMigrateCtl dest ns job c d).array = d.array := by
  unfold Drive.sendMigrateCtl
  simp

@[simp] theorem Drive.putMigration_array (m) (d : Drive) : (Drive.putMigration m d).array = d.array := by unfold Drive.putMigration; simp
@[simp] theorem Drive.dropMigration_array (m) (d : Drive) : (Drive.dropMigration m d).array = d.array := by unfold Drive.dropMigration; simp
@[simp] theorem Drive.sendRecord_array (m r) (d : Drive) : (Drive.sendRecord m r d).array = d.array := by unfold Drive.sendRecord; simp
@[simp] theorem Drive.deletePair_array (ns) (d : Drive) : (Drive.deletePair ns d).array = d.array := by unfold Drive.deletePair; simp

@[simp] theorem migrateStep_array (j) (d : Drive) : (migrateStep j d).2.2.array = d.array := by
  unfold migrateStep
  dsimp only
  repeat' split
  all_goals simp

@[simp] theorem migrateCancel_array (j) (d : Drive) : (migrateCancel j d).array = d.array := by
  unfold migrateCancel
  split <;> simp

@[simp] theorem Drive.endMigration_array (m) (d : Drive) : (Drive.endMigration m d).array = d.array := by
  unfold Drive.endMigration
  dsimp only
  split <;> simp

@[simp] theorem migrateStart_array (src ns job owner quota solo soloWrites serial younger) (d : Drive) :
    (migrateStart src ns job owner quota solo soloWrites serial younger d).array = d.array := by
  unfold migrateStart
  simp
  split <;> simp

@[simp] theorem migrateCtl_array (src seq ns job c) (d : Drive) : (migrateCtl src seq ns job c d).array = d.array := by
  unfold migrateCtl
  refine Drive.fromRing_array (fun d => ?_) ..
  dsimp only
  repeat' split
  all_goals simp

/-! ### JobSteps -/

@[simp] theorem Drive.mirrorOwn_array (r) (d : Drive) : (Drive.mirrorOwn r d).array = d.array := by unfold Drive.mirrorOwn; simp
@[simp] theorem resyncStep_array (j) (d : Drive) : (resyncStep j d).2.2.array = d.array := by unfold resyncStep; simp
@[simp] theorem resyncCancel_array (d : Drive) : (resyncCancel d).array = d.array := by unfold resyncCancel; simp

/-! ### Firmware -/

@[simp] theorem Drive.putImage_array (c slot i) (d : Drive) : (Drive.putImage c slot i d).array = d.array := by
  unfold Drive.putImage
  split <;> simp

@[simp] theorem Drive.writeImage_array (c off stop waiter h) (d : Drive) : (Drive.writeImage c off stop waiter h d).array = d.array := by
  unfold Drive.writeImage
  obtain ⟨-, bank, first⟩ := d.targetOf c
  exact foldl_array (fun d x => Drive.optfWrite_array x d) _ d

@[simp] theorem downloadIdleTimeout_array (d : Drive) : (downloadIdleTimeout d).array = d.array := by unfold downloadIdleTimeout; simp
@[simp] theorem Drive.selectSlot_array (slot) (d : Drive) : (Drive.selectSlot slot d).array = d.array := by unfold Drive.selectSlot; simp

@[simp] theorem fwRollStep_array (ok) (d : Drive) : (fwRollStep ok d).array = d.array := by
  unfold fwRollStep
  dsimp only
  split
  · simp
  split <;> simp

@[simp] theorem fwRollFailed_array (cluster) (d : Drive) : (fwRollFailed cluster d).array = d.array := by
  unfold fwRollFailed
  split <;> simp

@[simp] theorem pldmSay_array (session kind ok args) (d : Drive) : (pldmSay session kind ok args d).array = d.array := by
  unfold pldmSay
  simp

@[simp] theorem areaUpdate_array (session off len last img) (d : Drive) : (areaUpdate session off len last img d).array = d.array := by
  unfold areaUpdate
  simp

/-! ### Mgmt -/

@[simp] theorem opAnswer_array (session exchange h st) (d : Drive) : (opAnswer session exchange h st d).array = d.array := by
  unfold opAnswer
  simp

@[simp] theorem opMessage_array (session exchange h body) (d : Drive) : (opMessage session exchange h body d).array = d.array := by
  unfold opMessage
  simp
  split <;> simp

@[simp] theorem statusRead_array (session exchange h) (d : Drive) : (statusRead session exchange h d).array = d.array := by
  unfold statusRead
  simp

@[simp] theorem getSensorReading_array (session id) (d : Drive) : (getSensorReading session id d).array = d.array := by
  unfold getSensorReading
  simp
  split <;> simp

@[simp] theorem getStateSensorReadings_array (session id) (d : Drive) : (getStateSensorReadings session id d).array = d.array := by
  unfold getStateSensorReadings
  simp

@[simp] theorem mctpControl_array (command arg) (d : Drive) : (mctpControl command arg d).array = d.array := by
  unfold mctpControl
  split <;> simp

/-! ### JobTable -/

theorem Drive.startJob_array {j} {own} {d : Drive} {y} {z : Drive} (h : (Drive.startJob j own d) = some (y, z)) : z.array = d.array := (Drive.startJob_frame (hr := h) ..).array rfl
@[simp] theorem Drive.ownJob_array (kind p0) (d : Drive) : (Drive.ownJob kind p0 d).array = d.array := (Drive.ownJob_frame ..).array rfl

/-! ### KeyValue -/

@[simp] theorem Drive.shelve_array (r mirrorOp) (d : Drive) : (Drive.shelve r mirrorOp d).2.array = d.array := by unfold Drive.shelve; simp

@[simp] theorem deleteRequest_array (o) (d : Drive) : (deleteRequest o d).array = d.array := by
  unfold deleteRequest
  refine Drive.withReq_array (fun r d => ?_) ..
  dsimp only
  split
  · simp
  split
  · simp
  · split
    · rfl
    · simp
  split
  · simp
  split
  · split <;> simp
  split
  · rfl
  split
  · simp
  split
  · simp
  split
  · simp
  split
  · simp
  · rename_i hdraw
    have hkept := Drive.drawNonce_array hdraw
    simp_all

/-! ### Located -/

@[simp] theorem locDeleteRequest_array (o) (d : Drive) : (locDeleteRequest o d).array = d.array := by
  unfold locDeleteRequest
  refine locChecked_array (fun r t d => ?_) ..
  dsimp only
  split
  · simp
  split
  · simp
  split
  · simp
  split
  · simp
  · rename_i hdraw
    simp [Drive.drawNonce_array hdraw]

/-! ### Batch -/

@[simp] theorem Drive.applyRec_array (r pending mirrorOp) (d : Drive) : (Drive.applyRec r pending mirrorOp d).2.array = d.array := by
  unfold Drive.applyRec
  simp

@[simp] theorem applyAll_array (pending mirrorOp l) (d : Drive) : (applyAll pending mirrorOp l d).array = d.array := by
  induction l generalizing d with
  | nil => rfl
  | cons x l ih => simp [applyAll, ih]

@[simp] theorem Drive.writeMember_array (r tenant m i sl) (d : Drive) : (Drive.writeMember r tenant m i sl d).array = d.array := by
  unfold Drive.writeMember
  simp

@[simp] theorem batchRun_array (o n) (d : Drive) : (batchRun o n d).array = d.array := by
  induction n generalizing d with
  | zero => rfl
  | succ n ih =>
    rw [batchRun]
    split
    · rfl
    dsimp only
    split
    · simp
    split
    · simp [ih]
    split
    · simp [ih]
    split
    · simp [ih]
    split
    · rfl
    split
    · split
      · rfl
      · simp [ih]
    split
    · simp [ih]
    split
    · simp [ih]
    split
    · simp [ih]
    split <;> rename_i hroom
    · simp [ih, if_room_array (Drive.roomFor_array ..) hroom]
    · have hkept := if_room_array (Drive.roomFor_array ..) hroom
      split
      · simp [ih, hkept]
      · rename_i hdraw
        simp [ih, Drive.drawNonce_array hdraw, hkept]

@[simp] theorem batchRequest_array (o) (d : Drive) : (batchRequest o d).array = d.array := by
  unfold batchRequest
  refine Drive.withReq_array (fun r d => ?_) ..
  split <;> simp

@[simp] theorem commitAtomic_array (r tenant ms) (d : Drive) : (commitAtomic r tenant ms d).array = d.array := by
  unfold commitAtomic
  split
  · simp
  · rename_i h
    simp [drawSeals_array h]

@[simp] theorem batchAtomicRequest_array (o) (d : Drive) : (batchAtomicRequest o d).array = d.array := by
  unfold batchAtomicRequest
  refine Drive.withReq_array (fun r d => ?_) ..
  extract_lets +onlyGivenNames tenant
  split
  · simp
  extract_lets +onlyGivenNames ms
  split
  · simp
  extract_lets +onlyGivenNames away cross
  clear_value away cross
  split
  · rfl
  split
  · simp
  split
  · rfl
  split
  · simp
  split
  · simp
  split
  · rfl
  split
  · simp
  split
  · rfl
  split
  · rfl
  split
  · simp
  have hroom := roomForAll_array ms d
  split <;> rename_i heq <;> rw [heq] at hroom <;> simp [hroom]

/-! ### Ops -/

@[simp] theorem deadlineMissed_array (o) (d : Drive) : (deadlineMissed o d).array = d.array := by
  unfold deadlineMissed
  split <;> simp

/-! ### Twin -/

@[simp] theorem Drive.partDone_array (o opId x) (d : Drive) : (Drive.partDone o opId x d).array = d.array := by
  unfold Drive.partDone
  dsimp only
  repeat' split
  all_goals simp

@[simp] theorem fwdReply_array (opId h body) (d : Drive) : (fwdReply opId h body d).array = d.array := by
  unfold fwdReply
  refine Drive.fromTwinAwake_array (fun d => ?_) ..
  dsimp only
  repeat' split
  all_goals simp

@[simp] theorem Drive.installRec_array (r mirrorOp) (d : Drive) : (Drive.installRec r mirrorOp d).array = d.array := by
  unfold Drive.installRec
  simp

@[simp] theorem installAll_array (mirrorOp l) (d : Drive) : (installAll mirrorOp l d).array = d.array := by
  induction l generalizing d with
  | nil => rfl
  | cons x l ih => simp [installAll, ih]

@[simp] theorem mirrorMsg_array (opId flags version aux final bytes recs) (d : Drive) :
    (mirrorMsg opId flags version aux final bytes recs d).array = d.array := by
  unfold mirrorMsg
  refine Drive.fromTwinAwake_array (fun d => ?_) ..
  dsimp only
  repeat' split
  all_goals simp

@[simp] theorem mirrorAck_array (opId programmed) (d : Drive) : (mirrorAck opId programmed d).array = d.array := by
  unfold mirrorAck
  refine Drive.fromTwinAwake_array (fun d => ?_) ..
  dsimp only
  repeat' split
  all_goals simp

@[simp] theorem Drive.installPrepared_array (p v) (d : Drive) : (Drive.installPrepared p v d).array = d.array := by
  unfold Drive.installPrepared
  simp

@[simp] theorem commitMsg_array (opId txn version) (d : Drive) : (commitMsg opId txn version d).array = d.array := by
  unfold commitMsg
  refine Drive.fromTwinAwake_array (fun d => ?_) ..
  split <;> simp

@[simp] theorem Drive.finishTxn_array (r) (d : Drive) : (Drive.finishTxn r d).array = d.array := by unfold Drive.finishTxn; simp

@[simp] theorem committedMsg_array (txn) (d : Drive) : (committedMsg txn d).array = d.array := by
  unfold committedMsg
  refine Drive.fromTwinAwake_array (fun d => ?_) ..
  split <;> simp

@[simp] theorem endForwardedParts_array (o l) (d : Drive) : (endForwardedParts o l d).array = d.array := by
  induction l generalizing d with
  | nil => rfl
  | cons p ps ih =>
    rw [endForwardedParts, ih]
    split <;> simp

@[simp] theorem endForwardedReads_array (l) (d : Drive) : (endForwardedReads l d).array = d.array := by
  induction l generalizing d with
  | nil => rfl
  | cons r l ih => simp [endForwardedReads, ih]

@[simp] theorem Drive.twinLost_array (d : Drive) : (Drive.twinLost d).array = d.array := by unfold Drive.twinLost; simp
@[simp] theorem twinLinkDownTimeout_array (d : Drive) : (twinLinkDownTimeout d).array = d.array := by unfold twinLinkDownTimeout; simp
@[simp] theorem heartbeatSilence_array (d : Drive) : (heartbeatSilence d).array = d.array := by unfold heartbeatSilence; simp
@[simp] theorem Drive.batchAlone_array (r) (d : Drive) : (Drive.batchAlone r d).array = d.array := by unfold Drive.batchAlone; simp

@[simp] theorem rerunAlone_array (rs) (d : Drive) : (rerunAlone rs d).array = d.array := by
  induction rs generalizing d with
  | nil => rfl
  | cons r rs ih => simp [rerunAlone, ih]

@[simp] theorem Drive.aloneNow_array (d : Drive) : (Drive.aloneNow d).array = d.array := by unfold Drive.aloneNow; simp

@[simp] theorem Drive.becomeHolder_array (epoch) (d : Drive) : (Drive.becomeHolder epoch d).array = d.array := by
  unfold Drive.becomeHolder
  simp

@[simp] theorem Drive.beginResync_array (d : Drive) : (Drive.beginResync d).array = d.array := by
  unfold Drive.beginResync
  dsimp only
  split <;> simp

@[simp] theorem finishDecided_array (l) (d : Drive) : (finishDecided l d).array = d.array := by
  induction l generalizing d with
  | nil => rfl
  | cons x l ih => simp [finishDecided, ih]

@[simp] theorem helloMsg_array (h lacks) (d : Drive) : (helloMsg h lacks d).array = d.array := by unfold helloMsg; simp

@[simp] theorem Drive.discardChange_array (d : Drive) (c) : (Drive.discardChange d c).array = d.array := by
  unfold Drive.discardChange
  dsimp only
  split <;> simp

@[simp] theorem resyncData_array (recs live tables counters aux) (d : Drive) :
    (resyncData recs live tables counters aux d).array = d.array := by
  unfold resyncData
  refine Drive.fromTwinAwake_array (fun d => ?_) ..
  split
  · rfl
  extract_lets +onlyGivenNames wins found lost d1 src d2 absent d3 d4
  have h1 : d1.array = d.array := by
    dsimp only [d1]
    split
    · rfl
    · rw [Drive.event_array]
      exact foldl_array (fun d c => Drive.discardChange_array d c) _ _
  have h2 : d2.array = d.array := by
    dsimp only [d2]
    rw [installAll_array]
    split <;> simp [h1]
  have h3 : d3.array = d.array := by simp [d3, h2]
  have h4 : d4.array = d.array := by
    dsimp only [d4]
    split
    · split <;> simp [h3]
    · exact h3
  clear_value d4
  simp [h4]

@[simp] theorem heartbeatSend_array (d : Drive) : (heartbeatSend d).array = d.array := by unfold heartbeatSend; simp
@[simp] theorem Drive.sanitiseHere_array (n) (d : Drive) : (Drive.sanitiseHere n d).array = d.array := map_getD_array fun _ hp => Drive.startJob_array hp

@[simp] theorem tableChangeMsg_array (opId seq c) (d : Drive) : (tableChangeMsg opId seq c d).array = d.array := by
  unfold tableChangeMsg
  refine Drive.fromTwinAwake_array (fun d => ?_) ..
  split
  · simp
  · cases sanitised c d <;> simp

@[simp] theorem Drive.adopted_array (a) (d : Drive) : (Drive.adopted a d).array = d.array := by unfold Drive.adopted; simp

@[simp] theorem twinAdopt_array (o items) (d : Drive) : (twinAdopt o items d).array = d.array := by
  unfold twinAdopt
  split <;> simp

@[simp] theorem twinRelease_array (o) (d : Drive) : (twinRelease o d).array = d.array := by unfold twinRelease; simp

/-! ### Witness -/

@[simp] theorem leaseGrant_array (src seq epoch) (d : Drive) : (leaseGrant src seq epoch d).array = d.array := by unfold leaseGrant; simp
@[simp] theorem witnessCtl_array (ch v) (d : Drive) : (witnessCtl ch v d).dev.array = d.array := by unfold witnessCtl; simp

/-! ### Media -/

@[simp] theorem shelfAdmit_array (o) (d : Drive) : (shelfAdmit o d).array = d.array := by
  unfold shelfAdmit
  split <;> simp

/-! ### Jobs -/

@[simp] theorem jobStart_array (kind o) (d : Drive) : (jobStart kind o d).array = d.array := by
  unfold jobStart
  refine Drive.withReq_array (fun r d => ?_) ..
  extract_lets +onlyGivenNames k keyed
  split
  · simp
  split
  · rfl
  split
  · simp
  extract_lets +onlyGivenNames params
  clear_value params
  split
  · simp
  split
  · simp
  extract_lets +onlyGivenNames j
  split
  · simp
  split
  · simp
  split
  · simp
  split
  · simp
  split
  · simp
  split
  · simp
  · rename_i h
    simp [Drive.startJob_array h]

@[simp] theorem jobEntryExpiry_array (id) (d : Drive) : (jobEntryExpiry id d).array = d.array := by
  unfold jobEntryExpiry
  dsimp only
  split
  · rfl
  split <;> simp

@[simp] theorem Drive.enterRec_array (r) (d : Drive) : (Drive.enterRec r d).array = d.array := by unfold Drive.enterRec; simp

@[simp] theorem Drive.bringIn_array (ns x) (d : Drive) : (Drive.bringIn ns x d).2.array = d.array := by
  unfold Drive.bringIn
  extract_lets +onlyGivenNames n
  have hin : ∀ {st e}, (if x.deletion = true then (none, d) else
      d.roomFor ns x.key (recGranules x) ((d.find? ns x.key).isNone)) = (st, e) → e.array = d.array := fun h => by
    split at h
    · exact congrArg (·.2.array) h.symm
    · exact (congrArg (·.2.array) h.symm).trans (Drive.roomFor_array ..)
  split <;> rename_i heq
  · exact hin heq
  · split
    · exact hin heq
    · rename_i hdraw
      simp [Drive.drawNonce_array hdraw, hin heq]

@[simp] theorem Drive.writeOwn_array (ns key value) (d : Drive) : (Drive.writeOwn ns key value d).2.array = d.array := by
  unfold Drive.writeOwn
  dsimp only
  have hroom := Drive.roomFor_array ns key (granules key.length value.length) ((d.find? ns key).isNone) d
  split <;> rename_i heq <;> rw [heq] at hroom <;> dsimp only at hroom
  · simp [hroom]
  split
  · simp [hroom]
  · simp [hroom]
  split
  · simp [hroom]
  · rename_i hdraw
    simp [Drive.drawNonce_array hdraw, hroom]

/-! ### Migrate -/

@[simp] theorem migrateRecs_array (src ns job l) (d : Drive) : (migrateRecs src ns job l d).array = d.array := by
  induction l generalizing d with
  | nil => rfl
  | cons r rs ih =>
    rw [migrateRecs]
    have hin := Drive.bringIn_array ns r d
    split <;> rename_i heq <;> rw [heq] at hin
    · exact (ih _).trans hin
    · simpa using hin

@[simp] theorem migrateData_array (src seq ns job recs) (d : Drive) : (migrateData src seq ns job recs d).array = d.array := by
  unfold migrateData
  simp

/-! ### JobSteps -/

theorem exportStep_array (j x) (d : Drive) : (exportStep j x d).2.2.array = d.array := by
  unfold exportStep
  split
  · rfl
  split
  · rfl
  extract_lets +onlyGivenNames live total j part
  have hpart : ∀ n, (part n).2.2.array = d.array := fun n => by
    have hown := Drive.writeOwn_array j.p0 (partKey j.id j.parts) (sealPart (d.partSeal j.id) j.parts (j.pack.take n)) d
    dsimp only [part]
    split <;> rename_i heq <;> rwa [heq] at hown
  clear_value part
  split
  · exact hpart _
  split
  · split
    · rfl
    · exact hpart _
  dsimp only
  split
  · rfl
  · split <;> rfl

theorem importStep_array (j x) (d : Drive) : (importStep j x d).2.2.array = d.array := by
  unfold importStep
  split
  · simp
  split
  · rfl
  split
  · rfl
  split
  · rfl
  · rename_i r _ _
    have hin := Drive.bringIn_array j.ns { r with deletion := false } d
    split <;> rename_i heq <;> rwa [heq] at hin

/-! ### Firmware -/

theorem Drive.startRoll_array {starter} {both} {d : Drive} {y} {z : Drive} (h : (Drive.startRoll starter both d) = some (y, z)) :
    z.array = d.array := by
  unfold Drive.startRoll at h
  obtain ⟨⟨id, w⟩, hw, heq⟩ := Option.map_eq_some_iff.mp h
  obtain ⟨-, rfl⟩ : _ ∧ _ = z := by simpa using heq
  simpa using Drive.startJob_array hw

@[simp] theorem twinAsksRoll_array (d : Drive) : (twinAsksRoll d).array = d.array := by
  unfold twinAsksRoll
  split
  · rfl
  split
  · rfl
  · exact map_getD_array fun p hp => Drive.startRoll_array hp

theorem activate_array {f : Req → Bool → Drive → Drive} (hf : ∀ r x d, (f r x d).array = d.array) (re o t g) (d : Drive) :
    (activate re o t g f d).array = d.array := by
  unfold activate
  refine Drive.withReq_array (fun r d => ?_) ..
  dsimp only
  split
  · rfl
  split
  · simp
  split
  · simp
  split <;> simp [hf]

@[simp] theorem fwActivate_array (o twinDl twinDigest) (d : Drive) : (fwActivate o twinDl twinDigest d).array = d.array := by
  unfold fwActivate
  split
  · simp
  · refine activate_array (fun r both d => ?_) ..
    split
    · rename_i h
      simp [Drive.startRoll_array h]
    · simp

/-! ### Module -/

theorem auxPowerRemoved_array (d : Drive) : (auxPowerRemoved d).array = d.array := by unfold auxPowerRemoved; simp

end Sys2Proof.Machine
end

-- Proofs of Clipping, wear and recovery: what becomes of a superblock.
section
namespace Sys2Proof.Machine
open Sys2Proof

/-! ## A superblock over its changes -/

/-- DIRTY, OPEN, CLOSED or VICTIM (Table 5.1). -/
def Superblock.inUse (s : Superblock) : Prop := s.state ∈ [1, 2, 3, 4]

/-- `y` is what became of `x`: it has been erased since, or it has not, and was not taken out of use or given another mode. -/
def Superblock.Becomes (x y : Superblock) : Prop :=
  x.erasures < y.erasures ∨ x.erasures = y.erasures ∧ (x.inUse → y.inUse ∧ y.slc = x.slc)

theorem Superblock.Becomes.refl (x : Superblock) : x.Becomes x := .inr ⟨rfl, fun h => ⟨h, rfl⟩⟩

theorem Superblock.Becomes.trans {x y z : Superblock} (h : x.Becomes y) (k : y.Becomes z) : x.Becomes z := by
  rcases h with h | ⟨he, h⟩
  · rcases k with k | ⟨ke, -⟩
    · exact .inl (h.trans k)
    · exact .inl (h.trans_eq ke)
  · rcases k with k | ⟨ke, k⟩
    · exact .inl (he.trans_lt k)
    · refine .inr ⟨he.trans ke, fun hx => ?_⟩
      obtain ⟨hy, hslc⟩ := h hx
      exact ⟨(k hy).1, (k hy).2.trans hslc⟩

/-- A change of state within those of a superblock in use. -/
theorem Superblock.Becomes.of_state {x y : Superblock} (hq : y.eraseQlc = x.eraseQlc) (he : y.eraseSlc = x.eraseSlc)
    (hs : x.inUse → y.inUse) (hm : y.slc = x.slc) : x.Becomes y :=
  .inr ⟨by rw [Superblock.erasures, Superblock.erasures, hq, he], fun h => ⟨hs h, hm⟩⟩

/-- What is not in use may be opened in either mode. -/
theorem Superblock.Becomes.of_unused {x y : Superblock} (hq : y.eraseQlc = x.eraseQlc) (he : y.eraseSlc = x.eraseSlc) (hx : ¬x.inUse) :
    x.Becomes y := .inr ⟨by rw [Superblock.erasures, Superblock.erasures, hq, he], fun h => absurd h hx⟩

/-! ## The table of the superblocks -/

/-- The superblock at `n` of a table. -/
def blockIn (t : Tbl Superblock) (n : Nat) : Superblock := tgetD n { state := if defaultPart n = 4 ∨ defaultPart n = 5 then 5 else 0 } t

theorem Drive.sb_eq (d : Drive) (n : Nat) : d.sb n = blockIn d.array n := rfl

theorem Drive.sb_of_array {a b : Drive} (h : b.array = a.array) (n : Nat) : b.sb n = a.sb n := by rw [Drive.sb_eq, h, Drive.sb_eq]

theorem blockIn_tput (n : Nat) (s : Superblock) (t : Tbl Superblock) (m : Nat) :
    blockIn (tput n s t) m = if m = n then s else blockIn t m := by
  split
  · rename_i h
    rw [h, blockIn, tgetD_tput_same]
  · rename_i h
    rw [blockIn, tgetD, tget?_tput_ne h, blockIn, tgetD]

theorem tget?_map {α : Type} {f : Nat × α → Nat × α} (hf : ∀ p, (f p).1 = p.1) (n : Nat) (t : Tbl α) :
    tget? n (t.map f) = (tget? n t).map fun a => (f (n, a)).2 := by
  induction t with
  | nil => rfl
  | cons p t ih =>
    rw [List.map_cons, tget?, tget?, hf, ih]
    split
    · rename_i h
      rw [← h, Option.map_some]
    · rfl

/-- A listed superblock is the one at its index, when the indices rise. -/
theorem tget?_of_mem {α : Type} {n : Nat} {a : α} {t : Tbl α} (ht : Tbl.ordered t) (h : (n, a) ∈ t) : tget? n t = some a := by
  induction t with
  | nil => cases h
  | cons p t ih =>
    rw [Tbl.ordered, List.map_cons, List.pairwise_cons] at ht
    rcases List.mem_cons.mp h with rfl | h
    · simp [tget?]
    · have hlt : p.1 < n := ht.1 n (List.mem_map_of_mem (f := Prod.fst) h)
      rw [tget?, if_neg (by omega)]
      exact ih ht.2 h

/-- In the table `b` every superblock is what became of it in the table `a`, and the indices rise. -/
structure Lasts (a b : Tbl Superblock) : Prop where
  rising : Rising b
  becomes : ∀ n, (blockIn a n).Becomes (blockIn b n)

theorem Lasts.refl {a : Tbl Superblock} (h : Rising a) : Lasts a a := ⟨h, fun _ => .refl _⟩

theorem Lasts.put {a b : Tbl Superblock} {n : Nat} {s : Superblock} (h : Lasts a b) (hs : (blockIn b n).Becomes s) : Lasts a (tput n s b) := by
  refine ⟨(rising_tput n s b).mpr h.rising, fun m => ?_⟩
  rw [blockIn_tput]
  split
  · rename_i hm
    exact hm ▸ (h.becomes m).trans (hm ▸ hs)
  · exact h.becomes m

theorem Lasts.map {a b : Tbl Superblock} {f : Nat × Superblock → Nat × Superblock} (h : Lasts a b)
    (hf : ∀ p, (f p).1 = p.1 ∧ p.2.Becomes (f p).2) : Lasts a (b.map f) := by
  refine ⟨(rising_map (fun p => (hf p).1) b).mpr h.rising, fun n => (h.becomes n).trans ?_⟩
  rw [blockIn, blockIn, tgetD, tgetD, tget?_map fun p => (hf p).1]
  cases tget? n b with
  | none => exact .refl _
  | some s => exact (hf (n, s)).2

@[simp] theorem lasts_ite (b : Tbl Superblock) (c : Prop) [Decidable c] (x y : Tbl Superblock) :
    Lasts b (if c then x else y) ↔ if c then Lasts b x else Lasts b y := by
  split <;> rfl

theorem Lasts.ite {b : Tbl Superblock} {c : Prop} [Decidable c] {x y : Drive} (hx : Lasts b x.array) (hy : Lasts b y.array) :
    Lasts b (if c then x else y).array := by
  split
  · exact hx
  · exact hy

theorem foldl_lasts {α : Type} {b} {f : Drive → α → Drive} (hf : ∀ d x, Lasts b d.array → Lasts b (f d x).array) (l : List α) {d : Drive}
    (hb : Lasts b d.array) : Lasts b (l.foldl f d).array := by
  induction l generalizing d with
  | nil => exact hb
  | cons x l ih => exact ih (hf d x hb)

theorem Drive.sb_setSb (n : Nat) (s : Superblock) (d : Drive) : (d.setSb n s).sb n = s := tgetD_tput_same ..

/-- Of two changes of a superblock the second says what becomes of it. -/
theorem Lasts.put_put {a b : Tbl Superblock} {n : Nat} {s s' : Superblock} (h : Lasts a b) (hs : (blockIn b n).Becomes s') :
    Lasts a (tput n s' (tput n s b)) := by
  refine ⟨(rising_tput ..).mpr ((rising_tput ..).mpr h.rising), fun m => ?_⟩
  have hput := (h.put hs).becomes m
  rw [blockIn_tput] at hput ⊢
  split at hput
  · rwa [if_pos ‹_›]
  · rwa [if_neg ‹_›, blockIn_tput, if_neg ‹_›]

/-! ## Superblocks not in use -/

theorem blockIn_unused_of_unlisted {t : Tbl Superblock} {n : Nat} (h : tget? n t = none) : ¬(blockIn t n).inUse := by
  rw [blockIn, tgetD, h, Option.getD_none, Superblock.inUse]
  split <;> decide

theorem blockIn_unused_of_free {t : Tbl Superblock} {n : Nat} {s : Superblock} (ht : Rising t) (h : (n, s) ∈ t) (hs : s.state = 0) :
    ¬(blockIn t n).inUse := by
  rw [blockIn, tgetD, tget?_of_mem ht h, Option.getD_some, Superblock.inUse, hs]
  decide

theorem freshSb_unlisted {d : Drive} {part k n m : Nat} (h : freshSb d part k n = some m) : tget? m d.array = none := by
  induction k generalizing n with
  | zero => cases h
  | succ k ih =>
    rw [freshSb] at h
    split at h
    · cases h
    split at h
    · rename_i hc
      obtain rfl := Option.some.inj h
      exact Option.isNone_iff_eq_none.mp (Bool.and_eq_true_iff.mp hc).1
    · exact ih h

/-- The fold of `wornFree` keeps the index of a listed FREE superblock. -/
theorem wornFree_free {d : Drive} {part n : Nat} (h : wornFree d part = some n) : ∃ s, (n, s) ∈ d.array ∧ s.state = 0 := by
  unfold wornFree at h
  change List.foldl _ _ d.array = _ at h
  generalize hstep : (fun (best : Option Nat) (p : Nat × Superblock) => _) = f at h
  have hf : ∀ best p m, f best p = some m → best = some m ∨ m = p.1 ∧ p.2.state = 0 := by
    intro best p m hm
    subst hstep
    dsimp only at hm
    split at hm
    · exact .inl hm
    · rename_i hfree
      have hs : p.2.state = 0 := by
        by_contra hs
        exact hfree (.inl hs)
      split at hm
      · exact .inr ⟨(Option.some.inj hm).symm, hs⟩
      · split at hm
        · exact .inr ⟨(Option.some.inj hm).symm, hs⟩
        · exact .inl hm
  clear hstep
  have hall : ∀ (l : List (Nat × Superblock)) best, l.foldl f best = some n → best = some n ∨ ∃ s, (n, s) ∈ l ∧ s.state = 0 := by
    intro l
    induction l with
    | nil => exact fun best hb => .inl hb
    | cons p l ih =>
      intro best hb
      rcases ih _ hb with hb | ⟨s, hs, h0⟩
      · rcases hf _ _ _ hb with hb | ⟨rfl, h0⟩
        · exact .inl hb
        · exact .inr ⟨p.2, List.mem_cons_self, h0⟩
      · exact .inr ⟨s, List.mem_cons_of_mem _ hs, h0⟩
  rcases hall _ _ h with h | h
  · cases h
  · exact h

theorem Drive.pickFree_unused {d : Drive} {part n : Nat} (hd : Rising d.array) (h : d.pickFree part = some n) : ¬(d.sb n).inUse := by
  rw [Drive.sb_eq]
  unfold Drive.pickFree at h
  split at h
  · rename_i hfresh
    obtain rfl := Option.some.inj h
    exact blockIn_unused_of_unlisted (freshSb_unlisted hfresh)
  · obtain ⟨s, hmem, hs⟩ := wornFree_free h
    exact blockIn_unused_of_free hd hmem hs

/-! ## Allocation -/

theorem Drive.setSb_lasts {b n s} {d : Drive} (hb : Lasts b d.array) (hs : (d.sb n).Becomes s) : Lasts b (d.setSb n s).array := hb.put hs

theorem Drive.modSb_lasts {b n f} {d : Drive} (hb : Lasts b d.array) (hf : (d.sb n).Becomes (f (d.sb n))) : Lasts b (d.modSb n f).array :=
  hb.put hf

/-- A change of a superblock that leaves its state, its mode and its erasures. -/
theorem Drive.modSb_lasts_of_same {b n} {f : Superblock → Superblock} {d : Drive} (hb : Lasts b d.array)
    (hf : ∀ s, (f s).state = s.state ∧ (f s).slc = s.slc ∧ (f s).eraseQlc = s.eraseQlc ∧ (f s).eraseSlc = s.eraseSlc) :
    Lasts b (d.modSb n f).array := by
  obtain ⟨hs, hm, hq, he⟩ := hf (d.sb n)
  exact hb.put (.of_state hq he (fun h => by rwa [Superblock.inUse, hs]) hm)

theorem Drive.closeFull_lasts {b} (stream slc g) {d : Drive} (hb : Lasts b d.array) : Lasts b (d.closeFull stream slc g).array := by
  refine hb.map fun p => ?_
  dsimp only
  split
  · exact ⟨rfl, .of_state rfl rfl (fun _ => by simp [Superblock.inUse]) rfl⟩
  · exact ⟨rfl, .refl _⟩

theorem Drive.openSb_lasts {b stream slc} {d : Drive} {n} {z : Drive} (h : d.openSb stream slc = some (n, z)) (hb : Lasts b d.array) :
    Lasts b z.array := by
  unfold Drive.openSb at h
  split at h
  · cases h
  · obtain ⟨m, hm, heq⟩ := Option.map_eq_some_iff.mp h
    obtain ⟨rfl, rfl⟩ := Prod.mk.inj heq
    have hfree := Drive.pickFree_unused hb.rising hm
    have hseq : d.nextSbSeq.2.array = d.array := Drive.nextSbSeq_array d
    rw [← Drive.sb_of_array hseq] at hfree
    exact Drive.setSb_lasts (d := d.nextSbSeq.2) (hseq ▸ hb) (.of_unused rfl rfl hfree)

theorem Drive.allocate_lasts {b stream slc g} {d : Drive} {p} {z : Drive} (h : d.allocate stream slc g = some (p, z)) (hb : Lasts b d.array) :
    Lasts b z.array := by
  unfold Drive.allocate at h
  split at h
  · obtain ⟨-, rfl⟩ := Prod.mk.inj (Option.some.inj h)
    exact Drive.modSb_lasts_of_same hb fun s => ⟨rfl, rfl, rfl, rfl⟩
  · obtain ⟨⟨n, w⟩, hopen, heq⟩ := Option.map_eq_some_iff.mp h
    obtain ⟨-, rfl⟩ := Prod.mk.inj heq
    exact Drive.modSb_lasts_of_same (Drive.openSb_lasts hopen (Drive.closeFull_lasts _ _ _ hb)) fun s => ⟨rfl, rfl, rfl, rfl⟩

@[simp] theorem Drive.placeRec_lasts {b} (sb gran r) {d : Drive} (hb : Lasts b d.array) : Lasts b (d.placeRec sb gran r).array :=
  Drive.modSb_lasts_of_same hb fun s => ⟨rfl, rfl, rfl, rfl⟩

/-! ## Erases -/

/-- A superblock that is in use before an SB_STATE delta is so after it, unless the state says otherwise. -/
theorem Drive.sbState_lasts {b sb state} {d : Drive} (hb : Lasts b d.array) (hs : (d.sb sb).inUse → state ∈ [1, 2, 3, 4]) :
    Lasts b (d.sbState sb state).array := by
  unfold Drive.sbState
  rw [Drive.delta_array]
  exact Drive.modSb_lasts hb (.of_state rfl rfl hs rfl)

@[simp] theorem eraseBlocks_lasts {b} (sb) (l) {d : Drive} (hb : Lasts b d.array) : Lasts b (eraseBlocks sb l d).array := by
  induction l generalizing d with
  | nil => exact hb
  | cons c l ih =>
    rw [eraseBlocks]
    refine ih (.ite hb (Drive.modSb_lasts_of_same ?_ fun s => ⟨rfl, rfl, rfl, rfl⟩))
    rwa [Drive.beginBusy_array]

@[simp] theorem advanceErases_lasts {b} (l) {d : Drive} (hb : Lasts b d.array) : Lasts b (advanceErases l d).array := by
  induction l generalizing d with
  | nil => exact hb
  | cons p l ih =>
    rw [advanceErases]
    exact ih (.ite hb (eraseBlocks_lasts _ _ (.ite (Drive.modSb_lasts_of_same hb fun s => ⟨rfl, rfl, rfl, rfl⟩) hb)))

theorem erased_erasures (s : Superblock) :
    s.erasures < (if s.slc then s.eraseQlc else s.eraseQlc + 1) + (if s.slc then s.eraseSlc + 1 else s.eraseSlc) := by
  rw [Superblock.erasures]
  split <;> omega

/-- A block of a superblock is erased: with the last one the superblock has an erasure more. -/
@[simp] theorem Drive.blockErased_lasts {b} (sb) {d : Drive} (hb : Lasts b d.array) : Lasts b (d.blockErased sb).array := by
  unfold Drive.blockErased
  extract_lets +onlyGivenNames d1 s
  have h1 : Lasts b d1.array := Drive.modSb_lasts_of_same hb fun s => ⟨rfl, rfl, rfl, rfl⟩
  split
  · exact h1
  · unfold Drive.sbState
    rw [Drive.delta_array]
    refine h1.put_put (.inl ?_)
    rw [← Drive.sb_eq, Drive.sb_setSb]
    exact erased_erasures (d1.sb sb)

end Sys2Proof.Machine
end

-- Proofs of Clipping, wear and recovery: clipping, programs and substitutes keep the mode of a superblock.
section
namespace Sys2Proof.Machine
open Sys2Proof

/-! ## Clipping -/

theorem Drive.finishClip_lasts {b} (sb) {d : Drive} (hb : Lasts b d.array) : Lasts b (d.finishClip sb).array := by
  unfold Drive.finishClip
  split
  · exact hb
  split
  · exact hb
  · refine Drive.sbState_lasts ?_ fun _ => by decide
    exact foldl_lasts (fun d p hb => by simpa using hb) _ hb

theorem advanceClip_lasts {b} (sb) (n) {d : Drive} (hb : Lasts b d.array) : Lasts b (advanceClip sb n d).array := by
  induction n generalizing d with
  | zero => exact Drive.finishClip_lasts _ hb
  | succ n ih =>
    rw [advanceClip]
    split
    · exact hb
    dsimp only
    split
    · exact Drive.finishClip_lasts _ hb
    split
    · exact ih hb
    split
    · exact hb
    split
    · exact hb
    · rename_i halloc
      split
      · exact hb
      · rename_i hissue
        refine ih ?_
        rw [Drive.array_mk, Media.array_mk, Drive.media_array, Drive.countEcc_array, Drive.issueProgram_array hissue]
        exact Drive.allocate_lasts halloc hb

theorem advanceRepairs_lasts {b} (l) {d : Drive} (hb : Lasts b d.array) : Lasts b (advanceRepairs l d).array := by
  induction l generalizing d with
  | nil => exact hb
  | cons x l ih =>
    obtain ⟨r, sb, gran⟩ := x
    rw [advanceRepairs]
    dsimp only
    refine ih (.ite hb (.ite hb ?_))
    split
    · exact hb
    · rename_i halloc
      split
      · exact hb
      · rename_i hissue
        rw [Drive.array_mk, Media.array_mk, Drive.media_array, Drive.issueProgram_array hissue]
        exact Drive.allocate_lasts halloc hb

@[simp] theorem Drive.advanceMedia_lasts {b} {d : Drive} (hb : Lasts b d.array) : Lasts b d.advanceMedia.array := by
  unfold Drive.advanceMedia
  refine advanceErases_lasts _ (foldl_lasts (fun d c hb => advanceClip_lasts _ _ hb) _ (advanceRepairs_lasts _ ?_))
  rwa [startAll_array]

@[simp] theorem eraseComplete_lasts {b} (die) {d : Drive} (hb : Lasts b d.array) : Lasts b (eraseComplete die d).array := by
  unfold eraseComplete
  dsimp only
  split
  · exact hb
  split
  · exact hb
  · simp [hb]

@[simp] theorem Drive.moveRec_lasts {b} (sb gran sb' gran' r) {d : Drive} (hb : Lasts b d.array) :
    Lasts b (d.moveRec sb gran sb' gran' r).array := by
  unfold Drive.moveRec
  simp [hb]

@[simp] theorem Drive.beginClip_lasts {b} (sb fold bad) {d : Drive} (hb : Lasts b d.array) : Lasts b (d.beginClip sb fold bad).array := by
  unfold Drive.beginClip
  refine Drive.advanceMedia_lasts (advanceClip_lasts _ _ ?_)
  rw [Drive.array_mk, Media.array_mk, Drive.media_array, markBad_array]
  refine Drive.modSb_lasts (by rwa [Drive.awaken_array]) (.of_state rfl rfl (fun _ => by simp [Superblock.inUse]) rfl)

@[simp] theorem clipVictimSelect_lasts {b} (bad) {d : Drive} (hb : Lasts b d.array) : Lasts b (clipVictimSelect bad d).array := by
  unfold clipVictimSelect
  split <;> simp [hb]

@[simp] theorem folding_lasts {b} (bad) {d : Drive} (hb : Lasts b d.array) : Lasts b (folding bad d).array := by
  unfold folding
  dsimp only
  split <;> simp [hb]

/-! ## Programs -/

theorem shelfDrain_lasts {b} {d : Drive} (hb : Lasts b d.array) : Lasts b (shelfDrain d).array := by
  unfold shelfDrain
  obtain ⟨full, hfull⟩ : ∃ b, decide (d.media.shelfLimitMiB * 2 ^ 20 ≤ 2 * d.shelfUsed) = b := ⟨_, rfl⟩
  rw [hfull]
  extract_lets +onlyGivenNames busy
  split
  · exact hb
  extract_lets +onlyGivenNames g
  split
  · rwa [getD_array fun z hz => Drive.issueProgram_array hz]
  extract_lets +onlyGivenNames full' burst qlc
  have hroom : ∀ p z, burst.orElse (fun _ => qlc) = some (p, z) → Lasts b z.array := fun p z hz => by
    rcases orElse_some hz with hz | hz
    · rcases ite_eq_iff.mp hz with ⟨-, hz⟩ | ⟨-, hz⟩
      · exact Drive.allocate_lasts hz hb
      · cases hz
    · rcases ite_eq_iff.mp hz with ⟨-, hz⟩ | ⟨-, hz⟩
      · cases hz
      · exact Drive.allocate_lasts hz hb
  clear_value burst qlc
  split
  · exact hb
  · rename_i halloc
    split
    · exact hb
    · rename_i hissue
      rw [Drive.array_mk, Media.array_mk, Drive.media_array, Drive.issueProgram_array hissue]
      exact hroom _ _ halloc

@[simp] theorem Drive.shelfDone_lasts {b} (idx sb gran) {d : Drive} (hb : Lasts b d.array) : Lasts b (d.shelfDone idx sb gran).array := by
  unfold Drive.shelfDone
  split
  · exact hb
  extract_lets +onlyGivenNames r kv hlth d1 placed noted kv1 d2 d3
  have h1 : Lasts b d1.array := hb
  have hplaced : Lasts b placed.array := Drive.placeRec_lasts _ _ _ h1
  have hnoted : Lasts b noted.array := by simpa [noted] using hplaced
  have h2 : Lasts b d2.array := .ite h1 (.ite hnoted hplaced)
  have h3 : Lasts b d3.array := by simpa [d3] using h2
  clear_value d3
  split
  · simp [h3]
  · exact h3

@[simp] theorem programDone_lasts {b} (job sb gran) {d : Drive} (hb : Lasts b d.array) : Lasts b (programDone job sb gran d).array := by
  unfold programDone
  extract_lets +onlyGivenNames d1
  have h1 : Lasts b d1.array := Drive.modSb_lasts_of_same hb fun s => ⟨rfl, rfl, rfl, rfl⟩
  clear_value d1
  split
  · simp [h1]
  · exact Drive.finishClip_lasts _ (by simp [h1])
  · simp [h1]

@[simp] theorem runVerified_lasts {b} (l) {d : Drive} (hb : Lasts b d.array) : Lasts b (runVerified l d).array := by
  induction l generalizing d with
  | nil => exact hb
  | cons x l ih =>
    rw [runVerified]
    exact .ite (ih (programDone_lasts _ _ _ hb)) hb

@[simp] theorem programComplete_lasts {b} (die) {d : Drive} (hb : Lasts b d.array) : Lasts b (programComplete die d).array := by
  unfold programComplete
  dsimp only
  split
  · exact hb
  split
  · exact hb
  split <;> simp [hb]

/-! ## Substitutes -/

@[simp] theorem Drive.shrinkBurst_lasts {b} {d : Drive} (hb : Lasts b d.array) : Lasts b d.shrinkBurst.array := by
  unfold Drive.shrinkBurst
  split
  · exact hb
  · extract_lets +onlyGivenNames area give
    refine foldl_lasts (fun d n hb => ?_) _ hb
    exact Drive.setSb_lasts (n := n) hb (.refl _)

@[simp] theorem Drive.spareWatch_lasts {b} {d : Drive} (hb : Lasts b d.array) : Lasts b d.spareWatch.array := by
  have hshrunk := Drive.shrinkBurst_lasts hb
  rw [d.spareWatch_eq]
  generalize d.shrinkBurst.sparePct = p
  unfold Drive.spareAt
  simp [hshrunk]

theorem Drive.takeSubstitute_lasts {b sb} {d : Drive} {p} {z : Drive} (h : d.takeSubstitute sb = some (p, z)) (hb : Lasts b d.array) :
    Lasts b z.array := by
  unfold Drive.takeSubstitute at h
  dsimp only at h
  split at h
  · obtain ⟨-, rfl⟩ := Prod.mk.inj (Option.some.inj h)
    exact hb
  split at h
  · cases h
  · rename_i n hfind
    obtain ⟨q, -, heq⟩ := Option.map_eq_some_iff.mp h
    obtain ⟨-, rfl⟩ := Prod.mk.inj heq
    refine Drive.sbState_lasts hb fun hused => absurd hused ?_
    have hmem := List.mem_of_find?_eq_some hfind
    simp only [List.mem_append, List.mem_map, List.mem_filter, Option.mem_toList] at hmem
    rcases hmem with (hfresh | ⟨⟨m, s⟩, ⟨hlisted, hs⟩, rfl⟩) | hfresh
    · exact blockIn_unused_of_unlisted (freshSb_unlisted hfresh)
    · exact blockIn_unused_of_free hb.rising hlisted (of_decide_eq_true hs).1
    · exact blockIn_unused_of_unlisted (freshSb_unlisted hfresh)

theorem Drive.retireBlock_lasts {b sb channel} {d : Drive} {n} {z : Drive} (h : d.retireBlock sb channel = some (n, z)) (hb : Lasts b d.array) :
    Lasts b z.array := by
  unfold Drive.retireBlock at h
  obtain ⟨⟨p, w⟩, hw, heq⟩ := Option.map_eq_some_iff.mp h
  obtain ⟨-, rfl⟩ : _ ∧ _ = z := by simpa using heq
  simp [Drive.takeSubstitute_lasts hw hb]

theorem programFail_lasts {b} (die) {d : Drive} (hb : Lasts b d.array) : Lasts b (programFail die d).array := by
  unfold programFail
  split
  · exact hb
  split
  · exact hb
  split
  · exact hb
  · rename_i h
    have hz := Drive.retireBlock_lasts h hb
    dsimp only
    split
    · simp [hz]
    · split <;> simp [hz]

theorem eraseFail_lasts {b} (die) {d : Drive} (hb : Lasts b d.array) : Lasts b (eraseFail die d).array := by
  unfold eraseFail
  split
  · exact hb
  split
  · exact hb
  split
  · exact hb
  · rename_i h
    simp [Drive.retireBlock_lasts h hb]

theorem healthWearUpdate_lasts {b} {d : Drive} (hb : Lasts b d.array) : Lasts b (healthWearUpdate d).array := by
  unfold healthWearUpdate
  obtain ⟨f, hf⟩ : ∃ f, Drive.advanceTo = f := ⟨_, rfl⟩
  have h := Drive.advanceTo_array ((d.now / 60000000000 + 1) * 60000000000) d
  rw [hf] at h ⊢
  exact Drive.spareWatch_lasts (by simp [h, hb])

theorem patrolVisit_lasts {b} (sb cws) {d : Drive} (hb : Lasts b d.array) : Lasts b (patrolVisit sb cws d).array := by
  unfold patrolVisit
  extract_lets +onlyGivenNames s
  split
  · exact hb
  extract_lets +onlyGivenNames d1 d2 d3 d4 src d5
  have h2 : Lasts b d2.array := Drive.modSb_lasts_of_same (by simpa [d1] using hb) fun s => ⟨rfl, rfl, rfl, rfl⟩
  have h5 : Lasts b d5.array := by simpa [d5, src, d4, d3] using h2
  clear_value d5
  split
  · extract_lets +onlyGivenNames d6 src' d7
    have h6 : Lasts b d6.array := Drive.modSb_lasts_of_same h5 fun s => ⟨rfl, rfl, rfl, rfl⟩
    simpa [d7, src'] using h6
  · exact h5

/-! ## Reads that lead to repairs -/

@[simp] theorem Drive.writeRepair_lasts {b} (s) {d : Drive} (hb : Lasts b d.array) : Lasts b (d.writeRepair s).array := by
  unfold Drive.writeRepair
  split <;> simp [hb]

@[simp] theorem ladderOk_lasts {b} (s) {d : Drive} (hb : Lasts b d.array) : Lasts b (ladderOk s d).array := by
  unfold ladderOk
  simp [hb]

@[simp] theorem pageDone_lasts {b} (o good recon verified) {d : Drive} (hb : Lasts b d.array) :
    Lasts b (pageDone o good recon verified d).array := by
  unfold pageDone
  split <;> simp [hb]

@[simp] theorem rebuildDone_lasts {b} (j verified) {d : Drive} (hb : Lasts b d.array) : Lasts b (rebuildDone j verified d).array := by
  unfold rebuildDone
  split <;> simp [hb]

@[simp] theorem sourceDone_lasts {b} (s bad verified) {d : Drive} (hb : Lasts b d.array) : Lasts b (sourceDone s bad verified d).array := by
  unfold sourceDone
  split <;> simp [hb]

theorem arrayReadComplete_lasts {b} (o chunk gran src cws verified) {d : Drive} (hb : Lasts b d.array) :
    Lasts b (arrayReadComplete o chunk gran src cws verified d).array := by
  unfold arrayReadComplete
  split <;> simp [hb]

theorem loseDie_lasts {b} (l) {d : Drive} (hb : Lasts b d.array) : Lasts b (loseDie l d).array := by
  induction l generalizing d with
  | nil => exact hb
  | cons x l ih => exact ih (by simp [hb])

end Sys2Proof.Machine
end

-- Proofs of Clipping, wear and recovery: power, PUT and the attributes keep the mode of a superblock.
section
namespace Sys2Proof.Machine
open Sys2Proof

/-! ## Handlers given to a wrapper -/

theorem Drive.withReq_lasts {b} {f : Req → Drive → Drive} (hf : ∀ r d, Lasts b d.array → Lasts b (f r d).array) (o) (ops) {d : Drive}
    (hb : Lasts b d.array) : Lasts b (d.withReq o ops f).array := by
  unfold Drive.withReq
  split
  · split
    · exact hf _ _ hb
    · exact hb
  · exact hb

theorem Drive.withPhase_lasts {b} {f : Req → Drive → Drive} (hf : ∀ r d, Lasts b d.array → Lasts b (f r d).array) (o) (ph) {d : Drive}
    (hb : Lasts b d.array) : Lasts b (d.withPhase o ph f).array := by
  unfold Drive.withPhase
  split
  · split
    · exact hf _ _ hb
    · exact hb
  · exact hb

theorem Drive.fromTwin_lasts {b} {f : Drive → Drive} (hf : ∀ d, Lasts b d.array → Lasts b (f d).array) {d : Drive} (hb : Lasts b d.array) :
    Lasts b (d.fromTwin f).array := by
  unfold Drive.fromTwin
  split <;> simp [hf, hb]

theorem Drive.onceTwin_lasts {b} {f : Drive → Drive} (hf : ∀ d, Lasts b d.array → Lasts b (f d).array) (opId) {d : Drive}
    (hb : Lasts b d.array) : Lasts b (d.onceTwin opId f).array := by
  unfold Drive.onceTwin
  split <;> simp [hf, hb]

theorem relayOr_lasts {b} {f : Drive → Drive} (hf : ∀ d, Lasts b d.array → Lasts b (f d).array) (r) {d : Drive} (hb : Lasts b d.array) :
    Lasts b (relayOr r f d).array := by
  unfold relayOr
  dsimp only
  repeat' split
  all_goals simp [hf, hb]

theorem attrCmd_lasts {b} {w : Drive → Wr} (hw : ∀ d, Lasts b d.array → Lasts b (w d).dev.array) (ch addr) {d : Drive}
    (hb : Lasts b d.array) : Lasts b (attrCmd ch addr w d).array := by
  unfold attrCmd
  simp [hw, hb]

/-! ## The map, the roots and the reserve -/

theorem chunkData_lasts {b} (opId body verifies) {d : Drive} (hb : Lasts b d.array) : Lasts b (chunkData opId body verifies d).array := by
  unfold chunkData
  refine Drive.fromTwin_lasts (fun d hb => ?_) hb
  dsimp only
  split <;> simp [hb]

@[simp] theorem Drive.writeRoot_lasts {b} (clean) {d : Drive} (hb : Lasts b d.array) : Lasts b (d.writeRoot clean).array := by
  have hopen : ∀ n, Lasts b (d.openRoot n).array := by
    intro n
    unfold Drive.openRoot
    split
    · exact hb
    · rename_i hs
      have hseq : d.nextSbSeq.2.array = d.array := Drive.nextSbSeq_array d
      refine Drive.modSb_lasts (d := d.nextSbSeq.2) (hseq ▸ hb) (.of_unused rfl rfl ?_)
      rw [Drive.sb_of_array hseq, Superblock.inUse, Decidable.not_not.mp hs]
      decide
  exact hopen _

@[simp] theorem growMaps_lasts {b} (n) {d : Drive} (hb : Lasts b d.array) : Lasts b (growMaps n d).array := by
  induction n generalizing d with
  | zero => exact hb
  | succ n ih =>
    rw [growMaps]
    split
    · exact hb
    split
    · exact hb
    · rename_i hopen
      have hz := Drive.openSb_lasts hopen hb
      exact ih hz

@[simp] theorem dropMaps_lasts {b} (n) {d : Drive} (hb : Lasts b d.array) : Lasts b (dropMaps n d).array := by
  induction n generalizing d with
  | zero => exact hb
  | succ n ih =>
    rw [dropMaps]
    split
    · exact hb
    split
    · exact hb
    · exact ih (Drive.sbState_lasts hb fun _ => by decide)

theorem checkpoint_lasts {b} {d : Drive} (hb : Lasts b d.array) : Lasts b (checkpoint d).array := by
  unfold checkpoint
  extract_lets +onlyGivenNames d1 d2
  have h2 : Lasts b d2.array := Drive.advanceMedia_lasts (dropMaps_lasts _ (growMaps_lasts _ (by simpa [d1] using hb)))
  clear_value d2
  simp [h2]

@[simp] theorem deltaDrain_lasts {b} {d : Drive} (hb : Lasts b d.array) : Lasts b (deltaDrain d).array := by
  unfold deltaDrain
  simp [hb]

/-! ## Power -/

@[simp] theorem Drive.stopClips_lasts {b} {d : Drive} (hb : Lasts b d.array) : Lasts b d.stopClips.array := by
  refine hb.map fun p => ⟨rfl, .of_state rfl rfl (fun hs => ?_) rfl⟩
  dsimp only [Superblock.inUse]
  split
  · decide
  · exact hs

@[simp] theorem Drive.quiesce_lasts {b} {d : Drive} (hb : Lasts b d.array) : Lasts b d.quiesce.array := by
  unfold Drive.quiesce
  simp [hb]

@[simp] theorem Drive.islandsOff_lasts {b} {d : Drive} (hb : Lasts b d.array) : Lasts b d.islandsOff.array := by
  unfold Drive.islandsOff
  simp [hb]

@[simp] theorem Drive.railsOff_lasts {b} {d : Drive} (hb : Lasts b d.array) : Lasts b d.railsOff.array := by
  unfold Drive.railsOff
  simp [hb]

@[simp] theorem Drive.dropPower_lasts {b} {d : Drive} (hb : Lasts b d.array) : Lasts b d.dropPower.array := by
  unfold Drive.dropPower
  simp [hb]

@[simp] theorem Drive.beginFlush_lasts {b} {d : Drive} (hb : Lasts b d.array) : Lasts b d.beginFlush.array := by
  unfold Drive.beginFlush
  simp [hb]

@[simp] theorem Drive.openReserve_lasts {b} {d : Drive} (hb : Lasts b d.array) : Lasts b d.openReserve.array := by
  unfold Drive.openReserve
  refine foldl_lasts (fun d n hb => ?_) _ hb
  split
  · rename_i hs
    refine Drive.modSb_lasts hb (.of_unused rfl rfl ?_)
    rw [Superblock.inUse, hs]
    decide
  · exact hb

@[simp] theorem Drive.resetReserve_lasts {b} {d : Drive} (hb : Lasts b d.array) : Lasts b d.resetReserve.array := by
  unfold Drive.resetReserve
  refine foldl_lasts (fun d n hb => .ite (Drive.setSb_lasts hb (.inl ?_)) hb) _ hb
  simp only [Superblock.erasures]
  omega

@[simp] theorem Drive.endFlush_lasts {b} {d : Drive} (hb : Lasts b d.array) : Lasts b d.endFlush.array := by
  unfold Drive.endFlush
  simp [hb]

@[simp] theorem Drive.mainReset_lasts {b} {d : Drive} (hb : Lasts b d.array) : Lasts b d.mainReset.array := by
  unfold Drive.mainReset
  simp [hb]

@[simp] theorem Drive.zeroise_lasts {b} (cause) {d : Drive} (hb : Lasts b d.array) : Lasts b (d.zeroise cause).array := by
  unfold Drive.zeroise
  simp [hb]

@[simp] theorem tamperLoopSample_lasts {b} (isOpen) {d : Drive} (hb : Lasts b d.array) : Lasts b (tamperLoopSample isOpen d).array := by
  unfold tamperLoopSample
  simp [hb]

@[simp] theorem zeroizeWrite_lasts {b} (ch v) {d : Drive} (hb : Lasts b d.array) : Lasts b (zeroizeWrite ch v d).dev.array := by
  unfold zeroizeWrite
  simp [hb]

@[simp] theorem supplyHigh_lasts {b} (mv) {d : Drive} (hb : Lasts b d.array) : Lasts b (supplyHigh mv d).array := by
  unfold supplyHigh
  simp [hb]

theorem mrst_lasts {b} {d : Drive} (hb : Lasts b d.array) : Lasts b (mrst d).array := by
  unfold mrst
  simp [hb]

theorem governor1_lasts {b} (mw) {d : Drive} (hb : Lasts b d.array) : Lasts b (governor1 mw d).array := by
  unfold governor1
  simp [hb]

theorem thermalShutdownTimeout_lasts {b} {d : Drive} (hb : Lasts b d.array) : Lasts b (thermalShutdownTimeout d).array := by
  unfold thermalShutdownTimeout
  split <;> simp [hb]

@[simp] theorem devReset_lasts {b} (ch v) {d : Drive} (hb : Lasts b d.array) : Lasts b (devReset ch v d).dev.array := by
  unfold devReset lockedOut
  simp [hb]
  split <;> simp [hb]

@[simp] theorem Drive.startFails_lasts {b} {d : Drive} (hb : Lasts b d.array) : Lasts b d.startFails.array := by
  unfold Drive.startFails
  simp [hb]

theorem startTimeout_lasts {b} {d : Drive} (hb : Lasts b d.array) : Lasts b (startTimeout d).array := by
  unfold startTimeout
  simp [hb]

theorem auxPowerApplied_lasts {b} (isOpen) {d : Drive} (hb : Lasts b d.array) : Lasts b (auxPowerApplied isOpen d).array := by
  unfold auxPowerApplied
  split
  · exact hb
  have hread := Drive.readArea_array true d
  split
  rename_i e heq
  rw [heq] at hread
  exact tamperLoopSample_lasts _ (by simpa [show e.array = d.array from hread] using hb)

/-! ## PUT, the shutdown and the attributes -/

@[simp] theorem commitLocated_lasts {b} (r ns tenant g) {d : Drive} (hb : Lasts b d.array) :
    Lasts b (commitLocated r ns tenant g d).array := by
  unfold commitLocated
  split
  · simp [hb]
  split
  · exact hb
  split
  · exact hb
  · rename_i halloc
    simp [Drive.allocate_lasts halloc hb]

@[simp] theorem putCommit_lasts {b} (o) {d : Drive} (hb : Lasts b d.array) : Lasts b (putCommit o d).array := by
  unfold putCommit
  refine Drive.withPhase_lasts (fun r d hb => ?_) _ _ hb
  extract_lets +onlyGivenNames tenant ns key g
  refine .ite (.ite (by simp [hb]) (.ite (by simp [hb]) hb)) (.ite hb (.ite (by simp [hb]) (.ite (by simp [hb]) (.ite (by simp [hb])
    (.ite (by simp [hb]) (.ite (by simp [hb]) (.ite (by simp [hb]) (.ite (by simp [hb]) (.ite (by simp [hb]) ?_)))))))))
  extract_lets +onlyGivenNames noted cur
  have hn : Lasts b noted.array := by
    dsimp only [noted]
    split <;> simp [hb]
  clear_value noted cur
  split
  · simp [hn]
  · have hroom := Drive.roomFor_array r.hdr.ns key g cur.isNone noted
    split <;> rename_i heq <;> rw [heq] at hroom <;> dsimp only at hroom
    · simp [hroom, hn]
    · refine .ite (by simp [hroom, hn]) (.ite (by simpa [hroom] using hn) ?_)
      simp [hroom, hn]

theorem fwdWrite_lasts {b} (opId aux tag h body) {d : Drive} (hb : Lasts b d.array) : Lasts b (fwdWrite opId aux tag h body d).array := by
  unfold fwdWrite Drive.fromTwinAwake
  refine Drive.fromTwin_lasts (fun d hb => Drive.onceTwin_lasts (fun d hb => ?_) _ hb) (by simpa using hb)
  dsimp only
  split
  · simp [hb]
  · simp [hb]
  · simp [hb]
  · simp [hb]
  · split <;> simp [hb]

@[simp] theorem drainShelf_lasts {b} (n) {d : Drive} (hb : Lasts b d.array) : Lasts b (drainShelf n d).array := by
  induction n generalizing d with
  | zero => exact hb
  | succ n ih =>
    rw [drainShelf]
    split
    · exact hb
    extract_lets +onlyGivenNames spot
    have hspot : ∀ p z, spot = some (p, z) → Lasts b z.array := by
      intro p z hz
      dsimp only [spot] at hz
      split at hz
      · obtain ⟨-, rfl⟩ : _ ∧ d = z := by simpa using hz
        exact hb
      · rcases orElse_some hz with hz | hz <;> exact Drive.allocate_lasts hz hb
    clear_value spot
    split
    · exact ih (Drive.shelfDone_lasts _ _ _ (hspot _ _ rfl))
    · exact hb

@[simp] theorem Drive.cleanShutdown_lasts {b} {d : Drive} (hb : Lasts b d.array) : Lasts b d.cleanShutdown.array := by
  unfold Drive.cleanShutdown
  extract_lets +onlyGivenNames media d1 d2 d3 d4
  have h3 : Lasts b d3.array := deltaDrain_lasts (drainShelf_lasts _ (Drive.stopClips_lasts (d := d1) hb))
  have h4 : Lasts b d4.array := by simpa [d4] using h3
  clear_value d4
  simp [h4]

@[simp] theorem Drive.shutDown_lasts {b} {d : Drive} (hb : Lasts b d.array) : Lasts b d.shutDown.array := by
  unfold Drive.shutDown
  simp [hb]

@[simp] theorem Drive.enterError_lasts {b} (test pair) {d : Drive} (hb : Lasts b d.array) : Lasts b (d.enterError test pair).array := by
  unfold Drive.enterError
  simp [hb]

theorem pwrdisAssert_lasts {b} (how) {d : Drive} (hb : Lasts b d.array) : Lasts b (pwrdisAssert how d).array := by
  unfold pwrdisAssert
  extract_lets +onlyGivenNames d1
  have h1 : Lasts b d1.array := by simpa [d1] using hb
  clear_value d1
  split
  · simp [h1]
  split <;> simp [h1]

@[simp] theorem tempSample_lasts {b} (readings completes) {d : Drive} (hb : Lasts b d.array) :
    Lasts b (tempSample readings completes d).array := by
  unfold tempSample Drive.thermalProtect
  simp [hb]

@[simp] theorem attrSet_lasts {b} (ch base v ws) {d : Drive} (hb : Lasts b d.array) : Lasts b (attrSet ch base v ws d).dev.array := by
  unfold attrSet
  split
  · simp [hb]
  · split <;> simp [hb]

@[simp] theorem writeWord_lasts {b} (ch addr v) {d : Drive} (hb : Lasts b d.array) : Lasts b (writeWord ch addr v d).dev.array := by
  unfold writeWord
  split
  · simp [hb]
  · dsimp only
    split
    · simp [hb]
    split
    · simp [hb]
    split
    · simp [hb]
    split
    · simp [hb]
    · simp [hb]

@[simp] theorem writeWords_lasts {b} (ch vs) {addr n} {d : Drive} (hb : Lasts b d.array) : Lasts b (writeWords ch addr vs n d).2.dev.array := by
  induction vs generalizing addr n d with
  | nil => exact hb
  | cons v vs ih =>
    rw [writeWords]
    split
    · exact writeWord_lasts _ _ _ hb
    · exact ih (writeWord_lasts _ _ _ hb)

@[simp] theorem attrWriteOp_lasts {b} (r) {d : Drive} (hb : Lasts b d.array) : Lasts b (attrWriteOp r d).array := by
  unfold attrWriteOp
  dsimp only
  repeat' split
  all_goals simp [hb]

theorem attrWrite_lasts {b} (o) {d : Drive} (hb : Lasts b d.array) : Lasts b (attrWrite o d).array :=
  Drive.withReq_lasts (fun r _ hb => relayOr_lasts (fun _ hb => attrWriteOp_lasts r hb) r hb) _ _ hb

theorem mgmtReq_lasts {b} (src seq h body) {d : Drive} (hb : Lasts b d.array) : Lasts b (mgmtReq src seq h body d).array := by
  unfold mgmtReq Drive.fromRing
  dsimp only
  split
  · simpa using hb
  · have hadd : ∀ r (d : Drive), Lasts b d.array → Lasts b (d.addReq r).array := fun r d hb => by simpa using hb
    refine .ite ?_ (.ite (attrWriteOp_lasts _ (hadd _ _ ?_)) (.ite ?_ ?_)) <;> simpa using hb

end Sys2Proof.Machine
end

-- Proofs of Clipping, wear and recovery: jobs, firmware and the start keep the mode of a superblock.
section
namespace Sys2Proof.Machine
open Sys2Proof

/-! ## Jobs -/

@[simp] theorem clipStep_lasts {b} (j x) {d : Drive} (hb : Lasts b d.array) : Lasts b (clipStep j x d).2.2.array := by
  unfold clipStep
  extract_lets +onlyGivenNames clip next
  have hclip : ∀ n, Lasts b (clip n d).2.2.array := fun n => by
    dsimp only [clip]
    exact Drive.beginClip_lasts _ _ _ hb
  have hnext : Lasts b (next d).2.2.array := by
    dsimp only [next]
    split
    · split
      · exact hclip _
      · exact hb
    split
    · exact hb
    split
    · exact hclip _
    · exact hb
  clear_value next
  split
  · simp [hnext, hb]
  · exact hnext

@[simp] theorem kindCancel_lasts {b} (j) {d : Drive} (hb : Lasts b d.array) : Lasts b (kindCancel j d).array := by
  have hclip : Lasts b (clipCancel j d).array := by
    unfold clipCancel
    split
    · exact .ite (Drive.sbState_lasts hb fun _ => by decide) hb
    · exact hb
  unfold kindCancel
  split <;> simp [hclip, hb]

@[simp] theorem patrolStep_lasts {b} (j x) {d : Drive} (hb : Lasts b d.array) : Lasts b (patrolStep j x d).2.2.array := by
  unfold patrolStep
  dsimp only
  split
  · exact hb
  · exact patrolVisit_lasts _ _ hb

@[simp] theorem sanitizeStep_lasts {b} (j x) {d : Drive} (hb : Lasts b d.array) : Lasts b (sanitizeStep j x d).2.2.array := by
  unfold sanitizeStep
  dsimp only
  split
  · split <;> simp [hb]
  split
  · exact hb
  split
  · exact hb
  split
  · exact Drive.advanceMedia_lasts hb
  · dsimp only
    refine Drive.beginClip_lasts _ _ _ (Drive.modSb_lasts hb ?_)
    split
    · exact .of_state rfl rfl (fun _ => by simp [Superblock.inUse]) rfl
    · exact .refl _

@[simp] theorem rekeyStep_lasts {b} (j x) {d : Drive} (hb : Lasts b d.array) : Lasts b (rekeyStep j x d).2.2.array := by
  unfold rekeyStep
  dsimp only
  split
  · exact hb
  split
  · exact hb
  split
  · exact hb
  split
  · exact hb
  split
  · split
    · exact hb
    · rename_i hdraw
      simpa [Drive.drawNonce_array hdraw] using hb
  · split
    · simp [hb]
    split
    · exact hb
    · rename_i halloc
      split
      · exact hb
      · rename_i hdraw
        have hz := Drive.allocate_lasts halloc hb
        rw [← Drive.drawNonce_array hdraw] at hz
        simp [hz]

@[simp] theorem retireStep_lasts {b} (j) {d : Drive} (hb : Lasts b d.array) : Lasts b (retireStep j d).2.2.array := by
  unfold retireStep
  dsimp only
  split
  · simp [hb]
  split
  · exact hb
  split
  · simp [hb]
  split
  · exact hb
  · rename_i hsub
    have hz := Drive.takeSubstitute_lasts hsub hb
    simp [hz]

@[simp] theorem selftestStep_lasts {b} (j x) {d : Drive} (hb : Lasts b d.array) : Lasts b (selftestStep j x d).2.2.array := by
  unfold selftestStep
  dsimp only
  split
  · split <;> simp [hb]
  split
  · split
    · simp [hb]
    · split <;> simp [hb]
  · simp [hb]

theorem kindStep_lasts {b} (j x) {d : Drive} (hb : Lasts b d.array) : Lasts b (kindStep j x d).2.2.array := by
  unfold kindStep
  split <;> simp [hb, exportStep_array, importStep_array]

theorem jobStep_lasts {b} (id x) {d : Drive} (hb : Lasts b d.array) : Lasts b (jobStep id x d).array := by
  unfold jobStep
  split
  · exact hb
  · rename_i j _
    have hkind := kindStep_lasts j x hb
    split
    · simp [hb]
    split
    · split <;> rename_i heq <;> rw [heq] at hkind <;> dsimp only at hkind
      · simp [hkind]
      · split <;> simp [hkind]
    split
    · split <;> rename_i heq <;> rw [heq] at hkind <;> dsimp only at hkind
      · simp [hb]
      · simp [hkind]
    · exact hb

theorem dieUnresponsive_lasts {b} (die) {d : Drive} (hb : Lasts b d.array) : Lasts b (dieUnresponsive die d).array := by
  unfold dieUnresponsive
  split
  · exact hb
  extract_lets +onlyGivenNames mine media d1
  have h1 : Lasts b d1.array := loseDie_lasts _ (by simpa [media] using hb)
  clear_value d1
  split
  · simpa using h1
  split
  · rename_i h
    rwa [Drive.startJob_array h]
  · exact h1

/-! ## Firmware and the start -/

@[simp] theorem Drive.stopForStart_lasts {b} {d : Drive} (hb : Lasts b d.array) : Lasts b d.stopForStart.array := by
  unfold Drive.stopForStart
  simp [hb]

theorem fwActivateRestart_lasts {b} (o twinDl twinDigest) {d : Drive} (hb : Lasts b d.array) :
    Lasts b (fwActivateRestart o twinDl twinDigest d).array := by
  unfold fwActivateRestart activate
  refine Drive.withReq_lasts (fun r d hb => ?_) _ _ hb
  dsimp only
  repeat' split
  all_goals simp [hb]

theorem activateFirmware_lasts {b} (session) {d : Drive} (hb : Lasts b d.array) : Lasts b (activateFirmware session d).array := by
  unfold activateFirmware
  split
  · simp [hb]
  split
  · simp [hb]
  split
  · simp [hb]
  split
  · split
    · simp [hb]
    split
    · rename_i h
      simp [Drive.startRoll_array h, hb]
    · simp [hb]
  · simp [hb]

theorem Drive.pickImages_array {u} {d z : Drive} (h : d.pickImages u = .inr z) : z.array = d.array := by
  unfold Drive.pickImages at h
  extract_lets +onlyGivenNames bt s at h
  clear_value s
  split at h
  · cases h
  split at h
  · cases h
  extract_lets +onlyGivenNames n opt at h
  split at h
  · cases h
  extract_lets +onlyGivenNames o fell d1 d2 d3 at h
  have h3 : d3.array = d.array := by
    have h1 : d1.array = d.array := by simp [d1]
    have h2 : d2.array = d1.array := by
      dsimp only [d2]
      split
      · simp
      · rfl
    rw [← h1, ← h2]
    dsimp only [d3]
    split
    · simp
    · rfl
  clear_value d3
  obtain rfl := Sum.inr.inj h
  rw [← h3]
  split
  · simp
  · rfl

@[simp] theorem tryWrites_lasts {b} (l) {d : Drive} (hb : Lasts b d.array) : Lasts b (tryWrites l d).2.array := by
  induction l generalizing d with
  | nil => exact hb
  | cons p l ih =>
    rw [tryWrites]
    split
    · exact hb
    · exact ih (writeWord_lasts _ _ _ hb)

@[simp] theorem Drive.applyImage_lasts {b} (i) {d : Drive} (hb : Lasts b d.array) : Lasts b (d.applyImage i).array := by
  have hcuttings : ∀ (lo hi : Nat) (d : Drive), ((List.range (hi + 1 - lo)).foldl (fun (d : Drive) k =>
      (i.cuttings.filter (fun c => Cutting.rank c = lo + k)).foldl Drive.applyCutting d) d).array = d.array := fun lo hi d =>
    foldl_array (fun d k => foldl_array Drive.applyCutting_array _ d) _ d
  unfold Drive.applyImage
  refine tryWrites_lasts _ ?_
  rw [hcuttings, foldl_array (fun d k => placeEntries_array ..), hcuttings, hcuttings]
  exact hb

@[simp] theorem Drive.flushWasLost_lasts {b} {d : Drive} (hb : Lasts b d.array) : Lasts b d.flushWasLost.array := by
  unfold Drive.flushWasLost
  dsimp only
  rw [skipNonces_array, Drive.recount_array, Drive.event_array, Drive.loseBatches_array]
  exact hb.map fun p => ⟨rfl, .of_state rfl rfl id rfl⟩

theorem Drive.rebuild_lasts {b} (u) {d : Drive} (hb : Lasts b d.array) : Lasts b (d.rebuild u).array := by
  unfold Drive.rebuild
  dsimp only
  refine Drive.writeRoot_lasts _ ?_
  rw [skipNonces_array, Drive.recount_array]
  split <;> simpa using hb

theorem Drive.beginFirst_lasts {b} {d : Drive} (hb : Lasts b d.array) : Lasts b d.beginFirst.array := by
  unfold Drive.beginFirst
  exact Drive.writeRoot_lasts _ (by simpa using hb)

@[simp] theorem Drive.restore_lasts {b} (u) {d : Drive} (hb : Lasts b d.array) : Lasts b (d.restore u).array := by
  unfold Drive.restore
  extract_lets +onlyGivenNames m d1 unclean lost med m' hlth d2 d3 d4 d5 d6 d7 kv med' keys
  have h2 : Lasts b d2.array := by
    dsimp only [d2]
    split
    · refine hb.map fun p => ⟨rfl, ?_⟩
      dsimp only
      split
      · exact .of_state rfl rfl id rfl
      · exact .refl _
    · exact hb
  have h3 : Lasts b d3.array := Drive.stopClips_lasts (Drive.resetReserve_lasts h2)
  have h4 : Lasts b d4.array := by
    dsimp only [d4]
    exact .ite (Drive.beginFirst_lasts h3) h3
  have h5 : Lasts b d5.array := by
    dsimp only [d5]
    exact .ite (Drive.flushWasLost_lasts h4) h4
  have h6 : Lasts b d6.array := by
    dsimp only [d6]
    exact .ite h5 (Drive.rebuild_lasts u h5)
  have h7 : Lasts b d7.array := by simpa [d7] using h6
  extract_lets +onlyGivenNames d8 d9
  have h9 : Lasts b d9.array := by
    dsimp only [d9]
    split
    · rwa [Drive.meterLoss_array]
    · exact h7
  rwa [Drive.openLog_array, endAtRestart_array]

theorem Drive.startOn_lasts {b} (u) {d : Drive} (hb : Lasts b d.array) : Lasts b (d.startOn u).array := by
  unfold Drive.startOn
  extract_lets +onlyGivenNames d1
  have h1 : Lasts b d1.array := by simpa [d1] using hb
  split
  · exact h1
  extract_lets +onlyGivenNames m d2
  have h2 : Lasts b d2.array := by
    dsimp only [d2]
    split
    · simpa using h1
    · exact h1
  clear_value d2
  have hdraw := Drive.draw_array d2
  split
  rename_i ring e heq
  rw [heq] at hdraw
  extract_lets +onlyGivenNames r keys d3 ids n keys' d4 d5 d6 d7
  have h4 : Lasts b d4.array := by
    dsimp only at hdraw
    simpa [d4, d3, hdraw] using h2
  clear_value d4
  have h5 : Lasts b d5.array := by
    dsimp only [d5]
    split
    · exact Drive.applyImage_lasts _ h4
    · exact h4
  have h7 : Lasts b d7.array := by
    rw [Drive.holdup_array, foldl_array fun d p => ?_]
    · exact h5
    · split
      · exact Drive.negotiate_array ..
      · rfl
  clear_value d7
  rw [Drive.beginJoin_array, Drive.ownSlots_array]
  refine Drive.restore_lasts u ?_
  rw [Drive.openInterval_array]
  exact h7

theorem startUp_lasts {b} (u) {d : Drive} (hb : Lasts b d.array) : Lasts b (startUp u d).array := by
  unfold startUp
  split
  · exact hb
  extract_lets +onlyGivenNames d1
  have h1 : Lasts b d1.array := by simpa [d1] using hb
  clear_value d1
  split
  · rwa [Drive.fuseCheck_array]
  · have hread := Drive.readArea_array u.areaOk d1
    split
    rename_i accepted e heq
    rw [heq] at hread
    extract_lets +onlyGivenNames d2 one
    have h2 : Lasts b d2.array := by
      dsimp only [d2]
      split <;> simpa [hread] using h1
    clear_value d2 one
    split
    · simpa using h2
    split
    · simpa using h2
    split
    · simpa using h2
    · rename_i hpick
      have hz : Lasts b _ := (Drive.pickImages_array hpick) ▸ h2
      split
      · exact hz
      · exact Drive.startOn_lasts u hz

theorem tempSampled_lasts {b} (readings completes) {d : Drive} (hb : Lasts b d.array) : Lasts b (tempSampled readings completes d).array := by
  have hs := tempSample_lasts readings completes hb
  unfold tempSampled Drive.resumeStart
  split
  · exact .ite (Drive.startOn_lasts _ hs) hs
  · exact hs

@[simp] theorem Drive.verifyDownload_array (c img) (d : Drive) : (Drive.verifyDownload c img d).dev.array = d.array := by
  unfold Drive.verifyDownload
  simp

@[simp] theorem Drive.chunk_array (ch c off len last img) (d : Drive) : (Drive.chunk ch c off len last img d).dev.array = d.array := by
  unfold Drive.chunk
  dsimp only
  split <;> simp

@[simp] theorem fwDownload_array (o img) (d : Drive) : (fwDownload o img d).array = d.array := by
  unfold fwDownload
  refine Drive.withReq_array (fun r d => ?_) ..
  dsimp only
  split
  · simp
  split <;> simp

@[simp] theorem pldmUpdate_array (session c off len last img) (d : Drive) : (pldmUpdate session c off len last img d).array = d.array := by
  unfold pldmUpdate
  dsimp only
  split
  · simp
  split
  · simp
  split <;> simp

end Sys2Proof.Machine
end

-- Proofs of Clipping, wear and recovery: a superblock keeps its mode over every command.
section
namespace Sys2Proof.Machine
open Sys2Proof

/-! ## The commands and the step -/

theorem next_lasts {s t : State} {z : Drive} (hz : Lasts s.dev.array z.array)
    (h : (.next { s with dev := z } : Host.Outcome State Fault Refusal) = .next t) : Lasts s.dev.array t.dev.array := by
  obtain rfl := Host.Outcome.next.inj h
  exact hz

section
variable {s t : State} {f : Drive → Drive}

theorem next_array {z : Drive} (hz : z.array = s.dev.array) (hb : Lasts s.dev.array s.dev.array)
    (h : (.next { s with dev := z } : Host.Outcome State Fault Refusal) = .next t) : Lasts s.dev.array t.dev.array :=
  next_lasts (hz ▸ hb) h

theorem onMain_lasts (hf : Lasts s.dev.array (f s.dev).array) (hb : Lasts s.dev.array s.dev.array) (h : s.onMain f = .next t) :
    Lasts s.dev.array t.dev.array := next_lasts (.ite hf hb) h

theorem onMain_array (hf : (f s.dev).array = s.dev.array) (hb : Lasts s.dev.array s.dev.array) (h : s.onMain f = .next t) :
    Lasts s.dev.array t.dev.array := onMain_lasts (hf ▸ hb) hb h

theorem onRails_lasts (hf : Lasts s.dev.array (f s.dev).array) (hb : Lasts s.dev.array s.dev.array) (h : s.onRails f = .next t) :
    Lasts s.dev.array t.dev.array := next_lasts (.ite hf hb) h

theorem onRails_array (hf : (f s.dev).array = s.dev.array) (hb : Lasts s.dev.array s.dev.array) (h : s.onRails f = .next t) :
    Lasts s.dev.array t.dev.array := onRails_lasts (hf ▸ hb) hb h

theorem onRailsEnd_lasts (hf : Lasts s.dev.array (f s.dev).array) (hb : Lasts s.dev.array s.dev.array) (h : s.onRailsEnd f = .next t) :
    Lasts s.dev.array t.dev.array := next_lasts (.ite hf (.ite (Drive.dropPower_lasts hb) hb)) h

theorem onSideband_lasts (hf : Lasts s.dev.array (f s.dev).array) (hb : Lasts s.dev.array s.dev.array) (h : s.onSideband f = .next t) :
    Lasts s.dev.array t.dev.array := next_lasts (.ite hf hb) h

theorem onSideband_array (hf : (f s.dev).array = s.dev.array) (hb : Lasts s.dev.array s.dev.array) (h : s.onSideband f = .next t) :
    Lasts s.dev.array t.dev.array := onSideband_lasts (hf ▸ hb) hb h

theorem onSpdm_array (hf : ∀ d, (f d).array = d.array) (hb : Lasts s.dev.array s.dev.array) (h : s.onSpdm f = .next t) :
    Lasts s.dev.array t.dev.array :=
  next_lasts (.ite (((hf _).trans (Drive.dropStale_array _)) ▸ hb) hb) h

theorem onPldm_lasts (hf : ∀ d, Lasts s.dev.array d.array → Lasts s.dev.array (f d).array) (hb : Lasts s.dev.array s.dev.array)
    (h : s.onPldm f = .next t) : Lasts s.dev.array t.dev.array :=
  next_lasts (.ite (hf _ ((Drive.dropStale_array _) ▸ hb)) hb) h

theorem onPldm_array (hf : ∀ d, (f d).array = d.array) (hb : Lasts s.dev.array s.dev.array) (h : s.onPldm f = .next t) :
    Lasts s.dev.array t.dev.array := onPldm_lasts (fun d hb => (hf d).symm ▸ hb) hb h

end

/-! ### Commands that do more than one thing -/

section
variable {s t : State}

theorem execOpen_lasts {f b p} (hb : Lasts s.dev.array s.dev.array) (h : execOpen f b p s = .next t) :
    Lasts s.dev.array t.dev.array := by
  unfold execOpen at h
  exact onMain_array (by simp) hb h

theorem execDataFrame_lasts {f} (hb : Lasts s.dev.array s.dev.array) (h : execDataFrame f s = .next t) :
    Lasts s.dev.array t.dev.array := by
  unfold execDataFrame at h
  exact onMain_array (by simp) hb h

theorem execAckFrame_lasts {f} (hb : Lasts s.dev.array s.dev.array) (h : execAckFrame f s = .next t) :
    Lasts s.dev.array t.dev.array := by
  unfold execAckFrame at h
  exact onMain_array (by simp) hb h

theorem execProgramComplete_lasts {die} (hb : Lasts s.dev.array s.dev.array) (h : execProgramComplete die s = .next t) :
    Lasts s.dev.array t.dev.array := by
  unfold execProgramComplete at h
  exact onMain_lasts (by simp [hb]) hb h

theorem execEraseComplete_lasts {die} (hb : Lasts s.dev.array s.dev.array) (h : execEraseComplete die s = .next t) :
    Lasts s.dev.array t.dev.array := by
  unfold execEraseComplete at h
  exact onMain_lasts (by simp [hb]) hb h

theorem execDeltaDrain_lasts (hb : Lasts s.dev.array s.dev.array) (h : execDeltaDrain s = .next t) :
    Lasts s.dev.array t.dev.array := by
  unfold execDeltaDrain at h
  exact onMain_lasts (by simp [hb]) hb h

theorem execJobDequeue_lasts (hb : Lasts s.dev.array s.dev.array) (h : execJobDequeue s = .next t) :
    Lasts s.dev.array t.dev.array := by
  unfold execJobDequeue at h
  exact onMain_array (by simp) hb h

theorem execContinuousTestFail_lasts {test} (hb : Lasts s.dev.array s.dev.array) (h : execContinuousTestFail test s = .next t) :
    Lasts s.dev.array t.dev.array := by
  unfold execContinuousTestFail at h
  exact onMain_lasts (by simp [hb]) hb h

theorem execDrbgError_lasts (hb : Lasts s.dev.array s.dev.array) (h : execDrbgError s = .next t) :
    Lasts s.dev.array t.dev.array := by
  unfold execDrbgError at h
  exact onMain_lasts (by simp [hb]) hb h

theorem execKekImport_lasts {session index pkHash signatureOk b} (hb : Lasts s.dev.array s.dev.array)
    (h : execKekImport session index pkHash signatureOk b s = .next t) : Lasts s.dev.array t.dev.array := by
  unfold execKekImport at h
  exact onSpdm_array (fun _ => by simp) hb h

theorem execSupplyHigh_lasts {mv} (hb : Lasts s.dev.array s.dev.array) (h : execSupplyHigh mv s = .next t) :
    Lasts s.dev.array t.dev.array := by
  unfold execSupplyHigh at h
  split at h
  · obtain rfl := Host.Outcome.next.inj h
    exact hb
  · exact onRailsEnd_lasts (by simp [hb]) hb h

theorem execOpMessage_lasts {session exchange hdr body} (hb : Lasts s.dev.array s.dev.array)
    (h : execOpMessage session exchange hdr body s = .next t) : Lasts s.dev.array t.dev.array := by
  unfold execOpMessage at h
  split at h
  · exact onMain_array (by simp) hb h
  · exact onSideband_array (statusRead_array ..) hb h

end

/-- Each command, by what the function that gives it its meaning leaves of the superblocks. -/
theorem exec_lasts {i : Instr} {s t : State} (hs : Rising s.dev.array) (h : exec i s = .next t) : Lasts s.dev.array t.dev.array := by
  have hb := Lasts.refl hs
  cases i with
  | put _ => exact onMain_array (putRequest_array ..) hb h
  | putCommit _ => exact onMain_lasts (putCommit_lasts _ hb) hb h
  | delete _ => exact onMain_array (deleteRequest_array ..) hb h
  | get _ => exact onMain_array (getRequest_array ..) hb h
  | getRange _ => exact onMain_array (getRangeRequest_array ..) hb h
  | existsKey _ => exact onMain_array (existsRequest_array ..) hb h
  | list _ => exact onMain_array (listRequest_array ..) hb h
  | batch _ => exact onMain_array (batchRequest_array ..) hb h
  | batchAtomic _ => exact onMain_array (batchAtomicRequest_array ..) hb h
  | locGet _ => exact onMain_array (locGetRequest_array ..) hb h
  | locDelete _ => exact onMain_array (locDeleteRequest_array ..) hb h
  | relocAck _ => exact onMain_array (relocAckRequest_array ..) hb h
  | ping _ => exact onMain_array (pingRequest_array ..) hb h
  | deadlineMissed _ => exact onMain_array (deadlineMissed_array ..) hb h
  | commitWaitExpiry _ => exact onMain_array (commitWaitExpiry_array ..) hb h
  | supersedeConfirm _ _ => exact onMain_array (supersedeConfirm_array ..) hb h
  | openFrame _ _ _ => exact execOpen_lasts hb h
  | sessionOpen _ _ _ => exact onMain_array (sessionOpenRequest_array ..) hb h
  | sessionClose _ => exact onMain_array (sessionCloseRequest_array ..) hb h
  | sessionRekey _ _ => exact onMain_array (sessionRekeyRequest_array ..) hb h
  | dataFrame _ => exact execDataFrame_lasts hb h
  | ackFrame _ => exact execAckFrame_lasts hb h
  | ackDelayExpiry _ => exact onMain_array (ackDelayExpiry_array ..) hb h
  | retransmissionTimeout _ _ => exact onMain_array (retransmissionTimeout_array ..) hb h
  | keepAlive _ _ => exact onMain_array (keepAlive_array ..) hb h
  | idleTimeout _ => exact onMain_array (idleTimeout_array ..) hb h
  | openingTimeout _ => exact onMain_array (openingTimeout_array ..) hb h
  | drainComplete _ => exact onMain_array (drainComplete_array ..) hb h
  | drainingTimeout _ => exact onMain_array (drainingTimeout_array ..) hb h
  | windowReopenAck _ => exact onMain_array (windowReopenAck_array ..) hb h
  | pathSilence _ _ => exact onMain_array (pathSilence_array ..) hb h
  | rekeyRequired _ _ => exact onMain_array (rekeyRequired_array ..) hb h
  | sessionExhausted _ _ => exact onMain_array (sessionExhausted_array ..) hb h
  | keyPhaseRetire _ => exact onMain_array (keyPhaseRetire_array ..) hb h
  | shearsAdmit _ => exact onMain_array (shearsAdmit_array ..) hb h
  | fwdWrite _ _ _ _ _ => exact onMain_lasts (fwdWrite_lasts _ _ _ _ _ hb) hb h
  | fwdRead _ _ _ _ _ => exact onMain_array (fwdRead_array ..) hb h
  | fwdReply _ _ _ => exact onMain_array (fwdReply_array ..) hb h
  | fwdData _ _ _ => exact onMain_array (fwdData_array ..) hb h
  | mirror _ _ _ _ _ _ _ => exact onMain_array (mirrorMsg_array ..) hb h
  | mirrorAck _ _ => exact onMain_array (mirrorAck_array ..) hb h
  | prepare _ _ _ _ _ _ => exact onMain_array (prepareMsg_array ..) hb h
  | prepared _ _ => exact onMain_array (preparedMsg_array ..) hb h
  | refused _ => exact onMain_array (refusedMsg_array ..) hb h
  | commit _ _ _ => exact onMain_array (commitMsg_array ..) hb h
  | abort _ => exact onMain_array (abortMsg_array ..) hb h
  | committed _ => exact onMain_array (committedMsg_array ..) hb h
  | prepareTimeout _ => exact onMain_array (prepareTimeout_array ..) hb h
  | heartbeat _ _ _ _ _ => exact onMain_array (heartbeatMsg_array ..) hb h
  | heartbeatSend => exact onMain_array (heartbeatSend_array ..) hb h
  | reserveReq _ _ => exact onMain_array (reserveReq_array ..) hb h
  | reserveGrant _ _ => exact onMain_array (reserveGrant_array ..) hb h
  | chunkFetch _ _ _ _ _ _ => exact onMain_array (chunkFetch_array ..) hb h
  | chunkData _ _ _ => exact onMain_lasts (chunkData_lasts _ _ _ hb) hb h
  | chunkFetchTimeout _ => exact onMain_array (chunkFetchTimeout_array ..) hb h
  | tableChange _ _ _ => exact onMain_array (tableChangeMsg_array ..) hb h
  | tableAck _ _ => exact onMain_array (tableAckMsg_array ..) hb h
  | hello _ _ => exact onMain_array (helloMsg_array ..) hb h
  | resyncData _ _ _ _ _ => exact onMain_array (resyncData_array ..) hb h
  | homeReturn _ => exact onMain_array (homeReturn_array ..) hb h
  | twinLinkUp _ _ _ _ _ => exact onMain_array (twinLinkUp_array ..) hb h
  | twinLinkDownTimeout => exact onMain_array (twinLinkDownTimeout_array ..) hb h
  | heartbeatSilence => exact onMain_array (heartbeatSilence_array ..) hb h
  | joiningTimeout => exact onMain_array (joiningTimeout_array ..) hb h
  | leaseReq _ _ _ => exact onMain_array (leaseReq_array ..) hb h
  | leaseReqResend => exact onMain_array (leaseReqResend_array ..) hb h
  | probe _ _ => exact onMain_array (probeMsg_array ..) hb h
  | probeAnswer _ _ => exact onMain_array (probeAnswer_array ..) hb h
  | witnessProbeTick _ => exact onMain_array (witnessProbeTick_array ..) hb h
  | witnessGrantHold _ => exact onMain_array (witnessGrantHold_array ..) hb h
  | leaseGrant _ _ _ => exact onMain_array (leaseGrant_array ..) hb h
  | leaseDeny _ _ _ => exact onMain_array (leaseDeny_array ..) hb h
  | fencedNotice _ _ => exact onMain_array (fencedNotice_array ..) hb h
  | clear _ _ => exact onMain_array (clearMsg_array ..) hb h
  | clearSend => exact onMain_array (clearSend_array ..) hb h
  | cleared _ _ => exact onMain_array (cleared_array ..) hb h
  | clearanceLapse => exact onMain_array (clearanceLapse_array ..) hb h
  | leaseAssert _ _ _ => exact onMain_array (leaseAssert_array ..) hb h
  | leaseAssertSend => exact onMain_array (leaseAssertSend_array ..) hb h
  | leaseRelease _ _ => exact onMain_array (leaseRelease_array ..) hb h
  | witnessFreezeEnd => exact onMain_array (witnessFreezeEnd_array ..) hb h
  | witnessGrant _ => exact onMain_array (attrCmd_array (fun _ => witnessCtl_array ..) ..) hb h
  | witnessFence _ => exact onMain_array (attrCmd_array (fun _ => witnessCtl_array ..) ..) hb h
  | witnessClear _ => exact onMain_array (attrCmd_array (fun _ => witnessCtl_array ..) ..) hb h
  | witnessWrite _ _ => exact onMain_array (attrCmd_array (fun _ => witnessWrite_array ..) ..) hb h
  | twinAdopt _ _ => exact onMain_array (twinAdopt_array ..) hb h
  | twinRelease _ => exact onMain_array (twinRelease_array ..) hb h
  | ringHello _ _ _ _ _ _ _ _ => exact onMain_array (ringHello_array ..) hb h
  | ringHelloSend => exact onMain_array (ringHelloSend_array ..) hb h
  | ringLinkLoss _ => exact onMain_array (ringLinkLoss_array ..) hb h
  | ringFrameForward _ => exact onMain_array (ringForward_array ..) hb h
  | mgmtReq _ _ _ _ => exact onMain_lasts (mgmtReq_lasts _ _ _ _ hb) hb h
  | mgmtReply _ _ _ _ => exact onMain_array (mgmtReply_array ..) hb h
  | migrateData _ _ _ _ _ => exact onMain_array (migrateData_array ..) hb h
  | migrateCtl _ _ _ _ _ => exact onMain_array (migrateCtl_array ..) hb h
  | ptpMessage _ => exact onMain_array (ptpMessage_array ..) hb h
  | tenantCreate _ => exact onMain_array (tenantCreate_array ..) hb h
  | tenantDelete _ => exact onMain_array (tenantDelete_array ..) hb h
  | nsCreate _ => exact onMain_array (nsCreate_array ..) hb h
  | nsDelete _ => exact onMain_array (nsDelete_array ..) hb h
  | nsSetQuota _ => exact onMain_array (nsModify_array ..) hb h
  | nsRaiseGen _ => exact onMain_array (nsModify_array ..) hb h
  | nsSetSoloWrites _ => exact onMain_array (nsModify_array ..) hb h
  | nsInfo _ => exact onMain_array (nsInfo_array ..) hb h
  | sweepComplete _ => exact onMain_array (sweepComplete_array ..) hb h
  | arrayReadComplete _ _ _ _ _ _ => exact onMain_lasts (arrayReadComplete_lasts _ _ _ _ _ _ hb) hb h
  | suspendComplete _ => exact onMain_array (suspendComplete_array ..) hb h
  | busyWindowEntry _ => exact onMain_array (busyWindowEntry_array ..) hb h
  | starvationGuardTrip _ => exact onMain_array (starvationGuardTrip_array ..) hb h
  | reconInterval => exact onMain_array (reconInterval_array ..) hb h
  | programComplete _ => exact execProgramComplete_lasts hb h
  | eraseComplete _ => exact execEraseComplete_lasts hb h
  | programFail _ => exact onMain_lasts (programFail_lasts _ hb) hb h
  | eraseFail _ => exact onMain_lasts (eraseFail_lasts _ hb) hb h
  | shelfDrain => exact onMain_lasts (shelfDrain_lasts hb) hb h
  | shelfAdmit _ => exact onMain_array (shelfAdmit_array ..) hb h
  | folding _ => exact onMain_lasts (folding_lasts _ hb) hb h
  | clipVictimSelect _ => exact onMain_lasts (clipVictimSelect_lasts _ hb) hb h
  | patrolVisit _ _ => exact onMain_lasts (patrolVisit_lasts _ _ hb) hb h
  | patrolLate _ => exact onMain_array (patrolLate_array ..) hb h
  | healthWearUpdate => exact onMain_lasts (healthWearUpdate_lasts hb) hb h
  | deltaDrain => exact execDeltaDrain_lasts hb h
  | checkpoint => exact onMain_lasts (checkpoint_lasts hb) hb h
  | powerFail => exact onRailsEnd_lasts (Drive.beginFlush_lasts hb) hb h
  | flushComplete => exact next_lasts (Drive.endFlush_lasts hb) h
  | holdupMeasure _ _ => exact onMain_array (holdupMeasure_array ..) hb h
  | kekImport _ _ _ _ _ => exact execKekImport_lasts hb h
  | tenantKeyLoad _ _ => exact onMain_array (keyLoad_array ..) hb h
  | keyEraseWrapping _ => exact onMain_array (keyErase_array ..) hb h
  | keyErasePrevious _ => exact onMain_array (keyErase_array ..) hb h
  | keyEraseCurrent _ => exact onMain_array (keyErase_array ..) hb h
  | keyEraseTenant _ => exact onMain_array (keyErase_array ..) hb h
  | keyEraseSystem _ => exact onMain_array (keyEraseSystem_array ..) hb h
  | slotBufferRelease _ => exact onMain_array (slotBufferRelease_array ..) hb h
  | storageLoadResume _ => exact onMain_array (storageLoadResume_array ..) hb h
  | hollyDispatch _ _ _ => exact onMain_array (hollyDispatch_array ..) hb h
  | compatSuspend _ => exact onMain_array (compatSuspend_array ..) hb h
  | compatResume _ _ _ => exact onMain_array (compatResume_array ..) hb h
  | drbgError => exact execDrbgError_lasts hb h
  | autonegComplete _ _ => exact onMain_array (autonegComplete_array ..) hb h
  | trainingComplete _ _ => exact onMain_array (trainingComplete_array ..) hb h
  | linkUp _ => exact onMain_array (linkUp_array ..) hb h
  | linkDown _ _ _ => exact onMain_array (linkDown_array ..) hb h
  | holdoffExpiry _ => exact onMain_array (holdoffExpiry_array ..) hb h
  | trainingFail _ _ => exact onMain_array (trainingFail_array ..) hb h
  | speedFallbackExpiry _ _ => exact onMain_array (speedFallbackExpiry_array ..) hb h
  | portRetrain _ _ => exact onMain_array (attrCmd_array (fun _ => portRetrain_array ..) ..) hb h
  | portEnableWrite _ _ _ => exact onMain_array (attrCmd_array (fun _ => portEnableWrite_array ..) ..) hb h
  | frameReceive _ => exact onMain_array (frameReceive_array ..) hb h
  | arpFrame _ => exact onMain_array (arpFrame_array ..) hb h
  | ndFrame _ => exact onMain_array (ndFrame_array ..) hb h
  | icmpEcho _ _ _ _ _ => exact onMain_array (icmpEcho_array ..) hb h
  | dhcpMessage _ => exact onMain_array (dhcpMessage_array ..) hb h
  | dhcpLeaseLost _ _ _ => exact onMain_array (dhcpLeaseLost_array ..) hb h
  | lldpFrame _ _ _ _ _ => exact onMain_array (lldpFrame_array ..) hb h
  | lldpTransmit => exact onMain_array (lldpTransmit_array ..) hb h
  | txtsRead _ => exact onMain_array (txtsRead_array ..) hb h
  | statsModeWrite _ _ _ => exact onMain_array (attrCmd_array (fun _ => statsModeWrite_array ..) ..) hb h
  | w1cWrite _ _ _ _ => exact onMain_array (attrCmd_array (fun _ => w1cWrite_array ..) ..) hb h
  | entryRead _ => exact onMain_array (attrCmd_array (fun _ => entryRead_array ..) ..) hb h
  | entryWrite _ => exact onMain_array (attrCmd_array (fun _ => entryWrite_array ..) ..) hb h
  | entryInvalidate _ => exact onMain_array (attrCmd_array (fun _ => entryInvalidate_array ..) ..) hb h
  | entryMove _ => exact onMain_array (attrCmd_array (fun _ => entryMove_array ..) ..) hb h
  | actionRead _ => exact onMain_array (attrCmd_array (fun _ => actionRead_array ..) ..) hb h
  | actionWrite _ => exact onMain_array (attrCmd_array (fun _ => actionWrite_array ..) ..) hb h
  | bankWidthWrite _ _ => exact onMain_array (attrCmd_array (fun _ => bankWidthWrite_array ..) ..) hb h
  | defaultActionWrite _ _ _ => exact onMain_array (attrCmd_array (fun _ => defaultActionWrite_array ..) ..) hb h
  | probeFirst _ => exact onMain_array (attrCmd_array (fun _ => probeFirst_array ..) ..) hb h
  | probeNext _ => exact onMain_array (attrCmd_array (fun _ => probeNext_array ..) ..) hb h
  | privetScrub _ _ _ _ => exact onMain_array (privetScrub_array ..) hb h
  | ppsInEdge _ => exact onMain_array (ppsInEdge_array ..) hb h
  | todMessage _ => exact onMain_array (todMessage_array ..) hb h
  | sourceLost _ => exact onMain_array (sourceLost_array ..) hb h
  | sourceChange _ => exact onMain_array (sourceChange_array ..) hb h
  | holdoverTrustLost => exact onMain_array (holdoverTrustLost_array ..) hb h
  | wallSet _ _ _ => exact onMain_array (attrCmd_array (fun _ => wallSet_array ..) ..) hb h
  | optimeReservation => exact onMain_array (optimeReservation_array ..) hb h
  | ppsOutEdge => exact onMain_array (ppsOutEdge_array ..) hb h
  | leapSecond => exact onMain_array (leapSecond_array ..) hb h
  | meterTick _ _ => exact onMain_array (meterTick_array ..) hb h
  | meterExtendedEnd => exact onMain_array (meterExtendedEnd_array ..) hb h
  | meterIntervalWrite _ _ => exact onMain_array (attrCmd_array (fun _ => meterIntervalWrite_array ..) ..) hb h
  | weightRecalibrate _ _ _ _ => exact onMain_array (weightRecalibrate_array ..) hb h
  | meterRead _ => exact onMain_array (meterRead_array ..) hb h
  | meterAck _ => exact onMain_array (meterAck_array ..) hb h
  | zeroizePin => exact onSideband_lasts (Drive.zeroise_lasts _ hb) hb h
  | tamperLoopSample _ => exact onSideband_lasts (tamperLoopSample_lasts _ hb) hb h
  | zeroizeArm _ => exact onMain_lasts (attrCmd_lasts (fun _ hb => zeroizeWrite_lasts _ _ hb) _ _ hb) hb h
  | zeroizeConfirm _ => exact onMain_lasts (attrCmd_lasts (fun _ hb => zeroizeWrite_lasts _ _ hb) _ _ hb) hb h
  | zeroizeArmExpiry => exact onMain_array (zeroizeArmExpiry_array ..) hb h
  | zeroiseEraseComplete => exact onSideband_array (zeroiseEraseComplete_array ..) hb h
  | maintEnableWrite _ _ => exact onMain_array (attrCmd_array (fun _ => maintEnableWrite_array ..) ..) hb h
  | maintFuseArm _ => exact onMain_array (attrCmd_array (fun _ => maintFuseWrite_array ..) ..) hb h
  | maintFuseConfirm _ => exact onMain_array (attrCmd_array (fun _ => maintFuseWrite_array ..) ..) hb h
  | maintToken _ _ _ _ _ _ _ => exact onSpdm_array (fun _ => maintToken_array ..) hb h
  | maintExit _ => exact onSpdm_array (fun _ => maintExit_array ..) hb h
  | maintDurationExpiry => exact onSpdm_array (fun _ => maintDurationExpiry_array ..) hb h
  | svnRaise => exact onMain_array (svnRaise_array ..) hb h
  | continuousTestFail _ => exact execContinuousTestFail_lasts hb h
  | getVersion => exact onSpdm_array (fun _ => getVersion_array ..) hb h
  | getCapabilities _ => exact onSpdm_array (fun _ => getCapabilities_array ..) hb h
  | negotiateAlgorithms _ => exact onSpdm_array (fun _ => negotiateAlgorithms_array ..) hb h
  | getDigests _ => exact onSpdm_array (fun _ => getDigests_array ..) hb h
  | getCertificate _ _ => exact onSpdm_array (fun _ => getCertificate_array ..) hb h
  | challenge _ => exact onSpdm_array (fun _ => challengeMsg_array ..) hb h
  | getMeasurements _ _ => exact onSpdm_array (fun _ => getMeasurements_array ..) hb h
  | keyExchange => exact onSpdm_array (fun _ => keyExchange_array ..) hb h
  | finish _ _ _ _ => exact onSpdm_array (fun _ => finishMsg_array ..) hb h
  | spdmHeartbeat _ => exact onSpdm_array (fun _ => spdmHeartbeat_array ..) hb h
  | keyUpdate _ => exact onSpdm_array (fun _ => keyUpdate_array ..) hb h
  | endSession _ => exact onSpdm_array (fun _ => endSessionMsg_array ..) hb h
  | getCsr _ => exact onSpdm_array (fun _ => getCsr_array ..) hb h
  | setCertificate _ _ _ _ => exact onSpdm_array (fun _ => setCertificate_array ..) hb h
  | vendorDefinedRequest _ _ => exact onSpdm_array (fun _ => vendorDefined_array ..) hb h
  | supplyLow _ => exact onRails_array (supplyLow_array ..) hb h
  | supplyHigh _ => exact execSupplyHigh_lasts hb h
  | auxLost => exact onRails_array (auxLost_array ..) hb h
  | auxRestored => exact onRails_array (auxRestored_array ..) hb h
  | pwrdisAssert _ => exact onRailsEnd_lasts (pwrdisAssert_lasts _ hb) hb h
  | mrstN => exact onRails_lasts (mrst_lasts hb) hb h
  | slotIdChange _ => exact onRails_array (slotIdChange_array ..) hb h
  | twinPrsntChange _ => exact onRails_array (twinPrsntChange_array ..) hb h
  | i3cDynamicAddress _ _ => exact onSideband_array (i3cAddress_array ..) hb h
  | i3cRstdaa => exact onSideband_array (i3cReset_array ..) hb h
  | locateExpiry => exact onRails_array (locateExpiry_array ..) hb h
  | start _ => exact next_lasts (startUp_lasts _ hb) h
  | deviceReady => exact onMain_array (deviceReady_array ..) hb h
  | startTimeout => exact onRails_lasts (startTimeout_lasts hb) hb h
  | clusterFault => exact onRails_lasts (Drive.startFails_lasts hb) hb h
  | xipRelease _ => exact onMain_array (attrCmd_array (fun _ => xipRelease_array ..) ..) hb h
  | tcmLoadComplete => exact onRails_array (tcmLoadComplete_array ..) hb h
  | xipResume _ => exact onMain_array (xipResumeCmd_array ..) hb h
  | xipAutoResume => exact onRails_array (xipAutoResume_array ..) hb h
  | optfOperationComplete => exact onRails_array (optfOperationComplete_array ..) hb h
  | activateFirmware _ => exact onPldm_lasts (fun _ hb => activateFirmware_lasts _ hb) hb h
  | idleDwell _ => exact onMain_array (idleDwell_array ..) hb h
  | wakeComplete => exact onMain_array (wakeComplete_array ..) hb h
  | toleranceWindowExpiry => exact onMain_array (toleranceWindowExpiry_array ..) hb h
  | stateLimitWrite _ _ => exact onMain_array (attrCmd_array (fun _ => stateLimitWrite_array ..) ..) hb h
  | capWrite _ _ => exact onMain_array (attrCmd_array (fun _ => capWrite_array ..) ..) hb h
  | governor1ms _ => exact onMain_lasts (governor1_lasts _ hb) hb h
  | governor100ms _ => exact onMain_array (governor100_array ..) hb h
  | tempSample _ _ => exact onRails_lasts (tempSampled_lasts _ _ hb) hb h
  | thermalStageExit => exact onRails_array (thermalStageExit_array ..) hb h
  | thermalShutdownTimeout => exact onRails_lasts (thermalShutdownTimeout_lasts hb) hb h
  | sensorFault _ => exact onRails_array (sensorFault_array ..) hb h
  | stagingFlush => exact onMain_array (stagingFlush_array ..) hb h
  | logGroupWritten => exact onMain_array (logGroupWritten_array ..) hb h
  | logFreeze _ => exact onMain_array (logFreeze_array ..) hb h
  | logThaw _ => exact onMain_array (logThaw_array ..) hb h
  | logFreezeTimeout => exact onMain_array (logFreezeTimeout_array ..) hb h
  | clearPinned _ => exact onMain_array (attrCmd_array (fun _ => logCtl_array ..) ..) hb h
  | clearAll _ => exact onMain_array (attrCmd_array (fun _ => logCtl_array ..) ..) hb h
  | logWindowLoad _ _ => exact onMain_array (attrCmd_array (fun _ => logWindowLoad_array ..) ..) hb h
  | healthSave => exact onMain_array (healthSave_array ..) hb h
  | tempBinMinute => exact onMain_array (tempBinMinute_array ..) hb h
  | eventEnableWrite _ _ _ => exact onMain_array (attrCmd_array (fun _ => eventEnableWrite_array ..) ..) hb h
  | attrRead _ => exact onMain_array (attrRead_array ..) hb h
  | attrWrite _ => exact onMain_lasts (attrWrite_lasts _ hb) hb h
  | attrBulkRead _ => exact onMain_array (attrBulkRead_array ..) hb h
  | clipForce _ => exact onMain_array (jobStart_array ..) hb h
  | patrolFull _ => exact onMain_array (jobStart_array ..) hb h
  | nsSanitize _ => exact onMain_array (jobStart_array ..) hb h
  | nsRekey _ => exact onMain_array (jobStart_array ..) hb h
  | dieRetire _ => exact onMain_array (jobStart_array ..) hb h
  | dieUnresponsive _ => exact onMain_lasts (dieUnresponsive_lasts _ hb) hb h
  | twinResync _ => exact onMain_array (jobStart_array ..) hb h
  | nsMigrate _ => exact onMain_array (jobStart_array ..) hb h
  | nsExport _ => exact onMain_array (jobStart_array ..) hb h
  | nsImport _ => exact onMain_array (jobStart_array ..) hb h
  | selftestExt _ => exact onMain_array (jobStart_array ..) hb h
  | jobSuspend _ => exact onMain_array (jobSuspend_array ..) hb h
  | jobResume _ => exact onMain_array (jobResume_array ..) hb h
  | jobCancel _ => exact onMain_array (jobCancel_array ..) hb h
  | jobStatus _ => exact onMain_array (jobStatus_array ..) hb h
  | jobStep _ _ => exact onMain_lasts (jobStep_lasts _ _ hb) hb h
  | jobDequeue => exact execJobDequeue_lasts hb h
  | jobEntryExpiry _ => exact onMain_array (jobEntryExpiry_array ..) hb h
  | jobSuspendedLong _ => exact onMain_array (jobSuspendedLong_array ..) hb h
  | fwDownload _ _ => exact onMain_array (fwDownload_array ..) hb h
  | downloadIdleTimeout => exact onMain_array (downloadIdleTimeout_array ..) hb h
  | fwActivate _ _ _ => exact onMain_array (fwActivate_array ..) hb h
  | fwActivateRestart _ _ _ => exact onMain_lasts (fwActivateRestart_lasts _ _ _ hb) hb h
  | fwRollStep _ => exact onMain_array (fwRollStep_array ..) hb h
  | fwRollFailed _ => exact onMain_array (fwRollFailed_array ..) hb h
  | clusterReset _ _ => exact onMain_lasts (attrCmd_lasts (fun _ hb => devReset_lasts _ _ hb) _ _ hb) hb h
  | portReset _ _ => exact onMain_lasts (attrCmd_lasts (fun _ hb => devReset_lasts _ _ hb) _ _ hb) hb h
  | twinPortReset _ => exact onMain_lasts (attrCmd_lasts (fun _ hb => devReset_lasts _ _ hb) _ _ hb) hb h
  | hedgerowPortReset _ _ => exact onMain_lasts (attrCmd_lasts (fun _ hb => devReset_lasts _ _ hb) _ _ hb) hb h
  | driveReset _ => exact onMain_lasts (attrCmd_lasts (fun _ hb => devReset_lasts _ _ hb) _ _ hb) hb h
  | sidebandLockWrite _ _ => exact onMain_lasts (attrCmd_lasts (fun _ hb => attrSet_lasts _ _ _ _ hb) _ _ hb) hb h
  | opMessage _ _ _ _ => exact execOpMessage_lasts hb h
  | getSensorReading _ _ => exact onMain_array (getSensorReading_array ..) hb h
  | getStateSensorReadings _ _ => exact onMain_array (getStateSensorReadings_array ..) hb h
  | pldmFwUpdate _ _ _ _ _ _ => exact onPldm_array (fun _ => pldmUpdate_array ..) hb h
  | mctpControl _ _ => exact onSideband_array (mctpControl_array ..) hb h
  | eraseWindowEnd _ => exact onMain_array (eraseWindowEnd_array ..) hb h
  | auxPowerApplied _ => exact next_lasts (auxPowerApplied_lasts _ hb) h
  | auxPowerRemoved => exact next_array (auxPowerRemoved_array ..) hb h
  | ptpIntervalTransmit _ _ => exact onMain_array (ptpIntervalTransmit_array ..) hb h
  | duplicateAddressDetection _ _ _ _ => exact onMain_array (addressClear_array ..) hb h
  | maintFuseArmExpiry => exact onMain_array (maintFuseArmExpiry_array ..) hb h

theorem step_lasts {s t : State} (hs : Rising s.dev.array) (h : step s = .next t) : Lasts s.dev.array t.dev.array := by
  unfold step at h
  split at h
  · obtain rfl := Host.Outcome.next.inj h
    exact .ite (by simpa using Lasts.refl hs) (.refl hs)
  · rename_i c queue _
    exact exec_lasts (s := { s with pending := queue }) hs h

/-- Settles O9: what a superblock in use became either is an erasure further, or has the mode it had. -/
theorem superblockKeepsItsMode : Obligations.SuperblockKeepsItsMode := by
  intro s t n hs h hused
  rcases (step_lasts hs h).becomes n with herased | ⟨-, hkept⟩
  · exact .inr herased
  · exact .inl (hkept hused).2

end Sys2Proof.Machine
end

-- Proofs of Clipping, wear and recovery: a superblock that the table holds twice.
section
namespace Sys2Proof.Machine
open Sys2Proof

/-! O52 and O53 speak of every table of superblocks, also of one whose indices do not rise, which no step makes of one whose indices do (O5). There an index can
stand twice: `Drive.sb` reads the first entry, and the choice of a FREE superblock (R238) can find the second. -/

/-- A record of namespace 1 that lies at granule 0 of superblock 5000. -/
def clippedRec : Rec := { ns := 1, tenant := 1, key := [], value := [], version := 1, gen := 1, serial := 0, nonce := 0 }

/-- A drive whose table holds superblock 5000 twice, in use and FREE, when no other FREE superblock is found: it has used none of the QLC area, of
which superblocks 940 to 1001 are in the burst area. The directory names the record at granule 0 of superblock 5000. -/
def listedTwice (s : Superblock) : Drive := {
  mod := { mainOn := true, devState := 0xD5 }
  sec := { state := 0xA1 }
  kv := {
    nss := [(1, { gen := 1 })]
    dir := [{ ns := 1, key := [], version := 1, place := .media 5000 0, granules := 1 }] }
  media := {
    parts := (List.range 62).map fun k => (940 + k, 6)
    sbs := [(5000, s), (5000, {})] } }

/-- Superblock 5000 waits for its refresh (R260). -/
def refreshedTwice : Drive := listedTwice { state := 3, stream := 1, refresh := true, recs := [(0, clippedRec)] }

/-- The clip takes the superblock that it clips for the moved record. -/
theorem refreshedTwice_clipped : ((clipVictimSelect [] refreshedTwice).sb 5000).state = 2 := by decide +kernel

/-- What a command of a live drive completes with holds of what its function makes of the drive. -/
theorem Completes.of_onMain {i : Instr} {s : State} {f : Drive → Drive} {P : Drive → Prop} (h : Completes i s P) (he : exec i s = s.onMain f)
    (hlive : s.dev.live = true) : P (f s.dev) := by
  obtain ⟨t, hstep, -, hP⟩ := h
  rw [he, State.onMain_live hlive] at hstep
  obtain rfl := Host.Outcome.next.inj hstep
  exact hP

/-- Refutes O53: of a table that holds the victim a second time as FREE, the clip opens the victim, which is then neither VICTIM nor DIRTY. -/
theorem not_shelfAndClipping : ¬ Obligations.ShelfAndClipping := by
  intro h
  obtain ⟨-, hclip, -⟩ := h
  have hlive : refreshedTwice.live = true := by decide
  have hstate := ((hclip { dev := refreshedTwice } 5000 [] hlive).1 (by decide +kernel)).of_onMain (f := clipVictimSelect []) rfl hlive
  rw [refreshedTwice_clipped] at hstate
  exact absurd hstate (by decide)

/-- A keyed record in the shelf. -/
def shelvedRec : Rec := { ns := 1, tenant := 1, key := [1], value := [], version := 2, gen := 1, serial := 0, nonce := 0 }

/-- The program of the first record of the shelf at granule 4 of superblock 5000. -/
def shelfProgram : DieOp := { kind := 1, sb := 5000, gran := 4, job := some (.shelf 0) }

/-- Superblock 5000 is open, its die 65 programs a record of the shelf, and the record at granule 0 waits to be written again (R225). -/
def programmedTwice : Drive :=
  let d := listedTwice { state := 2, stream := 1, wptr := 5, recs := [(0, clippedRec)] }
  { d with
    kv.shelf := [(0, { rec_ := shelvedRec, target := some (5000, 4) })]
    media.dies := [(65, shelfProgram)]
    media.repairs := [(clippedRec, 5000, 0)] }

/-- The place of the record written again is the start of the superblock that holds what the die has programmed. -/
theorem programmedTwice_completed : ((programComplete 65 programmedTwice).wasBusy.sb shelfProgram.sb).recs = [] := by decide +kernel

/-- Refutes O52: of a table that holds the programmed superblock a second time as FREE, the next allocation opens it, and it holds nothing. -/
theorem not_programsAndErasesEnd : ¬ Obligations.ProgramsAndErasesEnd := by
  intro h
  obtain ⟨hprogram, -⟩ := h
  have hlive : programmedTwice.live = true := by decide
  obtain ⟨-, -, hplaced⟩ := ((hprogram { dev := programmedTwice } 65 shelfProgram hlive rfl rfl rfl).1 0
    { rec_ := shelvedRec, target := some (5000, 4) } rfl rfl rfl rfl (by decide) rfl (by decide)).of_onMain
    (f := fun d => if (d.die 65).isNone then d else (programComplete 65 d).wasBusy) rfl hlive
  have hdie : (programmedTwice.die 65).isNone = false := by decide
  rw [hdie, if_neg Bool.false_ne_true, programmedTwice_completed] at hplaced
  exact List.not_mem_nil hplaced

end Sys2Proof.Machine
end

-- Proofs of Module and power: what a clean shutdown leaves of the security engine and of HOLLY.
section
namespace Sys2Proof.Machine
open Sys2Proof

/-! ## What a clean shutdown leaves -/

/-- The security engine, the DRBG's error and HOLLY. -/
structure Latched where
  sec : Sec
  drbgError : Bool
  holly : Holly

/-- What a clean shutdown leaves as it is (R276). -/
def Drive.latched (d : Drive) : Latched := ⟨d.sec, d.keys.drbgError, d.holly⟩

theorem Drive.changesOnly.latched {ps : List Part} {a b : Drive} (h : a.changesOnly ps b) (hs : ps.contains Part.sec = false)
    (hk : ps.contains Part.keys = false) (hh : ps.contains Part.holly = false) : b.latched = a.latched := by
  rw [Drive.latched, h.sec hs, h.keys hk, h.holly hh, Drive.latched]

@[simp] theorem Drive.latched_mk (kv media twin ring keys holly xp time sec mod port privet rec_ meter power therm health flag optf jobs chans
    healthSaved ident out free) :
    Drive.latched (Drive.mk kv media twin ring keys holly xp time sec mod port privet rec_ meter power therm health flag optf jobs chans
      healthSaved ident out free) = ⟨sec, keys.drbgError, holly⟩ := (rfl)

@[simp] theorem Drive.latched_eta (d : Drive) : Latched.mk d.sec d.keys.drbgError d.holly = d.latched := (rfl)

@[simp] theorem Drive.latched_ite (c : Prop) [Decidable c] (a b : Drive) : (if c then a else b).latched = if c then a.latched else b.latched :=
  apply_ite Drive.latched c a b

@[simp] theorem snd_ite_latched {α : Type} (c : Prop) [Decidable c] (a b : α × Drive) :
    (if c then a else b).2.latched = if c then a.2.latched else b.2.latched := apply_ite (fun p : α × Drive => p.2.latched) c a b

@[simp] theorem foldl_latched {α : Type} {f : Drive → α → Drive} (hf : ∀ d x, (f d x).latched = d.latched) (l : List α) (d : Drive) :
    (l.foldl f d).latched = d.latched := by
  induction l generalizing d with
  | nil => rfl
  | cons x l ih => exact (ih _).trans (hf d x)

@[simp] theorem Drive.emit_latched (o) (d : Drive) : (Drive.emit o d).latched = d.latched := (Drive.emit_frame ..).latched rfl rfl rfl

@[simp] theorem Drive.meterOut_latched (t n) (d : Drive) : (Drive.meterOut t n d).latched = d.latched :=
    (Drive.meterOut_frame ..).latched rfl rfl rfl

@[simp] theorem Drive.meterReply_latched (r) (d : Drive) : (Drive.meterReply r d).latched = d.latched :=
    (Drive.meterReply_frame ..).latched rfl rfl rfl

@[simp] theorem Drive.setSess_latched (sid s) (d : Drive) : (Drive.setSess sid s d).latched = d.latched :=
    (Drive.setSess_frame ..).latched rfl rfl rfl

@[simp] theorem Drive.modSess_latched (sid f) (d : Drive) : (Drive.modSess sid f d).latched = d.latched :=
    (Drive.modSess_frame ..).latched rfl rfl rfl

@[simp] theorem Drive.setSslot_latched (sid s) (d : Drive) : (Drive.setSslot sid s d).latched = d.latched := rfl

@[simp] theorem Drive.portTx_latched (p len cast tagged fw o) (d : Drive) : (Drive.portTx p len cast tagged fw o d).latched = d.latched :=
    (Drive.portTx_frame ..).latched rfl rfl rfl

@[simp] theorem Drive.markSent_latched (sid p phase w f) (d : Drive) : (Drive.markSent sid p phase w f d).latched = d.latched := rfl

@[simp] theorem pumpFrames_latched (sid n) (d : Drive) : (pumpFrames sid n d).latched = d.latched := by
  induction n generalizing d with
  | zero => rfl
  | succ n ih =>
    rw [pumpFrames]
    dsimp only
    split
    · rfl
    split
    · rfl
    split
    · rfl
    split
    · rfl
    · rw [ih]
      split <;> simp

@[simp] theorem Drive.pump_latched (sid) (d : Drive) : (Drive.pump sid d).latched = d.latched := by unfold Drive.pump; simp

@[simp] theorem Drive.sendPart_latched (sid rid path first last op payload) (d : Drive) :
    (Drive.sendPart sid rid path first last op payload d).latched = d.latched := by
  unfold Drive.sendPart
  simp

@[simp] theorem Drive.raiseAlert_latched (d : Drive) : (Drive.raiseAlert d).latched = d.latched :=
    (Drive.raiseAlert_frame ..).latched rfl rfl rfl

@[simp] theorem Drive.raiseFwd_latched (d : Drive) : (Drive.raiseFwd d).latched = d.latched := (Drive.raiseFwd_frame ..).latched rfl rfl rfl

@[simp] theorem Drive.enter_latched (src sev payload) (d : Drive) : (Drive.enter src sev payload d).2.latched = d.latched :=
    (Drive.enter_frame ..).latched rfl rfl rfl

@[simp] theorem Drive.startFlush_latched (d : Drive) : (Drive.startFlush d).latched = d.latched :=
    (Drive.startFlush_frame ..).latched rfl rfl rfl

@[simp] theorem Drive.queueWith_latched {lost : Nat → Drive → Drive} (hf : ∀ n d, (lost n d).latched = d.latched) (sid n) (d : Drive) :
    (d.queueWith lost sid n).latched = d.latched := by
  unfold Drive.queueWith
  dsimp only
  simp [hf]

@[simp] theorem sendNotices_latched (sid n) (d : Drive) : (sendNotices sid n d).latched = d.latched := by
  induction n generalizing d with
  | zero => rfl
  | succ n ih =>
    rw [sendNotices]
    dsimp only
    split
    · rfl
    split
    · split
      · simp [ih]
      · rfl
    · rw [ih]
      split <;> simp

@[simp] theorem Drive.noticeWith_latched {lost : Nat → Drive → Drive} (hf : ∀ n d, (lost n d).latched = d.latched) (sid n) (d : Drive) :
    (d.noticeWith lost sid n).latched = d.latched := by
  unfold Drive.noticeWith
  simp [Drive.queueWith_latched hf]

@[simp] theorem Drive.eventNoticeLost_latched (sid) (d : Drive) : (Drive.eventNoticeLost sid d).latched = d.latched :=
    (Drive.eventNoticeLost_frame ..).latched rfl rfl rfl

@[simp] theorem Drive.event_latched (src sev words) (d : Drive) (tag) : (Drive.event src sev words d tag).latched = d.latched := by
  unfold Drive.event
  have h := Drive.enter_latched src sev (eventPayload tag words) d
  split <;> rename_i heq <;> rw [heq] at h
  · exact h
  · have hn := Drive.noticeWith_latched (fun n d => Drive.eventNoticeLost_latched n d)
    dsimp only
    split <;> split <;> simp_all

@[simp] theorem Drive.noticeLost_latched (sid) (d : Drive) : (Drive.noticeLost sid d).latched = d.latched := by
  unfold Drive.noticeLost
  simp

@[simp] theorem Drive.notice_latched (sid n) (d : Drive) : (Drive.notice sid n d).latched = d.latched := by
  unfold Drive.notice
  refine Drive.noticeWith_latched (fun r d => ?_) ..
  simp

@[simp] theorem Drive.putReq_latched (r) (d : Drive) : (Drive.putReq r d).latched = d.latched := (Drive.putReq_frame ..).latched rfl rfl rfl

@[simp] theorem Drive.dropReq_latched (o) (d : Drive) : (Drive.dropReq o d).latched = d.latched :=
    (Drive.dropReq_frame ..).latched rfl rfl rfl

@[simp] theorem Drive.twinSend_latched (m) (d : Drive) : (Drive.twinSend m d).latched = d.latched :=
    (Drive.twinSend_frame ..).latched rfl rfl rfl

@[simp] theorem Drive.twinOp_latched (op) (d : Drive) : (Drive.twinOp op d).latched = d.latched :=
    (Drive.twinOp_frame ..).latched rfl rfl rfl

@[simp] theorem Drive.twinDone_latched (opId) (d : Drive) : (Drive.twinDone opId d).latched = d.latched :=
    (Drive.twinDone_frame ..).latched rfl rfl rfl

@[simp] theorem Drive.twinSeen_latched (opId reply) (d : Drive) : (Drive.twinSeen opId reply d).latched = d.latched :=
    (Drive.twinSeen_frame ..).latched rfl rfl rfl


@[simp] theorem Drive.ringSend_latched (code dest cls args body) (d : Drive) :
    (Drive.ringSend code dest cls args body d).latched = d.latched := (Drive.ringSend_frame ..).latched rfl rfl rfl

@[simp] theorem Drive.chargeReply_latched (t n) (d : Drive) : (Drive.chargeReply t n d).latched = d.latched :=
    (Drive.chargeReply_frame ..).latched rfl rfl rfl

@[simp] theorem Drive.replyFrames_latched (sid rid first last h body) (d : Drive) :
    (Drive.replyFrames sid rid first last h body d).latched = d.latched := by
  unfold Drive.replyFrames
  simp

@[simp] theorem Drive.answer_latched (o h body) (d : Drive) : (Drive.answer o h body d).latched = d.latched := by
  unfold Drive.answer
  dsimp only
  repeat' split
  all_goals simp

@[simp] theorem Drive.lastReply_latched (sid late) (d : Drive) : (Drive.lastReply sid late d).latched = d.latched := by
  unfold Drive.lastReply
  dsimp only
  split
  · simp
  split <;> simp

@[simp] theorem Drive.reply_latched (o h body) (d : Drive) : (Drive.reply o h body d).latched = d.latched := by
  unfold Drive.reply
  split <;> simp

@[simp] theorem Drive.refuse_latched (r status) (d : Drive) (version offset) :
    (Drive.refuse r status d version offset).latched = d.latched := by
  unfold Drive.refuse
  simp

@[simp] theorem Drive.delta_latched (x) (d : Drive) : (Drive.delta x d).latched = d.latched := (Drive.delta_frame ..).latched rfl rfl rfl

@[simp] theorem Drive.assign_latched (input) (d : Drive) : (Drive.assign input d).2.latched = d.latched :=
    (Drive.assign_frame ..).latched rfl rfl rfl

@[simp] theorem Drive.nextSbSeq_latched (d : Drive) : (Drive.nextSbSeq d).2.latched = d.latched :=
    (Drive.nextSbSeq_frame ..).latched rfl rfl rfl

@[simp] theorem Drive.countEcc_latched (e) (d : Drive) : (Drive.countEcc e d).latched = d.latched := by unfold Drive.countEcc; simp

@[simp] theorem Drive.beginBusy_latched (n o) (d : Drive) : (Drive.beginBusy n o d).latched = d.latched :=
    (Drive.beginBusy_frame ..).latched rfl rfl rfl

@[simp] theorem startAll_latched (l) (d : Drive) : (startAll l d).latched = d.latched := (startAll_frame ..).latched rfl rfl rfl

@[simp] theorem Drive.cancelReads_latched (o) (d : Drive) : (Drive.cancelReads o d).latched = d.latched :=
    (Drive.cancelReads_frame ..).latched rfl rfl rfl

@[simp] theorem Drive.modNs_latched (n f) (d : Drive) : (Drive.modNs n f d).latched = d.latched :=
    (Drive.modNs_frame ..).latched rfl rfl rfl

@[simp] theorem Drive.entryFor_latched (nsId key t) (d : Drive) : (Drive.entryFor nsId key t d).2.latched = d.latched := by
  unfold Drive.entryFor
  dsimp only
  split
  · simp
  split <;> simp

@[simp] theorem Drive.settle_latched (o) (d : Drive) : (Drive.settle o d).latched = d.latched := by
  unfold Drive.settle
  split <;> simp

@[simp] theorem Drive.readTrailer_latched (o status recon rep chunk total) (d : Drive) :
    (Drive.readTrailer o status recon rep chunk total d).latched = d.latched := by
  unfold Drive.readTrailer
  dsimp only
  repeat' split
  all_goals simp

@[simp] theorem issueReads_latched (l) (d : Drive) : (issueReads l d).latched = d.latched := (issueReads_frame ..).latched rfl rfl rfl

@[simp] theorem Drive.putStream_latched (s) (d : Drive) : (Drive.putStream s d).latched = d.latched := by unfold Drive.putStream; simp

@[simp] theorem Drive.issueChunk_latched (s) (d : Drive) : (Drive.issueChunk s d).latched = d.latched := by unfold Drive.issueChunk; simp

@[simp] theorem reissue_latched (place l) (d : Drive) : (reissue place l d).latched = d.latched := by
  induction l generalizing d with
  | nil => rfl
  | cons x l ih => simp [reissue, ih]

@[simp] theorem Drive.dropStream_latched (o) (d : Drive) : (Drive.dropStream o d).latched = d.latched := by
  unfold Drive.dropStream
  split <;> simp

@[simp] theorem Drive.refuseRead_latched (r status) (d : Drive) (version) : (Drive.refuseRead r status d version).latched = d.latched := by
  unfold Drive.refuseRead
  simp

@[simp] theorem Drive.endRead_latched (s status chunk) (d : Drive) : (Drive.endRead s status chunk d).latched = d.latched := by
  unfold Drive.endRead
  simp

@[simp] theorem Drive.fwdWatch_latched (d : Drive) : (Drive.fwdWatch d).latched = d.latched := by unfold Drive.fwdWatch; simp

@[simp] theorem roomForAll_latched (ms) (d : Drive) : (roomForAll ms d).2.latched = d.latched := by
  unfold roomForAll
  dsimp only
  split
  · rfl
  · generalize hl : (List.zipIdx _ : List ((Member × Bool) × Nat)) = l
    have hkept : ∀ (f : List (Option Nat) × Drive → (Member × Bool) × Nat → List (Option Nat) × Drive),
        (∀ a p, (f a p).2.latched = a.2.latched) → ∀ a, (l.foldl f a).2.latched = a.2.latched := by
      intro f hf
      clear hl
      induction l with
      | nil => exact fun _ => rfl
      | cons p l ih => exact fun a => (ih _).trans (hf a p)
    split <;> (refine hkept _ (fun a p => ?_) _; split <;> simp)

@[simp] theorem Drive.batchFail_latched (r rs) (d : Drive) : (Drive.batchFail r rs d).latched = d.latched := by unfold Drive.batchFail; simp

@[simp] theorem Drive.batchWhole_latched (r st) (d : Drive) (detail) : (Drive.batchWhole r st d detail).latched = d.latched := by
  unfold Drive.batchWhole
  simp

@[simp] theorem Drive.refuseAny_latched (r st) (d : Drive) (detail) : (Drive.refuseAny r st d detail).latched = d.latched := by
  unfold Drive.refuseAny
  simp

@[simp] theorem noticeAll_latched (sid l) (d : Drive) : (noticeAll sid l d).latched = d.latched := by
  induction l generalizing d with
  | nil => rfl
  | cons x l ih => simp [noticeAll, ih]

@[simp] theorem completeChanges_latched (l) (d : Drive) : (completeChanges l d).latched = d.latched := by
  induction l generalizing d with
  | nil => rfl
  | cons x l ih => simp [completeChanges, ih]

@[simp] theorem Drive.finishChanges_latched (d : Drive) : (Drive.finishChanges d).latched = d.latched := by unfold Drive.finishChanges; simp

@[simp] theorem Drive.release_latched (txn coordinator) (d : Drive) : (Drive.release txn coordinator d).latched = d.latched := by
  unfold Drive.release
  simp

@[simp] theorem Drive.ownOutcomes_latched (r tenant ms mine) (d : Drive) : (Drive.ownOutcomes r tenant ms mine d).2.latched = d.latched := by
  unfold Drive.ownOutcomes
  simp

@[simp] theorem Drive.abortTxn_latched {k : Drive → Drive} (hf : ∀ d, (k d).latched = d.latched) (r) (d : Drive) :
    (d.abortTxn r k).latched = d.latched := by
  unfold Drive.abortTxn
  simp [hf]

@[simp] theorem decideTxn_latched (r outcomes) (d : Drive) : (decideTxn r outcomes d).latched = d.latched := by unfold decideTxn; simp

@[simp] theorem decideWaiting_latched (l) (d : Drive) : (decideWaiting l d).latched = d.latched := by
  induction l generalizing d with
  | nil => rfl
  | cons r rs ih =>
    rw [decideWaiting, ih]
    split <;> simp

@[simp] theorem Drive.failInternal_latched (o) (d : Drive) : (Drive.failInternal o d).latched = d.latched := by
  unfold Drive.failInternal
  split <;> simp

theorem Drive.issueProgram_latched {job} {sb} {gran} {d : Drive} {z : Drive} (h : (Drive.issueProgram job sb gran d) = some z) :
    z.latched = d.latched := (Drive.issueProgram_frame (h := h) ..).latched rfl rfl rfl

@[simp] theorem programmedReqs_latched (v l) (d : Drive) : (programmedReqs v l d).latched = d.latched := by
  induction l generalizing d with
  | nil => rfl
  | cons x l ih => simp [programmedReqs, ih]

@[simp] theorem Drive.snapshot_latched (d : Drive) : (Drive.snapshot d).latched = d.latched := by unfold Drive.snapshot; simp

@[simp] theorem sendAcks_latched (l) (d : Drive) : (sendAcks l d).latched = d.latched := by
  induction l generalizing d with
  | nil => rfl
  | cons x l ih => simp [sendAcks, ih]

@[simp] theorem Drive.closeEpisode_latched (d : Drive) : (Drive.closeEpisode d).latched = d.latched := by
  unfold Drive.closeEpisode
  split
  · rfl
  dsimp only
  split
  · rfl
  · split
    · split <;> simp
    · simp

@[simp] theorem Drive.groupWritten_latched (d : Drive) : (Drive.groupWritten d).latched = d.latched := by unfold Drive.groupWritten; simp

@[simp] theorem flushAll_latched (n) (d : Drive) : (flushAll n d).latched = d.latched := by
  induction n generalizing d with
  | zero => rfl
  | succ n ih => simp [flushAll, ih]

@[simp] theorem Drive.settleRecords_latched (d : Drive) : (Drive.settleRecords d).latched = d.latched := by unfold Drive.settleRecords; simp

@[simp] theorem Drive.setSb_latched (n) (s) (d : Drive) : (Drive.setSb n s d).latched = d.latched := by
  unfold Drive.setSb
  simp

@[simp] theorem Drive.modSb_latched (n) (f) (d : Drive) : (Drive.modSb n f d).latched = d.latched := Drive.setSb_latched ..

@[simp] theorem Drive.closeFull_latched (stream) (slc) (g) (d : Drive) : (Drive.closeFull stream slc g d).latched = d.latched :=
  (Drive.closeFull_frame ..).latched rfl rfl rfl

theorem Drive.openSb_latched {stream} {slc} {d : Drive} {y} {z : Drive} (h : (Drive.openSb stream slc d) = some (y, z)) :
    z.latched = d.latched := by
  unfold Drive.openSb at h
  split at h
  · cases h
  · obtain ⟨n, -, heq⟩ := Option.map_eq_some_iff.mp h
    obtain ⟨-, rfl⟩ := Prod.mk.inj heq
    simp

theorem Drive.allocate_latched {stream} {slc} {g} {d : Drive} {y} {z : Drive} (h : (Drive.allocate stream slc g d) = some (y, z)) :
    z.latched = d.latched := by
  unfold Drive.allocate at h
  split at h
  · obtain ⟨-, rfl⟩ := Prod.mk.inj (Option.some.inj h)
    simp
  · obtain ⟨⟨n, w⟩, hopen, heq⟩ := Option.map_eq_some_iff.mp h
    obtain ⟨-, rfl⟩ := Prod.mk.inj heq
    simp [Drive.openSb_latched hopen]

@[simp] theorem Drive.placeRec_latched (sb) (gran) (r) (d : Drive) : (Drive.placeRec sb gran r d).latched = d.latched := Drive.modSb_latched ..

@[simp] theorem Drive.sbState_latched (sb) (state) (d : Drive) : (Drive.sbState sb state d).latched = d.latched := by
  unfold Drive.sbState
  simp

@[simp] theorem eraseBlocks_latched (sb) (l) (d : Drive) : (eraseBlocks sb l d).latched = d.latched := by
  induction l generalizing d with
  | nil => rfl
  | cons x l ih => simp [eraseBlocks, ih]

@[simp] theorem advanceErases_latched (l) (d : Drive) : (advanceErases l d).latched = d.latched := by
  induction l generalizing d with
  | nil => rfl
  | cons x l ih => simp [advanceErases, ih]

@[simp] theorem Drive.finishClip_latched (sb) (d : Drive) : (Drive.finishClip sb d).latched = d.latched := by
  unfold Drive.finishClip
  split
  · rfl
  split
  · rfl
  · exact (Drive.sbState_latched ..).trans (foldl_latched (fun _ _ => Drive.modNs_latched ..) ..)

@[simp] theorem advanceClip_latched (sb) (n) (d : Drive) : (advanceClip sb n d).latched = d.latched := by
  induction n generalizing d with
  | zero => simp [advanceClip]
  | succ n ih =>
    rw [advanceClip]
    split
    · rfl
    dsimp only
    split
    · simp
    split
    · simp [ih]
    split
    · rfl
    split
    · rfl
    · rename_i ha
      split
      · rfl
      · rename_i hi
        simp [ih, Drive.issueProgram_latched hi, Drive.allocate_latched ha]

@[simp] theorem advanceRepairs_latched (l) (d : Drive) : (advanceRepairs l d).latched = d.latched := by
  induction l generalizing d with
  | nil => rfl
  | cons x l ih =>
    obtain ⟨r, sb, gran⟩ := x
    rw [advanceRepairs, ih]
    dsimp only
    split
    · simp
    split
    · rfl
    split
    · rfl
    · rename_i ha
      split
      · rfl
      · rename_i hi
        simp [Drive.issueProgram_latched hi, Drive.allocate_latched ha]

@[simp] theorem Drive.advanceMedia_latched (d : Drive) : (Drive.advanceMedia d).latched = d.latched := by
  unfold Drive.advanceMedia
  simp

@[simp] theorem Drive.moveRec_latched (sb) (gran) (sb1) (gran1) (r) (d : Drive) : (Drive.moveRec sb gran sb1 gran1 r d).latched = d.latched := by
  unfold Drive.moveRec
  simp

@[simp] theorem Drive.shelfDone_latched (idx sb gran) (d : Drive) : (Drive.shelfDone idx sb gran d).latched = d.latched := by
  unfold Drive.shelfDone
  split
  · rfl
  extract_lets +onlyGivenNames r kv hlth d1 placed noted kv1 d2 d3
  have h3 : d3.latched = d.latched := by
    have h2 : d2.latched = d.latched := by simp [d2, kv1, noted, placed, d1]
    simpa [d3] using h2
  clear_value d3
  split
  · simp [h3]
  · exact h3

@[simp] theorem programDone_latched (job sb gran) (d : Drive) : (programDone job sb gran d).latched = d.latched := by
  unfold programDone
  split <;> simp

@[simp] theorem runVerified_latched (l) (d : Drive) : (runVerified l d).latched = d.latched := by
  induction l generalizing d with
  | nil => rfl
  | cons x l ih =>
    rw [runVerified]
    split
    · simp [ih]
    · rfl

@[simp] theorem Drive.openRoot_latched (n) (d : Drive) : (Drive.openRoot n d).latched = d.latched := by
  unfold Drive.openRoot
  simp

@[simp] theorem Drive.writeRoot_latched (clean) (d : Drive) : (Drive.writeRoot clean d).latched = d.latched := by
  unfold Drive.writeRoot
  simp

@[simp] theorem deltaDrain_latched (d : Drive) : (deltaDrain d).latched = d.latched := by unfold deltaDrain; simp

@[simp] theorem Drive.stopClips_latched (d : Drive) : (Drive.stopClips d).latched = d.latched := by
  unfold Drive.stopClips
  simp

@[simp] theorem drainShelf_latched (n) (d : Drive) : (drainShelf n d).latched = d.latched := by
  induction n generalizing d with
  | zero => rfl
  | succ n ih =>
    rw [drainShelf]
    split
    · rfl
    extract_lets +onlyGivenNames spot
    have hspot : ∀ p z, spot = some (p, z) → z.latched = d.latched := by
      intro p z hz
      dsimp only [spot] at hz
      split at hz
      · obtain ⟨-, rfl⟩ : _ ∧ d = z := by simpa using hz
        rfl
      · rcases orElse_some hz with hz | hz <;> exact Drive.allocate_latched hz
    clear_value spot
    split
    · rw [ih, Drive.shelfDone_latched, hspot _ _ rfl]
    · rfl

theorem Drive.cleanShutdown_latched (d : Drive) : d.cleanShutdown.latched = d.latched := by unfold Drive.cleanShutdown; simp

end Sys2Proof.Machine
end

-- Proofs of Module and power: the rails, the flush and the counted shutdowns.
section
namespace Sys2Proof.Machine
open Sys2Proof

/-! ## Commands of a drive whose rails are up -/

theorem completes_next {i : Instr} {s : State} {z : Drive} {P : Drive → Prop} (he : exec i s = .next { s with dev := z }) (hp : P z) :
    Completes i s P := ⟨_, he, rfl, hp⟩

theorem completes_onRails {i : Instr} {s : State} {f : Drive → Drive} {P : Drive → Prop} (he : exec i s = s.onRails f)
    (h : s.dev.railsUp = true) (hp : P (f s.dev)) : Completes i s P :=
  completes_next (he.trans (by rw [State.onRails, if_pos h])) hp

theorem completes_onRailsEnd {i : Instr} {s : State} {f : Drive → Drive} {P : Drive → Prop} (he : exec i s = s.onRailsEnd f)
    (h : s.dev.railsUp = true) (hp : P (f s.dev)) : Completes i s P :=
  completes_next (he.trans (by rw [State.onRailsEnd, if_pos h])) hp

theorem completes_onSideband {i : Instr} {s : State} {f : Drive → Drive} {P : Drive → Prop} (he : exec i s = s.onSideband f)
    (h : (s.dev.mod.mainOn || s.dev.mod.auxOn) = true) (hp : P (f s.dev)) : Completes i s P :=
  completes_next (he.trans (by rw [State.onSideband, if_pos h])) hp

theorem Drive.railsUp_iff {d : Drive} :
    d.railsUp = true ↔ d.mod.mainOn = true ∧ d.media.flushing = false ∧ d.sec.state ≠ 0xA3 ∧ d.sec.state ≠ 0xA4 := by
  simp [Drive.railsUp, and_assoc]

/-! ## The clock and the module over the end of an interval -/

@[simp] theorem Drive.storeWatch_clock (d : Drive) : d.storeWatch.time = d.time ∧ d.storeWatch.mod = d.mod := by
  unfold Drive.storeWatch
  dsimp only
  repeat' split
  all_goals simp

@[simp] theorem Drive.putRec_clock (r key prev) (d : Drive) : (d.putRec r key prev).time = d.time ∧ (d.putRec r key prev).mod = d.mod := by
  simp [Drive.putRec]

@[simp] theorem Drive.sealRec_clock (r) (d : Drive) : (d.sealRec r).time = d.time ∧ (d.sealRec r).mod = d.mod := by
  unfold Drive.sealRec
  split
  · dsimp only
    split <;> simp
  · simp
  · dsimp only
    split <;> simp

@[simp] theorem writeRecs_clock (flags l) (d : Drive) : (writeRecs flags l d).time = d.time ∧ (writeRecs flags l d).mod = d.mod := by
  induction l generalizing d with
  | nil => exact ⟨rfl, rfl⟩
  | cons x l ih => simp [writeRecs, ih]

@[simp] theorem Drive.closeInterval_clock (flags) (d : Drive) :
    (d.closeInterval flags).time = d.time ∧ (d.closeInterval flags).mod = d.mod := by
  unfold Drive.closeInterval Drive.openInterval
  dsimp only
  split <;> simp

@[simp] theorem Drive.endMaint_clock (cause) (d : Drive) : (d.endMaint cause).time = d.time ∧ (d.endMaint cause).mod = d.mod := by
  unfold Drive.endMaint
  split <;> simp

@[simp] theorem Drive.leaveRecord_clock (d : Drive) : d.leaveRecord.time = d.time ∧ d.leaveRecord.mod = d.mod := by
  unfold Drive.leaveRecord
  dsimp only
  repeat' split
  all_goals simp

/-! ## The flush and the stop of the islands -/

/-- A flush that begins keeps the module but for DEVICE.STATE, and the time of the failure (R270). -/
theorem Drive.beginFlush_begun {d : Drive} (h : d.media.flushing = false) :
    d.beginFlush.media.flushing = true ∧ d.beginFlush.mod = { d.mod with devState := 0xD8 } ∧ d.beginFlush.time.exact = some d.now := by
  unfold Drive.beginFlush
  rw [if_neg (by simp [h])]
  dsimp only [Drive.stopClips]
  split <;> simp [Drive.now]

theorem Drive.tearWrites_frame (d : Drive) : d.changesOnly [.optf] d.tearWrites := by
  have hsector : ∀ (d : Drive) (n : Nat), d.changesOnly [.optf] (d.tearSector n) := fun d n => by
    unfold Drive.tearSector
    dsimp only
    repeat' split
    all_goals exact ⟨rfl⟩
  exact ⟨(foldl_frame (fun d (x : OptfOp) => hsector d x.sector) ..).same⟩

/-- The islands are off: the supplies, the flush record and the recorder stand as they did. -/
theorem Drive.islandsOff_keeps (d : Drive) :
    d.islandsOff.mod.mainOn = d.mod.mainOn ∧ d.islandsOff.media.flushValid = d.media.flushValid ∧ d.islandsOff.rec_ = d.rec_ := by
  have h := d.quiesce.tearWrites_frame
  have hmain : d.quiesce.tearWrites.mod.mainOn = d.quiesce.mod.mainOn := congrArg Module.mainOn (h.mod rfl)
  have hvalid : d.quiesce.tearWrites.media.flushValid = d.quiesce.media.flushValid := congrArg Media.flushValid (h.media rfl)
  exact ⟨hmain, hvalid, h.rec_ rfl⟩

/-- The main rails are off (R271). -/
theorem Drive.railsOff_off (d : Drive) :
    d.railsOff.mod.mainOn = false ∧ d.railsOff.mod.devState = 0xD0 ∧ d.railsOff.media.flushing = false ∧
      d.railsOff.media.flushValid = d.media.flushValid ∧ d.railsOff.rec_ = d.rec_ := by
  obtain ⟨-, hvalid, hrec⟩ := d.islandsOff_keeps
  unfold Drive.railsOff
  dsimp only
  split <;> exact ⟨rfl, rfl, rfl, hvalid, hrec⟩

theorem Drive.openReserve_frame (d : Drive) : d.changesOnly [.media] d.openReserve := by
  unfold Drive.openReserve
  refine foldl_frame (fun d n => ?_) ..
  split
  · exact Drive.modSb_frame ..
  · exact Drive.changesOnly_refl ..

/-- The drive when its flush has been written: with the recorder begun, the flush record is valid (R271). -/
def Drive.flushed (d : Drive) : Drive :=
  let d := if d.rec_.based then
      { d.openReserve with media.flushValid := true, media.unclean := true, rec_.savedStaging := d.rec_.staging, rec_.savedEpisode := d.rec_.episode }
    else d
  { d with rec_.staging := [], rec_.writing := 0, rec_.episode := none, time.exact := some d.now, time.savedWall := d.wallNow }

theorem Drive.endFlush_of_flushing {d : Drive} (h : d.media.flushing = true) : d.endFlush = if d.flushed.mod.flushReset then
      { d.flushed.islandsOff with mod.inReset := true, mod.devState := 0xD1, mod.flushReset := false, media.flushing := false }
    else d.flushed.railsOff := by
  unfold Drive.endFlush
  rw [if_neg (by simp [h])]
  rfl

theorem Drive.flushed_mod (d : Drive) : d.flushed.mod = d.mod := by
  unfold Drive.flushed
  dsimp only
  split
  · simp [d.openReserve_frame.mod rfl]
  · rfl

theorem Drive.flushed_record {d : Drive} (h : d.rec_.based = true) :
    d.flushed.media.flushValid = true ∧ d.flushed.rec_.savedStaging = d.rec_.staging := by
  unfold Drive.flushed
  rw [if_pos h]
  exact ⟨rfl, rfl⟩

/-- A reset of the islands by the flush (R691): the rails stay up. -/
theorem Drive.mainReset_done {d : Drive} (h : d.media.flushing = false) :
    d.mainReset.mod.inReset = true ∧ d.mainReset.mod.mainOn = d.mod.mainOn := by
  obtain ⟨hbegun, hmod, -⟩ := Drive.beginFlush_begun (d := { d with mod.flushReset := true }) h
  unfold Drive.mainReset
  generalize Drive.beginFlush _ = e at hbegun hmod
  rw [Drive.endFlush_of_flushing hbegun, if_pos (by rw [e.flushed_mod, hmod])]
  have hmain := e.flushed.islandsOff_keeps.1
  rw [e.flushed_mod, hmod] at hmain
  exact ⟨rfl, hmain⟩

/-! ## The count of an event source -/

/-- The events of a source since the recorder began (Table 16.1). -/
def Drive.counted (src : Nat) (d : Drive) : Nat := tgetD src 0 d.rec_.counts

theorem Drive.changesOnly.counted {ps : List Part} {a b : Drive} (h : a.changesOnly ps b) (hr : ps.contains Part.rec_ = false) (src : Nat) :
    b.counted src = a.counted src := by rw [Drive.counted, h.rec_ hr, Drive.counted]

theorem Drive.enter_counted (src sev payload) (d : Drive) (k : Nat) :
    (d.enter src sev payload).2.counted k = if k = src then d.counted k + 1 else d.counted k := by
  have hcount : tgetD k 0 (tmod src 0 (· + 1) d.rec_.counts) = if k = src then d.counted k + 1 else d.counted k := by
    split
    · rename_i h
      rw [h, tmod, tgetD_tput_same, Drive.counted]
    · rename_i h
      rw [tmod, tgetD, tget?_tput_ne h, Drive.counted, tgetD]
  unfold Drive.enter
  dsimp only
  split
  · exact hcount
  split
  · unfold Drive.dropEvent
    dsimp only
    split
    · rw [(Drive.raiseAlert_frame _).counted rfl]
      exact hcount
    · exact hcount
  · exact hcount

theorem Drive.eventNoticeLost_counted (sid) (d : Drive) {k : Nat} (hk : k ≠ 0x609) : (d.eventNoticeLost sid).counted k = d.counted k := by
  have henter := Drive.enter_counted 0x609 Sev.warning (eventPayload none []) d k
  rw [if_neg hk] at henter
  unfold Drive.eventNoticeLost
  extract_lets +onlyGivenNames n d1
  have h1 : d1.counted k = d.counted k := by
    dsimp only [d1]
    split
    · rfl
    split
    · rw [(Drive.raiseAlert_frame _).counted rfl, henter]
    · exact henter
  clear_value d1
  exact ((Drive.modSess_frame ..).counted rfl k).trans h1

theorem Drive.queueWith_counted {lost : Nat → Drive → Drive} {k : Nat} (hf : ∀ n d, (lost n d).counted k = d.counted k) (sid n) (d : Drive) :
    (d.queueWith lost sid n).counted k = d.counted k := by
  have hmod : ∀ f (d : Drive), (d.modSess sid f).counted k = d.counted k := fun f d => (Drive.modSess_frame ..).counted rfl k
  unfold Drive.queueWith
  dsimp only
  repeat' split
  all_goals simp only [hmod, hf]

theorem Drive.noticeWith_counted {lost : Nat → Drive → Drive} {k : Nat} (hf : ∀ n d, (lost n d).counted k = d.counted k) (sid n) (d : Drive) :
    (d.noticeWith lost sid n).counted k = d.counted k := by
  unfold Drive.noticeWith
  split
  · rfl
  · exact ((sendNotices_frame ..).counted rfl k).trans (Drive.queueWith_counted hf ..)

theorem Drive.startFlush_counted (d : Drive) (k : Nat) : d.startFlush.counted k = d.counted k := by
  unfold Drive.startFlush
  split <;> rfl

/-- An event is counted once at its source. -/
theorem Drive.event_counted (src sev words) (d : Drive) (tag) (hs : src ≠ 0x609) :
    (d.event src sev words tag).counted src = d.counted src + 1 := by
  have henter := Drive.enter_counted src sev (eventPayload tag words) d src
  rw [if_pos rfl] at henter
  unfold Drive.event
  split <;> rename_i heq <;> rw [heq] at henter
  · exact henter
  · rename_i d1
    extract_lets +onlyGivenNames d2
    have h2 : d2.counted src = d1.counted src := by
      dsimp only [d2]
      split
      · rw [(Drive.raiseAlert_frame _).counted rfl]
        split
        · exact Drive.noticeWith_counted (fun sid d => Drive.eventNoticeLost_counted sid d hs) ..
        · rfl
      · rfl
    clear_value d2
    split
    · rw [Drive.startFlush_counted, h2, henter]
    · rw [h2, henter]

end Sys2Proof.Machine
end

-- Proofs of Module and power: the error state.
section
namespace Sys2Proof.Machine
open Sys2Proof

/-! ## The error state -/

theorem Drive.latched_parts {a b : Drive} (h : b.latched = a.latched) : b.sec = a.sec ∧ b.keys.drbgError = a.keys.drbgError ∧ b.holly = a.holly :=
  ⟨congrArg Latched.sec h, congrArg Latched.drbgError h, congrArg Latched.holly h⟩

theorem bit_clrBit (i n : Nat) : bit i (clrBit i n) = false := by
  unfold clrBit
  split
  · rename_i h
    simp only [bit, beq_iff_eq] at h
    have hpos : 0 < 2 ^ i := Nat.two_pow_pos i
    have hdiv : (n - 2 ^ i) / 2 ^ i = n / 2 ^ i - 1 := Nat.sub_mul_div n (2 ^ i) 1 ▸ by rw [Nat.mul_one]
    simp only [bit, hdiv, beq_eq_false_iff_ne]
    omega
  · rename_i h
    simpa using h

theorem Drive.approvedWatch_keeps (d : Drive) : d.approvedWatch.sec.state = d.sec.state ∧ d.approvedWatch.sec.tests = d.sec.tests ∧
    d.approvedWatch.mod = d.mod ∧ d.approvedWatch.keys.drbgError = d.keys.drbgError ∧ d.approvedWatch.holly = d.holly := by
  unfold Drive.approvedWatch
  extract_lets +onlyGivenNames now used d1
  have h1 : d1.sec.state = d.sec.state ∧ d1.sec.tests = d.sec.tests ∧ d1.mod = d.mod ∧ d1.keys.drbgError = d.keys.drbgError ∧ d1.holly = d.holly := by
    dsimp only [d1]
    split <;> exact ⟨rfl, rfl, rfl, rfl, rfl⟩
  clear_value d1
  split
  · exact h1
  · have hkeys := (Drive.latched_parts (Drive.event_latched 0x432 Sev.notice [b2n now] { d1 with sec.approved := now } none)).2.1
    simpa [hkeys] using h1

/-- The state ERROR (R411, R636, R637): the failed test is not passed, and the DRBG's error and HOLLY stand. -/
theorem Drive.enterError_entered (test pair : Nat) (d : Drive) : (d.enterError test pair).sec.state = 0xA2 ∧
    (d.enterError test pair).mod.devState = 0xD9 ∧ bit test (d.enterError test pair).sec.tests = false ∧
    (d.enterError test pair).keys.drbgError = d.keys.drbgError ∧ (d.enterError test pair).holly = d.holly := by
  unfold Drive.enterError
  dsimp only
  have h1 : ((d.event 0x431 Sev.critical [test, pair]).raiseAlert).latched = d.latched := by simp
  generalize (d.event 0x431 Sev.critical [test, pair]).raiseAlert = d1 at h1
  have h2 := Drive.cleanShutdown_latched { d1 with sec.tests := clrBit test d1.sec.tests }
  dsimp only at h2
  generalize Drive.cleanShutdown _ = d2 at h2
  obtain ⟨-, hdrbg1, hholly1⟩ := Drive.latched_parts h1
  obtain ⟨hsec, hdrbg, hholly⟩ := Drive.latched_parts h2
  obtain ⟨hstate', htests', hmod', hdrbg', hholly'⟩ := Drive.approvedWatch_keeps { d2 with sec.state := 0xA2, mod.devState := 0xD9 }
  rw [hstate', htests', hmod', hdrbg', hholly']
  refine ⟨rfl, rfl, ?_, hdrbg.trans hdrbg1, hholly.trans hholly1⟩
  rw [hsec]
  exact bit_clrBit ..

end Sys2Proof.Machine
end

-- Proofs of Module and power: failures and pins.
section
namespace Sys2Proof.Machine
open Sys2Proof

/-! ## Failures -/

theorem powerFail_completes {s : State} (h : s.dev.railsUp = true) : Completes .powerFail s fun d =>
    d.media.flushing = true ∧ d.mod.devState = 0xD8 ∧ d.time.exact = some s.dev.now := by
  obtain ⟨-, hidle, -⟩ := Drive.railsUp_iff.mp h
  obtain ⟨hflushing, hmod, hexact⟩ := Drive.beginFlush_begun hidle
  exact completes_onRailsEnd rfl h ⟨hflushing, congrArg Module.devState hmod, hexact⟩

theorem flushComplete_completes {s : State} (hf : s.dev.media.flushing = true) (hr : s.dev.mod.flushReset = false) :
    Completes .flushComplete s fun d => d.mod.mainOn = false ∧ d.media.flushing = false ∧
      (s.dev.rec_.based = true → d.media.flushValid = true ∧ d.rec_.savedStaging = s.dev.rec_.staging) := by
  refine completes_next rfl ?_
  rw [Drive.endFlush_of_flushing hf, if_neg (by simp [Drive.flushed_mod, hr])]
  obtain ⟨hmain, -, hflushing, hvalid, hrec⟩ := s.dev.flushed.railsOff_off
  refine ⟨hmain, hflushing, fun hbased => ?_⟩
  rw [hvalid, hrec]
  exact Drive.flushed_record hbased

theorem hollyFail_drbgError (q : HollyReq) (d : Drive) : (hollyFail q d).keys.drbgError = d.keys.drbgError := by
  unfold hollyFail
  split
  · rfl
  · rfl
  split
  · exact (Drive.latched_parts (Drive.failInternal_latched ..)).2.1
  · rfl

/-- The work that waits for HOLLY ends, for the DRBG is in error (R411). -/
def Drive.drbgFailed (d : Drive) : Drive := d.holly.waiting.foldl (fun d q => hollyFail q d) { d with keys.drbgError := true }

theorem Drive.drbgFailed_drbgError (d : Drive) : d.drbgFailed.keys.drbgError = true := by
  have hall : ∀ (l : List HollyReq) (d : Drive), (l.foldl (fun d q => hollyFail q d) d).keys.drbgError = d.keys.drbgError := by
    intro l
    induction l with
    | nil => exact fun _ => rfl
    | cons q l ih => exact fun d => (ih _).trans (hollyFail_drbgError q d)
  exact hall ..

theorem exec_drbgError (s : State) : exec .drbgError s = s.onMain fun d => Drive.enterError 11 0 { d.drbgFailed with holly.waiting := [] } := rfl

theorem drbgError_completes {s : State} (h : s.dev.live = true) : Completes .drbgError s fun d =>
    d.sec.state = 0xA2 ∧ d.keys.drbgError = true ∧ d.holly.waiting = [] := by
  obtain ⟨hstate, -, -, hkeys, hholly⟩ := Drive.enterError_entered 11 0 { s.dev.drbgFailed with holly.waiting := [] }
  refine completes_onMain (exec_drbgError s) h ?_
  dsimp only
  rw [hstate, hkeys, hholly]
  exact ⟨rfl, s.dev.drbgFailed_drbgError, rfl⟩

theorem continuousTestFail_completes {s : State} {t : Nat} (h : s.dev.live = true) (ht : t = 11 ∨ t = 12) :
    Completes (.continuousTestFail t) s fun d => d.sec.state = 0xA2 ∧ d.mod.devState = 0xD9 ∧ bit t d.sec.tests = false := by
  obtain ⟨hstate, hdev, htests, -⟩ := s.dev.enterError_entered t 0
  refine completes_onMain (f := fun d => if t = 11 ∨ t = 12 then d.enterError t 0 else d) rfl h ?_
  rw [if_pos ht]
  exact ⟨hstate, hdev, htests⟩

/-! ## The supplies and the pins -/

theorem supplyLow_completes {s : State} {mv : Nat} (h : s.dev.railsUp = true) (hlo : 10800 ≤ mv) (hhi : mv < 11200) :
    Completes (.supplyLow mv) s fun d => tgetD 0x024 0 d.rec_.counts = tgetD 0x024 0 s.dev.rec_.counts + 1 := by
  refine completes_onRails rfl h ?_
  rw [supplyLow, if_pos ⟨hlo, hhi⟩]
  exact Drive.event_counted 0x024 Sev.warning [mv] s.dev none (by decide)

theorem supplyHigh_completes {s : State} {mv : Nat} (h : s.dev.railsUp = true) (hmv : 13500 < mv) :
    Completes (.supplyHigh mv) s fun d => d.media.flushing = true := by
  obtain ⟨-, hidle, -⟩ := Drive.railsUp_iff.mp h
  refine completes_onRailsEnd (if_neg (Nat.not_le.mpr hmv)) h ?_
  rw [supplyHigh, if_neg (Nat.not_le.mpr hmv)]
  refine (Drive.beginFlush_begun ?_).1
  split <;> simp [hidle]

/-- PWRDIS is recorded, and the event leaves what the end of the shutdown goes by. -/
theorem pwrdisAssert_eq {how : ShutdownEnd} {d : Drive} : ∃ e : Drive, e.mod = d.mod ∧ e.media = d.media ∧ e.drained = d.drained ∧
    pwrdisAssert how d = if e.drained then e.shutDown else match how with
      | .complete => e.shutDown
      | .powerFail => { e with mod.devState := 0xD7 }.beginFlush
      | .mainReset => ({ e with mod.devState := 0xD7 }.event 0x029 Sev.warning []).mainReset := by
  refine ⟨if d.mod.inReset then d else d.event 0x028 Sev.notice [], ?_, ?_, ?_, rfl⟩
  · split <;> simp
  · split <;> simp
  · split <;> simp [Drive.drained]

theorem Drive.shutDown_off (d : Drive) : d.shutDown.mod.mainOn = false ∧ d.shutDown.mod.devState = 0xD0 := by
  unfold Drive.shutDown
  generalize (if d.drained then d else d.cleanShutdown) = e
  obtain ⟨hmain, hdev, -⟩ := e.railsOff_off
  exact ⟨hmain, hdev⟩

theorem pwrdisAssert_off {s : State} {how : ShutdownEnd} (h : s.dev.railsUp = true) (hend : s.dev.drained = true ∨ how = .complete) :
    Completes (.pwrdisAssert how) s fun d => d.mod.mainOn = false ∧ d.mod.devState = 0xD0 := by
  refine completes_onRailsEnd rfl h ?_
  obtain ⟨e, -, -, hdrained, heq⟩ := pwrdisAssert_eq (how := how) (d := s.dev)
  rw [heq]
  split
  · exact e.shutDown_off
  · rename_i hrun
    rw [hdrained] at hrun
    rw [hend.resolve_left hrun]
    exact e.shutDown_off

theorem pwrdisAssert_cut {s : State} (h : s.dev.railsUp = true) (hrun : s.dev.drained = false) :
    Completes (.pwrdisAssert .powerFail) s (fun d => d.media.flushing = true) ∧
      Completes (.pwrdisAssert .mainReset) s (fun d => d.mod.inReset = true ∧ d.mod.mainOn = true) := by
  obtain ⟨hmain, hidle, -⟩ := Drive.railsUp_iff.mp h
  constructor
  · refine completes_onRailsEnd rfl h ?_
    obtain ⟨e, -, hmedia, hdrained, heq⟩ := pwrdisAssert_eq (how := .powerFail) (d := s.dev)
    rw [heq, if_neg (by simp [hdrained, hrun])]
    exact (Drive.beginFlush_begun (by rw [hmedia, hidle])).1
  · refine completes_onRailsEnd rfl h ?_
    obtain ⟨e, hmod, hmedia, hdrained, heq⟩ := pwrdisAssert_eq (how := .mainReset) (d := s.dev)
    rw [heq, if_neg (by simp [hdrained, hrun])]
    obtain ⟨hreset, hrails⟩ := Drive.mainReset_done (d := Drive.event 0x029 Sev.warning [] { e with mod.devState := 0xD7 }) (by simp [hmedia, hidle])
    exact ⟨hreset, hrails.trans (by simp [hmod, hmain])⟩

theorem mrstN_completes {s : State} (h : s.dev.railsUp = true) (hr : s.dev.mod.inReset = false) :
    Completes .mrstN s fun d => d.mod.inReset = true ∧ d.mod.mainOn = true := by
  obtain ⟨hmain, hidle, -⟩ := Drive.railsUp_iff.mp h
  refine completes_onRails rfl h ?_
  rw [mrst, if_neg (by simp [hr])]
  obtain ⟨hreset, hrails⟩ := Drive.mainReset_done (d := s.dev.event 0x029 Sev.warning []) (by simp [hidle])
  exact ⟨hreset, hrails.trans (by simp [hmain])⟩

theorem locateExpiry_ended {d : Drive} (h : d.mod.locate = true) :
    (locateExpiry d).mod.locate = false ∧ d.mod.locateAt + 3600000000000 ≤ (locateExpiry d).now := by
  have hends : ∀ t, ({ d.advanceTo t with mod.locate := false } : Drive).mod.locate = false ∧
      t ≤ ({ d.advanceTo t with mod.locate := false } : Drive).now := fun t => by
    have hnow := Drive.advanceTo_now t d
    generalize d.advanceTo t = e at hnow ⊢
    exact ⟨rfl, hnow ▸ Nat.le_max_right ..⟩
  rw [locateExpiry, if_pos h]
  exact hends _

theorem locateExpiry_completes {s : State} (h : s.dev.railsUp = true) (hl : s.dev.mod.locate = true) :
    Completes .locateExpiry s fun d => d.mod.locate = false ∧ s.dev.mod.locateAt + 3600000000000 ≤ d.now :=
  completes_onRails rfl h (locateExpiry_ended hl)

@[simp] theorem Drive.optfWrite_leaves (x) (d : Drive) : (d.optfWrite x).mod = d.mod ∧ (d.optfWrite x).sec = d.sec := by
  unfold Drive.optfWrite
  split
  · exact ⟨rfl, rfl⟩
  · split <;> exact ⟨rfl, rfl⟩

/-- What a blown fuse continues leaves the supply and the tamper loop as they are. -/
theorem Drive.fuseCheck_leaves (d : Drive) : d.fuseCheck.mod.auxOn = d.mod.auxOn ∧ d.fuseCheck.sec.loopOpen = d.sec.loopOpen := by
  unfold Drive.fuseCheck Drive.zeroiseNext
  repeat' split
  all_goals simp

/-- The 3.3 V supply comes up while 12 V is down. -/
theorem auxPowerApplied_on {d : Drive} (isOpen : Bool) (hm : d.mod.mainOn = false) (ha : d.mod.auxOn = false) :
    (auxPowerApplied isOpen d).mod.auxOn = true := by
  have hloop : ∀ e : Drive, e.sec.loopOpen = 0 → (tamperLoopSample isOpen e).mod.auxOn = e.mod.auxOn := fun e he => by
    unfold tamperLoopSample
    cases isOpen <;> simp [he]
  unfold auxPowerApplied
  rw [if_neg (by simp [hm, ha])]
  split
  dsimp only
  rw [hloop _ (Drive.fuseCheck_leaves _).2, (Drive.fuseCheck_leaves _).1]

theorem sidebandPins_complete {s : State} (a : Nat) (e : Bool) (h : (s.dev.mod.mainOn || s.dev.mod.auxOn) = true) :
    Completes (.i3cDynamicAddress a e) s (fun d => d.mod.i3c = true ∧ d.mod.i3cAddr = a ∧
      (e = true → Out.sideband 0 0x0F1 [s.dev.ident.serial % 2 ^ 32] [] ∈ d.out)) ∧
    Completes .i3cRstdaa s (fun d => d.mod.i3c = false ∧ d.mod.i3cAddr = 0) := by
  refine ⟨completes_onSideband rfl h ?_, completes_onSideband rfl h ⟨rfl, rfl⟩⟩
  unfold i3cAddress
  cases e <;> simp [Drive.emit]

/-- Settles O40: each command's function, by what it leaves of the module, the flush and the recorder. -/
theorem failuresAndPins : Obligations.FailuresAndPins := by
  refine ⟨⟨fun s => powerFail_completes, fun s => flushComplete_completes, fun s => drbgError_completes, fun s t => continuousTestFail_completes⟩,
    fun s h => ⟨fun mv => supplyLow_completes h, fun mv => supplyHigh_completes h, fun ha => completes_onRails rfl h (by simp [auxLost, ha]),
      fun ha => completes_onRails rfl h (by simp [auxRestored, ha]), fun how => pwrdisAssert_off h, pwrdisAssert_cut h, mrstN_completes h,
      fun v hv => completes_onRails rfl h (by simp [slotIdChange, hv]), fun p => completes_onRails rfl h ?_, locateExpiry_completes h⟩,
    fun s a e => sidebandPins_complete a e,
    fun s hm => ⟨fun b ha => completes_next rfl (auxPowerApplied_on b hm ha), completes_next rfl ?_⟩⟩
  · unfold twinPrsntChange
    split <;> simp_all
  · simp [auxPowerRemoved, hm, Drive.sidebandOff]

end Sys2Proof.Machine
end
